-- ==== Sys2Proof/Word.lean ====
section
/-! DEFINITION. The words and unit numbers of Phory: the 8-byte value field of a dictionary entry (R348), bytes, the
numbers of physical cores, engines, step domains, ports and the other units (00_scope.md, R225), and the exact binary
fractions in which the galley checks are stated (R57 to R72). -/

namespace Sys2Proof

/-- The value field of a dictionary entry is 8 bytes (R348). -/
abbrev Word := BitVec 64

abbrev Byte := BitVec 8

abbrev Bytes := List Byte

/-- A physical core, P000 to P599. -/
abbrev PCore := Fin 600

/-- A logical core; a map names at most 576 (0x1301.01). -/
abbrev LCore := Fin 576

/-- An engine of a core: 0 to 3 ME0 to ME3, 4 VE0, 5 VE1, 6 MV (R225). -/
abbrev EngineNo := Fin 7

/-- A step domain, D0 to D7 (02_time_and_steps.md). -/
abbrev Dom := Fin 8

/-- A link port, LP0 to LP17. -/
abbrev PortNo := Fin 18

/-- A Proofreader core, PC0 to PC3. -/
abbrev PcNo := Fin 4

/-- A DRAM stack, 0 to 3; the partition of that number has the same cores (R154, 13_recovery_ladder.md). -/
abbrev StackNo := Fin 4

/-- A memory scan engine, MSE0 to MSE23. -/
abbrev MseNo := Fin 24

/-- A transfer channel, C0 to C15. -/
abbrev ChanNo := Fin 16

/-- A digest record, 0 to 2,047 (R173). -/
abbrev DigestNo := Fin 2048

/-- A logical rank of a job of several chips. -/
abbrev Rank := BitVec 32

/-- A 128-bit colophon, an element of the field of 04_proofing_and_commit.md. -/
abbrev Colophon := BitVec 128

/-- An exact binary fraction m · 2^e. The galley checks compare sums of products of such numbers (R59, R62, R69). -/
structure Dy where
  m : Int
  e : Int
  deriving DecidableEq, Repr, Inhabited

/-- A value an engine delivers: none is a NaN or an infinity (R65). -/
abbrev Num := Option Dy

end Sys2Proof
end

