-- ==== Sys2Proof/Syntax.lean ====
section
/-! DEFINITION. The commands of Phory: one constructor of Instr for each row of spec/opcode_table.json, in the table's
order, and the types of their operands. The table gives no operands and no bits; an operand is what the rule of the row
says arrives (a result, a report, a written value and the path it came on). -/

namespace Sys2Proof

/-- The four dictionary paths (R346). -/
inductive Path where
  | window | adpPcie | adpI3c | steward
  deriving DecidableEq, Repr

/-- The envelope of a steward-path frame (R357). -/
structure Env where
  job : Word
  epoch : BitVec 32
  src : Rank
  dst : Rank
  deriving DecidableEq, Repr

/-- What issued a work item: a step of a domain, a proof or revise of Lk at a step (R94), a specimen run (R131), a
cross-core run, or a regeneration run (R212). -/
inductive Origin where
  | step (d : Dom) (s : Nat)
  | proof (d : Dom) (k : LCore) (s : Nat)
  | specimen
  | cross (run : Nat)
  | regen
  deriving DecidableEq, Repr

/-- A work item of an engine: the item's number in order of issue on that engine, what issued it, and the layer and
operator of its command; the format and place that a mismatch record of it shows (R84). `attn`: the item is an attention row, which
the attention switch covers in place of the vector engines' (R86). `edges` is how many edges the engine's clock domain had since its last arrival (R36). -/
structure Work where
  core : PCore
  engine : EngineNo
  item : Nat
  origin : Origin
  layer : BitVec 16
  oper : BitVec 16
  format : Fin 11
  place : BitVec 32
  attn : Bool
  edges : Nat
  deriving DecidableEq, Repr

/-- The operand formats of a matrix tile, in the order of the mismatch record's format byte (R84). -/
inductive Format where
  | mxfp4 | int4 | ternaryMxfp4 | ternaryInt4 | mxfp6 | mxfp8E4M3 | mxfp8E5M2 | bf16
  deriving DecidableEq, Repr

/-- What the engine passes to its galley checker for one tile (R57): scale bytes per contraction block, the checksum row,
the absolute row, the B values column by column, the column sums, and the two rounders' outputs (R64). -/
structure Tile where
  fmt : Format
  k : Nat
  aScales : List (List Byte)
  bScales : List (List Byte)
  aRow : List Num
  aAbs : List Num
  b : List (List Num)
  z : List Num
  rounded : List (BitVec 32)
  roundedCopy : List (BitVec 32)
  deriving DecidableEq, Repr

/-- The integer operations of the residue check (R66). -/
inductive IntOp where
  | add | sub | mul | mulAdd | shiftLeft | shiftRight | compare
  deriving DecidableEq, Repr

/-- One vector operation as its checker sees it (R66 to R73). -/
inductive VecOp where
  /-- Integer operands, the full unwrapped result, the bounds of the operation's integer type, and whether the engine wrapped
  or saturated (R66). -/
  | residue (op : IntOp) (a b c result lo hi : Int) (wrapped : Bool)
  /-- A reduction's result and the duplicated tree's, bit for bit (R67). -/
  | reduction (engine tree : List Word)
  /-- An exponential or reciprocal square root and the checker's own (R67). -/
  | unit (engine checker : Num)
  /-- Element-wise floating point, not checked by the galley (R67). -/
  | elementwise
  /-- One block of keys of an attention row: its maximum over unmasked keys (none: all masked), the unmasked keys, and
  the block's sums of exp(s − m), of exp·v over the head dimension and of exp·|v|. -/
  | attnBlock (row block : Nat) (max : Option Dy) (unmasked : Nat) (sumExp sumV sumAbs : Dy)
  /-- The end of a split partial of an attention row, which another engine combines: its maximum m_p (none: −∞) and l_p (R70,
  R73). -/
  | attnPartEnd (row : Nat) (max : Option Dy) (l : Num)
  /-- A split partial in the final combine of a row: its number, its maximum, its unmasked keys, and the checker's shadows of
  it (R70, R73). -/
  | attnCombine (row part : Nat) (max : Option Dy) (unmasked : Nat) (l sigma tau : Dy)
  /-- The end of an attention row: l, the sum of o, the bits of o, the v row of a single unmasked key and the empty
  flag (R69 to R73). -/
  | attnRowEnd (row : Nat) (l sumO : Num) (o v : List (BitVec 32)) (empty : Bool)
  deriving DecidableEq, Repr

/-- A transfer at its destination (R74, R75): the source's place with the words read there, or with the source residue carried
from another chip; the words written; the number of copies. -/
inductive TransferSource where
  | here (core : PCore) (engine : EngineNo) (words : List (BitVec 32))
  | remote (rank : Rank) (core : PCore) (engine : EngineNo) (residue : Nat)
  deriving DecidableEq, Repr

structure Transfer where
  source : TransferSource
  words : List (BitVec 32)
  copies : Nat
  deriving DecidableEq, Repr

/-- An output unit (R100): kind, destination, offset in 64-byte units, byte mask, data; the command that issued it, and the
work item of that command (R220); whether it carries the poison mark (R163). -/
structure OutUnit where
  kind : Fin 5
  dest : BitVec 24
  offset : BitVec 36
  mask : Word
  data : Bytes
  cmd : Nat
  layer : BitVec 16
  oper : BitVec 16
  engine : EngineNo
  item : Nat
  place : BitVec 32
  marked : Bool
  deriving DecidableEq, Repr

/-- What reaches a probe from its core (R296, R78, R100, R118, R301). -/
inductive ProbeEv where
  /-- A core event with its code and argument (R296). -/
  | ring (code : Byte) (arg : BitVec 16)
  /-- The core issues a command in step s of d: its index within the step, its layer and operator (R219). -/
  | command (d : Dom) (s : Nat) (cmd : Nat) (layer oper : BitVec 16)
  /-- An engine issues a work item. -/
  | issued (w : Work)
  /-- A work item completes: the probe arms its check timeout (R78). -/
  | completed (w : Work)
  /-- The core writes or sends an output unit in step s of d. -/
  | output (d : Dom) (s : Nat) (u : OutUnit)
  /-- The core received from another chip in step s of d (R118). -/
  | received (d : Dom) (s : Nat)
  /-- The core arrives at the step barrier that ends step s of d (R43). -/
  | barrier (d : Dom) (s : Nat)
  /-- Cycles of an engine since the last such event: busy, idle, and stalled by reason 0 to 7 (R301). -/
  | cycles (busy idle : Nat) (stalled : List Nat)
  /-- The core reports drained (R18). -/
  | drained
  deriving DecidableEq, Repr

/-- Where a firmware image to be verified stands (R30, R244). -/
inductive ImageSource where
  | bootFlash (image : Bytes)
  | imageStore
  | staged
  deriving DecidableEq, Repr

/-- What a chip reports to the steward as a failure (R125). -/
inductive FailureKind where
  /-- A confirmed or unresolved proof failure, with the ranks its cone reached and their first tainted steps, and the step
  from which every rank is tainted when there were many (R119). -/
  | proofFailure (ranks : List (Rank × Nat)) (many : Option Nat)
  /-- Ranks that a taint reached (R120). -/
  | taint (ranks : List (Rank × Nat)) (many : Option Nat)
  /-- A poison consumption in a step (R165). -/
  | poison
  /-- A context reset in mode 1 or a host's rollback order (R319, R167). -/
  | rollback
  /-- The rank has ended its context, or is lost (R319, R322). -/
  | rankEnded
  /-- A fence that starts a sparing (R190). -/
  | sparing
  /-- A galley mismatch in a step (R114). -/
  | galley (s : Nat)
  /-- The narrowing's priority proof on this rank: failed or not (R221). -/
  | narrowingProof (failed : Bool)
  deriving DecidableEq, Repr

/-- An action of a job on a KV page (R110): append tokens from a position, or free the page. -/
inductive KvAction where
  | append (position count : Nat)
  | free
  deriving DecidableEq, Repr

/-- Who read the word in an uncorrectable error (06, uncorrectable-error record). -/
inductive ReadBy where
  | ownCore | otherCore | otherChip | scan (m : MseNo) | readModifyWrite | kvFill
  deriving DecidableEq, Repr

/-- One sample of the supervisors (R147): the eye openings of a port's lanes, or a slice's shift and margin. -/
inductive Sample where
  | link (p : PortNo) (eyes : List (BitVec 16 × BitVec 16)) (adaptations : BitVec 32)
  | dram (c : PCore) (shift margin : BitVec 16)
  deriving DecidableEq, Repr

/-- A unit under self-test (R271). `central` counts proof unit 0, specimen unit 1, freeze controller 2, link supervisor 3,
memory supervisor 4, self-test controller 5, as the bits of 0x2600.0E from 42. -/
inductive TestUnit where
  | core (c : PCore)
  | slice (c : PCore)
  | stack (n : StackNo)
  | central (i : Fin 6)
  | port (p : PortNo)
  | scanEngine (m : MseNo)
  deriving DecidableEq, Repr

/-- What a self-test gives: the signature samples of every 1,024 patterns and the final one (R273), failing cells of the
core's SRAMs (array, word, bit) (R274), failing cells of a slice (physical location, bit) (R275), whether the verify pass
is clean, and whether a stack responds without a base-die fault (R278). -/
structure TestResult where
  samples : List (BitVec 128)
  final : BitVec 128
  sram : List (Byte × BitVec 24 × BitVec 16)
  cells : List (BitVec 25 × BitVec 16)
  verifyClean : Bool
  responds : Bool
  deriving DecidableEq, Repr

/-- An identity answer (R256). -/
structure Identity where
  coords : Word
  port : Byte
  revision : Byte
  kind : Byte
  deriving DecidableEq, Repr

/-- The fuse array as stage 3 reads it (R252): units removed by fuse or by a manufacturing defect, and
the spare rows (by bank) and spare column groups of each slice that the map written at manufacture takes (R161). -/
structure FuseMap where
  cores : List PCore
  ports : List PortNo
  stackNos : List StackNo
  spareRows : List (PCore × Fin 32)
  spareColumns : List PCore
  deriving DecidableEq, Repr

/-- An operator colophon of one command (R219). -/
structure OpColophon where
  value : Colophon
  cmd : Nat
  layer : BitVec 16
  oper : BitVec 16
  time : Word
  deriving DecidableEq, Repr

/-- What the steward fetched for a narrowing (R220): core colophons of the step, or the operator colophons of a core. -/
inductive NarrowFetch where
  | cores (l : List (LCore × Colophon))
  | operators (k : LCore) (l : List OpColophon)
  deriving DecidableEq, Repr

/-- The digest of one work item of the diverging command (R220): kind 1 tile, 2 vector operation, 3 transfer. -/
structure WorkDigest where
  kind : Byte
  engine : EngineNo
  place : BitVec 32
  digest : Word
  deriving DecidableEq, Repr

/-- The release a wait of an engine ended with (R298). -/
structure SyncWait where
  core : LCore
  engine : EngineNo
  start : Word
  cycles : Nat
  kind : Byte
  releaser : BitVec 32
  releaserEngine : Byte
  object : BitVec 16
  layer : BitVec 16
  oper : BitVec 16
  deriving DecidableEq, Repr

/-- The addressing and flags of an ADP request (15_object_dictionary.md, ADP message), with the envelope on the steward
path. `eid` is the MCTP source endpoint, `msg` the MCTP message tag (R354), `tag` the transaction tag. -/
structure AdpHead where
  path : Path
  eid : Byte
  msg : Fin 8
  tag : BitVec 16
  index : BitVec 16
  sub : Byte
  flags : Byte
  env : Option Env
  deriving DecidableEq, Repr

/-- What a write to an entry carries: its value, or bytes from an offset of the entry on, which only a channel's data area
takes (R353, R359). -/
inductive Written where
  | value (v : Word)
  | data (offset : Nat) (bytes : Bytes)
  deriving DecidableEq, Repr

/-- One item of a GROUP_WRITE. -/
structure GroupItem where
  index : BitVec 16
  sub : Byte
  value : Word
  deriving DecidableEq, Repr

/-- An MCTP binding (R354). -/
inductive Binding where
  | pcie | i3c
  deriving DecidableEq, Repr

/-- A reset of the recovery ladder in progress (13_recovery_ladder.md), as its timeout names it. -/
inductive ResetId where
  | context (d : Dom)
  | engine (instance_ : Nat)
  | partition (n : StackNo)
  | chip
  deriving DecidableEq, Repr

/-- The commands of the block, in the order of spec/opcode_table.json; each is one whole, indivisible step
(95_what_each_step_holds.md). -/
inductive Instr where
  /-- PC_HEARTBEAT (R14). Every 50 µs each running Proofreader core sends a heartbeat to the other three. -/
  | pcHeartbeat (pc : PcNo)
  /-- PC_SILENT (R14). A Proofreader core misses four consecutive heartbeats; the lowest-numbered running core resets it and takes over its duties. -/
  | pcSilent (pc : PcNo)
  /-- PC_READY (R16). A reset Proofreader core finishes reloading from the image store and reports ready. -/
  | pcReady (pc : PcNo)
  /-- PROBE_EVENT (R296). A core event reaches its probe and is stamped and written to the event ring, or counted as an overflow. -/
  | probeEvent (core : PCore) (unit : Fin 8) (edges : Nat) (ev : ProbeEv)
  /-- TILE_CHECK (R57). A matrix tile's column sums reach the galley checker and the tile passes or mismatches in exact or tolerance mode. -/
  | tileCheck (w : Work) (t : Tile)
  /-- VECTOR_OP_CHECK (R66). A vector operation's result is checked by residue, duplicated tree or unit comparison. -/
  | vectorOpCheck (w : Work) (v : VecOp)
  /-- RESCALE_RECORD (R68). The engine writes a rescale record, which the checker verifies against its own maximum tree and exponential. -/
  | rescaleRecord (w : Work) (row block : Nat) (mBefore mAfter : Dy) (alpha : BitVec 32)
  /-- TRANSFER_CHECK (R74). A movement transfer's destination residue is compared with the source residue. -/
  | transferCheck (w : Work) (t : Transfer)
  /-- CHECK_TIMEOUT (R78). No galley result arrives within the check timeout, and the work counts as a mismatch of kind 13. -/
  | checkTimeout (w : Work)
  /-- SUSPECT_SWEEP (R80). Once per second expired suspect entries are removed, and engines with no entries left return to clear. -/
  | suspectSweep
  /-- STEP_BOUNDARY (R43). A step barrier completes; the step counter increments, the boundary is stamped and the gates close for the new step. -/
  | stepBoundary (d : Dom) (cycles : Nat) (disturbed : BitVec 13)
  /-- PROOF_RESULT (R106). A proof core's colophon is compared with the proofed core's colophon; a match passes, otherwise a revise is issued. -/
  | proofResult (d : Dom) (k : LCore) (s : Nat) (rank : Option Rank) (colophon : Colophon) (units : Nat)
  /-- PROOF_TIMEOUT (R106). A proof timeout wins against its result; the proof is lost and the core receives a priority proof.
  `proof` is its step and its number among the proofs of that core and step. -/
  | proofTimeout (d : Dom) (k : LCore) (proof : Nat × Nat)
  /-- PROOF_NOT_PROOFABLE (R93). A replay overflows its scratch or its output count and ends as not proofable. -/
  | proofNotProofable (d : Dom) (k : LCore) (s : Nat) (rank : Option Rank)
  /-- REVISE_RESULT (R115). A revise ends and decides whether the proof core, the proofed core or neither was wrong. -/
  | reviseResult (d : Dom) (k : LCore) (s : Nat) (result : Option (Colophon × Nat))
  /-- LEDGER_WALK_DONE (R113). A single-chip rollback's ledger walk ends, and Phory arms the restart. -/
  | ledgerWalkDone (d : Dom)
  /-- REARM_ON_CAUSE_GONE (R386). A domain whose own arm was refused is armed again once time is locked or the start objects are written. -/
  | rearmOnCauseGone (d : Dom)
  /-- DOMAIN_ACTIVATE (R45). A write of 1 to domain_control activates a step domain. -/
  | domainActivate (path : Path) (d : Dom)
  /-- DOMAIN_CLOSE (R45). A write of 2 to domain_control ends the domain's steps, runs closing proofs and deactivates it. -/
  | domainClose (path : Path) (d : Dom)
  /-- START_ARM (R47). A write of T to start_time arms the domains of the start mask, or is refused. -/
  | startArm (path : Path) (t : Word)
  /-- START_TIME_REACHED (R49). The probes' global time reaches an armed T and the cores of the armed domains start the step. -/
  | startTimeReached (t : Word)
  /-- START_CANCEL (R51). A write of 1 to cancel contends with each unfired arm of the masked domains. -/
  | startCancel (path : Path)
  /-- STEWARD_HEARTBEAT_SEND (R29). At each heartbeat period the steward sends a heartbeat to each worker. -/
  | stewardHeartbeatSend
  /-- STEWARD_HEARTBEAT (R29). A worker receives a steward heartbeat and rearms its steward-loss timeout. -/
  | stewardHeartbeat (env : Env)
  /-- STEWARD_TIMEOUT (R29). A worker's steward-loss timeout wins and the worker declares the steward lost. -/
  | stewardTimeout
  /-- IMAGE_VERIFIED (R30). Verification of a boot or pushed firmware image completes with acceptance or rejection. -/
  | imageVerified (source : ImageSource)
  /-- ACTIVATE_WHEN_IDLE (R32). A write of 1 to activate starts activation of the staged image when no job is running. -/
  | activateWhenIdle (path : Path)
  /-- DRAIN_AND_ACTIVATE (R32). A write of 2 to activate drains every job to its next boundary and then activates the staged image. -/
  | drainAndActivate (path : Path)
  /-- IMAGE_ACTIVATION_DONE (R32). The Proofreader cores have restarted from the new image and activation completes. -/
  | imageActivationDone
  /-- LOAD_AT_PULSE (R37). A write of load_at_pulse is held for the next time pulse, or loads at its grant in free run. -/
  | loadAtPulse (path : Path) (value : Word)
  /-- TPULSE_EDGE (R379). A PHY_TPULSE rising edge performs a pending load, or is compared with the whole second and corrected. -/
  | tpulseEdge (within : Fin 7)
  /-- TPULSE_WATCH_TIMEOUT (R379). No accepted pulse edge arrives for 3 s in rack reference mode, and the chip enters holdover. -/
  | tpulseWatchTimeout
  /-- BEACON_PERIOD (R38). At each beacon period a chip starts a beacon exchange with the time root. -/
  | beaconPeriod
  /-- BEACON_EXCHANGE (R38). A beacon exchange completes, and offset and rate are filtered and corrected. -/
  | beaconExchange (t1 t2 t3 t4 : Word) (residence : Nat)
  /-- BEACON_LOSS_HOLDOVER (R40). No beacon exchange completes for the loss-limit number of periods, and the chip enters holdover. -/
  | beaconLossHoldover
  /-- REFCLK_LOSS (R41). No reference edge arrives for 100 ns, and the changeover to the backup oscillator begins. -/
  | refclkLoss
  /-- BACKUP_CHANGEOVER (R41). The tick domain completes its changeover to the backup oscillator. -/
  | backupChangeover
  /-- REFCLK_RETURN (R41). The reference has been present for 10 ms and the time base returns to it. -/
  | refclkReturn
  /-- CLOCK_RESUMED (R55). A stopped host clock domain resumes, and its crossing writes a resumption record. -/
  | clockResumed (core : PCore) (lastEdge : Word) (reason : BitVec 16)
  /-- WORKER_STEP_REPORT (R125). The steward receives a worker's galley clear, proven step and chip colophon for a step. -/
  | workerStepReport (env : Env) (d : Dom) (s : Nat) (proven : Option Nat) (colophon : Colophon)
  /-- JOB_GALLEY_CLEAR (R102). A chip receives the job galley clear and the job proven step from the steward. -/
  | jobGalleyClear (env : Env) (d : Dom) (s : Nat) (proven : Option Nat)
  /-- FAILURE_REPORT (R125). The steward receives a chip's failure, taint or poison report and orders rollback or hold. -/
  | failureReport (env : Env) (d : Dom) (kind : FailureKind)
  /-- REMOTE_TAINT (R120). A chip receives a taint from the steward, extends its cone and writes its own suspect report. -/
  | remoteTaint (env : Env) (d : Dom) (s : Nat)
  /-- STEWARD_ROLLBACK_ORDER (R113). A chip receives the steward's job rollback order carrying the new incarnation. -/
  | stewardRollbackOrder (env : Env) (d : Dom) (target : Nat) (incarnation : BitVec 4)
  /-- START_STATUS_REPORT (R53). The steward receives a worker's arm status for a start in step. -/
  | startStatusReport (env : Env) (status : Byte)
  /-- START_REPORT_DEADLINE (R53). T arrives with a worker report missing, so the steward treats the start as failed. -/
  | startReportDeadline
  /-- STEP_DISCARD_ORDER (R53). A chip receives the steward's order to discard a failed start and rolls back the step. -/
  | stepDiscardOrder (env : Env) (d : Dom)
  /-- CROSS_CHIP_PROOF_REQUEST (R126). The steward receives a request for a proof core on another chip and places the proof. -/
  | crossChipProofRequest (env : Env) (d : Dom) (k : LCore) (s : Nat) (index : Nat)
  /-- LINK_PORT_FAILURE (R123). A link supervisor reports a failed port, and the chip reports the abandoned step to the steward. -/
  | linkPortFailure (p : PortNo) (packets : List (Dom × Nat))
  /-- LINK_LOSS_REPORT (R123). The steward receives a link-loss report and rolls the job back to before the abandoned step. -/
  | linkLossReport (env : Env) (d : Dom) (abandoned : Nat) (p : PortNo)
  /-- ROUTE_GENERATION_WRITE (R264). The management controller writes the new route generation, releasing a waiting link-loss restart. -/
  | routeGenerationWrite (path : Path) (value : Word)
  /-- SPARING_COMPLETE_REPORT (R190). The steward receives a chip's report of a completed sparing and restarts the job in step. -/
  | sparingCompleteReport (env : Env) (d : Dom)
  /-- RANK_REPLACED (R203). A write to rank_replaced on the steward orders a job rollback and restart after a chip replacement. -/
  | rankReplaced (path : Path) (rank : Word)
  /-- FAULT_FRAME (R239). A steward receives a fault frame and treats the sending chip's rank as lost. -/
  | faultFrame (env : Env)
  /-- KV_PAGE_WRITE (R110). A write into a KV page below its committed length is refused and raises committed page overwrite. -/
  | kvPageWrite (d : Dom) (k : LCore) (s : Nat) (page : Word) (a : KvAction)
  /-- KV_SPILL (R178). A KV page spill request is deferred until commit, then spilled with its CRC tag. -/
  | kvSpill (d : Dom) (core : PCore) (page : Word) (data : Bytes) (tokens : Nat) (marked : Bool)
  /-- KV_FILL (R180). A KV page fill's last word arrives and its tag is checked, with retries or poisoning on failure. -/
  | kvFill (d : Dom) (core : PCore) (offset : BitVec 30) (page : Word) (units tokens : Nat) (data tag : Bytes)
  /-- SPECIMEN_INTERVAL (R130). The specimen interval ends and a specimen run is issued on each eligible core. -/
  | specimenInterval
  /-- SPECIMEN_RUN_DONE (R132). A specimen run completes, its digests are compared, and it is repeated, passed or failed.
  `results`: digest and self-check of each engine. -/
  | specimenRunDone (core : PCore) (run : Nat) (results : List Word × List Bool)
  /-- SPECIMEN_TIMEOUT (R133). A specimen run's timeout wins, and the run counts as failed. -/
  | specimenTimeout (core : PCore) (unfinished : List EngineNo)
  /-- SPECIMEN_RETEST (R132). 60 s after a specimen transient, a third specimen run is issued. -/
  | specimenRetest (core : PCore)
  /-- CROSSCORE_INTERVAL (R135). The cross-core interval ends and eligible cores are paired for cross-core runs. -/
  | crosscoreInterval
  /-- CROSSCORE_RUN_DONE (R136). A cross-core run completes and the digests are compared engine by engine, with a third core on difference. -/
  | crosscoreRunDone (core : PCore) (run : Nat) (digests : List Word)
  /-- CROSSCORE_TIMEOUT (R137). A cross-core run's timeout wins, and the late core is charged as odd core. -/
  | crosscoreTimeout (core : PCore) (run : Nat)
  /-- MARGIN_PROBE_START (R138). An eligible core becomes free and Phory starts margin probing it. -/
  | marginProbeStart (core : PCore)
  /-- REGULATOR_SETTLED (R140). A core regulator reports settled, and the dwell starts or the hand-over proceeds. -/
  | regulatorSettled (core : PCore)
  /-- SETTLE_TIMEOUT (R140). The settle timeout wins, and the probe ends with a regulator timeout. -/
  | settleTimeout (core : PCore)
  /-- DWELL_DONE (R138). A dwell of proofs or runs at one supply ends, and the probe steps down, re-tests or records the map entry. -/
  | dwellDone (core : PCore) (temperature clock : BitVec 16)
  /-- MAP_ENTRY_AGED (R142). A guard-band map entry passes its maximum age and becomes stale. -/
  | mapEntryAged (core : PCore)
  /-- REPROBE_INTERVAL (R142). The re-probe interval ends and every core that can be probed is probed again. -/
  | reprobeInterval
  /-- TRIM_WRITE (R146). The host writes a core's trim, applied under R144 when auto trim is off. -/
  | trimWrite (path : Path) (core : PCore) (value : Word)
  /-- SUPERVISOR_SAMPLE (R147). At each sample period the supervisors read link eyes and DRAM margins and compare them with thresholds. -/
  | supervisorSample (samples : List Sample)
  /-- BUDGET_WINDOW_END (R149). A budget window ends, the check share is reported, and screening is deferred if over budget. -/
  | budgetWindowEnd (jobCycles allCycles proofTime screenTime : Nat)
  /-- CORRECTED_ERROR_REPORT (R155). A memory controller reports a corrected read, which is counted and queued. -/
  | correctedErrorReport (core : PCore) (word : BitVec 25) (symbol : Fin 36) (scan : Option MseNo) (newer : Bool)
  /-- CE_REPORT_DEQUEUE (R156). A corrected-error report is taken from the queue and updates the table, repair candidates and rate. -/
  | ceReportDequeue (core : PCore)
  /-- UNCORRECTABLE_ERROR (R162). A read finds an uncorrectable error; the word is poisoned and the error is recorded. -/
  | uncorrectableError (core : PCore) (word : BitVec 25) (by_ : ReadBy) (requester : Option PCore)
  /-- POISON_CONSUMED (R165). Work consumes poisoned data, and its domain is stopped with gates closed and barrier held. -/
  | poisonConsumed (w : Work) (cause : Fin 5) (source : Word)
  /-- POISON_END_JOB (R167). A write of 1 to poison_action ends the stopped domain's job. -/
  | poisonEndJob (path : Path) (d : Dom)
  /-- POISON_ROLLBACK_RESUME (R167). A write of 2 to poison_action rolls the stopped domain back and resumes it. -/
  | poisonRollbackResume (path : Path) (d : Dom)
  /-- HARDWARE_FILL_DONE (R160). A slice's hardware fill completes and the probe releases the core. -/
  | hardwareFillDone (core : PCore)
  /-- SCAN_START (R171). A write of 1 to scan_control starts a scan pass from the saved position and CRC. -/
  | scanStart (path : Path) (m : MseNo)
  /-- SCAN_PAUSE (R171). A write of 2 to scan_control pauses the pass at the next 64-byte boundary. -/
  | scanPause (path : Path) (m : MseNo)
  /-- SCAN_RESUME (R171). A write of 3 to scan_control resumes a paused pass. -/
  | scanResume (path : Path) (m : MseNo)
  /-- SCAN_ABORT (R171). A write of 4 to scan_control aborts a pass. -/
  | scanAbort (path : Path) (m : MseNo)
  /-- SCAN_PASS_DONE (R169). A scan pass completes, and a digest record is updated and compared or confirmed. -/
  | scanPassDone (m : MseNo) (crc : Word) (poison : Bool)
  /-- DIGEST_PERIOD (R174). A digest record's period arrives and a pass of its region is scheduled. -/
  | digestPeriod (r : DigestNo)
  /-- DIGEST_STALE (R175). A record completes no pass within stale_factor periods, and digest stale is raised. -/
  | digestStale (r : DigestNo)
  /-- DIGEST_RECORD_WRITE (R173). A digest record is written; a pass in progress is abandoned and the record applies under R46. -/
  | digestRecordWrite (path : Path) (r : DigestNo) (content : Bytes)
  /-- FENCE_ORDER (R199). The host orders a fence of a physical core, optionally retiring it. -/
  | fenceOrder (path : Path) (value : Word)
  /-- UNFENCE (R199). The host unfences a fenced core, which returns to service after a passing specimen run. -/
  | unfence (path : Path) (value : Word)
  /-- REFILL_ENTRY_DONE (R191). A refill plan entry completes and the sparing goes on to the next entry or the restart. -/
  | refillEntryDone (d : Dom) (bytes : Nat)
  /-- REFILL_TIMEOUT (R193). A refill entry's timeout wins, and the refill fails. -/
  | refillTimeout (d : Dom)
  /-- HOST_REFILL_DONE (R193). The host writes host_refill_done, and the waiting sparing continues. -/
  | hostRefillDone (path : Path) (value : Word)
  /-- HOST_REFILL_TIMEOUT (R193). The host refill timeout wins, and the refill fails. -/
  | hostRefillTimeout (d : Dom)
  /-- SPARING_REPEAT_REFILL (R194). A sparing_action of 1 repeats a failed refill from the first entry after a new fill. -/
  | sparingRepeatRefill (path : Path) (d : Dom)
  /-- SPARING_END_JOB (R194). A sparing_action of 2 ends the job whose refill failed. -/
  | sparingEndJob (path : Path) (d : Dom)
  /-- ATTIC_RELEASE (R201). A write of an entry index to attic_release marks that Attic entry released. -/
  | atticRelease (path : Path) (value : Word)
  /-- REGEN_REQUEST (R212). The host requests a regeneration run of a logical core's step. -/
  | regenRequest (path : Path) (value : Word)
  /-- REGEN_RUN_DONE (R214). A regeneration run finishes and its record shows where its outputs lie. -/
  | regenRunDone (core : PCore) (units : List OutUnit) (exceeded : Bool)
  /-- REGEN_TIMEOUT (R213). A regeneration run's timeout wins, and the run reads lost. -/
  | regenTimeout
  /-- REGEN_RELEASE (R214). A write of 1 to regen_release frees the regeneration scratch and proof place. -/
  | regenRelease (path : Path)
  /-- COMPARE_TIMEOUT (R218). The lock-step compare timeout wins, and the mirror is lost to the pair. -/
  | compareTimeout (s : Nat)
  /-- NARROWING_FETCH_RESPONSE (R220). Core or operator colophons fetched from both chips arrive at the steward, which finds the first divergence. -/
  | narrowingFetchResponse (env : Env) (fetch : NarrowFetch)
  /-- WORK_DIGEST_REPORT (R220). Work digests of the replayed diverging command arrive and are compared to name the first work item. -/
  | workDigestReport (env : Env) (digests : List WorkDigest)
  /-- DIVERGENCE_RESTART_PAIR (R221). A divergence_action of 1 restarts an unattributed pair from the committed step. -/
  | divergenceRestartPair (path : Path)
  /-- DIVERGENCE_END_JOB (R221). A divergence_action of 2 ends the lock-step job. -/
  | divergenceEndJob (path : Path)
  /-- STICKY_CLEAR (R230). A write of 1 bits to a sticky word clears those sticky bits. -/
  | stickyClear (path : Path) (source : Byte) (word : Fin 66) (value : Word)
  /-- MASK_WRITE (R228). A mask word is written; unmasking an instance whose sticky bit is set signals it once. -/
  | maskWrite (path : Path) (source : Byte) (word : Fin 66) (value : Word)
  /-- FORCE_WRITE (R229). A write to a force word raises the source on each named instance in turn, or is refused whole. -/
  | forceWrite (path : Path) (source : Byte) (word : Fin 66) (value : Word)
  /-- HANDLING_START (R232). PC0 takes a capture from the capture queue and starts handling, arming the 50 µs handling timeout. -/
  | handlingStart
  /-- ERROR_RECORD_COMMIT (R232). The error record is committed to the Cellar and the handling ends. -/
  | errorRecordCommit (bad : List Nat)
  /-- HANDLING_TIMEOUT (R232). The handling timeout wins; handling ends and the record is committed later with its late flag. -/
  | handlingTimeout
  /-- ERR_PULSE_END (R237). A PHY_ERR_N pulse ends, and the pin is released or the hold is applied. -/
  | errPulseEnd
  /-- HOLD_RELEASE (R237). A write of 1 to hold_release releases an applied PHY_ERR_N hold. -/
  | holdRelease (path : Path)
  /-- MSIX_VECTOR_UNMASK (R235). The host unmasks an MSI-X vector, and its pending message is sent. -/
  | msixVectorUnmask (vector : Fin 2048)
  /-- IBI_BUS_FREE (R236). At an I3C bus free condition, Phory sends or retries its outstanding in-band interrupt. -/
  | ibiBusFree (acknowledged : Bool)
  /-- POWER_CYCLE_DELAY (R240). The power cycle delay runs out in the fault state, and PHY_PWRCYC_N is asserted. -/
  | powerCycleDelay
  /-- POWER_CYCLE_NOW (R240). A write of 1 to power_cycle_now requests the power cycle at once. -/
  | powerCycleNow (path : Path)
  /-- POWER_UP (R382). The always-on and I/O supplies enter their range. -/
  | powerUp
  /-- PORST_RELEASE (R242). PHY_PORST_N is released and a cold start begins with stage 1. -/
  | porstRelease (reference : Bool)
  /-- PORST_ASSERT (R381). PHY_PORST_N is held low for 10 µs or more and Phory is re-initialised, except the class F sticky bits. -/
  | porstAssert (ns : Nat)
  /-- CELLAR_CONFIG_READ_DONE (R250). Stage 1 completes its Cellar opening and configuration read, or fails into the safe state. -/
  | cellarConfigReadDone (readable : Bool) (failedPcs : List PcNo)
  /-- FUSE_READ_DONE (R252). Stage 3 reads the fuses and applies derivation, holes, logical numbering, clock cap and power limit. -/
  | fuseReadDone (fuses : Option FuseMap)
  /-- FILL_TIMEOUT (R253). A slice does not report filled within the stage 4 timeout, and the stage fails. -/
  | fillTimeout (core : PCore)
  /-- MEMORY_TRAINING_DONE (R254). A DRAM stack's training state machine reports its result. -/
  | memoryTrainingDone (n : StackNo) (trained : Bool)
  /-- MEMORY_TRAINING_TIMEOUT (R254). A stack does not train within its timeout; it is trained once more or fails the stage. -/
  | memoryTrainingTimeout (n : StackNo)
  /-- LINK_TRAINING_DONE (R255). A link port's training completes, trained or failed. -/
  | linkTrainingDone (p : PortNo) (lanes : Byte) (failures : BitVec 32) (reach : Byte) (time_us : BitVec 32)
  /-- LINK_TRAINING_TIMEOUT (R255). A port's training timeout wins, and the port reads not trained. -/
  | linkTrainingTimeout (p : PortNo)
  /-- SELFTEST_DONE (R278). A logic or memory self-test of a unit completes and its outcome is applied. -/
  | selftestDone (u : TestUnit) (r : TestResult)
  /-- SPECIMEN_STAGE_TIMEOUT (R258). The stage 7 timeout expires and the stage ends. -/
  | specimenStageTimeout
  /-- IDENTITY_REQUEST (R256). An identity request on a trained port is answered by the link supervisor. -/
  | identityRequest (p : PortNo)
  /-- IDENTITY_ANSWER (R260). A neighbour's identity answer arrives and the cabling tests let in, hold, quarantine or refuse the port. -/
  | identityAnswer (p : PortNo) (answer : Identity)
  /-- IDENTITY_TIMEOUT (R262). No identity answer arrives within the timeout, and the port is held with no answer. -/
  | identityTimeout (p : PortNo)
  /-- IDENTITY_RECHECK_TIMER (R262). Once per second a port held with no answer is checked again. -/
  | identityRecheckTimer
  /-- TIME_LOCK_TIMEOUT (R263). Time status 2 is not reached within the stage 8 wait, and the stage passes with exceptions. -/
  | timeLockTimeout
  /-- BRINGUP_CONTINUE (R266). A write of 1 to continue resumes a halted bring-up at the next stage. -/
  | bringupContinue (path : Path)
  /-- RECHECK (R267). A write of 1 to recheck runs the cabling tests again on every trained port. -/
  | recheck (path : Path)
  /-- PLAN_ACCEPT (R262). A write of 1 to plan_accept copies the neighbour seen into the plan and admits the port. -/
  | planAccept (path : Path) (p : PortNo)
  /-- SELFTEST_REQUEST (R280). The host requests an in-service self-test of a core and its slice. -/
  | selftestRequest (path : Path) (value : Word)
  /-- SELFTEST_TIMEOUT (R281). A self-test timeout wins, and the outcome counts as a logic BIST failure. -/
  | selftestTimeout (u : TestUnit)
  /-- SELFTEST_ABORT (R281). A write to selftest_abort aborts a running test. -/
  | selftestAbort (path : Path) (value : Word)
  /-- STACK_REQUEST (R282). A write to stack_request runs slice memory BIST on every slice of one stack. -/
  | stackRequest (path : Path) (value : Word)
  /-- KEY_CLEAR (R284). A write of 1 to key_clear starts zeroising the volatile key stores in FIELD_LOCKED. -/
  | keyClear (path : Path)
  /-- KEY_CLEAR_DONE (R284). Key clearing ends; scan read-out opens if every store reads zero. -/
  | keyClearDone (allZero : Bool)
  /-- FREEZE_NOW (R286). A write of 1 to freeze_now freezes the scope at once. -/
  | freezeNow (path : Path)
  /-- TIMED_FREEZE (R286). Global time reaches the freeze_at instant and the scope freezes. -/
  | timedFreeze
  /-- FREEZE_PIN_LOW (R377). PHY_FREEZE_N is held low by another party for 20 ns and triggers a freeze. -/
  | freezePinLow (ns : Nat)
  /-- FREEZE_FRAME (R289). A freeze frame or freeze request from the steward path arrives and freezes the chip or is spread. -/
  | freezeFrame (env : Env) (at_ : Option Word)
  /-- RELEASE_NOW (R292). A write of 1 to release_now releases a freeze at once. -/
  | releaseNow (path : Path)
  /-- TIMED_RELEASE (R292). Global time reaches the release_at instant and the freeze is released. -/
  | timedRelease
  /-- FREEZE_RELEASE_TIMEOUT (R293). A domain does not report its first edge within 10 µs of release, raising freeze release failure. -/
  | freezeReleaseTimeout
  /-- PAUSE_INDICATION_PERIOD (R290). Every 10 µs during a chip freeze each admitted port sends a pause indication. -/
  | pauseIndicationPeriod
  /-- PAUSE_INDICATION_RECEIVED (R290). A pause indication from a neighbour holds the port's retry timers and job traffic. -/
  | pauseIndicationReceived (p : PortNo)
  /-- PAUSE_LIMIT_TIMEOUT (R290). A neighbour's pause lasts past the pause limit, and the port is treated as failed. -/
  | pauseLimitTimeout (p : PortNo) (packets : List (Dom × Nat))
  /-- FREEZE_DUMP_DONE (R295). PC0 completes the freeze dump to the Cellar. -/
  | freezeDumpDone
  /-- CORE_SCAN_READ (R294). A read of a frozen core's scan image rotates its scan chains once around. -/
  | coreScanRead (path : Path) (core : PCore) (image : Bytes)
  /-- RING_RESTART (R297). A write of 1 to ring_restart restarts a stopped event ring. -/
  | ringRestart (path : Path) (core : PCore)
  /-- HOST_MARKER (R296). A write to host_marker writes event 0x13 into the core's ring. -/
  | hostMarker (path : Path) (core : PCore) (value : Word)
  /-- SYNC_WAIT_END (R298). A traced wait on a synchronisation object ends and a trace record is queued or dropped. -/
  | syncWaitEnd (d : Dom) (w : SyncWait)
  /-- COUNTERS_CLEAR (R302). A write of 1 to counters_clear clears one engine's counters. -/
  | countersClear (path : Path) (core : PCore) (engine : EngineNo)
  /-- CLEAR_ALL_COUNTERS (R302). A write of 1 to clear_all_counters clears every engine's counters at once. -/
  | clearAllCounters (path : Path)
  /-- BREAKPOINT_MATCH (R307). An armed breakpoint matches a firmware event; every domain is drained and its barriers held. -/
  | breakpointMatch (pc : PcNo) (event : Byte) (filter : BitVec 16) (d : Option Dom)
  /-- BREAKPOINT_DRAINED (R307). Every core reports drained and the Proofreader core halts. -/
  | breakpointDrained
  /-- BREAKPOINT_DRAIN_TIMEOUT (R307). The drain timeout wins and the core halts anyway, flagged not drained. -/
  | breakpointDrainTimeout
  /-- BP_RESUME (R308). A write of 1 to bp_resume resumes the halted core and releases the drain. -/
  | bpResume (path : Path)
  /-- BP_HALT_TIMEOUT (R308). The halt timeout wins; the core resumes and the breakpoint is disarmed. -/
  | bpHaltTimeout
  /-- CONTEXT_RESET_ROLLBACK (R318). A level 1 mode 1 reset order captures and drains a domain, retags it and begins its rollback. -/
  | contextResetRollback (path : Path) (d : Dom)
  /-- CONTEXT_RESET_END (R318). A level 1 mode 2 reset order captures and drains a domain, ends its tag and deactivates it. -/
  | contextResetEnd (path : Path) (d : Dom)
  /-- ENGINE_RESET (R320). A level 2 reset order resets one engine after a context reset of its domain. -/
  | engineReset (path : Path) (mode : Fin 16) (unit : BitVec 16)
  /-- PARTITION_RESET (R321). A level 3 reset order resets 150 cores and one stack, then fills and screens them. -/
  | partitionReset (path : Path) (unit : BitVec 16)
  /-- CHIP_RESET (R322). A level 4 reset order captures and dumps the chip, then asserts the reset. -/
  | chipReset (path : Path)
  /-- POWER_CYCLE_ORDER (R322). A level 5 reset order captures and dumps the chip, then requests a power cycle. -/
  | powerCycleOrder (path : Path)
  /-- CONTEXT_DRAINED (R318). Every core of a reset context reports drained and the context reset completes. -/
  | contextDrained (d : Dom)
  /-- ENGINE_RESET_DONE (R320). An engine reports reset with its SRAMs cleared. -/
  | engineResetDone (core : PCore) (engine : EngineNo)
  /-- PARTITION_RESET_DONE (R321). The partition's cores are released after their specimen runs. -/
  | partitionResetDone (n : StackNo)
  /-- CHIP_RESET_SEQUENCE_DONE (R322). The chip reset sequence ends and a warm recovery begins. -/
  | chipResetSequenceDone
  /-- RESET_TIMEOUT (R323). A reset's timeout wins against its completion. -/
  | resetTimeout (r : ResetId)
  /-- CAPTURE_TIMEOUT (R327). A core's capture latch is not filled within the capture timeout and is marked not captured. -/
  | captureTimeout (core : PCore)
  /-- DUMP_WRITTEN (R327). PC0 finishes writing a crash dump to the Cellar. -/
  | dumpWritten (bad : List Nat)
  /-- DUMP_BUDGET_TIMEOUT (R322). The dump budget wins before a chip reset or power cycle, and the dump is marked incomplete. -/
  | dumpBudgetTimeout
  /-- LATE_WRITE_DROPPED (R313). A slice write carrying a tag that is no longer current is dropped. -/
  | lateWriteDropped (slice : PCore) (writer : Option PCore) (rank : Rank) (tag : BitVec 16) (word : BitVec 25)
  /-- LATE_PACKET_DISCARDED (R313). A link packet carrying a tag that is no longer current is discarded at the port. -/
  | latePacketDiscarded (p : PortNo) (rank : Rank) (tag : BitVec 16) (sequence : BitVec 32) (s : Nat)
  /-- CELLAR_PATROL (R342). At each patrol interval PC0 checks the CRC of every record of every committed entry. -/
  | cellarPatrol (damaged : List Nat)
  /-- CELLAR_ERASE (R344). A write of 1 to erase decommits every entry of the rings and the dump region. -/
  | cellarErase (path : Path)
  /-- REGISTER_WRITE (R363). A write to a dictionary entry with no row of its own is checked and then applied, staged or refused. -/
  | registerWrite (path : Path) (index : BitVec 16) (sub : Byte) (written : Written)
  /-- WINDOW_MALFORMED_ACCESS (R353). A PCIe window access of wrong width or alignment is dropped and raises dictionary frame error. -/
  | windowMalformedAccess (offset : BitVec 28) (size : Nat) (write : Bool)
  /-- ADP_READ (R355). An ADP READ request returns an entry's value and status word. -/
  | adpRead (h : AdpHead)
  /-- ADP_WRITE (R355). An ADP WRITE request writes an entry and returns its status word. -/
  | adpWrite (h : AdpHead) (value : Word)
  /-- ADP_STATUS (R355). An ADP STATUS request returns an entry's status word. -/
  | adpStatus (h : AdpHead)
  /-- ADP_GROUP_WRITE (R368). An ADP GROUP_WRITE is validated whole and applies all its items at one instant. -/
  | adpGroupWrite (h : AdpHead) (items : List GroupItem)
  /-- ADP_UPLOAD_INIT (R360). An ADP UPLOAD_INIT claims a channel and snapshots the entry's content. -/
  | adpUploadInit (h : AdpHead)
  /-- ADP_UPLOAD_SEGMENT (R358). An ADP UPLOAD_SEGMENT returns up to 1,024 bytes from the segment offset. -/
  | adpUploadSegment (h : AdpHead) (offset : BitVec 32) (length : BitVec 16)
  /-- ADP_DOWNLOAD_INIT (R358). An ADP DOWNLOAD_INIT claims a channel for a download. -/
  | adpDownloadInit (h : AdpHead) (total : BitVec 32)
  /-- ADP_DOWNLOAD_SEGMENT (R358). An ADP DOWNLOAD_SEGMENT delivers the next in-order segment. -/
  | adpDownloadSegment (h : AdpHead) (offset : BitVec 32) (data : Bytes)
  /-- ADP_DOWNLOAD_END (R361). An ADP DOWNLOAD_END applies the downloaded content as one write. -/
  | adpDownloadEnd (h : AdpHead)
  /-- ADP_ABORT (R359). An ADP ABORT aborts a transfer and frees its channel. -/
  | adpAbort (h : AdpHead) (channel : Byte)
  /-- ADP_MALFORMED_MESSAGE (R356). An ADP message with a bad CRC, length or version is discarded and raises dictionary frame error. -/
  | adpMalformedMessage (path : Path) (eid : Byte) (assembled : Bool) (raw : Bytes)
  /-- ADP_WAIT_TIMEOUT (R356). A response held for the wait flag is sent after 50 ms. -/
  | adpWaitTimeout (path : Path) (msg : Fin 8) (tag : BitVec 16) (rank : Rank)
  /-- CH_OPEN (R358). A window write to ch_open opens a channel on one entry for upload or download. -/
  | chOpen (c : ChanNo) (value : Word)
  /-- CH_FETCH (R359). A ch_command of 1 fetches an upload segment into the data area. -/
  | chFetch (c : ChanNo)
  /-- CH_STORE (R359). A ch_command of 2 stores a download segment from the data area. -/
  | chStore (c : ChanNo)
  /-- CH_END_DOWNLOAD (R359). A ch_command of 3 ends a window download, which then acts as one write. -/
  | chEndDownload (c : ChanNo)
  /-- CH_ABORT (R359). A ch_command of 4 aborts the channel's transfer. -/
  | chAbort (c : ChanNo)
  /-- CHANNEL_IDLE_TIMEOUT (R362). A channel's idle timeout wins, and the transfer is aborted and the channel freed. -/
  | channelIdleTimeout (c : ChanNo)
  /-- DRAIN_TIMEOUT (R367). The drain timeout wins; the class X write is dropped and the held barriers are released. -/
  | drainTimeout
  /-- SET_ENDPOINT_ID (R354). The MCTP Set Endpoint ID command assigns Phory's endpoint ID on a binding. -/
  | setEndpointId (b : Binding) (eid : Byte)
  /-- GET_ENDPOINT_ID (R354). The MCTP Get Endpoint ID command returns the endpoint ID. -/
  | getEndpointId (b : Binding)
  /-- GET_ENDPOINT_UUID (R354). The MCTP Get Endpoint UUID command returns the UUID. -/
  | getEndpointUuid (b : Binding)
  /-- GET_MCTP_VERSION_SUPPORT (R354). The MCTP Get MCTP Version Support command returns the supported versions. -/
  | getMctpVersionSupport (b : Binding) (type_ : Byte)
  /-- GET_MESSAGE_TYPE_SUPPORT (R354). The MCTP Get Message Type Support command returns the supported message types. -/
  | getMessageTypeSupport (b : Binding)
  /-- GET_VENDOR_DEFINED_MESSAGE_SUPPORT (R354). The MCTP Get Vendor Defined Message Support command returns the vendor support. -/
  | getVendorDefinedMessageSupport (b : Binding) (selector : Byte)
  /-- ENTDAA (R355). The I3C ENTDAA command assigns Phory's dynamic address. -/
  | entdaa (address : BitVec 7)
  /-- SETNEWDA (R355). The I3C SETNEWDA command changes Phory's dynamic address. -/
  | setnewda (address : BitVec 7)
  /-- RSTDAA (R355). The I3C RSTDAA command clears Phory's dynamic address. -/
  | rstdaa
  /-- GETPID (R355). The I3C GETPID command returns the provisional ID. -/
  | getpid
  /-- GETBCR (R355). The I3C GETBCR command returns the bus characteristics register. -/
  | getbcr
  /-- GETDCR (R355). The I3C GETDCR command returns the device characteristics register. -/
  | getdcr
  /-- GETSTATUS (R355). The I3C GETSTATUS command returns the target status. -/
  | getstatus
  /-- GETMRL (R355). The I3C GETMRL command returns the maximum read length. -/
  | getmrl
  /-- GETMWL (R355). The I3C GETMWL command returns the maximum write length. -/
  | getmwl
  /-- SETMRL (R236). The I3C SETMRL command sets the maximum read length, which governs in-band interrupt payloads. -/
  | setmrl (length : BitVec 16)
  /-- SETMWL (R355). The I3C SETMWL command sets the maximum write length. -/
  | setmwl (length : BitVec 16)
  /-- ENEC (R236). The I3C ENEC command enables in-band interrupts. -/
  | enec
  /-- DISEC (R236). The I3C DISEC command disables in-band interrupts. -/
  | disec
  /-- LC_TRANSITION (R369). A write of a target state to lc_transition is checked and starts fuse programming. -/
  | lcTransition (path : Path) (value : Word)
  /-- LC_FUSES_PROGRAMMED (R369). Life-cycle fuse programming completes and the state becomes pending. -/
  | lcFusesProgrammed
  /-- SUPPLY_EXCURSION (R374). The always-on supply stays outside 0.69–0.81 V for 1 µs, raising always-on supply fault. -/
  | supplyExcursion (extreme_mV : BitVec 16) (above : Bool) (ns : Nat)
  /-- BROWN_OUT (R374). The always-on supply falls below 0.60 V, which acts as an assertion of PHY_PORST_N. -/
  | brownOut
  /-- BROWN_OUT_END (R374). The supply has been above 0.69 V for 1 ms and the brown-out ends. -/
  | brownOutEnd
  /-- POWER_LOSS (R335). Power is removed at any instant, and Cellar entries not yet committed are lost. -/
  | powerLoss (tornEntry : Bool)
  /-- RESERVED_RANGE_REFUSAL (R109). A job access into the proof scratch or Phory region of a slice is refused with the fence status and counted in object 0x2302.0E. -/
  | reservedRangeRefusal (slice : PCore)
  /-- FILL_REFUSAL (R160). An access to a slice that does not yet read filled is refused with the fence status and counted in object 0x2302.0D. -/
  | fillRefusal (slice : PCore)
  /-- MAP_TEMPERATURE_STALE (R142). A core's one-minute average temperature moves by more than map_temp_delta_c from its map entry, and the entry becomes stale. -/
  | mapTemperatureStale (core : PCore) (average : BitVec 16)
  /-- BEACON_AT_TIME_ROOT (R38). The time root receives a worker's beacon, stamps t2 and sends its reply at t3. -/
  | beaconAtTimeRoot (worker : Rank) (t1 : Word)
  /-- STEWARD_HOLD_ORDER (R165). A worker receives the steward's order to hold the job's barrier, after a poison consumption or a lock-step divergence (R220). -/
  | stewardHoldOrder (env : Env) (d : Dom) (divergence : Option (Nat × Option LCore))
  /-- CROSS_CHIP_PROOF_ISSUE (R126). A chip receives a cross-chip proof that the steward placed on one of its pool cores and runs it, reading the inputs over the chip links.
  `place`: the proofed chip's rank and the index in this chip's pool. -/
  | crossChipProofIssue (env : Env) (d : Dom) (k : LCore) (s : Nat) (place : Rank × Nat)
  /-- FREEZE_REPORT (R291). A steward receives a chip's report that it entered or released a freeze, and holds or resumes the timeouts that await that chip. -/
  | freezeReport (env : Env) (frozen : Bool)
  deriving DecidableEq, Repr

end Sys2Proof
end

