-- ==== Sys2Proof/Machine/Bytes.lean ====
section
/-! DEFINITION. Byte order of records (every record layout is little-endian), the CRCs of R168 and R332, SHA-384 for R30 and
R99, the field GF(2^128) of the colophons (R100, R101) and the generator of R134 and R211. -/

namespace Sys2Proof.Machine

/-- v in n bytes, little-endian, taken mod 256^n. -/
def le (n v : Nat) : Bytes :=
  match n with
  | 0 => []
  | n + 1 => BitVec.ofNat 8 v :: le n (v / 256)

/-- The value of bytes read little-endian. -/
def ofLe : Bytes → Nat
  | [] => 0
  | b :: l => b.toNat + 256 * ofLe l

/-- The value of bytes read big-endian. -/
def ofBe (l : Bytes) : Nat := l.foldl (fun a b => a * 256 + b.toNat) 0

/-- The n bytes at an offset; bytes beyond the end read 0. -/
def slice (l : Bytes) (off n : Nat) : Bytes :=
  let t := (l.drop off).take n
  t ++ List.replicate (n - t.length) 0

/-- The field of n bytes at an offset, little-endian. -/
def fieldAt (l : Bytes) (off n : Nat) : Nat := ofLe (slice l off n)

/-- l with the bytes m put at an offset within it. -/
def setBytes (l : Bytes) (off : Nat) (m : Bytes) : Bytes := l.take off ++ m ++ l.drop (off + m.length)

/-- Bits hi down to lo of a value. -/
def bits (v hi lo : Nat) : Nat := v / 2 ^ lo % 2 ^ (hi + 1 - lo)

/-- A Bool as a number. -/
def bitOf (b : Bool) : Nat := if b then 1 else 0

/-- One byte of a reflected CRC: eight shifts. -/
def crcByte (w poly : Nat) (c : Nat) (b : Byte) : Nat :=
  (List.range 8).foldl (fun c _ => if c % 2 = 1 then Nat.xor (c / 2) poly else c / 2) (Nat.xor c b.toNat) % 2 ^ w

/-- CRC-32C of R332. -/
def crc32c (l : Bytes) : Nat := Nat.xor (l.foldl (crcByte 32 0x82F63B78) 0xFFFFFFFF) 0xFFFFFFFF

/-- One byte of the CRC-64 of R168, most significant bit first. -/
def crc64Byte (c : Word) (b : Byte) : Word :=
  (List.range 8).foldl (fun c _ => if c.msb then (c <<< 1) ^^^ 0x42F0E1EBA9EA3693 else c <<< 1)
    (c ^^^ (b.zeroExtend 64 <<< 56))

/-- The CRC of R168 continued over bytes from a running value; from 0 it is the CRC of the bytes. -/
def crc64 (c : Word) (l : Bytes) : Word := l.foldl crc64Byte c

/-! ### SHA-384 (R30, R99, R370) -/

/-- The 64-bit words of a number, highest first. -/
def shaWords (n v : Nat) : List Word := (List.range n).map (fun i => BitVec.ofNat 64 (v >>> (64 * (n - 1 - i))))

/-- Round constants of SHA-384, four to a number. -/
def shaK : List Word := [
  0x428a2f98d728ae227137449123ef65cdb5c0fbcfec4d3b2fe9b5dba58189dbbc,
  0x3956c25bf348b53859f111f1b605d019923f82a4af194f9bab1c5ed5da6d8118,
  0xd807aa98a303024212835b0145706fbe243185be4ee4b28c550c7dc3d5ffb4e2,
  0x72be5d74f27b896f80deb1fe3b1696b19bdc06a725c71235c19bf174cf692694,
  0xe49b69c19ef14ad2efbe4786384f25e30fc19dc68b8cd5b5240ca1cc77ac9c65,
  0x2de92c6f592b02754a7484aa6ea6e4835cb0a9dcbd41fbd476f988da831153b5,
  0x983e5152ee66dfaba831c66d2db43210b00327c898fb213fbf597fc7beef0ee4,
  0xc6e00bf33da88fc2d5a79147930aa72506ca6351e003826f142929670a0e6e70,
  0x27b70a8546d22ffc2e1b21385c26c9264d2c6dfc5ac42aed53380d139d95b3df,
  0x650a73548baf63de766a0abb3c77b2a881c2c92e47edaee692722c851482353b,
  0xa2bfe8a14cf10364a81a664bbc423001c24b8b70d0f89791c76c51a30654be30,
  0xd192e819d6ef5218d69906245565a910f40e35855771202a106aa07032bbd1b8,
  0x19a4c116b8d2d0c81e376c085141ab532748774cdf8eeb9934b0bcb5e19b48a8,
  0x391c0cb3c5c95a634ed8aa4ae3418acb5b9cca4f7763e373682e6ff3d6b2b8a3,
  0x748f82ee5defb2fc78a5636f43172f6084c87814a1f0ab728cc702081a6439ec,
  0x90befffa23631e28a4506cebde82bde9bef9a3f7b2c67915c67178f2e372532b,
  0xca273eceea26619cd186b8c721c0c207eada7dd6cde0eb1ef57d4f7fee6ed178,
  0x06f067aa72176fba0a637dc5a2c898a6113f9804bef90dae1b710b35131c471b,
  0x28db77f523047d8432caab7b40c724933c9ebe0a15c9bebc431d67c49c100d4c,
  0x4cc5d4becb3e42b6597f299cfc657e2a5fcb6fab3ad6faec6c44198c4a475817].flatMap (shaWords 4)

/-- Initial hash value of SHA-384: the newest four words of each of the two sequences of its rounds. -/
def shaInit : List Word × List Word :=
  (shaWords 4 0xcbbb9d5dc1059ed8629a292a367cd5079159015a3070dd17152fecd8f70e5939,
   shaWords 4 0x67332667ffc00b318eb44a8768581511db0c2e0d64f98fa747b5481dbefa4fa4)

/-- Exclusive or of a word turned right by r, by t, and a third word. -/
def turned (x : Word) (r t : Nat) (y : Word) : Word := y ^^^ x.rotateRight t ^^^ x.rotateRight r

/-- The message schedule, newest word first, by n more words. -/
def shaExtend : Nat → List Word → List Word
  | 0, w => w
  | n + 1, w =>
    let back (i : Nat) : Word := w.getD (i - 1) 0
    shaExtend n ((back 16 + back 7 + turned (back 15) 1 8 (back 15 >>> 7) + turned (back 2) 19 61 (back 2 >>> 6)) :: w)

/-- One round, over the two sequences (newest word first) of which the working variables a to d and e to h are the newest
four words; `kw` is the sum of round constant and schedule word. -/
def shaRound (h : List Word × List Word) (kw : Word) : List Word × List Word :=
  let a (i : Nat) : Word := h.1.getD i 0
  let e (i : Nat) : Word := h.2.getD i 0
  let chosen := e 2 ^^^ (e 0 &&& (e 1 ^^^ e 2))
  let most := (a 0 &&& (a 1 ||| a 2)) ||| (a 1 &&& a 2)
  let t := kw + chosen + e 3 + turned (e 0) 14 18 ((e 0).rotateRight 41)
  ((t + most + turned (a 0) 28 34 ((a 0).rotateRight 39)) :: h.1.take 3, (a 3 + t) :: h.2.take 3)

/-- One block of 128 bytes, its words big-endian. -/
def shaBlock (h : List Word × List Word) (block : Bytes) : List Word × List Word :=
  let w := (shaExtend 64 (shaWords 16 (ofBe block)).reverse).reverse
  let r := (shaK.zipWith (· + ·) w).foldl shaRound h
  (h.1.zipWith (· + ·) r.1, h.2.zipWith (· + ·) r.2)

/-- v in n bytes, big-endian. -/
def be (n v : Nat) : Bytes := (le n v).reverse

/-- SHA-384 of a message, 48 bytes: the message, a bit 1, zeros up to whole blocks, and its length in bits. -/
def sha384 (m : Bytes) : Bytes :=
  let l := m ++ [0x80] ++ List.replicate ((111 + 128 * m.length - m.length) % 128) 0 ++ be 16 (m.length * 8)
  let h := (List.range (l.length / 128)).foldl (fun h i => shaBlock h (slice l (128 * i) 128)) shaInit
  (h.1 ++ h.2.take 2).flatMap (fun w => be 8 w.toNat)

/-! ### GF(2^128) (04_proofing_and_commit.md, 'Colophons') -/

/-- a·x in the field: bit n is the coefficient of x^n, reduced by x^128 + x^7 + x^2 + x + 1. -/
def gfDouble (a : Colophon) : Colophon := if a.msb then (a <<< 1) ^^^ 0x87 else a <<< 1

/-- Horner's rule over the bits of b from the highest. -/
def gfMulGo (a : Colophon) : Nat → Colophon → Colophon → Colophon
  | 0, _, acc => acc
  | n + 1, b, acc =>
    let acc := gfDouble acc
    gfMulGo a n b (if b.getLsbD n then acc ^^^ a else acc)

/-- Multiplication in the field. -/
def gfMul (a b : Colophon) : Colophon := gfMulGo a 128 b 0

/-- The keys H1, H2 and H3 of a step (R99): seed, job identifier (0 for a single-chip job) and step, 24 bytes with the
constant 0x0000. -/
def stepKeys (seed job : Word) (s : Nat) : Colophon × Colophon × Colophon :=
  let h := sha384 (le 8 seed.toNat ++ le 8 job.toNat ++ le 6 s ++ le 2 0)
  let part (i : Nat) : Colophon := BitVec.ofNat 128 (fieldAt h (16 * i) 16)
  (part 0, part 1, part 2)

/-- Descriptor word w0 of an output unit (R100). -/
def descriptor (kind dest offset mask : Nat) : Colophon :=
  BitVec.ofNat 128 (kind * 2 ^ 124 + dest % 2 ^ 24 * 2 ^ 100 + offset % 2 ^ 36 * 2 ^ 64 + mask % 2 ^ 64)

/-- The block's bytes with masked bytes as 0 (R100); the block is 64 bytes. -/
def maskedData (mask : Word) (data : Bytes) : Bytes :=
  (slice data 0 64).zipIdx.map (fun p => if mask.getLsbD p.2 then p.1 else 0)

/-- The encoding e(u) = w0·H1^5 + w1·H1^4 + w2·H1^3 + w3·H1^2 + w4·H1 (R100). -/
def encodeUnit (h1 : Colophon) (w0 : Colophon) (data : Bytes) : Colophon :=
  let w (i : Nat) : Colophon := BitVec.ofNat 128 (fieldAt data (16 * i) 16)
  [w 0, w 1, w 2, w 3].foldl (fun acc x => gfMul acc h1 ^^^ x) w0 |> gfMul h1

/-- One more output unit in a core's colophon: C·(H2 + e(u)) (R100). -/
def foldUnit (keys : Colophon × Colophon × Colophon) (acc w0 : Colophon) (data : Bytes) : Colophon :=
  gfMul acc (keys.2.1 ^^^ encodeUnit keys.1 w0 data)

/-- The chip colophon (R101): acc·H3 + C, in logical-core order. -/
def combine (h3 : Colophon) (l : List Colophon) : Colophon := l.foldl (fun acc c => gfMul acc h3 ^^^ c) 0

/-! ### Step seeds (R211) -/

/-- The first output of SplitMix64 started at x. The spec names the generator and not its constants: PRESUMED, the
published generator (log entry 11). -/
def splitMixFirst (x : Word) : Word :=
  let z := x + 0x9E3779B97F4A7C15
  let z := (z ^^^ (z >>> 30)) * 0xBF58476D1CE4E5B9
  let z := (z ^^^ (z >>> 27)) * 0x94D049BB133111EB
  z ^^^ (z >>> 31)

/-- Output number i, from 0, of SplitMix64 started at x. -/
def splitMix (x : Word) (i : Nat) : Word := splitMixFirst (x + BitVec.ofNat 64 i * 0x9E3779B97F4A7C15)

/-- The state of a xoshiro256** generator: four words. -/
abbrev Gen := Word × Word × Word × Word

/-- The state seeded by four successive outputs of SplitMix64 (R134). -/
def genOf (x : Word) : Gen := (splitMix x 0, splitMix x 1, splitMix x 2, splitMix x 3)

/-- One output and the state after it. PRESUMED, the published generator: the spec names it (log entry 11). -/
def nextOf (g : Gen) : Word × Gen :=
  let (a, b, c, d) := g
  let c := c ^^^ a
  let d := d ^^^ b
  ((b * 5).rotateLeft 7 * 9, (a ^^^ d, b ^^^ c, c ^^^ (b <<< 17), d.rotateLeft 45))

/-- The next n outputs, in order, and the state after them. -/
def drawOf : Nat → Gen → List Word × Gen
  | 0, g => ([], g)
  | n + 1, g =>
    let (w, g) := nextOf g
    let (l, g) := drawOf n g
    (w :: l, g)

/-- The step root of a domain: bytes 0 to 7 of SHA-384 over program seed, job identifier, step and 0x0001 (R211). -/
def stepRoot (z job : Word) (s : Nat) : Word :=
  BitVec.ofNat 64 (fieldAt (sha384 (le 8 z.toNat ++ le 8 job.toNat ++ le 6 s ++ le 2 1)) 0 8)

/-- The step seed of Lk, from the step root (R211). -/
def stepSeed (root : Word) (k : Nat) : Word := splitMixFirst (root ^^^ BitVec.ofNat 64 k)

end Sys2Proof.Machine
end

