-- ==== Sys2Proof/Config.lean ====
section
/-! DEFINITION. What an implementation fixes (fuses, R350 'fused') and the free values: constants without a body, of
which nothing can be computed and nothing but their type can be proved. -/

namespace Sys2Proof

/-- A fresh value for each number: what the spec leaves open and the host chip's domains would report (log entry 4). -/
opaque Config.freeWord : Nat → Word

/-- Fused identity: PCI vendor identifier, 0x1000.02 (log entry 3). -/
opaque Config.pciVendorId : BitVec 16

/-- Fused die stepping, 0x1000.05. -/
opaque Config.stepping : BitVec 8

/-- Fused chip serial number, 0x1000.06, up to 32 characters. -/
opaque Config.serialNumber : Bytes

/-- Fused I3C provisional ID, 0x1000.0D. -/
opaque Config.i3cPid : BitVec 48

/-- The I3C bus and device characteristics registers, whose values the spec does not give (R355). -/
opaque Config.i3cBcr : Byte

opaque Config.i3cDcr : Byte

/-- The maximum read and write lengths before the first SETMRL and SETMWL, which the spec does not give (R236, R355). -/
opaque Config.i3cMaxRead : BitVec 16

opaque Config.i3cMaxWrite : BitVec 16

/-- The UUID of the MCTP endpoint (R354); the spec gives no value. -/
opaque Config.endpointUuid : BitVec 128

/-- Variant of the part, 0x2500.0B: 0 9400-576, 1 9400-512, 2 9400-384. -/
opaque Config.variant : Fin 3

/-- Life-cycle state in the fuses at manufacture of this part, 0x1100.01, and transitions programmed, 0x1100.05. -/
opaque Config.lifeCycle : Fin 5

opaque Config.lifeCycleTransitions : BitVec 8

/-- The nonce drawn at the n-th cold start, 0x1100.06 (R370). -/
opaque Config.nonce : Nat → Word

/-- Fused minimum security epoch 0x1010.07 and key revocation bits 0x1010.08. -/
opaque Config.minEpoch : BitVec 16

opaque Config.keyRevocation : BitVec 4

/-- Whether a signature (96 bytes) verifies over a message under the public key fused for a key slot (R30, R370). The
spec gives no public key, so the predicate has no body. -/
opaque Config.signatureOk : Nat → Bytes → Bytes → Bool

/-- The rounding error of the checker's 80-bit sums for one column (R62); scaled into the bound by its reader. -/
opaque Config.checkerRoundoff : Nat → Int

/-- The checker's own exponential unit, its result in FP32 (R67, R68): the spec gives its tolerance, not its values. -/
opaque Config.checkerExp : Dy → BitVec 32

/-- Which of the two nearest 53-bit values a shadow of the attention checker is rounded to (03_galley_checks.md, 'Attention'):
the spec gives the width only. -/
opaque Config.shadowUp : Dy → Bool

/-- The digest of an engine's specimen outputs that ships in the firmware image (R129). -/
opaque Config.specimenDigest : EngineNo → Word

/-- Which specimen program failed, the number carried in the screening record (05); the spec numbers none. -/
opaque Config.specimenProgram : EngineNo → BitVec 16

/-- What a cross-core run makes of an output of its generator in a choice of a kind (R134): the spec gives the choices and their
bounds, and no mapping. Its reader takes it within the bounds of the choice. -/
opaque Config.drawn : Nat → Word → Nat

/-- The expected logic BIST signature by seed, interval count and kind of unit (R272). -/
opaque Config.bistSignature : Nat → Nat → Nat → BitVec 128

/-- The value a counter shows after it passed the width of its type; the spec states none (log entry 4). -/
opaque Config.counterOverflow : Nat → Nat → Word

/-- The filtered offset from the successive offsets of the beacon exchanges (R38); the spec gives no filter. -/
opaque Config.beaconFilter : Int → Int → Int

/-- The rate correction, in parts per 10^12, that removes an offset within the slew limit (R39); the spec gives the
limit and the sign only. -/
opaque Config.slewRate : Int → Nat → Nat

/-- The site number, within its crossing class, of the arbiter of a near miss (0x1080.09); the spec numbers no site. -/
opaque Config.siteNumber : Nat → Nat → BitVec 24

/-- The content of an image of state that the spec does not lay out (proof unit state, memory controller state, link
port state, Proofreader core state, central scan state): by kind, unit and index of byte. -/
opaque Config.rawState : Nat → Nat → Nat → Byte

end Sys2Proof
end

