-- ==== Sys2Proof/Machine/Objects.lean ====
section
/-! DEFINITION. The object dictionary as tables: type, access, default, allowed values, apply class and life-cycle states
of every entry (15_object_dictionary.md and the object tables of every chapter), and the error sources of R225 and R226.
The object name the spec gives stands after each row. -/

namespace Sys2Proof.Machine

/-- Type codes of R348; `raw` is the data area of a transfer channel (R359), which has no status word. -/
inductive Ty where
  | bool | u8 | u16 | u32 | u64 | s64 | time | str | dom | raw
  deriving DecidableEq, Repr

def Ty.code : Ty → Nat
  | .bool => 1 | .u8 => 2 | .u16 => 3 | .u32 => 4 | .u64 => 5 | .s64 => 6 | .time => 7 | .str => 8 | .dom => 9 | .raw => 0

/-- Bits of the value field that a value of the type may use (R348, R349). -/
def Ty.bits : Ty → Nat
  | .bool => 1 | .u8 => 8 | .u16 => 16 | .u32 => 32 | .str => 32 | .dom => 32 | _ => 64

/-- Access codes of R349; the last two are access code 4. -/
inductive Acc where
  | const | ro | rw | wo | rwLc | woLc
  deriving DecidableEq, Repr

def Acc.code : Acc → Nat
  | .const => 0 | .ro => 1 | .rw => 2 | .wo => 3 | .rwLc => 4 | .woLc => 4

/-- Apply classes of 15_object_dictionary.md, 'Applying changes', with class X of R366. -/
inductive Cls where
  | i | b | a | k | x
  deriving DecidableEq, Repr

/-- The values an entry's table allows. `mask` keeps the named bits; the others are reserved and ignored (R10). -/
inductive Rng where
  | any | zero
  | only (v : Nat)
  | rng (lo hi step : Nat)
  | orZero (lo hi : Nat)
  | oneOf (l : List Nat)
  | mask (m : Nat)
  deriving DecidableEq, Repr

def Rng.ok : Rng → Nat → Bool
  | .any, _ => true
  | .zero, v => v == 0
  | .only w, v => v == w
  | .rng lo hi st, v => lo ≤ v && v ≤ hi && v % st == 0
  | .orZero lo hi, v => v == 0 || (lo ≤ v && v ≤ hi)
  | .oneOf l, v => l.contains v
  | .mask _, _ => true

/-- What of a written value is kept: reserved bits are ignored (R10). -/
def Rng.keepBits : Rng → Word → Word
  | .mask m, v => v &&& BitVec.ofNat 64 m
  | _, v => v

/-- One entry of the dictionary. `lc` has a bit for each life-cycle state in which a write is accepted; `dom` is the step
domain of a domain-scoped entry; `keep` says that a chip reset leaves it (R350). -/
structure Entry where
  ty : Ty
  acc : Acc
  dflt : Word := 0
  rng : Rng := .any
  cls : Cls := .i
  lc : Nat := 31
  dom : Option Nat := none
  keep : Bool := false
  deriving DecidableEq, Repr

/-- A value of all ones, which many entries read for 'none'. -/
abbrev ones64 : Word := BitVec.allOnes 64

/-- The key of the entry at index i and subindex j. -/
abbrev key (i j : Nat) : Nat := i * 256 + j

/-- Error classes (R224). -/
inductive ErrCls where
  | c | u | f
  deriving DecidableEq, Repr

def ErrCls.num : ErrCls → Nat
  | .c => 0 | .u => 1 | .f => 2

def ErrCls.code (e : ErrCls) : Word := BitVec.ofNat 64 e.num

/-- Scopes of R225. -/
inductive Scope where
  | chip | domain | core | engine | slice | port | stack | pc
  deriving DecidableEq, Repr

def Scope.num : Scope → Nat
  | .chip => 0 | .domain => 1 | .core => 2 | .engine => 3 | .slice => 4 | .port => 5 | .stack => 6 | .pc => 7

def Scope.code (e : Scope) : Word := BitVec.ofNat 64 e.num

def Scope.instances : Scope → Nat
  | .chip => 1 | .domain => 8 | .core => 600 | .engine => 4200 | .slice => 600 | .port => 18 | .stack => 4 | .pc => 4

/-- Sticky words of a scope (R225). -/
def Scope.words : Scope → Nat
  | .core => 10 | .engine => 66 | .slice => 10 | _ => 1

structure SourceInfo where
  scope : Scope
  cls : ErrCls
  deriving DecidableEq, Repr

/-- Every error source of R226, and no other. -/
def sourceInfo (n : Nat) : Option SourceInfo :=
  if n = 0x10 then some ⟨.pc, .u⟩ else -- Proofreader core lost
  if n = 0x11 then some ⟨.chip, .f⟩ else -- Proofreader cores exhausted
  if n = 0x12 then some ⟨.domain, .u⟩ else -- Steward lost
  if n = 0x13 then some ⟨.chip, .c⟩ else -- Time holdover
  if n = 0x14 then some ⟨.chip, .u⟩ else -- Reference clock lost
  if n = 0x15 then some ⟨.domain, .u⟩ else -- Step counter exhausted
  if n = 0x16 then some ⟨.chip, .c⟩ else -- Firmware image rejected
  if n = 0x17 then some ⟨.chip, .u⟩ else -- No valid firmware
  if n = 0x18 then some ⟨.chip, .c⟩ else -- Capture overflow
  if n = 0x19 then some ⟨.chip, .f⟩ else -- Always-on supply fault
  if n = 0x20 then some ⟨.engine, .u⟩ else -- Matrix mismatch
  if n = 0x21 then some ⟨.engine, .u⟩ else -- Vector mismatch
  if n = 0x22 then some ⟨.engine, .u⟩ else -- Movement mismatch
  if n = 0x23 then some ⟨.engine, .u⟩ else -- Check timeout
  if n = 0x24 then some ⟨.engine, .c⟩ else -- Window exceeded
  if n = 0x30 then some ⟨.domain, .u⟩ else -- Proof failure
  if n = 0x31 then some ⟨.domain, .u⟩ else -- Proof unresolved
  if n = 0x32 then some ⟨.domain, .c⟩ else -- Remote taint
  if n = 0x33 then some ⟨.domain, .u⟩ else -- Rollback horizon exceeded
  if n = 0x34 then some ⟨.domain, .u⟩ else -- Committed page overwrite
  if n = 0x35 then some ⟨.chip, .c⟩ else -- Proof core fault
  if n = 0x36 then some ⟨.chip, .c⟩ else -- Proof lost or not proofable
  if n = 0x37 then some ⟨.chip, .c⟩ else -- Ledger full
  if n = 0x38 then some ⟨.chip, .c⟩ else -- Collective abandoned
  if n = 0x40 then some ⟨.engine, .u⟩ else -- Specimen failure
  if n = 0x41 then some ⟨.engine, .c⟩ else -- Specimen transient
  if n = 0x42 then some ⟨.engine, .u⟩ else -- Checker self-check failure
  if n = 0x43 then some ⟨.core, .u⟩ else -- Cross-core disagreement
  if n = 0x44 then some ⟨.core, .u⟩ else -- Margin weak
  if n = 0x45 then some ⟨.core, .c⟩ else -- Regulator timeout
  if n = 0x46 then some ⟨.core, .c⟩ else -- Trim revert
  if n = 0x47 then some ⟨.chip, .c⟩ else -- Budget exceeded
  if n = 0x48 then some ⟨.port, .c⟩ else -- Link margin low
  if n = 0x49 then some ⟨.slice, .c⟩ else -- DRAM margin low
  if n = 0x50 then some ⟨.slice, .c⟩ else -- Corrected error
  if n = 0x51 then some ⟨.slice, .c⟩ else -- Corrected rate high
  if n = 0x52 then some ⟨.slice, .c⟩ else -- Row degrading
  if n = 0x53 then some ⟨.slice, .u⟩ else -- Uncorrectable error
  if n = 0x54 then some ⟨.slice, .u⟩ else -- Spares exhausted
  if n = 0x55 then some ⟨.domain, .u⟩ else -- Poison consumed
  if n = 0x56 then some ⟨.chip, .u⟩ else -- Weight digest mismatch
  if n = 0x57 then some ⟨.chip, .c⟩ else -- Digest transient
  if n = 0x58 then some ⟨.chip, .c⟩ else -- Digest stale
  if n = 0x59 then some ⟨.domain, .u⟩ else -- KV page CRC mismatch
  if n = 0x5A then some ⟨.domain, .c⟩ else -- KV fill retried
  if n = 0x60 then some ⟨.core, .c⟩ else -- Core fenced
  if n = 0x61 then some ⟨.chip, .c⟩ else -- Fence limit reached
  if n = 0x62 then some ⟨.domain, .c⟩ else -- Host refill requested
  if n = 0x63 then some ⟨.chip, .c⟩ else -- Host map refused
  if n = 0x64 then some ⟨.domain, .u⟩ else -- No reserve
  if n = 0x65 then some ⟨.domain, .u⟩ else -- Refill failed
  if n = 0x66 then some ⟨.chip, .u⟩ else -- Below variant count
  if n = 0x67 then some ⟨.chip, .u⟩ else -- Attic full
  if n = 0x70 then some ⟨.domain, .u⟩ else -- Lock-step divergence
  if n = 0x71 then some ⟨.domain, .c⟩ else -- Lock-step transient
  if n = 0x72 then some ⟨.domain, .u⟩ else -- Lock-step partner lost
  if n = 0x80 then some ⟨.chip, .u⟩ else -- Bring-up stage failed
  if n = 0x81 then some ⟨.port, .c⟩ else -- Cabling mismatch
  if n = 0x82 then some ⟨.port, .c⟩ else -- Link protocol revision mismatch
  if n = 0x83 then some ⟨.port, .c⟩ else -- Link reduced width
  if n = 0x84 then some ⟨.port, .u⟩ else -- Link not trained
  if n = 0x85 then some ⟨.stack, .u⟩ else -- Memory training failed
  if n = 0x86 then some ⟨.chip, .c⟩ else -- Bring-up time exceeded
  if n = 0x90 then some ⟨.core, .u⟩ else -- Logic BIST failure
  if n = 0x91 then some ⟨.core, .u⟩ else -- Memory BIST failure
  if n = 0x92 then some ⟨.slice, .c⟩ else -- Memory BIST repair
  if n = 0x93 then some ⟨.chip, .f⟩ else -- Central unit self-test failure
  if n = 0xA0 then some ⟨.chip, .c⟩ else -- Trace events dropped
  if n = 0xA1 then some ⟨.chip, .c⟩ else -- Freeze entered
  if n = 0xA2 then some ⟨.chip, .f⟩ else -- Freeze release failure
  if n = 0xB0 then some ⟨.domain, .u⟩ else -- Reset escalated
  if n = 0xB1 then some ⟨.slice, .c⟩ else -- Late write dropped
  if n = 0xB2 then some ⟨.port, .c⟩ else -- Late packet discarded
  if n = 0xB3 then some ⟨.chip, .f⟩ else -- Chip reset incomplete
  if n = 0xC0 then some ⟨.chip, .c⟩ else -- Cellar record damaged
  if n = 0xC1 then some ⟨.chip, .u⟩ else -- Cellar write failure
  if n = 0xD0 then some ⟨.chip, .c⟩ else -- Dictionary frame error
  none

/-- The source numbers of R226, in ascending order. -/
def sourceNumbers : List Nat :=
  [
    0x10, 0x11, 0x12, 0x13, 0x14, 0x15, 0x16, 0x17, 0x18, 0x19, 0x20, 0x21,
    0x22, 0x23, 0x24, 0x30, 0x31, 0x32, 0x33, 0x34, 0x35, 0x36, 0x37, 0x38,
    0x40, 0x41, 0x42, 0x43, 0x44, 0x45, 0x46, 0x47, 0x48, 0x49, 0x50, 0x51,
    0x52, 0x53, 0x54, 0x55, 0x56, 0x57, 0x58, 0x59, 0x5A, 0x60, 0x61, 0x62,
    0x63, 0x64, 0x65, 0x66, 0x67, 0x70, 0x71, 0x72, 0x80, 0x81, 0x82, 0x83,
    0x84, 0x85, 0x86, 0x90, 0x91, 0x92, 0x93, 0xA0, 0xA1, 0xA2, 0xB0, 0xB1,
    0xB2, 0xB3, 0xC0, 0xC1, 0xD0]

/-- Objects 0x1000. -/
def ix1000 (j : Nat) : Option Entry :=
  if j = 0x1 then some { ty := .str, acc := .const } -- vendor_name
  else
  if j = 0x2 then some { ty := .u16, acc := .const, dflt := Config.pciVendorId.zeroExtend 64 } -- pci_vendor_id
  else
  if j = 0x3 then some { ty := .u16, acc := .const, dflt := 0x9400 } -- pci_device_id
  else
  if j = 0x4 then some { ty := .str, acc := .const } -- product_name
  else
  if j = 0x5 then some { ty := .u8, acc := .const, dflt := Config.stepping.zeroExtend 64 } -- stepping
  else
  if j = 0x6 then some { ty := .str, acc := .const } -- serial_number
  else
  if j = 0x7 then some { ty := .u32, acc := .const, dflt := 0x20000 } -- phory_version
  else
  if j = 0x8 then some { ty := .u16, acc := .const, dflt := 0x100 } -- dictionary_version
  else
  if j = 0x9 then some { ty := .u8, acc := .const, dflt := 0x1 } -- adp_version
  else
  if j = 0xa then some { ty := .u8, acc := .ro } -- eid_pcie
  else
  if j = 0xb then some { ty := .u8, acc := .ro } -- eid_i3c
  else
  if j = 0xc then some { ty := .u8, acc := .ro } -- i3c_address
  else
  if j = 0xd then some { ty := .u64, acc := .const, dflt := Config.i3cPid.zeroExtend 64 } -- i3c_pid
  else
  if j = 0xe then some { ty := .time, acc := .ro } -- cold_start_time
  else
  none

/-- Objects 0x1010. -/
def ix1010 (j : Nat) : Option Entry :=
  if j = 0x1 then some { ty := .u32, acc := .ro } -- running_version
  else
  if j = 0x2 then some { ty := .u16, acc := .ro } -- running_epoch
  else
  if j = 0x3 then some { ty := .u8, acc := .ro } -- running_source
  else
  if j = 0x4 then some { ty := .dom, acc := .wo } -- staged_image
  else
  if j = 0x5 then some { ty := .u8, acc := .ro } -- staged_status
  else
  if j = 0x6 then some { ty := .u8, acc := .wo, rng := .oneOf [1, 2] } -- activate
  else
  if j = 0x7 then some { ty := .u16, acc := .ro, dflt := Config.minEpoch.zeroExtend 64 } -- fused_min_epoch
  else
  if j = 0x8 then some { ty := .u8, acc := .ro, dflt := Config.keyRevocation.zeroExtend 64 } -- key_revocation
  else
  if j = 0x9 then some { ty := .dom, acc := .ro } -- running_digest
  else
  none

/-- Objects 0x1020. -/
def ix1020 (j : Nat) : Option Entry :=
  if 0x1 ≤ j ∧ j ≤ 0x4 then some { ty := .u8, acc := .ro } -- pc_state
  else
  if j = 0x5 then some { ty := .u16, acc := .ro, dflt := 0x8421 } -- duty_map
  else
  if j = 0x6 then some { ty := .u32, acc := .rw, rng := .zero } -- pc_resets
  else
  none

/-- Objects 0x1030. -/
def ix1030 (j : Nat) : Option Entry :=
  if j = 0x1 then some { ty := .bool, acc := .rw, cls := .b } -- window_drain
  else
  if j = 0x2 then some { ty := .u32, acc := .rw, dflt := 100, rng := .rng 10 10000 1, cls := .b } -- drain_timeout_ms
  else
  if j = 0x3 then some { ty := .u16, acc := .ro } -- staged_writes
  else
  if j = 0x4 then some { ty := .u16, acc := .ro } -- channels_open
  else
  if j = 0x5 then some { ty := .u64, acc := .rw, rng := .zero } -- drains
  else
  if j = 0x6 then some { ty := .u64, acc := .rw, rng := .zero } -- drain_timeouts
  else
  if 0x7 ≤ j ∧ j ≤ 0xa then some { ty := .u64, acc := .ro } -- accesses
  else
  if j = 0xb then some { ty := .u64, acc := .rw, rng := .zero } -- frame_errors
  else
  if j = 0xc then some { ty := .u32, acc := .rw, dflt := 1000, rng := .rng 10 60000 1, cls := .b } -- channel_idle_ms
  else
  none

/-- Objects 0x1080. -/
def ix1080 (j : Nat) : Option Entry :=
  if j = 0x1 then some { ty := .u64, acc := .rw, rng := .zero } -- near_miss_total
  else
  if j = 0x2 then some { ty := .u64, acc := .rw, rng := .zero } -- near_miss_probe
  else
  if j = 0x3 then some { ty := .u64, acc := .rw, rng := .zero } -- near_miss_memory
  else
  if j = 0x4 then some { ty := .u64, acc := .rw, rng := .zero } -- near_miss_link
  else
  if j = 0x5 then some { ty := .u64, acc := .rw, rng := .zero } -- near_miss_dictionary
  else
  if j = 0x6 then some { ty := .u64, acc := .rw, rng := .zero } -- near_miss_internal
  else
  if j = 0x7 then some { ty := .u64, acc := .rw, rng := .zero } -- late_total
  else
  if j = 0x8 then some { ty := .time, acc := .ro } -- last_near_miss_time
  else
  if j = 0x9 then some { ty := .u32, acc := .ro } -- last_near_miss_site
  else
  none

/-- Objects 0x1100. -/
def ix1100 (j : Nat) : Option Entry :=
  if j = 0x1 then some { ty := .u8, acc := .ro, dflt := BitVec.ofNat 64 Config.lifeCycle.val } -- lc_state
  else
  if j = 0x2 then some { ty := .u8, acc := .wo, rng := .rng 0 4 1 } -- lc_transition
  else
  if j = 0x3 then some { ty := .dom, acc := .wo } -- lc_token
  else
  if j = 0x4 then some { ty := .u8, acc := .ro, dflt := 0xff } -- lc_pending
  else
  if j = 0x5 then some { ty := .u8, acc := .ro, dflt := Config.lifeCycleTransitions.zeroExtend 64 } -- lc_transitions
  else
  if j = 0x6 then some { ty := .u64, acc := .ro, dflt := Config.nonce 0 } -- lc_nonce
  else
  none

/-- Objects 0x1200. -/
def ix1200 (j : Nat) : Option Entry :=
  if j = 0x1 then some { ty := .time, acc := .ro, keep := true } -- global_time
  else
  if j = 0x2 then some { ty := .u8, acc := .rw, rng := .oneOf [0, 1, 2], cls := .a, keep := true } -- time_mode
  else
  if j = 0x3 then some { ty := .u8, acc := .ro, keep := true } -- time_status
  else
  if j = 0x4 then some { ty := .time, acc := .wo, keep := true } -- load_at_pulse
  else
  if j = 0x5 then some { ty := .time, acc := .ro, keep := true } -- last_load
  else
  if j = 0x6 then some { ty := .u32, acc := .rw, rng := .rng 0 16000 1, cls := .b, keep := true } -- pulse_delay_comp
  else
  if j = 0x7 then some { ty := .u64, acc := .ro, dflt := 0x666666666, keep := true } -- tick_addend
  else
  if j = 0x8 then some { ty := .u32, acc := .rw, dflt := 200, rng := .rng 10 1000 1, cls := .b, keep := true } -- slew_limit_ppm
  else
  if j = 0x9 then some { ty := .s64, acc := .ro, keep := true } -- rate_error
  else
  if j = 0xa then some { ty := .s64, acc := .ro, keep := true } -- last_offset
  else
  if j = 0xb then some { ty := .u64, acc := .rw, rng := .zero, keep := true } -- max_abs_offset
  else
  if j = 0xc then some { ty := .u32, acc := .rw, rng := .zero, keep := true } -- forward_steps
  else
  if j = 0xd then some { ty := .u32, acc := .rw, rng := .zero, keep := true } -- refclk_losses
  else
  none

/-- Objects 0x1201. -/
def ix1201 (j : Nat) : Option Entry :=
  if j = 0x1 then some { ty := .u32, acc := .rw, dflt := 0xffffffff, cls := .b, keep := true } -- time_root_rank
  else
  if j = 0x2 then some { ty := .bool, acc := .ro, keep := true } -- is_root
  else
  if j = 0x3 then some { ty := .u32, acc := .rw, dflt := 15625, rng := .rng 1000 1000000 1, cls := .b, keep := true } -- beacon_period_us
  else
  if j = 0x4 then some { ty := .u8, acc := .rw, dflt := 4, rng := .rng 2 16 1, cls := .b, keep := true } -- beacon_loss_limit
  else
  if j = 0x5 then some { ty := .bool, acc := .rw, dflt := 1, cls := .b, keep := true } -- residence_correction
  else
  if j = 0x6 then some { ty := .s64, acc := .rw, cls := .b, keep := true } -- asymmetry_comp
  else
  if j = 0x7 then some { ty := .time, acc := .ro, keep := true } -- last_exchange
  else
  if j = 0x8 then some { ty := .u64, acc := .ro, keep := true } -- round_trip
  else
  if j = 0x9 then some { ty := .u64, acc := .rw, rng := .zero, keep := true } -- exchanges_lost
  else
  if j = 0xa then some { ty := .u32, acc := .rw, rng := .zero, keep := true } -- holdover_entries
  else
  none

/-- Objects 0x1210. -/
def ix1210 (j : Nat) : Option Entry :=
  if 0x1 ≤ j ∧ j ≤ 0x8 then some { ty := .u64, acc := .ro, dom := some (j - 1), keep := true } -- step_counter
  else
  if 0x9 ≤ j ∧ j ≤ 0x10 then some { ty := .time, acc := .ro, dom := some (j - 9), keep := true } -- last_boundary
  else
  if 0x11 ≤ j ∧ j ≤ 0x18 then some { ty := .u64, acc := .rw, rng := .mask 0xFFFFFFFFFFFF, cls := .a, dom := some (j - 0x11), keep := true } -- start_value
  else
  if j = 0x19 then some { ty := .u8, acc := .ro, keep := true } -- active
  else
  if 0x1a ≤ j ∧ j ≤ 0x21 then some { ty := .u8, acc := .wo, rng := .oneOf [1, 2], dom := some (j - 0x1a), keep := true } -- domain_control
  else
  none

/-- Objects 0x1220. -/
def ix1220 (j : Nat) : Option Entry :=
  if j = 0x1 then some { ty := .time, acc := .rw, keep := true } -- start_time
  else
  if j = 0x2 then some { ty := .u8, acc := .rw, cls := .b, keep := true } -- start_domains
  else
  if j = 0x3 then some { ty := .u8, acc := .ro, keep := true } -- start_status
  else
  if j = 0x4 then some { ty := .u32, acc := .rw, dflt := 500, rng := .rng 50 100000 1, cls := .b, keep := true } -- min_lead_us
  else
  if j = 0x5 then some { ty := .u32, acc := .rw, dflt := 20, rng := .rng 1 1000 1, cls := .b, keep := true } -- arm_guard_us
  else
  if j = 0x6 then some { ty := .u32, acc := .rw, dflt := 10000, rng := .rng 1 60000 1, cls := .b, keep := true } -- max_horizon_ms
  else
  if j = 0x7 then some { ty := .time, acc := .ro, keep := true } -- actual_start
  else
  if j = 0x8 then some { ty := .u16, acc := .ro, keep := true } -- start_spread
  else
  if j = 0x9 then some { ty := .u8, acc := .wo, rng := .oneOf [1], keep := true } -- cancel
  else
  if 0xa ≤ j ∧ j ≤ 0x11 then some { ty := .time, acc := .ro, dom := some (j - 0xa), keep := true } -- domain_arm
  else
  none

/-- Objects 0x1300. -/
def ix1300 (j : Nat) : Option Entry :=
  if j = 0x1 then some { ty := .u16, acc := .const, dflt := 600 } -- physical_cores
  else
  if j = 0x2 then some { ty := .u8, acc := .const, dflt := 25 } -- rows
  else
  if j = 0x3 then some { ty := .u8, acc := .const, dflt := 24 } -- columns
  else
  if j = 0x4 then some { ty := .u16, acc := .ro } -- logical_count
  else
  if j = 0x5 then some { ty := .u16, acc := .ro } -- reserve_count
  else
  if j = 0x6 then some { ty := .dom, acc := .ro } -- floor_plan
  else
  if j = 0x7 then some { ty := .u32, acc := .ro } -- floor_plan_version
  else
  if j = 0x8 then some { ty := .u8, acc := .rw, rng := .oneOf [0, 1], cls := .k, keep := true } -- map_policy
  else
  if j = 0x9 then some { ty := .dom, acc := .rw, cls := .k, keep := true } -- host_map
  else
  none

/-- Objects 0x1301. -/
def ix1301 (j : Nat) : Option Entry :=
  if j = 0x1 then some { ty := .dom, acc := .ro } -- logical_map
  else
  if j = 0x2 then some { ty := .u64, acc := .rw, rng := .zero } -- map_changes
  else
  if j = 0x3 then some { ty := .time, acc := .ro } -- last_map_change
  else
  none

/-- Objects 0x1302. -/
def ix1302 (j : Nat) : Option Entry :=
  if j = 0x1 then some { ty := .bool, acc := .rw, dflt := 1, cls := .b } -- auto_spare
  else
  if j = 0x2 then some { ty := .u8, acc := .rw, dflt := 8, rng := .rng 0 64 1, cls := .b } -- fence_limit_24h
  else
  if j = 0x3 then some { ty := .bool, acc := .rw, cls := .b } -- spare_from_idle
  else
  if j = 0x4 then some { ty := .u32, acc := .rw, dflt := 10000, rng := .rng 100 600000 1, cls := .b } -- refill_timeout_ms
  else
  if j = 0x5 then some { ty := .u32, acc := .rw, dflt := 60000, rng := .rng 1000 3600000 1, cls := .b } -- host_refill_timeout_ms
  else
  if j = 0x6 then some { ty := .u8, acc := .ro } -- sparing_state
  else
  if j = 0x7 then some { ty := .u64, acc := .rw, rng := .zero } -- sparings
  else
  if j = 0x8 then some { ty := .dom, acc := .ro } -- last_sparing
  else
  if j = 0x9 then some { ty := .u32, acc := .wo, rng := .mask 0x1FFFF } -- fence_order
  else
  if j = 0xa then some { ty := .u16, acc := .wo } -- unfence
  else
  if j = 0xb then some { ty := .u8, acc := .wo, rng := .rng 0 7 1 } -- host_refill_done
  else
  if j = 0xc then some { ty := .u8, acc := .ro } -- fences_24h
  else
  if j = 0xd then some { ty := .u8, acc := .wo, rng := .mask 0x7F } -- sparing_action
  else
  if 0x10 ≤ j ∧ j ≤ 0x17 then some { ty := .u8, acc := .ro, dom := some (j - 0x10) } -- domain_sparing_state
  else
  none

/-- Objects 0x1303. -/
def ix1303 (j : Nat) : Option Entry :=
  if 0x1 ≤ j ∧ j ≤ 0x8 then some { ty := .dom, acc := .rw, cls := .a, dom := some (j - 1) } -- domain_cores
  else
  none

/-- Objects 0x1304. -/
def ix1304 (j : Nat) : Option Entry :=
  if j = 0x1 then some { ty := .u16, acc := .ro } -- attic_count
  else
  if j = 0x2 then some { ty := .dom, acc := .ro } -- attic
  else
  if j = 0x3 then some { ty := .u16, acc := .rwLc, dflt := 0xffff, lc := 11 } -- attic_release
  else
  none

/-- Objects 0x1305. -/
def ix1305 (j : Nat) : Option Entry :=
  if j = 0x1 then some { ty := .u32, acc := .rw, dflt := 0xffffffff, cls := .a } -- logical_rank
  else
  if j = 0x2 then some { ty := .u32, acc := .ro } -- rank_changes
  else
  if j = 0x3 then some { ty := .u32, acc := .wo } -- rank_replaced
  else
  none

/-- Objects 0x1306. -/
def ix1306 (j : Nat) : Option Entry :=
  if 0x1 ≤ j ∧ j ≤ 0x8 then some { ty := .dom, acc := .rw, cls := .a, dom := some (j - 1) } -- refill_plan
  else
  none

/-- Objects 0x2000. -/
def ix2000 (j : Nat) : Option Entry :=
  if j = 0x1 then some { ty := .u32, acc := .rw, dflt := 0x100000, rng := .rng 1 4294967295 1, cls := .b } -- gamma_mxfp8
  else
  if j = 0x2 then some { ty := .u32, acc := .rw, dflt := 0x100000, rng := .rng 1 0xFFFFFFFF 1, cls := .b } -- gamma_mxfp6
  else
  if j = 0x3 then some { ty := .u32, acc := .rw, dflt := 0x800000, rng := .rng 1 0xFFFFFFFF 1, cls := .b } -- gamma_bf16
  else
  if j = 0x4 then some { ty := .u32, acc := .rw, dflt := 0x100000, rng := .rng 1 4294967295 1, cls := .b } -- beta_attention
  else
  if j = 0x5 then some { ty := .u8, acc := .rw, dflt := 2, rng := .rng 0 16 1, cls := .b } -- rescale_ulp
  else
  if j = 0x6 then some { ty := .u32, acc := .rw, dflt := 2000, rng := .rng 500 2000 1, cls := .b } -- check_timeout_ns
  else
  if j = 0x7 then some { ty := .u8, acc := .rw, dflt := 2, rng := .rng 1 16 1, cls := .b } -- suspect_limit
  else
  if j = 0x8 then some { ty := .u32, acc := .rw, dflt := 600, rng := .rng 1 86400 1, cls := .b } -- suspect_window_s
  else
  if j = 0x9 then some { ty := .bool, acc := .rw, dflt := 1, cls := .b } -- auto_fence
  else
  if j = 0xa then some { ty := .u32, acc := .const, dflt := 65536 } -- max_tile_k
  else
  none

/-- Objects 0x2001. -/
def ix2001 (j : Nat) : Option Entry :=
  if 0x1 ≤ j ∧ j ≤ 0x8 then some { ty := .u8, acc := .rw, dflt := 0xf, rng := .mask 0x0F, cls := .b, dom := some (j - 1) } -- domain_checks
  else
  none

/-- Objects 0x2002. -/
def ix2002 (j : Nat) : Option Entry :=
  if j = 0x1 then some { ty := .u64, acc := .rw, rng := .zero } -- tiles_exact
  else
  if j = 0x2 then some { ty := .u64, acc := .rw, rng := .zero } -- tiles_tolerance
  else
  if j = 0x3 then some { ty := .u64, acc := .rw, rng := .zero } -- tiles_window_exceeded
  else
  if j = 0x4 then some { ty := .u64, acc := .rw, rng := .zero } -- columns_unchecked
  else
  if j = 0x5 then some { ty := .u64, acc := .rw, rng := .zero } -- vector_ops_checked
  else
  if j = 0x6 then some { ty := .u64, acc := .rw, rng := .zero } -- transfers_checked
  else
  if j = 0x7 then some { ty := .u64, acc := .rw, rng := .zero } -- attention_rows_checked
  else
  if j = 0x8 then some { ty := .u64, acc := .rw, rng := .zero } -- empty_rows
  else
  if j = 0x9 then some { ty := .u64, acc := .rw, rng := .zero } -- mismatches
  else
  if j = 0xa then some { ty := .u64, acc := .rw, rng := .zero } -- check_timeouts
  else
  if j = 0xb then some { ty := .u64, acc := .rw, rng := .zero } -- late_results
  else
  if j = 0xc then some { ty := .u64, acc := .rw, rng := .zero } -- steps_unchecked
  else
  if j = 0xd then some { ty := .time, acc := .ro } -- last_mismatch_time
  else
  if j = 0xe then some { ty := .dom, acc := .ro } -- last_mismatch
  else
  none

/-- Objects 0x2100. -/
def ix2100 (j : Nat) : Option Entry :=
  if 0x1 ≤ j ∧ j ≤ 0x8 then some { ty := .u8, acc := .rw, dflt := 3, rng := .rng 0 6 1, cls := .b, dom := some (j - 1) } -- proof_fraction
  else
  none

/-- Objects 0x2101. -/
def ix2101 (j : Nat) : Option Entry :=
  if 0x1 ≤ j ∧ j ≤ 0x8 then some { ty := .u8, acc := .rw, rng := .oneOf [0, 1], cls := .b, dom := some (j - 1) } -- release_mode
  else
  none

/-- Objects 0x2102. -/
def ix2102 (j : Nat) : Option Entry :=
  if j = 0x1 then some { ty := .u8, acc := .rw, dflt := 4, rng := .rng 1 8 1, cls := .x } -- commit_window
  else
  if j = 0x2 then some { ty := .u32, acc := .rw, dflt := 20000, rng := .rng 100 1000000 1, cls := .b } -- proof_timeout_us
  else
  if j = 0x3 then some { ty := .u8, acc := .rw, dflt := 2, rng := .rng 1 16 1, cls := .b } -- proof_suspect_limit
  else
  if j = 0x4 then some { ty := .u8, acc := .rw, rng := .oneOf [0, 1], cls := .b } -- depth_policy
  else
  if j = 0x5 then some { ty := .bool, acc := .rw, dflt := 1, cls := .x } -- reserve_first
  else
  if j = 0x6 then some { ty := .u32, acc := .rw, dflt := 64, rng := .rng 16 256 1, cls := .x } -- proof_scratch_mib
  else
  if j = 0x7 then some { ty := .u8, acc := .rw, rng := .rng 0 6 1, cls := .x } -- cross_chip_share
  else
  none

/-- Objects 0x2103. -/
def ix2103 (j : Nat) : Option Entry :=
  if 0x1 ≤ j ∧ j ≤ 0x8 then some { ty := .u64, acc := .rw, cls := .b, dom := some (j - 1) } -- colophon_seed
  else
  none

/-- Objects 0x2104. -/
def ix2104 (j : Nat) : Option Entry :=
  if 0x1 ≤ j ∧ j ≤ 0x8 then some { ty := .u64, acc := .ro, dflt := ones64, dom := some (j - 1) } -- committed_step
  else
  if 0x9 ≤ j ∧ j ≤ 0x10 then some { ty := .u64, acc := .ro, dflt := ones64, dom := some (j - 9) } -- released_step
  else
  if 0x11 ≤ j ∧ j ≤ 0x18 then some { ty := .u8, acc := .ro, dom := some (j - 0x11) } -- provisional_depth
  else
  if 0x19 ≤ j ∧ j ≤ 0x20 then some { ty := .dom, acc := .ro, dom := some (j - 0x19) } -- chip_colophon
  else
  if 0x21 ≤ j ∧ j ≤ 0x28 then some { ty := .u64, acc := .rw, rng := .zero, dom := some (j - 0x21) } -- age_commits
  else
  none

/-- Objects 0x2105. -/
def ix2105 (j : Nat) : Option Entry :=
  if j = 0x1 then some { ty := .u64, acc := .rw, rng := .zero } -- proofs_issued
  else
  if j = 0x2 then some { ty := .u64, acc := .rw, rng := .zero } -- proofs_passed
  else
  if j = 0x3 then some { ty := .u64, acc := .rw, rng := .zero } -- proofs_failed
  else
  if j = 0x4 then some { ty := .u64, acc := .rw, rng := .zero } -- proof_core_faults
  else
  if j = 0x5 then some { ty := .u64, acc := .rw, rng := .zero } -- proofs_unresolved
  else
  if j = 0x6 then some { ty := .u64, acc := .rw, rng := .zero } -- proofs_lost
  else
  if j = 0x7 then some { ty := .u64, acc := .rw, rng := .zero } -- late_proof_results
  else
  if j = 0x8 then some { ty := .u64, acc := .rw, rng := .zero } -- barrier_holds
  else
  if j = 0x9 then some { ty := .u64, acc := .rw, rng := .zero } -- barrier_hold_ns
  else
  if j = 0xa then some { ty := .u64, acc := .rw, rng := .zero } -- rollbacks
  else
  if j = 0xb then some { ty := .u64, acc := .rw, rng := .zero } -- steps_discarded
  else
  if j = 0xc then some { ty := .u64, acc := .rw, rng := .zero } -- spills_deferred
  else
  if j = 0xd then some { ty := .u64, acc := .rw, rng := .zero } -- margin_proofs_charged
  else
  if j = 0xe then some { ty := .u64, acc := .rw, rng := .zero } -- not_proofable
  else
  none

/-- Objects 0x2106. -/
def ix2106 (j : Nat) : Option Entry :=
  if j = 0x1 then some { ty := .u32, acc := .ro } -- report_count
  else
  if j = 0x2 then some { ty := .dom, acc := .ro } -- last_report
  else
  if j = 0x3 then some { ty := .u32, acc := .rw, cls := .b } -- report_ack
  else
  none

/-- Objects 0x2107. -/
def ix2107 (j : Nat) : Option Entry :=
  if j = 0x1 then some { ty := .u32, acc := .rw, dflt := 262144, rng := .rng 16384 1048576 1, cls := .a } -- ledger_capacity
  else
  if j = 0x2 then some { ty := .u32, acc := .ro } -- ledger_used
  else
  if j = 0x3 then some { ty := .u64, acc := .rw, rng := .zero } -- ledger_full_holds
  else
  none

/-- Objects 0x2108. -/
def ix2108 (j : Nat) : Option Entry :=
  if 0x1 ≤ j ∧ j ≤ 0x8 then some { ty := .u64, acc := .rw, cls := .a, dom := some (j - 1) } -- program_seed
  else
  if j = 0x9 then some { ty := .u64, acc := .wo, rng := .mask 0xFFF8FFFFFFFFFFFF } -- regen_request
  else
  if j = 0xa then some { ty := .u8, acc := .ro } -- regen_status
  else
  if j = 0xb then some { ty := .dom, acc := .ro } -- regen_result
  else
  if j = 0xc then some { ty := .u8, acc := .wo, rng := .oneOf [1] } -- regen_release
  else
  if 0x11 ≤ j ∧ j ≤ 0x18 then some { ty := .dom, acc := .ro, dom := some (j - 0x11) } -- step_timing
  else
  if 0x19 ≤ j ∧ j ≤ 0x20 then some { ty := .u64, acc := .rw, rng := .zero, dom := some (j - 0x19) } -- disturbed_steps
  else
  none

/-- Objects 0x2109. -/
def ix2109 (j : Nat) : Option Entry :=
  if j = 0x1 then some { ty := .u64, acc := .rw, rng := .zero } -- steps_abandoned
  else
  if j = 0x2 then some { ty := .u64, acc := .ro, dflt := ones64 } -- last_abandoned
  else
  if j = 0x3 then some { ty := .u8, acc := .ro, dflt := 0xff } -- last_abandon_port
  else
  none

/-- Objects 0x210A. -/
def ix210A (j : Nat) : Option Entry :=
  if j = 0x1 then some { ty := .u64, acc := .ro, dflt := ones64 } -- job_proven_step
  else
  if j = 0x2 then some { ty := .dom, acc := .ro } -- job_colophons
  else
  if j = 0x3 then some { ty := .u64, acc := .rw, rng := .zero } -- cross_chip_proofs
  else
  if j = 0x4 then some { ty := .u64, acc := .rw, rng := .zero } -- job_rollbacks
  else
  none

/-- Objects 0x2200. -/
def ix2200 (j : Nat) : Option Entry :=
  if j = 0x1 then some { ty := .u8, acc := .rw, dflt := 0x7, rng := .mask 0x07, cls := .b } -- screen_enable
  else
  if j = 0x2 then some { ty := .u32, acc := .rw, dflt := 3600, rng := .rng 60 604800 1, cls := .b } -- specimen_interval_s
  else
  if j = 0x3 then some { ty := .u32, acc := .rw, dflt := 2000, rng := .rng 200 100000 1, cls := .b } -- specimen_timeout_us
  else
  if j = 0x4 then some { ty := .u32, acc := .rw, dflt := 600, rng := .rng 10 86400 1, cls := .b } -- crosscore_interval_s
  else
  if j = 0x5 then some { ty := .u64, acc := .rw, cls := .b } -- crosscore_seed
  else
  if j = 0x6 then some { ty := .u32, acc := .rw, dflt := 20000, rng := .rng 1000 1000000 1, cls := .b } -- crosscore_timeout_us
  else
  if j = 0x7 then some { ty := .u32, acc := .rw, dflt := 4096, rng := .rng 32 65536 32, cls := .b } -- crosscore_k_max
  else
  none

/-- Objects 0x2201. -/
def ix2201 (j : Nat) : Option Entry :=
  if j = 0x1 then some { ty := .u16, acc := .rw, dflt := 120, rng := .rng 20 500 1, cls := .b } -- check_budget
  else
  if j = 0x2 then some { ty := .u32, acc := .rw, dflt := 10000, rng := .rng 1000 600000 1, cls := .b } -- budget_window_ms
  else
  if j = 0x3 then some { ty := .u16, acc := .ro } -- share_total
  else
  if j = 0x4 then some { ty := .u16, acc := .ro } -- share_galley
  else
  if j = 0x5 then some { ty := .u16, acc := .ro } -- share_proof
  else
  if j = 0x6 then some { ty := .u16, acc := .ro } -- share_screening
  else
  if j = 0x7 then some { ty := .u64, acc := .rw, rng := .zero } -- budget_exceeded_windows
  else
  if j = 0x8 then some { ty := .u64, acc := .rw, rng := .zero } -- screening_deferred
  else
  none

/-- Objects 0x2202. -/
def ix2202 (j : Nat) : Option Entry :=
  if j = 0x1 then some { ty := .u16, acc := .rw, dflt := 60, rng := .rng 10 150 5, cls := .b } -- probe_floor_mv
  else
  if j = 0x2 then some { ty := .u16, acc := .rw, dflt := 32, rng := .rng 4 1024 1, cls := .b } -- dwell_units
  else
  if j = 0x3 then some { ty := .u32, acc := .rw, dflt := 20, rng := .rng 5 1000 1, cls := .b } -- settle_timeout_us
  else
  if j = 0x4 then some { ty := .u32, acc := .rw, dflt := 168, rng := .rng 1 8760 1, cls := .b } -- reprobe_interval_h
  else
  if j = 0x5 then some { ty := .u8, acc := .rw, dflt := 2, rng := .rng 0 8 1, cls := .b } -- probe_concurrency
  else
  if j = 0x6 then some { ty := .u64, acc := .rw, rng := .zero } -- probes_done
  else
  if j = 0x7 then some { ty := .u64, acc := .rw, rng := .zero } -- unconfirmed_mismatches
  else
  if j = 0x8 then some { ty := .u32, acc := .rw, rng := .zero } -- regulator_timeouts
  else
  none

/-- Objects 0x2203. -/
def ix2203 (j : Nat) : Option Entry :=
  if j = 0x1 then some { ty := .bool, acc := .rw, dflt := 1, cls := .b } -- auto_trim
  else
  if j = 0x2 then some { ty := .u16, acc := .rw, dflt := 25, rng := .rng 0 100 5, cls := .b } -- trim_down_limit_mv
  else
  if j = 0x3 then some { ty := .u16, acc := .rw, dflt := 20, rng := .rng 0 50 5, cls := .b } -- trim_up_limit_mv
  else
  if j = 0x4 then some { ty := .u16, acc := .rw, dflt := 30, rng := .rng 10 100 5, cls := .b } -- guard_mv
  else
  if j = 0x5 then some { ty := .u32, acc := .rw, dflt := 720, rng := .rng 24 87600 1, cls := .b } -- map_max_age_h
  else
  if j = 0x6 then some { ty := .u16, acc := .rw, dflt := 15, rng := .rng 5 60 1, cls := .b } -- map_temp_delta_c
  else
  if j = 0x7 then some { ty := .u64, acc := .rw, rng := .zero } -- trim_reverts
  else
  if j = 0x8 then some { ty := .u16, acc := .ro } -- margin_weak_cores
  else
  if j = 0x9 then some { ty := .dom, acc := .ro } -- guard_map
  else
  none

/-- Objects 0x2204. -/
def ix2204 (j : Nat) : Option Entry :=
  if j = 0x1 then some { ty := .u64, acc := .rw, rng := .zero } -- specimen_runs
  else
  if j = 0x2 then some { ty := .u64, acc := .rw, rng := .zero } -- specimen_failures
  else
  if j = 0x3 then some { ty := .u64, acc := .rw, rng := .zero } -- specimen_transients
  else
  if j = 0x4 then some { ty := .u64, acc := .rw, rng := .zero } -- selfcheck_failures
  else
  if j = 0x5 then some { ty := .u64, acc := .rw, rng := .zero } -- crosscore_runs
  else
  if j = 0x6 then some { ty := .u64, acc := .rw, rng := .zero } -- crosscore_disagreements
  else
  if j = 0x7 then some { ty := .u64, acc := .rw, rng := .zero } -- crosscore_unresolved
  else
  if j = 0x8 then some { ty := .u64, acc := .rw, rng := .zero } -- screening_timeouts
  else
  if j = 0x9 then some { ty := .dom, acc := .ro } -- last_screen_record
  else
  if j = 0xa then some { ty := .time, acc := .ro } -- last_screen_time
  else
  none

/-- Objects 0x2206. -/
def ix2206 (j : Nat) : Option Entry :=
  if j = 0x1 then some { ty := .u32, acc := .rw, dflt := 1000, rng := .rng 100 60000 1, cls := .b } -- sample_period_ms
  else
  if j = 0x2 then some { ty := .u16, acc := .rw, dflt := 150, rng := .rng 20 500 1, cls := .b } -- link_warn_mui
  else
  if j = 0x3 then some { ty := .u16, acc := .rw, dflt := 12, rng := .rng 2 100 1, cls := .b } -- link_warn_mv
  else
  if j = 0x4 then some { ty := .u16, acc := .rw, dflt := 12, rng := .rng 2 100 1, cls := .b } -- dram_shift_warn_ps
  else
  if j = 0x5 then some { ty := .u16, acc := .rw, dflt := 20, rng := .rng 2 200 1, cls := .b } -- dram_margin_warn_ps
  else
  if j = 0x6 then some { ty := .u64, acc := .rw, rng := .zero } -- link_margin_events
  else
  if j = 0x7 then some { ty := .u64, acc := .rw, rng := .zero } -- dram_margin_events
  else
  none

/-- Objects 0x2300. -/
def ix2300 (j : Nat) : Option Entry :=
  if j = 0x1 then some { ty := .u32, acc := .rw, dflt := 1000, rng := .rng 1 1000000 1, cls := .b } -- ce_rate_limit
  else
  if j = 0x2 then some { ty := .u16, acc := .rw, dflt := 8, rng := .rng 1 1000 1, cls := .b } -- repair_threshold
  else
  if j = 0x3 then some { ty := .u32, acc := .rw, dflt := 2000, rng := .rng 100 25000 1, cls := .b } -- scan_rate_mbps
  else
  if j = 0x4 then some { ty := .u8, acc := .rw, dflt := 1, rng := .oneOf [0, 1], cls := .b } -- digest_action
  else
  if j = 0x5 then some { ty := .u8, acc := .rw, dflt := 4, rng := .rng 2 16 1, cls := .b } -- stale_factor
  else
  if j = 0x6 then some { ty := .u8, acc := .rw, dflt := 1, rng := .rng 0 3 1, cls := .b } -- kv_fill_retries
  else
  if j = 0x7 then some { ty := .bool, acc := .rw, dflt := 1, cls := .b } -- scrub_writeback
  else
  if j = 0x8 then some { ty := .u8, acc := .rw, rng := .rng 0 8 1, cls := .b } -- host_scan_engines
  else
  none

/-- Objects 0x2301. -/
def ix2301 (j : Nat) : Option Entry :=
  if 0x1 ≤ j ∧ j ≤ 0x8 then some { ty := .u8, acc := .ro, dom := some (j - 1) } -- poison_state
  else
  if 0x9 ≤ j ∧ j ≤ 0x10 then some { ty := .u8, acc := .wo, rng := .oneOf [1, 2], dom := some (j - 9) } -- poison_action
  else
  if j = 0x11 then some { ty := .dom, acc := .ro } -- last_poison
  else
  if j = 0x12 then some { ty := .u64, acc := .rw, rng := .zero } -- poison_consumptions
  else
  none

/-- Objects 0x2302. -/
def ix2302 (j : Nat) : Option Entry :=
  if j = 0x1 then some { ty := .u64, acc := .rw, rng := .zero } -- corrected_total
  else
  if j = 0x2 then some { ty := .u64, acc := .rw, rng := .zero } -- uncorrectable_total
  else
  if j = 0x3 then some { ty := .u64, acc := .rw, rng := .zero } -- scrub_writebacks
  else
  if j = 0x4 then some { ty := .u64, acc := .rw, rng := .zero } -- scrub_writebacks_dropped
  else
  if j = 0x5 then some { ty := .u64, acc := .rw, rng := .zero } -- digest_passes
  else
  if j = 0x6 then some { ty := .u64, acc := .rw, rng := .zero } -- digest_mismatches
  else
  if j = 0x7 then some { ty := .u64, acc := .rw, rng := .zero } -- digest_transients
  else
  if j = 0x8 then some { ty := .u64, acc := .rw, rng := .zero } -- digest_stale_events
  else
  if j = 0x9 then some { ty := .u64, acc := .rw, rng := .zero } -- passes_abandoned
  else
  if j = 0xa then some { ty := .u64, acc := .rw, rng := .zero } -- kv_spills
  else
  if j = 0xb then some { ty := .u64, acc := .rw, rng := .zero } -- kv_fills
  else
  if j = 0xc then some { ty := .u64, acc := .rw, rng := .zero } -- kv_fill_failures
  else
  if j = 0xd then some { ty := .u64, acc := .rw, rng := .zero } -- fill_refusals
  else
  if j = 0xe then some { ty := .u64, acc := .rw, rng := .zero } -- reserved_refusals
  else
  none

/-- Objects 0x2303. -/
def ix2303 (j : Nat) : Option Entry :=
  if j = 0x1 then some { ty := .dom, acc := .ro } -- last_ue
  else
  if j = 0x2 then some { ty := .dom, acc := .ro } -- last_kv
  else
  if j = 0x3 then some { ty := .u16, acc := .ro, dflt := 0xffff } -- last_digest_mismatch
  else
  none

/-- Objects 0x2400. -/
def ix2400 (j : Nat) : Option Entry :=
  if j = 0x1 then some { ty := .u32, acc := .ro } -- sticky_total
  else
  if j = 0x2 then some { ty := .u8, acc := .ro, dflt := 0xff } -- highest_class
  else
  if j = 0x3 then some { ty := .u8, acc := .ro } -- fault_state
  else
  if j = 0x4 then some { ty := .u8, acc := .rw, dflt := 0x2, rng := .mask 0x03, cls := .b } -- hold_policy
  else
  if j = 0x5 then some { ty := .u8, acc := .wo, rng := .oneOf [1] } -- hold_release
  else
  if j = 0x6 then some { ty := .u8, acc := .ro } -- pin_state
  else
  if j = 0x7 then some { ty := .u16, acc := .ro } -- capture_used
  else
  if j = 0x8 then some { ty := .u64, acc := .rw, rng := .zero } -- captures_dropped
  else
  if j = 0x9 then some { ty := .u32, acc := .rw, dflt := 2000, rng := .orZero 100 600000, cls := .b } -- power_cycle_delay_ms
  else
  if j = 0xa then some { ty := .u8, acc := .wo, rng := .oneOf [1] } -- power_cycle_now
  else
  if j = 0xb then some { ty := .dom, acc := .ro } -- last_record
  else
  if 0xc ≤ j ∧ j ≤ 0xf then some { ty := .u64, acc := .ro } -- sticky_summary
  else
  if j = 0x10 then some { ty := .u64, acc := .rw, rng := .zero } -- handling_timeouts
  else
  if j = 0x11 then some { ty := .u32, acc := .ro } -- record_count
  else
  none

/-- Objects 0x2500. -/
def ix2500 (j : Nat) : Option Entry :=
  if j = 0x1 then some { ty := .u8, acc := .ro } -- bringup_stage
  else
  if j = 0x2 then some { ty := .u8, acc := .ro } -- bringup_kind
  else
  if j = 0x3 then some { ty := .time, acc := .ro } -- bringup_start
  else
  if j = 0x4 then some { ty := .time, acc := .ro } -- ready_time
  else
  if j = 0x5 then some { ty := .u32, acc := .ro } -- bringup_ms
  else
  if j = 0x6 then some { ty := .u32, acc := .ro } -- bringup_count
  else
  if j = 0x7 then some { ty := .u32, acc := .rw, dflt := 3500, rng := .rng 1000 60000 1, cls := .b, keep := true } -- cold_limit_ms
  else
  if j = 0x8 then some { ty := .u32, acc := .rw, dflt := 1500, rng := .rng 500 60000 1, cls := .b, keep := true } -- warm_limit_ms
  else
  if j = 0x9 then some { ty := .bool, acc := .rw, cls := .b, keep := true } -- warm_selftest
  else
  if j = 0xa then some { ty := .u8, acc := .rwLc, rng := .oneOf [0, 1], cls := .k, lc := 11, keep := true } -- derivation
  else
  if j = 0xb then some { ty := .u8, acc := .const, dflt := BitVec.ofNat 64 Config.variant.val } -- variant
  else
  if j = 0xc then some { ty := .u8, acc := .ro } -- derivation_in_force
  else
  if j = 0xd then some { ty := .u16, acc := .ro, dflt := 2000 } -- clock_cap_mhz
  else
  if j = 0xe then some { ty := .u16, acc := .ro, dflt := 1500 } -- power_limit_w
  else
  if j = 0xf then some { ty := .u8, acc := .rwLc, rng := .rng 0 8 1, cls := .b, lc := 11, keep := true } -- halt_after
  else
  if j = 0x10 then some { ty := .u8, acc := .woLc, rng := .oneOf [1], lc := 11 } -- continue
  else
  if j = 0x12 then some { ty := .u32, acc := .rw, dflt := 60, rng := .rng 10 1000 1, cls := .b } -- fill_timeout_ms
  else
  if j = 0x13 then some { ty := .u32, acc := .rw, dflt := 500, rng := .rng 100 5000 1, cls := .b } -- mem_train_timeout_ms
  else
  if j = 0x14 then some { ty := .u32, acc := .rw, dflt := 100, rng := .rng 10 10000 1, cls := .b } -- identity_timeout_ms
  else
  if j = 0x15 then some { ty := .u32, acc := .rw, dflt := 10, rng := .rng 5 1000 1, cls := .b } -- specimen_stage_timeout_ms
  else
  if j = 0x16 then some { ty := .u32, acc := .rw, dflt := 900, rng := .rng 0 60000 1, cls := .b } -- time_lock_timeout_ms
  else
  none

/-- Objects 0x2502. -/
def ix2502 (j : Nat) : Option Entry :=
  if 0x1 ≤ j ∧ j ≤ 0x9 then some { ty := .dom, acc := .ro } -- stage_record
  else
  if j = 0xa then some { ty := .dom, acc := .ro } -- time_set_record
  else
  none

/-- Objects 0x2600. -/
def ix2600 (j : Nat) : Option Entry :=
  if j = 0x1 then some { ty := .u8, acc := .ro } -- selftest_state
  else
  if j = 0x2 then some { ty := .u8, acc := .rw, dflt := 32, rng := .rng 1 32 1, cls := .b } -- max_concurrent_cores
  else
  if j = 0x3 then some { ty := .u8, acc := .rw, dflt := 4, rng := .rng 1 32 1, cls := .b } -- service_concurrent_cores
  else
  if j = 0x4 then some { ty := .u8, acc := .rw, rng := .rng 0 7 1, cls := .b } -- lbist_seed
  else
  if j = 0x5 then some { ty := .u32, acc := .rw, dflt := 16384, rng := .rng 1024 262144 1024, cls := .b } -- lbist_patterns
  else
  if j = 0x6 then some { ty := .u32, acc := .rw, dflt := 100, rng := .rng 50 10000 1, cls := .b } -- selftest_timeout_ms
  else
  if j = 0x7 then some { ty := .u32, acc := .wo, rng := .mask 0x7FFFF } -- selftest_request
  else
  if j = 0x8 then some { ty := .u8, acc := .ro } -- request_status
  else
  if j = 0x9 then some { ty := .u8, acc := .wo, rng := .rng 0 3 1 } -- stack_request
  else
  if j = 0xa then some { ty := .dom, acc := .ro } -- last_selftest
  else
  if j = 0xb then some { ty := .u64, acc := .rw, rng := .zero } -- tests_run
  else
  if j = 0xc then some { ty := .u64, acc := .rw, rng := .zero } -- tests_failed
  else
  if j = 0xd then some { ty := .u32, acc := .rw, rng := .zero } -- repairs_found
  else
  if j = 0xe then some { ty := .u64, acc := .ro } -- central_results
  else
  if j = 0xf then some { ty := .u16, acc := .wo } -- selftest_abort
  else
  none

/-- Objects 0x2601. -/
def ix2601 (j : Nat) : Option Entry :=
  if j = 0x1 then some { ty := .u8, acc := .ro } -- scan_readout
  else
  if j = 0x2 then some { ty := .bool, acc := .rwLc, cls := .b, lc := 11, keep := true } -- forerunner_readout
  else
  if j = 0x3 then some { ty := .u8, acc := .wo, rng := .oneOf [1] } -- key_clear
  else
  if j = 0x4 then some { ty := .time, acc := .ro } -- key_clear_time
  else
  none

/-- Objects 0x2700. -/
def ix2700 (j : Nat) : Option Entry :=
  if j = 0x1 then some { ty := .u8, acc := .rw, dflt := 0xff, cls := .b } -- ring_classes
  else
  if j = 0x2 then some { ty := .bool, acc := .rw, cls := .b } -- ring_stop_on_error
  else
  if j = 0x3 then some { ty := .u16, acc := .rw, dflt := 256, rng := .rng 16 65535 1, cls := .b } -- stall_event_cycles
  else
  none

/-- Objects 0x2701. -/
def ix2701 (j : Nat) : Option Entry :=
  if j = 0x1 then some { ty := .u8, acc := .rw, cls := .b } -- trace_domains
  else
  if j = 0x2 then some { ty := .u64, acc := .rw, rng := .mask 0x3FF3FFFFFFF, cls := .b } -- trace_region
  else
  if j = 0x3 then some { ty := .u32, acc := .rw, rng := .rng 64 268435456 32, cls := .b } -- trace_length
  else
  if j = 0x4 then some { ty := .u8, acc := .rw, rng := .oneOf [0, 1], cls := .b } -- trace_mode
  else
  if j = 0x5 then some { ty := .u64, acc := .ro } -- trace_written
  else
  if j = 0x6 then some { ty := .u16, acc := .rw, dflt := 64, rng := .rng 1 65535 1, cls := .b } -- trace_min_wait
  else
  if j = 0x7 then some { ty := .u64, acc := .rw, rng := .zero } -- trace_dropped
  else
  if j = 0x8 then some { ty := .u8, acc := .ro } -- trace_state
  else
  if j = 0x9 then some { ty := .u32, acc := .ro } -- trace_next
  else
  none

/-- Objects 0x2702. -/
def ix2702 (j : Nat) : Option Entry :=
  if j = 0x1 then some { ty := .u8, acc := .wo, rng := .oneOf [1] } -- clear_all_counters
  else
  none

/-- Objects 0x2750. -/
def ix2750 (j : Nat) : Option Entry :=
  if 0x1 ≤ j ∧ j ≤ 0x8 then some { ty := .u32, acc := .rwLc, rng := .mask 0xFF00FFFF, cls := .b, lc := 11 } -- breakpoint
  else
  if j = 0x9 then some { ty := .u8, acc := .ro } -- bp_state
  else
  if j = 0xa then some { ty := .dom, acc := .ro } -- bp_hit
  else
  if j = 0xb then some { ty := .u8, acc := .wo, rng := .oneOf [1] } -- bp_resume
  else
  if j = 0xc then some { ty := .u32, acc := .rw, dflt := 60, rng := .rng 1 3600 1, cls := .b } -- bp_timeout_s
  else
  if j = 0xd then some { ty := .u32, acc := .rw, dflt := 10, rng := .rng 1 1000 1, cls := .b } -- bp_drain_timeout_ms
  else
  if j = 0xe then some { ty := .u64, acc := .rw, rng := .zero } -- bp_hits
  else
  none

/-- Objects 0x2800. -/
def ix2800 (j : Nat) : Option Entry :=
  if j = 0x1 then some { ty := .u8, acc := .wo, rng := .oneOf [1] } -- freeze_now
  else
  if j = 0x2 then some { ty := .u8, acc := .wo, rng := .oneOf [1] } -- release_now
  else
  if j = 0x3 then some { ty := .time, acc := .rw } -- freeze_at
  else
  if j = 0x4 then some { ty := .time, acc := .rw } -- release_at
  else
  if j = 0x5 then some { ty := .u8, acc := .rw, rng := .oneOf [0, 1], cls := .b } -- freeze_scope
  else
  if j = 0x6 then some { ty := .dom, acc := .rw, cls := .b } -- freeze_cores
  else
  if j = 0x7 then some { ty := .dom, acc := .rw, cls := .b } -- trigger_sources
  else
  if j = 0x8 then some { ty := .u8, acc := .rw, rng := .oneOf [0, 1, 2], cls := .b } -- propagate
  else
  if j = 0x9 then some { ty := .u8, acc := .rw, dflt := 0x1, rng := .mask 0x03, cls := .b } -- pin_mode
  else
  if j = 0xa then some { ty := .u32, acc := .rw, dflt := 10000, rng := .rng 10 600000 1, cls := .b } -- pause_limit_ms
  else
  if j = 0xb then some { ty := .u8, acc := .ro } -- freeze_state
  else
  if j = 0xc then some { ty := .dom, acc := .ro } -- freeze_record
  else
  if j = 0xd then some { ty := .u64, acc := .rw, rng := .zero } -- freezes
  else
  if j = 0xe then some { ty := .bool, acc := .rw, dflt := 1, cls := .b } -- cellar_dump
  else
  if j = 0xf then some { ty := .u32, acc := .rw, dflt := 100, rng := .rng 32 100000 1, cls := .b } -- propagate_lead_us
  else
  if j = 0x10 then some { ty := .u64, acc := .rw, rng := .zero } -- triggers_while_frozen
  else
  none

/-- Objects 0x2801. -/
def ix2801 (j : Nat) : Option Entry :=
  if j = 0x1 then some { ty := .dom, acc := .ro } -- fifo_capture
  else
  if j = 0x2 then some { ty := .dom, acc := .ro } -- central_scan
  else
  none

/-- Objects 0x2900. -/
def ix2900 (j : Nat) : Option Entry :=
  if j = 0x1 then some { ty := .u32, acc := .rw, dflt := 50, rng := .rng 50 1000 1, cls := .b } -- context_timeout_us
  else
  if j = 0x2 then some { ty := .u32, acc := .rw, dflt := 2000, rng := .rng 2000 100000 1, cls := .b } -- engine_timeout_us
  else
  if j = 0x3 then some { ty := .u32, acc := .rw, dflt := 200, rng := .rng 200 5000 1, cls := .b } -- partition_timeout_ms
  else
  if j = 0x4 then some { ty := .u32, acc := .rw, dflt := 2500, rng := .rng 2500 60000 1, cls := .b } -- chip_timeout_ms
  else
  if j = 0x5 then some { ty := .u32, acc := .rw, dflt := 400, rng := .rng 50 400 1, cls := .b } -- dump_budget_ms
  else
  if j = 0x6 then some { ty := .u8, acc := .rw, dflt := 4, rng := .rng 1 4 1, cls := .b } -- auto_escalate_max
  else
  if j = 0x7 then some { ty := .u16, acc := .rw, dflt := 5, rng := .rng 2 50 1, cls := .b } -- capture_timeout_us
  else
  if j = 0x8 then some { ty := .u32, acc := .wo } -- reset_order
  else
  if j = 0x9 then some { ty := .u8, acc := .ro } -- reset_state
  else
  if j = 0xa then some { ty := .dom, acc := .ro } -- last_reset
  else
  if 0xb ≤ j ∧ j ≤ 0xf then some { ty := .u64, acc := .rw, rng := .zero } -- resets_by_level
  else
  if j = 0x10 then some { ty := .u64, acc := .rw, rng := .zero } -- escalations
  else
  if j = 0x11 then some { ty := .u64, acc := .rw, rng := .zero } -- held_at_limit
  else
  if j = 0x12 then some { ty := .u64, acc := .rw, rng := .zero } -- late_writes
  else
  if j = 0x13 then some { ty := .u64, acc := .rw, rng := .zero } -- late_packets
  else
  if j = 0x14 then some { ty := .dom, acc := .ro } -- last_late
  else
  none

/-- Objects 0x2901. -/
def ix2901 (j : Nat) : Option Entry :=
  if 0x1 ≤ j ∧ j ≤ 0x8 then some { ty := .u16, acc := .ro, dom := some (j - 1) } -- hold_mask
  else
  none

/-- Objects 0x2902. -/
def ix2902 (j : Nat) : Option Entry :=
  if 0x1 ≤ j ∧ j ≤ 0x8 then some { ty := .u16, acc := .rw, dflt := BitVec.ofNat 64 (j - 1), rng := .mask 0x0FFF, cls := .a, dom := some (j - 1) } -- context_tag
  else
  none

/-- Objects 0x2A00. -/
def ix2A00 (j : Nat) : Option Entry :=
  if j = 0x1 then some { ty := .u8, acc := .ro } -- cellar_state
  else
  if j = 0x2 then some { ty := .u32, acc := .ro } -- error_ring_newest
  else
  if j = 0x3 then some { ty := .u32, acc := .ro } -- error_ring_oldest
  else
  if j = 0x4 then some { ty := .u32, acc := .ro } -- event_ring_newest
  else
  if j = 0x5 then some { ty := .u32, acc := .ro } -- event_ring_oldest
  else
  if j = 0x6 then some { ty := .u32, acc := .ro } -- dump_last
  else
  if j = 0x7 then some { ty := .u32, acc := .rw, cls := .b } -- dump_hold
  else
  if j = 0x8 then some { ty := .u32, acc := .ro } -- uncommitted_at_open
  else
  if j = 0x9 then some { ty := .u64, acc := .rw, rng := .zero } -- damaged_records
  else
  if j = 0xa then some { ty := .u16, acc := .ro } -- bad_records
  else
  if j = 0xb then some { ty := .time, acc := .ro } -- last_patrol
  else
  if j = 0xc then some { ty := .u64, acc := .ro } -- bytes_written
  else
  if j = 0xd then some { ty := .u8, acc := .woLc, rng := .oneOf [1], lc := 9 } -- erase
  else
  if j = 0xe then some { ty := .u16, acc := .rw, dflt := 24, rng := .rng 1 168 1, cls := .b } -- patrol_interval_h
  else
  if j = 0xf then some { ty := .u16, acc := .ro, dflt := 2048 } -- config_free_kib
  else
  none

/-- Objects 0x2A01. -/
def ix2A01 (j : Nat) : Option Entry :=
  if j = 0x1 then some { ty := .u32, acc := .rw, rng := .rng 0 67108800 64, cls := .b } -- read_offset
  else
  if j = 0x2 then some { ty := .u32, acc := .rw, dflt := 65536, rng := .rng 64 1048576 64, cls := .b } -- read_length
  else
  if j = 0x3 then some { ty := .dom, acc := .ro } -- read_data
  else
  if j = 0x4 then some { ty := .u64, acc := .rw, rng := .mask 0xC0000000FFFFFFFF, cls := .b } -- entry_select
  else
  if j = 0x5 then some { ty := .dom, acc := .ro } -- entry_data
  else
  none

/-- Objects 0x2B00. -/
def ix2B00 (j : Nat) : Option Entry :=
  if j = 0x1 then some { ty := .u64, acc := .rw, dflt := ones64, rng := .mask 0xFFFFFFFFFFFFFFFF, cls := .b } -- chip_coordinates
  else
  if j = 0x2 then some { ty := .dom, acc := .rw, cls := .b, keep := true } -- cabling_plan
  else
  if j = 0x3 then some { ty := .u8, acc := .rw, dflt := 4, rng := .rng 1 8 1, cls := .b } -- admit_min_lanes
  else
  if j = 0x5 then some { ty := .u32, acc := .rw, dflt := 1000, rng := .rng 100 10000 1, cls := .b } -- link_train_timeout_ms
  else
  if j = 0x6 then some { ty := .u32, acc := .rw, cls := .b } -- route_generation
  else
  if j = 0x7 then some { ty := .u32, acc := .ro } -- cabling_records
  else
  if j = 0x8 then some { ty := .dom, acc := .ro } -- last_cabling_record
  else
  if j = 0x9 then some { ty := .u8, acc := .wo, rng := .oneOf [1] } -- recheck
  else
  if j = 0xa then some { ty := .u16, acc := .const, dflt := 0x3231 } -- revisions_supported
  else
  if j = 0xb then some { ty := .u8, acc := .const, dflt := 0x32 } -- revision_local
  else
  none

/-- Objects 0x2C00. -/
def ix2C00 (j : Nat) : Option Entry :=
  if j = 0x1 then some { ty := .u8, acc := .rw, rng := .oneOf [0, 1, 2], cls := .b } -- role
  else
  if j = 0x2 then some { ty := .u64, acc := .rw, cls := .b } -- job_id
  else
  if j = 0x3 then some { ty := .u32, acc := .rw, cls := .b } -- role_epoch
  else
  if j = 0x4 then some { ty := .u32, acc := .rw, dflt := 0xffffffff, cls := .b } -- steward_rank
  else
  if j = 0x5 then some { ty := .u32, acc := .rw, dflt := 100, rng := .rng 10 10000 1, cls := .b } -- heartbeat_period_us
  else
  if j = 0x6 then some { ty := .u32, acc := .rw, dflt := 2000, rng := .rng 100 1000000 1, cls := .b } -- steward_timeout_us
  else
  if j = 0x7 then some { ty := .u8, acc := .ro } -- steward_status
  else
  if j = 0x8 then some { ty := .u32, acc := .rw, rng := .rng 0 131071 1, cls := .b } -- worker_count
  else
  if j = 0x9 then some { ty := .time, acc := .ro } -- last_heartbeat_time
  else
  if j = 0xa then some { ty := .u64, acc := .rw, rng := .zero } -- foreign_frames
  else
  none

/-- Objects 0x2C10. -/
def ix2C10 (j : Nat) : Option Entry :=
  if j = 0x1 then some { ty := .u8, acc := .rw, rng := .oneOf [0, 1, 2], cls := .a } -- lockstep_mode
  else
  if j = 0x2 then some { ty := .u32, acc := .rw, dflt := 0xffffffff, cls := .a } -- partner_rank
  else
  if j = 0x3 then some { ty := .u8, acc := .rw, dflt := 0xff, rng := .oneOf [0, 1, 2, 3, 4, 5, 6, 7, 255], cls := .a } -- lockstep_domain
  else
  if j = 0x4 then some { ty := .bool, acc := .rw, dflt := 1, cls := .a } -- lockstep_gate
  else
  if j = 0x5 then some { ty := .u32, acc := .rw, dflt := 200, rng := .rng 50 10000 1, cls := .a } -- compare_timeout_us
  else
  if j = 0x6 then some { ty := .u8, acc := .ro } -- lockstep_state
  else
  if j = 0x7 then some { ty := .u64, acc := .rw, rng := .zero } -- steps_compared
  else
  if j = 0x8 then some { ty := .u64, acc := .rw, rng := .zero } -- divergences
  else
  if j = 0x9 then some { ty := .dom, acc := .ro } -- last_divergence
  else
  if j = 0xa then some { ty := .u8, acc := .wo, rng := .oneOf [1, 2] } -- divergence_action
  else
  if j = 0xb then some { ty := .u32, acc := .ro } -- narrowing_time_us
  else
  if j = 0xc then some { ty := .u64, acc := .rw, rng := .zero } -- transient_divergences
  else
  none

/-- Per-core entries of 0x3000–0x3257 other than the engine entries. -/
def coreEntry (j : Nat) : Option Entry :=
  if j = 0x71 then some { ty := .u32, acc := .rw, rng := .zero } -- proofs_passed
  else
  if j = 0x72 then some { ty := .u32, acc := .rw, rng := .zero } -- proofs_failed
  else
  if j = 0x73 then some { ty := .u32, acc := .rw, rng := .zero } -- proof_core_faults
  else
  if j = 0x74 then some { ty := .u64, acc := .ro, dflt := ones64 } -- last_clean_proof
  else
  if j = 0x75 then some { ty := .u8, acc := .ro, dflt := 4 } -- proof_state
  else
  if j = 0x76 then some { ty := .dom, acc := .ro } -- last_colophon
  else
  if j = 0x77 then some { ty := .u32, acc := .ro } -- proofs_served
  else
  if j = 0x81 then some { ty := .time, acc := .ro } -- specimen_last_pass
  else
  if j = 0x82 then some { ty := .u32, acc := .rw, rng := .zero } -- specimen_failures
  else
  if j = 0x83 then some { ty := .u32, acc := .ro } -- crosscore_runs
  else
  if j = 0x84 then some { ty := .u32, acc := .rw, rng := .zero } -- crosscore_odd
  else
  if j = 0x85 then some { ty := .u8, acc := .ro } -- margin_state
  else
  if j = 0x86 then some { ty := .u8, acc := .ro, dflt := 0x80 } -- first_fail
  else
  if j = 0x87 then some { ty := .u8, acc := .ro, dflt := 0x80 } -- last_pass
  else
  if j = 0x88 then some { ty := .u8, acc := .rw, dflt := 0x0 } -- trim
  else
  if j = 0x89 then some { ty := .u8, acc := .ro, dflt := 0x0 } -- trim_target
  else
  if j = 0x8a then some { ty := .time, acc := .ro } -- margin_time
  else
  if j = 0x8b then some { ty := .u16, acc := .ro } -- margin_temp
  else
  if j = 0x8c then some { ty := .u32, acc := .rw, rng := .zero } -- trim_reverts
  else
  if j = 0x8d then some { ty := .u16, acc := .ro } -- dram_shift_ps
  else
  if j = 0x8e then some { ty := .u16, acc := .ro } -- dram_margin_ps
  else
  if j = 0x91 then some { ty := .u64, acc := .rw, rng := .zero } -- ecc_corrected
  else
  if j = 0x92 then some { ty := .u32, acc := .rw, rng := .zero } -- ecc_uncorrectable
  else
  if j = 0x93 then some { ty := .dom, acc := .ro } -- ce_table
  else
  if j = 0x94 then some { ty := .u32, acc := .rw, rng := .zero } -- ce_table_losses
  else
  if j = 0x95 then some { ty := .u64, acc := .ro } -- narrow_writes
  else
  if j = 0x96 then some { ty := .u32, acc := .ro } -- poison_marks
  else
  if j = 0x97 then some { ty := .u8, acc := .ro } -- fill_state
  else
  if j = 0x98 then some { ty := .u16, acc := .ro, dflt := 256 } -- spare_rows_free
  else
  if j = 0x99 then some { ty := .u8, acc := .ro, dflt := 16 } -- spare_columns_free
  else
  if j = 0x9a then some { ty := .u8, acc := .ro } -- repair_pending
  else
  if j = 0x9b then some { ty := .dom, acc := .ro } -- last_slice_ue
  else
  if j = 0xa1 then some { ty := .u8, acc := .ro } -- fp_state
  else
  if j = 0xa2 then some { ty := .u16, acc := .ro, dflt := 0xffff } -- logical_core
  else
  if j = 0xa3 then some { ty := .u16, acc := .ro, dflt := 0xffff } -- attic_index
  else
  if j = 0xb1 then some { ty := .u8, acc := .ro } -- selftest_core_state
  else
  if j = 0xb2 then some { ty := .time, acc := .ro } -- selftest_last_time
  else
  if j = 0xb3 then some { ty := .u32, acc := .ro } -- selftest_runs
  else
  if j = 0xb4 then some { ty := .dom, acc := .ro } -- selftest_record
  else
  if j = 0xb5 then some { ty := .u8, acc := .ro } -- column_repairs
  else
  if j = 0xb6 then some { ty := .u32, acc := .ro, dflt := 0xffffffff } -- first_fail_interval
  else
  if j = 0xc1 then some { ty := .dom, acc := .ro } -- event_ring
  else
  if j = 0xc2 then some { ty := .u8, acc := .ro } -- ring_next
  else
  if j = 0xc3 then some { ty := .u64, acc := .ro } -- ring_events
  else
  if j = 0xc4 then some { ty := .u8, acc := .ro } -- ring_state
  else
  if j = 0xc5 then some { ty := .u8, acc := .wo, rng := .oneOf [1] } -- ring_restart
  else
  if j = 0xc6 then some { ty := .u8, acc := .ro } -- frozen_state
  else
  if j = 0xc7 then some { ty := .dom, acc := .ro } -- core_scan
  else
  if j = 0xc8 then some { ty := .u16, acc := .wo } -- host_marker
  else
  if j = 0xc9 then some { ty := .u32, acc := .rw, rng := .zero } -- ring_overflows
  else
  if j = 0xd1 then some { ty := .dom, acc := .ro } -- capture_latch
  else
  if j = 0xd2 then some { ty := .u8, acc := .ro } -- latch_state
  else
  if j = 0xd3 then some { ty := .u32, acc := .rw, rng := .zero } -- late_writes
  else
  if j = 0xd4 then some { ty := .time, acc := .ro } -- last_capture
  else
  none

/-- Engine entries of a core, at e × 16 + j for engine e. -/
def engineEntry (j : Nat) : Option Entry :=
  if j = 0x1 then some { ty := .u64, acc := .ro } -- galley_checks
  else
  if j = 0x2 then some { ty := .u32, acc := .rw, rng := .zero } -- galley_mismatches
  else
  if j = 0x3 then some { ty := .u32, acc := .rw, rng := .zero } -- window_exceeded
  else
  if j = 0x4 then some { ty := .u8, acc := .ro } -- galley_state
  else
  if j = 0x5 then some { ty := .u64, acc := .ro, dflt := 0xffffffffffffffff } -- last_mismatch_step
  else
  if j = 0x6 then some { ty := .dom, acc := .ro } -- engine_counters
  else
  if j = 0x7 then some { ty := .u8, acc := .wo, rng := .oneOf [1] } -- counters_clear
  else
  if j = 0x8 then some { ty := .time, acc := .ro } -- last_progress
  else
  if j = 0x9 then some { ty := .u8, acc := .ro } -- engine_reset_state
  else
  if j = 0xa then some { ty := .u32, acc := .ro } -- engine_resets
  else
  none

/-- Per-port entries of 0x5000–0x5011. -/
def portEntry (j : Nat) : Option Entry :=
  if j = 0x1 then some { ty := .u8, acc := .ro } -- port_state
  else
  if j = 0x2 then some { ty := .u8, acc := .ro } -- lanes_trained
  else
  if j = 0x3 then some { ty := .u32, acc := .ro } -- lane_failures
  else
  if j = 0x4 then some { ty := .u8, acc := .ro, dflt := 0xff } -- reach_class
  else
  if j = 0x5 then some { ty := .u64, acc := .ro, dflt := ones64 } -- neighbour_coordinates
  else
  if j = 0x6 then some { ty := .u8, acc := .ro, dflt := 0xff } -- neighbour_port
  else
  if j = 0x7 then some { ty := .u8, acc := .ro } -- neighbour_revision
  else
  if j = 0x8 then some { ty := .u8, acc := .ro } -- neighbour_kind
  else
  if j = 0x9 then some { ty := .u32, acc := .ro } -- train_time_us
  else
  if j = 0xa then some { ty := .u8, acc := .wo, rng := .oneOf [1] } -- plan_accept
  else
  if j = 0xb then some { ty := .u32, acc := .ro } -- trainings
  else
  if j = 0x40 then some { ty := .u16, acc := .ro } -- eye_h_min
  else
  if j = 0x41 then some { ty := .u16, acc := .ro } -- eye_v_min
  else
  if j = 0x42 then some { ty := .u8, acc := .ro, dflt := 0xff } -- worst_lane
  else
  if j = 0x43 then some { ty := .u32, acc := .ro } -- adaptations
  else
  if j = 0x44 then some { ty := .u32, acc := .rw, rng := .zero } -- margin_warnings
  else
  if j = 0x45 then some { ty := .time, acc := .ro } -- last_sample
  else
  if j = 0x46 then some { ty := .u16, acc := .rw, dflt := 0xffff, rng := .only 0xFFFF } -- eye_h_min_ever
  else
  if j = 0x50 then some { ty := .dom, acc := .ro } -- link_capture
  else
  if j = 0x51 then some { ty := .u32, acc := .ro } -- last_rx_sequence
  else
  if j = 0x52 then some { ty := .u32, acc := .ro } -- last_tx_acked
  else
  if j = 0x60 then some { ty := .u32, acc := .rw, rng := .zero } -- late_packets
  else
  none

/-- Entries of error source n, at 0x2400 + n (R225 to R229). -/
def sourceEntry (n : Nat) (src : SourceInfo) (j : Nat) : Option Entry :=
  if j = 0x1 then some { ty := .u8, acc := .const, dflt := src.cls.code } -- source_class
  else
  if j = 0x2 then some { ty := .u8, acc := .const, dflt := src.scope.code } -- source_scope
  else
  if j = 0x3 then some { ty := .u16, acc := .const, dflt := BitVec.ofNat 64 src.scope.instances } -- instances
  else
  if j = 0x4 then some { ty := .u8, acc := .rw, dflt := if src.cls = .c then 1 else 7, rng := .mask 0x07, cls := .b } -- route
  else
  if j = 0x5 then some { ty := .u16, acc := .rw, dflt := BitVec.ofNat 64 n, rng := .rng 0 2047 1, cls := .b } -- msix_vector
  else
  if j = 0x6 then some { ty := .u32, acc := .ro } -- sticky_count
  else
  if j = 0x7 then some { ty := .u64, acc := .rw, rng := .zero } -- raised
  else
  if j = 0x8 then some { ty := .u64, acc := .rw, rng := .zero } -- lost
  else
  if j = 0x9 then some { ty := .time, acc := .ro } -- last_raise_time
  else
  if j = 0xa then some { ty := .dom, acc := .ro } -- last_record
  else
  if 0x20 ≤ j ∧ j ≤ 0x61 then some { ty := .u64, acc := .rw } -- sticky
  else
  if 0x62 ≤ j ∧ j ≤ 0xa3 then some { ty := .u64, acc := .rw } -- mask
  else
  if 0xa4 ≤ j ∧ j ≤ 0xe5 then some { ty := .u64, acc := .wo } -- force
  else
  none

/-- Memory scan engines, 0x2310–0x2327. -/
def scanEntry (j : Nat) : Option Entry :=
  if j = 0x1 then some { ty := .u64, acc := .rw, rng := .mask 0x3FF3FFFFFFF, cls := .b } -- scan_start
  else
  if j = 0x2 then some { ty := .u32, acc := .rw, rng := .rng 0 0x40000000 64, cls := .b } -- scan_length
  else
  if j = 0x3 then some { ty := .u32, acc := .rw, cls := .b } -- scan_position
  else
  if j = 0x4 then some { ty := .u64, acc := .rw, cls := .b } -- running_crc
  else
  if j = 0x5 then some { ty := .u8, acc := .wo, rng := .oneOf [1, 2, 3, 4] } -- scan_control
  else
  if j = 0x6 then some { ty := .u8, acc := .ro } -- scan_state
  else
  if j = 0x7 then some { ty := .u16, acc := .ro, dflt := 0xffff } -- scan_owner
  else
  if j = 0x8 then some { ty := .u64, acc := .ro } -- bytes_scanned
  else
  none

/-- Tensor watches, 0x2710–0x274F. -/
def watchEntry (j : Nat) : Option Entry :=
  if j = 0x1 then some { ty := .dom, acc := .rw, cls := .b } -- watch_definition
  else
  if j = 0x2 then some { ty := .dom, acc := .ro } -- watch_results
  else
  if j = 0x3 then some { ty := .u64, acc := .rw, rng := .zero } -- watch_matches
  else
  none

/-- Transfer channels, 0x6000–0x600F. -/
def channelEntry (j : Nat) : Option Entry :=
  if j = 0x1 then some { ty := .u32, acc := .wo, rng := .mask 0xFFFFFF03 } -- ch_open
  else
  if j = 0x2 then some { ty := .u8, acc := .ro } -- ch_state
  else
  if j = 0x3 then some { ty := .u32, acc := .rw } -- ch_total
  else
  if j = 0x4 then some { ty := .u32, acc := .rw } -- ch_offset
  else
  if j = 0x5 then some { ty := .u8, acc := .wo, rng := .oneOf [1, 2, 3, 4] } -- ch_command
  else
  if j = 0x6 then some { ty := .u16, acc := .rw, rng := .rng 1 3072 1 } -- ch_length
  else
  if j = 0x7 then some { ty := .u8, acc := .ro, dflt := 0xff } -- ch_path
  else
  if 0x40 ≤ j ∧ j ≤ 0xff then some { ty := .raw, acc := .rw } -- ch_data
  else
  none

/-- Digest records, sixteen to an index, 0x2380–0x23FF. -/
def digestEntry (j : Nat) : Option Entry :=
  if 0x1 ≤ j ∧ j ≤ 0x10 then some { ty := .dom, acc := .rw, cls := .b } -- digest_record
  else
  none

/-- The entry at an index of the index map that is not one of a series (R372). -/
def plainEntry (i j : Nat) : Option Entry :=
  if i = 0x1000 then ix1000 j else
  if i = 0x1010 then ix1010 j else
  if i = 0x1020 then ix1020 j else
  if i = 0x1030 then ix1030 j else
  if i = 0x1080 then ix1080 j else
  if i = 0x1100 then ix1100 j else
  if i = 0x1200 then ix1200 j else
  if i = 0x1201 then ix1201 j else
  if i = 0x1210 then ix1210 j else
  if i = 0x1220 then ix1220 j else
  if i = 0x1300 then ix1300 j else
  if i = 0x1301 then ix1301 j else
  if i = 0x1302 then ix1302 j else
  if i = 0x1303 then ix1303 j else
  if i = 0x1304 then ix1304 j else
  if i = 0x1305 then ix1305 j else
  if i = 0x1306 then ix1306 j else
  if i = 0x2000 then ix2000 j else
  if i = 0x2001 then ix2001 j else
  if i = 0x2002 then ix2002 j else
  if i = 0x2100 then ix2100 j else
  if i = 0x2101 then ix2101 j else
  if i = 0x2102 then ix2102 j else
  if i = 0x2103 then ix2103 j else
  if i = 0x2104 then ix2104 j else
  if i = 0x2105 then ix2105 j else
  if i = 0x2106 then ix2106 j else
  if i = 0x2107 then ix2107 j else
  if i = 0x2108 then ix2108 j else
  if i = 0x2109 then ix2109 j else
  if i = 0x210A then ix210A j else
  if i = 0x2200 then ix2200 j else
  if i = 0x2201 then ix2201 j else
  if i = 0x2202 then ix2202 j else
  if i = 0x2203 then ix2203 j else
  if i = 0x2204 then ix2204 j else
  if i = 0x2206 then ix2206 j else
  if i = 0x2300 then ix2300 j else
  if i = 0x2301 then ix2301 j else
  if i = 0x2302 then ix2302 j else
  if i = 0x2303 then ix2303 j else
  if i = 0x2400 then ix2400 j else
  if i = 0x2500 then ix2500 j else
  if i = 0x2502 then ix2502 j else
  if i = 0x2600 then ix2600 j else
  if i = 0x2601 then ix2601 j else
  if i = 0x2700 then ix2700 j else
  if i = 0x2701 then ix2701 j else
  if i = 0x2702 then ix2702 j else
  if i = 0x2750 then ix2750 j else
  if i = 0x2800 then ix2800 j else
  if i = 0x2801 then ix2801 j else
  if i = 0x2900 then ix2900 j else
  if i = 0x2901 then ix2901 j else
  if i = 0x2902 then ix2902 j else
  if i = 0x2A00 then ix2A00 j else
  if i = 0x2A01 then ix2A01 j else
  if i = 0x2B00 then ix2B00 j else
  if i = 0x2C00 then ix2C00 j else
  if i = 0x2C10 then ix2C10 j else
  none

/-- Highest subindex of an index that is not one of a series (R348); none: a reserved index. -/
def plainHighest (i : Nat) : Option Nat :=
  if i = 0x1000 then some 0xe else
  if i = 0x1010 then some 0x9 else
  if i = 0x1020 then some 0x6 else
  if i = 0x1030 then some 0xc else
  if i = 0x1080 then some 0x9 else
  if i = 0x1100 then some 0x6 else
  if i = 0x1200 then some 0xd else
  if i = 0x1201 then some 0xa else
  if i = 0x1210 then some 0x21 else
  if i = 0x1220 then some 0x11 else
  if i = 0x1300 then some 0x9 else
  if i = 0x1301 then some 0x3 else
  if i = 0x1302 then some 0x17 else
  if i = 0x1303 then some 0x8 else
  if i = 0x1304 then some 0x3 else
  if i = 0x1305 then some 0x3 else
  if i = 0x1306 then some 0x8 else
  if i = 0x2000 then some 0xa else
  if i = 0x2001 then some 0x8 else
  if i = 0x2002 then some 0xe else
  if i = 0x2100 then some 0x8 else
  if i = 0x2101 then some 0x8 else
  if i = 0x2102 then some 0x7 else
  if i = 0x2103 then some 0x8 else
  if i = 0x2104 then some 0x28 else
  if i = 0x2105 then some 0xe else
  if i = 0x2106 then some 0x3 else
  if i = 0x2107 then some 0x3 else
  if i = 0x2108 then some 0x20 else
  if i = 0x2109 then some 0x3 else
  if i = 0x210A then some 0x4 else
  if i = 0x2200 then some 0x7 else
  if i = 0x2201 then some 0x8 else
  if i = 0x2202 then some 0x8 else
  if i = 0x2203 then some 0x9 else
  if i = 0x2204 then some 0xa else
  if i = 0x2206 then some 0x7 else
  if i = 0x2300 then some 0x8 else
  if i = 0x2301 then some 0x12 else
  if i = 0x2302 then some 0xe else
  if i = 0x2303 then some 0x3 else
  if i = 0x2400 then some 0x11 else
  if i = 0x2500 then some 0x16 else
  if i = 0x2502 then some 0xa else
  if i = 0x2600 then some 0xf else
  if i = 0x2601 then some 0x4 else
  if i = 0x2700 then some 0x3 else
  if i = 0x2701 then some 0x9 else
  if i = 0x2702 then some 0x1 else
  if i = 0x2750 then some 0xe else
  if i = 0x2800 then some 0x10 else
  if i = 0x2801 then some 0x2 else
  if i = 0x2900 then some 0x14 else
  if i = 0x2901 then some 0x8 else
  if i = 0x2902 then some 0x8 else
  if i = 0x2A00 then some 0xf else
  if i = 0x2A01 then some 0x5 else
  if i = 0x2B00 then some 0xb else
  if i = 0x2C00 then some 0xa else
  if i = 0x2C10 then some 0xc else
  none

/-- The entry at index i and subindex j (R372); subindex 0 is highest_subindex (R348); none: no such object (R11). -/
def entryAt (i j : Nat) : Option Entry :=
  let hi (h : Nat) : Option Entry := some { ty := .u8, acc := .const, dflt := BitVec.ofNat 64 h }
  if 0x3000 ≤ i ∧ i ≤ 0x3257 then
    if j = 0 then hi 0xD4
    else if j < 0x70 then engineEntry (j % 16) else coreEntry j
  else if 0x5000 ≤ i ∧ i ≤ 0x5011 then (if j = 0 then hi 0x60 else portEntry j)
  else if 0x2410 ≤ i ∧ i ≤ 0x24FF then
    match sourceInfo (i - 0x2400) with
    | some src => if j = 0 then hi 0xE5 else sourceEntry (i - 0x2400) src j
    | none => none
  else if 0x2310 ≤ i ∧ i ≤ 0x2327 then (if j = 0 then hi 8 else scanEntry j)
  else if 0x2380 ≤ i ∧ i ≤ 0x23FF then (if j = 0 then hi 16 else digestEntry j)
  else if 0x2710 ≤ i ∧ i ≤ 0x274F then (if j = 0 then hi 3 else watchEntry j)
  else if 0x6000 ≤ i ∧ i ≤ 0x600F then (if j = 0 then hi 0xFF else channelEntry j)
  else if j = 0 then (match plainHighest i with | some h => hi h | none => none)
  else plainEntry i j

/-- The entry of a key. -/
def entryOf (k : Nat) : Option Entry := entryAt (k / 256) (k % 256)

/-- What the value field of a key reads after a cold start, before any write (R350). -/
def dfltOf (k : Nat) : Word :=
  match entryOf k with
  | some e => e.dflt
  | none => 0

/-- ASCII of "Zenedel". -/
def vendorName : Bytes := [0x5A, 0x65, 0x6E, 0x65, 0x64, 0x65, 0x6C]

/-- ASCII of "Silvorus 9400". -/
def productName : Bytes := [0x53, 0x69, 0x6C, 0x76, 0x6F, 0x72, 0x75, 0x73, 0x20, 0x39, 0x34, 0x30, 0x30]

/-- Content of a STR or DOMAIN entry after a cold start: 'all 0' is that many zero bytes, '—' and 'empty' nothing
(log entry 2). -/
def dfltContent (k : Nat) : Bytes :=
  let i := k / 256
  if k = key 0x1000 1 then vendorName
  else if k = key 0x1000 4 then productName
  else if k = key 0x1000 6 then Config.serialNumber
  else if i = 0x1303 then List.replicate 72 0
  else if 0x2380 ≤ i ∧ i ≤ 0x23FF then List.replicate 64 0
  else if 0x2710 ≤ i ∧ i ≤ 0x274F ∧ k % 256 = 1 then List.replicate 32 0
  else if k = key 0x2800 6 then List.replicate 75 0
  else if k = key 0x2800 7 then List.replicate 32 0
  else []

/-- Keys of the per-core, per-engine, per-port and per-source entries. -/
abbrev coreKey (c : PCore) (j : Nat) : Nat := key (0x3000 + c.val) j

abbrev engKey (c : PCore) (e : EngineNo) (j : Nat) : Nat := key (0x3000 + c.val) (16 * e.val + j)

abbrev portKey (p : PortNo) (j : Nat) : Nat := key (0x5000 + p.val) j

abbrev srcKey (n j : Nat) : Nat := key (0x2400 + n) j

abbrev mseKey (m : MseNo) (j : Nat) : Nat := key (0x2310 + m.val) j

abbrev chanKey (c : ChanNo) (j : Nat) : Nat := key (0x6000 + c.val) j

abbrev watchKey (w j : Nat) : Nat := key (0x2710 + w) j

/-- Digest record r (06_stored_data_integrity.md): index 0x2380 + r ÷ 16, subindex r mod 16 + 1. -/
abbrev digestKey (r : Nat) : Nat := key (0x2380 + r / 16) (r % 16 + 1)

/-- The entry of domain d in a series that starts at subindex j. -/
abbrev domKey (i j : Nat) (d : Dom) : Nat := key i (j + d.val)

end Sys2Proof.Machine
end

