-- ==== Sys2Proof/Machine/State.lean ====
section
/-! DEFINITION. The state of Phory as plain data. Every dictionary entry is in `dict` (value fields), `cont` (STR and DOMAIN
content) and `stat` (status words); the other fields hold what the chapters give the machine outside the dictionary. A
`Tab` is a table of which an unlisted key holds a default: keys rise strictly and no listed entry equals the default. -/

namespace Sys2Proof.Machine

/-- A rank of all ones, which means 'local' or 'none'. -/
abbrev ones32 : Rank := BitVec.allOnes 32

/-- A sparse table; the operations are in Ops.lean. -/
abbrev Tab (α : Type) := List (Nat × α)

/-- The three outcomes need a type of faults. No command of Phory ends in one: a condition that other machines would fault
on is a raise of an error source here (R226 to R241). Safe: it has no member. -/
inductive Fault where
  deriving DecidableEq, Repr

/-- Why a command has no meaning. `notModelled`: raised by an arm of Dispatch.lean that has no meaning yet, by its
mnemonic. Safe: nothing is said of such a command. -/
inductive Refusal where
  | notModelled (mnemonic : String)
  deriving DecidableEq, Repr

/-! ### The dictionary server (15_object_dictionary.md) -/

/-- Status codes of a write (15, 'Status codes'). -/
inductive WSt where
  | completed | inProgress | staged | draining | refused | deferred | busy | noObject
  deriving DecidableEq, Repr

def WSt.code : WSt → Nat
  | .completed => 0 | .inProgress => 1 | .staged => 2 | .draining => 3 | .refused => 0x10 | .deferred => 0x11
  | .busy => 0x12 | .noObject => 0x13

/-- The kept part of an entry's status word (R351): last write status, its path, the reason of the last refusal and the
count of granted writes mod 65,536. -/
structure Stat where
  st : WSt
  path : BitVec 8
  reason : BitVec 8
  count : BitVec 16
  deriving DecidableEq, Repr

/-- A staged write (R363 to R365): the entry, the value and content in force until a waiting domain passes its boundary,
and the domains that still wait. -/
structure Staged where
  key : Nat
  old : Word
  oldCont : Bytes
  waiting : List Dom
  deriving DecidableEq, Repr

/-- A class X write, or a group with one, that waits for its quiet boundary (R367). `items` are the new values. -/
structure Drain where
  items : List (Nat × Word)
  path : Path
  domains : List Dom
  deriving DecidableEq, Repr

/-- A transfer channel in use (R358 to R362). -/
structure Chan where
  entry : Nat
  upload : Bool
  path : Path
  eid : Byte
  rank : Rank
  snapshot : Bytes
  live : Bool
  total : Nat
  got : Bytes
  deriving DecidableEq, Repr

/-- An ADP request in progress, whose response waits for the status of what it wrote (R356): a write, a group or a
download's end. -/
structure AdpWait where
  path : Path
  eid : Byte
  msg : Fin 8
  tag : BitVec 16
  rank : Rank
  op : Byte
  keys : List Nat
  deriving DecidableEq, Repr

/-! ### Time and timeouts -/

/-- An armed timeout (R20, R23): the command that its expiry is, the instant it is due, the tick at which the expiry was
signalled, and the time left while it is held (R79, R291). -/
structure Timer where
  cmd : Instr
  due : Nat
  fired : Option Word
  held : Option Nat
  deriving DecidableEq, Repr

/-- State of the time base beyond its objects. -/
structure TimeBase where
  /-- Fraction of a unit below `now`, in 2^-32 units (R34). -/
  frac : BitVec 32
  /-- Global time has been set (R246). -/
  timeSet : Bool
  /-- Value written to object 0x1200.04 that waits for a pulse (R37). -/
  pendingLoad : Option (Word × Path)
  holdover : Bool
  backup : Bool
  refLost : Bool
  /-- A beacon exchange is outstanding (its t1) (R38). -/
  beacon : Option Word
  /-- Status but for holdover and backup: 0 not set, 1 acquiring, 2 locked. -/
  base : Nat
  /-- Offset given by the filter, which the rate correction removes (R39). -/
  offset : Int
  /-- Commands of starts that Phory armed itself and that wait for their cause (R386): the domain, and whether the cause
  is the time status (else the start objects). -/
  refusedArms : List (Dom × Bool)
  /-- What R36, R39 and R50 log without a record layout: forward steps (0, before, after), late cores (1 + core, T, start;
  the start is 0 until the core's clock resumes), and resets of a core's clock domain (1024 + core, time, final count). -/
  log : List (Nat × Word × Word)
  /-- Changeover to the backup oscillator (R41). -/
  since : Word
  /-- The last T at which domains started, and whether a core has started at it yet (R49). -/
  startT : Word
  anyStart : Bool
  deriving DecidableEq, Repr

/-! ### Steps, proofs and commit (02, 03, 04) -/

/-- What the probe and the proof unit hold of one logical core in one step: work issued and not yet checked (R77), the
colophon under formation (R99, R100), the reach record (R118). -/
structure CoreRec where
  k : LCore
  phys : PCore
  /-- The core's seed register (R211). -/
  seed : Word
  work : List (EngineNo × Nat)
  arrived : Bool
  clear : Bool
  blocked : Bool
  acc : Colophon
  units : Nat
  reach : List LCore
  sentOther : Bool
  recvOther : Bool
  egress : Nat
  clearTime : Word
  proofed : Bool
  passed : Bool
  /-- Operator colophons of the step, oldest command first (R219). -/
  ops : List OpColophon
  /-- Poison marks or late data seen (R163); flag [1] of a watch result. -/
  marked : Bool
  /-- The core's commit gate is open for the step (R18, R19). -/
  gate : Bool
  deriving DecidableEq, Repr

/-- The step that runs in a domain, or one of the last 80 before it (R118). `reported`: its galley clear was reported to the steward (R125);
`jobClear`: at galley clear, of every chip of the job where there are several (R102). `equal`: compared equal, or not compared (R216). `dist`: disturbance bits of the step (R209). -/
structure StepRec where
  n : Nat
  cores : List CoreRec
  keys : Colophon × Colophon × Colophon
  checks : Word
  /-- Objects 0x2000.01 to .05 in force for the step's work (R46, R87). -/
  coefs : List Nat
  ended : Bool
  clear : Bool
  reported : Bool
  jobClear : Bool
  equal : Bool
  dispatched : Bool
  released : Bool
  committed : Bool
  onAge : Bool
  discarded : Bool
  ranks : List Rank
  many : Bool
  dist : BitVec 32
  deriving DecidableEq, Repr

/-- A barrier that is held: its arguments and since when; what holds it: proofing or depth (R106, R107), the ledger (R112),
a drain (R367). -/
structure Held where
  cycles : Nat
  disturbed : BitVec 13
  since : Word
  proofing : Bool
  ledger : Bool
  drain : Bool
  deriving DecidableEq, Repr

/-- A page ledger entry (R110). `lengths` are the page's lengths at the end of the uncommitted steps that wrote it, oldest
first. `stored`: it is in the ledger; else it waits for room there (R109, R112). -/
structure Page where
  page : Word
  stored : Bool
  opened : Bool
  freed : Option Nat
  committedLen : Nat
  lengths : List (Nat × Nat)
  deriving DecidableEq, Repr

/-- A spill that waits for the last step that wrote its page to commit (R111). -/
structure Spill where
  step : Nat
  core : PCore
  page : Word
  data : Bytes
  tokens : Nat
  marked : Bool
  deriving DecidableEq, Repr

/-- A sparing of a domain (R190): one fence and its replacement. `at_` is the time of the fence decision, `of_` the fenced
core whose replacement was fenced here during the sparing (R197), `raised` that "core fenced" was raised for it (R205),
`sources` the sources used and `bytes` the bytes refilled. -/
structure Sparing where
  fenced : PCore
  of_ : Option PCore
  k : LCore
  repl : Option PCore
  at_ : Word
  cause : Nat
  attic : Option Nat
  raised : Bool
  /-- 0 replacement not chosen, 1 hand-over of a probed core, 2 filling, 3 specimen, 4 refilling, 5 ready to restart,
  6 awaiting reserve, 7 host refill, 8 failed. -/
  phase : Nat
  entry : Nat
  bytes : Nat
  sources : BitVec 8
  deriving DecidableEq, Repr

/-- A step domain (02_time_and_steps.md). -/
structure DomSt where
  active : Bool
  cores : List LCore
  /-- Step loaded at activation (R44); whether the step of the step counter runs, and since when. -/
  start : Nat
  running : Bool
  begun : Word
  /-- Rolled back and not restarted (R113). -/
  suspended : Bool
  /-- The last step of a close (R45), and whether the closing proofs were issued. -/
  closing : Option Nat
  closeIssued : Bool
  steps : List StepRec
  held : Option Held
  /-- Priority proofs that wait (R97). -/
  priority : List LCore
  /-- Steps at which a core passed a proof, and steps with a failed one (R104, R117). -/
  passes : List (LCore × Nat)
  failed : List (LCore × Nat)
  pages : List Page
  /-- Committed lengths of the job's pages that no uncommitted step wrote (R110). -/
  lengths : List (Word × Nat)
  spills : List Spill
  sparings : List Sparing
  /-- Whether a sparing waits for the steward or the poison action (R190, R198). -/
  sparingWaits : Bool
  /-- A ledger walk in progress (R113). -/
  walk : Bool
  committed : Option Nat
  releasedStep : Option Nat
  /-- Steps below this are replays (R209 bit 9). -/
  replayTo : Nat
  lateStart : Bool
  /-- First step that consumed poison while the domain is stopped by it (R165). -/
  poison : Option Nat
  /-- The steward orders the barriers that end this step and later ones held: 0 after a poison consumption (R165), s + 1
  on a divergence at step s (R220). -/
  jobHeld : Option Nat
  /-- The step that a port's failure abandoned, whose barrier waits for the steward's rollback (R124). -/
  abandoned : Option Nat
  deriving DecidableEq, Repr

/-- A proof or the revise that decides it (R91, R106, R115). `core` is the proof core once placed, `index` its place in the
pool; `remote`: run on another chip (R126); `served`: run here for another chip's rank; `result`: the proof's result once
it differs, `rcore` the revise core once placed; `lost`: revises lost; `avoid`: proof cores it was lost on (R94);
`narrowing`: ordered by R221; `id` keeps apart the proofs of one core and step, each with a timeout of its own (R106). -/
structure Proof where
  d : Dom
  k : LCore
  s : Nat
  index : Nat
  core : Option PCore
  priority : Bool
  remote : Bool
  served : Option Rank
  result : Option (Colophon × Nat)
  rcore : Option PCore
  lost : Nat
  avoid : List PCore
  narrowing : Bool
  id : Nat
  /-- Part of its execution, or of its revise's, ran while its core's supply was below the trim (R139). -/
  under : Bool
  runder : Bool
  deriving DecidableEq, Repr

/-- A regeneration run (R212 to R214): the step seed its core runs with (R211), and what it placed in the proof scratch of its
core, from offset 0. -/
structure Regen where
  d : Dom
  k : LCore
  s : Nat
  core : PCore
  seed : Word
  done : Bool
  scratch : Bytes
  deriving DecidableEq, Repr

/-! ### Steward and lock-step (01, 04, 08) -/

/-- What the steward holds of one step of the job: the ranks that reported and what they reported (R102, R125, R127). -/
structure JobStep where
  n : Nat
  reports : List (Rank × Colophon)
  deriving DecidableEq, Repr

/-- The narrowing of a lock-step divergence at the steward (R220, R221). Stage 1 core colophons are fetched, 2 operator
colophons, 3 the job replays, 4 work digests are awaited, 5 priority proofs run, 6 unattributed. `found` has the first
differing command of each listed core as the primary holds it, `fetched` the cores whose operator colophons came. -/
structure Narrow where
  d : Dom
  step : Nat
  at_ : Word
  stage : Nat
  differing : List LCore
  fetched : List LCore
  found : List (LCore × OpColophon)
  first : Option (LCore × OpColophon)
  digests : List (Rank × List WorkDigest)
  /-- Fetches that came while a freeze of either chip held the narrowing (R222). -/
  waiting : List NarrowFetch
  /-- Work digests of this chip's replay, by work item, in order of issue (R220). -/
  own : List (Nat × WorkDigest)
  work : Option (WorkDigest × Word)
  proofs : List (Rank × Bool)
  deriving DecidableEq, Repr

/-- The chip's part in its multi-chip job, and what the steward holds of the job. -/
structure Steward where
  /-- Domain of the job that holds the chip's role (R26); log entry 10. -/
  dom : Option Dom
  steps : List JobStep
  /-- Newest proven step of each rank, and the job proven step (R125). -/
  provens : List (Rank × Nat)
  proven : Option Nat
  /-- Last step at galley clear and proven step that this chip told (R125). -/
  told : Option (Nat × Option Nat)
  /-- Job colophons not yet in the Cellar (R127). -/
  batch : Bytes
  lost : List Rank
  /-- Reports of the start in step under way, and its T (R53). -/
  arms : List (Rank × Byte)
  armT : Option Word
  /-- What a restart waits for: a new route generation (R123), sparings (R190), a rank's replacement (R203). -/
  waitRoutes : Bool
  waitSparing : List Rank
  frozen : List Rank
  narrow : Option Narrow
  /-- A narrowing's proof here was lost, which the steward is to hear (R221). -/
  narrowLost : Option Dom
  /-- On the mirror, the step of the divergence that the steward narrows (R220). -/
  diverged : Option Nat
  /-- The steward's domain was reset in mode 2: no heartbeats for that job (R319). -/
  silent : Bool
  /-- A new assignment was written, and its steward has not been heard of yet (R29). -/
  resume : Bool
  deriving DecidableEq, Repr

/-! ### Screening (05) -/

/-- A specimen run on a core (R129 to R133); `id` numbers the runs issued, so that a completion names its run; `timedOut`: the
first run of the two ended by its timeout (R132). -/
structure Run where
  core : PCore
  id : Nat
  again : Bool
  timedOut : Bool
  /-- Engines that failed the first run, and those whose self-check it missed (R132). -/
  failed : List EngineNo
  missed : List EngineNo
  /-- Part of it ran while the core's supply was below the trim (R139). -/
  under : Bool
  /-- 0 scheduled, 1 bring-up, 2 sparing, 3 unfence, 4 partition reset, 5 return from self-test, 6 a number of no active
  domain, 7 release after an escalation held at the limit. -/
  why : Nat
  deriving DecidableEq, Repr

/-- The work of a cross-core run (R134): the matrix format, K, and the state of the run's generator after these two draws, from
which scales, elements, vector program and transfer pattern follow (Draws.lean). -/
structure CrossWork where
  format : Format
  k : Nat
  gen : Gen
  deriving DecidableEq, Repr

/-- A cross-core run (R134 to R137): its work, its cores, the third one last, their digests as they come, the cores whose timeout
won, those whose supply was below the trim in part of it (R139), and the core whose margin probe it is a unit of (R138). -/
structure Cross where
  id : Nat
  work : CrossWork
  cores : List PCore
  probed : Option PCore
  digests : List (PCore × List Word)
  late : List PCore
  under : List PCore
  deriving DecidableEq, Repr

/-- A margin probe (R138 to R141): the supply commanded as offset from nominal in millivolts, units done in the dwell,
mismatches. Phase: 0 settling, 1 dwell, 2 settling at the trim for a re-test, 3 dwell at the trim, 4 settling again at the
supply that failed (`firstFail`), 5 dwell there. `ending`: the trim is restored. `below`: the supply is below the trim, from
the command until a settled at the trim (R139). -/
structure Probing where
  core : PCore
  mv : Int
  phase : Nat
  fails : Nat
  units : Nat
  lastPass : Option Int
  firstFail : Option Int
  ending : Bool
  below : Bool
  deriving DecidableEq, Repr

/-! ### Stored data (06) -/

/-- An entry of a slice's corrected-error table (R156). -/
structure CeEntry where
  word : BitVec 25
  count : Nat
  first : Word
  last : Word
  symbol : Nat
  flags : BitVec 8
  deriving DecidableEq, Repr

/-- What Phory holds of a slice: queue, table and times of corrections, repair lists, poisoned words (R155 to R163). -/
structure Slice where
  queue : List (BitVec 25 × Fin 36 × Word × Bool)
  table : List CeEntry
  times : List Nat
  rows : List (Nat × Nat)
  columns : List (Nat × Nat)
  applied : List (Nat × Nat)
  appliedCols : List (Nat × Nat)
  poisoned : List (Nat × Nat)
  rateHigh : Bool
  deriving DecidableEq, Repr

/-- A digest record's standing (R171 to R176): a pass is due, the engine of the pass that runs, when that pass started and
at which step of the owner's domain, the position and CRC of a preempted one, and the engine whose result a confirmation
rescan is to confirm on another. -/
structure Digest where
  due : Bool
  engine : Option MseNo
  start : Word
  startStep : Nat
  saved : Option (Word × Word)
  confirming : Option MseNo
  deriving DecidableEq, Repr

/-- A KV fill in progress (R180). -/
structure Kv where
  d : Dom
  core : PCore
  offset : BitVec 30
  page : Word
  attempts : Nat
  deriving DecidableEq, Repr

/-! ### Errors (09) -/

/-- A captured raise (R233, R238). -/
structure Capture where
  src : Nat
  inst : Nat
  time : Word
  lcc : Word
  seq : BitVec 16
  forced : Bool
  masked : Bool
  late : Bool
  payload : Bytes
  num : BitVec 32
  lost : Word
  deriving DecidableEq, Repr

/-- An in-band interrupt (R236) or a pending-read notification (R355). -/
structure Ibi where
  cls : Nat
  src : Nat
  inst : Nat
  num : Byte
  mctp : Bool
  deriving DecidableEq, Repr

/-- The grants of an arbiter (R22, R24): the grant sequence that its next grant takes, and of the last one the time stamps of
the contender's arrival, global time and the local cycle count of its clock domain (0 where it has none). -/
structure Grant where
  next : BitVec 16
  at_ : Word
  lcc : Word
  deriving DecidableEq, Repr

structure ErrSt where
  queue : List Capture
  /-- The slot reserved for 'capture overflow' (R233). -/
  reserved : Option Capture
  handling : Option Capture
  /-- A record whose handling timed out and that is still to be committed (R232). -/
  lateRecords : List Capture
  /-- The grants of each arbiter, by its number (arbiterOf). -/
  grants : Tab Grant
  msixMask : BitVec 2048
  msixPending : BitVec 2048
  ibiEnabled : Bool
  ibiOut : Option (Ibi × Nat)
  ibiQueue : List Ibi
  maxRead : BitVec 16
  maxWrite : BitVec 16
  pulse : Bool
  holdToCome : Bool
  hold : Bool
  /-- Global time at the entry into the fault state, from which the delay of object 0x2400.09 runs (R240). -/
  faultAt : Word
  deriving DecidableEq, Repr

/-! ### Bring-up and self-test (10, 11) -/

/-- The bring-up under way, or what is left of the last one (10_bring_up.md). `begun` is its reference edge, moved with a load of
global time (R246), `excluded` the halts and freezes taken out of its duration; `counts` are A, B, C and D of the present
stage as far as it counts them; `stackSt` the standing of the DRAM stacks: 0 in service, 1 trained, 2 held, 3 absent or
retired; `copy` what stage 8 or a recheck took at its start (R260): coordinates, plan, fewest lanes. -/
structure Bring where
  halted : Bool
  haltAt : Word
  stageBegun : Word
  begun : Word
  excluded : Nat
  exceptions : Bool
  counts : List Nat
  fillLeft : List PCore
  memLeft : List StackNo
  linkLeft : List PortNo
  specLeft : List PCore
  idLeft : List PortNo
  answered : List PortNo
  retried : List StackNo
  fuses : Option FuseMap
  stackSt : List Nat
  heldPorts : List PortNo
  recheck : Bool
  copy : Word × Bytes × Nat
  timeDone : Bool
  deriving DecidableEq, Repr

/-- A core under test: bit 0 of the mask logic, 1 core memory, 2 slice memory; its floor plan state before (R276, R279). -/
structure CoreTest where
  core : PCore
  mask : Nat
  prior : Nat
  failed : Bool
  deriving DecidableEq, Repr

/-- The self-test controller (11_self_test.md): unit tests that run with their start, the cores under test, the cores of
stage 6 that wait and the number of its batch; the stack of a stack request; cores that passed and wait for their specimen
run, with the state they return to (R279). -/
structure SelfTest where
  running : List (TestUnit × Word)
  cores : List CoreTest
  waiting : List PCore
  batch : Nat
  stack : Option StackNo
  stackFailed : Bool
  returning : List (PCore × Nat)
  /-- Cores that failed an in-service test and whose fence the limit of R199 forbade, with the state before the test
  (R278). -/
  awaiting : List (PCore × Nat)
  deriving DecidableEq, Repr

/-! ### Observation (12) -/

/-- The freeze in force or the last one (R286 to R295): what it covers, the cores whose first edge after a release is
awaited, its dump and record, ports held by a neighbour's pause, with the time of its last
indication; the rank whose request armed a timed freeze; the end of the
200 ns after PHY_FREEZE_N was driven (R377). -/
structure FreezeSt where
  on : Bool
  grant : Word
  src : Nat
  inst : Nat
  chip : Bool
  cores : List PCore
  rank : Rank
  triggers : Nat
  byPin : Bool
  driving : Bool
  releasing : List PCore
  dump : Option Nat
  record : Bytes
  readOut : Bool
  pauses : List (PortNo × Word)
  spread : Option Rank
  driveEnd : Word
  deriving DecidableEq, Repr

/-- Counters of one engine (R301). -/
structure Counters where
  busy : Nat
  stalled : Nat
  idle : Nat
  reasons : List Nat
  deriving DecidableEq, Repr

/-- A watch's result under formation for a step (R303 to R305). -/
structure Watch where
  watch : Nat
  d : Dom
  n : Nat
  digest : Word
  units : Nat
  poisoned : Bool
  data : List Bytes
  deriving DecidableEq, Repr

/-- A breakpoint match in progress (R307). -/
structure Bp where
  pc : PcNo
  number : Nat
  event : Byte
  filter : BitVec 16
  d : Option Dom
  at_ : Word
  halted : Bool
  notDrained : Bool
  deriving DecidableEq, Repr

/-- Event rings, counters, watches; the queue of trace records with the time it was last drained and the drop run under way:
its first time and count (R299); breakpoint matches, one under way and those that wait (R307); local cycle counts. -/
structure ObsSt where
  rings : Tab (List Bytes)
  /-- Times at which the events in a probe's queue of 16 have been written (R296). -/
  ringQueue : Tab (List Nat)
  counters : Tab Counters
  trace : List Bytes
  traceAt : Word
  drop : Option (Word × Nat)
  watches : List Watch
  bp : Option Bp
  bpWaiting : List (PcNo × Byte × BitVec 16 × Option Dom)
  lcc : Tab Word
  deriving DecidableEq, Repr

/-! ### Recovery (13) -/

/-- A reset in progress (R315 to R328). -/
structure Reset where
  id : ResetId
  level : Nat
  atLevel : Nat
  mode : Nat
  origin : Nat
  grant : Word
  d : Option Dom
  unit : Nat
  cores : List PCore
  engines : List (PCore × EngineNo)
  record : Bytes
  escalated : Bool
  phase : Nat
  notCaptured : Nat
  dump : Option Nat
  tag : BitVec 16
  lateWrites : Nat
  latePackets : Nat
  thenEngines : List (PCore × EngineNo)
  deriving DecidableEq, Repr

/-- A dump that waits to be written (R327, R339): origin 1 reset, 2 freeze, 3 fault state; trailer flags so far; what it
covers. -/
structure Dump where
  num : Nat
  origin : Nat
  level : Nat
  flags : Nat
  cores : List PCore
  doms : List Dom
  stackNos : List StackNo
  chip : Bool
  time : Word
  cause : Nat
  record : Bytes
  deriving DecidableEq, Repr

structure RecSt where
  resets : List Reset
  /-- Cores whose capture latch has not filled yet, and those whose capture timeout won and whose fill is still to come
  (R327). -/
  latching : List PCore
  latchLate : List PCore
  /-- Captured cores whose ring the dump has not taken yet (R327). -/
  capturing : List PCore
  dumps : List Dump
  heldAtLimit : List PCore
  deriving DecidableEq, Repr

/-! ### Cellar (14) -/

/-- A run of records of one region: an entry (R333). Regions: 0 and 1 configuration halves A and B, 2 error ring, 3 event
ring, 4 dump region. `first` is the record index in the region; `damaged` records fail their CRC; `torn`: being written at
a power loss (R335), else one that is not committed was erased (R344). -/
structure CellEntry where
  region : Nat
  first : Nat
  seq : Nat
  kind : Nat
  body : Bytes
  committed : Bool
  torn : Bool
  damaged : List Nat
  deriving DecidableEq, Repr

structure CellarSt where
  entries : List CellEntry
  pos : List Nat
  seqs : List Nat
  halfB : Bool
  bad : List Nat
  dumps : Nat
  /-- Numbers of the dumps held and the records they start at. -/
  dumpAt : List (Nat × Nat)
  bytes : Nat
  written : List Nat
  deriving DecidableEq, Repr

/-! ### Cores and Proofreader cores -/

/-- The probe's controls over its core (R18), and what the specimen unit holds of it; `reprobe`: a
margin probe is due (R142). -/
structure Probe where
  freeze : Bool
  reset : Bool
  isolate : Bool
  drain : Bool
  drained : Bool
  /-- The core's clock is stopped by other means than a freeze, or runs below the cap (R50). -/
  stopped : Bool
  slow : Bool
  /-- Isolate and drain asked while the core was frozen: they take effect at the release (R18). -/
  isolateAsked : Bool
  drainAsked : Bool
  spared : Bool
  passedSpecimen : Bool
  /-- A lowering of the trim under way, in mV (R144), and what the guard-band map holds beside the objects .85 to .8B: the
  flags byte and the core clock (R141). -/
  goal : Option Int
  /-- A trim command outside a probe awaits its settled: 1, or 2 when it restores a trim that a command missed (R140). -/
  settling : Nat
  reprobe : Bool
  mapFlags : BitVec 8
  mapClock : BitVec 16
  deriving DecidableEq, Repr

structure PcSt where
  lastSilent : Option Word
  /-- Duties wait to come back at the next step boundary (R16). -/
  returning : Bool
  deriving DecidableEq, Repr

/-- Firmware images (R16, R30, R32): the image store and where its image came from, as object 0x1010.03. -/
structure Images where
  store : Bytes
  source : Nat
  staged : Bytes
  activating : Bool
  waitIdle : Bool
  deriving DecidableEq, Repr

/-- An attention row under check (R68 to R73). -/
structure Row where
  w : Work
  row : Nat
  max : Option Dy
  keys : Nat
  raised : List Nat
  records : List Nat
  l : Dy
  sigma : Dy
  tau : Dy
  bad : Bool
  deriving DecidableEq, Repr

/-- A message of the steward path (01, 02, 04, 08, 12). -/
inductive Frame where
  | heartbeat
  | stepReport (d : Dom) (s : Nat) (proven : Option Nat) (colophon : Colophon)
  | jobClear (d : Dom) (s : Nat) (proven : Option Nat)
  | failure (d : Dom) (kind : FailureKind)
  | taint (d : Dom) (s : Nat)
  | rollback (d : Dom) (target : Nat) (incarnation : BitVec 4)
  | arm (t : Word)
  | startStatus (status : Byte)
  | discard (d : Dom)
  | proofRequest (d : Dom) (k : LCore) (s index : Nat)
  | proofIssue (d : Dom) (k : LCore) (s : Nat) (requester : Rank) (index : Nat)
  | proofResult (d : Dom) (k : LCore) (s : Nat) (colophon : Colophon) (units : Nat)
  | proofNotProofable (d : Dom) (k : LCore) (s : Nat)
  | linkLoss (d : Dom) (abandoned : Nat) (p : PortNo)
  | sparingComplete (d : Dom)
  | fault
  | freeze (at_ : Option Word)
  | freezeRequest
  | freezeReport (frozen : Bool)
  | hold (d : Dom) (divergence : Option (Nat × Option LCore))
  | fetchCores (d : Dom) (s : Nat)
  | fetchOperators (d : Dom) (s : Nat) (k : LCore)
  | fetchWork (d : Dom) (s : Nat) (k : LCore) (layer oper : BitVec 16)
  deriving DecidableEq, Repr

/-- What the last command sent across Phory's boundary (log entry 7). -/
inductive Out where
  | msix (vector : Nat)
  | ibi (payload : Bytes)
  | adp (path : Path) (rank : Rank) (eid : Byte) (msg : Fin 8) (message : Bytes)
  | windowRead (data : Bytes)
  | mctp (b : Binding) (payload : Bytes)
  | i3c (payload : Bytes)
  | frame (rank : Rank) (f : Frame)
  | heartbeat (pc : PcNo)
  | stewardBeat
  | beacon (t : Word)
  | beaconReply (r : Rank) (t1 t2 t3 : Word)
  | identityAnswer (p : PortNo) (coords : Word) (revision kind : Byte)
  | identityRequest (p : PortNo)
  | proof (d : Dom) (k : LCore) (s : Nat) (core : PCore) (seed : Word)
  | revise (d : Dom) (k : LCore) (s : Nat) (core : PCore) (seed : Word)
  | remoteProof (d : Dom) (k : LCore) (s : Nat) (r : Rank)
  | cancelProof (d : Dom) (k : LCore) (s : Nat)
  | gate (d : Dom) (s : Nat)
  | startCores (d : Dom)
  | specimen (core : PCore) (run : Nat)
  | crosscore (core : PCore) (run : Nat) (work : CrossWork)
  | regulator (core : PCore) (mv : Int)
  | fill (core : PCore)
  | trainMemory (n : StackNo)
  | trainLink (p : PortNo)
  | selftest (u : TestUnit)
  | scan (m : MseNo)
  | refill (d : Dom) (entry : Nat)
  | resetCore (core : PCore)
  | resetEngine (core : PCore) (e : EngineNo)
  | resetChip
  | resetPc (pc : PcNo)
  | powerCycle (low : Bool)
  | stopClocks (cores : List PCore) (chip : Bool)
  | releaseClocks
  | freezePin (low : Bool)
  | pause (p : PortNo)
  | programFuses (state : Nat)
  | kvSpill (page : Word) (tag : Bytes)
  | kvDone (page : Word) (ok : Bool)
  | fenceStatus
  | writeBack (core : PCore) (word : BitVec 25)
  | poisonWord (core : PCore) (word : Nat)
  | capture (core : PCore)
  | regen (d : Dom) (k : LCore) (s : Nat) (core : PCore) (seed : Word)
  | traceWrite (record : Bytes)
  deriving DecidableEq, Repr

/-- The state of the block of one chip. -/
structure State where
  /-- Commands that wait, first in first out (log entry 20). -/
  pending : List Instr
  dict : Tab Word
  cont : Tab Bytes
  stat : Tab Stat
  /-- Global time in units of 1/16 ns (R33). -/
  now : Word
  timers : List Timer
  out : List Out
  /-- Counter of the free values taken; the model's own (log entry 4). -/
  free : Nat
  staged : List Staged
  drain : Option Drain
  chans : Tab (Option Chan)
  adp : List AdpWait
  data : Tab Bytes
  tb : TimeBase
  doms : List DomSt
  proofs : List Proof
  suspects : List (Nat × Nat × Nat)
  proofSuspects : List (Nat × Nat × Nat)
  rows : List Row
  /-- Work whose check timeout won; its result, when it comes after all, is late (R78). -/
  checkLate : List (PCore × EngineNo × Nat)
  /-- Work of discarded steps that has no result yet (R113). -/
  oldWork : List (PCore × EngineNo × Nat)
  regen : Option Regen
  job : Steward
  runs : List Run
  nextRun : Nat
  crosses : List Cross
  nextCross : Nat
  /-- Passes of cross-core pairing made (R135); the length of the budget window under way (R149); the last one was over its
  budget, and in how many specimen intervals on end the run of each enabled core was deferred; the runs and the cross-core
  passes' cores that wait for a window within its budget (R150). -/
  crossPass : Nat
  budgetWindow : Nat
  overBudget : Bool
  deferred : Tab Nat
  waitingRuns : List PCore
  waitingCross : List PCore
  probings : List Probing
  badRegulators : List PCore
  idleMoves : List LCore
  /-- Cores whose slice is filled for a number of no active domain (R187), and those claimed for one whose margin probe's
  regulator has not settled yet (R141). -/
  idleFills : List PCore
  idleWaits : List PCore
  slices : Tab Slice
  digests : Tab Digest
  kv : List Kv
  /-- Times of Phory's own fences (R199), and fences of each unit since manufacture (R200), by kind and number of its Attic
  entries. -/
  fences : List Nat
  fenceCounts : Tab Nat
  attic : List Bytes
  /-- Units out of service until the next cold start, as kind and number of an Attic entry (R200, R201). -/
  holes : List (Nat × Nat)
  err : ErrSt
  bring : Bring
  test : SelfTest
  keyClearing : Bool
  keyCleared : Bool
  lcToken : Option Bytes
  /-- Target of the life-cycle transition whose fuses are being programmed (R369). -/
  lcProgramming : Option Nat
  coldStarts : Nat
  frz : FreezeSt
  obs : ObsSt
  rcv : RecSt
  cel : CellarSt
  probes : Tab Probe
  pcs : List PcSt
  img : Images
  /-- Power: the always-on supply is in range, PHY_PORST_N is released, a brown-out is in progress, PHY_PWRCYC_N is low
  (R374, R380, R381). -/
  powered : Bool
  porst : Bool
  brownOut : Bool
  pwrcyc : Bool
  /-- Second of global time of the last near-miss record per crossing class 2 to 6 (R25). -/
  nearSecs : Tab Nat
  /-- The policy and host map read at the last cold start (class K, R183). -/
  coldMap : Nat × Bytes
  deriving DecidableEq, Repr

/-- A step domain after reset: inactive. -/
def DomSt.idle : DomSt where
  active := false
  cores := []
  start := 0
  running := false
  begun := 0
  suspended := false
  closing := none
  closeIssued := false
  steps := []
  held := none
  priority := []
  passes := []
  failed := []
  pages := []
  lengths := []
  spills := []
  sparings := []
  sparingWaits := false
  walk := false
  committed := none
  releasedStep := none
  replayTo := 0
  lateStart := false
  poison := none
  jobHeld := none
  abandoned := none

/-- The machine right after the release of PHY_PORST_N with the supplies in range: stage 1 of a cold start has begun
(R242, R247; log entry 1), every entry at its default but for the stage and the count of bring-ups, global time at 0 (R246), every core's reset control set (R245). -/
def State.reset : State where
  pending := []
  dict := [(key 0x2500 1, 1), (key 0x2500 6, 1)]
  cont := []
  stat := []
  now := 0
  timers := []
  out := []
  free := 0
  staged := []
  drain := none
  chans := []
  adp := []
  data := []
  tb := { frac := 0, timeSet := false, pendingLoad := none, holdover := false, backup := false, refLost := false,
          beacon := none, base := 0, offset := 0, refusedArms := [], log := [], since := 0, startT := 0, anyStart := false }
  doms := List.replicate 8 DomSt.idle
  proofs := []
  suspects := []
  proofSuspects := []
  rows := []
  checkLate := []
  oldWork := []
  regen := none
  job := { dom := none, steps := [], provens := [], proven := none, told := none, batch := [], lost := [], arms := [],
           armT := none, waitRoutes := false, waitSparing := [], frozen := [], narrow := none, narrowLost := none, diverged := none, silent := false,
           resume := false }
  runs := []
  nextRun := 0
  crosses := []
  nextCross := 0
  crossPass := 0
  budgetWindow := 0
  overBudget := false
  deferred := []
  waitingRuns := []
  waitingCross := []
  probings := []
  badRegulators := []
  idleMoves := []
  idleFills := []
  idleWaits := []
  slices := []
  digests := []
  kv := []
  fences := []
  fenceCounts := []
  attic := []
  holes := []
  err := { queue := [], reserved := none, handling := none, lateRecords := [], grants := [],
           msixMask := BitVec.allOnes 2048, msixPending := 0, ibiEnabled := false, ibiOut := none, ibiQueue := [],
           maxRead := Config.i3cMaxRead, maxWrite := Config.i3cMaxWrite, pulse := false, holdToCome := false,
           hold := false, faultAt := 0 }
  bring := { halted := false, haltAt := 0, stageBegun := 0, begun := 0, excluded := 0, exceptions := false,
             counts := [0, 0, 0, 0], fillLeft := [], memLeft := [], linkLeft := [], specLeft := [], idLeft := [],
             answered := [], retried := [], fuses := none, stackSt := [0, 0, 0, 0], heldPorts := [], recheck := false,
             copy := (0, [], 0), timeDone := false }
  test := { running := [], cores := [], waiting := [], batch := 0, stack := none, stackFailed := false, returning := [],
            awaiting := [] }
  keyClearing := false
  keyCleared := false
  lcToken := none
  lcProgramming := none
  coldStarts := 0
  frz := { on := false, grant := 0, src := 0, inst := 0, chip := false, cores := [], rank := ones32,
           triggers := 0, byPin := false, driving := false, releasing := [], dump := none,
           record := [], readOut := false, pauses := [], spread := none, driveEnd := 0 }
  obs := { rings := [], ringQueue := [], counters := [], trace := [], traceAt := 0, drop := none, watches := [],
           bp := none, bpWaiting := [], lcc := [] }
  rcv := { resets := [], latching := [], latchLate := [], capturing := [], dumps := [], heldAtLimit := [] }
  cel := { entries := [], pos := [0, 0, 0, 0, 0], seqs := [0, 0, 0, 0, 0], halfB := false, bad := [], dumps := 0,
           dumpAt := [], bytes := 0, written := [0, 0, 0, 0, 0] }
  probes := []
  pcs := List.replicate 4 { lastSilent := none, returning := false }
  img := { store := [], source := 0, staged := [], activating := false, waitIdle := false }
  powered := true
  porst := true
  brownOut := false
  pwrcyc := false
  nearSecs := []
  coldMap := (0, [])

end Sys2Proof.Machine
end

