-- ==== Sys2Proof/Machine/Ops.lean ====
section
/-! DEFINITION. The named operations of the whole machine: sparse tables, dictionary values and content, counters, what is
sent, timeouts with their near misses (R20, R23, R385), domains, probes, hold masks. -/

namespace Sys2Proof.Machine

/-! ### Sparse tables -/

/-- The value at k; an unlisted key holds the default. -/
def tabGet {α : Type} (d : α) : Tab α → Nat → α
  | [], _ => d
  | (j, v) :: l, k => if j = k then v else tabGet d l k

/-- l without the key k. -/
def tabDrop {α : Type} : Tab α → Nat → Tab α
  | [], _ => []
  | (j, v) :: l, k => if j = k then tabDrop l k else (j, v) :: tabDrop l k

/-- l with k put before the first greater key. -/
def tabInsert {α : Type} : Tab α → Nat → α → Tab α
  | [], k, v => [(k, v)]
  | (j, w) :: l, k, v => if k < j then (k, v) :: (j, w) :: l else (j, w) :: tabInsert l k v

/-- The table with v at k; the default is not listed. -/
def tabPut {α : Type} [DecidableEq α] (d : α) (l : Tab α) (k : Nat) (v : α) : Tab α :=
  if v = d then tabDrop l k else tabInsert (tabDrop l k) k v

/-- The canonical form: keys rise strictly. -/
def tabSorted {α : Type} : Tab α → Bool
  | [] => true
  | [_] => true
  | (j, _) :: (k, v) :: l => decide (j < k) && tabSorted ((k, v) :: l)

/-! ### Dictionary values -/

/-- The newest value of an entry (R364). -/
def State.get (s : State) (k : Nat) : Word := tabGet (dfltOf k) s.dict k

/-- The same as a number. -/
def State.nat (s : State) (k : Nat) : Nat := (s.get k).toNat

def State.put (s : State) (k : Nat) (v : Word) : State := { s with dict := tabPut (dfltOf k) s.dict k v }

def State.putN (s : State) (k n : Nat) : State := s.put k (BitVec.ofNat 64 n)

/-- The newest content of a STR or DOMAIN entry. -/
def State.content (s : State) (k : Nat) : Bytes := tabGet (dfltContent k) s.cont k

def State.setContent (s : State) (k : Nat) (b : Bytes) : State := { s with cont := tabPut (dfltContent k) s.cont k b }

/-- The status of an entry no write of which was granted since cold start. -/
def Stat.none : Stat := { st := .completed, path := 0, reason := 0, count := 0 }

def State.status (s : State) (k : Nat) : Stat := tabGet Stat.none s.stat k

def State.setStatus (s : State) (k : Nat) (v : Stat) : State := { s with stat := tabPut Stat.none s.stat k v }

/-- The write status alone changed (R351), as when a write that was in progress ends. -/
def State.endWrite (s : State) (k : Nat) (st : WSt) (reason : Nat) : State :=
  s.setStatus k { s.status k with st := st, reason := BitVec.ofNat 8 reason }

/-- Bits of the value field that the entry's type uses (R348). -/
def widthOf (k : Nat) : Nat :=
  match entryOf k with
  | some e => e.ty.bits
  | none => 64

/-- A counter raised by n. Beyond the width of its type the spec states no value: a free one (log entry 4). -/
def State.bumpBy (s : State) (k n : Nat) : State :=
  let v := s.nat k + n
  if v < 2 ^ widthOf k then s.putN k v else s.put k (Config.counterOverflow k v)

def State.bump (s : State) (k : Nat) : State := s.bumpBy k 1

/-- A fresh free value: one that the spec leaves to parties outside (log entry 4). -/
def State.fresh (s : State) : Word × State := (Config.freeWord s.free, { s with free := s.free + 1 })

/-- A staged value still in force for a waiting domain (R363, R364), if any. -/
def stagedFor (d : Dom) (k : Nat) : List Staged → Option Staged
  | [] => none
  | x :: l => if x.key = k ∧ d ∈ x.waiting then some x else stagedFor d k l

/-- The value of an entry in force for the work of domain d. -/
def State.valFor (s : State) (d : Dom) (k : Nat) : Word :=
  match stagedFor d k s.staged with
  | some x => x.old
  | none => s.get k

def State.natFor (s : State) (d : Dom) (k : Nat) : Nat := (s.valFor d k).toNat

/-- The value in force for work of a domain, or for work of none. -/
def State.valOf (s : State) (d : Option Dom) (k : Nat) : Nat :=
  match d with
  | some d => s.natFor d k
  | none => s.nat k

/-! ### What is sent, and the start of every command -/

/-- Every command starts by clearing what the one before it sent (log entry 7). -/
def State.begin (s : State) : State := { s with out := [] }

def State.send (s : State) (o : Out) : State := { s with out := s.out ++ [o] }

def State.sendAll (s : State) (l : List Out) : State := { s with out := s.out ++ l }

/-! ### Time -/

/-- Units of 1/16 ns in a nanosecond, microsecond, millisecond and second (R9). -/
def ns (n : Nat) : Nat := 16 * n

def us (n : Nat) : Nat := 16000 * n

def ms (n : Nat) : Nat := 16000000 * n

def sec (n : Nat) : Nat := 16000000000 * n

def hour (n : Nat) : Nat := sec (3600 * n)

/-- Global time as a number. -/
def State.t (s : State) : Nat := s.now.toNat

/-- The tick of the time base (R34): the addend of object 0x1200.07 is added to global time and its fraction. Global
time never decreases (R33), so it stays at the end of its 64 bits. -/
def State.addTick (s : State) : State :=
  let v := s.t * 2 ^ 32 + s.tb.frac.toNat + s.nat (key 0x1200 7)
  { s with now := BitVec.ofNat 64 (min (v / 2 ^ 32) (2 ^ 64 - 1)), tb := { s.tb with frac := BitVec.ofNat 32 v } }

/-! ### Timeouts -/

/-- Arm a timeout by the command that its expiry is, at an instant; one already armed by that command is replaced. -/
def State.armAt (s : State) (c : Instr) (due : Nat) : State :=
  { s with timers := s.timers.filter (fun t => t.cmd ≠ c) ++ [{ cmd := c, due := due, fired := none, held := none }] }

/-- Arm a timeout for a time from now. -/
def State.arm (s : State) (c : Instr) (units : Nat) : State := s.armAt c (s.t + units)

def State.disarm (s : State) (c : Instr) : State := { s with timers := s.timers.filter (fun t => t.cmd ≠ c) }

/-- Disarm every timeout whose command meets p. -/
def State.disarmAll (s : State) (p : Instr → Bool) : State := { s with timers := s.timers.filter (fun t => !p t.cmd) }

def findTimer (c : Instr) (l : List Timer) : Option Timer := l.find? (fun t => t.cmd == c)

/-- The timeout is armed. -/
def State.armed (s : State) (c : Instr) : Bool := (findTimer c s.timers).isSome

/-- Global time has reached the armed instant (R20); a held timeout does not run (R291). -/
def State.due (s : State) (c : Instr) : Bool :=
  match findTimer c s.timers with
  | some t => t.held.isNone && decide (t.due ≤ s.t)
  | none => false

/-- The first near miss of a class in a second of global time is logged in the Cellar; whether this is one (R25). -/
def State.firstNearMiss (s : State) (cls : Nat) : Bool := tabGet 0 s.nearSecs cls ≠ s.t / sec 1 + 1

/-- A near miss at a crossing of class 2 to 6 (R23, R385): counted in object 0x1080.01 and that of its class, with its time
and site. The site number of the arbiter is a free value: the spec numbers no site (log entry 12). -/
def State.nearMissCount (s : State) (cls arbiter : Nat) : State :=
  let s := (s.bump (key 0x1080 1)).bump (key 0x1080 cls)
  let s := s.put (key 0x1080 8) s.now
  let s := s.putN (key 0x1080 9) (cls * 2 ^ 24 + (Config.siteNumber cls arbiter).toNat)
  { s with nearSecs := tabPut 0 s.nearSecs cls (s.t / sec 1 + 1) }

/-- A late arrival for which the chapter of its timeout states nothing else (R23). -/
def State.late (s : State) : State := s.bump (key 0x1080 7)

/-- A timeout command wins: its timeout is armed and due. -/
def State.expired (s : State) (c : Instr) : Bool := s.due c

/-- Local cycle count of a core's clock domain (R36). -/
def State.lccOf (s : State) (c : PCore) : Word := tabGet 0 s.obs.lcc c.val

/-! ### Arbiters (R22, R24) -/

/-- The arbiter at which a timeout meets the arrival it awaits, and the core whose clock domain stamps that arrival. The
spec numbers no arbiter: the numbers only keep the arbiters apart (log entry 160). Arbiters of the error sources have the
source numbers, those of dictionary writes come from 2^24 on. -/
def arbiterOf : Instr → Nat × Option PCore
  | .checkTimeout w => (0x10000 + 7 * w.core.val + w.engine.val, some w.core)
  | .proofTimeout d k _ => (0x20000 + 576 * d.val + k.val, none)
  | .specimenTimeout c _ => (0x30000 + c.val, some c)
  | .crosscoreTimeout c _ => (0x30400 + c.val, some c)
  | .settleTimeout c => (0x30800 + c.val, some c)
  | .captureTimeout c => (0x30C00 + c.val, some c)
  | .fillTimeout c => (0x31000 + c.val, none)
  | .selftestTimeout u => (match u with
    | .core c => 0x31400 + c.val
    | .slice c => 0x31800 + c.val
    | .stack n => 0x31C00 + n.val
    | .central i => 0x31C10 + i.val
    | .port p => 0x31C20 + p.val
    | .scanEngine m => 0x31C40 + m.val, none)
  | .memoryTrainingTimeout n => (0x32000 + n.val, none)
  | .linkTrainingTimeout p => (0x32010 + p.val, none)
  | .identityTimeout p => (0x32030 + p.val, none)
  | .channelIdleTimeout c => (0x32050 + c.val, none)
  | .pcSilent p => (0x32060 + p.val, none)
  | .refillTimeout d => (0x32070 + d.val, none)
  | .hostRefillTimeout d => (0x32080 + d.val, none)
  | .compareTimeout _ => (0x32090, none)
  | .regenTimeout => (0x32091, none)
  | .breakpointDrainTimeout => (0x32092, none)
  | .bpHaltTimeout => (0x32093, none)
  | .resetTimeout _ => (0x32094, none)
  | .dumpBudgetTimeout => (0x32095, none)
  | .drainTimeout => (0x32096, none)
  | .specimenStageTimeout => (0x32097, none)
  | .startTimeReached _ => (0x32098, none)
  | .startReportDeadline => (0x32099, none)
  | .stewardTimeout => (0x3209A, none)
  | .handlingTimeout => (0x3209B, none)
  | .timeLockTimeout => (0x3209C, none)
  | .tpulseWatchTimeout => (0x3209D, none)
  | .beaconLossHoldover => (0x3209E, none)
  | .freezeReleaseTimeout => (0x3209F, none)
  | _ => (0x320A0, none)

/-- The arbiter of a Proofreader core's reset (R15), and that of the writes of a dictionary entry. -/
def pcArbiter (p : PcNo) : Nat := 0x320B0 + p.val

def writeArbiter (k : Nat) : Nat := 2 ^ 24 + k

def Grant.none : Grant := { next := 0, at_ := 0, lcc := 0 }

/-- An arbiter grants a contender that arrived at a time, with its stamps: the grant takes the arbiter's next sequence number
(R22, R24). -/
def State.grant (s : State) (a : Nat) (at_ lcc : Word) : BitVec 16 × State :=
  let g := tabGet Grant.none s.err.grants a
  (g.next, { s with err := { s.err with
    grants := tabPut Grant.none s.err.grants a { next := g.next + 1, at_ := at_, lcc := lcc } } })

/-- The time stamp of an expiry at its arbiter: the tick that signalled it, or this one (R20, R22). -/
def State.expiryStamp (s : State) (c : Instr) : Word := ((findTimer c s.timers).bind (·.fired)).getD s.now

/-- The timeout wins at its arbiter (R23): its grant, and it is no longer armed. -/
def State.expire (s : State) (c : Instr) : State :=
  if s.armed c then (s.grant (arbiterOf c).1 (s.expiryStamp c) 0).2.disarm c else s

/-! ### Domains, probes, slices, Proofreader cores -/

def State.dom (s : State) (d : Dom) : DomSt := s.doms.getD d.val DomSt.idle

def State.setDom (s : State) (d : Dom) (x : DomSt) : State := { s with doms := s.doms.set d.val x }

def State.upDom (s : State) (d : Dom) (f : DomSt → DomSt) : State := s.setDom d (f (s.dom d))

def allDoms : List Dom := List.finRange 8

def allCores : List PCore := List.finRange 600

def allEngines : List EngineNo := List.finRange 7

def allPorts : List PortNo := List.finRange 18

def allPcs : List PcNo := List.finRange 4

def State.activeDoms (s : State) : List Dom := allDoms.filter (fun d => (s.dom d).active)

/-- The probe of a core right after a chip reset: the core's reset control is set (R245). -/
def Probe.fresh : Probe :=
  { freeze := false, reset := true, isolate := false, drain := false, drained := false, stopped := false, slow := false,
    isolateAsked := false, drainAsked := false, spared := false,
    passedSpecimen := false, goal := none, settling := 0, reprobe := false, mapFlags := 0, mapClock := 0 }

def State.probe (s : State) (c : PCore) : Probe := tabGet Probe.fresh s.probes c.val

def State.setProbe (s : State) (c : PCore) (p : Probe) : State :=
  { s with probes := tabPut Probe.fresh s.probes c.val p }

def State.upProbe (s : State) (c : PCore) (f : Probe → Probe) : State := s.setProbe c (f (s.probe c))

def Slice.fresh : Slice :=
  { queue := [], table := [], times := [], rows := [], columns := [], applied := [], appliedCols := [], poisoned := [],
    rateHigh := false }

def State.slice (s : State) (c : PCore) : Slice := tabGet Slice.fresh s.slices c.val

def State.setSlice (s : State) (c : PCore) (x : Slice) : State :=
  { s with slices := tabPut Slice.fresh s.slices c.val x }

def PcSt.fresh : PcSt := { lastSilent := none, returning := false }

def State.pc (s : State) (p : PcNo) : PcSt := s.pcs.getD p.val PcSt.fresh

def State.setPc (s : State) (p : PcNo) (x : PcSt) : State := { s with pcs := s.pcs.set p.val x }

/-- State of a Proofreader core, object 0x1020.01–.04. -/
def pcKey (p : PcNo) : Nat := key 0x1020 (1 + p.val)

def State.pcRunning (s : State) (p : PcNo) : Bool := s.get (pcKey p) == 0

/-- The duty set of PCn is carried by a running core (R12, R14): bit n of that core's field of the duty map. -/
def State.dutyRuns (s : State) (n : PcNo) : Bool :=
  allPcs.any (fun p => s.pcRunning p && (s.get (key 0x1020 5)).getLsbD (4 * p.val + n.val))

/-- The stack that holds a core's slice (R154). -/
def stackOf (c : PCore) : StackNo := ⟨c.val % 24 / 6, by omega⟩

/-- Floor plan state of a core (R182) and the logical core it holds (0xFFFF none). -/
def State.fp (s : State) (c : PCore) : Nat := s.nat (coreKey c 0xA1)

def State.lcOf (s : State) (c : PCore) : Nat := s.nat (coreKey c 0xA2)

/-- The physical core behind a logical number, from the floor plan entries (R183). -/
def State.physOf (s : State) (k : LCore) : Option PCore := allCores.find? (fun c => s.lcOf c == k.val)

/-- The domain whose active mask holds a logical number. -/
def State.domOf (s : State) (k : Nat) : Option Dom :=
  s.activeDoms.find? (fun d => (s.dom d).cores.any (fun j => j.val == k))

/-- The active domain of a physical core. -/
def State.domOfCore (s : State) (c : PCore) : Option Dom :=
  if s.lcOf c = 0xFFFF then none else s.domOf (s.lcOf c)

/-- Logical cores of a mask of bytes, bit k = Lk (R184). -/
def maskCores (b : Bytes) : List LCore :=
  (List.finRange 576).filter (fun k => (b.getD (k.val / 8) 0).getLsbD (k.val % 8))

/-- Present step of a domain, object 0x1210.01–.08. -/
def State.stepOf (s : State) (d : Dom) : Nat := s.nat (domKey 0x1210 1 d)

/-- Bit b of a domain's hold mask set or cleared (R311). -/
def State.setHold (s : State) (d : Dom) (b : Nat) (on : Bool) : State :=
  let k := domKey 0x2901 1 d
  let m : Word := 1 <<< b
  s.put k (if on then s.get k ||| m else s.get k &&& ~~~m)

def State.holdBit (s : State) (d : Dom) (b : Nat) : Bool := (s.get (domKey 0x2901 1 d)).getLsbD b

/-- Life-cycle state in force (0x1100.01). -/
def State.lc (s : State) : Nat := s.nat (key 0x1100 1)

/-- Phory has power and is not held in reset (R374, R381). -/
def State.alive (s : State) : Bool := s.powered && s.porst && !s.brownOut

/-- The chip is in the fault state (R239). -/
def State.faulted (s : State) : Bool := s.get (key 0x2400 3) != 0

/-- The chip is in ROM service (R31): no image runs. -/
def State.romService (s : State) : Bool := s.get (key 0x1010 3) == 0

/-- A role object's value in force for the job's domain (R28). -/
def State.roleVal (s : State) (k : Nat) : Nat := s.valOf s.job.dom k

/-- The role of the chip (R26): 0 none, 1 worker, 2 steward. -/
def State.role (s : State) : Nat := s.roleVal (key 0x2C00 1)

/-- The domain of the job that holds the chip's role: the one that was activated for it, else the lowest active one. The
spec names none (log entry 10). -/
def State.jobDom (s : State) : Option Dom :=
  if s.role = 0 then none
  else match s.job.dom with
    | some d => some d
    | none => s.activeDoms.head?

/-- Domain d runs a multi-chip job. -/
def State.multi (s : State) (d : Dom) : Bool := s.jobDom == some d

/-- This chip's logical rank (R202). -/
def State.rank (s : State) : Rank := (s.get (key 0x1305 1)).setWidth 32

/-- The job identifier that enters keys and records: 0 for a single-chip job (R99). -/
def State.jobId (s : State) (d : Dom) : Word := if s.multi d then BitVec.ofNat 64 (s.roleVal (key 0x2C00 2)) else 0

/-- Global time plus a duration, as a word. -/
def State.after (s : State) (units : Nat) : Word := BitVec.ofNat 64 (s.t + units)

end Sys2Proof.Machine
end

