-- ==== Sys2Proof/Machine/Cellar.lean ====
section
/-! DEFINITION. The Cellar (14_cellar.md): regions, records and entries (R331 to R334), the two copies of a configuration
item and the change of halves (R337), the rings and their pointers (R336, R338), the read-out (R343), near-miss records
(R25). -/

namespace Sys2Proof.Machine

/-- Records of a region: the halves of the configuration, the error ring, the event ring, the dump region (R331). -/
def regionSize (r : Nat) : Nat := [32768, 32768, 131072, 65536, 786432].getD r 1

/-- Byte offset of a region (R331). -/
def regionBase (r : Nat) : Nat := [0, 0x200000, 0x400000, 0xC00000, 0x1000000].getD r 0

/-- Records that an entry of n body bytes occupies (R333). -/
def recordsFor (n : Nat) : Nat := (n + 39) / 40

/-- Byte offset of record i of a region, which is taken round its end. -/
def recordOffset (r i : Nat) : Nat := regionBase r + 64 * (i % regionSize r)

/-- Byte offset of record i of an entry. -/
def CellEntry.offset (e : CellEntry) (i : Nat) : Nat := recordOffset e.region (e.first + i)

/-- The entry lies on record i of its region. -/
def CellEntry.covers (e : CellEntry) (i : Nat) : Bool :=
  (i + regionSize e.region - e.first) % regionSize e.region < recordsFor e.body.length

/-- The entry reads as committed: its commit word, and the CRC of every record (R334). -/
def CellEntry.intact (e : CellEntry) : Bool := e.committed && e.damaged.isEmpty

/-- The value of a committed commit word (R332). -/
def commitWord : Nat := 0x7C0A3E11A5C39D46

/-- Record i of an entry (R332); a damaged record's CRC does not match. What a torn entry holds is free (log entry 13). -/
def CellEntry.record (e : CellEntry) (i : Nat) : Bytes :=
  if e.torn then (List.range 64).map (fun j => Config.rawState 14 e.seq (64 * i + j)) else
  let n := recordsFor e.body.length
  let used := (e.body.drop (40 * i)).take 40
  let tail := le 4 e.seq ++ le 4 i ++ le 2 (bitOf (i + 1 = n) * 2 ^ 15 + e.kind) ++ le 2 used.length ++
    used ++ List.replicate (40 - used.length) 0
  let crc := crc32c tail
  let crc := if i ∈ e.damaged then Nat.xor crc 1 else crc
  le 8 (if i = 0 ∧ e.committed then commitWord else 0) ++ le 4 crc ++ tail

/-- The first start at or after p at which n records lie on no record of the bad-record map (R340). -/
def findStart (bad : List Nat) (r n : Nat) : Nat → Nat → Nat
  | 0, p => p
  | fuel + 1, p =>
    match ((List.range n).reverse.find? (fun i => recordOffset r (p + i) ∈ bad)) with
    | some i => findStart bad r n fuel (p + i + 1)
    | none => p

/-- Sequence number of the oldest entry left in a region; 0 none. -/
def oldestSeq (l : List CellEntry) (r : Nat) : Nat :=
  ((l.filter (fun e => e.region == r && e.intact)).map (·.seq)).foldl (fun a x => if a = 0 then x else min a x) 0

/-- Write one entry and commit it (R333, R334): over older entries of a ring, which are destroyed (R335). -/
def CellarSt.append (c : CellarSt) (r kind : Nat) (body : Bytes) : CellarSt :=
  let n := recordsFor body.length
  let p := findStart c.bad r n (c.bad.length + 1) (c.pos.getD r 0) % regionSize r
  let sq := c.seqs.getD r 0 + 1
  let e : CellEntry :=
    { region := r, first := p, seq := sq, kind := kind, body := body, committed := true, torn := false, damaged := [] }
  let kept := c.entries.filter (fun x => x.region != r ||
    !((List.range n).any (fun i => x.covers ((p + i) % regionSize r)) ||
      (List.range (recordsFor x.body.length)).any (fun i => e.covers ((x.first + i) % regionSize r))))
  { c with entries := kept ++ [e], pos := c.pos.set r ((p + n) % regionSize r), seqs := c.seqs.set r sq,
           bytes := c.bytes + 64 * n, written := c.written.set r (c.written.getD r 0 + n) }

/-- The active half of the configuration region. -/
def CellarSt.half (c : CellarSt) : Nat := if c.halfB then 1 else 0

/-- The newest committed copies of the configuration items, one for each kind and index (R337). -/
def itemsInForce (l : List CellEntry) : List CellEntry :=
  (l.filter (fun e => e.region < 2 && e.intact)).foldl
    (fun acc e => acc.filter (fun x => !(x.kind == e.kind && x.body.take 2 == e.body.take 2)) ++ [e]) []

/-- One configuration item in two committed copies (R337). -/
def CellarSt.appendItem (c : CellarSt) (kind : Nat) (body : Bytes) : CellarSt :=
  (c.append c.half kind body).append c.half kind body

/-- The active half cannot take an item of that body twice: the items in force are copied to the other half, and the old
half's entries lose their commit words (R337). -/
def CellarSt.switchHalf (c : CellarSt) : CellarSt :=
  let old := c.half
  let c1 := { c with halfB := !c.halfB, pos := c.pos.set (1 - old) 0 }
  let c2 := (itemsInForce c.entries).foldl (fun c e => c.appendItem e.kind e.body) c1
  { c2 with entries := c2.entries.filter (fun e => e.region != old) }

def CellarSt.writeItem (c : CellarSt) (kind : Nat) (body : Bytes) : CellarSt :=
  let c := if c.pos.getD c.half 0 + 2 * recordsFor body.length > 32768 then c.switchHalf else c
  c.appendItem kind body

/-- The ring pointer item: newest sequence number and write position of each ring and of the dump region (R336). -/
def CellarSt.pointers (c : CellarSt) : Bytes :=
  le 2 0 ++ [2, 3, 4].flatMap (fun r => le 4 (c.seqs.getD r 0) ++ le 4 (recordOffset r (c.pos.getD r 0)))

/-- The item is written after every 4,096 records of a region (R336). -/
def CellarSt.point (c : CellarSt) (r : Nat) : CellarSt :=
  if 4096 ≤ c.written.getD r 0 then { c with written := c.written.set r 0 }.writeItem 0x10C c.pointers else c

/-- The Cellar objects follow what was written. -/
def State.setCellar (s : State) (c : CellarSt) : State :=
  let s := { s with cel := c }
  let s := s.putN (key 0x2A00 2) (c.seqs.getD 2 0)
  let s := s.putN (key 0x2A00 3) (oldestSeq c.entries 2)
  let s := s.putN (key 0x2A00 4) (c.seqs.getD 3 0)
  let s := s.putN (key 0x2A00 5) (oldestSeq c.entries 3)
  let s := s.putN (key 0x2A00 0xA) c.bad.length
  let s := s.putN (key 0x2A00 0xC) c.bytes
  s.putN (key 0x2A00 0xF) ((32768 - c.pos.getD c.half 0) / 16)

/-- An entry of a ring or of the dump region, handed to PC0 (R334). Writing takes place in the step that hands it over. -/
def State.cellarEntry (s : State) (r kind : Nat) (body : Bytes) : State :=
  s.setCellar ((s.cel.append r kind body).point r)

/-- An event log record other than an error record (R338). -/
def State.event (s : State) (kind : Nat) (body : Bytes) : State := s.cellarEntry 3 kind body

/-- A configuration item: its index in 2 bytes, then its content (R337). -/
def State.configItem (s : State) (kind index : Nat) (body : Bytes) : State :=
  s.setCellar (s.cel.writeItem kind (le 2 index ++ body))

/-- The content of the item in force, without its index. -/
def State.itemOf (s : State) (kind index : Nat) : Option Bytes :=
  ((itemsInForce s.cel.entries).find? (fun e => e.kind == kind && e.body.take 2 == le 2 index)).map (·.body.drop 2)

/-- A near miss (R23, R385): the arrival is granted, then the timeout that is discarded, which is counted. The first of its
class in a second writes the grant record of R25: site; of the arrival and of the timeout, each with global time and the
local cycle count of its clock domain (R22), the time stamps; the two grant sequences (log entry 161). -/
def State.nearMiss (s : State) (cls : Nat) (c : Instr) : State :=
  let first := s.firstNearMiss cls
  let a := arbiterOf c
  let lcc := match a.2 with
    | some p => s.lccOf p
    | none => 0
  let at_ := s.expiryStamp c
  let s := s.nearMissCount cls a.1
  let (x, s) := s.grant a.1 s.now lcc
  let (y, s) := s.grant a.1 at_ 0
  if first then
    s.event 0x012 (le 4 (s.nat (key 0x1080 9)) ++ le 8 s.t ++ le 8 lcc.toNat ++ le 8 at_.toNat ++ le 8 0 ++ le 2 x.toNat ++
      le 2 y.toNat)
  else s

/-- The awaited arrival is granted while its timeout is armed: it wins (R23). At or past the instant that is a near miss
at a crossing of the class. -/
def State.arrives (s : State) (c : Instr) (cls : Nat) : State :=
  if s.due c then (s.nearMiss cls c).disarm c
  else if s.armed c then
    (s.grant (arbiterOf c).1 s.now (match (arbiterOf c).2 with | some p => s.lccOf p | none => 0)).2.disarm c
  else s

/-- The 64 bytes at a record of the Cellar: the record of the entry that covers it, else zeros (as from manufacture, log
entry 2). -/
def State.recordAt (s : State) (off : Nat) : Bytes :=
  let r := if off < 0x200000 then 0 else if off < 0x400000 then 1 else if off < 0xC00000 then 2
    else if off < 0x1000000 then 3 else 4
  let i := (off - regionBase r) / 64
  match s.cel.entries.find? (fun e => e.region == r && e.covers i) with
  | some e => e.record ((i + regionSize r - e.first) % regionSize r)
  | none => List.replicate 64 0

/-- Raw records (R343): from object 0x2A01.01 for object 0x2A01.02 bytes. -/
def State.readData (s : State) : Bytes :=
  (List.range (s.nat (key 0x2A01 2) / 64)).flatMap (fun i => s.recordAt (s.nat (key 0x2A01 1) + 64 * i))

/-- The entry that object 0x2A01.04 names, when it is committed and not overwritten (R343). -/
def State.selected (s : State) : Option CellEntry :=
  let v := s.nat (key 0x2A01 4)
  let sel := bits v 63 62
  s.cel.entries.find? (fun e => e.intact && e.seq == bits v 31 0 &&
    (if sel = 3 then e.region == s.cel.half else e.region == sel + 2))

/-- Prefix and body of the selected entry (R343). -/
def CellEntry.dataOf (e : CellEntry) : Bytes :=
  le 2 e.kind ++ le 2 (recordsFor e.body.length) ++ le 4 e.body.length ++ e.body

end Sys2Proof.Machine
end

