-- ==== Sys2Proof/Machine/Flags.lean ====
section
/-! DEFINITION. Sticky, mask and summary bits of the error sources (R225, R227, R228) with the views the summary objects
0x2400.01, .02, .06 of a source and .0C–.0F give of them; event rings and their flags (R296, R297). -/

namespace Sys2Proof.Machine

/-- Sticky word w of source n; instance i is bit i mod 64 of word i ÷ 64 (R225). -/
def stickyKey (n i : Nat) : Nat := srcKey n (0x20 + i / 64)

def maskKey (n i : Nat) : Nat := srcKey n (0x62 + i / 64)

def State.sticky (s : State) (n i : Nat) : Bool := (s.get (stickyKey n i)).getLsbD (i % 64)

def State.setSticky (s : State) (n i : Nat) : State :=
  s.put (stickyKey n i) (s.get (stickyKey n i) ||| (1 <<< (i % 64)))

def State.masked (s : State) (n i : Nat) : Bool := (s.get (maskKey n i)).getLsbD (i % 64)

/-- Bits set in a word. -/
def popCount (w : Word) : Nat := ((List.range 64).filter (fun i => w.getLsbD i)).length

/-- Words of the source's scope. -/
def wordsOf (n : Nat) : Nat :=
  match sourceInfo n with
  | some i => i.scope.words
  | none => 0

/-- Instances of source n with the sticky bit set, object .06. -/
def State.stickyCount (s : State) (n : Nat) : Nat :=
  ((List.range (wordsOf n)).map (fun w => popCount (s.get (srcKey n (0x20 + w))))).sum

def State.anySticky (s : State) (n : Nat) : Bool :=
  (List.range (wordsOf n)).any (fun w => s.get (srcKey n (0x20 + w)) != 0)

/-- Object 0x2400.01. -/
def State.stickyTotal (s : State) : Nat := (sourceNumbers.map s.stickyCount).sum

/-- Object 0x2400.02: the highest class with a sticky bit set; 0xFF none. -/
def State.highestClass (s : State) : Nat :=
  let l := sourceNumbers.filter s.anySticky
  let has (x : ErrCls) : Bool := l.any (fun n => (sourceInfo n).map (·.cls) == some x)
  if has .f then 2 else if has .u then 1 else if has .c then 0 else 0xFF

/-- Objects 0x2400.0C–.0F: bit n of word w is source 64 w + n. -/
def State.summary (s : State) (w : Nat) : Word :=
  sourceNumbers.foldl (fun acc n => if n / 64 = w ∧ s.anySticky n then acc ||| (1 <<< (n % 64)) else acc) 0

/-- Object 0x2400.06 (R237): the fault state holds the pin above a pulse, a pulse above a hold. -/
def State.pinState (s : State) : Nat :=
  if s.faulted then 3 else if s.err.pulse then 1 else if s.err.hold then 2 else 0

/-- The physical core that an instance concerns: of a core, engine or slice. -/
def coreOfInstance (sc : Scope) (i : Nat) : Option PCore :=
  let c := match sc with
    | .core => some i
    | .slice => some i
    | .engine => some (i / 7)
    | _ => none
  match c with
  | some n => if h : n < 600 then some ⟨n, h⟩ else none
  | none => none

/-- Engine number of an instance in the event ring: 0 to 6, or 7 for the whole core. -/
def engineOfInstance (sc : Scope) (i : Nat) : Nat := if sc = .engine then i % 7 else 7

/-- Class bit of object 0x2700.01 for an event code (12, 'Event codes'); none: no such code. -/
def ringClass (code : Nat) : Option Nat :=
  if code = 1 ∨ code = 2 then some 0
  else if code = 3 ∨ code = 4 then some 1
  else if code = 5 ∨ code = 6 then some 2
  else if code = 7 ∨ code = 8 then some 3
  else if 9 ≤ code ∧ code ≤ 0xD then some 4
  else if code = 0xE ∨ code = 0xF then some 5
  else if code = 0x10 then some 6
  else if 0x11 ≤ code ∧ code ≤ 0x13 then some 7
  else none

def State.addEdges (s : State) (c : PCore) (n : Nat) : State :=
  { s with obs := { s.obs with lcc := tabPut 0 s.obs.lcc c.val (s.lccOf c + BitVec.ofNat 64 n) } }

/-- The clock domains of cores are reset: each count is logged, and begins again at 0 (R36). -/
def State.zeroCycles (s : State) (cores : List PCore) : State :=
  { s with
    tb := { s.tb with log := s.tb.log ++ cores.map (fun c => (1024 + c.val, s.now, s.lccOf c)) }
    obs := { s.obs with lcc := cores.foldl (fun (t : Tab Word) c => tabPut 0 t c.val 0) s.obs.lcc } }

/-- The ring is stopped: by R297, or by a capture whose ring the dump has not taken yet (R327). -/
def State.ringCaptured (s : State) (c : PCore) : Bool := c ∈ s.rcv.capturing

/-- Events that the probe's queue of a core still holds (R296). -/
def State.ringWaiting (s : State) (c : PCore) : List Nat :=
  (tabGet [] s.obs.ringQueue c.val).filter (fun x => decide (s.t < x))

/-- An event passes through the probe's queue, which accepts one every 3 to 7 ns: where in that range is free (R296). -/
def State.ringPass (s : State) (c : PCore) : State :=
  let l := s.ringWaiting c
  let at_ := max s.t (l.getLast?.getD 0) + ns 3 + (Config.freeWord s.free).toNat % (ns 4 + 1)
  { s with free := s.free + 1, obs := { s.obs with ringQueue := tabPut [] s.obs.ringQueue c.val (l ++ [at_]) } }

/-- One event in a core's ring (R296): the last 256 are kept. An event that finds the probe's queue of 16 full, or its ring
stopped by a capture (R327), is counted in object .C9. -/
def State.ringEvent (s : State) (c : PCore) (unit : Nat) (d : Option Dom) (code arg : Nat) : State :=
  match ringClass code with
  | none => s
  | some b =>
    if !(s.get (key 0x2700 1)).getLsbD b || s.get (coreKey c 0xC4) == 1 then s
    else if s.ringCaptured c || decide (16 ≤ (s.ringWaiting c).length) then s.bump (coreKey c 0xC9)
    else
      let s := s.ringPass c
      let dn := match d with
        | some d => d.val
        | none => 0
      let e := le 8 s.t ++ le 4 (s.lccOf c).toNat ++ le 1 code ++ le 1 (unit * 32 + dn * 4) ++ le 2 arg
      let l := tabGet [] s.obs.rings c.val ++ [e]
      let s := { s with obs := { s.obs with rings := tabPut [] s.obs.rings c.val (l.drop (l.length - 256)) } }
      let s := s.putN (coreKey c 0xC2) ((s.nat (coreKey c 0xC2) + 1) % 256)
      s.bump (coreKey c 0xC3)

/-- An event on each of several cores. -/
def State.ringEvents (s : State) (cs : List PCore) (unit : Nat) (d : Option Dom) (code arg : Nat) : State :=
  cs.foldl (fun s c => s.ringEvent c unit d code arg) s

end Sys2Proof.Machine
end

