-- ==== Sys2Proof/Machine/Errors.lean ====
section
/-! DEFINITION. A raise of an error source: capture, loss, counting and signalling (R227 to R238), the freeze that a source
in object 0x2800.07 triggers (R286 to R295), the fault state of class F (R239) with the capture that its dump needs
(R327). -/

namespace Sys2Proof.Machine

/-! ### Signalling -/

/-- An MSI-X message (R235): a masked vector gets its pending bit; a pending one adds no message. -/
def State.signalMsix (s : State) (vector : Nat) : State :=
  if s.err.msixMask.getLsbD vector then
    { s with err := { s.err with msixPending := s.err.msixPending ||| (1 <<< vector) } }
  else s.send (.msix vector)

/-- The payload of an in-band interrupt (R236): with a maximum read length below 5 the mandatory data byte alone. -/
def State.ibiPayload (s : State) (i : Ibi) : Bytes :=
  if i.mctp then [0xAE]
  else if s.err.maxRead.toNat < 5 then le 1 (0xE0 + i.cls)
  else le 1 (0xE0 + i.cls) ++ le 1 i.src ++ le 2 i.inst ++ [i.num]

/-- The oldest class C entry is dropped from a full queue of 32 (R236); with none of class C the queue holds no more. -/
def dropOldestC (l : List Ibi) : List Ibi :=
  match l with
  | [] => []
  | x :: r => if x.cls = 0 ∧ !x.mctp then r else x :: dropOldestC r

/-- An in-band interrupt (R236): sent at once when none is outstanding, else queued; none is sent or kept while interrupts
are not enabled or there is no dynamic address. -/
def State.signalIbi (s : State) (i : Ibi) : State :=
  if !s.err.ibiEnabled || s.get (key 0x1000 0xC) == 0 then s
  else match s.err.ibiOut with
    | none => { s with err := { s.err with ibiOut := some (i, 0) } }.send (.ibi (s.ibiPayload i))
    | some _ =>
      let q := if 32 ≤ s.err.ibiQueue.length then dropOldestC s.err.ibiQueue else s.err.ibiQueue
      { s with err := { s.err with ibiQueue := if q.length < 32 then q ++ [i] else q } }

/-- A pulse on PHY_ERR_N (R237): it ends no sooner than 1.0 µs after the raise; a raise of a held class holds the pin at
the pulse's end. Bit 0 of object 0x2400.04 holds for class C, bit 1 for class U. -/
def State.signalPin (s : State) (cl : ErrCls) : State :=
  let held := (s.get (key 0x2400 4)).getLsbD cl.num && cl.num < 2
  { s with err := { s.err with pulse := true, holdToCome := s.err.holdToCome || held } }.arm .errPulseEnd (us 1)

/-- Signal a raise on the routes of the source's object .04 (R234). -/
def State.signal (s : State) (n i : Nat) (cl : ErrCls) (num : Byte) : State :=
  let r := s.get (srcKey n 4)
  let s := if r.getLsbD 0 then s.signalMsix (s.nat (srcKey n 5)) else s
  let s := if r.getLsbD 1 then s.signalIbi { cls := cl.num, src := n, inst := i, num := num, mctp := false } else s
  if r.getLsbD 2 || cl == .f then s.signalPin cl else s

/-! ### Capture -/

/-- The capture of a raise whose sticky bit was clear; a full queue takes none and is counted, with 'capture overflow' in
its own slot (R233). Record numbers count from 1 since cold start (R238). -/
def State.capture (s : State) (n i : Nat) (seq : BitVec 16) (forced : Bool) (lcc : Word) (payload : Bytes)
    (slot : Bool) : State :=
  let num := s.nat (key 0x2400 0x11) + 1
  let c : Capture :=
    { src := n, inst := i, time := s.now, lcc := lcc, seq := seq, forced := forced, masked := s.masked n i,
      late := false, payload := payload, num := BitVec.ofNat 32 num, lost := s.get (srcKey n 8) }
  if slot then
    match s.err.reserved with
    | some _ => s.bump (key 0x2400 8)
    | none => { s.putN (key 0x2400 0x11) num with err := { s.err with reserved := some c } }
  else
    let s := s.putN (key 0x2400 0x11) num
    let s := { s with err := { s.err with queue := s.err.queue ++ [c] } }
    s.putN (key 0x2400 7) s.err.queue.length

/-- The raise concerns the reporting unit whose raise is being handled (R232). While no Proofreader core runs PC0's duties
nothing is handled. -/
def State.handlingUnit (s : State) (sc : Scope) (i : Nat) : Bool :=
  match s.err.handling with
  | some c => s.dutyRuns 0 && (sourceInfo c.src).map (·.scope) == some sc && c.inst == i
  | none => false

/-- The local cycle count of an instance's clock domain (R238): a core's, its engines' and its slice's is the core's. That of a
link port is the host chip's, of which no command tells the edges: a free value (log entry 163). Other instances have none. -/
def State.sourceCycles (s : State) (sc : Scope) (i : Nat) : Word × State :=
  match coreOfInstance sc i with
  | some c => (s.lccOf c, s)
  | none => if sc = .port then s.fresh else (0, s)

/-- A first raise: sticky bit, capture (or its loss to a full queue), and signalling unless masked (R227, R228). -/
def State.firstRaise (s : State) (n i : Nat) (info : SourceInfo) (seq : BitVec 16) (forced : Bool) (lcc : Word)
    (payload : Bytes) (slot : Bool) : State :=
  let s := s.setSticky n i
  let full := !slot && decide (256 ≤ s.err.queue.length)
  let s := if full then s.bump (key 0x2400 8) else s.capture n i seq forced lcc payload slot
  let num : Byte := if full then (Config.freeWord s.free).setWidth 8 else BitVec.ofNat 8 (s.nat (key 0x2400 0x11))
  let s := if full then { s with free := s.free + 1 } else s
  if s.masked n i then s else s.signal n i info.cls num

/-- The event of a first raise in the ring of the core it concerns, and the stop of that ring by a class U or F raise (R297). -/
def State.raiseInRing (s : State) (n i : Nat) (info : SourceInfo) : State :=
  match coreOfInstance info.scope i with
  | none => s
  | some c =>
    let s := s.ringEvent c (engineOfInstance info.scope i) (s.domOfCore c) 0x10 n
    if info.cls != .c && s.get (key 0x2700 2) == 1 then s.put (coreKey c 0xC4) 1 else s

/-- A raise of source n on instance i without the freeze and fault state that may follow it (R227 to R234); whether it was
a first raise, not lost. -/
def State.raise0 (s : State) (n i : Nat) (payload : Bytes) (forced : Bool) : State × Bool :=
  match sourceInfo n with
  | none => (s, false)
  | some info =>
    let (lcc, s) := s.sourceCycles info.scope i
    let (seq, s) := s.grant n s.now lcc
    let s := s.bump (srcKey n 7)
    -- a lost raise leaves one count in .07 and one in .08 (R231)
    if s.sticky n i then (s.bump (srcKey n 8), false)
    else if s.handlingUnit info.scope i then ((s.setSticky n i).bump (srcKey n 8), false)
    else
      let full := n != 0x18 && decide (256 ≤ s.err.queue.length)
      let s := s.put (srcKey n 9) s.now
      let s := s.firstRaise n i info seq forced lcc payload (n == 0x18)
      let s := s.raiseInRing n i info
      if !full then (s, true)
      else
        -- capture overflow, source 0x18, with its reserved slot (R233)
        let (seq, s) := s.grant 0x18 s.now 0
        let s := s.bump (srcKey 0x18 7)
        if s.sticky 0x18 0 then (s.bump (srcKey 0x18 8), true)
        else if s.handlingUnit .chip 0 then ((s.setSticky 0x18 0).bump (srcKey 0x18 8), true)
        else ((s.put (srcKey 0x18 9) s.now).firstRaise 0x18 0 ⟨.chip, .c⟩ seq false 0 [] true, true)

/-- The error record (R238): the 32-byte header, then the payload. -/
def Capture.bytes (c : Capture) : Bytes :=
  let cls := match sourceInfo c.src with
    | some i => i.cls.num
    | none => 0
  le 8 c.time.toNat ++ le 8 c.lcc.toNat ++ le 1 c.src ++
    le 1 (bitOf c.forced * 128 + bitOf c.masked * 64 + bitOf c.late * 32 + cls) ++ le 2 c.inst ++ le 2 c.seq.toNat ++
    le 2 c.payload.length ++ le 4 c.num.toNat ++ le 4 c.lost.toNat ++ c.payload

/-! ### Captures of cores (R327) -/

/-- A core is present: its floor plan state is not absent (R182). -/
def State.present (s : State) (c : PCore) : Bool := s.fp c != 4

def State.presentCores (s : State) : List PCore := allCores.filter s.present

/-- The content of a capture latch (R327). What the core shows of its commands, engines and synchronisation objects is
the core's own state, a free value of the model (log entry 13). -/
def State.latchOf (s : State) (c : PCore) (tag : Nat) (ok : Bool) : Bytes :=
  let head := le 8 s.t ++ le 2 tag ++ le 1 (if ok then 1 else 2) ++ List.replicate 53 0
  if ok then
    let engine (e : EngineNo) : Bytes :=
      le 8 (s.lccOf c).toNat ++ le 8 (s.nat (engKey c e 8)) ++
        (List.range 48).map (fun j => if j < 16 then Config.rawState 1 (c.val * 7 + e.val) (s.free * 64 + j) else 0)
    head ++ (List.range 512).map (fun j => Config.rawState 0 c.val (s.free * 512 + j)) ++
      allEngines.flatMap engine ++ (List.range 1024).map (fun j => Config.rawState 2 c.val (s.free * 1024 + j))
  else head ++ List.replicate 1984 0

/-- A core's latch fills (R327): it wins against its capture timeout, at a probe's crossing (R385). -/
def State.fillLatch (s : State) (c : PCore) : State :=
  let s := s.arrives (.captureTimeout c) 2
  let tag := match s.domOfCore c with
    | some d => s.nat (domKey 0x2902 1 d)
    | none => 0xFFFF
  let s := s.setContent (coreKey c 0xD1) (s.latchOf c tag true)
  let s := (s.putN (coreKey c 0xD2) 1).put (coreKey c 0xD4) s.now
  { s with free := s.free + 1, rcv := { s.rcv with latching := s.rcv.latching.filter (fun x => x ≠ c) } }

/-- What the capture latches do by themselves at a tick (R327): a latch still filling may fill now, a late fill may come and is
discarded (R23). When is the cores' own: a free value. -/
def State.tickLatches (s : State) : State :=
  let now (i : Nat) : Bool := (Config.freeWord (s.free + i)).getLsbD 0
  let n := s.rcv.latching.length
  let fill := (s.rcv.latching.zipIdx.filter (fun x => now x.2)).map (·.1)
  let late := (s.rcv.latchLate.zipIdx.filter (fun x => now (n + x.2))).map (·.1)
  let s : State := { s with
    free := s.free + n + s.rcv.latchLate.length,
    rcv := { s.rcv with latchLate := s.rcv.latchLate.filter (fun c => c ∉ late) } }
  (fill.foldl (fun s c => s.fillLatch c) s).bumpBy (key 0x1080 7) late.length

/-- Begin the capture of cores (R327): each ring stops and each latch fills, against the capture timeout of object 0x2900.07:
at once, or later, which is the core's own and a free value (log entry 92). An earlier latch not yet written is overwritten, and its dump is
incomplete (flag [3] of its trailer). -/
def State.beginCapture (s : State) (cs : List PCore) : State :=
  let s := { s with rcv := { s.rcv with
    capturing := s.rcv.capturing.filter (fun c => c ∉ cs) ++ cs,
    dumps := s.rcv.dumps.map (fun (d : Dump) =>
      if d.cores.any (fun c => c ∈ cs) then { d with flags := d.flags ||| 8 } else d) } }
  let s := s.sendAll (cs.map .capture)
  cs.foldl (fun s c =>
    let atOnce := (Config.freeWord s.free).getLsbD 0
    let s := s.arm (.captureTimeout c) (us (s.nat (key 0x2900 7)))
    let s : State := { s with free := s.free + 1, rcv := { s.rcv with
      latching := s.rcv.latching.filter (fun x => x ≠ c) ++ [c],
      latchLate := s.rcv.latchLate.filter (fun x => x ≠ c) } }
    if atOnce then s.fillLatch c else s.putN (coreKey c 0xD2) 0) s

/-- A dump that waits takes the next number since manufacture (R339). -/
def State.newDump (s : State) (d : Dump) : State :=
  let n := s.cel.dumps + 1
  { s with cel := { s.cel with dumps := n },
           rcv := { s.rcv with dumps := s.rcv.dumps ++ [{ d with num := n }] } }

/-! ### Steward path -/

/-- A worker sends a message to the steward of its multi-chip job (R27). What a steward itself observes it acts on
directly. -/
def State.toSteward (s : State) (f : Frame) : State :=
  if s.role = 1 then s.send (.frame (BitVec.ofNat 32 (s.roleVal (key 0x2C00 4))) f) else s

/-- Logical ranks of a job: the two of a lock-step pair, until the mirror is lost to it (R218), else 0 up to the number of workers
(R125, R126; log entry 14). A steward whose own rank lies above these, as a mirror that carries the job on alone has (R218), is
one of them in place of the last. -/
def State.jobRanks (s : State) : List Rank :=
  if s.get (key 0x2C10 1) = 1 then
    if s.get (key 0x2C10 6) = 4 then [s.rank] else [s.rank, (s.get (key 0x2C10 2)).setWidth 32]
  else
    let n := s.roleVal (key 0x2C00 8)
    let l := (List.range (n + 1)).map (BitVec.ofNat 32)
    if s.role = 2 && !l.contains s.rank then l.take n ++ [s.rank] else l

/-- Send a message from the steward to every other chip of the job. -/
def State.toWorkers (s : State) (f : Frame) : State :=
  s.sendAll ((s.jobRanks.filter (fun r => r ≠ s.rank)).map (fun r => .frame r f))

/-! ### Freeze -/

/-- The physical cores of the freeze scope: every present core, or those of the mask of object 0x2800.06 (R286). -/
def State.freezeScope (s : State) : List PCore :=
  if s.get (key 0x2800 5) = 0 then s.presentCores
  else s.presentCores.filter (fun c => ((s.content (key 0x2800 6)).getD (c.val / 8) 0).getLsbD (c.val % 8))

/-- The cores and domains whose arrival a timeout awaits (R291): held while one of them is frozen. `chip` is a wait on the
slices, links or the central logic, which only a chip-scope freeze stops. -/
def waitsOn (s : State) : Instr → List PCore × List Dom × Bool
  | .checkTimeout w => ([w.core], [], false)
  | .proofTimeout d _ _ => ([], [d], false)
  | .specimenTimeout c _ => ([c], [], false)
  | .crosscoreTimeout c _ => ([c], [], false)
  | .settleTimeout c => ([c], [], false)
  | .fillTimeout c => ([c], [], false)
  | .memoryTrainingTimeout _ => ([], [], true)
  | .linkTrainingTimeout _ => ([], [], true)
  | .specimenStageTimeout => ([], [], true)
  | .identityTimeout _ => ([], [], true)
  | .refillTimeout d => ((s.dom d).sparings.flatMap (fun p => p.fenced :: p.repl.toList), [d], false)
  | .hostRefillTimeout d => ((s.dom d).sparings.flatMap (fun p => p.fenced :: p.repl.toList), [d], false)
  | .regenTimeout => ((match s.regen with | some r => [r.core] | none => []), [], false)
  | .compareTimeout _ => ([], s.jobDom.toList, false)
  | .selftestTimeout u => ((match u with | .core c => [c] | .slice c => [c] | _ => []), [], false)
  | .breakpointDrainTimeout => (s.presentCores, [], false)
  | .bpHaltTimeout => (s.presentCores, [], true)
  | .resetTimeout r =>
    (match s.rcv.resets.find? (fun x => x.id == r) with | some x => x.cores | none => [], [], false)
  | .captureTimeout c => ([c], [], false)
  | .drainTimeout => ([], (match s.drain with | some x => x.domains | none => []), false)
  | _ => ([], [], false)

/-- Timeouts of stages 4 to 8, which no freeze during a bring-up lets run (R249). -/
def stageTimer : Instr → Bool
  | .fillTimeout _ => true
  | .memoryTrainingTimeout _ => true
  | .linkTrainingTimeout _ => true
  | .selftestTimeout _ => true
  | .specimenTimeout _ _ => true
  | .specimenStageTimeout => true
  | .identityTimeout _ => true
  | .timeLockTimeout => true
  | _ => false

/-- A core of the domain's active mask is frozen (R291, R311 bit 5). -/
def State.domFrozen (s : State) (d : Dom) : Bool :=
  s.frz.on && s.frz.cores.any (fun c => s.domOfCore c == some d)

/-- The freeze in force holds a timeout (R291). -/
def State.holdsTimer (s : State) (c : Instr) : Bool :=
  let w := waitsOn s c
  s.frz.on && (w.1.any (fun x => x ∈ s.frz.cores) || w.2.1.any s.domFrozen || (w.2.2 && s.frz.chip) ||
    (stageTimer c && decide (s.nat (key 0x2500 1) < 9)))

/-- Timeouts of p are held with their remaining time; the others are left. -/
def State.holdTimers (s : State) (p : Instr → Bool) : State :=
  { s with timers := s.timers.map (fun t =>
      if t.held.isNone && p t.cmd then { t with held := some (t.due - s.t), fired := none } else t) }

/-- Held timeouts of p resume with their remaining time. -/
def State.resumeTimers (s : State) (p : Instr → Bool) : State :=
  { s with timers := s.timers.map (fun t =>
      match t.held with
      | some r => if p t.cmd then { t with held := none, due := s.t + r } else t
      | none => t) }

/-- The freeze record (R295), 64 bytes. -/
def freezeRecord (grant last release : Nat) (trigger src inst scope flags cores domains fifo packets : Nat) (rank : Rank)
    (spread triggers : Nat) : Bytes :=
  le 8 grant ++ le 8 last ++ le 8 release ++ le 1 trigger ++ le 1 src ++ le 2 inst ++ le 1 scope ++ le 1 flags ++
    le 2 cores ++ le 4 domains ++ le 4 fifo ++ le 4 packets ++ le 4 rank.toNat ++ le 8 spread ++ le 8 triggers

/-- Ports that carry traffic: admitted, at full or reduced width. -/
def State.admitted (s : State) (p : PortNo) : Bool := s.nat (portKey p 1) == 2 || s.nat (portKey p 1) == 3

/-- Enter a freeze (R286 to R291): stop the clocks of the scope, record, hold the timeouts of R291, drive the pin, pause the
ports, raise 'freeze entered' and begin the dump. Last edges, their spread, FIFO entries and link packets are the host
chip's, within the 30 ns of R288: free values (log entry 13). -/
def State.enterFreeze (s : State) (trigger src inst : Nat) (rank : Rank) : State :=
  let cs := s.freezeScope
  let chip := s.get (key 0x2800 5) == 0
  let f (i n : Nat) : Nat := (Config.freeWord (s.free + i)).toNat % n
  let drive := (s.get (key 0x2800 9)).getLsbD 1
  let spread := f 0 (ns 30)
  let s0 := { s with free := s.free + 4 }
  let rcd := freezeRecord s.t (s.t + spread) 0 trigger src inst (bitOf !chip) (bitOf drive) cs.length
    (f 1 (2 ^ 32)) (f 2 (2 ^ 32)) (if chip then f 3 (2 ^ 32) else 0) rank spread 0
  let s := { s0 with frz := { s0.frz with
    on := true, grant := s.now, src := src, inst := inst, chip := chip, cores := cs, rank := rank,
    triggers := 0, byPin := trigger == 3 && !drive, driving := drive, releasing := [], dump := none,
    record := rcd, readOut := false } }
  let s := cs.foldl (fun s c =>
    let p := s.probe c
    let st : Nat := if p.reset then 2 else if p.stopped then 3 else 1
    ((s.setProbe c { p with freeze := true }).putN (coreKey c 0xC6) st).ringEvent c 7 (s.domOfCore c) 0xB 1) s
  let s := s.activeDoms.foldl (fun s d => if s.domFrozen d then s.setHold d 5 true else s) s
  let s := s.holdTimers s.holdsTimer
  let s := ((s.put (key 0x2800 0xB) 2).bump (key 0x2800 0xD)).setContent (key 0x2800 0xC) rcd
  let s := s.send (.stopClocks cs chip)
  let s := if drive then s.send (.freezePin true) else s
  let s := (s.raise0 0xA1 0 rcd false).1
  let s := if chip then (allPorts.filter s.admitted).foldl (fun (s : State) (p : PortNo) =>
      ({ s with free := s.free + 2 }.putN (portKey p 0x51) ((Config.freeWord s.free).toNat % 2 ^ 32)).putN (portKey p 0x52)
        ((Config.freeWord (s.free + 1)).toNat % 2 ^ 32)) s
    else s
  let s := if chip then
      (s.sendAll ((allPorts.filter s.admitted).map .pause)).arm .pauseIndicationPeriod (us 10)
    else s
  let s : State := if s.get (key 0x2800 0xE) == 1 then
      let s : State := s.newDump {
        num := 0, origin := 2, level := 0, flags := 0, cores := cs, doms := [], stackNos := [],
        chip := false, time := s.now, cause := s.nat (key 0x2400 0x11), record := rcd }
      { s with frz := { s.frz with dump := some s.cel.dumps } }
    else s
  s.toSteward (.freezeReport true)

/-- A trigger of R286. While frozen it is counted (R292). On a chip in a multi-chip job object 0x2800.08 decides (R289):
0 stays here, 1 freezes here and tells the steward, 2 asks the steward for a timed freeze. A steward frame does not
spread again from a worker. -/
def State.freezeTrigger (s : State) (trigger src inst : Nat) (rank : Rank) : State :=
  if s.frz.on then
    { (s.bump (key 0x2800 0x10)) with frz := { s.frz with triggers := s.frz.triggers + 1 } }
  else
    let mode := s.nat (key 0x2800 8)
    if s.role = 0 || trigger == 5 || trigger == 2 || mode == 0 then s.enterFreeze trigger src inst rank
    else if mode == 1 then
      let s := s.enterFreeze trigger src inst rank
      if s.role = 2 then s.toWorkers (.freeze none) else s.toSteward (.freeze none)
    else if s.role = 2 then
      let at_ := s.after (us (s.nat (key 0x2800 0xF)))
      ((s.toWorkers (.freeze (some at_))).put (key 0x2800 3) at_).armAt .timedFreeze at_.toNat
    else s.toSteward .freezeRequest

/-! ### Drains -/

/-- The drain control of a core is set (R18); an isolated core is drained at once. On a frozen core it takes effect at the
release. -/
def State.drainCore (s : State) (c : PCore) : State :=
  if (s.probe c).drain then s
  else if (s.probe c).freeze then s.upProbe c (fun p => { p with drainAsked := true })
  else (s.upProbe c (fun p => { p with drain := true, drained := p.isolate })).ringEvent c 7 (s.domOfCore c) 9 4

/-- The isolate control of a core is set (R18). On a frozen core it takes effect at the release. A core in reset is isolated
at once: R276 leaves a tested core "in reset and isolated" (log entry 162). -/
def State.isolateCore (s : State) (c : PCore) : State :=
  if (s.probe c).isolate then s
  else if (s.probe c).freeze then s.upProbe c (fun p => { p with isolateAsked := true })
  else (s.upProbe c (fun p => { p with isolate := true, drained := p.drained || p.drain })).ringEvent c 7 (s.domOfCore c) 9 3

/-- The isolate control of a core is released (R384); one asked during a freeze is dropped. -/
def State.unisolateCore (s : State) (c : PCore) : State :=
  let on := (s.probe c).isolate
  let s := s.upProbe c (fun p => { p with isolate := false, isolateAsked := false })
  if on then s.ringEvent c 7 (s.domOfCore c) 0xA 3 else s

/-- The freeze of a core is released: the controls of lower priority that were asked meanwhile take effect (R18). -/
def State.applyAsked (s : State) (c : PCore) : State :=
  let p := s.probe c
  let s := s.upProbe c (fun p => { p with freeze := false, isolateAsked := false, drainAsked := false })
  let s := if p.isolateAsked then s.isolateCore c else s
  if p.drainAsked then s.drainCore c else s

/-- The core's isolate control is set, or takes effect once the core's freeze is released. -/
def Probe.isolating (p : Probe) : Bool := p.isolate || p.isolateAsked

/-! ### Reset records (R328) -/

/-- The engine holds work that was issued and is not checked. -/
def State.holdsWork (s : State) (c : PCore) (e : EngineNo) : Bool :=
  match s.domOfCore c with
  | some d => (s.dom d).steps.any (fun r => !r.discarded &&
      r.cores.any (fun k => k.phys == c && k.work.any (fun w => w.1 == e)))
  | none => false

/-- The culprit (R328): the engine with work and the oldest progress; the lowest instance among equals. -/
def State.culprit (s : State) (cores : List PCore) : Option (PCore × EngineNo) :=
  (allCores.filter (fun c => c ∈ cores)).foldl (fun a c => allEngines.foldl (fun a e =>
    if !s.holdsWork c e then a
    else match a with
      | some (b, f) => if s.nat (engKey c e 8) < s.nat (engKey b f 8) then some (c, e) else a
      | none => some (c, e)) a) none

/-- The lowest logical core of a domain that has not arrived at the barrier of its step. -/
def State.missingCore (s : State) (d : Dom) : Option LCore :=
  ((s.dom d).steps.find? (fun r => r.n == s.stepOf d && !r.discarded)).bind (fun r =>
    ((List.finRange 576).find? (fun k => r.cores.any (fun c => c.k == k && !c.arrived))))

/-- Bytes 0x2E to 0x3F of a reset record. Stall reason, object and its kind come from the capture: free values (log entry
13). A missing arrival at a step barrier is the lowest core that has not arrived, or in a multi-chip job whose local cores
all arrived a rank that the capture names. -/
def State.culpritBytes (s : State) (d : Option Dom) (cores : List PCore) : Bytes :=
  let f (i n : Nat) : Nat := (Config.freeWord (s.free + i)).toNat % n
  match s.culprit cores with
  | none => le 2 0xFFFF ++ le 8 0 ++ le 1 0xFF ++ le 1 0xFF ++ le 2 0xFFFF ++ le 4 0xFFFFFFFF
  | some (c, e) =>
    let kind := f 2 4
    let missing : Nat := match d with
      | none => 0xFFFFFFFF
      | some d =>
        if kind = 1 then
          match s.missingCore d with
          | some k => k.val
          | none => if s.multi d then 2 ^ 31 + f 3 (2 ^ 17) else 0xFFFFFFFF
        else if kind = 2 then f 3 576
        else 0xFFFFFFFF
    le 2 c.val ++ le 8 (s.nat (engKey c e 8)) ++ le 1 e.val ++ le 1 (f 0 8) ++ le 2 (f 1 65536) ++ le 4 missing

/-- A reset record (R328) from its fields; completion, outcome, dump and counts are 0. -/
def resetRecordBytes (grant level origin mode unit tag d job step committed : Nat) (culprit : Bytes) : Bytes :=
  le 8 grant ++ le 8 0 ++ le 1 level ++ le 1 level ++ le 1 0 ++ le 1 origin ++ le 2 tag ++ le 1 d ++ le 1 mode ++ le 8 job ++
    le 6 step ++ le 6 committed ++ le 2 unit ++ culprit ++ le 4 0 ++ le 4 0 ++ le 4 0 ++ le 2 0 ++ le 2 0

/-! ### Fault state -/

/-- The fault state (R239): gates closed and barriers held, every probe's drain control set, the pin held low, the fault
frame sent, or the chip's own rank lost where it is the steward itself, object 0x2400.03 at 1; then the capture and dump of a chip reset with origin 4 (R327), and the delay of R240.
A release or commit asks whether the chip is in the fault state. -/
def State.enterFault (s : State) : State :=
  if s.faulted then s
  else
    let s := s.put (key 0x2400 3) 1
    let s := s.activeDoms.foldl (fun s d => s.setHold d 10 true) s
    let s := allCores.foldl (fun s c => s.drainCore c) s
    let s := s.toSteward .fault
    let s : State := if s.role = 2 && !s.job.lost.contains s.rank then
        { s with job := { s.job with lost := s.job.lost ++ [s.rank] } } else s
    -- a chip reset does not end the fault state, nor begin its delay anew (R240)
    let s : State := if s.err.faultAt = 0 then { s with err := { s.err with faultAt := s.now } } else s
    let cs := s.presentCores
    let s := s.beginCapture cs
    let s := s.newDump { num := 0, origin := 3, level := 0, flags := 0, cores := cs, doms := s.activeDoms,
                         stackNos := List.finRange 4, chip := true, time := s.now,
                         cause := s.nat (key 0x2400 0x11),
                         record := setBytes (resetRecordBytes s.t 4 4 0 0xFFFF 0xFFFF 0xFF 0 (2 ^ 48 - 1) (2 ^ 48 - 1)
                           (s.culpritBytes none cs)) 0x40 (le 4 (s.cel.dumps + 1)) }
    let s : State := { s with free := s.free + 4 }
    let delay := s.nat (key 0x2400 9)
    if delay = 0 || s.armed .powerCycleDelay then s else s.arm .powerCycleDelay (ms delay)

/-- Source n is set in object 0x2800.07 (R286). -/
def State.triggersFreeze (s : State) (n : Nat) : Bool :=
  ((s.content (key 0x2800 7)).getD (n / 8) 0).getLsbD (n % 8)

/-- A raise with all that follows: capture and signalling, the freeze of R286 on a first raise, the fault state of class F,
which a lost raise enters as well (R231). -/
def State.raiseWith (s : State) (n i : Nat) (payload : Bytes) (forced : Bool) : State :=
  let (s, first) := s.raise0 n i payload forced
  let s := if first && s.triggersFreeze n then s.freezeTrigger 4 n i ones32 else s
  if (sourceInfo n).map (·.cls) == some .f then s.enterFault else s

/-- A raise that is not forced. -/
def State.raise (s : State) (n i : Nat) (payload : Bytes) : State := s.raiseWith n i payload false

/-- A raise of the source on the instance would be captured: it is not lost and there is room for it (R228, R231, R233). -/
def State.captures (s : State) (n i : Nat) : Bool :=
  match sourceInfo n with
  | some info => !s.sticky n i && !s.handlingUnit info.scope i &&
      (if n = 0x18 then s.err.reserved.isNone else decide (s.err.queue.length < 256))
  | none => false

/-- A raise whose payload is also the content of a 'last record' object when it is captured. -/
def State.raiseRecord (s : State) (n i : Nat) (payload : Bytes) (forced : Bool) (k : Nat) : State :=
  let c := s.captures n i
  let s := s.raiseWith n i payload forced
  if c then s.setContent k payload else s

/-! ### The life of a capture -/

/-- PC0 takes the next capture (R232, R233): the queue's first, then the reserved slot. -/
def State.takeCapture (s : State) : State :=
  if s.err.handling.isSome || !s.dutyRuns 0 then s
  else match s.err.queue with
    | c :: q =>
      let s := { s with err := { s.err with queue := q, handling := some c } }
      (s.putN (key 0x2400 7) q.length).arm .handlingTimeout (us 50)
    | [] =>
      match s.err.reserved with
      | some c => { s with err := { s.err with reserved := none, handling := some c } }.arm .handlingTimeout (us 50)
      | none => s

/-- The record of a capture enters the Cellar's error ring and the objects that hold the last record (R238, R338). -/
def State.commitRecord (s : State) (c : Capture) : State :=
  let s := s.cellarEntry 2 0x001 c.bytes
  (s.setContent (srcKey c.src 0xA) c.bytes).setContent (key 0x2400 0xB) c.bytes

end Sys2Proof.Machine
end

