-- ==== Sys2Proof/Machine/Adp.lean ====
section
/-! DEFINITION. The status word of an entry (R351), and the messages that the Aqrik dictionary protocol sends back (R354 to
R357): their layout, the paths they leave on, responses that wait for a status (R356) (15_object_dictionary.md). -/

namespace Sys2Proof.Machine

/-- Entries served in ROM service (R31, R347). -/
def romServed (k : Nat) : Bool :=
  let i := k / 256
  (decide (0x1000 ≤ i) && decide (i ≤ 0x10FF)) || i == 0x1100 || (decide (0x2400 ≤ i) && decide (i ≤ 0x24FF)) ||
    (decide (0x6000 ≤ i) && decide (i ≤ 0x600F))

/-- Code of a path (R346). -/
def Path.num : Path → Nat
  | .window => 0
  | .adpPcie => 1
  | .adpI3c => 2
  | .steward => 3

/-! ### Status words -/

/-- A staged value of the entry is pending (R364): for some domain, or in the drain under way. -/
def State.isStaged (s : State) (k : Nat) : Bool :=
  s.staged.any (fun x => x.key == k) || (match s.drain with | some w => w.items.any (fun i => i.1 == k) | none => false)

/-- A segmented transfer of the entry is open. -/
def State.inTransfer (s : State) (k : Nat) : Bool :=
  s.chans.any (fun (x : Nat × Option Chan) => match x.2 with | some c => c.entry == k | none => false)

/-- The status word with a read status in bits [15:8] (R351). An access that names no entry reads no type and no access. -/
def State.statusWord (s : State) (k : Nat) (read : WSt) : Word :=
  let t := s.status k
  let (ty, acc, st) : Nat × Nat × Nat := match entryOf k with
    | some e => (e.ty.code, e.acc.code, t.st.code)
    | none => (0, 0, WSt.noObject.code)
  BitVec.ofNat 64 (st + 2 ^ 8 * read.code + 2 ^ 16 * ty + 2 ^ 24 * acc + 2 ^ 28 * bitOf (s.isStaged k) +
    2 ^ 29 * bitOf (s.inTransfer k) + 2 ^ 30 * bitOf (romServed k) + 2 ^ 32 * t.count.toNat + 2 ^ 48 * t.path.toNat +
    2 ^ 56 * t.reason.toNat)

/-! ### Messages -/

/-- An ADP message (15, 'ADP message'): header, data, and the CRC-32C over both. -/
def adpMessage (op : Nat) (tag : BitVec 16) (index sub flags status reason off : Nat) (data : Bytes) : Bytes :=
  let b := le 1 1 ++ le 1 op ++ le 2 tag.toNat ++ le 2 index ++ le 1 sub ++ le 1 flags ++ le 1 status ++ le 1 reason ++
    le 2 data.length ++ le 4 off ++ data
  b ++ le 4 (crc32c b)

/-- A packet of 69 bytes passes on I3C in both directions (R355). -/
def State.i3cServes (s : State) : Bool := decide (69 ≤ s.err.maxRead.toNat) && decide (69 ≤ s.err.maxWrite.toNat)

/-- A message leaves on its path. On I3C the pending-read notification announces it; with lengths below 69 bytes nothing is
answered (R355). The steward path carries it to the rank (R357). -/
def State.sendAdp (s : State) (path : Path) (rank : Rank) (eid : Byte) (msg : Fin 8) (b : Bytes) : State :=
  let s1 := s.send (.adp path rank eid msg b)
  if path = .adpI3c then
    if s.i3cServes then s1.signalIbi { cls := 0, src := 0, inst := 0, num := 0, mctp := true } else s
  else s1

/-! ### Responses that wait (R356) -/

/-- The write to the entry still acts or waits. -/
def State.writeUnsettled (s : State) (k : Nat) : Bool :=
  match (s.status k).st with
  | .inProgress => true
  | .staged => true
  | .draining => true
  | _ => false

/-- The entry whose status word a response to a write carries: of a group the first whose write did not complete, else the
first. -/
def State.groupKey (s : State) (keys : List Nat) : Nat :=
  match keys.find? (fun k => (s.status k).st ≠ .completed) with
  | some k => k
  | none => keys.headD 0

/-- The response to a WRITE, GROUP_WRITE or DOWNLOAD_END: the status word, with its status and reason. -/
def State.writeResponse (s : State) (path : Path) (rank : Rank) (eid : Byte) (msg : Fin 8) (tag : BitVec 16) (op : Nat)
    (keys : List Nat) (off : Nat) : State :=
  let k := s.groupKey keys
  let t := s.status k
  let st := match entryOf k with
    | some _ => t.st.code
    | none => WSt.noObject.code
  s.sendAdp path rank eid msg (adpMessage op tag (k / 256) (k % 256) 2 st t.reason.toNat off
    (le 8 (s.statusWord k .completed).toNat))

/-- The command that ends the wait of a response. -/
def AdpWait.timeout (w : AdpWait) : Instr := .adpWaitTimeout w.path w.msg w.tag w.rank

/-- A waiting response is sent. -/
def State.answerWait (s : State) (w : AdpWait) : State :=
  let s : State := { s.disarm w.timeout with adp := s.adp.filter (fun x => x ≠ w) }
  s.writeResponse w.path w.rank w.eid w.msg w.tag w.op.toNat w.keys 0

/-- Responses whose writes have ended are sent. -/
def State.answerWaits (s : State) : State :=
  (s.adp.filter (fun w => !w.keys.any s.writeUnsettled)).foldl (fun (s : State) (w : AdpWait) => s.answerWait w) s

end Sys2Proof.Machine
end

