-- ==== Sys2Proof/Machine/Steps.lean ====
section
/-! DEFINITION. Steps of a domain: settings in force, step records, colophons, the page ledger, poison stops, release and
commit (02_time_and_steps.md, 04_proofing_and_commit.md, R162 to R167). -/

namespace Sys2Proof.Machine

/-! ### Settings in force for a domain's work -/

/-- Galley switches of a domain (R86): bit 0 ME, 1 VE, 2 MV, 3 attention. -/
def State.checks (s : State) (d : Dom) : Word := s.valFor d (domKey 0x2001 1 d)

/-- The switch of an engine. -/
def engineBit (e : EngineNo) : Nat := if e.val < 4 then 0 else if e.val < 6 then 1 else 2

/-- The period of a proof fraction code (R95); 0 no proofs. -/
def periodOf (code : Nat) : Nat := if code = 0 then 0 else 2 ^ (7 - code)

def State.period (s : State) (d : Dom) : Nat := periodOf (s.natFor d (domKey 0x2100 1 d))

/-- Release-on-proof is in force (R105). -/
def State.onProof (s : State) (d : Dom) : Bool := s.natFor d (domKey 0x2101 1 d) == 1

/-- The domain is run in lock-step by this chip, which is its primary (1) or its mirror (2) (R215); 0 neither, or the
partner is lost to the pair (R218). -/
def State.lockstep (s : State) (d : Dom) : Nat :=
  if s.nat (key 0x2C10 3) = d.val ∧ s.get (key 0x2C10 6) != 4 then s.nat (key 0x2C10 1) else 0

/-- Physical cores of a domain in logical order. -/
def State.physCores (s : State) (d : Dom) : List PCore := (s.dom d).cores.filterMap s.physOf

/-- The first step not committed; its predecessor is the committed step of R113. -/
def DomSt.base (x : DomSt) : Nat :=
  match x.committed with
  | some c => c + 1
  | none => x.start

/-- Completed steps that are not committed (R107). -/
def State.depth (s : State) (d : Dom) : Nat := s.stepOf d - (s.dom d).base

/-- The step running in a domain, or the last one that ran. -/
def State.runningStep (s : State) (d : Dom) : Nat :=
  if (s.dom d).running then s.stepOf d else s.stepOf d - 1

/-- A step written in 48 bits; the step before step 0 shows all ones (R113). -/
def before (n : Nat) : Nat := (n + 2 ^ 48 - 1) % 2 ^ 48

/-- The controls of a core that come before its commit gate (R18). -/
def Probe.governs (p : Probe) : Bool := p.freeze || p.reset || p.isolate || p.drain

def State.probing? (s : State) (c : PCore) : Option Probing := s.probings.find? (fun p => p.core == c)

/-- The supply of a core is below its trim at this moment (R139). -/
def State.belowTrim (s : State) (c : PCore) : Bool := (s.probing? c).any (·.below)

/-! ### Step records -/

def CoreRec.fresh (k : LCore) (p : PCore) (seed : Word) : CoreRec :=
  { k := k, phys := p, seed := seed, work := [], arrived := false, clear := false, blocked := false, acc := 1, units := 0, reach := [],
    sentOther := false, recvOther := false, egress := 0, clearTime := 0, proofed := false, passed := false, ops := [],
    marked := false, gate := false }

/-- The record of step n of the present run. -/
def DomSt.step? (x : DomSt) (n : Nat) : Option StepRec := x.steps.find? (fun r => r.n == n && !r.discarded)

def State.upStep (s : State) (d : Dom) (n : Nat) (f : StepRec → StepRec) : State :=
  s.upDom d (fun x => { x with steps := x.steps.map (fun r => if r.n = n && !r.discarded then f r else r) })

def State.upCore (s : State) (d : Dom) (n : Nat) (k : LCore) (f : CoreRec → CoreRec) : State :=
  s.upStep d n (fun r => { r with cores := r.cores.map (fun c => if c.k = k then f c else c) })

def StepRec.core? (r : StepRec) (k : LCore) : Option CoreRec := r.cores.find? (fun c => c.k == k)

def State.coreRec? (s : State) (d : Dom) (n : Nat) (k : LCore) : Option CoreRec :=
  ((s.dom d).step? n).bind (·.core? k)

/-- A disturbance bit of the step in progress of a domain (R209). -/
def State.disturb (s : State) (d : Dom) (b : Nat) : State :=
  s.upStep d (s.stepOf d) (fun r => { r with dist := r.dist ||| (1 <<< b) })

/-- The same for the domain of a physical core, when it has an active one. -/
def State.disturbCore (s : State) (c : PCore) (b : Nat) : State :=
  match s.domOfCore c with
  | some d => s.disturb d b
  | none => s

/-- The coefficients of the galley's tests, objects 0x2000.01 to .05, in force for a domain's work (R46, R87). -/
def State.coefsOf (s : State) (d : Dom) : List Nat := (List.range 5).map (fun i => s.natFor d (key 0x2000 (i + 1)))

/-- The step seed of Lk for step n of a domain (R211): a step's work, its replays, proofs, revises and regeneration runs receive
it. -/
def State.seedOf (s : State) (d : Dom) (k : LCore) (n : Nat) : Word :=
  stepSeed (stepRoot (s.valFor d (domKey 0x2108 1 d)) (s.jobId d) n) k.val

/-- The step of the domain's counter begins (R43, R44, R99): its record opens, with the keys of the step and each core's
step seed (R211), every gate closed (R19). The records of the last 80 steps before it are kept (R118, R119). -/
def State.openStep (s : State) (d : Dom) : State :=
  let n := s.stepOf d
  let x := s.dom d
  let root := stepRoot (s.valFor d (domKey 0x2108 1 d)) (s.jobId d) n
  let cores := x.cores.filterMap (fun k => (s.physOf k).map (fun p => CoreRec.fresh k p (stepSeed root k.val)))
  let dist : Nat := bitOf (n < x.replayTo) * 2 ^ 9 + bitOf x.lateStart * 2 ^ 10
  let r : StepRec :=
    { n := n, cores := cores, keys := stepKeys (s.valFor d (domKey 0x2103 1 d)) (s.jobId d) n, checks := s.checks d,
      coefs := s.coefsOf d, ended := false, clear := false, reported := false, jobClear := false, equal := s.lockstep d != 1, dispatched := false,
      released := false, committed := false, onAge := false, discarded := false, ranks := [], many := false,
      dist := BitVec.ofNat 32 dist }
  let l := x.steps.filter (fun q => q.n < n) ++ [r]
  s.setDom d { x with steps := l.drop (l.length - 81), running := true, begun := s.now, lateStart := false }

/-! ### Colophons (R100, R101) -/

/-- The colophon record of a core in a step, 40 bytes (R101). -/
def CoreRec.bytes (c : CoreRec) (d : Dom) (r : StepRec) : Bytes :=
  le 8 c.clearTime.toNat ++ le 6 r.n ++ le 1 d.val ++
    le 1 (bitOf c.clear + 2 * bitOf c.proofed + 4 * bitOf c.passed + 8 * bitOf r.onAge + 16 * bitOf r.discarded) ++
    le 2 c.k.val ++ le 2 c.phys.val ++ le 4 c.units ++ le 16 c.acc.toNat

/-- The record of each core's last completed step in object .76 follows the step records. -/
def State.showColophons (s : State) (d : Dom) : State :=
  match ((s.dom d).steps.filter (·.ended)).getLast? with
  | some r => r.cores.foldl (fun s c => s.setContent (coreKey c.phys 0x76) (c.bytes d r)) s
  | none => s

/-- The chip colophon of a step (R101). -/
def StepRec.chip (r : StepRec) : Colophon := combine r.keys.2.2 (r.cores.map (·.acc))

/-! ### Galley clear, proven and committed steps (R102 to R104) -/

/-- The first step from base on that is not at galley clear. -/
def firstUnclear (l : List StepRec) : Nat → Nat → Nat
  | 0, n => n
  | fuel + 1, n =>
    match l.find? (fun r => r.n == n && !r.discarded) with
    | some r => if r.jobClear then firstUnclear l fuel (n + 1) else n
    | none => n

/-- The steps below this are at galley clear. -/
def DomSt.clearTo (x : DomSt) : Nat := firstUnclear x.steps (x.steps.length + 1) x.base

/-- One more than the newest step at which a core passed a proof; 0 none. -/
def DomSt.lastPass (x : DomSt) (k : LCore) : Nat :=
  x.passes.foldl (fun a p => if p.1 = k then max a (p.2 + 1) else a) 0

/-- One more than the proven step (R104); at most what is at galley clear. -/
def State.provenTo (s : State) (d : Dom) : Nat :=
  let x := s.dom d
  let g := x.clearTo
  if s.period d = 0 then g
  else
    let g := x.cores.foldl (fun g k => min g (x.lastPass k)) g
    x.failed.foldl (fun g f => min g f.2) g

/-- The proven step as the steward path carries it. -/
def State.proven? (s : State) (d : Dom) : Option Nat :=
  let n := s.provenTo d
  if n = 0 then none else some (n - 1)

/-! ### Page ledger (R110 to R112) -/

/-- Entries of the domain in its ledger stripes. -/
def DomSt.entries (x : DomSt) : Nat := (x.pages.filter (·.stored)).length

/-- An entry that a step of the domain would open waits for room. -/
def DomSt.entryWaits (x : DomSt) : Bool := x.pages.any (fun p => !p.stored)

/-- Entries of the chip's ledger. -/
def State.ledgerUsed (s : State) : Nat := (allDoms.map (fun d => (s.dom d).entries)).sum

/-- The first n entries that wait are stored. -/
def storeFirst : Nat → List Page → List Page
  | 0, l => l
  | _, [] => []
  | n + 1, p :: l => if p.stored then p :: storeFirst (n + 1) l else { p with stored := true } :: storeFirst n l

/-- Entries that wait are stored while the chip's ledger and the domain's stripes, 3,072 entries a core, have room (R109,
R112). -/
def State.storeEntries (s : State) (d : Dom) : State :=
  s.upDom d (fun x => { x with
    pages := storeFirst (min (s.nat (key 0x2107 1) - s.ledgerUsed) (3072 * x.cores.length - x.entries)) x.pages })

/-- The ledger takes what waits and has room; object 0x2107.02 counts its entries. -/
def State.showLedger (s : State) : State :=
  let s := allDoms.foldl (fun s d => s.storeEntries d) s
  s.putN (key 0x2107 2) s.ledgerUsed

/-- The ledger keeps the barrier of the domain held (R112): an entry that its step would open waits; with the chip's ledger full,
one of any domain. -/
def State.ledgerFull (s : State) (d : Dom) : Bool :=
  (s.dom d).entryWaits ||
    (decide (s.nat (key 0x2107 1) ≤ s.ledgerUsed) && allDoms.any (fun e => (s.dom e).entryWaits))

def Page.len (p : Page) : Nat :=
  match p.lengths.getLast? with
  | some l => l.2
  | none => p.committedLen

/-- A page once step n is committed: none when its entry ends, with the length it is left with, if it is not freed. -/
def Page.commit (p : Page) (n : Nat) : Option Page × Option Nat :=
  let past := p.lengths.filter (fun l => l.1 ≤ n)
  let rest := p.lengths.filter (fun l => n < l.1)
  let len := match past.getLast? with
    | some l => l.2
    | none => p.committedLen
  match p.freed with
  | some f =>
    if f ≤ n then (none, none)
    else (some { p with committedLen := len, lengths := rest, opened := p.opened && past.isEmpty }, none)
  | none =>
    if rest.isEmpty then (none, some len)
    else (some { p with committedLen := len, lengths := rest, opened := p.opened && past.isEmpty }, none)

/-- A page after a rollback that restarts at step r: lengths from r on and a freeing from r on are undone; a page opened
from r on is gone (R113). -/
def Page.rollback (p : Page) (r : Nat) : Option Page :=
  let l := p.lengths.filter (fun l => l.1 < r)
  let freed := match p.freed with
    | some f => if f < r then some f else none
    | none => none
  if l.isEmpty && freed.isNone then none else some { p with lengths := l, freed := freed }

/-- The committed length of a page that has no ledger entry. -/
def DomSt.pageLen (x : DomSt) (page : Word) : Nat :=
  match x.lengths.find? (fun l => l.1 == page) with
  | some l => l.2
  | none => 0

/-- The pages of a domain once step n is committed: ended entries leave their lengths. -/
def DomSt.commitPages (x : DomSt) (n : Nat) : DomSt :=
  let out := x.pages.map (fun p => (p, p.commit n))
  { x with
    pages := out.filterMap (fun o => o.2.1),
    lengths := x.lengths.filter (fun l => !(out.any (fun o => o.1.page == l.1 && o.2.1.isNone))) ++
      out.filterMap (fun o => o.2.2.map (fun n => (o.1.page, n))) }

/-- The length of a page at the end of step n. -/
def Page.lenAt (p : Page) (n : Nat) : Nat :=
  match (p.lengths.filter (fun l => decide (l.1 ≤ n))).getLast? with
  | some l => l.2
  | none => p.committedLen

/-- Descriptor word of an output unit (R100): egress has no destination. -/
def unitWord (u : OutUnit) : Colophon :=
  descriptor u.kind.val (if 3 ≤ u.kind.val then 0 else u.dest.toNat) u.offset.toNat u.mask.toNat

/-- The 80-byte entry of a unit (R212, R304). -/
def unitEntry (u : OutUnit) : Bytes := le 16 (unitWord u).toNat ++ maskedData u.mask u.data

/-- A ledger entry, 64 bytes (R110), with the steps after the committed one that have ended: from base on, below now. -/
def Page.bytes (p : Page) (d : Dom) (base now : Nat) : Bytes :=
  let first := match p.lengths.head? with
    | some l => l.1
    | none => p.freed.getD 0
  let lens := (List.range (min 32 (now - base))).foldl (fun a i => a + p.lenAt (base + i) % 512 * 2 ^ (9 * i)) 0
  let b := le 8 p.page.toNat ++ le 6 first ++ le 1 d.val ++ le 1 (bitOf p.opened + 2 * bitOf p.freed.isSome) ++
    le 2 p.committedLen ++ le 2 p.len ++ le 36 lens ++ le 4 0
  b ++ le 4 (crc32c b)

/-- Bytes 0x08 to 0x1F of a page tag (R178). -/
def tagBody (page job : Word) (units tokens : Nat) : Bytes :=
  le 8 page.toNat ++ le 8 job.toNat ++ le 4 units ++ le 2 tokens ++ [0x01, 0]

/-- The page tag: the CRC over the page's bytes, then the tag's bytes 0x08 to 0x1F (R178). -/
def pageTag (page job : Word) (data : Bytes) (tokens : Nat) : Bytes :=
  let body := tagBody page job (data.length / 64) tokens
  le 8 (crc64 (crc64 0 data) body).toNat ++ body

/-! ### Poison (R164 to R167) -/

/-- Ranges of code words, as first word and count, less the count words from word on. -/
def cutRanges (l : List (Nat × Nat)) (word count : Nat) : List (Nat × Nat) :=
  (l.flatMap (fun (r : Nat × Nat) =>
    [(r.1, min r.2 (word - r.1)), (max r.1 (word + count), r.1 + r.2 - max r.1 (word + count))])).filter (fun r => 0 < r.2)

/-- Words that ranges without an overlap hold. -/
def rangeWords (l : List (Nat × Nat)) : Nat := (l.map (·.2)).sum

/-- Code words of a slice become poisoned (R163); object .96 counts those that were not. -/
def State.poisonWords (s : State) (c : PCore) (word count : Nat) : State :=
  let x := s.slice c
  let rest := cutRanges x.poisoned word count
  let s := s.setSlice c { x with poisoned := rest ++ [(word, count)] }
  let s := s.bumpBy (coreKey c 0x96) (rangeWords (rest ++ [(word, count)]) - rangeWords x.poisoned)
  s.send (.poisonWord c word)

/-- A full-word write of unmarked data clears the poison (R163). -/
def State.clearPoison (s : State) (c : PCore) (word count : Nat) : State :=
  let x := s.slice c
  if x.poisoned.isEmpty then s else s.setSlice c { x with poisoned := cutRanges x.poisoned word count }

/-- The poison record, 48 bytes. -/
def poisonRecord (s : State) (lcc : Word) (step d cause : Nat) (core : PCore) (engine lcore : Nat) (job source : Word) :
    Bytes :=
  le 8 s.t ++ le 8 lcc.toNat ++ le 6 step ++ le 1 d ++ le 1 cause ++ le 2 core.val ++ le 1 engine ++ [0] ++ le 2 lcore ++
    [0, 0] ++ le 8 job.toNat ++ le 8 source.toNat

/-- The step stays short of galley clear (R165): the consuming core never declares it for the step, nor does any core where the
consumer is none of the domain's; a declaration that came first is taken back. A committed step is over. -/
def StepRec.block (r : StepRec) (core : PCore) : StepRec :=
  if r.committed then r
  else
    let mine := r.cores.any (fun c => c.phys == core)
    { r with
      clear := false
      jobClear := false
      cores := r.cores.map (fun c => if c.phys = core || !mine then { c with blocked := true, clear := false } else c) }

/-- Work of step n of domain d consumes poison (R165): the step stays short of galley clear, the domain is
stopped and its barrier held; in a multi-chip job the steward is told, and a narrowing at this steward is over (R222). In a
stopped domain it is counted; once a write of 2 has won it is counted only, for its step is to be discarded (R167). The record is written where the raise is captured. -/
def State.consume (s : State) (d : Dom) (n : Nat) (core : PCore) (engine cause : Nat) (source : Word)
    (forced : Bool := false) : State :=
  let s := s.bump (key 0x2301 0x12)
  let x := s.dom d
  if x.poison.isSome && s.get (domKey 0x2301 1 d) == 3 then s else
  let b := poisonRecord s (s.lccOf core) n d.val (cause + 128 * bitOf forced) core engine (s.lcOf core) (s.jobId d) source
  let s := s.upStep d n (fun r => r.block core)
  let s := s.upDom d (fun x => { x with poison := match x.poison with | some p => some (min p n) | none => some n })
  let s := if x.poison.isSome then s
    else
      let s := s.putN (domKey 0x2301 1 d) 1
      if !s.multi d then s
      else if s.role = 2 then (s.upDom d (fun x => { x with jobHeld := some 0 })).toWorkers (.hold d none)
      else s.toSteward (.failure d .poison)
  s.raiseRecord 0x55 d.val b forced (key 0x2301 0x11)

/-! ### Spills (R111, R178) -/

/-- A page leaves for the pooled tier with its tag. A page with the poison mark consumes it instead (R178), in the step that runs
when it leaves; its record names the slice and offset 0, since KV_SPILL carries no place within it (log entry 174). -/
def State.spill (s : State) (d : Dom) (p : Spill) : State :=
  if p.marked then s.consume d (s.runningStep d) p.core 6 3 (BitVec.ofNat 64 (p.core.val * 2 ^ 32))
  else
    (s.bump (key 0x2302 0xA)).send (.kvSpill p.page (pageTag p.page (s.jobId d) p.data p.tokens))

/-- Spills whose page has no ledger entry any more go out (R111). -/
def State.flushSpills (s : State) (d : Dom) : State :=
  let x := s.dom d
  let waits (p : Spill) : Bool := x.pages.any (fun g => g.page == p.page)
  let s := s.setDom d { x with spills := x.spills.filter waits }
  (x.spills.filter (fun p => !waits p)).foldl (fun s p => s.spill d p) s

/-! ### Release and commit (R103 to R105) -/

/-- The proof unit may open gates: not in the fault state (R239), not during an image activation (R32). A reset of the domain
keeps them closed as well (R318). -/
def State.gatesMayOpen (s : State) : Bool := !s.faulted && !s.img.activating

/-- The commit gates of released steps open, but on cores that a control of higher priority governs, once it is released (R18,
R19, R103). -/
def State.openGates (s : State) (d : Dom) : State :=
  let due := ((s.dom d).steps.filter (fun r => r.released && !r.discarded)).flatMap (fun r =>
    (r.cores.filter (fun c => !c.gate && !(s.probe c.phys).governs)).map (fun c => (r.n, c.k, c.phys)))
  due.foldl (fun s x =>
    (s.upCore d x.1 x.2.1 (fun c => { c with gate := true })).ringEvent x.2.2 7 (some d) 8 (x.1 % 65536)) s

/-- Release of step n: its gates open (R103); the held egress leaves. -/
def State.release (s : State) (d : Dom) (n : Nat) : State :=
  let s := s.upStep d n (fun r => { r with released := true })
  let s := s.upDom d (fun x => { x with releasedStep := some n })
  let s := s.putN (domKey 0x2104 9 d) n
  (s.openGates d).send (.gate d n)

/-- Commit of step n (R104): its pages become permanent, and under release-on-proof it is released (R105). -/
def State.commitStep (s : State) (d : Dom) (n : Nat) (onAge : Bool) : State :=
  let s := s.upStep d n (fun r => { r with committed := true, onAge := onAge })
  let s := s.upDom d (fun x => { x.commitPages n with committed := some n })
  let s := s.putN (domKey 0x2104 1 d) n
  let s := if onAge then s.bump (domKey 0x2104 0x21 d) else s
  let s := match (s.dom d).step? n with
    | some r =>
      let s := s.setContent (domKey 0x2104 0x19 d) (le 16 r.chip.toNat ++ le 6 n)
      if s.onProof d && !r.released then s.release d n else s
    | none => s
  let s := s.putN (domKey 0x2104 0x11 d) (s.depth d)
  -- R213: a regeneration run of a step committed on age ends
  let s : State := match s.regen with
    | some r =>
      if r.d = d ∧ r.s = n ∧ !r.done then
        { (s.putN (key 0x2108 0xA) 3).disarm .regenTimeout with regen := none }
      else s
    | none => s
  (s.showLedger.showColophons d).flushSpills d

/-- The next step to release is at galley clear and its mode releases it there (R105, R217). -/
def State.canRelease (s : State) (d : Dom) : Option Nat :=
  let x := s.dom d
  let n := match x.releasedStep with
    | some r => r + 1
    | none => x.start
  match x.step? n with
  | some r =>
    let mode := !s.onProof d || r.committed
    let gate := s.lockstep d != 1 || s.get (key 0x2C10 4) == 0 || r.equal
    let pure := match x.poison with | some p => decide (n < p) | none => true
    if r.jobClear && mode && gate && pure && s.gatesMayOpen && !s.holdBit d 9 then some n else none
  | none => none

/-- Release every step that may be released, in step order. -/
def State.releaseAll (s : State) (d : Dom) : Nat → State
  | 0 => s
  | fuel + 1 =>
    match s.canRelease d with
    | some n => (s.release d n).releaseAll d fuel
    | none => s

/-- The steward committed step n on age (R107), as a worker learns it: its own proven step, which bounds the job proven step
(R125), has not reached n, and the job proven step has (log entry 177). -/
def State.agedByJob (s : State) (d : Dom) (n : Nat) : Bool :=
  s.multi d && s.role != 2 && decide (s.provenTo d ≤ n) && s.job.proven.any (fun p => decide (n ≤ p))

/-- A regeneration run holds its step and the later ones uncommitted until it ends (R213), but not from a commit on age. -/
def State.regenHolds (s : State) (d : Dom) (n : Nat) : Bool :=
  match s.regen with
  | some r => r.d == d && !r.done && decide (r.s ≤ n) && !s.agedByJob d n
  | none => false

/-- A worker whose steward is lost commits nothing of the job (R125). -/
def State.stewardLost (s : State) (d : Dom) : Bool := s.multi d && s.role != 2 && s.get (key 0x2C00 7) != 0

/-- The next step to commit is proven, or within the job proven step (R104, R125); a Proofreader core decides it (R12). -/
def State.canCommit (s : State) (d : Dom) : Option Nat :=
  let x := s.dom d
  let n := x.base
  match x.step? n with
  | some r =>
    let proven := if s.multi d then (match s.job.proven with | some p => decide (n ≤ p) | none => false)
      else decide (n < s.provenTo d)
    if x.active && r.ended && r.jobClear && r.equal && proven && s.gatesMayOpen && !s.holdBit d 9 && s.dutyRuns 1 &&
        !s.regenHolds d n && !s.stewardLost d && !(s.multi d && s.job.resume) then some n else none
  | none => none

def State.commitAll (s : State) (d : Dom) : Nat → State
  | 0 => s
  | fuel + 1 =>
    match s.canCommit d with
    | some n => (s.commitStep d n (s.agedByJob d n)).commitAll d fuel
    | none => s

end Sys2Proof.Machine
end

