-- ==== Sys2Proof/Machine/Trace.lean ====
section
/-! DEFINITION. The synchronisation trace's queue and region (R298, R299): records written at 8 GB/s, drops and drop markers
(12_observation.md). -/

namespace Sys2Proof.Machine

/-- One record of 32 bytes takes 4 ns at 8 GB/s (R299). -/
def traceTime : Nat := ns 4

/-- A drop marker (R299): the time of the first dropped record and the number dropped. -/
def dropMarker (first : Word) (n : Nat) : Bytes :=
  le 8 0 ++ le 8 first.toNat ++ le 2 0 ++ le 1 0 ++ le 1 0x7F ++ le 4 n ++ List.replicate 8 0

/-- One record goes to the trace region at object 0x2701.09. -/
def State.traceStore (s : State) (r : Bytes) : State :=
  let len := s.nat (key 0x2701 3)
  let next := s.nat (key 0x2701 9)
  let s := ((s.send (.traceWrite r)).bump (key 0x2701 5))
  s.putN (key 0x2701 9) (if s.get (key 0x2701 4) = 0 ∧ len ≤ next + 32 then 0 else next + 32)

/-- In stop mode the region is full but for its last 32 bytes, kept for a final drop marker. -/
def State.traceFull (s : State) : Bool :=
  s.get (key 0x2701 4) == 1 && decide (s.nat (key 0x2701 3) ≤ s.nat (key 0x2701 9) + 32)

/-- The trace stops with a full region: what still waits is dropped, and a final marker names every drop not yet marked. -/
def State.traceStop (s : State) : State :=
  let n := s.obs.trace.length
  let s := if n = 0 then s else s.bumpBy (key 0x2701 7) n
  let total := match s.obs.drop with
    | some d => d.2 + n
    | none => n
  let first := match s.obs.drop with
    | some d => d.1
    | none => s.now
  let s := if total = 0 then s else s.send (.traceWrite (dropMarker first total))
  { s with obs := { s.obs with trace := [], drop := none } }.putN (key 0x2701 8) 2

/-- The queue drains: one record for every 4 ns since it was last drained (R299). -/
def State.traceDrain : Nat → State → State
  | 0, s => s
  | fuel + 1, s =>
    match s.obs.trace with
    | [] => s
    | r :: q =>
      if s.nat (key 0x2701 8) ≠ 1 then { s with obs := { s.obs with trace := [] } }
      else if s.traceFull then s.traceStop
      else if s.t < s.obs.traceAt.toNat + traceTime then s
      else
        let s : State := { s with obs := { s.obs with trace := q, traceAt := BitVec.ofNat 64 (s.obs.traceAt.toNat + traceTime) } }
        State.traceDrain fuel (s.traceStore r)

/-- A record finds the queue full (R299): the first drop of a run is noted with its time. Whether it was the first. -/
def State.traceDrop (s : State) : State × Bool :=
  let s := s.bump (key 0x2701 7)
  match s.obs.drop with
  | some d => ({ s with obs := { s.obs with drop := some (d.1, d.2 + 1) } }, false)
  | none => ({ s with obs := { s.obs with drop := some (s.now, 1) } }, true)

def State.traceAppend (s : State) (r : Bytes) : State :=
  { s with obs := { s.obs with trace := s.obs.trace ++ [r], traceAt := if s.obs.trace.isEmpty then s.now else s.obs.traceAt } }

/-- A record for the region: queued after the marker of a drop run, or dropped. Whether it began a drop run. -/
def State.traceQueue (s : State) (r : Bytes) : State × Bool :=
  let s := s.traceDrain 1024
  let s : State := match s.obs.drop with
    | some d =>
      if s.obs.trace.length < 1024 then
        { s.traceAppend (dropMarker d.1 d.2) with obs := { (s.traceAppend (dropMarker d.1 d.2)).obs with drop := none } }
      else s
    | none => s
  if s.obs.trace.length < 1024 then (s.traceAppend r, false) else s.traceDrop

end Sys2Proof.Machine
end

