-- ==== Sys2Proof/Machine/Clock.lean ====
section
/-! DEFINITION. What the block does on its own when no command waits: a tick of the time base (R34), which puts the
commands of the timeouts that the new global time has reached into the queue (R20; log entry 21). -/

namespace Sys2Proof.Machine

/-- The timeout whose expiry a command is: the command without what only the outside knows (log entry 21). -/
def timerOf : Instr → Instr
  | .specimenTimeout c _ => .specimenTimeout c []
  | .supervisorSample _ => .supervisorSample []
  | .budgetWindowEnd _ _ _ _ => .budgetWindowEnd 0 0 0 0
  | .cellarPatrol _ => .cellarPatrol []
  | .pauseLimitTimeout p _ => .pauseLimitTimeout p []
  | c => c

/-- The command that an expiry signals. What only the host chip knows at that moment is a free value, from number i on: the
engines whose programs had not ended (R133), what the supervisors read (R147), the cycles and times of the window (R149),
the damaged records (R342), the packets held at the port (R290). -/
def State.signalOf (s : State) (c : Instr) (i : Nat) : Instr :=
  let f (j : Nat) : Word := Config.freeWord (i + j)
  let half (j n : Nat) : BitVec 16 := (f j).extractLsb' (16 * n) 16
  match c with
  | .specimenTimeout c _ => .specimenTimeout c (allEngines.filter (fun e => (f 0).getLsbD e.val))
  | .supervisorSample _ => .supervisorSample
      ((allPorts.filter s.admitted).map (fun p => .link p
        (if s.nat (portKey p 2) = 0 then [] else (List.range 8).map (fun n =>
          if (s.nat (portKey p 2)).testBit n then (half (8 * p.val + n) 0, half (8 * p.val + n) 1) else (0xFFFF, 0xFFFF)))
        ((f (144 + p.val)).setWidth 32)) ++
      s.presentCores.map (fun c => .dram c (half (162 + c.val) 0) (half (162 + c.val) 1)))
  | .budgetWindowEnd _ _ _ _ =>
    let all := (f 0).toNat
    .budgetWindowEnd ((f 1).toNat % (all + 1)) all (f 2).toNat (f 3).toNat
  | .cellarPatrol _ => .cellarPatrol (s.cel.entries.flatMap (fun e =>
      ((List.range (recordsFor e.body.length)).filter (fun n => (f (65536 * e.region + e.first + n)).getLsbD 0)).map e.offset))
  | .pauseLimitTimeout p _ => .pauseLimitTimeout p ((s.activeDoms.filter (fun d => (f d.val).getLsbD 0)).map (fun d =>
      (d, s.stepOf d - (f d.val).toNat / 2 % (s.depth d + 1))))
  | c => c

/-- A timeout whose instant global time has reached, that is not held and was not signalled before. -/
def Timer.ready (t : Timer) (now : Nat) : Bool := t.held.isNone && t.fired.isNone && decide (t.due ≤ now)

/-- The timeouts then ready put their commands at the end of the queue, once each (R20). -/
def State.signalAll (s : State) : State :=
  let l := s.timers.filter (fun t => t.ready s.t)
  { s with
    pending := s.pending ++ l.zipIdx.map (fun x => s.signalOf x.1.cmd (s.free + 2 ^ 20 * x.2)),
    free := s.free + 2 ^ 20 * l.length,
    timers := s.timers.map (fun t => if t.ready s.t then { t with fired := some s.now } else t) }

/-- The tick: global time goes on, the trace queue drains (R299), capture latches fill (R327), ADP responses whose writes have
ended leave (R356), and the expiries of the new time are signalled. -/
def State.tick (s : State) : State := (s.addTick.traceDrain 4).tickLatches.answerWaits.signalAll

end Sys2Proof.Machine
end

