-- ==== Sys2Proof/Machine/Floats.lean ====
section
/-! DEFINITION. Number formats of engine results as exact binary fractions: FP32, BF16, integers, and FP64 with rounding to
nearest even (R64 to R72, R303 to R305). -/

namespace Sys2Proof

/-! ### Exact binary fractions -/

def Dy.zero : Dy := ⟨0, 0⟩

/-- m · 2^e with the exponent lowered to f ≤ e. -/
def Dy.lower (x : Dy) (f : Int) : Int := x.m * 2 ^ (x.e - f).toNat

def Dy.add (x y : Dy) : Dy :=
  let f := min x.e y.e
  ⟨x.lower f + y.lower f, f⟩

def Dy.neg (x : Dy) : Dy := ⟨-x.m, x.e⟩

def Dy.sub (x y : Dy) : Dy := x.add y.neg

def Dy.mul (x y : Dy) : Dy := ⟨x.m * y.m, x.e + y.e⟩

def Dy.abs (x : Dy) : Dy := ⟨x.m.natAbs, x.e⟩

/-- x ≤ y. -/
def Dy.le (x y : Dy) : Bool :=
  let f := min x.e y.e
  decide (x.lower f ≤ y.lower f)

def Dy.eq (x y : Dy) : Bool := x.le y && y.le x

def Dy.ofInt (i : Int) : Dy := ⟨i, 0⟩

/-- ⌊log2 |x|⌋ of a non-zero number. -/
def Dy.log2 (x : Dy) : Int := (Nat.log2 x.m.natAbs : Int) + x.e

/-- x rounded to a significand of p bits, to nearest, ties to even. -/
def Dy.round (p : Nat) (x : Dy) : Dy :=
  let a := x.m.natAbs
  let n := Nat.log2 a + 1
  if n ≤ p then x
  else
    let k := n - p
    let q := a / 2 ^ k
    let r := a % 2 ^ k
    let h := 2 ^ (k - 1)
    let q := if h < r ∨ (r = h ∧ q % 2 = 1) then q + 1 else q
    ⟨if x.m < 0 then -(q : Int) else q, x.e + k⟩

end Sys2Proof

namespace Sys2Proof.Machine

/-! ### Formats -/

/-- An element: none for a NaN, some none for an infinity, else its value. -/
abbrev Elem := Option (Option Dy)

/-- A binary format of w bits with ex exponent bits, its bias, and the rest fraction, with infinities and NaNs. -/
def ieee (ex fr : Nat) (v : Nat) : Elem :=
  let f := v % 2 ^ fr
  let e := v / 2 ^ fr % 2 ^ ex
  let neg := v / 2 ^ (fr + ex) % 2 = 1
  let bias : Int := 2 ^ (ex - 1) - 1
  let sg (m : Nat) : Int := if neg then -(m : Int) else m
  if e = 2 ^ ex - 1 then (if f = 0 then some none else none)
  else if e = 0 then some (some ⟨sg f, 1 - bias - fr⟩)
  else some (some ⟨sg (2 ^ fr + f), (e : Int) - bias - fr⟩)

def fp32 (v : Nat) : Elem := ieee 8 23 v

def bf16 (v : Nat) : Elem := ieee 8 7 v

/-- The finite value of an FP32 pattern. -/
def fp32Num (w : BitVec 32) : Num :=
  match fp32 w.toNat with
  | some (some x) => some x
  | _ => none

/-- Two's complement of n bits. -/
def twos (n v : Nat) : Int := if v < 2 ^ (n - 1) then v else (v : Int) - 2 ^ n

/-- FP64 pattern of a number, rounded to nearest even; zero is +0. -/
def toFp64 (x : Dy) : Word :=
  let y := x.round 53
  let a := y.m.natAbs
  if a = 0 then 0
  else
    let n := Nat.log2 a + 1
    -- significand of exactly 53 bits
    let sig := if n ≤ 53 then a * 2 ^ (53 - n) else a / 2 ^ (n - 53)
    let e := (n : Int) - 1 + y.e + 1023
    let sign : Nat := if y.m < 0 then 2 ^ 63 else 0
    if e ≤ 0 then
      -- subnormal: the significand shifted down
      BitVec.ofNat 64 (sign + sig / 2 ^ (1 - e).toNat)
    else if 2047 ≤ e then BitVec.ofNat 64 (sign + 2047 * 2 ^ 52)
    else BitVec.ofNat 64 (sign + e.toNat * 2 ^ 52 + (sig - 2 ^ 52))

/-! ### Watch elements (R303) -/

/-- Bytes of an element of a watch format; format 4 has none. -/
def elemBytes (fmt : Nat) : Nat := [4, 2, 4, 1].getD fmt 0

def elemOf (fmt : Nat) (b : Bytes) : Elem :=
  let v := ofLe b
  if fmt = 0 then fp32 v
  else if fmt = 1 then bf16 v
  else if fmt = 2 then some (some (Dy.ofInt (twos 32 v)))
  else some (some (Dy.ofInt (twos 8 v)))

/-- The elements of a block of 64 bytes whose bytes the mask all writes. -/
def elemsOf (fmt : Nat) (mask : Word) (data : Bytes) : List Elem :=
  let w := elemBytes fmt
  if w = 0 then []
  else (List.range (64 / w)).filterMap (fun i =>
    if (List.range w).all (fun j => mask.getLsbD (w * i + j)) then some (elemOf fmt (slice data (w * i) w)) else none)

/-- Element fields of a watch result, 0x20 to 0x53: counts, minimum and maximum of the finite elements, sum and sum of squares
in FP64 in order of arrival. `open_` gives the fields that the spec leaves open: the minimum and maximum of no finite
element, and the sums once an element is not finite. -/
def elemFields (l : List Elem) (open_ : Nat → Word) : Bytes :=
  let fin := l.filterMap (fun e => match e with | some (some x) => some x | _ => none)
  let nans := (l.filter (fun e => e.isNone)).length
  let infs := (l.filter (fun e => e == some none)).length
  let least := fin.foldl (fun a x => match a with | some m => if x.le m then some x else some m | none => some x) (none : Option Dy)
  let most := fin.foldl (fun a x => match a with | some m => if m.le x then some x else some m | none => some x) (none : Option Dy)
  let sum := fin.foldl (fun a x => (a.add x).round 53) Dy.zero
  let squares := fin.foldl (fun a x => (a.add ((x.mul x).round 53)).round 53) Dy.zero
  let zeros := (fin.filter (fun x => x.m == 0)).length
  let ok := nans + infs = 0
  le 8 l.length ++ le 4 nans ++ le 4 infs ++ le 8 (match least with | some x => (toFp64 x).toNat | none => (open_ 0).toNat) ++
    le 8 (match most with | some x => (toFp64 x).toNat | none => (open_ 1).toNat) ++
    le 8 (if ok then (toFp64 sum).toNat else (open_ 2).toNat) ++
    le 8 (if ok then (toFp64 squares).toNat else (open_ 3).toNat) ++ le 4 zeros

end Sys2Proof.Machine
end

