-- ==== Sys2Proof/Machine/Draws.lean ====
section
/-! DEFINITION. The work of a cross-core run (R134): what run number r draws from its generator, in the order in which the rule
lists it. The rule gives the choices and their bounds; how an output of the generator becomes a choice it does not say, so each
choice is Config.drawn of one output, taken within its bounds (log entry 165). -/

namespace Sys2Proof.Machine

/-- Product exponent offset and width p of an exact format (R59); none for a tolerance format. -/
def exactFormat : Format → Option (Int × Nat)
  | .mxfp4 => some (-2, 8)
  | .int4 => some (0, 7)
  | .ternaryMxfp4 => some (-1, 4)
  | .ternaryInt4 => some (0, 4)
  | _ => none

/-- One of n choices of a kind, by one output of the generator. -/
def pick (kind n : Nat) (w : Word) : Nat := Config.drawn kind w % n

/-- The matrix formats, in the order of the mismatch record (R84). -/
def formats : List Format := [.mxfp4, .int4, .ternaryMxfp4, .ternaryInt4, .mxfp6, .mxfp8E4M3, .mxfp8E5M2, .bf16]

/-- The work of run r under seed and largest K of objects 0x2200.05 and .07 (R134): a format, and K, a multiple of 32. -/
def crossWork (seed : Word) (kMax r : Nat) : CrossWork :=
  let (l, g) := drawOf 2 (genOf (seed ^^^ BitVec.ofNat 64 r))
  { format := formats.getD (pick 0 8 (l.getD 0 0)) .bf16
    k := 32 * (1 + pick 1 (max 1 (kMax / 32)) (l.getD 1 0))
    gen := g }

/-- Bits of an element of operand A, or of B, in a format. -/
def elementBits : Format → Bool → Nat
  | .mxfp4, _ | .int4, _ => 4
  | .ternaryMxfp4, b | .ternaryInt4, b => if b then 4 else 2
  | .mxfp6, _ => 6
  | .mxfp8E4M3, _ | .mxfp8E5M2, _ => 8
  | .bf16, _ => 16

/-- The widest exponent span of the scales of each operand: half of what R59 leaves of the window for the format and K. R59
gives tolerance formats no window; they take that of the widest exact one. BF16 has no scales. -/
def scaleSpan (w : CrossWork) : Nat :=
  let p := match exactFormat w.format with
    | some x => x.2
    | none => 8
  (95 - p - Nat.clog 2 w.k) / 2

/-- A raw scale byte whose exponent lies in a range of the span about 0. -/
def drawScale (w : CrossWork) (x : Word) : Byte := BitVec.ofNat 8 (127 - scaleSpan w / 2 + pick 2 (scaleSpan w + 1) x)

/-- An element of A or B: one in 16 is one of the format's extreme and subnormal values. -/
def drawElement (w : CrossWork) (b : Bool) (x : Word) : Nat :=
  pick (if pick 3 16 x = 0 then 4 else 5) (2 ^ elementBits w.format b) x

/-- The matrix part of one engine: scales of 64 rows of A and 64 columns of B, and their elements. -/
structure DrawnTile where
  aScales : List (List Byte)
  bScales : List (List Byte)
  a : List (List Nat)
  b : List (List Nat)
  deriving DecidableEq, Repr

/-- A list cut in n rows of m. -/
def drawRows {α : Type} (n m : Nat) (l : List α) : List (List α) := (List.range n).map (fun i => (l.drop (i * m)).take m)

/-- The scale draws of a tile: one for each block of 32 of a row of A and a column of B. -/
def scaleDraws (w : CrossWork) : Nat := if w.format = .bf16 then 0 else 64 * (w.k / 32)

/-- The tile of ME0 to ME3 from the outputs of the generator: each engine has a tile of its own. -/
def CrossWork.tile (w : CrossWork) (i : Fin 4) : DrawnTile :=
  let n := scaleDraws w
  let m := 64 * w.k
  let (sc, g) := drawOf (8 * n) w.gen
  let (el, _) := drawOf (8 * m) g
  let part {α : Type} (l : List α) (size j : Nat) : List α := (l.drop ((2 * i.val + j) * size)).take size
  let scales (j : Nat) : List (List Byte) := drawRows 64 (n / 64) ((part sc n j).map (drawScale w))
  let elements (j : Nat) (b : Bool) : List (List Nat) := drawRows 64 w.k ((part el m j).map (drawElement w b))
  { aScales := scales 0, bScales := scales 1, a := elements 0 false, b := elements 1 true }

/-- The vector program of VE0 and VE1, 256 operations, each as one output of the generator spells it, and the transfer pattern of
MV, 4 MiB as words of 8 bytes. -/
def CrossWork.streams (w : CrossWork) : List Nat × List Word :=
  let (_, g) := drawOf (8 * scaleDraws w + 8 * (64 * w.k)) w.gen
  let (ops, g) := drawOf 256 g
  (ops.map (Config.drawn 6), (drawOf (2 ^ 19) g).1)

end Sys2Proof.Machine
end

