-- ==== Sys2Proof/Machine/Proofs.lean ====
section
/-! DEFINITION. Proofs and revises: the pool and the schedule of R95 and R96, priority proofs (R97), placing, losses and
ends (R93, R94, R106, R115), regeneration runs on pool cores (R212 to R214). -/

namespace Sys2Proof.Machine

/-- The commit window W (R106). -/
def State.commitWindow (s : State) (d : Dom) : Nat := s.natFor d (key 0x2102 1)

/-! ### The pool (R96) -/

/-- A reserve core that heads the pool: it holds no spared role and is not isolated. -/
def State.reserveFree (s : State) (c : PCore) : Bool :=
  s.fp c == 1 && !(s.probe c).spared && !(s.probe c).isolating

/-- An enabled core, a reserve core with a spared role included (R182). -/
def State.enabled (s : State) (c : PCore) : Bool :=
  (s.fp c == 0 || (s.fp c == 1 && (s.probe c).spared)) && !(s.probe c).isolating

/-- The proof pool of a domain, in its order (R96). -/
def State.pool (s : State) (d : Dom) : List PCore :=
  (if s.natFor d (key 0x2102 5) = 1 then allCores.filter s.reserveFree else []) ++
    (s.physCores d).filter s.enabled

/-- A core is in a proof pool: flag [1] of its floor plan entry. -/
def State.inPool (s : State) (c : PCore) : Bool := s.activeDoms.any (fun d => c ∈ s.pool d)

/-- Proof places taken on a core: proofs, revises, a regeneration run or its scratch (R96, R115, R214). -/
def State.placesTaken (s : State) (c : PCore) : Nat :=
  (s.proofs.filter (fun p => (p.result.isNone && p.core == some c) || p.rcore == some c)).length +
    (match s.regen with
     | some r => bitOf (r.core == c)
     | none => 0)

def State.hasPlace (s : State) (c : PCore) : Bool := decide (s.placesTaken c < 4)

/-- The first core of the pool, from an index on and taken round, that meets p, with its index. -/
def firstFrom (pool : List PCore) (i : Nat) (p : PCore → Bool) : Option (Nat × PCore) :=
  let n := pool.length
  (List.range n).findSome? (fun j =>
    match pool[(i + j) % n]? with
    | some c => if p c then some ((i + j) % n, c) else none
    | none => none)

/-! ### Placing -/

/-- A proof runs: it is issued to its core, and an enabled core's step is disturbed by a priority proof or by a rotation
proof moved from its index (R209 bit 6). -/
def State.placeProof (s : State) (p : Proof) (i : Nat) (c : PCore) (moved : Bool) : State × Proof :=
  let s := s.send (.proof p.d p.k p.s c (s.seedOf p.d p.k p.s))
  let s := if p.priority || moved then s.disturbCore c 6 else s
  (s, { p with index := i, core := some c, under := s.belowTrim c })

/-- The revise of a proof runs on the first pool core after the index, of the proof core or of the revise lost before, that is
neither the proofed core nor the proof core and has a free place (R96, R115). A proof that ran on another chip has its revise
here too (R126), from its index in the schedule on (log entry 179). -/
def State.placeRevise (s : State) (p : Proof) (own : Option PCore) : State × Proof :=
  match firstFrom (s.pool p.d) (p.index + 1) (fun c => some c != own && some c != p.core && s.hasPlace c) with
  | some (j, c) =>
    ((s.send (.revise p.d p.k p.s c (s.seedOf p.d p.k p.s))).disturbCore c 6,
      { p with index := j, rcore := some c, runder := s.belowTrim c })
  | none => (s, p)

/-- Try to place a proof that waits, or the revise of one (R96, R115). -/
def State.tryPlace (s : State) (p : Proof) : State × Proof :=
  let pool := s.pool p.d
  let own := if p.served.isSome then none else s.physOf p.k
  if p.result.isSome then (if p.rcore.isSome then (s, p) else s.placeRevise p own)
  else if p.remote || p.core.isSome then (s, p)
  else
    let i := p.index % max pool.length 1
    match firstFrom pool i (fun c => some c != own && c ∉ p.avoid && s.hasPlace c) with
    | some (j, c) =>
      let moved := match firstFrom pool i (fun c => some c != own && c ∉ p.avoid) with
        | some (a, _) => a != j
        | none => false
      s.placeProof p j c moved
    | none => (s, p)

/-- Place the proofs from number i on that wait; each placing takes its place before the next is tried. -/
def State.placeFrom (s : State) : Nat → Nat → State
  | 0, _ => s
  | fuel + 1, i =>
    match s.proofs[i]? with
    | none => s
    | some p =>
      let (s, p) := s.tryPlace p
      { s with proofs := s.proofs.set i p }.placeFrom fuel (i + 1)

/-- Place everything that waits for a proof place. -/
def State.placeWaiting (s : State) : State := s.placeFrom s.proofs.length 0

/-- A proof's own timeout (R106). -/
def Proof.timer (p : Proof) : Instr := .proofTimeout p.d p.k (p.s, p.id)

def State.armProof (s : State) (p : Proof) : State := s.arm p.timer (us (s.natFor p.d (key 0x2102 2)))

/-- A proof enters the proof unit: it is counted and its timeout armed at the dispatch (R106; log entry 30). -/
def State.addProof (s : State) (p : Proof) : State :=
  let s := s.bump (key 0x2105 1)
  let same := s.proofs.filter (fun q => q.d == p.d && q.k == p.k && q.s == p.s && q.served.isNone)
  let p := { p with id := same.foldl (fun n q => max n (q.id + 1)) 0 }
  { s with proofs := s.proofs ++ [p] }.armProof p

def newProof (d : Dom) (k : LCore) (n index : Nat) (priority : Bool) : Proof :=
  { d := d, k := k, s := n, index := index, core := none, priority := priority, remote := false, served := none,
    result := none, rcore := none, lost := 0, avoid := [], narrowing := false, id := 0, under := false, runder := false }

/-! ### Proofs across chips (R126) -/

/-- A proof for another chip runs on this chip's pool; the chip that is proofed counts it and bounds it. -/
def State.serveProof (s : State) (d : Dom) (k : LCore) (n index : Nat) (requester : Rank) : State :=
  { s with proofs := s.proofs ++ [{ newProof d k n index false with served := some requester }] }.placeWaiting

/-- The rank and the index in its pool of number i in the pools laid end to end. -/
def poolPlace : List (Rank × Nat) → Nat → Option (Rank × Nat)
  | [], _ => none
  | (r, n) :: l, i => if i < n then some (r, i) else poolPlace l (i - n)

/-- The steward places a proof of another chip's or its own core: over the pools of the job's ranks in ascending order, skipping
the proofed chip, by the index of R96 (R126). The steward's own pool is known here; what the steward holds of the others' is a
free value (log entry 31). The chip that runs it goes on from the index to a core with a free place. -/
def State.placeRemote (s : State) (src : Rank) (d : Dom) (k : LCore) (n index : Nat) : State :=
  let ranks := s.jobRanks.filter (fun r => r ≠ src)
  let pools := ranks.zipIdx.map (fun r =>
    (r.1, if r.1 = s.rank then (s.pool d).length else (Config.freeWord (s.free + r.2)).toNat % 601))
  let total := (pools.map (·.2)).sum
  let s := { s with free := s.free + ranks.length }
  match poolPlace pools (index % max total 1) with
  | some (r, i) =>
    let s := s.bump (key 0x210A 3)
    if r = s.rank then s.serveProof d k n i src else s.send (.frame r (.proofIssue d k n src i))
  | none => s

/-! ### Priority proofs and the schedule (R95, R97) -/

/-- A priority proof of Lk waits for the next step dispatched (R97). A domain without proofs takes none (R95). A core that
waits already waits once. -/
def State.priorityProof (s : State) (d : Dom) (k : LCore) : State :=
  let x := s.dom d
  if !x.active || s.period d = 0 || k ∈ x.priority || k ∉ x.cores then s
  else s.setDom d { x with priority := x.priority ++ [k] }

/-- A proof of work item j of m at step n: on another chip when the cross-chip share says so (R96, R126), else placed by
placeWaiting. -/
def State.issueProof (s : State) (d : Dom) (n m j : Nat) (k : LCore) (prio : Bool) : State :=
  let c := s.natFor d (key 0x2102 7)
  let p := newProof d k n (n * m + j) prio
  if decide (0 < c) && s.multi d && (n * m + j) % 2 ^ c == 0 then
    let s := s.addProof { p with remote := true }
    if s.role = 2 then s.placeRemote s.rank d k n (n * m + j) else s.toSteward (.proofRequest d k n (n * m + j))
  else s.addProof p

/-- Priority and rotation proofs of step n are dispatched at its galley clear (R95, R96). With proof fraction 0 there are
none, and the waiting priority proofs are dropped. -/
def State.dispatch (s : State) (d : Dom) (n : Nat) : State :=
  let x := s.dom d
  let s := s.upStep d n (fun r => { r with dispatched := true })
  let pd := s.period d
  if pd = 0 then s.upDom d (fun x => { x with priority := [] })
  else
    let due := x.cores.filter (fun k => (n + k.val) % pd = 0)
    let work := x.priority.map (fun k => (k, true)) ++ due.map (fun k => (k, false))
    let s := s.upDom d (fun x => { x with priority := [] })
    let s := work.zipIdx.foldl (fun s w => s.issueProof d n work.length w.2 w.1.1 w.1.2) s
    s.placeWaiting

/-- Proofs of every core of a closing domain at its last step (R45). -/
def State.closingProofs (s : State) (d : Dom) (n : Nat) : State :=
  let s := s.upDom d (fun x => { x with closeIssued := true })
  if s.period d = 0 then s
  else
    let l := (s.dom d).cores
    (l.zipIdx.foldl (fun s w => s.issueProof d n l.length w.2 w.1 true) s).placeWaiting

/-! ### Ends of proofs -/

/-- The proof leaves the unit with its timeout; its place goes to what waits. -/
def State.dropProof (s : State) (p : Proof) : State :=
  let s := { s with proofs := s.proofs.erase p }
  (if p.served.isSome then s else s.disarm p.timer).placeWaiting

/-- A narrowing's proof ended without an outcome, which settleAll tells the steward (R221). -/
def State.noteLost (s : State) (p : Proof) : State :=
  if p.narrowing then { s with job := { s.job with narrowLost := some p.d } } else s

/-- The core has run a proof or a revise (object .77). -/
def State.served (s : State) (c : Option PCore) : State :=
  match c with
  | some c => s.bump (coreKey c 0x77)
  | none => s

/-- After a proof of the last step of a close, the priority proof of its core covers that step again (R45, R97). -/
def State.reproof (s : State) (d : Dom) (k : LCore) : State :=
  let x := s.dom d
  match x.closing with
  | some n =>
    if x.closeIssued && s.period d != 0 && !x.suspended then (s.issueProof d n 1 0 k true).placeWaiting
    else s.priorityProof d k
  | none => s.priorityProof d k

/-- A proof is lost (R94, R106, R187, R320): counted, raised, and its core gets a priority proof (R97). -/
def State.loseProof (s : State) (p : Proof) : State :=
  let s := s.bump (key 0x2105 6)
  let s := s.raise 0x36 0 []
  match p.served with
  | some _ => s.dropProof p
  | none => ((s.noteLost p).dropProof p).reproof p.d p.k

/-- A proof of Lk at step q passes (R91): counted, and it is Lk's last clean proof. -/
def State.passProof (s : State) (p : Proof) : State :=
  let s := s.bump (key 0x2105 2)
  let s := s.upCore p.d p.s p.k (fun c => { c with proofed := true, passed := true })
  let s := s.upDom p.d (fun x => { x with passes := x.passes ++ [(p.k, p.s)] })
  let s := match s.physOf p.k with
    | some c => (s.bump (coreKey c 0x71)).putN (coreKey c 0x74) (p.d.val * 2 ^ 48 + p.s)
    | none => s
  s.showColophons p.d

/-- The proof of (d, k, n) that has no result yet and runs or waits. -/
def State.openProof (s : State) (d : Dom) (k : LCore) (n : Nat) : Option Proof :=
  match s.proofs.find? (fun p => p.d == d && p.k == k && p.s == n && p.result.isNone && (p.core.isSome || p.remote)) with
  | some p => some p
  | none => none

/-- The revise of (d, k, n) that runs. -/
def State.openRevise (s : State) (d : Dom) (k : LCore) (n : Nat) : Option Proof :=
  s.proofs.find? (fun p => p.d == d && p.k == k && p.s == n && p.rcore.isSome)

/-- End a regeneration run, or drop its scratch, with a status (R213, R214). -/
def State.endRegen (s : State) (status : Nat) : State :=
  match s.regen with
  | some _ => ({ (s.putN (key 0x2108 0xA) status).disarm .regenTimeout with regen := none }).placeWaiting
  | none => s

/-- Every step of the domain's proofs and revises is over, and none waits (R366). -/
def State.quiet (s : State) (d : Dom) : Bool := !s.proofs.any (fun p => p.d == d && p.served.isNone)

/-- A proof or revise of a step whose window ends with step n is not over (R106). -/
def State.windowOpen (s : State) (d : Dom) (n : Nat) : Bool :=
  s.proofs.any (fun p => p.d == d && p.served.isNone && decide (p.s + s.commitWindow d ≤ n)) ||
    (s.dom d).steps.any (fun r => r.jobClear && !r.dispatched && !r.discarded && decide (0 < s.period d) &&
      decide (r.n + s.commitWindow d ≤ n))

end Sys2Proof.Machine
end

