-- ==== Sys2Proof/Machine/Screen.lean ====
section
/-! DEFINITION. Supplies and trims (R140, R144, R145), the guard-band map entry, screening records, the issue of cross-core runs
(R134), and the ends of margin probes and of specimen and cross-core runs that other uses of a core bring about (R141, R187). -/

namespace Sys2Proof.Machine

/-! ### Supplies in 5 mV units, two's complement -/

/-- The code of a supply offset in mV. -/
def codeOfMv (mv : Int) : Nat := (mv / 5 % 256).toNat

def mvOfCode (c : Nat) : Int := if c % 256 < 128 then 5 * (c % 256 : Int) else 5 * ((c % 256 : Int) - 256)

/-- The trim in force of a core, in mV. -/
def State.trim (s : State) (c : PCore) : Int := mvOfCode (s.nat (coreKey c 0x88))

/-- Supply in force by the probe, as a code; 0x80 none. -/
def State.probeCode (s : State) (c : PCore) : Nat :=
  match s.probing? c with
  | some p => codeOfMv p.mv
  | none => 0x80

/-! ### Screening records -/

/-- The screening record, 32 bytes (R152). -/
def screenRecord (s : State) (c : PCore) (engine kind program third : Nat) (run : Nat) : Bytes :=
  le 8 s.t ++ le 2 c.val ++ le 1 engine ++ le 1 kind ++ le 2 program ++ le 2 third ++ le 8 run ++
    le 1 (s.nat (coreKey c 0x88)) ++ le 1 (s.probeCode c) ++ List.replicate 6 0

/-- The record is held in objects 0x2204.09 and .0A. -/
def State.keepScreen (s : State) (b : Bytes) : State := (s.setContent (key 0x2204 9) b).put (key 0x2204 0xA) s.now

/-- A screening source is raised; its record is kept when it is captured. -/
def State.screen (s : State) (n i : Nat) (c : PCore) (b : Bytes) (forced : Bool) : State :=
  let cap := s.captures n i
  let s := s.raiseWith n i b forced
  if cap then s.keepScreen b else s

/-! ### Trims (R140, R144, R145) -/

/-- The supply of a core goes below its trim: what runs on it is under probing (R139). -/
def State.markUnder (s : State) (c : PCore) : State :=
  { s with
    proofs := s.proofs.map (fun (p : Proof) => { p with
      under := p.under || (p.result.isNone && p.core == some c), runder := p.runder || p.rcore == some c })
    runs := s.runs.map (fun (r : Run) => { r with under := r.under || r.core == c })
    crosses := s.crosses.map (fun (x : Cross) =>
      if c ∈ x.cores && !x.digests.any (fun p => p.1 == c) then { x with under := x.under.filter (fun y => y ≠ c) ++ [c] } else x) }

def State.upProbing (s : State) (c : PCore) (f : Probing → Probing) : State :=
  { s with probings := s.probings.map (fun (p : Probing) => if p.core = c then f p else p) }

/-- A probe's supply is the trim, or on its way there. -/
def Probing.atTrim (p : Probing) : Bool := p.ending || p.phase == 2 || p.phase == 3

/-- The regulator of a core is commanded to its trim, and the settle timeout armed (R140). A dwell at the trim starts again. -/
def State.commandTrim (s : State) (c : PCore) : State :=
  let mv := s.trim c
  let s := match s.probing? c with
    | some _ => s.upProbing c (fun p => { p with
        mv := mv, below := p.below || decide (p.mv < mv), phase := if p.phase = 3 then 2 else p.phase,
        units := if p.phase = 3 then 0 else p.units, fails := if p.phase = 3 then 0 else p.fails })
    | none => s.upProbe c (fun p => { p with settling := 1 })
  let s := if s.belowTrim c then s.markUnder c else s
  (s.send (.regulator c mv)).arm (.settleTimeout c) (us (s.nat (key 0x2202 3)))

/-- The trim of a core takes effect: the regulator is commanded at once (R144), but while a probe holds the supply elsewhere,
which returns to the trim in force. -/
def State.setTrim (s : State) (c : PCore) (mv : Int) : State :=
  let s := s.putN (coreKey c 0x88) (codeOfMv mv)
  let s := s.ringEvent c 7 (s.domOfCore c) 0x12 (codeOfMv mv)
  match s.probing? c with
  | some p => if p.atTrim then s.commandTrim c else s
  | none => s.commandTrim c

/-- A trim change (R144): raising acts at once; lowering acts at once on a core with no step work, else by 5 mV at each of
its domain's boundaries. -/
def State.changeTrim (s : State) (c : PCore) (mv : Int) : State :=
  if s.trim c ≤ mv || (s.domOfCore c).isNone then
    (s.upProbe c (fun p => { p with goal := none })).setTrim c mv
  else s.upProbe c (fun p => { p with goal := some mv })

/-- One boundary of a lowering under way. -/
def State.lowerTrim (s : State) (c : PCore) : State :=
  match (s.probe c).goal with
  | some g =>
    let v := max g (s.trim c - 5)
    (s.upProbe c (fun p => { p with goal := if v = g then none else some g })).setTrim c v
  | none => s

/-- The map entry of a core becomes stale (R142, R145): it keeps its values. -/
def State.staleMap (s : State) (c : PCore) : State :=
  if (s.probe c).mapFlags.getLsbD 0 then
    let s := s.upProbe c (fun p => { p with mapFlags := p.mapFlags ||| 2 })
    if s.get (coreKey c 0x85) == 2 then s.put (coreKey c 0x85) 3 else s
  else s

/-- An error on a core trimmed below 0 reverts its trim to 0 at once, and drops a lowering under way (R145). The record shows the
trim that was in force when the error came (log entry 173). -/
def State.revertTrim (s : State) (c : PCore) : State :=
  let s := s.upProbe c (fun p => { p with goal := none })
  if s.trim c < 0 then
    let b := screenRecord s c 0xFF 10 0 0xFFFF 0
    let s := (s.setTrim c 0).staleMap c
    let s := (s.bump (coreKey c 0x8C)).bump (key 0x2203 7)
    s.screen 0x46 c.val c b false
  else s

/-! ### Ends of screening on a core -/

/-- A change of the floor plan entries of n cores (object 0x1300.07). -/
def State.planChanged (s : State) (n : Nat) : State := s.bumpBy (key 0x1300 7) n

/-- The probe of a core is over: its entry goes, and flag [2] of the floor plan entry clears. -/
def State.dropProbing (s : State) (c : PCore) : State :=
  let s := { s with probings := s.probings.filter (fun p => p.core != c) }
  let st : Nat := if (s.probe c).mapFlags.getLsbD 4 then 6 else if (s.probe c).mapFlags.getLsbD 1 then 3
    else if (s.probe c).mapFlags.getLsbD 0 then 2 else 0
  ((s.putN (coreKey c 0x85) st).planChanged 1).disarm (.settleTimeout c)

/-- A proof whose core was being probed ends as neither passed nor failed, with a priority proof (R116, R141). -/
def State.unsettledProof (s : State) (p : Proof) : State := ((s.noteLost p).dropProof p).reproof p.d p.k

/-- The proofs and revises that run on a core. -/
def State.proofsOn (s : State) (c : PCore) : List Proof :=
  s.proofs.filter (fun q => (q.result.isNone && q.core == some c) || q.rcore == some c)

/-- Another use of the core ends its probe (R141): its trim is commanded at once, and the core is handed over when the
regulator has settled; proofs running on it end. -/
def State.endProbe (s : State) (c : PCore) : State :=
  match s.probing? c with
  | none => s
  | some p =>
    if p.ending then s
    else
      let s := (s.upProbing c (fun q => { q with ending := true })).commandTrim c
      (s.proofsOn c).foldl (fun s q => s.unsettledProof q) s

/-! ### Which cores are screened (R130) -/

/-- The core is one that R130 gives specimen runs: enabled, reserve or idle, not fenced, retired, absent, held or under test,
and not in reset. -/
def State.screenable (s : State) (c : PCore) : Bool := (s.fp c == 0 || s.fp c == 1) && !(s.probe c).reset

def State.running? (s : State) (c : PCore) : Option Run := s.runs.find? (fun r => r.core == c)

/-- The core runs step work of a domain: the others are free cores (R149, R150). -/
def State.busyCore (s : State) (c : PCore) : Bool := (s.domOfCore c).isSome

/-- After a window over budget no run is given to an enabled core with step work (R150). -/
def State.budgetAllows (s : State) (c : PCore) : Bool := !(s.overBudget && s.busyCore c)

/-! ### The issue of cross-core runs (R134, R137) -/

/-- A run on cores of a cross-core run is issued with its work, and its timeout armed (R137). -/
def State.issueCross (s : State) (x : Cross) (l : List PCore) : State :=
  l.foldl (fun s c =>
    let s := (s.send (.crosscore c x.id x.work)).disturbCore c 5
    s.arm (.crosscoreTimeout c x.id) (us (s.nat (key 0x2200 6)))) s

/-- A pair runs the same work, which its run number draws (R134). -/
def State.startPair (s : State) (a b : PCore) (probed : Option PCore) : State :=
  let x : Cross := { id := s.nextCross, work := crossWork (s.get (key 0x2200 5)) (s.nat (key 0x2200 7)) s.nextCross,
                     cores := [a, b], probed := probed, digests := [], late := [],
                     under := [a, b].filter (fun c => s.belowTrim c) }
  ({ s with crosses := s.crosses ++ [x], nextCross := s.nextCross + 1 }).issueCross x [a, b]

/-- A partner for the probe run of a core: an eligible core at its trim, the lowest that runs no other. -/
def State.probePartner (s : State) (c : PCore) : Option PCore :=
  let free := allCores.filter (fun b => s.screenable b && b != c && (s.probing? b).isNone && s.budgetAllows b)
  ((free.filter (fun b => !s.crosses.any (fun y => b ∈ y.cores))) ++ free).head?

/-- A probed core of no active domain runs its dwell on cross-core runs (R138): the next of them. -/
def State.probeRun (s : State) (c : PCore) : State :=
  match s.probing? c with
  | some p =>
    if p.ending || (p.phase != 1 && p.phase != 3 && p.phase != 5) || s.fp c != 0 ||
        decide (s.nat (key 0x2202 2) ≤ p.units) || (p.fails != 0 && p.phase != 3) || s.crosses.any (fun x => x.probed == some c) then s
    else match s.probePartner c with
      | some b => s.startPair c b (some c)
      | none => s
  | none => s

/-! ### Runs and proofs that other uses end -/

/-- The specimen run of a core ends without an outcome (R166, R187, R320). -/
def State.endSpecimen (s : State) (c : PCore) : State :=
  ({ s with runs := s.runs.filter (fun r => r.core != c) }).disarm (.specimenTimeout c [])

/-- Cross-core runs of p that core c is in end without an outcome; the probe of another core, of whose dwell one was a unit,
starts its next (R138). -/
def State.endCrosses (s : State) (c : PCore) (p : Cross → Bool) : State :=
  let dead := s.crosses.filter (fun x => c ∈ x.cores && p x)
  let s := { s with crosses := s.crosses.filter (fun x => !(c ∈ x.cores && p x)) }
  let s := dead.foldl (fun s x => x.cores.foldl (fun s y => s.disarm (.crosscoreTimeout y x.id)) s) s
  ((dead.filterMap (·.probed)).filter (fun y => y ≠ c)).foldl (fun s y => s.probeRun y) s

/-- Specimen and cross-core runs on the core end without an outcome (R187, R320). -/
def State.endRuns (s : State) (c : PCore) : State := (s.endSpecimen c).endCrosses c (fun _ => true)

/-- Every proof and revise on the core ends as lost (R187, R276, R320). -/
def State.loseProofsOn (s : State) (c : PCore) : State := (s.proofsOn c).foldl (fun s q => s.loseProof q) s

/-- A regeneration run on the core, or its scratch there, ends with status 5 (R214, R320). -/
def State.dropRegenOn (s : State) (c : PCore) : State :=
  match s.regen with
  | some r => if r.core = c then s.endRegen 5 else s
  | none => s

end Sys2Proof.Machine
end

