-- ==== Sys2Proof/Machine/Rollback.lean ====
section
/-! DEFINITION. Context tags (R312), arms of start in step (R47, R48, R386), the hold of a barrier, and the rollback of a
domain (R113). -/

namespace Sys2Proof.Machine

/-! ### Context tags -/

/-- Incarnation of a domain: bits [15:12] of its context tag. -/
def State.incarnation (s : State) (d : Dom) : BitVec 4 := (s.get (domKey 0x2902 1 d)).extractLsb' 12 4

def State.setIncarnation (s : State) (d : Dom) (i : BitVec 4) : State :=
  s.putN (domKey 0x2902 1 d) (i.toNat * 4096 + s.nat (domKey 0x2902 1 d) % 4096)

/-- The tag a domain's work carries. -/
def State.tag (s : State) (d : Dom) : Nat := s.nat (domKey 0x2902 1 d)

/-! ### Arms -/

/-- T of a domain's arm not yet fired; 0 none. -/
def State.armOf (s : State) (d : Dom) : Nat := s.nat (domKey 0x1220 0xA d)

/-- The arm of a domain is gone; the timeout of its T stays while another domain is armed with it. -/
def State.dropArm (s : State) (d : Dom) : State :=
  let t := s.armOf d
  if t = 0 then s
  else
    let s := s.putN (domKey 0x1220 0xA d) 0
    if allDoms.any (fun e => s.armOf e == t) then s else s.disarm (.startTimeReached (BitVec.ofNat 64 t))

/-- Arm a domain with T, in place of an earlier arm of it (R47). -/
def State.armDomain (s : State) (d : Dom) (t : Nat) : State :=
  let s := (s.dropArm d).putN (domKey 0x1220 0xA d) t
  let c : Instr := .startTimeReached (BitVec.ofNat 64 t)
  if s.armed c then s else s.armAt c t

/-- The outcome of arming T for work of domain d, as object 0x1220.03 shows it: 1 armed, 3 missed, 4 refused (R47, R48). -/
def State.armOutcome (s : State) (d : Option Dom) (t : Nat) : Nat :=
  if s.get (key 0x1200 3) != 2 then 4
  else if t ≤ s.t + us (s.valOf d (key 0x1220 5)) then 3
  else if s.t + ms (s.valOf d (key 0x1220 6)) < t then 4
  else 1

/-- T for a start that Phory picks at this moment (R53, R386). -/
def State.leadTime (s : State) (d : Dom) : Nat := s.t + us (s.natFor d (key 0x1220 4))

/-- Phory arms a domain itself (R386). A refused arm leaves it suspended, and its cause is remembered: the time status, or
one of objects 0x1220.04–.06. -/
def State.phoryArm (s : State) (d : Dom) : State :=
  if s.faulted || !(s.dom d).active then s
  else
    let t := s.leadTime d
    let o := s.armOutcome (some d) t
    let s := s.putN (key 0x1220 3) o
    let l := s.tb.refusedArms.filter (fun r => r.1 ≠ d)
    if o = 1 then { s with tb := { s.tb with refusedArms := l } }.armDomain d t
    else { s with tb := { s.tb with refusedArms := l ++ [(d, s.get (key 0x1200 3) != 2)] } }

/-- Phory arms the refused domains again once the cause of the refusal is gone (R386): the time status reads 2 (`time`), or
one of objects 0x1220.04–.06 was written. -/
def State.rearm (s : State) (time : Bool) : State :=
  (s.tb.refusedArms.filter (fun r => r.2 == time)).foldl (fun s r => s.arm (.rearmOnCauseGone r.1) 0) s

/-! ### Held barriers -/

/-- The hold of a barrier ends; the time of a hold by proofing or depth is added in ns (R106, R107). -/
def State.endHold (s : State) (d : Dom) : State :=
  match (s.dom d).held with
  | some h =>
    let s := if h.proofing then s.bumpBy (key 0x2105 9) ((s.t - h.since.toNat) / 16) else s
    s.upDom d (fun x => { x with held := none })
  | none => s

/-! ### Discarded work -/

/-- Flag [0] of the watch results of discarded steps (R303): those written at or after a discarded record's clears. -/
def flagResult (gone : List StepRec) (d : Dom) (b : Bytes) : Bytes :=
  let hit := gone.any (fun r => r.n == fieldAt b 8 6 && decide (fieldAt b 0xE 1 = d.val) &&
    r.cores.all (fun c => c.clear && decide (c.clearTime.toNat ≤ fieldAt b 0 8)))
  if hit then setBytes b 0xF [b.getD 0xF 0 ||| 1] else b

/-- The bytes cut in pieces of n. -/
def pieces (n : Nat) : Nat → Bytes → List Bytes
  | 0, _ => []
  | fuel + 1, b => if b.isEmpty then [] else b.take n :: pieces n fuel (b.drop n)

def State.flagResults (s : State) (d : Dom) (gone : List StepRec) : State :=
  (List.range 64).foldl (fun s w =>
    let b := s.content (watchKey w 2)
    if b.isEmpty then s else s.setContent (watchKey w 2) ((pieces 96 16 b).flatMap (flagResult gone d))) s

/-- Check timeouts and attention rows of a domain's work from step r on are dropped. -/
def State.dropChecks (s : State) (d : Dom) (r : Nat) : State :=
  let gone (o : Origin) : Bool := match o with
    | .step e n => e == d && decide (r ≤ n)
    | .proof e _ n => e == d && decide (r ≤ n)
    | _ => false
  let s := s.disarmAll (fun c => match c with
    | .checkTimeout w => gone w.origin
    | _ => false)
  let old := ((s.dom d).steps.filter (fun q => decide (r ≤ q.n) && !q.discarded)).flatMap (fun q =>
    q.cores.flatMap (fun c => c.work.map (fun w => (c.phys, w.1, w.2))))
  { s with rows := s.rows.filter (fun w => !gone w.w.origin), oldWork := s.oldWork ++ old }

/-- Every proof of a discarded step is cancelled (R113 step 4). -/
def State.cancelProofs (s : State) (d : Dom) (r : Nat) : State :=
  let l := s.proofs.filter (fun p => p.d == d && decide (r ≤ p.s))
  let s := { s with proofs := s.proofs.filter (fun p => !(p.d == d && decide (r ≤ p.s))) }
  let s := l.foldl (fun s p => (if p.served.isSome then s else s.disarm p.timer).send (.cancelProof p.d p.k p.s)) s
  s.placeWaiting

/-- The cores whose proofs of discarded steps were cancelled or had passed (R97). -/
def State.unproofed (s : State) (d : Dom) (r : Nat) : List LCore :=
  (s.dom d).cores.filter (fun k =>
    s.proofs.any (fun p => p.d == d && p.k == k && p.served.isNone && decide (r ≤ p.s)) ||
      (s.dom d).passes.any (fun p => p.1 == k && decide (r ≤ p.2)))

/-- The domain after the rollback that restarts at step r: lengths, records, passes of the steps from r on, and the spills that they asked for,
undone (R113). -/
def DomSt.rolledBack (x : DomSt) (r top : Nat) : DomSt :=
  let pages := x.pages.map (fun p => (p, p.rollback r))
  { x with
    running := false
    suspended := true
    closeIssued := false
    held := none
    steps := x.steps.map (fun q => if r ≤ q.n then { q with discarded := true } else q)
    passes := x.passes.filter (fun p => decide (p.2 < r))
    failed := x.failed.filter (fun p => decide (p.2 < r))
    pages := pages.filterMap (fun p => p.2)
    spills := x.spills.filter (fun p => decide (p.step < r))
    lengths := x.lengths ++ (pages.filter (fun p => p.2.isNone && !p.1.opened)).map (fun p => (p.1.page, p.1.committedLen))
    jobHeld := if x.jobHeld == some 0 then x.jobHeld else none
    abandoned := none
    releasedStep := match x.releasedStep with
      | some n => if n < r then some n else if r ≤ x.start then none else some (r - 1)
      | none => none
    replayTo := max x.replayTo (top + 1) }

/-- Roll a domain back so that it restarts at step r (R113): the incarnation advances first (R312; a steward's order carries
it), then everything from step r on is discarded. Poison consumed in a discarded step is gone once its domain resumes
(R167), and what the job's chips had proven of such steps is proven no more (R125). -/
def State.rollback (s : State) (d : Dom) (r : Nat) (inc : Option (BitVec 4)) : State :=
  let x := s.dom d
  let gone := x.steps.filter (fun q => decide (r ≤ q.n) && !q.discarded)
  let top := gone.foldl (fun m q => max m q.n) (r - 1)
  let again := s.unproofed d r
  let s := s.setIncarnation d (inc.getD (s.incarnation d + 1))
  let s := ((s.bump (key 0x2105 0xA)).bumpBy (key 0x2105 0xB) gone.length).endHold d
  let s := ((s.cancelProofs d r).dropChecks d r).flagResults d gone
  let resumes := s.get (domKey 0x2301 1 d) == 3
  let s := s.upDom d (fun x => { x.rolledBack r top with poison := if resumes then none else x.poison })
  let s := s.dropArm d
  let s := { s with obs := { s.obs with watches := s.obs.watches.filter (fun w => !(w.d == d && decide (r ≤ w.n))) } }
  let s := s.putN (domKey 0x1210 1 d) r
  let s := match (s.dom d).releasedStep with
    | some n => s.putN (domKey 0x2104 9 d) n
    | none => s.put (domKey 0x2104 9 d) ones64
  let s := s.putN (domKey 0x2104 0x11 d) (s.depth d)
  let s : State := if s.multi d then
      { s with job := { s.job with
        steps := s.job.steps.filter (fun j => decide (j.n < r)), told := none
        provens := (s.job.provens.filter (fun _ => decide (0 < r))).map (fun (p : Rank × Nat) => (p.1, min p.2 (r - 1)))
        proven := if r = 0 then none else s.job.proven.map (fun (p : Nat) => min p (r - 1)) } }.disarmAll (fun c => match c with
          | .compareTimeout n => decide (r ≤ n)
          | _ => false)
    else s
  let s := if s.multi d && s.role = 2 then s.put (key 0x210A 1) ((s.job.proven.map (BitVec.ofNat 64)).getD ones64) else s
  let s : State := match s.regen with
    | some g => if g.d = d ∧ r ≤ g.s ∧ !g.done then s.endRegen 5 else s
    | none => s
  let s := again.foldl (fun s k => s.priorityProof d k) s
  (s.showLedger).showColophons d

/-- The step at which a rollback to the committed step restarts. -/
def State.restartStep (s : State) (d : Dom) : Nat := (s.dom d).base

/-- A rollback of a single-chip domain, with its ledger walk (R113). One that would discard nothing of a domain already
suspended is the rollback under way. -/
def State.rollbackHere (s : State) (d : Dom) (r : Nat) : State :=
  let x := s.dom d
  let r := max r x.base
  if x.suspended && decide (s.stepOf d ≤ r) then s
  else (s.rollback d r none).upDom d (fun x => { x with walk := true })

end Sys2Proof.Machine
end

