-- ==== Sys2Proof/Machine/Job.lean ====
section
/-! DEFINITION. The steward's duties across chips (R27, R53, R102, R113, R123, R125, R127) and the comparison and narrowing
of a lock-step pair (R215 to R222). -/

namespace Sys2Proof.Machine

/-! ### Frames -/

/-- A steward-path frame is accepted (R27): its job and epoch are the chip's, and a worker takes it from its steward only. -/
def State.accepts (s : State) (e : Env) : Bool :=
  s.role != 0 && e.job.toNat == s.roleVal (key 0x2C00 2) && e.epoch.toNat == s.roleVal (key 0x2C00 3) &&
    (s.role == 2 || e.src.toNat == s.roleVal (key 0x2C00 4))

/-- Any other frame is discarded and counted (R27). -/
def State.foreign (s : State) : State := s.bump (key 0x2C00 0xA)

def State.upJob (s : State) (f : Steward → Steward) : State := { s with job := f s.job }

/-! ### Restart in step (R53) -/

/-- A restart of the job waits: for new routes (R123), for sparings (R190), for the host's write in a pair (R221), or this
chip's domain for the host's write after poison (R167). -/
def State.stewardWaits (s : State) (d : Dom) : Bool :=
  s.job.waitRoutes || !s.job.waitSparing.isEmpty || (s.job.narrow.any (fun n => n.stage == 6)) ||
    (s.dom d).poison.isSome || (s.dom d).jobHeld == some 0

/-- The primary of a lock-step pair compares, before its domain's first start, program seed, colophon seed, start value and
count of logical cores with the mirror's (R215). The mirror's are outside: free values (log entry 54). -/
def State.settingsDiffer (s : State) (d : Dom) : Bool × State :=
  if s.lockstep d = 1 && (s.dom d).steps.isEmpty then
    let other (i : Nat) : Word := Config.freeWord (s.free + i)
    let differ := s.get (domKey 0x2108 1 d) != other 0 || s.get (domKey 0x2103 1 d) != other 1 ||
      s.get (domKey 0x1210 0x11 d) != other 2 || (s.dom d).cores.length != (other 3).toNat
    let s : State := { s with free := s.free + 4 }
    if differ then (true, (s.putN (key 0x2C10 6) 5).putN (key 0x1220 3) 4) else (false, s)
  else (false, s)

/-- The steward picks T and arms every worker and itself with it (R53). When it cannot arm itself it arms no one, and tries
again once the cause is gone (R386); a pair whose settings differ is not started (R215). -/
def State.stewardArm (s : State) (d : Dom) : State :=
  if s.stewardWaits d || s.faulted || !(s.dom d).active then s
  else
    let (differ, s) := s.settingsDiffer d
    if differ then s else
    let t := s.leadTime d
    let o := s.armOutcome (some d) t
    let s := s.putN (key 0x1220 3) o
    let l := s.tb.refusedArms.filter (fun r => r.1 ≠ d)
    if o = 1 then
      let s : State := { s with tb := { s.tb with refusedArms := l } }
      let s := (s.toWorkers (.arm (BitVec.ofNat 64 t))).armDomain d t
      if s.jobRanks.all (fun r => r == s.rank) then s
      else (s.upJob (fun j => { j with arms := [], armT := some (BitVec.ofNat 64 t) })).armAt .startReportDeadline t
    else { s with tb := { s.tb with refusedArms := l ++ [(d, s.get (key 0x1200 3) != 2)] } }

/-- The start under way is over: its reports and deadline go. -/
def State.endStart (s : State) : State :=
  (s.upJob (fun j => { j with arms := [], armT := none })).disarm .startReportDeadline

/-- The steward orders a rollback of the job that restarts at step r, with the new incarnation (R113, R312), and restarts
it. -/
def State.jobRollback (s : State) (d : Dom) (r : Nat) : State :=
  let r := max r (s.dom d).base
  let i := s.incarnation d + 1
  let s := (s.bump (key 0x210A 4)).endStart
  let s := s.toWorkers (.rollback d (before r) i)
  (s.rollback d r (some i)).stewardArm d

/-- This chip discards the step of a failed start (R53): it rolls the step back when it started it. -/
def State.discardStart (s : State) (d : Dom) : State :=
  let s := s.putN (key 0x1220 3) 6
  if (s.dom d).running then s.rollback d (s.stepOf d) none else s.dropArm d

/-- A start failed: every chip discards the step, and the steward picks a new T (R53). -/
def State.startFailed (s : State) (d : Dom) : State :=
  ((s.endStart.toWorkers (.discard d)).discardStart d).stewardArm d

/-! ### Reports and the job proven step (R102, R125, R127) -/

/-- The ranks whose reports a step of the job awaits (R125). -/
def State.awaited (s : State) : List Rank := s.jobRanks

/-- The lowest proven step among the chips (R125), none while a chip has none; below a step under narrowing,
and in a pair below the first step not compared equal (R216). -/
def State.lowestProven (s : State) : Option Nat :=
  let l := s.awaited.map (fun r => (s.job.provens.find? (fun p => p.1 == r)).map (·.2))
  let m := l.foldl (fun a p => match a, p with
    | some a, some p => some (min a p)
    | _, _ => none) (some (2 ^ 48))
  let below (m : Option Nat) (n : Nat) : Option Nat := match m with
    | some m => if m < n then some m else if n = 0 then none else some (n - 1)
    | none => none
  let m := match s.job.narrow with
    | some n => below m n.step
    | none => m
  match s.jobDom with
  | some d =>
    if s.lockstep d = 1 then
      match (s.dom d).steps.find? (fun r => !r.discarded && !r.equal) with
      | some r => below m r.n
      | none => m
    else m
  | none => m

/-- The chip learns that steps up to n are at galley clear on every chip, and the job proven step (R102, R125). A mirror whose
divergence lay no later is in lock-step again (R220). -/
def State.jobClearHere (s : State) (d : Dom) (n : Nat) (proven : Option Nat) : State :=
  let s := match s.job.diverged with
    | some m => if m ≤ n then (s.upJob (fun j => { j with diverged := none })).putN (key 0x2C10 6) 1 else s
    | none => s
  let s := s.upStep d n (fun r => { r with jobClear := r.clear, equal := r.equal || s.lockstep d == 2 })
  s.upJob (fun j => { j with proven := match j.proven, proven with
    | some a, some b => some (max a b)
    | some a, none => some a
    | none, b => b })

/-- The job colophon of a step, formed over its reports in ascending rank (R101, R127), 24 bytes. -/
def State.jobColophon (s : State) (d : Dom) (j : JobStep) : Bytes :=
  let keys := stepKeys (s.valFor d (domKey 0x2103 1 d)) (s.jobId d) j.n
  let l := s.awaited.filterMap (fun r => (j.reports.find? (fun p => p.1 == r)).map (·.2))
  le 16 (combine keys.2.2 l).toNat ++ le 6 j.n ++ le 2 0

/-- One more job colophon: the last 64 are kept in object 0x210A.02, and each 64 make an entry of the Cellar. -/
def State.keepJobColophon (s : State) (b : Bytes) : State :=
  let l := s.content (key 0x210A 2) ++ b
  let s := s.setContent (key 0x210A 2) (l.drop (l.length - 64 * 24))
  let q := s.job.batch ++ b
  if q.length < 64 * 24 then s.upJob (fun j => { j with batch := q })
  else (s.upJob (fun j => { j with batch := [] })).event 0x015 q

/-- Steps at job galley clear that the job proven step has reached leave their colophons. -/
def State.recordColophons (s : State) (d : Dom) : State :=
  match s.job.proven with
  | some p =>
    let done := s.job.steps.filter (fun j => decide (j.n ≤ p))
    let s := s.upJob (fun j => { j with steps := j.steps.filter (fun x => decide (p < x.n)) })
    done.foldl (fun s j => s.keepJobColophon (s.jobColophon d j)) s
  | none => s

/-- Every awaited chip has reported step n. -/
def State.allReported (s : State) (j : JobStep) : Bool := s.awaited.all (fun r => j.reports.any (fun p => p.1 == r))

/-! ### Divergence (R216 to R222) -/

/-- The partner's rank in a pair. -/
def State.partner (s : State) : Rank := (s.get (key 0x2C10 2)).setWidth 32

/-- The divergence record, 64 bytes. -/
def divergenceRecord (s : State) (n : Narrow) (outcome : Nat) (forced : Bool) : Bytes :=
  let core := match n.first with
    | some f => f.1.val
    | none => 0xFFFF
  let op := n.first.map (·.2)
  let place := match n.work with
    | some w => w.1.place.toNat
    | none => 0xFFFFFFFF
  let eng := match n.work with
    | some w => w.1.engine.val
    | none => 0xFF
  let kind := match n.work with
    | some w => w.1.kind.toNat
    | none => 0
  let lo (f : WorkDigest × Word → Word) : Nat := match n.work with
    | some w => (f w).toNat
    | none => 0
  le 8 n.at_.toNat ++ le 6 n.step ++ le 1 n.d.val ++ le 1 (bitOf forced * 128 + outcome) ++
    le 8 (s.roleVal (key 0x2C00 2)) ++ le 4 s.rank.toNat ++ le 4 s.partner.toNat ++ le 2 n.differing.length ++ le 2 core ++
    le 2 (match op with | some o => o.oper.toNat | none => 0) ++ le 2 (match op with | some o => o.layer.toNat | none => 0) ++
    le 4 (match op with | some o => o.cmd | none => 0xFFFFFFFF) ++ le 4 place ++ le 1 eng ++ le 1 kind ++ le 2 0 ++
    le 4 (lo (fun w => w.1.digest)) ++ le 4 (lo (fun w => w.2)) ++ le 4 0

/-- A divergence not narrowed yet. -/
def Narrow.start (s : State) (d : Dom) (n : Nat) : Narrow :=
  { d := d, step := n, at_ := s.now, stage := 1, differing := [], fetched := [], found := [], first := none, digests := [],
    waiting := [], own := [], work := none, proofs := [] }

/-- The narrowing is over with an outcome: the record and its duration show it, and object 0x2C10.06 the state. -/
def State.endNarrow (s : State) (outcome state : Nat) : State :=
  match s.job.narrow with
  | some n =>
    let s := s.setContent (key 0x2C10 9) (divergenceRecord s n outcome false)
    let s := s.putN (key 0x2C10 0xB) (min ((s.t - n.at_.toNat) / us 1) 0xFFFFFFFF)
    let s := s.putN (key 0x2C10 6) state
    let s := s.upDom n.d (fun x => { x with jobHeld := if x.jobHeld == some 0 then x.jobHeld else none })
    s.upJob (fun j => { j with narrow := if state = 3 then some { n with stage := 6 } else none })
  | none => s

/-- A failure of either chip takes over the narrowing (R222). -/
def State.supersedeNarrow (s : State) : State :=
  match s.job.narrow with
  | some n => if n.stage = 6 then s else s.endNarrow 7 1
  | none => s

/-- The pair diverges at step n (R220 stage 1): counted, raised, the barrier of step n + 1 held on both chips, and the core
colophons of the mirror fetched. -/
def State.diverge (s : State) (d : Dom) (n : Nat) : State :=
  let w := Narrow.start s d n
  let s := (s.bump (key 0x2C10 8)).putN (key 0x2C10 6) 2
  let s := s.upJob (fun j => { j with narrow := some w })
  let s := s.upDom d (fun x => { x with jobHeld := some (n + 1) })
  let b := divergenceRecord s w 1 false
  let s := (s.setContent (key 0x2C10 9) b).raise 0x70 d.val b
  (s.toWorkers (.hold d (some (n, none)))).send (.frame s.partner (.fetchCores d n))

/-- The divergence under replay repeats: the job is held, and the work digests decide (R220, R221). -/
def State.divergeAgain (s : State) (d : Dom) (n : Narrow) : State :=
  let s := s.upDom d (fun x => { x with jobHeld := some (n.step + 1) })
  let s := s.upJob (fun j => { j with narrow := some { n with stage := 4 } })
  s.toWorkers (.hold d (some (n.step, none)))

/-- The priority proof of the first diverging core on this chip (R221); it runs whatever the proof fraction (R95). -/
def State.narrowingProof (s : State) (d : Dom) (n : Nat) (k : LCore) : State :=
  (s.addProof { newProof d k n n true with narrowing := true }).placeWaiting

/-- The divergence stays unattributed (R221): both chips are suspended at the committed step, and the host decides. -/
def State.unattributed (s : State) (d : Dom) : State := (s.endNarrow 5 3).jobRollback d (s.restartStep d)

/-- A freeze of either chip holds the narrowing (R222). -/
def State.narrowHeld (s : State) (n : Narrow) : Bool := s.domFrozen n.d || s.job.frozen.contains s.partner

/-- The first work item, in the primary's order of issue, whose digests differ, with the mirror's digest (R220). -/
def firstWork (own other : List WorkDigest) : Option (WorkDigest × Word) :=
  (own.zipIdx.find? (fun x => (other[x.2]?).map (·.digest) != some x.1.digest)).map (fun x =>
    (x.1, match other[x.2]? with | some o => o.digest | none => 0))

/-- The work digests of both chips are there: the first work item whose digests differ is named (R220), and both chips run their
priority proofs (R221). A divergence that repeats while no core's colophon differed names no core to proof: it stays unattributed
(log entry 176). -/
def State.narrowDigests (s : State) : State :=
  match s.job.narrow with
  | some n =>
    if n.stage ≠ 4 || s.narrowHeld n then s
    else match n.digests.find? (fun x => x.1 == s.partner), n.first with
      | some b, some f =>
        let n := { n with stage := 5, work := firstWork (n.own.map (·.2)) b.2 }
        let s := (s.upJob (fun j => { j with narrow := some n })).toWorkers (.hold n.d (some (n.step, some f.1)))
        s.narrowingProof n.d n.step f.1
      | _, none => s.unattributed n.d
      | none, _ => s
  | none => s

/-- The comparison of step n on the primary (R216): equal, it counts, and a divergence under replay did not repeat; different,
the pair has diverged. -/
def State.compareStep (s : State) (d : Dom) (j : JobStep) : State :=
  match j.reports.find? (fun p => p.1 == s.rank), j.reports.find? (fun p => p.1 == s.partner) with
  | some a, some b =>
    if (s.dom d).steps.any (fun r => r.n == j.n && !r.discarded && r.equal) then s
    else if a.2 = b.2 then
      let s := (s.bump (key 0x2C10 7)).upStep d j.n (fun r => { r with equal := true })
      match s.job.narrow with
      | some n =>
        if n.stage = 3 ∧ n.step = j.n then
          let b := divergenceRecord s n 2 false
          ((s.endNarrow 2 1).bump (key 0x2C10 0xC)).raise 0x71 d.val b
        else s
      | none => s
    else match s.job.narrow with
      | some n =>
        if n.step = j.n then (if n.stage = 3 then (s.divergeAgain d n).narrowDigests else s)
        else if n.stage = 3 then s.diverge d j.n
        else s
      | none => s.diverge d j.n
  | _, _ => s

/-- A step of the job that every awaited chip has reported is at job galley clear (R102); in a pair with the gate, only when
the comparison found it equal (R216, R217). None while a
rank is lost (R203). The steward tells every chip, and tells a job proven step that rose. -/
def State.declareJobClear (s : State) (d : Dom) (n : Nat) : State :=
  match s.job.steps.find? (fun j => j.n == n) with
  | some j =>
    let r := (s.dom d).step? n
    let equal := s.lockstep d != 1 || s.get (key 0x2C10 4) == 0 || r.any (·.equal)
    let p := s.lowestProven
    let new := !r.any (·.jobClear)
    if s.allReported j && s.job.lost.isEmpty && equal && (new || p != s.job.proven) then
      let s := (s.toWorkers (.jobClear d n p)).jobClearHere d n p
      let s := match s.job.proven with
        | some q => s.putN (key 0x210A 1) q
        | none => s
      s.recordColophons d
    else s
  | none =>
    -- a step whose colophon is recorded already: only the proven step can be new
    let p := s.lowestProven
    if p != s.job.proven && p.isSome && s.job.lost.isEmpty then
      let s := (s.toWorkers (.jobClear d n p)).jobClearHere d n p
      (match s.job.proven with
        | some q => s.putN (key 0x210A 1) q
        | none => s).recordColophons d
    else s

/-- A rank's proven step, which never falls (R125). -/
def Steward.keepProven (j : Steward) (r : Rank) (p : Nat) : Steward :=
  let old := match j.provens.find? (fun q => q.1 == r) with
    | some q => q.2
    | none => 0
  { j with provens := j.provens.filter (fun q => q.1 ≠ r) ++ [(r, max p old)] }

/-- A rank's report of step n. -/
def Steward.keepReport (j : Steward) (r : Rank) (n : Nat) (c : Colophon) : Steward :=
  let put (x : JobStep) : JobStep :=
    if x.n = n then { x with reports := x.reports.filter (fun p => p.1 ≠ r) ++ [(r, c)] } else x
  { j with
    steps :=
      if j.steps.any (fun x => x.n == n) then j.steps.map put
      else j.steps.filter (fun x => decide (x.n < n)) ++ [{ n := n, reports := [(r, c)] }] ++
        j.steps.filter (fun x => decide (n < x.n)) }

/-- The steward takes a chip's report of step n (R125). In a pair the primary's own report arms the compare timeout when
the mirror's is not there yet (R216). -/
def State.jobReport (s : State) (d : Dom) (r : Rank) (n : Nat) (proven : Option Nat) (c : Colophon) : State :=
  let s := match proven with
    | some p => s.upJob (fun j => j.keepProven r p)
    | none => s
  let old := s.job.proven.any (fun p => decide (n ≤ p))
  let s := if old then s else s.upJob (fun j => j.keepReport r n c)
  let s := match s.job.steps.find? (fun x => x.n == n) with
    | some j =>
      if s.lockstep d = 1 then
        if r = s.rank ∧ !j.reports.any (fun p => p.1 == s.partner) then
          s.arm (.compareTimeout n) (us (s.natFor d (key 0x2C10 5)))
        else (s.arrives (.compareTimeout n) 4).compareStep d j
      else s
    | none => s
  s.declareJobClear d n

/-- A rank's priority proof of the narrowing ended (R221): attributed when one failed and the other did not. -/
def State.narrowOutcome (s : State) (r : Rank) (failed : Bool) : State :=
  match s.job.narrow with
  | some n =>
    if n.stage ≠ 5 then s
    else
      let l := n.proofs.filter (fun p => p.1 ≠ r) ++ [(r, failed)]
      let s := s.upJob (fun j => { j with narrow := some { n with proofs := l } })
      match l.find? (fun p => p.1 == s.rank), l.find? (fun p => p.1 == s.partner) with
      | some a, some b =>
        if a.2 = b.2 then s.unattributed n.d
        else (s.endNarrow (if a.2 then 3 else 4) 1).jobRollback n.d (s.restartStep n.d)
      | _, _ => s
  | none => s

/-! ### The fetches of a narrowing (R220) -/

/-- Logical cores of step n whose colophons differ on the two chips (R220 stage 2). -/
def State.differingCores (s : State) (d : Dom) (n : Nat) (l : List (LCore × Colophon)) : List LCore :=
  match (s.dom d).step? n with
  | some r => (r.cores.filter (fun c => !l.any (fun x => x.1 == c.k && x.2 == c.acc))).map (·.k)
  | none => []

/-- The lowest command index of a core at which the operator colophons of the two chips differ, one that only the mirror has
included, as the primary holds it, or else as the mirror does (R220 stage 3). -/
def firstDiffering (own other : List OpColophon) : Option OpColophon :=
  let alone (l m : List OpColophon) := l.filter (fun a => !m.any (fun b => b.cmd == a.cmd && b.value == a.value))
  (alone own other ++ alone other own).foldl (fun b o => match b with
    | some b => if o.cmd < b.cmd then some o else some b
    | none => some o) none

/-- The first divergence: the earliest last output unit in the primary's global time, the lower core among equals. -/
def firstDivergence (l : List (LCore × OpColophon)) : Option (LCore × OpColophon) :=
  l.foldl (fun b x => match b with
    | none => some x
    | some y =>
      if x.2.time.toNat < y.2.time.toNat ∨ (x.2.time = y.2.time ∧ x.1.val < y.1.val) then some x else some y) none

/-- With every listed core fetched the job is rolled back and replayed, and both chips record the work digests of the
diverging command (R220 stage 4). -/
def State.replayDivergence (s : State) (n : Narrow) : State :=
  let first := firstDivergence n.found
  let s := s.upJob (fun j => { j with narrow := some { n with stage := 3, first := first, own := [] } })
  let s := s.upDom n.d (fun x => { x with jobHeld := none })
  let s := match first with
    | some f => s.send (.frame s.partner (.fetchWork n.d n.step f.1 f.2.layer f.2.oper))
    | none => s
  s.jobRollback n.d (s.restartStep n.d)

/-- A fetch of the narrowing arrives. -/
def State.narrowFetched (s : State) (n : Narrow) : NarrowFetch → State
  | .cores l =>
    if n.stage ≠ 1 then s
    else
      let diff := s.differingCores n.d n.step l
      let n := { n with stage := 2, differing := diff }
      let s := s.upJob (fun j => { j with narrow := some n })
      if diff.isEmpty then s.replayDivergence n
      else s.sendAll (diff.map (fun k => .frame s.partner (.fetchOperators n.d n.step k)))
  | .operators k l =>
    if n.stage ≠ 2 || k ∉ n.differing || k ∈ n.fetched then s
    else
      let own := match s.coreRec? n.d n.step k with
        | some c => c.ops
        | none => []
      let found := match firstDiffering own l with
        | some o => n.found ++ [(k, o)]
        | none => n.found
      let n := { n with fetched := n.fetched ++ [k], found := found }
      let s := s.upJob (fun j => { j with narrow := some n })
      if n.differing.all (fun j => j ∈ n.fetched) then s.replayDivergence n else s

/-- A fetch waits while the narrowing is held (R222). -/
def State.takeFetch (s : State) (f : NarrowFetch) : State :=
  match s.job.narrow with
  | some n =>
    if s.narrowHeld n then s.upJob (fun j => { j with narrow := some { n with waiting := n.waiting ++ [f] } })
    else s.narrowFetched n f
  | none => s

/-- What a narrowing does by itself: a poison consumption on the steward's chip ends it (R222); after a freeze what waited goes
on; a proof of it that was lost here has no outcome (R221). -/
def State.followNarrow (s : State) : State :=
  let s := match s.job.narrow with
    | some n =>
      if (s.dom n.d).poison.isSome then s.supersedeNarrow
      else if s.narrowHeld n then s
      else
        let s := s.upJob (fun j => { j with narrow := some { n with waiting := [] } })
        (n.waiting.foldl (fun (s : State) f => s.takeFetch f) s).narrowDigests
    | none => s
  match s.job.narrowLost with
  | some d =>
    let s := s.upJob (fun j => { j with narrowLost := none })
    if s.role = 2 then s.narrowOutcome s.rank false else s.toSteward (.failure d (.narrowingProof false))
  | none => s

/-- The mirror is lost to the pair (R218): the primary goes on alone, and what waited for the comparison goes on. -/
def State.partnerLost (s : State) (d : Dom) (n : Nat) : State :=
  let w := (s.job.narrow).getD (Narrow.start s d n)
  let b := divergenceRecord s w 6 false
  let s := match s.job.narrow with
    | some _ => s.endNarrow 6 4
    | none => (s.setContent (key 0x2C10 9) b).putN (key 0x2C10 6) 4
  let s := s.disarmAll (fun c => match c with
    | .compareTimeout _ => true
    | _ => false)
  let s := (s.raise 0x72 d.val b).upJob (fun j => { j with lost := j.lost.filter (fun r => r ≠ s.partner) })
  let s := s.upDom d (fun x => { x with steps := x.steps.map (fun r => { r with equal := true }) })
  (s.job.steps.map (·.n)).foldl (fun s n => s.declareJobClear d n) s

end Sys2Proof.Machine
end

