-- ==== Sys2Proof/Machine/Scans.lean ====
section
/-! DEFINITION. Memory scan engines and digest passes (R168 to R177): the fields of a digest record, PC2's scheduling of
passes, and the passes that a fill or a moved logical core abandons. -/

namespace Sys2Proof.Machine

/-- The content in force of an entry: a staged change is not, while a domain waits for its boundary (R46). -/
def State.inForceContent (s : State) (k : Nat) : Bytes :=
  match s.staged.find? (fun x => x.key == k) with
  | some x => x.oldCont
  | none => s.content k

/-! ### Digest records -/

def recDom (b : Bytes) : Nat := fieldAt b 8 1

def recMode (b : Bytes) : Nat := fieldAt b 9 1

def recCore (b : Bytes) : Nat := fieldAt b 0xA 2

def recPeriod (b : Bytes) : Nat := fieldAt b 0xC 2

def recOffset (b : Bytes) : Nat := fieldAt b 0x10 4

def recLength (b : Bytes) : Nat := fieldAt b 0x14 4

def recGolden (b : Bytes) : Nat := fieldAt b 0x18 8

/-- A digest record that applies (R173). -/
def State.digestRec (s : State) (r : DigestNo) : Bytes := s.inForceContent (digestKey r.val)

def Digest.fresh : Digest := { due := false, engine := none, start := 0, startStep := 0, saved := none, confirming := none }

def State.digest (s : State) (r : DigestNo) : Digest := tabGet Digest.fresh s.digests r.val

def State.setDigest (s : State) (r : DigestNo) (x : Digest) : State :=
  { s with digests := tabPut Digest.fresh s.digests r.val x }

def State.upDigest (s : State) (r : DigestNo) (f : Digest → Digest) : State := s.setDigest r (f (s.digest r))

/-- Digest records with a standing of their own, in ascending order. -/
def State.knownDigests (s : State) : List DigestNo :=
  s.digests.filterMap (fun p => if h : p.1 < 2048 then some ⟨p.1, h⟩ else none)

/-- The physical core whose slice a record's region lies in. -/
def State.digestSlice (s : State) (r : DigestNo) : Option PCore :=
  let k := recCore (s.digestRec r)
  if h : k < 576 then s.physOf ⟨k, h⟩ else none

/-- The step domain a record names. -/
def recDomain (b : Bytes) : Dom := ⟨recDom b % 8, Nat.mod_lt _ (by decide)⟩

/-! ### Engines -/

def State.scanState (s : State) (m : MseNo) : Nat := s.nat (mseKey m 6)

/-- The physical core of the slice an engine is set to. -/
def State.scanSlice (s : State) (m : MseNo) : Nat := bits (s.nat (mseKey m 1)) 41 32

/-- PC2 schedules the engine for digest passes (R172). -/
def State.pcOwned (s : State) (m : MseNo) : Bool := decide (m.val < 24 - s.nat (key 0x2300 8))

/-- Units of a kind that are retired: the Attic's that were not released before the last cold start, and those retired since,
also where a full Attic took no entry (R200, R201). -/
def State.atticHas (s : State) (kind unit : Nat) : Bool := (kind, unit) ∈ s.holes

/-- A retired scan engine: PC2 schedules nothing on it, and its controls are refused (R278). -/
def State.scanRetired (s : State) (m : MseNo) : Bool := s.atticHas 4 m.val

def allMses : List MseNo := List.finRange 24

/-- The engine runs no pass and holds none paused. -/
def State.scanFree (s : State) (m : MseNo) : Bool := s.scanState m != 1 && s.scanState m != 2

/-- The slice can be scanned: it is filled, and no refill of it is under way (R160, R172, R190). -/
def State.scannable (s : State) (c : PCore) : Bool :=
  s.get (coreKey c 0x97) == 2 &&
    !allDoms.any (fun d => (s.dom d).sparings.any (fun p => p.repl == some c && p.phase != 5))

/-- The domain of the logical core whose slice is read has its step disturbed (R209 bit 7). -/
def State.scanDisturbs (s : State) (c : PCore) : State := s.disturbCore c 7

/-- A pass of record r begins, or goes on where it was preempted, on engine m over the slice of c. -/
def State.startPass (s : State) (r : DigestNo) (m : MseNo) (c : PCore) : State :=
  let b := s.digestRec r
  let x := s.digest r
  let s := s.putN (mseKey m 1) (c.val * 2 ^ 32 + recOffset b)
  let s := s.putN (mseKey m 2) (recLength b)
  let s := match x.saved with
    | some v => (s.put (mseKey m 3) v.1).put (mseKey m 4) v.2
    | none => (s.putN (mseKey m 3) 0).putN (mseKey m 4) 0
  let s := (s.putN (mseKey m 6) 1).putN (mseKey m 7) r.val
  let x : Digest := { x with
    due := false
    engine := some m
    start := if x.saved.isSome then x.start else s.now
    startStep := if x.saved.isSome then x.startStep else s.stepOf (recDomain b)
    saved := none }
  ((s.setDigest r x).send (.scan m)).scanDisturbs c

/-- A running pass of another record is preempted: its position and CRC, which the engine holds, are saved (R171). They
are free values: what the engine has folded so far is the slice's content. -/
def State.preempt (s : State) (m : MseNo) : State :=
  let o := s.nat (mseKey m 7)
  let (a, s) := s.fresh
  let (c, s) := s.fresh
  let p : Word := BitVec.ofNat 64 (64 * (a.toNat % (s.nat (mseKey m 2) / 64 + 1)))
  let s := s.bumpBy (mseKey m 8) (p.toNat - s.nat (mseKey m 3))
  let s := (s.putN (mseKey m 6) 2).putN (mseKey m 7) 0xFFFF
  if h : o < 2048 then s.upDigest ⟨o, h⟩ (fun x => { x with engine := none, due := true, saved := some (p, c) }) else s

/-- The engine for a due pass: a free one that PC2 owns; for a confirmation one other than that of the first pass, with a
running pass of no confirmation preempted when none is free (R176). Which of several is the model's choice, the lowest-numbered
(log entry 175). -/
def State.engineFor (s : State) (r : DigestNo) : Option (MseNo × Bool) :=
  let x := s.digest r
  let ok (m : MseNo) : Bool := s.pcOwned m && !s.scanRetired m && x.confirming != some m
  match allMses.find? (fun m => ok m && s.scanFree m) with
  | some m => some (m, false)
  | none =>
    if x.confirming.isNone then none
    else (allMses.find? (fun m => ok m && s.scanState m == 1 &&
      !s.knownDigests.any (fun q => (s.digest q).engine == some m && (s.digest q).confirming.isSome))).map (fun m => (m, true))

/-- Start the pass of a record when it is due, its slice can be scanned and an engine is there; PC2's duties run. -/
def State.tryPass (s : State) (r : DigestNo) : State :=
  let x := s.digest r
  let mode := recMode (s.digestRec r)
  if !x.due || mode = 0 || 3 < mode || x.engine.isSome || !s.dutyRuns 2 then s
  else match s.digestSlice r with
    | some c =>
      if !s.scannable c then s
      else match s.engineFor r with
        | some (m, true) => (s.preempt m).startPass r m c
        | some (m, false) => s.startPass r m c
        | none => s
    | none => s

/-- Start what is due: confirmations first, then the others in order of their numbers. -/
def State.schedulePasses (s : State) : State :=
  let l := s.knownDigests
  let s := (l.filter (fun r => (s.digest r).confirming.isSome)).foldl (fun s r => s.tryPass r) s
  l.foldl (fun s r => s.tryPass r) s

/-- PC2 abandons the pass of a record (R172, R173): the engine stops, and the pass is due again from the beginning when it
is to be restarted. -/
def State.abandonPass (s : State) (r : DigestNo) (again : Bool) : State :=
  let x := s.digest r
  let s := match x.engine with
    | some m => ((s.bump (key 0x2302 9)).putN (mseKey m 6) 4).putN (mseKey m 7) 0xFFFF
    | none => if x.saved.isSome then s.bump (key 0x2302 9) else s
  s.setDigest r { x with due := again, engine := none, saved := none, confirming := if again then x.confirming else none }

/-- Every pass over the slice of c ends: those of digest records begin again later, those of the host's engines read
aborted (R160, R172). -/
def State.abortScans (s : State) (c : PCore) : State :=
  let l := s.knownDigests.filter (fun r => match (s.digest r).engine with
    | some m => s.scanSlice m == c.val
    | none => (s.digest r).saved.isSome && s.digestSlice r == some c)
  let s := l.foldl (fun s r => s.abandonPass r true) s
  let hosts := allMses.filter (fun m => s.scanSlice m == c.val && !s.scanFree m)
  hosts.foldl (fun s m => s.putN (mseKey m 6) 4) s

/-- Passes of the records of logical core k begin again on the slice that now holds it (R172). -/
def State.moveScans (s : State) (k : LCore) : State :=
  let l := s.knownDigests.filter (fun r => recCore (s.digestRec r) == k.val && ((s.digest r).engine.isSome || (s.digest r).saved.isSome))
  l.foldl (fun s r => s.abandonPass r true) s

end Sys2Proof.Machine
end

