-- ==== Sys2Proof/Machine/Floor.lean ====
section
/-! DEFINITION. The floor plan (R182 to R189), the Attic (R200), fencing (R187, R199), sparing (R190 to R198) and the moves of
logical numbers of no active domain (07_floor_plan_and_sparing.md). -/

namespace Sys2Proof.Machine

/-! ### The Attic -/

/-- Attic entry, 48 bytes (R200). -/
def atticEntry (time kind cause unit lc flags d job step lcore count release : Nat) : Bytes :=
  le 8 time ++ le 1 kind ++ le 1 cause ++ le 2 unit ++ le 1 lc ++ le 1 flags ++ le 1 0 ++ le 1 d ++ le 8 job ++
    le 6 step ++ le 2 lcore ++ le 4 count ++ le 4 0 ++ le 8 release

/-- Entry i of the Attic is set; one past the last is added while there is room, for 1,024 entries (R200). -/
def State.setAttic (s : State) (i : Nat) (e : Bytes) : State :=
  { s with attic := if i < s.attic.length then s.attic.set i e else if i < 1024 then s.attic ++ [e] else s.attic }

/-- Retire a unit to the Attic; a full Attic takes no entry and raises "Attic full" (R200). -/
def State.retireUnit (s : State) (e : Bytes) : State × Option Nat :=
  let n := s.attic.length
  let s := { s with holes := s.holes ++ [(fieldAt e 8 1, fieldAt e 0xA 2)] }
  if n < 1024 then
    ((((s.setAttic n e).putN (key 0x1304 1) (n + 1))).configItem 0x107 n e, some n)
  else (s.raise 0x67 0 [], none)

/-- The number of a unit among those of every kind of Attic entry. -/
def unitIndex (kind n : Nat) : Nat := 1024 * (kind - 1) + n

/-- Fences of a unit since manufacture (R200); a release does not end the count (R201). -/
def State.fencesOf (s : State) (kind n : Nat) : Nat := tabGet 0 s.fenceCounts (unitIndex kind n)

/-- One more fence of a unit since manufacture. -/
def State.countFence (s : State) (kind n : Nat) : State :=
  { s with fenceCounts := tabPut 0 s.fenceCounts (unitIndex kind n) (s.fencesOf kind n + 1) }

/-- Retire a unit that is no core, with its Attic entry (R200): it holds no logical core. -/
def State.retireOther (s : State) (kind cause n flags : Nat) : State :=
  let s := s.countFence kind n
  (s.retireUnit (atticEntry s.t kind cause n s.lc flags 0xFF 0 0 0xFFFF (s.fencesOf kind n) 0)).1

/-- Retire a core with its Attic entry (R188): time, cause, life-cycle state, domain, job, step and logical core held. -/
def State.retireCore (s : State) (c : PCore) (cause : Nat) (host : Bool) : State :=
  let d := s.domOfCore c
  let e := atticEntry s.t 1 cause c.val s.lc (2 * bitOf host) (match d with | some d => d.val | none => 0xFF)
    (match d with | some d => (s.jobId d).toNat | none => 0) (match d with | some d => s.stepOf d | none => 0) (s.lcOf c)
    (s.fencesOf 1 c.val) 0
  let (s, i) := s.retireUnit e
  match i with
  | some i => s.putN (coreKey c 0xA3) i
  | none => s.putN (coreKey c 0xA3) 0xFFFF

/-! ### The floor plan -/

def State.setFp (s : State) (c : PCore) (v : Nat) : State := (s.putN (coreKey c 0xA1) v).planChanged 1

/-- Galley states of a core's engines and its proof state. -/
def State.setCoreStates (s : State) (c : PCore) (galley proof : Nat) : State :=
  (allEngines.foldl (fun s e => s.putN (engKey c e 4) galley) s).putN (coreKey c 0x75) proof

/-- Rows plus columns between two cores (07, 'The floor plan'). -/
def distance (a b : PCore) : Nat :=
  let d (x y : Nat) : Nat := max x y - min x y
  d (a.val / 24) (b.val / 24) + d (a.val % 24) (b.val % 24)

/-- A slice is present where its core is neither absent nor held, nor its stack (R5, R154, R182). -/
def State.slicePresent (s : State) (c : PCore) : Bool :=
  s.fp c != 4 && s.fp c != 5 && decide (s.bring.stackSt.getD (stackOf c).val 0 < 2)

/-- Candidates of the first group of R189: reserve cores without a spared role that have passed a specimen run, their slice
present; an isolated one is none (R190). -/
def State.reserveCandidates (s : State) : List PCore :=
  allCores.filter (fun c => s.reserveFree c && (s.probe c).passedSpecimen && s.slicePresent c && s.lcOf c == 0xFFFF)

/-- Candidates of the second group: enabled cores of no active domain, while object 0x1302.03 is 1. -/
def State.idleCandidates (s : State) : List PCore :=
  if s.get (key 0x1302 3) = 1 then
    allCores.filter (fun c => s.fp c == 0 && !(s.probe c).isolating && (s.probe c).passedSpecimen && s.slicePresent c &&
      s.lcOf c != 0xFFFF && (s.domOfCore c).isNone)
  else []

/-- The nearest of the candidates, and among equal distances the lowest physical number. -/
def nearest (l : List PCore) (p : PCore) : Option PCore :=
  l.foldl (fun b c => match b with
    | some b => if distance c p < distance b p then some c else some b
    | none => some c) none

/-- The replacement for a fenced core (R189). -/
def State.replacement (s : State) (p : PCore) : Option PCore :=
  match nearest s.reserveCandidates p with
  | some c => some c
  | none => nearest s.idleCandidates p

/-- Logical number k moves to core q, which holds a spared role when it was a reserve core (R190); k leaves its core. The
number of a core of the second group moves to the fenced core p and waits there (R189). -/
def State.moveNumber (s : State) (k : LCore) (p q : PCore) : State :=
  let m := s.lcOf q
  let s := s.putN (coreKey p 0xA2) m
  let s := s.putN (coreKey q 0xA2) k.val
  let s : State := if h : m < 576 then { s with idleMoves := s.idleMoves ++ [⟨m, h⟩] } else s
  let s := if s.fp q = 1 then s.upProbe q (fun x => { x with spared := true }) else s
  let s := ((s.planChanged 1).bump (key 0x1301 2)).put (key 0x1301 3) s.now
  s.moveScans k

/-! ### Records of sparing (R205) -/

/-- Sparing record, 48 bytes. -/
def sparingRecord (at_ T target d outcome : Nat) (fenced : Nat) (repl k cause sources bytes attic : Nat) : Bytes :=
  le 8 at_ ++ le 8 T ++ le 6 target ++ le 1 d ++ le 1 outcome ++ le 2 fenced ++ le 2 repl ++ le 2 k ++ le 1 cause ++
    le 1 sources ++ le 8 bytes ++ le 4 attic ++ le 4 0

/-- The record of one fence of a domain's sparing. A replacement fenced during it shares the outcome of the move that it
was to serve. -/
def State.sparingOutcome (s : State) (d : Dom) (m : Sparing) (outcome T : Nat) : Bytes :=
  let main := match m.of_ with
    | some p => ((s.dom d).sparings.find? (fun (x : Sparing) => x.fenced == p && x.of_.isNone)).getD m
    | none => m
  sparingRecord m.at_.toNat T (before (s.dom d).base) d.val outcome m.fenced.val
    (match main.repl with | some q => q.val | none => 0xFFFF) (if main.repl.isSome then m.k.val else 0xFFFF) m.cause
    main.sources.toNat main.bytes (m.attic.getD 0xFFFFFFFF)

/-- An outcome of the fences that p names: object 0x1302.08 shows it, and "core fenced" is raised for each once. -/
def State.outcomes (s : State) (d : Dom) (outcome T : Nat) (p : Sparing → Bool) : State :=
  ((s.dom d).sparings.filter p).foldl (fun s m =>
    let b := s.sparingOutcome d m outcome T
    let s := s.setContent (key 0x1302 8) b
    if m.raised then s
    else
      let s := s.raiseWith 0x60 m.fenced.val b false
      s.upDom d (fun x => { x with sparings := x.sparings.map (fun y =>
        if y.fenced = m.fenced ∧ y.at_ = m.at_ then { y with raised := true } else y) })) s

/-! ### Sparing -/

/-- State of a domain's sparing (07, codes of object 0x1302.06). -/
def State.sparingState (s : State) (d : Dom) : Nat :=
  let x := s.dom d
  if x.sparings.isEmpty then 0
  else if x.poison.isSome then 9
  else if x.sparingWaits || x.walk || !x.suspended then 1
  else match x.sparings.find? (fun p => p.of_.isNone && p.phase != 5) with
    | some p => [1, 2, 2, 3, 4, 5, 6, 7, 8].getD p.phase 0
    | none => 5

def State.showSparing (s : State) (d : Dom) : State := s.putN (domKey 0x1302 0x10 d) (s.sparingState d)

/-- Change the sparing of the fence of core p. -/
def State.upSparing (s : State) (d : Dom) (p : PCore) (f : Sparing → Sparing) : State :=
  s.upDom d (fun x => { x with sparings := x.sparings.map (fun y => if y.fenced = p && y.of_.isNone then f y else y) })

/-- Command the fill of a slice (R159): scans of it end (R160), and a trace kept there stops (R300). -/
def State.fillSlice (s : State) (c : PCore) : State :=
  let s := (s.abortScans c).putN (coreKey c 0x97) 1
  let s := if s.get (key 0x2701 8) == 1 && bits (s.nat (key 0x2701 2)) 41 32 == c.val then s.putN (key 0x2701 8) 3 else s
  s.send (.fill c)

/-- Issue a specimen run on a core (R129, R133). -/
def State.issueRun (s : State) (r : Run) : State :=
  let c := r.core
  let n := s.nextRun
  let s : State := { s with runs := s.runs.filter (fun (x : Run) => x.core != c) ++ [{ r with id := n, under := s.belowTrim c }], nextRun := n + 1 }
  let s := (s.send (.specimen c n)).disturbCore c 5
  s.arm (.specimenTimeout c []) (us (s.nat (key 0x2200 3)))

/-- The first run of a core for one of the reasons of Run.why. -/
def State.issueSpecimen (s : State) (c : PCore) (why : Nat) : State :=
  s.issueRun { core := c, id := 0, again := false, timedOut := false, failed := [], missed := [], under := false, why := why }

/-- A claim on a pool core by a sparing: a probe ends first, its proofs as neither passed nor failed, and the core is handed
over when its regulator has settled (R141); other proofs end as lost, runs without an outcome, a regeneration run with
status 5 (R187, R214). -/
def State.claimCore (s : State) (c : PCore) : State := ((((s.endProbe c).loseProofsOn c).endRuns c).dropRegenOn c)

/-- A fence or a self-test takes a core (R187 steps 2 and 3 in their order, R276): its proofs end as lost, then its runs and its
probe, and a regeneration run with status 5. -/
def State.takeCore (s : State) (c : PCore) : State := (((s.loseProofsOn c).endRuns c).endProbe c).dropRegenOn c

/-- Entries of a refill plan that apply to logical core k, with an empty plan as one salvage entry of the whole slice up to
the reserved ranges (R191). -/
def State.refillEntries (s : State) (d : Dom) (k : LCore) : List Bytes :=
  let plan := s.content (domKey 0x1306 1 d)
  let all := pieces 32 64 plan
  let live := all.filter (fun e => fieldAt e 2 1 != 0)
  if live.isEmpty then
    [le 2 0xFFFF ++ le 1 1 ++ le 1 0 ++ le 4 0 ++ le 2 0 ++ le 2 0 ++ le 4 0 ++
      le 4 (2 ^ 30 - s.nat (key 0x2102 6) * 2 ^ 20 - 256 * 1024) ++ le 4 0 ++ le 8 0]
  else live.filter (fun e => fieldAt e 0 2 == 0xFFFF || fieldAt e 0 2 == k.val)

/-- The entries that Phory carries out itself, in order, and those of the host (R193). -/
def ownEntries (l : List Bytes) : List Bytes := l.filter (fun e => fieldAt e 2 1 != 4)

def hostEntries (l : List Bytes) : List Bytes := l.filter (fun e => fieldAt e 2 1 == 4)

/-- The refill of a sparing fails (R194). -/
def State.refillFailed (s : State) (d : Dom) (p : PCore) : State :=
  let s := s.upSparing d p (fun y => { y with phase := 8 })
  let s := (s.disarm (.refillTimeout d)).disarm (.hostRefillTimeout d)
  let s := s.outcomes d 3 0 (fun y => y.fenced == p || y.of_ == some p)
  (s.raise 0x65 d.val (s.content (key 0x1302 8))).showSparing d

/-- Every fence of the sparing is served: the domain's restart is armed (R190, R386), or the steward is told. -/
def State.restartSpared (s : State) (d : Dom) : State :=
  let s := s.showSparing d
  if !s.multi d then s.phoryArm d
  else if s.role = 2 then (s.upJob (fun j => { j with waitSparing := j.waitSparing.filter (fun r => r ≠ s.rank) })).stewardArm d
  else s.toSteward (.sparingComplete d)

/-- The fill of the replacement begins. -/
def State.beginFill (s : State) (d : Dom) (p q : PCore) : State :=
  ((s.upSparing d p (fun y => { y with phase := 2, entry := 0, bytes := 0, sources := 0 })).fillSlice q).showSparing d

/-- A freeze of the fenced core or of the replacement holds a sparing where it stands (R198). -/
def State.holdsSparing (s : State) (p : Sparing) : Bool :=
  s.frz.on && (decide (p.fenced ∈ s.frz.cores) || p.repl.any (fun c => c ∈ s.frz.cores))

/-- A fence whose core was unfenced with its number kept needs no replacement any more (R195, R199): it is served. -/
def State.serveRestored (s : State) (d : Dom) : State :=
  s.upDom d (fun x => { x with sparings := x.sparings.map (fun (y : Sparing) =>
    if y.of_.isNone && y.repl.isNone && s.fp y.fenced == 0 && s.lcOf y.fenced == y.k.val then { y with phase := 5 } else y) })

/-- The next fence of a suspended domain's sparing takes its replacement (R189, R190), in ascending physical number; with
none there it awaits a reserve (R195). With every fence served the domain restarts. -/
def State.sparingNext (s : State) (d : Dom) : State :=
  let s := s.serveRestored d
  let x := s.dom d
  if !x.active || x.sparings.isEmpty || x.poison.isSome || x.sparingWaits || x.walk || !x.suspended ||
      x.sparings.any s.holdsSparing then s.showSparing d
  else
    let main := x.sparings.filter (fun p => p.of_.isNone)
    if main.any (fun p => p.phase == 1 || p.phase == 2 || p.phase == 3 || p.phase == 4 || p.phase == 7 || p.phase == 8) then
      s.showSparing d
    else
      let wait := main.filter (fun p => p.phase == 0 || p.phase == 6)
      match wait.foldl (fun b p => match b with
          | some (b : Sparing) => if p.fenced.val < b.fenced.val then some p else some b
          | none => some p) none with
      | none => s.restartSpared d
      | some p =>
        match s.replacement p.fenced with
        | some q =>
          let probed := (s.probing? q).isSome
          let s := s.claimCore q
          let s := s.moveNumber p.k p.fenced q
          let s := s.upSparing d p.fenced (fun y => { y with repl := some q, phase := 1 })
          let s := s.priorityProof d p.k
          if probed then s.showSparing d else s.beginFill d p.fenced q
        | none =>
          if p.phase = 6 then s.showSparing d
          else
            let s := s.upSparing d p.fenced (fun y => { y with phase := 6 })
            let s := s.outcomes d 2 0 (fun y => y.fenced == p.fenced || y.of_ == some p.fenced)
            (s.raise 0x64 d.val (s.content (key 0x1302 8))).showSparing d

/-- The refill of a replacement goes on: the next entry of Phory's own, then the host's, then the sparing is served (R191 to
R193). A salvage of a slice that is absent or not filled fails (R192). A freeze of one of its cores holds it (R198). -/
def State.refillStep (s : State) (d : Dom) (p : PCore) : State :=
  match (s.dom d).sparings.find? (fun y => y.fenced == p && y.of_.isNone) with
  | none => s
  | some y =>
    if s.holdsSparing y then (s.upSparing d p (fun y => { y with phase := 4 })).showSparing d else
    let l := s.refillEntries d y.k
    let own := ownEntries l
    match own[y.entry]? with
    | some e =>
      if fieldAt e 2 1 = 1 ∧ !(s.slicePresent p && s.get (coreKey p 0x97) == 2) then s.refillFailed d p
      else
        let s := s.upSparing d p (fun y => { y with phase := 4 })
        ((s.send (.refill d y.entry)).arm (.refillTimeout d) (ms (s.nat (key 0x1302 4)))).showSparing d
    | none =>
      if y.entry = own.length ∧ !(hostEntries l).isEmpty then
        let s := s.upSparing d p (fun y => { y with phase := 7, entry := y.entry + 1 })
        let s := s.arm (.hostRefillTimeout d) (ms (s.nat (key 0x1302 5)))
        ((s.raise 0x62 d.val []).showSparing d)
      else ((s.upSparing d p (fun y => { y with phase := 5 })).schedulePasses).sparingNext d

/-- A sparing that a freeze held goes on after the release (R198): the fill of a replacement handed over meanwhile, a refill of
which no entry is under way, else the choice of the next replacement. -/
def State.resumeSparing (s : State) (d : Dom) : State :=
  match (s.dom d).sparings.find? (fun y => y.of_.isNone && (y.phase == 4 || y.phase == 1)) with
  | some y =>
    if s.holdsSparing y then s
    else if y.phase = 4 then (if s.armed (.refillTimeout d) then s else s.refillStep d y.fenced)
    else match y.repl with
      | some q => if (s.probing? q).isSome then s else s.beginFill d y.fenced q
      | none => s
  | none => s.sparingNext d

/-- The sparing of a domain is over (R190, R194, R317): its timeouts and entries go. -/
def State.endSparing (s : State) (d : Dom) : State :=
  let s := (s.disarm (.refillTimeout d)).disarm (.hostRefillTimeout d)
  (s.upDom d (fun x => { x with sparings := [], sparingWaits := false })).showSparing d

/-- The job of a domain under sparing is ended by the host (outcome 4). -/
def State.dropSparing (s : State) (d : Dom) : State :=
  if (s.dom d).sparings.isEmpty then s else (s.outcomes d 4 0 (fun _ => true)).endSparing d

/-- The logical number of a sparing moves back from a replacement that is lost to it (R190, R197). -/
def State.moveBack (s : State) (d : Dom) (p q : PCore) (k : LCore) : State :=
  let s := s.putN (coreKey q 0xA2) (s.lcOf p)
  let s := (s.putN (coreKey p 0xA2) k.val).upProbe q (fun x => { x with spared := false })
  let s := (((s.planChanged 1).bump (key 0x1301 2)).put (key 0x1301 3) s.now).moveScans k
  let s := (s.disarm (.refillTimeout d)).disarm (.hostRefillTimeout d)
  s.upSparing d p (fun y => { y with repl := none, phase := 0, entry := 0, bytes := 0, sources := 0 })

/-! ### Numbers of no active domain -/

/-- The core that takes a number of no active domain is filled and then admitted (R187 step 5). -/
def State.fillIdle (s : State) (c : PCore) : State :=
  { s with idleFills := s.idleFills.filter (fun x => x ≠ c) ++ [c] }.fillSlice c

/-- A core takes a number of no active domain from core p (R187 step 5, R189); one that was margin probing is filled only when
it is handed over (R141). -/
def State.takeIdle (s : State) (k : LCore) (p q : PCore) : State :=
  let probed := (s.probing? q).isSome
  let s := (s.claimCore q).moveNumber k p q
  if probed then { s with idleWaits := s.idleWaits.filter (fun x => x ≠ q) ++ [q] } else s.fillIdle q

/-- Numbers that wait on a fenced core move to a reserve core as soon as one is there (R187 step 5, R189): it is filled and
admitted, and no refill follows. -/
def State.moveIdle (s : State) : State :=
  s.idleMoves.foldl (fun s k =>
    match s.physOf k with
    | some p =>
      match nearest s.reserveCandidates p with
      | some q =>
        let s := { s with idleMoves := s.idleMoves.filter (fun j => j ≠ k) }
        s.takeIdle k p q
      | none => s
    | none => s) s

/-! ### Fencing -/

/-- Phory's own fences within the last 86,400 s. -/
def State.recentFences (s : State) : Nat := (s.fences.filter (fun t => decide (s.t < t + sec 86400))).length

/-- A fence that Phory makes on its own is within its limits (R199); one that joins a sparing starts none. -/
def State.mayFence (s : State) (c : PCore) : Bool :=
  decide (s.recentFences < s.nat (key 0x1302 2)) &&
    (s.get (key 0x1302 1) == 1 || (match s.domOfCore c with
      | some d => !(s.dom d).sparings.isEmpty
      | none => true))

/-- The arm of a restart is cancelled by a fence (R197, R51): against a T that has come the cancel wins, a near miss between
Phory's own units. -/
def State.cancelRestart (s : State) (d : Dom) : State :=
  let c : Instr := .startTimeReached (BitVec.ofNat 64 (s.armOf d))
  (if s.armOf d ≠ 0 ∧ s.due c then s.nearMiss 6 c else s).dropArm d

/-- Every fence of the sparing is served, so that its domain's restart was armed or reported (R190). -/
def DomSt.spared (x : DomSt) : Bool := x.sparings.all (fun p => p.of_.isSome || p.phase == 5)

/-- A fence starts a sparing, or joins one whose restart was armed already: the job is rolled back, by the steward where there
is one (R190, R197). -/
def State.beginSparing (s : State) (d : Dom) : State :=
  let x := s.dom d
  if x.poison.isSome then s.showSparing d
  else if !s.multi d then ((s.cancelRestart d).rollbackHere d x.base).sparingNext d
  else if s.role = 2 then
    let s := s.supersedeNarrow.upJob (fun j => { j with waitSparing := j.waitSparing.filter (fun r => r ≠ s.rank) ++ [s.rank] })
    ((s.cancelRestart d).jobRollback d x.base).sparingNext d
  else
    let s := (s.cancelRestart d).upDom d (fun x => { x with sparingWaits := true })
    (s.toSteward (.failure d .sparing)).showSparing d

/-- The sparing that a fence of core c in an active domain starts or joins (R187 step 5, R190, R197, R198). -/
def State.joinSparing (s : State) (d : Dom) (c : PCore) (k : LCore) (cause : Nat) (attic : Option Nat) : State :=
  let x := s.dom d
  let y : Sparing := { fenced := c, of_ := none, k := k, repl := none, at_ := s.now, cause := cause, attic := attic,
                       raised := false, phase := 0, entry := 0, bytes := 0, sources := 0 }
  match x.sparings.find? (fun p => p.of_.isNone && p.repl == some c) with
  | some p =>
    -- the replacement itself: back to the choice
    let again := x.spared
    let s := s.upDom d (fun x => { x with sparings := x.sparings ++ [{ y with of_ := some p.fenced }] })
    let s := (s.cancelRestart d).moveBack d p.fenced c p.k
    if again then s.beginSparing d else s.sparingNext d
  | none =>
    let again := x.spared
    let s := s.upDom d (fun x => { x with sparings := x.sparings ++ [y] })
    if again then s.beginSparing d else s.sparingNext d

/-- A fence of a core that holds no number of an active domain (R187 step 5): its number moves at once to a reserve core,
filled and admitted, or waits; the outcome is 5. -/
def State.idleFence (s : State) (c : PCore) (cause : Nat) (attic : Option Nat) : State :=
  let at_ := s.t
  let n := s.lcOf c
  if h : n < 576 then
    let k : LCore := ⟨n, h⟩
    match s.replacement c with
    | some q =>
      let s := s.takeIdle k c q
      let b := sparingRecord at_ 0 (2 ^ 48 - 1) 0xFF 5 c.val q.val n cause 0 0 (attic.getD 0xFFFFFFFF)
      (s.setContent (key 0x1302 8) b).raiseWith 0x60 c.val b false
    | none =>
      let s := { s with idleMoves := s.idleMoves ++ [k] }
      let b := sparingRecord at_ 0 (2 ^ 48 - 1) 0xFF 5 c.val 0xFFFF 0xFFFF cause 0 0 (attic.getD 0xFFFFFFFF)
      (s.setContent (key 0x1302 8) b).raiseWith 0x60 c.val b false
  else
    let b := sparingRecord at_ 0 (2 ^ 48 - 1) 0xFF 5 c.val 0xFFFF 0xFFFF cause 0 0 (attic.getD 0xFFFFFFFF)
    (s.setContent (key 0x1302 8) b).raiseWith 0x60 c.val b false

/-- Steps 1 to 4 of a fence (R187): the core is isolated, its proofs end as lost, its runs and its probe end, and it reads
fenced or retired. -/
def State.fenceSteps (s : State) (c : PCore) (cause : Nat) (host retire : Bool) : State :=
  let s := ((s.isolateCore c).takeCore c).countFence 1 c.val
  let s : State := { s with
    test := { s.test with awaiting := s.test.awaiting.filter (fun x => x.1 ≠ c) }
    idleFills := s.idleFills.filter (fun x => x ≠ c), idleWaits := s.idleWaits.filter (fun x => x ≠ c) }
  let s := if retire then s.retireCore c cause host else s
  let s := s.upProbe c (fun p => { p with spared := false, passedSpecimen := false })
  (s.setFp c (if retire then 3 else 2)).setCoreStates c 3 3

/-- Fence a core (R187). -/
def State.fence (s : State) (c : PCore) (cause : Nat) (host retire : Bool) : State :=
  let n := s.lcOf c
  let d := s.domOfCore c
  let s := s.fenceSteps c cause host retire
  let idx := s.nat (coreKey c 0xA3)
  let attic := if retire && idx != 0xFFFF then some idx else none
  match d with
  | some d => if h : n < 576 then s.joinSparing d c ⟨n, h⟩ cause attic else s
  | none => s.idleFence c cause attic

/-- A core that can be fenced: present, and not fenced already; a held one by a stack request alone (R282). -/
def State.fenceable (s : State) (c : PCore) : Bool := s.fp c == 0 || s.fp c == 1 || s.fp c == 5 || s.fp c == 6

/-- The fence that a rule of an earlier chapter ends in: made within the limits of R199, else "fence limit reached" is
raised. The Bool says whether it was made. -/
def State.fenceAuto (s : State) (c : PCore) (cause : Nat) : State × Bool :=
  if !s.fenceable c then (s, false)
  else if s.mayFence c then
    ({ s with fences := s.fences.filter (fun t => decide (s.t < t + sec 86400)) ++ [s.t] }.fence c cause false true, true)
  else (s.raise 0x61 0 [], false)

/-- A replacement whose specimen run did not pass (R190): it is fenced, or isolated where R199 forbids the fence; the
sparing chooses again. -/
def State.replacementFailed (s : State) (d : Dom) (p q : PCore) (k : LCore) : State :=
  if s.mayFence q then (s.fenceAuto q 3).1
  else
    let s := (s.fenceAuto q 3).1
    let s := s.isolateCore q
    let s := allEngines.foldl (fun s e => s.putN (engKey q e 4) 2) s
    (s.moveBack d p q k).sparingNext d

/-- Candidates may have appeared (R189, R195): waiting numbers and awaiting sparings try again, the sparings while object
0x1302.01 is 1. -/
def State.candidatesAppear (s : State) : State :=
  let s := if s.get (key 0x1302 1) = 1 then
      allDoms.foldl (fun s d => if s.sparingState d = 6 then s.sparingNext d else s) s
    else s
  if s.idleMoves.isEmpty then s else s.moveIdle

end Sys2Proof.Machine
end

