-- ==== Sys2Proof/Machine/Suspects.lean ====
section
/-! DEFINITION. Galley mismatches and what they do (R80 to R84, R94, R114, R131), suspect accounting, proof failures with
their cone and suspect report (R115 to R122, R128), and what the steward does on a failure of a rank (R113, R120, R125). -/

namespace Sys2Proof.Machine

/-! ### Suspect accounting (R80, R81, R117) -/

/-- Number of an engine as an instance of its sources (R225). -/
def engineInstance (c : PCore) (e : EngineNo) : Nat := 7 * c.val + e.val

/-- Keys of suspect entries: a step of a domain; a proof or revise in place of its step (R94); a cross-core run (R136); a
regeneration run; a forced raise in no domain, by its grant (R84). -/
def stepEntry (d : Dom) (n : Nat) : Nat := d.val * 2 ^ 48 + n

def proofEntry (d : Dom) (k : LCore) (n : Nat) : Nat := 2 ^ 70 + k.val * 2 ^ 52 + stepEntry d n

def runEntry (r : Nat) : Nat := 2 ^ 80 + r

def regenEntry (t : Nat) : Nat := 2 ^ 81 + t

def forcedEntry (t : Nat) : Nat := 2 ^ 82 + t

/-- The galley state of an engine reads v, unless it is fenced. -/
def State.setGalley (s : State) (c : PCore) (e : EngineNo) (v : Nat) : State :=
  if s.get (engKey c e 4) == 3 then s else s.putN (engKey c e 4) v

/-- One more entry (i, k) at this moment; one with that key stands once. Entries of i older than the window w go. -/
def addEntry (l : List (Nat × Nat × Nat)) (i k now w : Nat) : List (Nat × Nat × Nat) :=
  let l := if l.any (fun x => x.1 == i && x.2.1 == k) then l else l ++ [(i, k, now)]
  l.filter (fun x => x.1 != i || decide (now ≤ x.2.2 + w))

/-- Entries of i. -/
def countEntries (l : List (Nat × Nat × Nat)) (i : Nat) : Nat := (l.filter (fun x => x.1 == i)).length

/-- The core is fenced for a cause within the limits of R199, while object 0x2000.09 is 1; whether it was. -/
def State.fenceIfOn (s : State) (d : Option Dom) (c : PCore) (cause : Nat) : State × Bool :=
  if s.valOf d (key 0x2000 9) = 1 then s.fenceAuto c cause else (s, false)

/-- The engine's core is fenced, or the engine's state reads "fence requested" (R81, R83, R132). -/
def State.fenceEngine (s : State) (d : Option Dom) (c : PCore) (e : EngineNo) (cause : Nat) : State :=
  let (s, done) := s.fenceIfOn d c cause
  if done then s else s.setGalley c e 2

/-- The sweep of suspect entries runs at every whole second while an engine or a core is suspect (R80). -/
def State.armSweep (s : State) : State :=
  if s.armed .suspectSweep then s else s.armAt .suspectSweep ((s.t / sec 1 + 1) * sec 1)

/-- One suspect step of an engine (R80, R81). -/
def State.chargeEngine (s : State) (d : Option Dom) (c : PCore) (e : EngineNo) (k cause : Nat) : State :=
  let i := engineInstance c e
  let s : State := { s with suspects := addEntry s.suspects i k s.t (sec (s.valOf d (key 0x2000 8))) }
  if s.valOf d (key 0x2000 7) ≤ countEntries s.suspects i then s.fenceEngine d c e cause
  else (s.setGalley c e 1).armSweep

/-- One proof suspect step of a core (R115, R117). -/
def State.chargeProof (s : State) (d : Dom) (c : PCore) (n : Nat) : State :=
  let s : State :=
    { s with proofSuspects := addEntry s.proofSuspects c.val (stepEntry d n) s.t (sec (s.natFor d (key 0x2000 8))) }
  if s.natFor d (key 0x2102 3) ≤ countEntries s.proofSuspects c.val then
    let (s, done) := s.fenceIfOn (some d) c 2
    if done || s.get (coreKey c 0x75) == 3 then s else s.putN (coreKey c 0x75) 2
  else if s.get (coreKey c 0x75) == 3 then s else (s.putN (coreKey c 0x75) 1).armSweep

/-! ### Reports to the steward and taints (R120, R125) -/

/-- The step from which a report taints a rank: the one it is listed with, or that of every rank, whichever is earlier
(R119). -/
def taintStep (ranks : List (Rank × Nat)) (many : Option Nat) (r : Rank) : Option Nat :=
  match ranks.find? (fun p => p.1 == r), many with
  | some p, some t => some (min p.2 t)
  | some p, none => some p.2
  | none, m => m

/-- The steward tells the marked ranks of a taint; `src` is the chip that reported it. -/
def State.carryTaints (s : State) (d : Dom) (src : Rank) (ranks : List (Rank × Nat)) (many : Option Nat) : State :=
  let listed := ranks.map (·.1)
  let all := listed ++ (if many.isSome then s.jobRanks.filter (fun r => r ≠ src && r ∉ listed) else [])
  s.sendAll ((all.filter (fun r => r ≠ s.rank)).filterMap (fun r =>
    (taintStep ranks many r).map (fun t => .frame r (.taint d t))))

/-- First tainted step of a core, if any. -/
def taintOf (l : List (LCore × Nat)) (k : LCore) : Option Nat := (l.find? (fun p => p.1 == k)).map (·.2)

/-- Core k tainted from step t at the latest. -/
def addTaint (l : List (LCore × Nat)) (k : LCore) (t : Nat) : List (LCore × Nat) :=
  match taintOf l k with
  | some v => if t < v then l.map (fun p => if p.1 = k then (k, t) else p) else l
  | none => l ++ [(k, t)]

/-- One pass over the reach records of a step (R119). -/
def conePass (r : StepRec) (l : List (LCore × Nat)) : List (LCore × Nat) :=
  r.cores.foldl (fun l a =>
    if (taintOf l a.k).any (fun v => decide (v ≤ r.n)) then a.reach.foldl (fun l b => addTaint l b r.n) l else l) l

/-- Passes until one changes nothing; each that changes something adds a core. -/
def coneStep (r : StepRec) : Nat → List (LCore × Nat) → List (LCore × Nat)
  | 0, l => l
  | fuel + 1, l =>
    let m := conePass r l
    if m = l then l else coneStep r fuel m

/-- A downstream cone: first tainted steps of the cores and of the ranks reached, and the step from which every rank of the
job is (R119). -/
structure Cone where
  cores : List (LCore × Nat)
  ranks : List (Rank × Nat)
  many : Option Nat
  deriving DecidableEq, Repr

/-- The ranks that the tainted cores of a step sent to. -/
def coneRanks (r : StepRec) (c : Cone) : Cone :=
  if r.cores.any (fun a => a.sentOther && (taintOf c.cores a.k).any (fun v => decide (v ≤ r.n))) then
    if r.many then { c with many := some (match c.many with | some t => min t r.n | none => r.n) }
    else { c with ranks := r.ranks.foldl (fun l q => if l.any (fun p => p.1 == q) then l else l ++ [(q, r.n)]) c.ranks }
  else c

/-- The cone from its first cores, over the records of the steps from `first` to `last` in step order. -/
def coneOf (steps : List StepRec) (first last : Nat) (start : List (LCore × Nat)) : Cone :=
  let l := (steps.filter (fun r => !r.discarded && decide (first ≤ r.n) && decide (r.n ≤ last)))
  l.foldl (fun c r => coneRanks r { c with cores := coneStep r 600 c.cores }) { cores := start, ranks := [], many := none }

/-- Egress units that a core released in its tainted steps. -/
def egressOf (x : DomSt) (k : LCore) (t : Nat) : Nat :=
  match x.releasedStep with
  | some r =>
    (x.steps.map (fun q => if t ≤ q.n ∧ q.n ≤ r ∧ !q.discarded then
      (match q.core? k with | some c => c.egress | none => 0) else 0)).sum
  | none => 0

/-- The suspect report (R121): cause 1 confirmed, 2 unresolved, 3 remote taint. It has room for 64 ranks (object 0x2106.02). -/
def State.suspectReport (s : State) (d : Dom) (cause : Nat) (origin : Nat) (first last : Nat) (flags : Nat) (c : Cone)
    (rank : Rank) : Bytes :=
  let x := s.dom d
  let cores := (List.finRange 576).filterMap (fun k => (taintOf c.cores k).map (fun t => (k, t)))
  let many := c.many.isSome || decide (64 < c.ranks.length)
  let flags := flags + (if many then 4 else 0)
  le 4 (s.nat (key 0x2106 1) + 1) ++ le 1 d.val ++ le 1 cause ++ le 2 origin ++ le 8 (s.jobId d).toNat ++ le 6 first ++
    le 6 last ++ le 4 rank.toNat ++ le 6 (before x.base) ++ le 1 flags ++ le 1 0 ++ le 8 s.t ++ le 4 cores.length ++
    le 4 (if many then 0xFFFFFFFF else c.ranks.length) ++
    le 6 (match x.releasedStep with | some r => r | none => 2 ^ 48 - 1) ++ le 2 0 ++
    cores.flatMap (fun p => le 2 0 ++ le 6 p.2 ++ le 4 p.1.val ++ le 4 (egressOf x p.1 p.2)) ++
    (if many then [] else c.ranks.flatMap (fun p => le 2 1 ++ le 6 p.2 ++ le 4 p.1.toNat ++ le 4 0))

/-- A report is the last one: its number counts, object 0x2106.02 holds it. -/
def State.keepReport (s : State) (b : Bytes) : State := (s.bump (key 0x2106 1)).setContent (key 0x2106 2) b

/-- The chip learns from the steward that it is tainted from step t (R120): every core that received from another chip in
that step is. Its report shows the chip's own rank as the origin (log entry 170). -/
def State.remoteTaintHere (s : State) (d : Dom) (t : Nat) : State :=
  let x := s.dom d
  let last := s.runningStep d
  let incomplete := decide (80 < last - t)
  let start : List (LCore × Nat) :=
    if incomplete then x.cores.map (fun k => (k, t))
    else match x.step? t with
      | some r => (r.cores.filter (·.recvOther)).map (fun c => (c.k, t))
      | none => []
  let c := coneOf x.steps t last start
  let c := { c with ranks := c.ranks.filter (fun p => p.1 ≠ s.rank) }
  let b := s.suspectReport d 3 0xFFFF t last (bitOf incomplete) c s.rank
  let s := (s.keepReport b).raise 0x32 d.val b
  if s.role = 2 then s.carryTaints d s.rank c.ranks c.many
  else if c.ranks.isEmpty && c.many.isNone then s
  else s.toSteward (.failure d (.taint c.ranks c.many))

/-- What the steward does with the taints of a report: the other ranks are told, and its own chip is tainted. -/
def State.stewardTaints (s : State) (d : Dom) (src : Rank) (ranks : List (Rank × Nat)) (many : Option Nat) : State :=
  let s := s.carryTaints d src ranks many
  if src = s.rank then s
  else match taintStep ranks many s.rank with
    | some t => s.remoteTaintHere d t
    | none => s

/-- The job is held after a poison consumption (R165): every chip holds its barriers, and no restart begins. -/
def State.poisonHold (s : State) (d : Dom) : State :=
  if (s.dom d).jobHeld == some 0 then s
  else ((s.upDom d (fun x => { x with jobHeld := some 0 })).endStart).toWorkers (.hold d none)

/-- The steward's reaction to a failure of a rank, its own included (R113, R125, R165, R190, R203, R222, R319). -/
def State.stewardFailure (s : State) (d : Dom) (src : Rank) : FailureKind → State
  | .proofFailure ranks many => ((s.stewardTaints d src ranks many).supersedeNarrow).jobRollback d (s.restartStep d)
  | .taint ranks many => s.stewardTaints d src ranks many
  | .poison => s.supersedeNarrow.poisonHold d
  | .rollback => ((s.supersedeNarrow).upDom d (fun x => { x with jobHeld := none })).jobRollback d (s.restartStep d)
  | .rankEnded =>
    -- a mirror lost during a narrowing is lost to the pair (R222)
    if s.job.narrow.any (fun n => n.stage != 6) && s.lockstep d = 1 && src = s.partner then s.partnerLost d (s.stepOf d)
    else s.supersedeNarrow.upJob (fun j => { j with lost := j.lost.filter (fun r => r ≠ src) ++ [src] })
  | .sparing =>
    let s := s.supersedeNarrow.upJob (fun j => { j with waitSparing := j.waitSparing.filter (fun r => r ≠ src) ++ [src] })
    s.jobRollback d (s.restartStep d)
  | .galley n => s.supersedeNarrow.jobRollback d n
  | .narrowingProof failed => s.narrowOutcome src failed

/-- A failure of this chip that a rollback follows: its own in a single-chip job, the job's in a multi-chip job (R113). A
sparing that has begun makes the rollback already (R190); a domain stopped by poison waits for the host (R167). -/
def State.failed (s : State) (d : Dom) (r : Nat) (f : FailureKind) : State :=
  let x := s.dom d
  if !x.active || !x.sparings.isEmpty || x.poison.isSome then
    if s.multi d && x.active then
      match f with
      | .proofFailure ranks many =>
        if s.role = 2 then s.carryTaints d s.rank ranks many else s.toSteward (.failure d (.taint ranks many))
      | _ => s
    else s
  else if !s.multi d then s.rollbackHere d r
  else if s.role = 2 then s.stewardFailure d s.rank f
  else s.toSteward (.failure d f)

/-! ### Mismatches -/

/-- What a mismatch record takes from the work (03, mismatch record). -/
structure Mismatch where
  core : PCore
  engine : EngineNo
  origin : Option Origin
  kind : Nat
  format : Nat
  layer : Nat
  oper : Nat
  place : Nat
  field : Nat
  delta : Nat
  bound : Nat
  forced : Bool
  /-- The work is of the present run of its step, not of one discarded meanwhile. -/
  live : Bool
  deriving DecidableEq, Repr

/-- Domain and step of work; none for work of no step. -/
def stepOfOrigin : Option Origin → Option (Dom × Nat)
  | some (.step d n) => some (d, n)
  | some (.proof d _ n) => some (d, n)
  | _ => none

/-- The mismatch record, 48 bytes. Work of no step shows domain 0xFF and the step field all ones. -/
def State.mismatchRecord (s : State) (m : Mismatch) : Bytes :=
  let p := stepOfOrigin m.origin
  le 8 s.t ++ le 8 (s.lccOf m.core).toNat ++ le 6 (match p with | some p => p.2 | none => 2 ^ 48 - 1) ++
    le 1 (match p with | some p => p.1.val | none => 0xFF) ++ le 1 (bitOf m.forced * 128 + m.kind) ++ le 2 m.core.val ++
    le 1 m.engine.val ++ le 1 m.format ++ le 2 m.oper ++ le 2 m.layer ++ le 4 m.place ++ le 8 m.field ++ le 2 m.delta ++
    le 2 m.bound

/-- The source of a mismatch kind on an engine. -/
def sourceOfKind (k : Nat) (e : EngineNo) : Nat :=
  if k = 13 then 0x23 else if k = 12 then 0x22 else if engineBit e = 0 then 0x20 else if engineBit e = 1 then 0x21 else 0x22

/-- A mismatch or window-exceeded record is the last one recorded, when its raise is captured. -/
def State.raiseMismatch (s : State) (n : Nat) (m : Mismatch) : State :=
  let i := engineInstance m.core m.engine
  let b := s.mismatchRecord m
  let cap := s.captures n i
  let s := s.raiseWith n i b m.forced
  if cap && n != 0x24 then (s.setContent (key 0x2002 0xE) b).put (key 0x2002 0xD) s.now else s

/-- One more error of a probe's dwell (R82, R139). -/
def State.chargeMap (s : State) (c : PCore) : State :=
  { s with probings := s.probings.map (fun (p : Probing) => if p.core = c then { p with fails := p.fails + 1 } else p) }

/-- A revise is lost (R115): it is reissued once on the next such pool core; whether it was the second. -/
def State.reviseLost (s : State) (p : Proof) : State × Bool :=
  if p.lost = 0 then
    let q := { p with lost := 1, rcore := none }
    ({ s with proofs := s.proofs.map (fun (x : Proof) => if x = p then q else x) }.placeWaiting, false)
  else (s, true)

/-- A proof is lost to a galley mismatch on its core (R94): it is reissued on another proof core, with a timeout of its own,
and Lk gets a priority proof (R97). -/
def State.reissueProof (s : State) (p : Proof) : State :=
  let s := s.bump (key 0x2105 6)
  let s := s.raise 0x36 0 []
  let q := { p with core := none, avoid := p.avoid ++ p.core.toList }
  let s : State := { s with proofs := s.proofs.map (fun (x : Proof) => if x = p then q else x) }
  match p.served with
  | some _ => s.placeWaiting
  | none =>
    let s := s.bump (key 0x2105 1)
    (s.armProof p).placeWaiting.reproof p.d p.k

/-! ### Failed proofs (R115 to R122) -/

/-- The newest step below q at which Lk passed a proof. -/
def DomSt.cleanBelow (x : DomSt) (k : LCore) (q : Nat) : Option Nat :=
  x.passes.foldl (fun a p => if p.1 = k ∧ p.2 < q then
    (match a with | some v => some (max v p.2) | none => some p.2) else a) none

/-- A confirmed failure (cause 1) or unresolved proof (cause 2) of Lk at step q (R117, R119, R121, R122). `charged` are the
cores charged with a proof suspect step. A failure that the narrowing of a pair awaits rolls back under R221. -/
def State.proofFailure (s : State) (d : Dom) (k : LCore) (q cause : Nat) (forced : Bool) (charged : List PCore)
    (narrowing : Bool) : State :=
  let x := s.dom d
  let last := s.runningStep d
  let first := match x.cleanBelow k q with
    | some c => c + 1
    | none => x.start
  let incomplete := decide (80 < last - first)
  let start := if incomplete then x.cores.map (fun j => (j, first)) else [(k, first)]
  let c := coneOf x.steps first last start
  let c := { c with ranks := c.ranks.filter (fun p => p.1 ≠ s.rank) }
  let horizon := match x.committed with
    | some m => decide (first ≤ m)
    | none => false
  let b := s.suspectReport d (cause + 128 * bitOf forced) k.val first last (bitOf incomplete + 2 * bitOf horizon) c s.rank
  let s := s.keepReport b
  let s := s.raiseWith 0x30 d.val b forced
  let s := if cause = 2 then s.raiseWith 0x31 d.val b forced else s
  let s := if horizon then s.raiseWith 0x33 d.val b forced else s
  let s : State := match (s.dom d).steps.find? (fun r => r.n == q && !r.discarded) with
    | some r => (match r.core? k with
      | some cr => s.event 0x014 ({ cr with proofed := true }.bytes d r)
      | none => s)
    | none => s
  -- the trim of the core reverts (R145)
  let s : State := match s.physOf k with
    | some c => s.revertTrim c
    | none => s
  let s := s.upDom d (fun x => { x with failed := x.failed ++ [(k, q)] })
  let s : State := charged.foldl (fun s c => s.chargeProof d c q) s
  let s : State := if !narrowing then s.failed d (s.restartStep d) (.proofFailure c.ranks c.many)
    else if s.role = 2 then s.carryTaints d s.rank c.ranks c.many
    else s.toSteward (.failure d (.taint c.ranks c.many))
  s.priorityProof d k

/-- The result of a narrowing's priority proof on this chip goes to the steward (R221). -/
def State.narrowingEnd (s : State) (p : Proof) (failed : Bool) : State :=
  if !p.narrowing then s
  else if s.role = 2 then s.narrowOutcome s.rank failed
  else s.toSteward (.failure p.d (.narrowingProof failed))

/-- A proof ends as confirmed failure or unresolved: counted, and dealt with under R117. A proof of the narrowing of a pair
gives its result to the narrowing as well (R221). -/
def State.failProof (s : State) (p : Proof) (cause : Nat) : State :=
  let s := s.bump (key 0x2105 (if cause = 1 then 3 else 5))
  let own := s.physOf p.k
  let s := match own with
    | some c => s.bump (coreKey c 0x72)
    | none => s
  let s := s.upCore p.d p.s p.k (fun c => { c with proofed := true })
  let s := s.dropProof p
  let charged := own.toList ++ (if cause = 2 then p.core.toList else [])
  (s.proofFailure p.d p.k p.s cause false charged p.narrowing).narrowingEnd p true

/-- The proof core was wrong (R115): Lk's proof passes, and the proof core is charged. -/
def State.proofCoreWrong (s : State) (p : Proof) : State :=
  let s := s.bump (key 0x2105 4)
  let s := match p.core with
    | some c => s.bump (coreKey c 0x73)
    | none => s
  let s := s.raise 0x35 0 []
  let s := (s.passProof p).dropProof p
  let s := s.narrowingEnd p false
  match p.core with
  | some c => s.chargeProof p.d c p.s
  | none => s

/-- A revise is lost by whatever cause: reissued once, then the proof is unresolved (R115). -/
def State.loseRevise (s : State) (p : Proof) : State :=
  let (s, second) := s.reviseLost p
  if second then s.failProof p 2 else s

/-- The proof that work of (d, k, n) on a core belongs to. -/
def State.proofOn (s : State) (d : Dom) (k : LCore) (n : Nat) (c : PCore) : Option Proof :=
  s.proofs.find? (fun p => p.d == d && p.k == k && p.s == n && (p.core == some c || p.rcore == some c))

/-! ### What a mismatch does (R80) -/

/-- The suspect entry of a mismatch; none for specimen work (R131). -/
def Mismatch.entry (m : Mismatch) (t : Nat) : Option Nat :=
  match m.origin with
  | some (.step d n) => some (stepEntry d n)
  | some (.proof d k n) => some (proofEntry d k n)
  | some .specimen => none
  | some (.cross r) => some (runEntry r)
  | some .regen => some (regenEntry t)
  | none => some (forcedEntry t)

/-- The commit gate of a core stays closed for a step: the core never declares galley clear for it (R77, R80). -/
def State.blockCore (s : State) (d : Dom) (n : Nat) (c : PCore) : State := s.upStep d n (fun r => r.block c)

/-- The work of a mismatch was under probing (R82, R139): a proof, a run or a pair in any part of which its core's supply was
below the trim; of other work, the supply at this moment decides. -/
def State.underProbing (s : State) (m : Mismatch) : Bool :=
  let c := m.core
  match m.origin with
  | some (.proof d k n) => (match s.proofOn d k n c with
    | some p => if p.rcore = some c then p.runder else p.under
    | none => s.belowTrim c)
  | some .specimen => (match s.running? c with
    | some r => r.under
    | none => s.belowTrim c)
  | some (.cross r) => (match s.crosses.find? (fun x => x.id == r) with
    | some x => x.under.contains c
    | none => s.belowTrim c)
  | _ => s.belowTrim c

/-- A mismatch (R80): counted and raised, the gate kept closed, the engine charged, and the step or the proof handed to the
proof unit (R114, R94). Where a specimen run stands in place of the step, object last_mismatch_step keeps its value (log
entry 171). -/
def State.mismatch (s : State) (m : Mismatch) : State :=
  let c := m.core
  let s := (s.bump (engKey c m.engine 2)).bump (key 0x2002 9)
  let s := if m.kind = 13 then s.bump (key 0x2002 0xA) else s
  let s := match stepOfOrigin m.origin with
    | some p => s.putN (engKey c m.engine 5) (stepEntry p.1 p.2)
    | none => s
  let s := match m.origin with
    | some (.step d n) => if m.live then s.blockCore d n c else s
    | _ => s
  let s := s.ringEvent c m.engine.val ((stepOfOrigin m.origin).map (·.1)) 7 m.kind
  let s := s.raiseMismatch (sourceOfKind m.kind m.engine) m
  let probed := s.underProbing m
  let s := match m.origin with
    | some (.step _ _) => s.revertTrim c
    | _ => s
  let d := (stepOfOrigin m.origin).map (·.1)
  let s := if probed then s.chargeMap c
    else match m.entry s.t with
      | some k => s.chargeEngine d c m.engine k 1
      | none => s
  match m.origin with
  | some (.step d n) =>
    -- work of a step that was discarded or committed meanwhile rolls nothing back
    match (s.dom d).step? n with
    | some r =>
      if r.committed || !m.live then s
      else
        let k := r.cores.find? (fun x => x.phys == c)
        let s := s.failed d n (.galley n)
        match k with
        | some k => s.priorityProof d k.k
        | none => s
    | none => s
  | some (.proof d k n) =>
    match s.proofOn d k n c with
    | some p => if p.rcore = some c then s.loseRevise p else s.reissueProof p
    | none => s
  | _ => s

/-- A forced mismatch or window-exceeded tile (R84), in the step running on the engine's core. A forced mismatch has no tile, no
operation and no transfer: its format byte is that of the engine's first format, its transfer field 0 (log entry 169). -/
def State.forcedMismatch (s : State) (c : PCore) (e : EngineNo) (kind : Nat) : Mismatch :=
  { core := c, engine := e,
    origin := match s.domOfCore c with
      | some d => some (.step d (s.runningStep d))
      | none => none
    kind := kind,
    format := if kind = 0 then 0 else if engineBit e = 0 then 0 else if engineBit e = 1 then 8 else 10,
    layer := 0, oper := 0, place := 0, field := 0, delta := 0x7FFF, bound := 0x8000, forced := true,
    live := true }

/-- A window-exceeded tile (R61): counted, and its class C source raised. -/
def State.windowExceeded (s : State) (m : Mismatch) : State :=
  ((s.bump (engKey m.core m.engine 3)).bump (key 0x2002 3)).raiseMismatch 0x24 m

end Sys2Proof.Machine
end

