-- ==== Sys2Proof/Machine/Resets.lean ====
section
/-! DEFINITION. Resets of the recovery ladder: the reset record with its culprit (R328, R387), the drain of cores (R18), the
deactivation of a domain (R45, R318), the start and end of a context reset (R318, R319) (13_recovery_ladder.md). -/

namespace Sys2Proof.Machine

/-! ### Reset records -/

/-- Origin of a reset by the path of its write (R387). -/
def originOf : Path → Nat
  | .window => 1
  | .adpPcie => 1
  | .adpI3c => 2
  | .steward => 3

/-- The reset record as its order starts it (R328); completion, outcome, dump and counts are filled in later. -/
def State.resetRecord (s : State) (level origin mode unit : Nat) (d : Option Dom) (cores : List PCore) : Bytes :=
  let o (f : Dom → Nat) (z : Nat) : Nat := match d with
    | some d => f d
    | none => z
  resetRecordBytes s.t level origin mode unit (o s.tag 0xFFFF) (o (·.val) 0xFF) (o (fun d => (s.jobId d).toNat) 0)
    (o s.runningStep (2 ^ 48 - 1)) (o (fun d => (s.dom d).committed.getD (2 ^ 48 - 1)) (2 ^ 48 - 1)) (s.culpritBytes d cores)

/-- The record of a reset with an outcome at this moment. -/
def Reset.recordWith (r : Reset) (done outcome : Nat) : Bytes :=
  let b := setBytes r.record 0x08 (le 8 done)
  let b := setBytes b 0x11 (le 1 r.atLevel ++ le 1 outcome)
  setBytes b 0x40 (le 4 (r.dump.getD 0) ++ le 4 r.lateWrites ++ le 4 r.latePackets ++ le 2 r.notCaptured)

/-- Object 0x2900.09. -/
def State.showResets (s : State) : State :=
  let has (n : Nat) : Bool := s.rcv.resets.any (fun r => r.atLevel == n)
  s.putN (key 0x2900 9)
    (if has 5 then 5 else if has 4 then 4 else if has 3 then 3 else if !s.rcv.heldAtLimit.isEmpty then 6
     else if has 2 then 2 else if has 1 then 1 else 0)

def State.reset? (s : State) (i : ResetId) : Option Reset := s.rcv.resets.find? (fun r => r.id == i)

def State.upReset (s : State) (i : ResetId) (f : Reset → Reset) : State :=
  { s with rcv := { s.rcv with resets := s.rcv.resets.map (fun r => if r.id = i then f r else r) } }

def State.addReset (s : State) (r : Reset) : State :=
  { s with rcv := { s.rcv with resets := s.rcv.resets ++ [r] }, free := s.free + 4 }.showResets

/-- A reset leaves with its timeout; a latch that still fills goes on. -/
def State.dropReset (s : State) (r : Reset) : State :=
  ({ s with rcv := { s.rcv with resets := s.rcv.resets.filter (fun x => x.id ≠ r.id) } }.disarm (.resetTimeout r.id)).showResets

/-- The reset with an outcome: object 0x2900.0A and the dump that waits hold its record. -/
def State.recordReset (s : State) (r : Reset) (done outcome : Nat) : State :=
  let b := r.recordWith done outcome
  let s := s.setContent (key 0x2900 0xA) b
  { s with rcv := { s.rcv with dumps := s.rcv.dumps.map (fun (x : Dump) =>
      if some x.num = r.dump then { x with record := b } else x) } }

/-- A reset completes: counted at its level, with outcome 1, or 3 when it escalated on the way (R323, R328). -/
def State.finishReset (s : State) (r : Reset) (outcome : Nat) : State :=
  let s := s.bump (key 0x2900 (0xA + r.atLevel))
  (s.recordReset r s.t (if r.escalated then 3 else outcome)).dropReset r

/-- A reset is taken over by one of a higher level (R316). -/
def State.supersedeReset (s : State) (r : Reset) : State := (s.recordReset r 0 5).dropReset r

/-- The dump of a context, engine or partition reset, written after it (R327). -/
def State.resetDump (s : State) (level : Nat) (cores : List PCore) (doms : List Dom) (stackNos : List StackNo)
    (chip : Bool) (record : Bytes) : State × Option Nat :=
  let s := s.newDump { num := 0, origin := 1, level := level, flags := 0, cores := cores, doms := doms,
                       stackNos := stackNos, chip := chip, time := s.now, cause := s.nat (key 0x2400 0x11), record := record }
  (s, some s.cel.dumps)

/-! ### Drains -/

/-- A core is to be drained: by the fault state, a breakpoint, or a reset of its domain. -/
def State.drainWanted (s : State) (c : PCore) : Bool :=
  s.faulted || s.obs.bp.isSome || s.rcv.resets.any (fun r => r.phase == 0 && r.d.isSome && c ∈ r.cores)

/-- The drain control of a core is released when nothing wants it any more. -/
def State.undrainCore (s : State) (c : PCore) : State :=
  if s.drainWanted c then s
  else
    let on := (s.probe c).drain
    let s := s.upProbe c (fun p => { p with drain := false, drained := false, drainAsked := false })
    if on then s.ringEvent c 7 (s.domOfCore c) 0xA 4 else s

/-! ### The end of a domain -/

/-- Cores whose pool flag changes with a change of the active domains (object 0x1300.07). -/
def State.poolChanges (old new : State) : Nat := (allCores.filter (fun c => old.inPool c != new.inPool c)).length

/-- Settings staged for a domain act for it from here on (R46, R363): it waits for none of them any more. A change of its pool
shows in the floor plan (R182); with proof fraction 0 it drops the priority proofs that wait for it (R95). -/
def State.applyStaged (s : State) (d : Dom) : State :=
  let old := s
  let l := s.staged.map (fun x => { x with waiting := x.waiting.filter (fun e => e ≠ d) })
  let done := l.filter (fun x => x.waiting.isEmpty)
  let pool := s.staged.any (fun x => x.key == key 0x2102 5 && d ∈ x.waiting)
  let s : State := { s with staged := l.filter (fun x => !x.waiting.isEmpty) }
  let s : State := done.foldl (fun s x => s.endWrite x.key .completed 0) s
  let s : State := if pool then s.planChanged (poolChanges old s) else s
  if s.period d = 0 then s.upDom d (fun x => { x with priority := [] }) else s

/-- A domain is deactivated (R45, R318): its work, proofs, arm and waits are gone, its pages free, its hold mask empty but
for a freeze, a halt and the fault state. -/
def State.deactivate (s : State) (d : Dom) : State :=
  let old := s
  let s := if (s.dom d).closing.isSome then s.endWrite (domKey 0x1210 0x1A d) .completed 0 else s
  let s := (s.dropSparing d).endHold d
  let s : State := match s.regen with
    | some r => if r.d = d && !r.done then s.endRegen 5 else s
    | none => s
  let s := (s.cancelProofs d 0).dropChecks d 0
  let s := s.dropArm d
  let s : State := { s with
    obs := { s.obs with watches := s.obs.watches.filter (fun w => w.d ≠ d) }
    kv := s.kv.filter (fun k => k.d ≠ d)
    tb := { s.tb with refusedArms := s.tb.refusedArms.filter (fun r => r.1 ≠ d) } }
  let job := s.multi d
  let s := (s.dom d).cores.foldl (fun s k => match s.physOf k with
    | some c => (match (s.probe c).goal with
      | some g => (s.upProbe c (fun p => { p with goal := none })).setTrim c g
      | none => s)
    | none => s) s
  let s := (s.setDom d DomSt.idle).applyStaged d
  let s := s.putN (key 0x1210 0x19) (s.nat (key 0x1210 0x19) - (if (s.get (key 0x1210 0x19)).getLsbD d.val then 2 ^ d.val else 0))
  let s := (s.putN (domKey 0x2301 1 d) 0).putN (domKey 0x2104 0x11 d) 0
  let m : Word := s.get (domKey 0x2901 1 d)
  let s := s.put (domKey 0x2901 1 d) (m &&& 0x440)
  let s : State := if job then
      let s := if s.job.batch.isEmpty then s else s.event 0x015 s.job.batch
      let s := s.endStart.disarmAll (fun c => match c with
        | .compareTimeout _ => true
        | _ => false)
      s.upJob (fun j => { j with dom := none, steps := [], provens := [], proven := none, told := none, batch := [],
                                 lost := [], waitRoutes := false, waitSparing := [], narrow := none, narrowLost := none, diverged := none })
    else s
  let s := if s.nat (key 0x2C10 3) = d.val ∧ s.get (key 0x2C10 1) != 0 then s.putN (key 0x2C10 6) 0 else s
  let s := s.showLedger.showSparing d
  (s.planChanged (poolChanges old s)).placeWaiting

/-! ### Context resets (R318, R319) -/

/-- A context reset of domain d begins at this moment: gates closed and barrier held (hold bit 9), its cores captured and
drained; in mode 1 a single-chip domain's rollback begins with the next incarnation, in mode 2 its tag is no longer
current. `engines` are reset after it (R320). -/
def State.beginContext (s : State) (d : Dom) (mode origin level unit : Nat) (engines : List (PCore × EngineNo)) : State :=
  let cores := s.physCores d
  let r : Reset :=
    { id := .context d, level := level, atLevel := 1, mode := mode, origin := origin, grant := s.now, d := some d,
      unit := unit, cores := cores, engines := [], record := s.resetRecord level origin mode unit (some d) cores,
      escalated := false, phase := 0, notCaptured := 0, dump := none, tag := BitVec.ofNat 16 (s.tag d), lateWrites := 0,
      latePackets := 0, thenEngines := engines }
  let s := ((s.addReset r).setHold d 9 true).beginCapture cores
  let s := cores.foldl (fun s c => s.drainCore c) s
  let s : State := match s.regen with
    | some g => if g.d = d && !g.done then s.endRegen 5 else s
    | none => s
  let s := if mode = 1 ∧ !s.multi d then s.rollback d (s.dom d).base none
    else (s.dropArm d).upDom d (fun x => { x with running := false, suspended := true })
  s.arm (.resetTimeout (.context d)) (us (s.nat (key 0x2900 1)))

/-- A reset that ends a job: a context reset in mode 2 (13, 'End the job'), of level 1. One under way in mode 2 goes on. -/
def State.endJob (s : State) (d : Dom) (origin : Nat) : State :=
  if (s.reset? (.context d)).isSome then s.upReset (.context d) (fun r => { r with mode := 2 })
  else s.beginContext d 2 origin 1 0xFFFF []

/-- The cores of a domain ended in mode 2 leave every uncommitted step behind, and the steward hears that the rank has ended
its context; a steward stops its heartbeats (R318, R319). -/
def State.endContext (s : State) (d : Dom) : State :=
  let s := if s.multi d && s.role = 1 then s.toSteward (.failure d .rankEnded) else s
  let s : State := if s.multi d && s.role = 2 then s.upJob (fun j => { j with silent := true }) else s
  let gone := (s.dom d).steps.filter (fun q => !q.discarded && decide ((s.dom d).base ≤ q.n))
  let s := s.flagResults d gone
  let s := s.upDom d (fun x => { x with steps := x.steps.map (fun q => if x.base ≤ q.n then { q with discarded := true } else q) })
  (s.showColophons d).deactivate d

/-- The context of a reset is drained and retagged (R314, R318): the drain is released, and the rollback's ledger walk
follows, or the steward is asked, or the domain is deactivated. -/
def State.contextDone (s : State) (r : Reset) (d : Dom) : State :=
  let s := s.upReset r.id (fun x => { x with phase := 1 })
  let s := r.cores.foldl (fun s c => s.undrainCore c) s
  let s := s.setHold d 9 false
  if r.mode = 2 then s.endContext d
  else if !s.multi d then s.upDom d (fun x => { x with walk := true })
  else if s.role = 2 then s.stewardFailure d s.rank .rollback
  else s.toSteward (.failure d .rollback)

end Sys2Proof.Machine
end

