-- ==== Sys2Proof/Machine/StageRec.lean ====
section
/-! DEFINITION. Stage records of the bring-up (R247), the failure of a stage and the safe state (R265), the end of a bring-up by
a class F raise (R269) (10_bring_up.md). -/

namespace Sys2Proof.Machine

/-- Object 0x2500.01: the stage. -/
def State.stageNo (s : State) : Nat := s.nat (key 0x2500 1)

/-- A bring-up is under way. -/
def State.bringing (s : State) : Bool := decide (1 ≤ s.stageNo) && decide (s.stageNo < 9)

/-- Object 0x1300.05: reserve cores without a spared role. -/
def State.reserveCount (s : State) : Nat := (allCores.filter (fun c => s.fp c == 1 && !(s.probe c).spared)).length

/-- The elapsed duration of the bring-up in ms (R243). -/
def State.bringupMs (s : State) : Nat := (s.t - s.bring.begun.toNat - s.bring.excluded) / ms 1

/-- One of the counts of the present stage rises. -/
def State.countStage (s : State) (i : Nat) : State :=
  { s with bring := { s.bring with counts := s.bring.counts.set i (s.bring.counts.getD i 0 + 1) } }

/-- Ports whose state is one of a list. -/
def State.portsIn (s : State) (l : List Nat) : Nat := (allPorts.filter (fun p => s.nat (portKey p 1) ∈ l)).length

/-- Lanes that a port trained, object .02. -/
def State.lanes (s : State) (p : PortNo) : Nat := s.nat (portKey p 2)

/-- Fields A, B, C, D of the record of a stage at its end (R247). -/
def State.stageFields (s : State) (n : Nat) : List Nat :=
  if n = 1 then [(allPcs.filter s.pcRunning).length, s.attic.length, s.lc, 0]
  else if n = 2 then [s.nat (key 0x1010 3), s.nat (key 0x1010 5), s.nat (key 0x1010 1), s.nat (key 0x1010 2)]
  else if n = 3 then [s.nat (key 0x1300 4), s.reserveCount, s.nat (key 0x2500 0xD),
    s.nat (key 0x2500 0xE) * 2 ^ 32 + s.nat (key 0x2500 0xC)]
  else if n = 4 then [(s.presentCores.filter (fun c => s.nat (coreKey c 0x97) = 2)).length,
    (s.presentCores.map (fun c => (s.slice c).applied.length)).sum, (s.presentCores.map (fun c => s.nat (coreKey c 0x98))).sum, 0]
  else if n = 5 then [(allPorts.filter (fun p => s.lanes p = 0xFF)).length,
    (allPorts.filter (fun p => s.lanes p ≠ 0xFF ∧ s.lanes p ≠ 0)).length, s.portsIn [6],
    (s.bring.stackSt.zipIdx.map (fun x => if x.1 = 1 then 2 ^ x.2 else 0)).sum]
  else if n = 8 then [s.portsIn [2, 3], s.portsIn [4, 5, 7, 8], s.bring.counts.getD 3 0, s.nat (key 0x1200 3)]
  else if n = 9 then [s.nat (key 0x1300 4), s.reserveCount, s.bringupMs, s.nat (key 0x1300 7)]
  else s.bring.counts

/-- The stage record, 48 bytes (R247). A freeze since the stage's start shows in flag [2]. -/
def State.stageRecord (s : State) (outcome code : Nat) (halted forced : Bool) : Bytes :=
  let n := s.stageNo
  let f := s.stageFields n
  let frozen := s.frz.on || (s.frz.grant != 0 && decide (s.bring.stageBegun.toNat ≤ s.frz.grant.toNat))
  let flags := bitOf s.tb.timeSet + 2 * bitOf (s.nat (key 0x1200 3) = 2) + 4 * bitOf frozen + 8 * bitOf halted
  le 8 s.t ++ le 8 s.bring.stageBegun.toNat ++ le 1 n ++ le 1 (bitOf forced * 128 + outcome) ++ le 1 (s.nat (key 0x2500 2)) ++
    le 1 flags ++ le 2 (f.getD 0 0) ++ le 2 (f.getD 1 0) ++ le 4 (f.getD 2 0) ++ le 4 code ++ le 8 (f.getD 3 0) ++
    le 4 (s.nat (key 0x2500 6)) ++ le 4 0

/-- The stage ends: its record goes to the Cellar's event ring and to object 0x2502. -/
def State.writeStage (s : State) (outcome code : Nat) (halted : Bool) : State :=
  let b := s.stageRecord outcome code halted false
  (s.event 0x010 b).setContent (key 0x2502 s.stageNo) b

/-- Timeouts of a bring-up. -/
def State.dropStageTimers (s : State) : State := s.disarmAll stageTimer

/-- A class F raise during a bring-up (R269): it goes no further, and the running stage's record reads failed. -/
def State.bringupFault (s : State) : State :=
  if s.faulted && s.bringing then
    let code := match sourceNumbers.find? (fun n => (sourceInfo n).map (·.cls) == some .f && s.anySticky n) with
      | some n => n
      | none => 0
    let s := s.writeStage 2 code false
    (s.putN (key 0x2500 1) (0x80 + s.stageNo)).dropStageTimers
  else s

/-- A stage fails (R265): its record, the safe state, and "bring-up stage failed" with the failing stage's record. -/
def State.failStage (s : State) (code : Nat) : State :=
  let b := s.stageRecord 2 code false false
  let s := (s.writeStage 2 code false).dropStageTimers
  let s := s.putN (key 0x2500 1) (0x80 + s.stageNo)
  let s := allCores.foldl (fun s c => (s.isolateCore c).upProbe c (fun p => { p with reset := true })) s
  let s := allPorts.foldl (fun s p => if s.admitted p then s.putN (portKey p 1) 1 else s) s
  s.raise 0x80 0 b

end Sys2Proof.Machine
end

