-- ==== Sys2Proof/Machine/Settle.lean ====
section
/-! DEFINITION. What follows by itself once a command has acted: cores declare galley clear (R77, R88), steps are reported
(R125), dispatched (R95), released and committed (R103 to R105), a held barrier is tried again (R106, R107, R112), a close
ends (R45), a drain becomes quiet (R367); the completion of a barrier (R43); hold masks (R311). -/

namespace Sys2Proof.Machine

/-! ### Duties of the Proofreader cores (R14, R16) -/

/-- The duty set of PCn moves to core p in the duty map (object 0x1020.05). -/
def State.giveDuty (s : State) (n p : PcNo) : State :=
  let m := s.get (key 0x1020 5)
  let m := allPcs.foldl (fun m q => m &&& ~~~((1 : Word) <<< (4 * q.val + n.val))) m
  s.put (key 0x1020 5) (m ||| ((1 : Word) <<< (4 * p.val + n.val)))

/-- The duties that wait to return do so at a step boundary (R16). -/
def State.returnDuties (s : State) : State :=
  allPcs.foldl (fun s p =>
    let x := s.pc p
    if x.returning then (s.setPc p { x with returning := false }).giveDuty p p else s) s

/-! ### Galley clear (R77, R88) -/

/-- A step whose barrier all cores have reached: completed, or held. -/
def DomSt.atBarrier (x : DomSt) (r : StepRec) (now : Nat) : Bool := r.ended || (x.held.isSome && r.n == now)

/-- A core of such a step declares galley clear once every checked work item of the step has passed. -/
def CoreRec.declare (c : CoreRec) (now : Word) : CoreRec :=
  if !c.clear && !c.blocked && c.work.isEmpty then { c with clear := true, clearTime := now } else c

def StepRec.declare (r : StepRec) (now : Word) : StepRec :=
  let cs := r.cores.map (fun c => c.declare now)
  { r with cores := cs, clear := r.clear || cs.all (·.clear) }

/-- Declarations of every step at its barrier; in a single-chip job the domain is then at galley clear (R102). Object .76 of the
cores follows (R101). -/
def State.declareClears (s : State) (d : Dom) : State :=
  let n := s.stepOf d
  let multi := s.multi d
  let old := (s.dom d).steps
  let s := s.upDom d (fun x => { x with steps := x.steps.map (fun r =>
    if r.discarded || !x.atBarrier r n then r
    else
      let q := r.declare s.now
      if multi then q else { q with jobClear := q.clear }) })
  if (s.dom d).steps = old then s else s.showColophons d

/-! ### Reports of a multi-chip job (R125) -/

/-- One report of a step of this chip. -/
def State.reportStep (s : State) (d : Dom) (r : StepRec) : State :=
  let p := s.proven? d
  let s := s.upStep d r.n (fun r => { r with reported := true })
  let s := s.upJob (fun j => { j with told := some (r.n, p) })
  if s.role = 2 then s.jobReport d s.rank r.n p r.chip else s.toSteward (.stepReport d r.n p r.chip)

/-- Steps newly at this chip's galley clear are reported, then a proven step that rose (R125). -/
def State.reportSteps (s : State) (d : Dom) : State :=
  if !s.multi d then s
  else
    let s := ((s.dom d).steps.filter (fun r => r.clear && !r.reported && !r.discarded)).foldl (fun s r => s.reportStep d r) s
    let p := s.proven? d
    match s.job.told with
    | some (n, q) =>
      if p = q then s
      else match p with
        | none => s
        | some v =>
          let s := s.upJob (fun j => { j with told := some (n, p) })
          if s.role = 2 then (s.upJob (fun j => j.keepProven s.rank v)).declareJobClear d n
          else match (s.dom d).step? n with
            | some r => s.toSteward (.stepReport d n p r.chip)
            | none => s
    | none => s

/-! ### Watches (R304, R305) -/

/-- A watch's result of a step, 96 bytes. -/
def State.watchResult (s : State) (w : Watch) : Bytes :=
  let fmt := fieldAt (s.inForceContent (watchKey w.watch 1)) 2 1
  let fields := if fmt < 4 then elemFields (w.data.flatMap (fun b => elemsOf fmt (BitVec.ofNat 64 (fieldAt b 0 8)) (b.drop 8)))
      (fun i => Config.freeWord (s.free + i))
    else List.replicate 52 0
  le 8 s.t ++ le 6 w.n ++ le 1 w.d.val ++ le 1 (2 * bitOf w.poisoned) ++ le 8 w.digest.toNat ++ le 8 w.units ++ fields ++
    List.replicate 12 0

/-- The results of a step at its galley clear join the rings of the last 16. -/
def State.writeWatches (s : State) (d : Dom) (n : Nat) : State :=
  let l := s.obs.watches.filter (fun w => w.d == d && w.n == n)
  let s := l.foldl (fun s w =>
    let b := s.content (watchKey w.watch 2) ++ s.watchResult w
    { s with free := s.free + 4 }.setContent (watchKey w.watch 2) (b.drop (b.length - 16 * 96))) s
  { s with obs := { s.obs with watches := s.obs.watches.filter (fun w => !(w.d == d && w.n == n)) } }

/-! ### Dispatch, release, commit, close -/

/-- A drain of a class X write keeps the proofs of the domain waiting (R367). -/
def State.draining (s : State) (d : Dom) : Bool :=
  match s.drain with
  | some w => d ∈ w.domains
  | none => false

/-- Steps at galley clear leave their watch results, and their proofs are dispatched (R95), those of a close's last step with
them (R45). -/
def State.dispatchSteps (s : State) (d : Dom) : State :=
  let s := ((s.dom d).steps.filter (fun r => r.jobClear && !r.discarded)).foldl (fun s r => s.writeWatches d r.n) s
  if s.draining d && (s.dom d).held.isSome then s
  else
    let s := ((s.dom d).steps.filter (fun r => r.jobClear && !r.dispatched && !r.discarded)).foldl (fun s r => s.dispatch d r.n) s
    let x := s.dom d
    match x.closing with
    | some n =>
      if !x.closeIssued && (x.step? n).any (·.jobClear) then s.closingProofs d n else s
    | none => s

/-- The close of a domain ends when every step has committed (R45). -/
def State.finishClose (s : State) (d : Dom) : State :=
  let x := s.dom d
  match x.closing with
  | some n =>
    if x.active && !x.running && decide (n < x.base) && !s.holdBit d 9 then
      s.deactivate d
    else s
  | none => s

/-! ### The barrier of a step (R43, R106, R107, R112, R124, R165, R220, R367) -/

/-- What keeps the barrier of the running step from completing, but for the provisional depth: proofing (R106), the ledger
(R112), a drain or an activation (R32, R367), anything else. -/
def State.barrierHolds (s : State) (d : Dom) : Bool × Bool × Bool × Bool :=
  let x := s.dom d
  let n := s.stepOf d
  (s.windowOpen d n, s.ledgerFull d, s.draining d || s.img.activating || s.img.waitIdle,
    x.poison.isSome || s.faulted || s.obs.bp.isSome || s.holdBit d 9 ||
      x.jobHeld.any (fun h => decide (h ≤ n)) || x.abandoned.any (fun h => decide (h ≤ n)))

/-- The boundary would raise the provisional depth to 33 (R107). -/
def State.tooDeep (s : State) (d : Dom) : Bool := decide ((s.dom d).base + 33 ≤ s.stepOf d + 1)

/-- The oldest uncommitted step may be committed on age (R107): under release-on-galley while object 0x2102.04 is 0, at
galley clear, compared equal in a pair, and in a multi-chip job by the steward only. -/
def State.mayAge (s : State) (d : Dom) : Bool :=
  !s.onProof d && s.natFor d (key 0x2102 4) == 0 && (!s.multi d || s.role == 2) && s.dutyRuns 1 && s.gatesMayOpen &&
    ((s.dom d).step? (s.dom d).base).any (fun r => r.jobClear && r.equal && r.ended && !r.cores.any (·.blocked))

/-- Commit on age (R107). The steward does it for the job at once, in the job proven step. -/
def State.commitOnAge (s : State) (d : Dom) : State :=
  let n := (s.dom d).base
  let s := s.commitStep d n true
  if s.multi d then
    let s := (s.toWorkers (.jobClear d n (some n))).jobClearHere d n (some n)
    (s.putN (key 0x210A 1) n).recordColophons d
  else s

/-- The step timing record, 32 bytes (R209); the last 64 are kept. -/
def State.timeStep (s : State) (d : Dom) (n cycles : Nat) (dist : BitVec 32) : State :=
  let dur := s.t - (s.dom d).begun.toNat
  let b := le 8 s.t ++ le 6 n ++ le 1 d.val ++ le 1 0 ++ le 8 dur ++ le 4 dist.toNat ++ le 4 (min cycles 0xFFFFFFFF)
  let l := s.content (domKey 0x2108 0x11 d) ++ b
  s.setContent (domKey 0x2108 0x11 d) (l.drop (l.length - 64 * 32))

/-- The step boundary of a domain (R43): the counter and its stamp, the timing record, what applies at a boundary (R16, R46,
R144), the record of the step that begins. -/
def State.completeBarrier (s : State) (d : Dom) (cycles : Nat) (disturbed : BitVec 13) (held : Bool) : State :=
  let n := s.stepOf d
  let s := s.endHold d
  let s := s.upStep d n (fun r => { r with
    ended := true
    dist := r.dist ||| disturbed.setWidth 32 ||| (if held then 2048 else 0) })
  let dist := match (s.dom d).step? n with
    | some r => r.dist
    | none => 0
  let s := s.timeStep d n cycles dist
  let s := if dist = 0 then s else s.bump (domKey 0x2108 0x19 d)
  let s := if ((s.dom d).step? n).any (fun r => r.checks &&& 0xF == 0) then s.bump (key 0x2002 0xC) else s
  let s := (s.putN (domKey 0x1210 1 d) (n + 1)).put (domKey 0x1210 9 d) s.now
  let s := (s.showColophons d).ringEvents (s.physCores d) 7 (some d) 4 (n % 65536)
  let s := s.applyStaged d
  let s := (s.physCores d).foldl (fun s c => s.lowerTrim c) s
  let s := s.returnDuties
  let s := s.putN (domKey 0x2104 0x11 d) (s.depth d)
  match (s.dom d).closing with
  | some m => if m ≤ n then s.upDom d (fun x => { x with running := false }) else s.openStep d
  | none => s.openStep d

/-- The barrier of the running step of a domain is tried: it completes, or is held with its reasons counted once each
(R106, R107, R112); a barrier at the last step number ends the job (R44). -/
def State.tryBarrier (s : State) (d : Dom) (cycles : Nat) (disturbed : BitVec 13) : State :=
  let x := s.dom d
  if !x.active || !x.running || x.suspended then s
  else if s.stepOf d = 2 ^ 48 - 1 then (s.raise 0x15 d.val []).endJob d 5
  else
    let (proofing, ledger, drain, other) := s.barrierHolds d
    let free := !proofing && !ledger && !drain && !other
    let s := if free && s.tooDeep d && s.mayAge d then s.commitOnAge d else s
    let deep := s.tooDeep d
    if free && !deep then s.completeBarrier d cycles disturbed x.held.isSome
    else
      let old := x.held.getD { cycles := cycles, disturbed := disturbed, since := s.now, proofing := false, ledger := false,
                               drain := false }
      let p := proofing || deep
      let s := if p && !old.proofing then s.bump (key 0x2105 8) else s
      let since := if p && !old.proofing then s.now else old.since
      let s := if !p && old.proofing then s.bumpBy (key 0x2105 9) ((s.t - old.since.toNat) / 16) else s
      let s := if ledger && !old.ledger then (s.bump (key 0x2107 3)).raise 0x37 0 [] else s
      s.upDom d (fun x => { x with held := some { old with since := since, proofing := p, ledger := ledger, drain := drain } })

/-- The barrier completes on every core: its cores have arrived. -/
def State.arriveAll (s : State) (d : Dom) : State :=
  s.upStep d (s.stepOf d) (fun r => { r with cores := r.cores.map (fun c => { c with arrived := true }) })

/-! ### Hold masks (R311) -/

/-- Bits 0 to 4, 7 and 8 of a domain's hold mask follow its state. -/
def State.showHolds (s : State) (d : Dom) : State :=
  let x := s.dom d
  if !x.active then s
  else
    let h (f : Held → Bool) : Bool := match x.held with
      | some h => f h
      | none => false
    let pair := s.lockstep d
    let comparing := pair == 1 && x.steps.any (fun r => r.clear && !r.equal && !r.discarded)
    let narrowing := s.job.narrow.any (fun n => n.d == d) || (match x.jobHeld with | some n => n != 0 | none => false)
    let waits := s.multi d && x.steps.any (fun r => r.clear && !r.jobClear && !r.discarded)
    let s := (s.setHold d 0 (h (fun h => h.proofing || h.drain))).setHold d 1 (h (·.ledger))
    let s := (s.setHold d 2 (comparing || narrowing)).setHold d 3 (!x.sparings.isEmpty)
    let s := (s.setHold d 4 (x.poison.isSome || x.jobHeld == some 0)).setHold d 7 (s.armOf d != 0 || x.suspended)
    s.setHold d 8 waits

/-! ### The time base's status and its beacons (R38, R40, R41) -/

def State.upTb (s : State) (f : TimeBase → TimeBase) : State := { s with tb := f s.tb }

/-- Object 0x1200.03: 4 on the backup oscillator, 3 in holdover, else what the time base has reached. -/
def State.timeStatus (s : State) : Nat := if s.tb.backup then 4 else if s.tb.holdover then 3 else s.tb.base

/-- Object 0x1201.02: this chip is the time root. -/
def State.isRoot (s : State) : Bool :=
  s.nat (key 0x1201 1) == s.rank.toNat && s.nat (key 0x1201 1) != 0xFFFFFFFF

/-- A chip in beacon mode that is not the time root: it enters holdover without a completed exchange (R40), whatever keeps the
exchanges from completing. -/
def State.beaconMode (s : State) : Bool := s.nat (key 0x1200 2) == 1 && !s.isRoot

/-- The chip exchanges beacons (R38, R246): in beacon mode, with a root that is another chip, once a port is admitted. -/
def State.beacons (s : State) : Bool :=
  s.beaconMode && s.nat (key 0x1201 1) != 0xFFFFFFFF && allPorts.any s.admitted

/-- Holdover follows the loss limit's number of periods without a completed exchange (R40). -/
def State.armBeaconLoss (s : State) : State :=
  s.arm .beaconLossHoldover (us (s.nat (key 0x1201 3) * s.nat (key 0x1201 4)))

/-- The timeouts of the beacons begin or end with the settings. -/
def State.followBeacon (s : State) : State :=
  let s := if !s.beaconMode then s.disarm .beaconLossHoldover
    else if s.armed .beaconLossHoldover || s.tb.holdover then s
    else s.armBeaconLoss
  if !s.beacons then s.disarm .beaconPeriod
  else if s.armed .beaconPeriod then s
  else
    let s := s.upTb (fun t => { t with base := max t.base 1 })
    (s.putN (key 0x1200 3) s.timeStatus).arm .beaconPeriod (us (s.nat (key 0x1201 3)))

/-! ### Settling -/

/-- One pass over a domain. -/
def State.settleOnce (s : State) (d : Dom) : State :=
  if !(s.dom d).active then s
  else
    let s := ((s.declareClears d).reportSteps d).openGates d
    let s := (s.dispatchSteps d).releaseAll d 81
    let s := (s.commitAll d 81).reportSteps d
    let s := (s.commitAll d 81).releaseAll d 81
    let s := match (s.dom d).held with
      | some h => s.tryBarrier d h.cycles h.disturbed
      | none => s
    s.finishClose d

/-- Two passes: a boundary that completes in the first is dealt with in the second. -/
def State.settle (s : State) (d : Dom) : State := ((s.settleOnce d).settleOnce d).showHolds d

def State.settleDoms (s : State) : State := allDoms.foldl (fun s d => s.settle d) s

/-- The class X write that waits applies (R367): every domain it drains is held at a barrier with nothing running. A domain
that became inactive waits for nothing. -/
def State.drainQuiet (s : State) (w : Drain) : Bool :=
  w.domains.all (fun d => !(s.dom d).active ||
    ((match (s.dom d).held with | some h => h.drain | none => false) && s.quiet d && !s.domFrozen d && !s.holdBit d 9))

/-- The end of a drain: the held barriers complete, and the waiting proofs are issued. -/
def State.endDrain (s : State) : State := { s with drain := none }.disarm .drainTimeout

/-- The drained write takes effect. -/
def State.applyDrain (s : State) (w : Drain) : State :=
  let s := w.items.foldl (fun s i =>
    let s : State := { s with staged := s.staged.filter (fun x => x.key ≠ i.1) }
    (s.put i.1 i.2).endWrite i.1 .completed 0) s
  let s := s.arrives .drainTimeout 6
  s.endDrain.bump (key 0x1030 5)

/-- Every active domain that runs a step is held at its boundary for an image activation (R32). -/
def State.imageIdle (s : State) : Bool :=
  s.activeDoms.all (fun d => !(s.dom d).running || (match (s.dom d).held with | some h => h.drain | none => false))

/-- An activation that drained the jobs begins: the Proofreader cores restart (R32). -/
def State.beginActivation (s : State) : State :=
  let s : State := { s with img := { s.img with activating := true, waitIdle := false } }
  let run := allPcs.filter (fun p => s.get (pcKey p) != 3)
  let s := run.foldl (fun s p => (s.putN (pcKey p) 1).disarm (.pcSilent p)) s
  s.sendAll (run.map .resetPc)

/-- The timeouts of the role in force (R29): a steward sends heartbeats, a worker that has not lost its steward awaits them.
Without a role object 0x2C00.07 reads 0. -/
def State.followRole (s : State) : State :=
  let r := s.role
  let s := if r = 0 && s.get (key 0x2C00 7) != 0 then s.putN (key 0x2C00 7) 0 else s
  let s := if r ≠ 2 || s.job.silent then s.disarm .stewardHeartbeatSend
    else if s.armed .stewardHeartbeatSend then s
    else s.arm .stewardHeartbeatSend (us (s.roleVal (key 0x2C00 5)))
  if r ≠ 1 || s.get (key 0x2C00 7) != 0 then s.disarm .stewardTimeout
  else if s.armed .stewardTimeout then s
  else s.arm .stewardTimeout (us (s.roleVal (key 0x2C00 6)))

/-- A specimen run's timeout does not run while the core's own step work holds its engines (R133). -/
def State.holdSpecimens (s : State) : State :=
  s.runs.foldl (fun s r =>
    let c : Instr := .specimenTimeout r.core []
    if allEngines.any (fun e => s.holdsWork r.core e) then s.holdTimers (fun x => x == c)
    else if s.holdsTimer c then s
    else s.resumeTimers (fun x => x == c)) s

/-- All that follows once a command has acted, over every domain and the chip. A timeout armed on what a freeze stops is held
from the start (R291). -/
def State.settleAll (s : State) : State :=
  let s := s.settleDoms.followNarrow.followRole.followBeacon.bringupFault.holdSpecimens
  let s := match s.drain with
    | some w =>
      if s.drainQuiet w then (s.applyDrain w).settleDoms
      else if w.domains.any (fun d => match (s.dom d).held with | some h => h.drain | none => false) then
        w.items.foldl (fun (s : State) (i : Nat × Word) => s.endWrite i.1 .draining 0) s
      else s
    | none => s
  let s := if s.img.waitIdle && s.imageIdle then s.beginActivation else s
  let s := s.candidatesAppear
  s.holdTimers s.holdsTimer

end Sys2Proof.Machine
end

