-- ==== Sys2Proof/Machine/Access.lean ====
section
/-! DEFINITION. A write to a dictionary entry (15_object_dictionary.md): the checks every write meets (R346 to R349, R239, R365),
its status word (R351), and the staging of classes A, B and X (R363 to R367). -/

namespace Sys2Proof.Machine

/-- How a granted write ends, or stands (R351). -/
inductive WEnd where
  | done | progress | staged | draining | refused (reason : Nat) | deferred | busy | noObject
  deriving DecidableEq, Repr

def WEnd.st : WEnd → WSt
  | .done => .completed
  | .progress => .inProgress
  | .staged => .staged
  | .draining => .draining
  | .refused _ => .refused
  | .deferred => .deferred
  | .busy => .busy
  | .noObject => .noObject

/-- Reason field of the status word; 0 for anything but a refusal (R388). -/
def WEnd.reason : WEnd → Nat
  | .refused r => r
  | _ => 0

/-- The status word after a granted write: the count advances, refused writes included (R351). -/
def State.endGrant (s : State) (path : Path) (k : Nat) (e : WEnd) : State :=
  match e with
  | .noObject => s
  | e => s.setStatus k { st := e.st, path := BitVec.ofNat 8 (Path.num path), reason := BitVec.ofNat 8 e.reason,
                         count := (s.status k).count + 1 }

/-- An access is granted on a path (objects 0x1030.07–.0A). -/
def State.countAccess (s : State) (path : Path) : State := s.bump (key 0x1030 (7 + Path.num path))

/-- Frames of path 3 are served once stage 5 has ended (R347). -/
def State.stewardServed (s : State) : Bool := decide (5 < s.nat (key 0x2500 1) % 128)

/-- A path is served at all: in ROM service paths 0 and 2 (R347), path 3 after stage 5; none without power or in reset
(R383). -/
def State.pathServed (s : State) (path : Path) : Bool :=
  s.alive && match path with
  | .window => true
  | .adpI3c => true
  | .adpPcie => !s.romService
  | .steward => !s.romService && s.stewardServed

/-- Entries whose writes are accepted in the fault state (R239): the error objects, freeze, the Cellar's read-out and the
channels that carry it. -/
def faultServed (k : Nat) : Bool :=
  let i := k / 256
  (decide (0x2400 ≤ i) && decide (i ≤ 0x24FF)) || i == 0x2800 || i == 0x2801 || i == 0x2A01 ||
    (decide (0x6000 ≤ i) && decide (i ≤ 0x600F))

/-- A core is absent or held (R7). A held one stays so while stage 6 tests it and its floor plan state reads 6 (R257, R276). -/
def State.coreGone (s : State) (c : PCore) : Bool :=
  s.fp c == 4 || s.fp c == 5 || s.test.cores.any (fun t => t.core == c && t.prior == 5)

/-- The entry belongs to an absent or held core or port (R7). -/
def State.unitAbsent (s : State) (k : Nat) : Bool :=
  let i := k / 256
  if h : 0x3000 ≤ i ∧ i ≤ 0x3257 then s.coreGone ⟨i - 0x3000, by omega⟩
  else if h : 0x5000 ≤ i ∧ i ≤ 0x5011 then s.get (portKey ⟨i - 0x5000, by omega⟩ 1) == 0
  else false

/-- A value fits its entry (R349): its type's width, a BOOL of 0 or 1, the table's values. -/
def Entry.fits (e : Entry) (v : Word) : Bool := decide (v.toNat < 2 ^ e.ty.bits) && e.rng.ok v.toNat

/-- What every write meets before the rules of its own chapter: service, existence, type, access, value, fault state,
life cycle, unit, and a write still in progress, which two chapters order themselves (R47, R369) (R347 to R349, R239, R7,
R365; log entry 22). -/
def State.writeCheck (s : State) (k : Nat) (v : Word) (content : Bool) : Option WEnd :=
  match entryOf k with
  | none => if s.romService && !romServed k then some (.refused 7) else some .noObject
  | some e =>
    if s.romService && !romServed k then some (.refused 7)
    else if !s.dutyRuns 0 then some .busy
    else if (e.ty == .str || e.ty == .dom || e.ty == .raw) != content then some (.refused 5)
    else if e.acc == .const || e.acc == .ro then some (.refused 2)
    else if !content && !e.fits v then some (.refused 1)
    else if s.faulted && !faultServed k then some (.refused 6)
    else if !(e.lc.testBit s.lc) then some (.refused 4)
    else if s.unitAbsent k then some (.refused 9)
    else if (s.status k).st == .inProgress && k != key 0x1220 1 &&
        k != key 0x1100 2 then some .busy
    else none

/-- A write to the entry k on a path: its entry's arbiter grants it (R22, R24), then what every write meets, then the body of its
own rule. -/
def State.granted (s : State) (path : Path) (k : Nat) (v : Word) (content : Bool) (body : State → State × WEnd) : State :=
  if !s.pathServed path then s
  else
    let s := (s.grant (writeArbiter k) s.now 0).2.countAccess path
    match s.writeCheck k v content with
    | some e => s.endGrant path k e
    | none =>
      let (s, e) := body s
      s.endGrant path k e

/-! ### Staging (R363 to R367) -/

/-- Writes that wait: distinct entries (R365). -/
def State.stagedCount (s : State) : Nat := (s.staged.map (·.key)).dedup.length

/-- Active domains at whose next boundary a class B write of the entry applies. -/
def State.waitFor (s : State) (e : Entry) : List Dom :=
  match e.dom with
  | some n => s.activeDoms.filter (fun d => d.val == n)
  | none => s.activeDoms

/-- A value becomes the newest; what was in force stays in force for the waiting domains that did not wait already. -/
def State.stage (s : State) (k : Nat) (v : Word) (waiting : List Dom) : State :=
  let held := s.staged.filter (fun x => x.key == k)
  let more := waiting.filter (fun d => !held.any (fun x => d ∈ x.waiting))
  let s : State := if more.isEmpty then s
    else { s with staged := s.staged ++ [{ key := k, old := s.get k, oldCont := s.content k, waiting := more }] }
  s.put k v

/-- The same for content. -/
def State.stageContent (s : State) (k : Nat) (b : Bytes) (waiting : List Dom) : State :=
  let held := s.staged.filter (fun x => x.key == k)
  let more := waiting.filter (fun d => !held.any (fun x => d ∈ x.waiting))
  let s : State := if more.isEmpty then s
    else { s with staged := s.staged ++ [{ key := k, old := s.get k, oldCont := s.content k, waiting := more }] }
  s.setContent k b

/-- There is room for a staged write of the entry (R365). -/
def State.stageRoom (s : State) (k : Nat) : Bool :=
  s.staged.any (fun x => x.key == k) || decide (s.stagedCount < 512)

/-- A class B write of a value (R363, R364). -/
def State.writeB (s : State) (e : Entry) (k : Nat) (v : Word) : State × WEnd :=
  let w := s.waitFor e
  if w.isEmpty then (s.put k v, .done)
  else if !s.stageRoom k then (s, .busy)
  else (s.stage k v w, .staged)

/-- A class B write of content. -/
def State.writeContentB (s : State) (e : Entry) (k : Nat) (b : Bytes) : State × WEnd :=
  let w := s.waitFor e
  if w.isEmpty then (s.setContent k b, .done)
  else if !s.stageRoom k then (s, .busy)
  else (s.stageContent k b w, .staged)

/-- A class A entry's domain, or any domain for a chip-wide one, is active: the write is deferred. -/
def State.activeFor (s : State) (e : Entry) : Bool := !(s.waitFor e).isEmpty

/-- Active domains whose proof fraction in force is not 0 (R366). -/
def State.proofedDoms (s : State) : List Dom := s.activeDoms.filter (fun d => s.period d != 0)

/-- Items of a write that must wait for a drain (R367): every old value stays in force until its end. A drain of other
entries under way leaves no room for another (log entry 23). -/
def State.beginDrain (s : State) (items : List (Nat × Word)) (path : Path) : State × WEnd :=
  let s1 := items.foldl (fun s i => s.stage i.1 i.2 s.activeDoms) s
  match s.drain with
  | some w =>
    if items.all (fun i => w.items.any (fun j => j.1 == i.1)) then
      ({ s1 with drain := some { w with items := w.items.map (fun j =>
          match items.find? (fun i => i.1 == j.1) with | some i => i | none => j) } }, .staged)
    else (s, .busy)
  | none =>
    let s2 : State := { s1 with drain := some { items := items, path := path, domains := s.proofedDoms } }
    (s2.arm .drainTimeout (ms (s.nat (key 0x1030 2))), .staged)

/-- A class X write (R366). -/
def State.writeX (s : State) (e : Entry) (k : Nat) (v : Word) (drain : Bool) (path : Path) : State × WEnd :=
  if s.proofedDoms.isEmpty then s.writeB e k v
  else if !drain then (s, .deferred)
  else if !s.stageRoom k then (s, .busy)
  else s.beginDrain [(k, v)] path

/-- The drain timeout wins (R367): the old values stand again, for every domain, and the held barriers are released. -/
def State.dropDrain (s : State) (w : Drain) : State :=
  let s := w.items.foldl (fun s i =>
    let old := match s.staged.find? (fun x => x.key == i.1) with
      | some x => x.old
      | none => s.get i.1
    let s : State := { s with staged := s.staged.filter (fun x => x.key ≠ i.1) }
    (s.put i.1 old).endWrite i.1 .deferred 0) s
  s.endDrain.bump (key 0x1030 6)

/-- A value of the entry's class, its own rules met. -/
def State.writeValue (s : State) (e : Entry) (k : Nat) (v : Word) (drain : Bool) (path : Path) : State × WEnd :=
  let v := e.rng.keepBits v
  match e.cls with
  | .i => (s.put k v, .done)
  | .k => (s.put k v, .done)
  | .b => s.writeB e k v
  | .a => if s.activeFor e then (s, .deferred) else (s.put k v, .done)
  | .x => s.writeX e k v drain path

/-- A content of the entry's class, its own rules met. -/
def State.writeContent (s : State) (e : Entry) (k : Nat) (b : Bytes) : State × WEnd :=
  match e.cls with
  | .b => s.writeContentB e k b
  | .a => if s.activeFor e then (s, .deferred) else (s.setContent k b, .done)
  | _ => (s.setContent k b, .done)

end Sys2Proof.Machine
end

