-- ==== Sys2Proof/Machine/Firmware.lean ====
section
/-! DEFINITION. The Proofreader cores: heartbeats, takeover and return of duties (R12 to R17), and the activation of a staged
firmware image (R32). -/

namespace Sys2Proof.Machine

/-! ### Heartbeats -/

/-- 200 µs of silence: four missed heartbeats (R14). -/
def silence : Nat := us 200

/-- PC_HEARTBEAT (R14): a running core's heartbeat reaches the other three, and the count of its missed ones begins anew. -/
def execPcHeartbeat (pc : PcNo) (s : State) : Host.Outcome State Fault Refusal :=
  let s := s.begin
  if !s.pcRunning pc then .next s
  else
    let s := s.arrives (.pcSilent pc) 6
    .next ((s.send (.heartbeat pc)).arm (.pcSilent pc) silence)

/-- Duty sets carried by a core: its field of the duty map. -/
def State.dutySets (s : State) (p : PcNo) : List PcNo :=
  allPcs.filter (fun n => (s.get (key 0x1020 5)).getLsbD (4 * p.val + n.val))

/-- The core that takes the duties of a silent one (R14): the lowest running core, or the next that carries fewer than two
duty sets; the lowest when every one carries two. -/
def State.dutyTaker (s : State) : Option PcNo :=
  let run := allPcs.filter s.pcRunning
  match run.find? (fun p => decide ((s.dutySets p).length < 2)) with
  | some p => some p
  | none => run.head?

/-- Cores in reset or retired: lost (R17). -/
def State.pcsLost (s : State) : Nat := (allPcs.filter (fun p => s.get (pcKey p) == 1 || s.get (pcKey p) == 3)).length

/-- A silent core is retired to the Attic when it was silent within the hour before (R16), else reset, the arbiter of its reset
control granting it once (R15). -/
def State.stopPc (s : State) (pc : PcNo) : State :=
  let x := s.pc pc
  let twice := match x.lastSilent with
    | some t => decide (s.t < t.toNat + hour 1)
    | none => false
  let s := s.setPc pc { x with lastSilent := some s.now, returning := false }
  if twice then (s.putN (pcKey pc) 3).retireOther 2 10 pc.val 0
  else (((s.grant (pcArbiter pc) s.now 0).2.putN (pcKey pc) 1).bump (key 0x1020 6)).send (.resetPc pc)

/-- The duties of a core that stopped move (R14, R16). With no running core left they stay where they are. -/
def State.moveDuties (s : State) (pc : PcNo) : State :=
  match s.dutyTaker with
  | some q => (s.dutySets pc).foldl (fun s n => s.giveDuty n q) s
  | none => s

/-- The loss of one or two cores is class U, of a third class F (R17). -/
def State.raisePcLost (s : State) (pc : PcNo) : State :=
  if 3 ≤ s.pcsLost then s.raise 0x11 0 [] else s.raise 0x10 pc.val []

/-- PC_SILENT (R14 to R17): 200 µs of silence end while its timeout is armed. -/
def execPcSilent (pc : PcNo) (s : State) : Host.Outcome State Fault Refusal :=
  let s := s.begin
  if !s.expired (.pcSilent pc) || !s.pcRunning pc then .next s
  else
    let s := (s.expire (.pcSilent pc)).stopPc pc
    .next ((s.moveDuties pc).raisePcLost pc).settleAll

/-- PC_READY (R16): a reset core has reloaded its code. Its duties return at the next step boundary; with no domain active
there is none to wait for, and they return at once. -/
def execPcReady (pc : PcNo) (s : State) : Host.Outcome State Fault Refusal :=
  let s := s.begin
  if s.get (pcKey pc) != 1 || s.img.activating then .next s
  else
    let s := (s.putN (pcKey pc) 0).setPc pc { s.pc pc with returning := true }
    let s := s.arm (.pcSilent pc) silence
    .next (if s.activeDoms.isEmpty then s.returnDuties else s).settleAll

/-! ### Activation of a staged image (R32) -/

/-- A write of object 0x1010.06 with an accepted image: with `wait`, every job is drained to its next boundary first; else
it is deferred while a job runs. -/
def activateImage (wait : Bool) (s : State) : State × WEnd :=
  if s.get (key 0x1010 5) != 2 then (s, .refused 8)
  else if s.img.activating || s.img.waitIdle then (s, .busy)
  else if s.activeDoms.isEmpty then (s.beginActivation, .progress)
  else if wait then ({ s with img := { s.img with waitIdle := true } }, .progress)
  else (s, .deferred)

/-- ACTIVATE_WHEN_IDLE (R32). -/
def execActivateWhenIdle (path : Path) (s : State) : Host.Outcome State Fault Refusal :=
  .next (s.begin.granted path (key 0x1010 6) 1 false (activateImage false)).settleAll

/-- DRAIN_AND_ACTIVATE (R32). -/
def execDrainAndActivate (path : Path) (s : State) : Host.Outcome State Fault Refusal :=
  .next (s.begin.granted path (key 0x1010 6) 2 false (activateImage true)).settleAll

end Sys2Proof.Machine
end

