-- ==== Sys2Proof/Machine/Stewards.lean ====
section
/-! DEFINITION. Frames and timeouts of the steward path, and the writes that a steward awaits (R27, R29, R53, R102, R113, R120,
R123, R125, R126, R165, R190, R203, R220, R239, R291). -/

namespace Sys2Proof.Machine

/-- A frame that the chip takes in the role it needs acts; any other is foreign (R27). -/
def State.framed (s : State) (env : Env) (role : Nat) (act : State → State) : State :=
  let s := s.begin
  (if s.accepts env && s.role == role then act s else s.foreign).settleAll

/-- The same for a frame that names the job's domain. -/
def State.framedFor (s : State) (env : Env) (role : Nat) (d : Dom) (act : State → State) : State :=
  s.framed env role (fun s => if s.jobDom = some d ∧ (s.dom d).active then act s else s)

/-! ### Heartbeats (R29) -/

/-- A newly assigned steward is there (R29): the chip's steps that are not committed are reported again, from the last step
that the job proved on, and its proofs across chips that have no result yet are asked for again (log entry 184). -/
def State.resumeJob (s : State) : State :=
  if !s.job.resume then s
  else
    let s := s.upJob (fun j => { j with resume := false, told := none, steps := [] })
    match s.jobDom with
    | none => s
    | some d =>
      let again (r : StepRec) : StepRec := if r.committed then r else { r with reported := false }
      let s := s.upDom d (fun x => { x with steps := x.steps.map again })
      let l := s.proofs.filter (fun p => p.d == d && p.remote && p.served.isNone && p.result.isNone)
      l.foldl (fun s p =>
        if s.role = 2 then s.placeRemote s.rank d p.k p.s p.index else s.toSteward (.proofRequest d p.k p.s p.index)) s

/-- STEWARD_HEARTBEAT_SEND: at each period, to each worker. -/
def execStewardHeartbeatSend (s : State) : Host.Outcome State Fault Refusal :=
  let s := s.begin
  if !s.expired .stewardHeartbeatSend || s.role ≠ 2 then .next s
  else
    let s := (s.toWorkers .heartbeat).put (key 0x2C00 9) s.now
    .next ((s.arm .stewardHeartbeatSend (us (s.roleVal (key 0x2C00 5)))).resumeJob).settleAll

/-- STEWARD_HEARTBEAT: the worker's steward-loss timeout is armed anew; once the steward is declared lost it is late. -/
def execStewardHeartbeat (env : Env) (s : State) : Host.Outcome State Fault Refusal :=
  .next (s.framed env 1 (fun s =>
    if s.get (key 0x2C00 7) ≠ 0 then s.late
    else
      let s := s.arrives .stewardTimeout 4
      ((s.put (key 0x2C00 9) s.now).arm .stewardTimeout (us (s.roleVal (key 0x2C00 6)))).resumeJob))

/-- STEWARD_TIMEOUT: the steward is lost. -/
def execStewardTimeout (s : State) : Host.Outcome State Fault Refusal :=
  let s := s.begin
  if !s.expired .stewardTimeout || s.role ≠ 1 then .next s
  else
    let i := match s.jobDom with
      | some d => d.val
      | none => 0
    let s := (s.expire .stewardTimeout).putN (key 0x2C00 7) 1
    .next (s.raise 0x12 i []).settleAll

/-! ### Reports and the job's steps -/

/-- WORKER_STEP_REPORT (R125). -/
def execWorkerStepReport (env : Env) (d : Dom) (n : Nat) (proven : Option Nat) (colophon : Colophon) (s : State) :
    Host.Outcome State Fault Refusal :=
  .next (s.framedFor env 2 d (fun s => s.jobReport d env.src n proven colophon))

/-- JOB_GALLEY_CLEAR (R102, R125). -/
def execJobGalleyClear (env : Env) (d : Dom) (n : Nat) (proven : Option Nat) (s : State) : Host.Outcome State Fault Refusal :=
  .next (s.framedFor env 1 d (fun s => s.jobClearHere d n proven))

/-- FAILURE_REPORT (R125). -/
def execFailureReport (env : Env) (d : Dom) (kind : FailureKind) (s : State) : Host.Outcome State Fault Refusal :=
  .next (s.framedFor env 2 d (fun s => s.stewardFailure d env.src kind))

/-- REMOTE_TAINT (R120). -/
def execRemoteTaint (env : Env) (d : Dom) (n : Nat) (s : State) : Host.Outcome State Fault Refusal :=
  .next (s.framedFor env 1 d (fun s => s.remoteTaintHere d n))

/-- STEWARD_ROLLBACK_ORDER (R113, R312): the target is the step before the restart, never below this chip's committed step. A
sparing that waited for it goes on. -/
def execStewardRollbackOrder (env : Env) (d : Dom) (target : Nat) (incarnation : BitVec 4) (s : State) :
    Host.Outcome State Fault Refusal :=
  .next (s.framedFor env 1 d (fun s =>
    let s := s.upDom d (fun x => { x with jobHeld := none })
    let s := s.rollback d (max ((target + 1) % 2 ^ 48) (s.restartStep d)) (some incarnation)
    let s := s.upDom d (fun x => { x with sparingWaits := false })
    if (s.dom d).sparings.isEmpty then s else s.sparingNext d))

/-! ### Start in step (R53) -/

/-- The steward takes a worker's arm status: a missed or refused arm fails the start; with every report in, the deadline is
met. -/
def State.takeStatus (s : State) (d : Dom) (r : Rank) (st : Byte) : State :=
  if s.job.armT.isNone then s.late
  else if st = 3 ∨ st = 4 then s.startFailed d
  else
    let s := s.upJob (fun j => { j with arms := j.arms.filter (fun a => a.1 ≠ r) ++ [(r, st)] })
    if (s.jobRanks.filter (fun q => q ≠ s.rank)).all (fun q => s.job.arms.any (fun a => a.1 == q)) then
      s.arrives .startReportDeadline 4
    else s

/-- START_STATUS_REPORT (R53). -/
def execStartStatusReport (env : Env) (status : Byte) (s : State) : Host.Outcome State Fault Refusal :=
  .next (s.framed env 2 (fun s => match s.jobDom with
    | some d => s.takeStatus d env.src status
    | none => s))

/-- START_REPORT_DEADLINE (R53): a report is missing at T. -/
def execStartReportDeadline (s : State) : Host.Outcome State Fault Refusal :=
  let s := s.begin
  if !s.expired .startReportDeadline then .next s
  else match s.jobDom with
    | some d => .next ((s.expire .startReportDeadline).startFailed d).settleAll
    | none => .next s.endStart

/-- STEP_DISCARD_ORDER (R53). -/
def execStepDiscardOrder (env : Env) (d : Dom) (s : State) : Host.Outcome State Fault Refusal :=
  .next (s.framedFor env 1 d (fun s => s.discardStart d))

/-! ### Proofs across chips (R126) -/

/-- CROSS_CHIP_PROOF_REQUEST. -/
def execCrossChipProofRequest (env : Env) (d : Dom) (k : LCore) (n index : Nat) (s : State) :
    Host.Outcome State Fault Refusal :=
  .next (s.framedFor env 2 d (fun s => s.placeRemote env.src d k n index))

/-- CROSS_CHIP_PROOF_ISSUE: `rank` is the proofed chip, to which the result goes, `index` the place in this chip's pool from which the
proof core is chosen. -/
def execCrossChipProofIssue (env : Env) (d : Dom) (k : LCore) (n : Nat) (place : Rank × Nat) (s : State) :
    Host.Outcome State Fault Refusal :=
  .next (s.framedFor env 1 d (fun s => s.serveProof d k n place.2 place.1))

/-! ### Lost links and ranks (R123, R190, R203, R239) -/

/-- The steward acts on a link loss (R123): the job goes back to before the abandoned step and waits for new routes. -/
def State.linkLost (s : State) (d : Dom) (n : Nat) : State :=
  (s.supersedeNarrow.upJob (fun j => { j with waitRoutes := true })).jobRollback d n

/-- The links of the multi-chip job's domain changed (R209 bit 12). -/
def State.disturbLinks (s : State) : State := (s.activeDoms.filter s.multi).foldl (fun s d => s.disturb d 12) s

/-- A port failed (R123): with packets of the multi-chip job in flight the lowest of their steps is abandoned. On a worker its
barrier is held until the steward's rollback (R124). -/
def State.portFails (s : State) (p : PortNo) (packets : List (Dom × Nat)) : State :=
  let s := s.disturbLinks
  let l := packets.filter (fun x => s.multi x.1 && (s.dom x.1).active)
  match l with
  | [] => s
  | x :: r =>
    let n := r.foldl (fun m y => min m y.2) x.2
    let s := (s.bump (key 0x2109 1)).putN (key 0x2109 2) (x.1.val * 2 ^ 48 + n)
    let s := (s.putN (key 0x2109 3) p.val).raise 0x38 0 []
    if s.role = 2 then s.linkLost x.1 n
    else (s.upDom x.1 (fun y => { y with abandoned := some n })).toSteward (.linkLoss x.1 n p)

/-- LINK_PORT_FAILURE (R123). -/
def execLinkPortFailure (p : PortNo) (packets : List (Dom × Nat)) (s : State) : Host.Outcome State Fault Refusal :=
  .next (s.begin.portFails p packets).settleAll

/-- LINK_LOSS_REPORT (R123). -/
def execLinkLossReport (env : Env) (d : Dom) (abandoned : Nat) (_p : PortNo) (s : State) : Host.Outcome State Fault Refusal :=
  .next (s.framedFor env 2 d (fun s => s.linkLost d abandoned))

/-- The steward's restart of the job's suspended domain, once nothing of it waits. -/
def State.restartJob (s : State) : State :=
  match s.jobDom with
  | some d => if s.role = 2 ∧ (s.dom d).suspended ∧ s.armOf d = 0 then s.stewardArm d else s
  | none => s

/-- A write of the route generation (R264): a higher one lets a restart after a link loss go on. -/
def writeRoute (v : Word) (s : State) : State × WEnd :=
  let old := s.nat (key 0x2B00 6)
  if v.toNat < old then (s, .refused 8)
  else
    let s := s.put (key 0x2B00 6) v
    if v.toNat = old then (s, .done) else ((s.disturbLinks.upJob (fun j => { j with waitRoutes := false })).restartJob, .done)

/-- ROUTE_GENERATION_WRITE (R264). -/
def execRouteGenerationWrite (path : Path) (value : Word) (s : State) : Host.Outcome State Fault Refusal :=
  .next (s.begin.granted path (key 0x2B00 6) value false (writeRoute value)).settleAll

/-- SPARING_COMPLETE_REPORT (R190). -/
def execSparingCompleteReport (env : Env) (d : Dom) (s : State) : Host.Outcome State Fault Refusal :=
  .next (s.framedFor env 2 d (fun s =>
    (s.upJob (fun j => { j with waitSparing := j.waitSparing.filter (fun r => r ≠ env.src) })).restartJob))

/-- A write of rank_replaced (R203): the rank is no longer lost, and the job goes back to its committed step. -/
def replaceRank (v : Word) (s : State) : State × WEnd :=
  if s.role ≠ 2 then (s, .refused 8)
  else
    let s := s.upJob (fun j => { j with lost := j.lost.filter (fun r => r.toNat ≠ v.toNat) })
    (match s.jobDom with
     | some d => if (s.dom d).active then s.jobRollback d (s.restartStep d) else s
     | none => s, .done)

/-- RANK_REPLACED (R203). -/
def execRankReplaced (path : Path) (rank : Word) (s : State) : Host.Outcome State Fault Refusal :=
  .next (s.begin.granted path (key 0x1305 3) rank false (replaceRank rank)).settleAll

/-- FAULT_FRAME (R239): the sending chip's rank is lost. -/
def execFaultFrame (env : Env) (s : State) : Host.Outcome State Fault Refusal :=
  .next (s.framed env 2 (fun s => match s.jobDom with
    | some d => s.stewardFailure d env.src .rankEnded
    | none => s.upJob (fun j => { j with lost := j.lost.filter (fun r => r ≠ env.src) ++ [env.src] })))

/-- STEWARD_HOLD_ORDER (R165, R220, R221): hold the barriers after a poison consumption (none) or after step n of a
divergence, or run the priority proof of the first diverging core. -/
def execStewardHoldOrder (env : Env) (d : Dom) (divergence : Option (Nat × Option LCore)) (s : State) :
    Host.Outcome State Fault Refusal :=
  .next (s.framedFor env 1 d (fun s => match divergence with
    | none => s.upDom d (fun x => { x with jobHeld := some 0 })
    | some (n, none) =>
      let s := s.upDom d (fun x => { x with jobHeld := some (n + 1) })
      if s.lockstep d = 2 then (s.putN (key 0x2C10 6) 2).upJob (fun j => { j with diverged := some n }) else s
    | some (n, some k) => s.narrowingProof d n k))

/-! ### Frozen chips (R291) -/

/-- Timeouts of the steward that await another chip: start reports, the mirror's colophon, proofs on other chips. -/
def State.awaitsChip (s : State) (r : Rank) : Instr → Bool
  | .startReportDeadline => true
  | .compareTimeout _ => r == s.partner
  | .proofTimeout d k (n, i) => s.proofs.any (fun p => p.d == d && p.k == k && p.s == n && p.id == i && p.remote)
  | _ => false

/-- FREEZE_REPORT (R291): the timeouts that await the chip are held until it reports its release. -/
def execFreezeReport (env : Env) (frozen : Bool) (s : State) : Host.Outcome State Fault Refusal :=
  .next (s.framed env 2 (fun s =>
    let l := s.job.frozen.filter (fun r => r ≠ env.src)
    if frozen then (s.upJob (fun j => { j with frozen := l ++ [env.src] })).holdTimers (s.awaitsChip env.src)
    else
      let s := s.upJob (fun j => { j with frozen := l })
      s.resumeTimers (fun c => s.awaitsChip env.src c && !l.any (fun r => s.awaitsChip r c) && !s.holdsTimer c)))

end Sys2Proof.Machine
end

