-- ==== Sys2Proof/Machine/Lockstep.lean ====
section
/-! DEFINITION. Regeneration runs (R212 to R214) and the comparison and narrowing of a lock-step pair (R216 to R222)
(08_determinism_and_lockstep.md). -/

namespace Sys2Proof.Machine

/-! ### Regeneration runs -/

/-- Step q of d, at galley clear, not committed and not discarded, with a record of Lk (R212). -/
def State.regenStep (s : State) (d : Dom) (k : LCore) (q : Nat) : Bool :=
  (s.dom d).active && (s.dom d).steps.any (fun r =>
    r.n == q && r.clear && !r.committed && !r.discarded && (r.core? k).isSome)

/-- The pool core of a regeneration run (R96, R212): the first that is not Lk's and has a free proof place. -/
def State.regenCore (s : State) (d : Dom) (k : LCore) : Option PCore :=
  (firstFrom (s.pool d) 0 (fun c => some c != s.physOf k && s.hasPlace c)).map (·.2)

/-- A request (R212): object 0x2108.0A shows why one is not accepted. -/
def requestRegen (v : Nat) (s : State) : State × WEnd :=
  let q := bits v 47 0
  if h : bits v 63 61 < 8 ∧ bits v 60 51 < 576 then
    let d : Dom := ⟨bits v 63 61, h.1⟩
    let k : LCore := ⟨bits v 60 51, h.2⟩
    if !s.regenStep d k q then (s.putN (key 0x2108 0xA) 3, .refused 8)
    else if s.regen.isSome then (s.putN (key 0x2108 0xA) 4, .refused 8)
    else match s.regenCore d k with
      | none => (s.putN (key 0x2108 0xA) 4, .refused 8)
      | some c =>
        let r : Regen := { d := d, k := k, s := q, core := c, seed := s.seedOf d k q, done := false, scratch := [] }
        let s : State := { s.putN (key 0x2108 0xA) 1 with regen := some r }
        let s := (s.send (.regen d k q c r.seed)).disturbCore c 6
        (s.arm .regenTimeout (us (s.natFor d (key 0x2102 2))), .done)
  else (s, .refused 1)

/-- REGEN_REQUEST (R212). -/
def execRegenRequest (path : Path) (value : Word) (s : State) : Host.Outcome State Fault Refusal :=
  .next (s.begin.granted path (key 0x2108 9) value false (requestRegen value.toNat)).settleAll

/-- Regeneration record, 40 bytes (R214). -/
def State.regenRecord (s : State) (r : Regen) (colophon : Colophon) (units : Nat) : Bytes :=
  let own := (s.coreRec? r.d r.s r.k).map (·.acc)
  le 8 s.t ++ le 2 r.core.val ++ le 2 r.k.val ++ le 4 units ++ le 4 (2 ^ 30 - s.nat (key 0x2102 6) * 2 ^ 20) ++
    le 1 (bitOf (own == some colophon)) ++ le 3 0 ++ le 16 colophon.toNat

/-- The colophon of a list of output units under a step's keys (R100). -/
def unitsColophon (keys : Colophon × Colophon × Colophon) (l : List OutUnit) : Colophon :=
  l.foldl (fun c u => foldUnit keys c (unitWord u) (maskedData u.mask u.data)) 1

/-- REGEN_RUN_DONE (R212 to R214): the run's output units, in order of issue, whose entries stand in its core's proof scratch. A run
that nothing awaits any more, or of another core than the one it was given to, is late; one with more units than the scratch holds is exceeded. -/
def execRegenRunDone (core : PCore) (units : List OutUnit) (exceeded : Bool) (s : State) : Host.Outcome State Fault Refusal :=
  let s := s.begin
  match s.regen with
  | none => .next s.late
  | some r =>
    if r.done || r.core != core then .next s.late
    else
      let s := s.arrives .regenTimeout 2
      if exceeded || decide (s.nat (key 0x2102 6) * 2 ^ 20 < 80 * units.length) then .next (s.endRegen 6).settleAll
      else
        let keys := (((s.dom r.d).step? r.s).map (·.keys)).getD (0, 0, 0)
        let s := s.setContent (key 0x2108 0xB) (s.regenRecord r (unitsColophon keys units) units.length)
        let r : Regen := { r with done := true, scratch := units.flatMap unitEntry }
        .next { s.putN (key 0x2108 0xA) 2 with regen := some r }.settleAll

/-- REGEN_TIMEOUT (R213). -/
def execRegenTimeout (s : State) : Host.Outcome State Fault Refusal :=
  let s := s.begin
  if !s.expired .regenTimeout then .next s else .next ((s.expire .regenTimeout).endRegen 5).settleAll

/-- The scratch and the proof place of a finished run are released (R214). -/
def releaseRegen (s : State) : State × WEnd :=
  match s.regen with
  | some r => if r.done then (s.endRegen 0, .done) else (s, .refused 8)
  | none => (s, .refused 8)

/-- REGEN_RELEASE (R214). -/
def execRegenRelease (path : Path) (s : State) : Host.Outcome State Fault Refusal :=
  .next (s.begin.granted path (key 0x2108 0xC) 1 false releaseRegen).settleAll

/-! ### Comparison and narrowing -/

/-- COMPARE_TIMEOUT (R218): the mirror is lost to the pair. -/
def execCompareTimeout (n : Nat) (s : State) : Host.Outcome State Fault Refusal :=
  let s := s.begin
  if !s.expired (.compareTimeout n) then .next s
  else
    let s := s.expire (.compareTimeout n)
    match s.jobDom with
    | some d => if s.lockstep d = 1 then .next (s.partnerLost d n).settleAll else .next s
    | none => .next s

/-- NARROWING_FETCH_RESPONSE (R220): what was fetched from the partner. -/
def execNarrowingFetchResponse (env : Env) (fetch : NarrowFetch) (s : State) : Host.Outcome State Fault Refusal :=
  .next (s.framed env 2 (fun s =>
    match s.job.narrow with
    | some _ => if env.src = s.partner then s.takeFetch fetch else s
    | none => s))

/-- WORK_DIGEST_REPORT (R220): the mirror's work digests. This chip's own come from its probes. -/
def execWorkDigestReport (env : Env) (digests : List WorkDigest) (s : State) : Host.Outcome State Fault Refusal :=
  .next (s.framed env 2 (fun s =>
    match s.job.narrow with
    | some n =>
      if (n.stage = 3 ∨ n.stage = 4) ∧ env.src = s.partner then
        let n := { n with digests := n.digests.filter (fun x => x.1 ≠ env.src) ++ [(env.src, digests)] }
        (s.upJob (fun j => { j with narrow := some n })).narrowDigests
      else s
    | none => s))

/-- Object 0x2C10.0A acts while the divergence is unattributed (R221). -/
def ifUnattributed (body : Narrow → State → State × WEnd) (s : State) : State × WEnd :=
  match s.job.narrow with
  | some n => if n.stage = 6 ∧ s.get (key 0x2C10 6) = 3 then body n s else (s, .refused 8)
  | none => (s, .refused 8)

/-- The pair restarts from the committed step. -/
def restartPair (n : Narrow) (s : State) : State × WEnd :=
  (((s.upJob (fun j => { j with narrow := none })).putN (key 0x2C10 6) 1).stewardArm n.d, .done)

/-- The job is ended. -/
def endPair (path : Path) (n : Narrow) (s : State) : State × WEnd :=
  ((s.upJob (fun j => { j with narrow := none })).endJob n.d (originOf path), .done)

/-- DIVERGENCE_RESTART_PAIR (R221). -/
def execDivergenceRestartPair (path : Path) (s : State) : Host.Outcome State Fault Refusal :=
  .next (s.begin.granted path (key 0x2C10 0xA) 1 false (ifUnattributed restartPair)).settleAll

/-- DIVERGENCE_END_JOB (R221). -/
def execDivergenceEndJob (path : Path) (s : State) : Host.Outcome State Fault Refusal :=
  .next (s.begin.granted path (key 0x2C10 0xA) 2 false (ifUnattributed (endPair path))).settleAll

end Sys2Proof.Machine
end

