-- ==== Sys2Proof/Machine/Bist.lean ====
section
/-! DEFINITION. Spare rows and columns of a slice (R161), and self-test: the units under test, the judgement of a result, the
repairs of a slice, and the end of a core's tests (R271 to R285) (06_stored_data_integrity.md, 11_self_test.md). -/

namespace Sys2Proof.Machine

/-! ### Spare rows and columns (R161) -/

/-- Spare rows of a bank that the fuse map takes. -/
def State.fuseRows (s : State) (c : PCore) (b : Nat) : Nat :=
  match s.bring.fuses with
  | some f => (f.spareRows.filter (fun r => r.1 == c && r.2.val == b)).length
  | none => 0

/-- Spare rows of the whole slice that the fuse map takes. -/
def State.fuseRowsAll (s : State) (c : PCore) : Nat :=
  match s.bring.fuses with
  | some f => (f.spareRows.filter (fun r => r.1 == c)).length
  | none => 0

def State.fuseColumns (s : State) (c : PCore) : Nat :=
  match s.bring.fuses with
  | some f => (f.spareColumns.filter (fun x => x == c)).length
  | none => 0

/-- Rows of a bank on a repair list. -/
def rowsOf (l : List (Nat × Nat)) (b : Nat) : Nat := (l.filter (fun r => r.1 == b)).length

/-- A row of bank b can be added to the repair list: the bank has a spare row left and the list holds fewer than 64. -/
def State.rowFits (s : State) (c : PCore) (b : Nat) : Bool :=
  decide (s.fuseRows c b + rowsOf (s.slice c).rows b < 8) && decide ((s.slice c).rows.length < 64)

/-- Objects .98, .99, .9A and .B5 of a core follow its slice's lists. -/
def State.showRepairs (s : State) (c : PCore) : State :=
  let x := s.slice c
  let s := s.putN (coreKey c 0x98) (256 - s.fuseRowsAll c - x.applied.length)
  let s := s.putN (coreKey c 0x99) (16 - s.fuseColumns c - x.appliedCols.length)
  let s := s.putN (coreKey c 0x9A) (x.rows.filter (fun r => r ∉ x.applied)).length
  s.putN (coreKey c 0xB5) x.columns.length

/-- A row joins the repair list, which the Cellar keeps (R161, R337). -/
def State.addRow (s : State) (c : PCore) (r : Nat × Nat) : State :=
  let x := s.slice c
  if r ∈ x.rows then s
  else
    let s := (s.setSlice c { x with rows := x.rows ++ [r] }).showRepairs c
    s.configItem 0x104 c.val ((s.slice c).rows.flatMap (fun r => le 4 (r.1 * 2 ^ 20 + r.2 * 32)))

/-- A column group, by bank and bit, joins the column repair list (R275). -/
def State.addColumn (s : State) (c : PCore) (g : Nat × Nat) : State :=
  let x := s.slice c
  if g ∈ x.columns then s
  else
    let s := (s.setSlice c { x with columns := x.columns ++ [g] }).showRepairs c
    s.configItem 0x105 c.val ((s.slice c).columns.flatMap (fun g => le 2 g.1 ++ le 2 g.2))

/-- The rows of a list that find a spare row of their bank, in the list's order. -/
def State.placedRows (s : State) (c : PCore) (l : List (Nat × Nat)) : List (Nat × Nat) :=
  l.foldl (fun acc r => if s.fuseRows c r.1 + rowsOf acc r.1 < 8 then acc ++ [r] else acc) []

/-- A slice has no spare for a candidate (R161): "spares exhausted", and its core is fenced within the limits of R199, else
reads "fence requested". In a bring-up it is retired as R259 states. -/
def State.sparesExhausted (s : State) (c : PCore) (record : Bytes) (forced : Bool := false) : State :=
  let s := s.raiseWith 0x54 c.val record forced
  if s.bringing then (s.fenceSteps c 7 false true)
  else
    let (s, done) := s.fenceIfOn (s.domOfCore c) c 7
    if done then s else allEngines.foldl (fun s e => s.setGalley c e 2) s

/-- The repairs that a fill applies first (R160, R161): the row and the column list, as far as spares go. -/
def State.applyRepairs (s : State) (c : PCore) : State :=
  let x := s.slice c
  let l := s.placedRows c x.rows
  (s.setSlice c { x with applied := l, appliedCols := x.columns.take (16 - s.fuseColumns c) }).showRepairs c

/-- A slice's fill with its repairs (R159 to R161). -/
def State.repairAndFill (s : State) (c : PCore) : State := (s.fillSlice c).applyRepairs c

/-- The fill of a slice is complete (R159, R160): every poison mark is gone, and the slice reads filled. -/
def State.filled (s : State) (c : PCore) : State :=
  let x := s.slice c
  ((s.setSlice c { x with poisoned := [] }).putN (coreKey c 0x97) 2).putN (coreKey c 0x96) 0

/-! ### Units and records -/

/-- Kind and number of a unit in the self-test record. -/
def unitNumber : TestUnit → Nat × Nat
  | .core c => (1, c.val)
  | .slice c => (2, c.val)
  | .stack n => (3, n.val)
  | .central i => (4, i.val)
  | .port p => (5, p.val)
  | .scanEngine m => (6, m.val)

/-- The core of a unit that is a core or a slice. -/
def unitCore : TestUnit → Option PCore
  | .core c => some c
  | .slice c => some c
  | _ => none

/-- What a self-test record holds beside the unit (11, 'Self-test record'). -/
structure Judged where
  outcome : Nat
  interval : Nat
  final : BitVec 128
  addr : Nat
  bit : Nat
  cells : Nat
  rows : Nat
  cols : Nat
  deriving DecidableEq, Repr

/-- Nothing found; `o` the outcome. -/
def Judged.plain (o : Nat) : Judged :=
  { outcome := o, interval := 0xFFFFFFFF, final := 0, addr := 0, bit := 0xFFFF, cells := 0, rows := 0, cols := 0 }

/-- The self-test record, 64 bytes. -/
def State.selftestRecord (s : State) (u : TestUnit) (start : Word) (tests : Nat) (j : Judged) (forced : Bool) : Bytes :=
  let n := unitNumber u
  le 8 s.t ++ le 8 start.toNat ++ le 1 n.1 ++ le 1 (bitOf forced * 128 + j.outcome) ++ le 2 n.2 ++ le 1 tests ++
    le 1 (s.nat (key 0x2600 4)) ++ le 1 (if s.stageNo = 6 then s.test.batch else 0xFF) ++ le 1 0 ++
    le 4 (s.nat (key 0x2600 5)) ++ le 4 j.interval ++ le 16 j.final.toNat ++ le 4 j.addr ++ le 2 j.bit ++
    le 2 (min j.cells 0xFFFF) ++ le 2 j.rows ++ le 1 j.cols ++ List.replicate 5 0

/-! ### Judgement of results (R272 to R275, R278) -/

/-- Logic BIST (R272, R273): the first interval whose sample is not the expected one, and whether the signature is. -/
def State.judgeLogic (s : State) (u : TestUnit) (r : TestResult) : Nat × Bool :=
  let seed := s.nat (key 0x2600 4)
  let kind := (unitNumber u).1
  let n := s.nat (key 0x2600 5) / 1024
  let first := (r.samples.zipIdx.find? (fun x => x.1 != Config.bistSignature seed (x.2 + 1) kind)).map (·.2)
  (first.getD 0xFFFFFFFF, r.final == Config.bistSignature seed n kind)

/-- The tests of a core: outcome 1 logic, 2 core memory (R274), as far as the mask asks for them. -/
def State.judgeCore (s : State) (u : TestUnit) (mask : Nat) (r : TestResult) : Judged :=
  let (first, ok) := s.judgeLogic u r
  let logic := mask.testBit 0
  let j : Judged := { Judged.plain 0 with
    interval := if logic then first else 0xFFFFFFFF
    final := if logic then r.final else 0 }
  let j := if mask.testBit 1 then
      match r.sram with
      | [] => j
      | x :: l => { j with outcome := 2, addr := x.1.toNat * 2 ^ 24 + x.2.1.toNat, bit := x.2.2.toNat, cells := l.length + 1 }
    else j
  if logic && !ok then { j with outcome := 1 } else j

/-- Bank and row of a physical location (R154). -/
def locBank (l : BitVec 25) : Nat := l.toNat / 2 ^ 20

def locRow (l : BitVec 25) : Nat := l.toNat / 32 % 2 ^ 15

/-- Bits of a bank that fail in more than 64 of its rows (R275): each takes a column group. -/
def badColumns (cells : List (BitVec 25 × BitVec 16)) : List (Nat × Nat) :=
  let l := (cells.map (fun x => (locBank x.1, x.2.toNat))).dedup
  l.filter (fun g => decide (64 < ((cells.filter (fun x => locBank x.1 == g.1 && x.2.toNat == g.2)).map
    (fun x => locRow x.1)).dedup.length))

/-- The other failing rows. -/
def badRows (cells : List (BitVec 25 × BitVec 16)) (cols : List (Nat × Nat)) : List (Nat × Nat) :=
  ((cells.filter (fun x => (locBank x.1, x.2.toNat) ∉ cols)).map (fun x => (locBank x.1, locRow x.1))).dedup

/-- Slice memory BIST (R275): the failures turned into repairs, and the outcome: 0 passed, 3 passed with repairs,
4 unrepairable. -/
def State.judgeSlice (s : State) (c : PCore) (r : TestResult) : State × Judged :=
  let cols := badColumns r.cells
  let rows := badRows r.cells cols
  let x := s.slice c
  let newCols := cols.filter (fun g => g ∉ x.columns)
  let newRows := rows.filter (fun g => g ∉ x.rows)
  let j : Judged := match r.cells with
    | [] => Judged.plain 0
    | y :: l => { Judged.plain 3 with addr := y.1.toNat, bit := y.2.toNat, cells := l.length + 1 }
  let fits := decide (s.fuseColumns c + x.columns.length + newCols.length ≤ 16) &&
    decide (x.rows.length + newRows.length ≤ 64) &&
    (List.range 32).all (fun b => decide (s.fuseRows c b + rowsOf x.rows b + rowsOf newRows b ≤ 8))
  if !fits then (s, { j with outcome := 4 })
  else
    let s := newCols.foldl (fun s g => s.addColumn c g) s
    let s := newRows.foldl (fun s g => s.addRow c g) s
    let s := s.bumpBy (key 0x2600 0xD) (newCols.length + newRows.length)
    let j := { j with rows := newRows.length, cols := newCols.length }
    if r.cells.isEmpty || r.verifyClean then (s, j) else (s, { j with outcome := 4 })

/-! ### Running tests -/

/-- Object 0x2600.01. -/
def State.showTests (s : State) : State :=
  s.putN (key 0x2600 1) (if s.stageNo = 6 then 1 else if s.test.stack.isSome then 3 else if s.test.running.isEmpty then 0 else 2)

/-- The test of a unit begins: its timeout is armed at the end of its isolation (R280), which is here. -/
def State.startUnit (s : State) (u : TestUnit) : State :=
  let s : State := { s with test := { s.test with running := s.test.running ++ [(u, s.now)] } }
  (s.send (.selftest u)).arm (.selftestTimeout u) (ms (s.nat (key 0x2600 6)))

/-- The tests of a core begin (R276): it is isolated, in state 6, and its proofs, runs and probe are over. -/
def State.startCore (s : State) (c : PCore) (mask : Nat) : State :=
  let prior := match s.test.awaiting.find? (fun x => x.1 == c) with
    | some x => x.2
    | none => s.fp c
  let t : CoreTest := { core := c, mask := mask, prior := prior, failed := false }
  let s : State := { s with test := { s.test with awaiting := s.test.awaiting.filter (fun x => x.1 ≠ c) } }
  let s := (s.takeCore c).isolateCore c
  let s := (s.setFp c 6).putN (coreKey c 0xB1) 1
  let s : State := { s with test := { s.test with cores := s.test.cores ++ [t] } }
  let s := if mask % 4 = 0 then s else s.startUnit (.core c)
  if mask.testBit 2 then ((s.abortScans c).putN (coreKey c 0x97) 0).startUnit (.slice c) else s

def State.coreTest? (s : State) (c : PCore) : Option CoreTest := s.test.cores.find? (fun t => t.core == c)

/-- The test of a unit leaves the controller. -/
def State.dropUnit (s : State) (u : TestUnit) : State :=
  ({ s with test := { s.test with running := s.test.running.filter (fun (x : TestUnit × Word) => x.1 ≠ u) } }).disarm (.selftestTimeout u)

/-- A core is back in the state it held before its test (R279); a fenced or retired one stays isolated. In stage 6 no specimen
run has passed yet, so that every core stays isolated (R384): stage 7 admits it. -/
def State.returnCore (s : State) (c : PCore) (prior : Nat) : State :=
  let s := s.setFp c prior
  if prior = 2 ∨ prior = 3 ∨ s.stageNo = 6 then s else s.unisolateCore c

/-- The record of a unit's test: objects 0x2600.0A to .0C and those of its core. -/
def State.keepTest (s : State) (u : TestUnit) (j : Judged) (b : Bytes) : State :=
  let s := (s.bump (key 0x2600 0xB)).setContent (key 0x2600 0xA) b
  let s := if j.outcome = 1 ∨ j.outcome = 2 ∨ j.outcome = 4 ∨ j.outcome = 6 then s.bump (key 0x2600 0xC) else s
  match unitCore u with
  | some c =>
    let s := ((s.setContent (coreKey c 0xB4) b).put (coreKey c 0xB2) s.now).bump (coreKey c 0xB3)
    match u with
    | .core _ => s.putN (coreKey c 0xB6) j.interval
    | _ => s
  | none => s

/-- The source that an outcome raises, with its instance (R278). -/
def outcomeSource (u : TestUnit) (o : Nat) : Option (Nat × Nat) :=
  match u with
  | .core c => if o = 1 ∨ o = 6 then some (0x90, c.val) else if o = 2 then some (0x91, c.val) else none
  | .slice c => if o = 3 then some (0x92, c.val) else if o = 6 then some (0x90, c.val) else if o = 4 then some (0x91, c.val) else none
  | .central _ => if o = 0 then none else some (0x93, 0)
  | .stack n => if o = 0 then none else some (0x85, n.val)
  | _ => none

/-- A bit of object 0x2600.0E. -/
def State.centralBit (s : State) (i : Nat) : State := s.put (key 0x2600 0xE) (s.get (key 0x2600 0xE) ||| (1 <<< i))

/-- A failed unit that is no core: retired, or the fault state by its class F source (R278). A held stack stays held whatever
its test finds (R5). -/
def State.retireFailed (s : State) (u : TestUnit) : State :=
  match u with
  | .central i => (s.countStage 3).centralBit (42 + i.val)
  | .scanEngine m => (s.retireOther 4 9 m.val 0).centralBit m.val
  | .port p => ((s.retireOther 3 9 p.val 0).centralBit (24 + p.val)).putN (portKey p 1) 9
  | .stack n =>
    if s.bring.stackSt.getD n.val 0 = 2 then s
    else
      let s : State := { s with bring := { s.bring with stackSt := s.bring.stackSt.set n.val 3 } }
      s.retireOther 5 9 n.val 0
  | _ => s

/-- The next batch of stage 6 begins when the one before it is done: at most object 0x2600.02 cores (R257, R277). -/
def State.nextBatch (s : State) : State :=
  if !s.test.cores.isEmpty || s.test.waiting.isEmpty then s
  else
    let n := s.nat (key 0x2600 2)
    let l := s.test.waiting.take n
    let s := (s.countStage 2)
    let s : State := { s with test := { s.test with waiting := s.test.waiting.drop n, batch := s.test.batch + 1 } }
    l.foldl (fun s c => s.startCore c 3) s

/-- A core that failed an in-service test is fenced and retired within the limit of R199 (R278); the Bool says whether it was.
One that was fenced before the test holds its place in the floor plan: it is retired, and counts in the limit as well. -/
def State.fenceFailed (s : State) (c : PCore) (prior : Nat) : State × Bool :=
  if prior ≠ 2 then s.fenceAuto c 9
  else if s.mayFence c then
    (({ s with fences := s.fences.filter (fun t => decide (s.t < t + sec 86400)) ++ [s.t] }).fenceSteps c 9 false true, true)
  else (s.raise 0x61 0 [], false)

/-- Every test of a core is over (R278, R279). In stage 6 a failing core is retired as R259 states. In service it is fenced
and retired within the limit of R199, else it stays in state 6; a passing core gets a specimen run. -/
def State.coreDone (s : State) (t : CoreTest) : State :=
  let c := t.core
  let s : State := { s with test := { s.test with cores := s.test.cores.filter (fun x => x.core ≠ c) } }
  if s.stageNo = 6 then
    let s := s.countStage 0
    let s := s.putN (coreKey c 0xB1) (if t.failed then 3 else 2)
    let s := if t.failed then (s.fenceSteps c 9 false true).countStage 1 else s.returnCore c t.prior
    let s : State := if t.failed then { s with bring := { s.bring with exceptions := true } } else s
    s.nextBatch
  else
    let s := s.putN (key 0x2600 8) (if t.failed then 3 else 2)
    if !t.failed then
      let s := s.putN (coreKey c 0xB1) 2
      ({ s with test := { s.test with returning := s.test.returning.filter (fun (x : PCore × Nat) => x.1 ≠ c) ++ [(c, t.prior)] } }).issueSpecimen
        c 5
    else if t.prior = 3 then (s.putN (coreKey c 0xB1) 3).setFp c 3
    else
      let (s, done) := s.fenceFailed c t.prior
      if done then s.putN (coreKey c 0xB1) 3
      else { s.putN (coreKey c 0xB1) 4 with test := { s.test with awaiting := s.test.awaiting ++ [(c, t.prior)] } }

/-- An unrepairable slice found by a stack request retires its core (R278, R282); in the safe state the core is retired as at
bring-up. -/
def State.sliceFailed (s : State) (c : PCore) : State :=
  if s.stageNo = 9 then (s.fenceAuto c 9).1 else s.fenceSteps c 9 false true

/-- The stack request ends when nothing of it runs. -/
def State.stackDone (s : State) : State :=
  if s.test.stack.isSome && s.test.running.isEmpty then
    let s := s.putN (key 0x2600 8) (if s.test.stackFailed then 3 else 2)
    { s with test := { s.test with stack := none, stackFailed := false } }
  else s

/-- The test of a unit ends with a judgement: record, source, and what follows. -/
def State.endUnit (s : State) (u : TestUnit) (start : Word) (tests : Nat) (j : Judged) : State :=
  let b := s.selftestRecord u start tests j false
  let s := (s.dropUnit u).keepTest u j b
  let s := match outcomeSource u j.outcome with
    | some (n, i) => match unitCore u with
      | some c => s.raiseWith n i b false
      | none => s.raise n i b
    | none => s
  let bad := j.outcome ≠ 0 ∧ j.outcome ≠ 3
  let s : State := if bad ∧ s.test.stack.isSome then { s with test := { s.test with stackFailed := true } } else s
  match unitCore u with
  | some c =>
    match s.coreTest? c with
    | some t =>
      let t := { t with failed := t.failed || decide bad }
      let s : State := { s with test := { s.test with cores := s.test.cores.map (fun x => if x.core = c then t else x) } }
      if s.test.running.any (fun (x : TestUnit × Word) => unitCore x.1 == some c) then s.showTests else (s.coreDone t).showTests
    | none => ((if bad then s.sliceFailed c else s).stackDone).showTests
  | none => ((if bad then s.retireFailed u else s).stackDone).showTests

/-- A core's test is aborted (R281): it is re-initialised and back in its state, without a specimen run; a slice that was
under test is filled again. -/
def State.abortTest (s : State) (c : PCore) : State :=
  match s.coreTest? c with
  | none => s
  | some t =>
    let l := s.test.running.filter (fun (x : TestUnit × Word) => unitCore x.1 == some c)
    let s := l.foldl (fun (s : State) (x : TestUnit × Word) =>
      let j := Judged.plain 5
      let b := s.selftestRecord x.1 x.2 t.mask j false
      (s.dropUnit x.1).keepTest x.1 j b) s
    let s : State := { s with test := { s.test with cores := s.test.cores.filter (fun x => x.core ≠ c) } }
    let s := (s.putN (coreKey c 0xB1) 5).putN (key 0x2600 8) 4
    let s := (s.returnCore c t.prior)
    (if t.mask.testBit 2 then s.repairAndFill c else s).showTests

/-- The tests of stage 6 (R257): every present core that is not retired, in batches, and with the first batch the central
units, the scan engines and the link port controllers. -/
def State.startTests (s : State) : State :=
  let cores := allCores.filter (fun c => s.fp c != 3 && s.fp c != 4)
  let ports := allPorts.filter (fun p => s.nat (portKey p 1) ≠ 9 ∧ (s.nat (portKey p 1) ≠ 0 ∨ p ∈ s.bring.heldPorts))
  let engines := allMses.filter (fun m => !s.atticHas 4 m.val)
  let s : State := { s.putN (key 0x2600 0xE) 0 with test := { s.test with waiting := cores, batch := 0 } }
  let s := (List.finRange 6).foldl (fun s i => s.startUnit (.central i)) s
  let s := engines.foldl (fun s m => s.startUnit (.scanEngine m)) s
  let s := ports.foldl (fun s p => s.startUnit (.port p)) s
  s.nextBatch.showTests

end Sys2Proof.Machine
end

