-- ==== Sys2Proof/Machine/Stages.lean ====
section
/-! DEFINITION. The stages of a bring-up (R242 to R270): what begins each, when it is done, and the chain from one to the next
(10_bring_up.md). -/

namespace Sys2Proof.Machine

/-! ### Variants (R4, R5, R252) -/

def variantNo : Nat := Config.variant.val

def logicalOf (v : Nat) : Nat := [576, 512, 384].getD v 576

def limitsOf (v : Nat) : Nat := [576, 576, 432].getD v 576

def portsOf (v : Nat) : Nat := [18, 16, 12].getD v 18

def stacksOf (v : Nat) : Nat := [4, 4, 3].getD v 4

def powerOf (v : Nat) : Nat := [1500, 1340, 1030].getD v 1500

/-- The clock cap in MHz: under limits derivation 2,000 × logical ÷ limits, down to a multiple of 25 (R5). -/
def clockOf (limits : Bool) (v : Nat) : Nat := if limits then 2000 * logicalOf v / limitsOf v / 25 * 25 else 2000

/-- Standing of stack n: 0 in service, 1 trained, 2 held, 3 absent or retired. -/
def State.stackSt (s : State) (n : StackNo) : Nat := s.bring.stackSt.getD n.val 0

/-! ### Stage 3 (R252, R183) -/

/-- Stacks and ports under the derivation in force: absent, retired, held, or in service (R4, R5, R252). -/
def State.applyUnits (s : State) (f : FuseMap) (limits : Bool) : State :=
  let goodStacks := (List.finRange 4).filter (fun n => n ∉ f.stackNos && !s.atticHas 5 n.val)
  let keptStacks := if limits then goodStacks.take (stacksOf variantNo) else goodStacks
  let st := (List.finRange 4).map (fun n => if n ∈ keptStacks then 0 else if n ∈ goodStacks then 2 else 3)
  let goodPorts := allPorts.filter (fun p => p ∉ f.ports && !s.atticHas 3 p.val)
  let keptPorts := if limits then goodPorts.take (portsOf variantNo) else goodPorts
  let s : State := { s with bring := { s.bring with stackSt := st, heldPorts := goodPorts.filter (fun p => p ∉ keptPorts) } }
  allPorts.foldl (fun s p =>
    s.putN (portKey p 1) (if p ∈ keptPorts then 1 else if s.atticHas 3 p.val ∧ p ∉ f.ports then 9 else 0)) s

/-- State of a core by fuses, stacks and the Attic; `good` stands for a good core. -/
def State.coreStanding (s : State) (f : FuseMap) (good : Nat) (c : PCore) : Nat :=
  if c ∈ f.cores ∨ s.stackSt (stackOf c) = 3 then 4
  else if s.atticHas 1 c.val then 3
  else if s.stackSt (stackOf c) = 2 then 5
  else good

/-- Physical core that the host map names for Lk; 0xFFFF none (R183). -/
def mapEntry (m : Bytes) (k : Nat) : Nat := if m.length < 2 * k + 2 then 0xFFFF else fieldAt m (2 * k) 2

/-- The host map is refused (R183): it names a core twice, one that is not good, or one at or above the target count. -/
def mapRefused (m : Bytes) (good : List PCore) (target : Nat) : Bool :=
  let l := ((List.range 576).map (mapEntry m)).filter (fun v => v ≠ 0xFFFF)
  decide (l.dedup.length < l.length) || l.any (fun v => !good.any (fun c => c.val == v)) ||
    (List.range 576).any (fun k => decide (target ≤ k) && mapEntry m k != 0xFFFF)

/-- The logical numbers of the good cores, as (core, number), under policy 0: ascending. -/
def numberAscending (good : List PCore) (target : Nat) : List (PCore × Nat) := (good.take target).zipIdx

/-- The same under policy 1: the named cores, and the rest filled from the others in ascending order. -/
def numberByMap (m : Bytes) (good : List PCore) (target : Nat) : List (PCore × Nat) :=
  let named := (List.range target).filterMap (fun k => (good.find? (fun c => c.val == mapEntry m k)).map (fun c => (c, k)))
  let free := good.filter (fun c => !named.any (fun x => x.1 == c))
  let gaps := (List.range target).filter (fun k => !named.any (fun x => x.2 == k))
  named ++ free.zip gaps

/-- Stage 1 of a cold start reads the derivation setting and the map policy from the Cellar's configuration region (R250): what
is written later takes effect at the next cold start (R6, class K of R363). -/
def State.latchSettings (s : State) : State :=
  if s.nat (key 0x2500 2) ≠ 0 then s
  else { s.putN (key 0x2500 0xC) (s.nat (key 0x2500 0xA)) with coldMap := (s.nat (key 0x1300 8), s.content (key 0x1300 9)) }

/-- The floor plan is built anew at a cold start (R183, R185), under the policy and the host map that stage 1 read. -/
def State.buildPlan (s : State) (f : FuseMap) (target : Nat) : State :=
  let good := allCores.filter (fun c => s.coreStanding f 0 c = 0)
  let policy := s.coldMap.1
  let m := s.coldMap.2
  let bad := decide (policy = 1) && mapRefused m good target
  let l := if policy = 1 ∧ !bad then numberByMap m good target else numberAscending good target
  let s := allCores.foldl (fun s c =>
    let k := (l.find? (fun x => x.1 == c)).map (·.2)
    let s := s.putN (coreKey c 0xA1) (s.coreStanding f (if k.isSome then 0 else 1) c)
    s.putN (coreKey c 0xA2) (k.getD 0xFFFF)) s
  let s := s.putN (key 0x1300 4) l.length
  let s := if bad then s.raise 0x63 0 [] else s
  if l.length < target then s.raise 0x66 0 [] else s

/-- In a warm recovery the map stays, less the cores retired since (R244). -/
def State.keepPlan (s : State) (f : FuseMap) : State :=
  allCores.foldl (fun s c => s.putN (coreKey c 0xA1) (s.coreStanding f (s.fp c) c)) s

/-- Index of a core's latest Attic entry; 0xFFFF none. -/
def State.latestEntry (s : State) (c : PCore) : Nat :=
  (((s.attic.zipIdx.filter (fun e => fieldAt e.1 8 1 == 1 && fieldAt e.1 0xA 2 == c.val)).getLast?).map (·.2)).getD 0xFFFF

/-- Retired cores with their dormant checkers, slices that are absent or held, and at a cold start the Attic index of every
core. -/
def State.showCores (s : State) (cold : Bool) : State :=
  allCores.foldl (fun s c =>
    let f := s.fp c
    let s := if cold then s.putN (coreKey c 0xA3) (s.latestEntry c) else s
    let s := if f = 3 then (s.setCoreStates c 3 3).isolateCore c else s
    s.putN (coreKey c 0x97) (if f = 4 ∨ f = 5 then 3 else 0)) s

/-- What stage 3 does with a fuse map that reads well (R252). -/
def State.applyFuses (s : State) (f : FuseMap) : State :=
  let cold := s.nat (key 0x2500 2) = 0
  let s : State := { s with bring := { s.bring with fuses := some f } }
  let limits := s.nat (key 0x2500 0xC) = 1
  let s := s.applyUnits f limits
  let old := s
  let s := if cold then s.buildPlan f (if limits then limitsOf variantNo else logicalOf variantNo) else s.keepPlan f
  let changed := (allCores.filter (fun c => old.fp c ≠ s.fp c ∨ old.lcOf c ≠ s.lcOf c)).length
  let s := (s.showCores cold).planChanged changed
  (s.putN (key 0x2500 0xD) (clockOf limits variantNo)).putN (key 0x2500 0xE) (powerOf variantNo)

/-! ### Stages 4 to 7 -/

/-- Stage 4 (R253): repairs and fill of every present slice. A row without a spare row is handled under R161. -/
def State.startFills (s : State) : State :=
  let l := allCores.filter s.slicePresent
  let s : State := { s with bring := { s.bring with fillLeft := l } }
  l.foldl (fun s c =>
    let s := (s.repairAndFill c).arm (.fillTimeout c) (ms (s.nat (key 0x2500 0x12)))
    if (s.slice c).applied.length < (s.slice c).rows.length && s.fp c ≠ 3 then s.sparesExhausted c [] else s) s

/-- Training of a stack is started. -/
def State.trainStack (s : State) (n : StackNo) : State :=
  (s.send (.trainMemory n)).arm (.memoryTrainingTimeout n) (ms (s.nat (key 0x2500 0x13)))

/-- Stage 5 (R254): every port and stack in service. -/
def State.startTraining (s : State) : State :=
  let ports := allPorts.filter (fun p => s.nat (portKey p 1) = 1)
  let stacks_ := (List.finRange 4).filter (fun n => s.stackSt n = 0)
  let s : State := { s with bring := { s.bring with linkLeft := ports, memLeft := stacks_, retried := [] } }
  let s := ports.foldl (fun s p =>
    ((s.bump (portKey p 0xB)).send (.trainLink p)).arm (.linkTrainingTimeout p) (ms (s.nat (key 0x2B00 5)))) s
  stacks_.foldl (fun s n => s.trainStack n) s

/-- Stage 7 (R258): a specimen run on every core that is not fenced, retired, absent or held. -/
def State.startSpecimens (s : State) : State :=
  let l := allCores.filter (fun c => s.fp c = 0 ∨ s.fp c = 1)
  let s : State := { s with bring := { s.bring with specLeft := l } }
  let s := s.arm .specimenStageTimeout (ms (s.nat (key 0x2500 0x15)))
  l.foldl (fun s c => s.issueSpecimen c 1) s

/-- The numbers of the cores retired in stages 4 to 7 move at the end of stage 7 (R259). One without a candidate stays
unassigned. -/
def State.moveRetired (s : State) : State :=
  let l := allCores.filter (fun c => s.fp c = 3 ∧ s.lcOf c ≠ 0xFFFF)
  let (s, lost) := l.foldl (fun (a : State × Bool) c =>
    let s := a.1
    if h : s.lcOf c < 576 then
      match nearest s.reserveCandidates c with
      | some q => ((s.moveNumber ⟨s.lcOf c, h⟩ c q).countStage 3, a.2)
      | none => ((s.putN (coreKey c 0xA2) 0xFFFF).putN (key 0x1300 4) (s.nat (key 0x1300 4) - 1), true)
    else a) (s, false)
  if lost then s.raise 0x66 0 [] else s

/-! ### Stage 8: the cabling check (R260 to R263, R267) -/

/-- A port trained in stage 5 that is not retired. -/
def State.portTrained (s : State) (p : PortNo) : Bool := s.lanes p != 0 && s.nat (portKey p 1) != 9

/-- The cabling record, 32 bytes. -/
def State.cablingRecord (s : State) (p : PortNo) (kind partner : Nat) (plan : Bytes) (forced : Bool) : Bytes :=
  let e := (plan.drop (16 * p.val)).take 16
  let seen := s.nat (portKey p 8) != 0
  le 8 s.t ++ le 1 p.val ++ le 1 (bitOf forced * 128 + kind) ++ le 1 partner ++
    le 1 (if seen then s.nat (portKey p 6) else 0xFF) ++ le 8 (if seen then s.nat (portKey p 5) else 2 ^ 64 - 1) ++
    le 8 (fieldAt e 0 8) ++ le 1 (fieldAt e 8 1) ++ le 1 (if seen then s.nat (portKey p 7) else 0) ++ le 1 (s.lanes p) ++ [0]

/-- A cabling record is written and its source raised. -/
def State.cable (s : State) (p : PortNo) (kind partner n : Nat) (plan : Bytes) : State :=
  let b := s.cablingRecord p kind partner plan false
  let s := ((s.bump (key 0x2B00 7)).setContent (key 0x2B00 8) b).countStage 3
  let s : State := { s with bring := { s.bring with exceptions := true } }
  s.raise n p.val b

/-- The neighbour seen on port p is the one that the plan expects on port q. -/
def State.seenIs (s : State) (plan : Bytes) (p q : PortNo) : Bool :=
  s.nat (portKey p 5) == fieldAt plan (16 * q.val) 8 && s.nat (portKey p 6) == fieldAt plan (16 * q.val + 8) 1 &&
    s.nat (portKey p 8) == fieldAt plan (16 * q.val + 9) 1

/-- The first test that a port with an answer fails (R260, R261), as port state, record kind, partner and source; none: it
passes. -/
def State.portTest (s : State) (p : PortNo) : Option (Nat × Nat × Nat × Nat) :=
  let plan := s.bring.copy.2.1
  let rev := s.nat (portKey p 7)
  let width := popCount (s.get (portKey p 2))
  if rev ≠ s.nat (key 0x2B00 0xA) / 256 ∧ rev ≠ s.nat (key 0x2B00 0xA) % 256 then some (5, 3, 0xFF, 0x82)
  else if s.get (portKey p 5) = ones64 then some (7, 8, 0xFF, 0x81)
  else if !plan.isEmpty && fieldAt plan (16 * p.val + 9) 1 == 0 then some (4, 6, 0xFF, 0x81)
  else if !plan.isEmpty && !s.seenIs plan p p then
    match allPorts.find? (fun q => q != p && s.nat (portKey q 8) != 0 && s.seenIs plan p q && s.seenIs plan q p) with
    | some q => some (4, 1, q.val, 0x81)
    | none => some (4, 2, 0xFF, 0x81)
  else if width < s.bring.copy.2.2 then some (8, 4, 0xFF, 0x83)
  else none

/-- The tests of one answered port are applied. In service an admitted port stays so, and a quarantined one too (R262,
R267). -/
def State.judgePort (s : State) (p : PortNo) : State :=
  let old := s.nat (portKey p 1)
  let keep := s.bring.recheck && (s.admitted p || old == 5)
  match s.portTest p with
  | some (st, kind, partner, n) =>
    let s := if keep then s else s.putN (portKey p 1) st
    s.cable p kind partner n s.bring.copy.2.1
  | none =>
    if old = 5 ∧ s.bring.recheck then s
    else if s.lanes p = 0xFF then s.putN (portKey p 1) 2
    else
      let s := s.putN (portKey p 1) 3
      s.cable p 4 0xFF 0x83 s.bring.copy.2.1

/-- Once every awaited answer is there or has timed out, the answered ports are judged (R260, R261). -/
def State.judgePorts (s : State) : State :=
  if s.bring.idLeft.isEmpty then
    let l := s.bring.answered
    let s : State := { s with bring := { s.bring with answered := [] } }
    let s := l.foldl (fun s p => s.judgePort p) s
    if s.bring.recheck then
      let s : State := { s with bring := { s.bring with recheck := false } }
      if (s.status (key 0x2B00 9)).st = .inProgress then s.endWrite (key 0x2B00 9) .completed 0 else s
    else s
  else s

/-- Identity requests go out on the ports of l (R260). -/
def State.askPorts (s : State) (l : List PortNo) (recheck : Bool) : State :=
  let s : State := { s with bring := { s.bring with
    idLeft := l, answered := [], recheck := recheck,
    copy := (s.get (key 0x2B00 1), s.content (key 0x2B00 2), s.nat (key 0x2B00 3)) } }
  let s := l.foldl (fun s p =>
    (s.send (.identityRequest p)).arm (.identityTimeout p) (ms (s.nat (key 0x2500 0x14)))) s
  s.judgePorts

/-- Ports held with no answer are checked again at every whole second (R262). -/
def State.armRecheck (s : State) : State :=
  if allPorts.any (fun p => s.nat (portKey p 1) == 7) then
    (if s.armed .identityRecheckTimer then s else s.armAt .identityRecheckTimer ((s.t / sec 1 + 1) * sec 1))
  else s.disarm .identityRecheckTimer

/-- Stage 8: identity requests on every trained port, records of those that did not train, and the wait for time. -/
def State.startCabling (s : State) : State :=
  let s : State := { s with bring := { s.bring with timeDone := s.nat (key 0x1200 3) = 2 } }
  let s := if s.bring.timeDone then s else s.arm .timeLockTimeout (ms (s.nat (key 0x2500 0x16)))
  let s := s.askPorts (allPorts.filter s.portTrained) false
  (allPorts.filter (fun p => s.nat (portKey p 1) = 6)).foldl (fun s p =>
    s.cable p 5 0xFF 0x84 s.bring.copy.2.1) s

/-! ### Stage 9 and the end of a chip reset -/

/-- The chip reset that a warm recovery belongs to completes, in service or in the safe state (R322, R325). -/
def State.chipResetOver (s : State) (outcome : Nat) : State :=
  match s.reset? .chip with
  | some r => (s.arrives (.resetTimeout .chip) 6).finishReset r outcome
  | none => s

/-- A window of the check budget begins, of the length that object 0x2201.02 holds then (R149). -/
def State.armBudget (s : State) : State :=
  let n := ms (s.nat (key 0x2201 2))
  ({ s with budgetWindow := n }).arm (.budgetWindowEnd 0 0 0 0) n

/-- The intervals of screening, supervision, digests and the Cellar's patrol begin at ready. -/
def State.startService (s : State) : State :=
  let s := s.arm .specimenInterval (sec (s.nat (key 0x2200 2)))
  let s := s.arm .crosscoreInterval (sec (s.nat (key 0x2200 4)))
  let s := s.arm .reprobeInterval (hour (s.nat (key 0x2202 4)))
  let s := s.arm (.supervisorSample []) (ms (s.nat (key 0x2206 1)))
  let s := s.armBudget
  s.arm (.cellarPatrol []) (hour (s.nat (key 0x2A00 0xE)))

/-- Ready (R243, R264): the cores are released to the host, and a late ready is raised. -/
def State.ready (s : State) : State :=
  let s := allCores.foldl (fun s c => if s.fp c = 0 ∨ s.fp c = 1 then s.upProbe c (fun p => { p with reset := false }) else s) s
  let s := (s.put (key 0x2500 4) s.now).putN (key 0x2500 5) (min s.bringupMs 0xFFFFFFFF)
  let s := s.planChanged 1
  let s := s.writeStage 0 0 false
  let b := s.content (key 0x2502 9)
  let plan := allCores.flatMap (fun c => le 1 (s.fp c) ++ le 1 (bitOf (s.slicePresent c) + 8 * bitOf (s.probe c).spared) ++
    le 2 (s.lcOf c))
  let s := s.configItem 0x109 0 plan
  let limit := if s.nat (key 0x2500 2) = 0 then s.nat (key 0x2500 7)
    else s.nat (key 0x2500 8) + (if s.nat (key 0x2500 9) = 1 then 1250 else 0)
  let s := if limit < s.bringupMs then s.raise 0x86 0 b else s
  (s.startService.armRecheck).chipResetOver 1

/-! ### The chain of stages -/

/-- The outcome with which the present stage is done, when it is: its units are all in (R248, R263). -/
def State.stageDone (s : State) : Option Nat :=
  let n := s.stageNo
  let o := bitOf s.bring.exceptions
  if n = 4 then (if s.bring.fillLeft.isEmpty then some o else none)
  else if n = 5 then (if s.bring.memLeft.isEmpty && s.bring.linkLeft.isEmpty then some o else none)
  else if n = 6 then
    (if s.nat (key 0x2500 2) = 1 ∧ s.get (key 0x2500 9) = 0 then some 3
     else if s.test.running.isEmpty && s.test.cores.isEmpty && s.test.waiting.isEmpty then some o else none)
  else if n = 7 then (if s.bring.specLeft.isEmpty then some o else none)
  else if n = 8 then
    (if s.bring.idLeft.isEmpty && (s.bring.timeDone || s.nat (key 0x1200 3) == 2) then some o else none)
  else none

/-- Stage n begins. -/
def State.startStage (s : State) (n : Nat) : State :=
  let s := s.putN (key 0x2500 1) n
  let s : State := { s with bring := { s.bring with stageBegun := s.now, counts := [0, 0, 0, 0], exceptions := false } }
  if n = 4 then s.startFills
  else if n = 5 then s.startTraining
  else if n = 6 then (if s.nat (key 0x2500 2) = 1 ∧ s.get (key 0x2500 9) = 0 then s else s.startTests)
  else if n = 7 then s.showTests.startSpecimens
  else if n = 8 then s.startCabling
  else if n = 9 then s.ready
  else s

/-- The present stage ends with an outcome, and the next begins unless the bring-up halts here (R266). -/
def State.passStage (s : State) (outcome : Nat) : State :=
  let n := s.stageNo
  let s := if n = 7 then (s.arrives .specimenStageTimeout 6).moveRetired else s
  let s := if n = 8 then s.disarm .timeLockTimeout else s
  let halt := decide (s.nat (key 0x2500 0xF) = n)
  let s := s.writeStage outcome 0 halt
  if halt then
    let s := (s.putN (key 0x2500 0xF) 0).configItem 0x10D 0 [0]
    { s with bring := { s.bring with halted := true, haltAt := s.now } }
  else s.startStage (n + 1)

/-- Pass on as long as the present stage is done. A freeze stops it where it stands (R249), a class F raise for good. -/
def State.stageGo : Nat → State → State
  | 0, s => s
  | fuel + 1, s =>
    if s.bring.halted || s.frz.on || s.faulted then s
    else match s.stageDone with
      | some o => State.stageGo fuel (s.passStage o)
      | none => s

/-- What follows a unit's completion in a bring-up. -/
def State.stageNext (s : State) : State := s.stageGo 9

/-- The present stage passes, by a command that ends it. -/
def State.endStage (s : State) (outcome : Nat) : State := (s.passStage outcome).stageNext

/-- A bring-up begins with stage 1 (R242). With a class F sticky bit the chip re-enters the fault state (R240, R244, R381). -/
def State.beginBringup (s : State) (kind : Nat) : State :=
  let s := ((s.putN (key 0x2500 1) 1).putN (key 0x2500 2) kind).put (key 0x2500 3) s.now
  let s := s.bump (key 0x2500 6)
  let s : State := { s with bring := { State.reset.bring with begun := s.now, stageBegun := s.now, fuses := s.bring.fuses } }
  if sourceNumbers.any (fun n => (sourceInfo n).map (·.cls) == some .f && s.anySticky n) then s.enterFault else s

end Sys2Proof.Machine
end

