-- ==== Sys2Proof/Machine/TimeBase.lean ====
section
/-! DEFINITION. Global time held to its source: loads and pulses (R37, R246, R379), beacons (R38, R40), corrections (R39), the
backup oscillator (R41), and the resumption of a stopped clock (R55) (02_time_and_steps.md). -/

namespace Sys2Proof.Machine

/-! ### Status and corrections -/

/-- Object 0x1200.03 follows the time base (R41). Reaching "locked" lets refused arms (R386) and stage 8 (R263) go on. -/
def State.showTime (s : State) : State :=
  let v := s.timeStatus
  let old := s.nat (key 0x1200 3)
  let s := s.putN (key 0x1200 3) v
  if v = 2 ∧ old ≠ 2 then
    let s := (s.rearm true).arrives .timeLockTimeout 6
    let s : State := if s.stageNo = 8 then { s with bring := { s.bring with timeDone := true } } else s
    s.stageNext
  else s

/-- The addend of a tick at nominal rate: 6.4 units (R34). -/
def nominalAddend : Nat := 0x666666666

/-- A rate correction in parts per 10^12 is in force, and the addend with it (R34, R39). -/
def State.setRate (s : State) (r : Int) : State :=
  let s := s.put (key 0x1200 9) (BitVec.ofInt 64 r)
  s.put (key 0x1200 7) (BitVec.ofInt 64 ((nominalAddend : Int) + nominalAddend * r / 10 ^ 12))

/-- A timeout of an instant, not of a duration: a jump of global time does not move it. -/
def absolute : Instr → Bool
  | .startTimeReached _ => true
  | .startReportDeadline => true
  | .timedFreeze => true
  | .timedRelease => true
  | .suspectSweep => true
  | .identityRecheckTimer => true
  | _ => false

/-- Global time jumps forward by n units, at a load (R246) or a forward step (R39): durations under way do not feel it. It never
decreases (R33), so it stays at the end of its 64 bits, which it does not reach in the rated life. -/
def State.jump (s : State) (n : Nat) : State :=
  { s with
    now := BitVec.ofNat 64 (min (s.t + n) (2 ^ 64 - 1))
    timers := s.timers.map (fun t => if absolute t.cmd then t else { t with due := t.due + n })
    bring := { s.bring with begun := s.bring.begun + BitVec.ofNat 64 n, haltAt := s.bring.haltAt + BitVec.ofNat 64 n } }

/-- Correct an offset (R39): by a rate change within the slew limit, or, above 1 ms ahead of the chip with no active domain,
by one forward step. What the rate correction is after such a step the spec does not say: DESIGN CHOICE, 0, since no offset is
left to remove (log entry 164). -/
def State.correct (s : State) (off : Int) : State :=
  let s := s.upTb (fun t => { t with offset := off })
  if (ms 1 : Int) < off ∧ s.activeDoms.isEmpty then
    let before := s.now
    let s := (s.bump (key 0x1200 0xC)).jump off.toNat
    let s := s.upTb (fun t => { t with log := t.log ++ [(0, before, s.now)], offset := 0 })
    s.setRate 0
  else
    let limit := s.nat (key 0x1200 8)
    let r := min (Config.slewRate off limit) (limit * 10 ^ 6)
    s.setRate (if off < 0 then -(r : Int) else if off = 0 then 0 else r)

/-- A measured offset: objects 0x1200.0A and .0B. -/
def State.measure (s : State) (off : Int) : State :=
  let s := s.put (key 0x1200 0xA) (BitVec.ofInt 64 off)
  if s.nat (key 0x1200 0xB) < off.natAbs then s.putN (key 0x1200 0xB) off.natAbs else s

/-- Entry into holdover (R40, R379): a class C error. -/
def State.enterHoldover (s : State) : State :=
  if s.tb.holdover then s
  else ((((s.upTb (fun t => { t with holdover := true })).bump (key 0x1201 0xA)).showTime).raise 0x13 0 [])

/-- Global time is loaded with v, at an instant `within` the tick (R37, R246): the first load after a cold start sets it,
with the time-set record. -/
def State.load (s : State) (v : Nat) (within : Nat) : State :=
  let before := s.t
  let first := !s.tb.timeSet
  let s := (s.jump (v - within - before)).putN (key 0x1200 5) v
  let s := s.upTb (fun t => { t with frac := 0, timeSet := true, pendingLoad := none, base := 2 })
  let b := le 8 before ++ le 8 v
  let s := if first then (s.event 0x011 b).setContent (key 0x2502 0xA) b else s
  s.showTime

/-! ### Loads and pulses -/

/-- A write of object 0x1200.04 (R37, R246). -/
def writeLoad (path : Path) (v : Word) (s : State) : State × WEnd :=
  let mode := s.nat (key 0x1200 2)
  if mode = 1 then (s, .refused 8)
  else if mode = 2 then
    if v.toNat < s.t then (s, .refused 8) else (s.load v.toNat 0, .done)
  else if v.toNat + s.nat (key 0x1200 6) < s.t then (s, .refused 8)
  else ((s.upTb (fun t => { t with pendingLoad := some (v, path), base := max t.base 1 })).showTime, .progress)

/-- LOAD_AT_PULSE (R37). -/
def execLoadAtPulse (path : Path) (value : Word) (s : State) : Host.Outcome State Fault Refusal :=
  .next (s.begin.granted path (key 0x1200 4) value false (writeLoad path value)).settleAll

/-- The watch for accepted pulses: 3 s (R379). -/
def State.armWatch (s : State) : State := s.arm .tpulseWatchTimeout (sec 3)

/-- The offset of a count from the nearest whole second: positive when the chip is behind. -/
def toSecond (count : Nat) : Int :=
  let r := count % sec 1
  if 2 * r < sec 1 then -(r : Int) else (sec 1 : Int) - r

/-- An edge in rack reference mode with no load pending, once global time is set (R37, R379). -/
def State.pulse (s : State) (at_ : Nat) : State :=
  let off := toSecond (at_ - s.nat (key 0x1200 6))
  if us 100 < off.natAbs then s
  else
    let s := (s.arrives .tpulseWatchTimeout 6).armWatch
    let s := ((s.measure off).upTb (fun t => { t with holdover := false })).correct off
    s.showTime

/-- TPULSE_EDGE (R37, R379): a rising edge, this many units into the tick. -/
def execTpulseEdge (within : Fin 7) (s : State) : Host.Outcome State Fault Refusal :=
  let s := s.begin
  let at_ := s.t + within.val
  if s.nat (key 0x1200 2) ≠ 0 then .next s
  else match s.tb.pendingLoad with
    | some (v, _) =>
      let v := v.toNat + s.nat (key 0x1200 6)
      if v < at_ then
        .next ((s.upTb (fun t => { t with pendingLoad := none })).endWrite (key 0x1200 4) .refused 8).settleAll
      else .next (((s.load v within.val).endWrite (key 0x1200 4) .completed 0).armWatch).settleAll
    | none => if s.tb.timeSet then .next (s.pulse at_).settleAll else .next s

/-- TPULSE_WATCH_TIMEOUT (R379): 3 s without an accepted edge. -/
def execTpulseWatchTimeout (s : State) : Host.Outcome State Fault Refusal :=
  let s := s.begin
  if !s.expired .tpulseWatchTimeout || s.nat (key 0x1200 2) ≠ 0 then .next s
  else .next ((s.expire .tpulseWatchTimeout).enterHoldover).settleAll

/-! ### Beacons -/

/-- BEACON_PERIOD (R38): an exchange that did not complete is counted, and the next begins. -/
def execBeaconPeriod (s : State) : Host.Outcome State Fault Refusal :=
  let s := s.begin
  if !s.expired .beaconPeriod then .next s
  else if !s.beacons then .next (s.expire .beaconPeriod)
  else
    let s := if s.tb.beacon.isSome then s.bump (key 0x1201 9) else s
    let s := (s.upTb (fun t => { t with beacon := some s.now })).send (.beacon s.now)
    .next (s.arm .beaconPeriod (us (s.nat (key 0x1201 3)))).settleAll

/-- BEACON_EXCHANGE (R38 to R40): the reply to the outstanding beacon. When the first exchanges lock the time base the
spec does not say: a free bit. -/
def execBeaconExchange (t1 t2 t3 t4 : Word) (residence : Nat) (s : State) : Host.Outcome State Fault Refusal :=
  let s := s.begin
  if s.tb.beacon ≠ some t1 then .next s.late
  else
    let res : Int := if s.get (key 0x1201 5) = 1 then residence else 0
    let rt : Int := ((t4.toNat : Int) - t1.toNat) - ((t3.toNat : Int) - t2.toNat) - res
    let delay := rt / 2 + (s.get (key 0x1201 6)).toInt
    let offset : Int := (t2.toNat : Int) - t1.toNat - delay
    let off := Config.beaconFilter s.tb.offset offset
    let s := (s.arrives .beaconLossHoldover 4).armBeaconLoss
    let s := (s.put (key 0x1201 7) s.now).put (key 0x1201 8) (BitVec.ofInt 64 rt)
    let (w, s) := s.fresh
    let s := s.upTb (fun t => { t with
      beacon := none, holdover := false
      base := if t.base = 2 ∨ w.getLsbD 0 then 2 else 1
      timeSet := t.timeSet || t.base == 2 || w.getLsbD 0 })
    .next (((s.measure offset).correct off).showTime).settleAll

/-- BEACON_LOSS_HOLDOVER (R40). -/
def execBeaconLossHoldover (s : State) : Host.Outcome State Fault Refusal :=
  let s := s.begin
  if !s.expired .beaconLossHoldover || !s.beaconMode then .next s
  else .next ((s.expire .beaconLossHoldover).enterHoldover).settleAll

/-- BEACON_AT_TIME_ROOT (R38): the root stamps t2 and answers at t3. -/
def execBeaconAtTimeRoot (worker : Rank) (t1 : Word) (s : State) : Host.Outcome State Fault Refusal :=
  let s := s.begin
  if !s.isRoot then .next s else .next (s.send (.beaconReply worker t1 s.now s.now))

/-! ### The reference clock (R41) -/

/-- REFCLK_LOSS: no edge for 100 ns; the changeover begins, and the loss is a class U error. -/
def execRefclkLoss (s : State) : Host.Outcome State Fault Refusal :=
  let s := s.begin
  if s.tb.refLost then .next s
  else .next ((s.upTb (fun t => { t with refLost := true })).raise 0x14 0 []).settleAll

/-- BACKUP_CHANGEOVER: the tick domain runs on the backup oscillator. -/
def execBackupChangeover (s : State) : Host.Outcome State Fault Refusal :=
  let s := s.begin
  if !s.tb.refLost || s.tb.backup then .next s
  else
    let s := s.upTb (fun t => { t with backup := true, since := s.now })
    .next ((s.bump (key 0x1200 0xD)).showTime).settleAll

/-- REFCLK_RETURN: 10 ms of reference. The offset gathered at up to 200 parts per million is the outside's, a free value; in
free run there is no source to be off from. -/
def execRefclkReturn (s : State) : Host.Outcome State Fault Refusal :=
  let s := s.begin
  if !s.tb.refLost then .next s
  else
    let worst := (s.t - s.tb.since.toNat) / 5000
    let was := s.tb.backup
    let s := s.upTb (fun t => { t with refLost := false, backup := false })
    let (w, s) := s.fresh
    let off : Int := (w.toNat % (2 * worst + 1) : Nat) - (worst : Int)
    let s := if was && s.nat (key 0x1200 2) ≠ 2 then s.correct off else s
    .next s.showTime.settleAll

/-! ### Stopped clocks (R55, R50) -/

/-- A core's first edge after a release (R293): once every frozen domain has reported it the chip runs. -/
def State.edgeSeen (s : State) (c : PCore) : State :=
  if c ∈ s.frz.releasing then
    let l := s.frz.releasing.filter (fun x => x ≠ c)
    let s : State := { s with frz := { s.frz with releasing := l } }
    if l.isEmpty then (s.arrives .freezeReleaseTimeout 6).putN (key 0x2800 0xB) 0 else s
  else s

/-- A spread of units in cycles of the core clock cap in force, rounded up (R49). A unit is a sixteenth of a nanosecond. -/
def State.spreadOf (s : State) (units : Nat) : Nat :=
  min ((units * s.nat (key 0x2500 0xD) + 15999) / 16000) 0xFFFF

/-- A core starts late, as its clock resumes (R50): its start is logged, and counts in objects .07 and .08 (R49). -/
def State.startLate (s : State) (c : PCore) : State :=
  if s.tb.log.any (fun e => e.1 = c.val + 1 ∧ e.2.1 = s.tb.startT ∧ e.2.2 = 0) then
    let first := if s.tb.anyStart then s.nat (key 0x1220 7) else s.t
    let s := (s.putN (key 0x1220 7) first).putN (key 0x1220 8) (max (s.nat (key 0x1220 8) * bitOf s.tb.anyStart) (s.spreadOf (s.t - first)))
    s.upTb (fun b => { b with anyStart := true, log := b.log.map (fun e =>
      if e.1 = c.val + 1 ∧ e.2.2 = 0 then (e.1, e.2.1, s.now) else e) })
  else s.upTb (fun b => { b with log := b.log.map (fun e =>
    if e.1 = c.val + 1 ∧ e.2.2 = 0 then (e.1, e.2.1, s.now) else e) })

/-- CLOCK_RESUMED: the clock domain of a core runs again; its crossing writes the resumption record, held check timeouts go
on (R79), and a late start has its time (R50). -/
def execClockResumed (core : PCore) (lastEdge : Word) (reason : BitVec 16) (s : State) : Host.Outcome State Fault Refusal :=
  let s := s.begin
  let s := s.event 0x013 (le 8 lastEdge.toNat ++ le 8 s.t ++ le 8 (s.lccOf core).toNat)
  let s := s.ringEvent core 7 (s.domOfCore core) 0xC reason.toNat
  let s := (s.upProbe core (fun p => { p with stopped := false })).resumeTimers (fun c => match c with
    | .checkTimeout w => w.core == core && !(s.frz.on && core ∈ s.frz.cores)
    | _ => false)
  let s := s.startLate core
  .next (if reason = 1 then s.edgeSeen core else s).settleAll

end Sys2Proof.Machine
end

