-- ==== Sys2Proof/Machine/Reinit.lean ====
section
/-! DEFINITION. What a chip reset, a power cycle and an assertion of PHY_PORST_N leave (R13, R329, R337, R350, R381), and the
beginning of a cold start (R242, R246, R382). -/

namespace Sys2Proof.Machine

/-- Entries that a configuration item of the Cellar, the Attic or the fuses keep through every reset (R337, R350). -/
def keptCold (k : Nat) : Bool :=
  let i := k / 256
  let j := k % 256
  k ∈ [key 0x1100 1, key 0x1100 4, key 0x1100 5, key 0x1300 8, key 0x1300 9, key 0x1304 1, key 0x2500 6, key 0x2500 0xA, key 0x2500 0xF,
    key 0x2601 2, key 0x2A00 2, key 0x2A00 3, key 0x2A00 4, key 0x2A00 5, key 0x2A00 6, key 0x2A00 0xA, key 0x2A00 0xC,
    key 0x2A00 0xF, key 0x2B00 2] ||
    (decide (0x3000 ≤ i) && decide (i ≤ 0x3257) && (j == 0xA3 || j == 0xB3 || j == 0xB5))

/-- Sticky words of class F sources, which a chip reset and PHY_PORST_N leave (R13, R240, R381). -/
def stickyF (k : Nat) : Bool :=
  let i := k / 256
  let j := k % 256
  decide (0x20 ≤ j) && decide (j ≤ 0x61) && decide (0x2400 ≤ i) && (sourceInfo (i - 0x2400)).map (·.cls) == some .f

/-- Entries whose table says that they count or hold since the cold start, which a warm recovery is none (R242), with the
floor plan and what stage 3 of a cold start derives (R244, R329). -/
def sinceCold (k : Nat) : Bool :=
  let i := k / 256
  let j := k % 256
  k ∈ [key 0x1000 0xE, key 0x1030 7, key 0x1030 8, key 0x1030 9, key 0x1030 0xA, key 0x1100 6, key 0x1300 4,
    key 0x1300 7, key 0x1301 2, key 0x1301 3, key 0x1305 2, key 0x2106 1, key 0x2106 2, key 0x2400 0x11, key 0x2500 0xC,
    key 0x2500 0xD, key 0x2500 0xE, key 0x2B00 7] ||
    (decide (0x2310 ≤ i) && decide (i ≤ 0x2327) && j == 8) ||
    (decide (0x3000 ≤ i) && decide (i ≤ 0x3257) && (j == 0xA1 || j == 0xA2 || (decide (j < 0x70) && j % 16 == 10))) ||
    (decide (0x5000 ≤ i) && decide (i ≤ 0x5011) && j == 0xB)

/-- Entries that a chip reset leaves: those R350 names as kept, the time base, and those above (R13). -/
def keptWarm (k : Nat) : Bool :=
  keptCold k || sinceCold k || (match entryOf k with
    | some e => e.keep
    | none => false)

/-- Timeouts of the time base, the chip reset's, and the delay of a fault state that a chip reset does not end, which are not
re-initialised by it (R13, R240, R325). -/
def timeTimer : Instr → Bool
  | .powerCycleDelay => true
  | .tpulseWatchTimeout => true
  | .beaconPeriod => true
  | .beaconLossHoldover => true
  | .resetTimeout r => r = .chip
  | _ => false

/-- Phory re-initialised: by a chip reset when `warm`, else as by a power cycle; with the class F sticky bits when
`keepF`. The Cellar, the Attic and the repair lists stay. -/
def State.reinit (s : State) (warm keepF : Bool) : State :=
  let keep (k : Nat) : Bool := keptCold k || (warm && keptWarm k) || (keepF && stickyF k)
  let stat : Tab Stat := if warm then
      s.stat.foldl (fun (t : Tab Stat) (e : Nat × Stat) => tabPut Stat.none t e.1 { e.2 with st := .completed, reason := 0 }) []
    else []
  let slices : Tab Slice := s.slices.foldl (fun (t : Tab Slice) (e : Nat × Slice) =>
    tabPut Slice.fresh t e.1 { Slice.fresh with rows := e.2.rows, columns := e.2.columns }) []
  let probes : Tab Probe := if warm then
      s.probes.foldl (fun (t : Tab Probe) (e : Nat × Probe) => tabPut Probe.fresh t e.1 { Probe.fresh with spared := e.2.spared }) []
    else []
  let tb : TimeBase := if warm then { s.tb with refusedArms := [] } else { State.reset.tb with refLost := s.tb.refLost }
  let img : Images := if warm then { State.reset.img with store := s.img.store, source := s.img.source } else State.reset.img
  { State.reset with
    pending := s.pending
    out := s.out
    free := s.free
    now := s.now
    dict := s.dict.filter (fun (e : Nat × Word) => keep e.1)
    cont := s.cont.filter (fun (e : Nat × Bytes) => keep e.1)
    stat := stat
    timers := if warm then s.timers.filter (fun t => timeTimer t.cmd) else []
    tb := tb
    slices := slices
    probes := probes
    img := img
    idleMoves := if warm then s.idleMoves else []
    badRegulators := if warm then s.badRegulators else []
    fences := if warm then s.fences else []
    err := { State.reset.err with faultAt := if warm then s.err.faultAt else 0 }
    fenceCounts := s.fenceCounts
    attic := s.attic
    holes := if warm then s.holes else []
    cel := s.cel
    coldStarts := s.coldStarts
    coldMap := s.coldMap
    keyCleared := warm && s.keyCleared
    lcToken := if warm then s.lcToken else none
    lcProgramming := if warm then s.lcProgramming else none
    powered := s.powered
    porst := s.porst
    brownOut := s.brownOut
    pwrcyc := warm && s.pwrcyc }

/-- The reset of the chip is asserted (R322): fenced and retired cores stay isolated, and the chip reset goes on. -/
def State.chipReinit (s : State) : State :=
  let l := s.rcv.resets.filter (fun r => r.id = .chip)
  let s := (s.zeroCycles s.presentCores).reinit true true
  let s := allCores.foldl (fun s c => if s.fp c = 2 ∨ s.fp c = 3 then s.isolateCore c else s) s
  ({ s with rcv := { s.rcv with resets := l } }.putN (key 0x2900 9) 4).send .resetChip

/-- The life-cycle state in force is the one that the fuses hold at stage 1 of a cold start (R369). The first cold start in
DECOMMISSIONED clears the key stores (R370). -/
def State.readLifeCycle (s : State) : State :=
  let pending := s.nat (key 0x1100 4)
  if pending = 0xFF then s
  else
    let s := (s.putN (key 0x1100 1) pending).putN (key 0x1100 4) 0xFF
    if pending = 4 then { s with keyClearing := true } else s

/-- The units that the Attic lists and that are not released (R200, R201). -/
def State.atticUnits (s : State) : List (Nat × Nat) :=
  (s.attic.filter (fun e => !(e.getD 0xD 0).getLsbD 2)).map (fun e => (fieldAt e 8 1, fieldAt e 0xA 2))

/-- A cold start begins (R242, R246): the time base counts from 0, on the backup oscillator when there is no reference (R41,
R382), with a new nonce (R370). -/
def State.coldStart (s : State) (reference : Bool) : State :=
  let n := s.coldStarts + 1
  let s : State := { s with now := 0, coldStarts := n, holes := s.atticUnits }
  let s := s.put (key 0x1100 6) (Config.nonce n)
  let s := s.upTb (fun t => { t with frac := 0, refLost := !reference, backup := !reference })
  (s.readLifeCycle.showTime).beginBringup 0

end Sys2Proof.Machine
end

