-- ==== Sys2Proof/Machine/Ladder.lean ====
section
/-! DEFINITION. The levels of the recovery ladder: engine, partition and chip resets and the power cycle (R320 to R322), how
each completes, what a hung reset escalates to and the limit of it (R323 to R325) (13_recovery_ladder.md). -/

namespace Sys2Proof.Machine

/-! ### Cores after a reset -/

/-- Cores left isolated at the escalation limit get a specimen run when a reset over them completes (R384). One fenced or
retired meanwhile stays isolated until an unfence or a release; one already admitted again, as by the run of a partition reset, is
held no more. -/
def State.runHeld (s : State) (cores : List PCore) : State :=
  let still (c : PCore) : Bool := (s.fp c == 0 || s.fp c == 1) && (s.probe c).isolating
  let s : State := { s with rcv := { s.rcv with heldAtLimit := s.rcv.heldAtLimit.filter (fun c => c ∉ cores || still c) } }
  (s.rcv.heldAtLimit.filter (fun c => c ∈ cores)).foldl (fun s c => s.issueSpecimen c 7) s.showResets

/-- A reset completes, with its dump to be written after it (R327) and its record. -/
def State.completeReset (s : State) (i : ResetId) (doms : List Dom) (stackNos : List StackNo) : State :=
  match s.reset? i with
  | none => s
  | some r =>
    let (s, n) := s.resetDump r.level r.cores doms stackNos false r.record
    let s := s.upReset i (fun x => { x with dump := n })
    match s.reset? i with
    | some r => (s.finishReset r 1).runHeld r.cores
    | none => s

/-! ### Engines (R320) -/

/-- The reset control of engines is set: what runs on their cores ends, the proofed cores get priority proofs, and the
engines' pipelines are re-initialised. -/
def State.resetEngines (s : State) (l : List (PCore × EngineNo)) : State :=
  let cores := (l.map (·.1)).dedup
  let s := cores.foldl (fun (s : State) (c : PCore) => ((s.loseProofsOn c).endRuns c).dropRegenOn c) s
  l.foldl (fun (s : State) (x : PCore × EngineNo) =>
    let s : State := { s with
      oldWork := s.oldWork.filter (fun (w : PCore × EngineNo × Nat) => !(w.1 == x.1 && w.2.1 == x.2))
      checkLate := s.checkLate.filter (fun (w : PCore × EngineNo × Nat) => !(w.1 == x.1 && w.2.1 == x.2)) }
    (s.putN (engKey x.1 x.2 9) 2).send (.resetEngine x.1 x.2)) s

/-- An engine reset of an engine in no active domain, or alone after its domain was dealt with (R317, R320). -/
def State.beginEngine (s : State) (c : PCore) (e : EngineNo) (mode origin : Nat) : State :=
  let i := ResetId.engine (engineInstance c e)
  let r : Reset :=
    { id := i, level := 2, atLevel := 2, mode := mode, origin := origin, grant := s.now, d := s.domOfCore c,
      unit := engineInstance c e, cores := [c], engines := [(c, e)],
      record := s.resetRecord 2 origin mode (engineInstance c e) (s.domOfCore c) [c],
      escalated := false, phase := 2, notCaptured := 0, dump := none, tag := 0xFFFF, lateWrites := 0, latePackets := 0,
      thenEngines := [] }
  let s := ((s.addReset r).beginCapture [c]).resetEngines [(c, e)]
  s.arm (.resetTimeout i) (us (s.nat (key 0x2900 2)))

/-- A context reset is over, its record as the completion leaves it (R318); an order of level 2 goes on with its engine,
within the engine timeout of its grant (R320). -/
def State.contextComplete (s : State) (i : ResetId) : State :=
  match s.reset? i with
  | none => s
  | some r =>
    match r.d with
    | none => s
    | some d =>
      let s := s.contextDone r d
      if r.thenEngines.isEmpty then s.completeReset i [d] []
      else
        let s := s.upReset i (fun x => { x with phase := 2, atLevel := max 2 x.atLevel, engines := r.thenEngines, thenEngines := [] })
        (s.showResets.resetEngines r.thenEngines).armAt (.resetTimeout i) (r.grant.toNat + us (s.nat (key 0x2900 2)))

/-- Engines of a context that are not drained: those of its undrained cores that hold work of the discarded steps; every
engine of a core of which none does. -/
def State.undrainedEngines (s : State) (cores : List PCore) : List (PCore × EngineNo) :=
  (cores.filter (fun c => !(s.probe c).drained)).flatMap (fun c =>
    let l := allEngines.filter (fun e => s.holdsWork c e ||
      s.oldWork.any (fun (w : PCore × EngineNo × Nat) => w.1 == c && w.2.1 == e))
    (if l.isEmpty then allEngines else l).map (fun e => (c, e)))

/-! ### Resets that take over (R316, R321, R322) -/

/-- Lower resets in progress end as superseded and keep their captures. A context reset leaves its domain as its completion
does: what it began is not undone. -/
def State.supersedeBelow (s : State) (level : Nat) (but : ResetId) : State :=
  (s.rcv.resets.filter (fun r => decide (r.atLevel < level) && decide (r.id ≠ but))).foldl (fun (s : State) (r : Reset) =>
    let s := s.supersedeReset r
    match r.d, r.id with
    | some d, .context _ => if r.phase = 0 then s.contextDone r d else s
    | _, _ => s) s

/-- A context ends at once, as in mode 2 but without the wait for its drain (R321, R322). -/
def State.cutContext (s : State) (d : Dom) : State := s.endContext d

/-- What a reset of cores ends on them: tests, proofs, runs, probes. -/
def State.clearCores (s : State) (cores : List PCore) : State :=
  cores.foldl (fun (s : State) (c : PCore) => (s.abortTest c).claimCore c) s

/-! ### Partition (R321) -/

def partitionCores (n : StackNo) : List PCore := allCores.filter (fun c => stackOf c = n)

/-- A sparing whose replacement lies in the partition chooses again: the replacement's slice is emptied. -/
def State.loseReplacements (s : State) (cores : List PCore) : State :=
  allDoms.foldl (fun (s : State) (d : Dom) => (s.dom d).sparings.foldl (fun (s : State) (y : Sparing) =>
    match y.repl with
    | some q =>
      if q ∈ cores ∧ y.of_.isNone then
        (if s.lcOf q = y.k.val then s.moveBack d y.fenced q y.k
         else s.upSparing d y.fenced (fun z => { z with repl := none, phase := 0, entry := 0, bytes := 0, sources := 0 }))
      else s
    | none => s) s) s

/-- A partition reset begins; `r0` is the reset that escalated to it. Contexts with a core in it end, its cores are reset and
its memory controller is retrained. -/
def State.beginPartition (s : State) (n : StackNo) (origin : Nat) (r0 : Option Reset) : State :=
  let cores := (partitionCores n).filter s.present
  let i := ResetId.partition n
  let r : Reset := match r0 with
    | some x => { x with id := i, atLevel := 3, cores := cores, engines := [], phase := 3, escalated := true }
    | none =>
      { id := i, level := 3, atLevel := 3, mode := 0, origin := origin, grant := s.now, d := none, unit := n.val, cores := cores,
        engines := [], record := s.resetRecord 3 origin 0 n.val none cores, escalated := false, phase := 3,
        notCaptured := 0, dump := none, tag := 0xFFFF, lateWrites := 0, latePackets := 0, thenEngines := [] }
  let s := match r0 with
    | some x => s.dropReset x
    | none => s
  let s := (s.addReset r).beginCapture cores
  let s := s.supersedeBelow 3 i
  let doms := s.activeDoms.filter (fun d => (s.physCores d).any (fun c => c ∈ cores))
  let s := doms.foldl (fun (s : State) (d : Dom) => s.cutContext d) s
  let s := (s.clearCores cores).loseReplacements cores
  let s := cores.foldl (fun (s : State) (c : PCore) =>
    let s := s.upProbe c (fun p => { p with reset := true, passedSpecimen := false })
    let s := if s.slicePresent c then (s.abortScans c).putN (coreKey c 0x97) 0 else s
    s.send (.resetCore c)) (s.zeroCycles cores)
  let s := s.send (.trainMemory n)
  s.arm (.resetTimeout i) (ms (s.nat (key 0x2900 3)))

/-- The retrained controller's slices are repaired and filled. -/
def State.fillPartition (s : State) (r : Reset) : State :=
  (r.cores.filter s.slicePresent).foldl (fun (s : State) (c : PCore) => s.repairAndFill c) s

/-- Every slice of a partition is filled and no run of its cores is left. -/
def State.partitionReady (s : State) (r : Reset) : Bool :=
  r.cores.all (fun c => (!s.slicePresent c || s.nat (coreKey c 0x97) == 2) && !s.runs.any (fun x => x.core == c))

/-- The cores of a partition are released after their specimen runs. -/
def State.completePartition (s : State) (n : StackNo) (r : Reset) : State :=
  let s := r.cores.foldl (fun (s : State) (c : PCore) =>
    let s := s.upProbe c (fun p => { p with drain := false, drained := false })
    if s.fp c = 0 ∨ s.fp c = 1 then s.upProbe c (fun p => { p with reset := false }) else s) s
  s.completeReset (.partition n) [] [n]

/-! ### Chip and power cycle (R322) -/

/-- A chip reset or a power cycle begins: every core is captured, every context ends, and the dump is written before the
reset, within the dump budget. -/
def State.beginChip (s : State) (level origin : Nat) (r0 : Option Reset) : State :=
  let cores := s.presentCores
  let doms := s.activeDoms
  let r : Reset := match r0 with
    | some x => { x with id := .chip, atLevel := level, cores := cores, engines := [], phase := 4, escalated := true }
    | none =>
      { id := .chip, level := level, atLevel := level, mode := 0, origin := origin, grant := s.now, d := none, unit := 0xFFFF,
        cores := cores, engines := [], record := s.resetRecord level origin 0 0xFFFF none cores,
        escalated := false, phase := 4, notCaptured := 0, dump := none, tag := 0xFFFF, lateWrites := 0, latePackets := 0,
        thenEngines := [] }
  let s := match r0 with
    | some x => s.dropReset x
    | none => s
  let s := (s.addReset r).beginCapture cores
  let s := s.supersedeBelow level .chip
  let s := s.newDump { num := 0, origin := 1, level := level, flags := 0, cores := cores, doms := doms,
                       stackNos := List.finRange 4, chip := true, time := s.now, cause := s.nat (key 0x2400 0x11), record := r.record }
  let num := s.cel.dumps
  let s := s.upReset .chip (fun x => { x with dump := some num })
  let s := doms.foldl (fun (s : State) (d : Dom) => s.cutContext d) s
  let s := s.clearCores cores
  let s := s.arm .dumpBudgetTimeout (ms (s.nat (key 0x2900 5)))
  if level = 4 then s.arm (.resetTimeout .chip) (ms (s.nat (key 0x2900 4))) else s

/-- The dump is written, or its budget is over: the reset, or the request on PHY_PWRCYC_N, is asserted. -/
def State.assertReset (s : State) : State :=
  let s := s.disarm .dumpBudgetTimeout
  match s.reset? .chip with
  | none => s
  | some r =>
    if r.phase ≠ 4 then s
    else
      let s := s.upReset .chip (fun x => { x with phase := 5 })
      if r.atLevel = 5 then { s with pwrcyc := true }.send (.powerCycle true) else s.chipReinit

/-! ### Escalation (R323, R324) -/

/-- The step domain of an order as the instance of "reset escalated". -/
def Reset.instance_ (r : Reset) : Nat := match r.d with
  | some d => d.val
  | none => 0

/-- The limit of object 0x2900.06 holds an escalation (R324): the units stay as they are, those not drained isolated. -/
def State.holdAtLimit (s : State) (r : Reset) (cores : List PCore) : State :=
  let s := (s.bump (key 0x2900 0x11)).recordReset r 0 4
  let s := cores.foldl (fun (s : State) (c : PCore) => s.isolateCore c) s
  let s := r.engines.foldl (fun (s : State) (x : PCore × EngineNo) => s.putN (engKey x.1 x.2 9) 3) s
  let s : State := { s with rcv := { s.rcv with
    heldAtLimit := s.rcv.heldAtLimit.filter (fun c => c ∉ cores) ++ cores } }
  (s.dropReset r).raise 0xB0 r.instance_ (r.recordWith 0 4)

/-- An escalation counts, and raises "reset escalated" with the record of outcome 3. -/
def State.noteEscalation (s : State) (r : Reset) : State :=
  let s := (s.bump (key 0x2900 0x10)).recordReset r 0 3
  s.raise 0xB0 r.instance_ (r.recordWith 0 3)

/-- A context reset hangs: one engine reset of every engine that is not drained. With none left it is complete. -/
def State.escalateContext (s : State) (r : Reset) : State :=
  let l := s.undrainedEngines r.cores
  if l.isEmpty then s.contextComplete r.id
  else if s.nat (key 0x2900 6) < 2 then s.holdAtLimit r (r.cores.filter (fun c => !(s.probe c).drained))
  else
    let r := { r with escalated := true, atLevel := 2, engines := l }
    let s := (s.upReset r.id (fun _ => r)).showResets.noteEscalation r
    (s.resetEngines l).arm (.resetTimeout r.id) (us (s.nat (key 0x2900 2)))

/-- A partition reset hangs, or its retraining failed: a chip reset. -/
def State.escalateChip (s : State) (r : Reset) : State :=
  if s.nat (key 0x2900 6) < 4 then s.holdAtLimit r (if r.atLevel = 3 then r.cores else (r.engines.map (·.1)).dedup)
  else (s.noteEscalation { r with atLevel := 4 }).beginChip 4 r.origin (some r)

/-- An engine reset hangs: the partition of the engines not reset, or the chip when they lie in several. -/
def State.escalateEngine (s : State) (r : Reset) : State :=
  match (r.engines.map (fun x => stackOf x.1)).dedup with
  | [n] =>
    if s.nat (key 0x2900 6) < 3 then s.holdAtLimit r (r.engines.map (·.1)).dedup
    else (s.noteEscalation { r with atLevel := 3 }).beginPartition n r.origin (some r)
  | _ => s.escalateChip r

/-- A chip reset hangs: "chip reset incomplete", of class F. -/
def State.chipHangs (s : State) (r : Reset) : State :=
  let b := r.recordWith 0 3
  let s := s.upReset .chip (fun x => { x with escalated := true })
  (s.noteEscalation r).raise 0xB3 0 b

/-- A reset's timeout wins (R323). -/
def State.resetHangs (s : State) (r : Reset) : State :=
  match r.id with
  | .context _ => if r.atLevel = 1 then s.escalateContext r else s.escalateEngine r
  | .engine _ => s.escalateEngine r
  | .partition _ => s.escalateChip r
  | .chip => s.chipHangs r

end Sys2Proof.Machine
end

