-- ==== Sys2Proof/Machine/BringUp.lean ====
section
/-! DEFINITION. The commands of a bring-up: the Cellar's opening (R336) and configuration read (R250), firmware (R30 to R32,
R251), fuses (R252), fill, training (R253 to R255), the end of stage 7 (R258), the cabling check (R256, R260 to R263, R267),
halts (R266) (10_bring_up.md). -/

namespace Sys2Proof.Machine

/-- Stage n runs and nothing stops it: no halt after it and no fault state. -/
def State.inStage (s : State) (n : Nat) : Bool := s.alive && s.stageNo == n && !s.bring.halted && !s.faulted

def State.exceptional (s : State) : State := { s with bring := { s.bring with exceptions := true } }

/-! ### Stage 1 -/

/-- Writing resumes over the entries that a power loss tore, with their sequence numbers (R336). They stay where they are until
they are written over. -/
def CellarSt.rewind (c : CellarSt) : CellarSt :=
  (c.entries.filter (fun e => e.torn)).foldl (fun (c : CellarSt) (e : CellEntry) =>
    if e.seq < c.seqs.getD e.region 0 then c
    else { c with pos := c.pos.set e.region e.first, seqs := c.seqs.set e.region (e.seq - 1) }) c

/-- The Cellar is opened (R336): entries found written but not committed are counted and will be written over. -/
def State.openCellar (s : State) : State :=
  let n := (s.cel.entries.filter (fun e => e.torn)).length
  let s := (s.setCellar s.cel.rewind).putN (key 0x2A00 8) n
  let s := s.putN (key 0x2A00 1) 2
  let s := s.event 0x017 (le 4 (s.nat (key 0x2500 6)) ++ le 4 n ++ le 4 (s.cel.seqs.getD 2 0) ++ le 4 0)
  s.configItem 0x10A 0 (le 4 (s.nat (key 0x2500 6)) ++ le 8 s.cel.bytes)

/-- Proofreader cores of the Attic stay out; one that fails its ROM check is retired (R16, R17, R250). -/
def State.checkPcs (s : State) (failed : List PcNo) : State :=
  let out := allPcs.filter (fun p => s.atticHas 2 p.val)
  let s := out.foldl (fun (s : State) (p : PcNo) => (s.putN (pcKey p) 3).moveDuties p) s
  (failed.filter (fun p => p ∉ out)).foldl (fun (s : State) (p : PcNo) =>
    let s := (s.putN (pcKey p) 3).retireOther 2 10 p.val 0
    ((s.moveDuties p).raisePcLost p).exceptional) s

/-- CELLAR_CONFIG_READ_DONE (R250). -/
def execCellarConfigReadDone (readable : Bool) (failedPcs : List PcNo) (s : State) : Host.Outcome State Fault Refusal :=
  let s := s.begin
  if !s.inStage 1 then .next s
  else if !readable then .next (s.failStage 0x80).settleAll
  else
    let s := s.openCellar.latchSettings.checkPcs failedPcs
    .next (if s.faulted then s else s.endStage (bitOf s.bring.exceptions)).settleAll

/-! ### Stage 2 and pushed images (R30 to R32) -/

/-- Why an image is not accepted, as object 0x1010.05, in the order of R30; 2 accepted. -/
def imageStatus (image : Bytes) : Nat :=
  let n := fieldAt image 0xC 4
  let slot := fieldAt image 0x10 1
  let body := (image.drop 0x200).take n
  if fieldAt image 0 4 ≠ 0x59485046 ∨ fieldAt image 4 2 ≠ 1 ∨ 4 ≤ slot then 3
  else if 6 * 2 ^ 20 - 512 < n then 8
  else if Config.keyRevocation.getLsbD slot then 6
  else if body.length < n ∨ sha384 body ≠ (image.drop 0x20).take 48 then 4
  else if !Config.signatureOk slot (image.take 0x50) ((image.drop 0x50).take 96) then 5
  else if fieldAt image 6 2 < Config.minEpoch.toNat then 7
  else 2

/-- The image in the image store runs: its version, epoch, source and digest, and the Proofreader cores' heartbeats. -/
def State.runImage (s : State) (image : Bytes) (source : Nat) : State :=
  let s : State := { s with img := { s.img with store := image, source := source } }
  let s := ((s.putN (key 0x1010 1) (fieldAt image 8 4)).putN (key 0x1010 2) (fieldAt image 6 2)).putN (key 0x1010 3) source
  let s := s.setContent (key 0x1010 9) ((image.drop 0x20).take 48)
  allPcs.foldl (fun (s : State) (p : PcNo) =>
    if s.get (pcKey p) = 3 then s
    else (s.putN (pcKey p) 0).arm (.pcSilent p) silence) s

/-- Stage 2 judges an image (R251): none acceptable leaves the chip in ROM service, with outcome 4. -/
def State.judgeImage (s : State) (image : Bytes) (source : Nat) : State :=
  if imageStatus image = 2 then (s.runImage image source).endStage (bitOf s.bring.exceptions)
  else (s.writeStage 4 0 false).raise 0x17 0 []

/-- IMAGE_VERIFIED (R30): the boot flash's image in a cold start, the image store's in a warm recovery (R244), or a pushed
image, whose rejection changes nothing that runs (R32). -/
def execImageVerified (source : ImageSource) (s : State) : Host.Outcome State Fault Refusal :=
  let s := s.begin
  match source with
  | .bootFlash image =>
    .next (if s.inStage 2 && s.get (key 0x2500 2) == 0 && s.romService then s.judgeImage image 1 else s).settleAll
  | .imageStore =>
    .next (if s.inStage 2 && s.get (key 0x2500 2) == 1 && s.romService then s.judgeImage s.img.store s.img.source else s).settleAll
  | .staged =>
    if s.get (key 0x1010 5) != 1 || s.inTransfer (key 0x1010 4) then .next s
    else
      let v := imageStatus s.img.staged
      let s := s.putN (key 0x1010 5) v
      .next (if v = 2 then s else s.raise 0x16 0 []).settleAll

/-- IMAGE_ACTIVATION_DONE (R32): the Proofreader cores run the pushed image, and the duties of one that was reset return to it at
the next step boundary, at once with no active domain (R16). In ROM service stage 2 passes, and the bound of
R243 runs from here (R251). -/
def execImageActivationDone (s : State) : Host.Outcome State Fault Refusal :=
  let s := s.begin
  if !s.img.activating then .next s
  else
    let image := s.img.staged
    let back := allPcs.filter (fun p => s.get (pcKey p) == 1)
    let s : State := { s with img := { s.img with staged := [], activating := false } }
    let s := (s.runImage image 2).putN (key 0x1010 5) 0
    let s := back.foldl (fun (s : State) (p : PcNo) => s.setPc p { s.pc p with returning := true }) s
    let s := if s.activeDoms.isEmpty then s.returnDuties else s
    let s := if (s.status (key 0x1010 6)).st = .inProgress then s.endWrite (key 0x1010 6) .completed 0 else s
    if s.inStage 2 then
      let s : State := { s with bring := { s.bring with begun := s.now, excluded := 0 } }
      .next (s.endStage (bitOf s.bring.exceptions)).settleAll
    else .next s.settleAll

/-! ### Stages 3 to 5 -/

/-- FUSE_READ_DONE (R252): an uncorrectable read fails the stage. -/
def execFuseReadDone (fuses : Option FuseMap) (s : State) : Host.Outcome State Fault Refusal :=
  let s := s.begin
  if !s.inStage 3 then .next s
  else match fuses with
    | none => .next (s.failStage 0x80).settleAll
    | some f => .next ((s.applyFuses f).endStage 0).settleAll

/-- FILL_TIMEOUT (R253): the stage fails. -/
def execFillTimeout (core : PCore) (s : State) : Host.Outcome State Fault Refusal :=
  let s := s.begin
  if !s.expired (.fillTimeout core) then .next s
  else
    let s := s.expire (.fillTimeout core)
    .next (if s.inStage 4 && decide (core ∈ s.bring.fillLeft) then s.failStage 0x80 else s).settleAll

/-- An attempt to train a stack failed (R254): it is trained once more, and then fails the stage. -/
def State.trainingFailed (s : State) (n : StackNo) : State :=
  if n ∈ s.bring.retried then
    let s := s.raise 0x85 n.val []
    s.failStage 0x85
  else
    ({ s with bring := { s.bring with retried := s.bring.retried ++ [n] } }).trainStack n

/-- A stack is trained: its timing is kept in the Cellar (R253). -/
def State.stackTrained (s : State) (n : StackNo) : State :=
  let s : State := { s with bring := { s.bring with
    stackSt := s.bring.stackSt.set n.val 1
    memLeft := s.bring.memLeft.filter (fun m => m ≠ n) } }
  let timing := (List.range 64).map (fun i => Config.rawState 6 n.val i)
  s.configItem 0x106 n.val timing

/-- MEMORY_TRAINING_DONE (R254), and the retraining of a partition reset (R321), whose failure escalates to a chip reset at
once. -/
def execMemoryTrainingDone (n : StackNo) (trained : Bool) (s : State) : Host.Outcome State Fault Refusal :=
  let s := s.begin
  if s.inStage 5 && decide (n ∈ s.bring.memLeft) && s.armed (.memoryTrainingTimeout n) then
    let s := s.arrives (.memoryTrainingTimeout n) 3
    .next (if trained then (s.stackTrained n).stageNext else s.trainingFailed n).settleAll
  else match s.reset? (.partition n) with
    | some r =>
      if r.phase = 3 then
        (if trained then .next ((s.upReset r.id (fun x => { x with phase := 6 })).fillPartition r).settleAll
         else .next ((s.raise 0x85 n.val []).escalateChip r).settleAll)
      else .next s.late
    | none => .next s.late

/-- MEMORY_TRAINING_TIMEOUT (R254). -/
def execMemoryTrainingTimeout (n : StackNo) (s : State) : Host.Outcome State Fault Refusal :=
  let s := s.begin
  if !s.expired (.memoryTrainingTimeout n) then .next s
  else
    let s := s.expire (.memoryTrainingTimeout n)
    .next (if s.inStage 5 then s.trainingFailed n else s).settleAll

/-- What a port's training found: objects .02 to .04 and .09 (R255). -/
def State.keepTraining (s : State) (p : PortNo) (lanes : Byte) (failures : BitVec 32) (reach : Byte) (time_us : BitVec 32) :
    State :=
  let s := (s.putN (portKey p 2) lanes.toNat).putN (portKey p 3) failures.toNat
  (s.putN (portKey p 4) reach.toNat).putN (portKey p 9) time_us.toNat

def State.linkIn (s : State) (p : PortNo) : State :=
  { s with bring := { s.bring with linkLeft := s.bring.linkLeft.filter (fun q => q ≠ p) } }

/-- LINK_TRAINING_DONE (R255). In stage 5 a port that trains no lane reads state 6. In service it is the report of a
retraining that the management controller had the link controller make; a late one in a bring-up is discarded. -/
def execLinkTrainingDone (p : PortNo) (lanes : Byte) (failures : BitVec 32) (reach : Byte) (time_us : BitVec 32) (s : State) :
    Host.Outcome State Fault Refusal :=
  let s := s.begin
  if s.inStage 5 && decide (p ∈ s.bring.linkLeft) && s.armed (.linkTrainingTimeout p) then
    let s := ((s.arrives (.linkTrainingTimeout p) 4).keepTraining p lanes failures reach time_us).linkIn p
    let s := if lanes = 0 then s.putN (portKey p 1) 6 else s
    let s := if lanes = 0xFF then s else s.exceptional
    .next s.stageNext.settleAll
  else if s.stageNo = 9 ∧ s.get (portKey p 1) ≠ 0 ∧ s.get (portKey p 1) ≠ 9 then
    .next ((s.keepTraining p lanes failures reach time_us).bump (portKey p 0xB)).settleAll
  else .next s.late

/-- LINK_TRAINING_TIMEOUT (R255): the port reads state 6. -/
def execLinkTrainingTimeout (p : PortNo) (s : State) : Host.Outcome State Fault Refusal :=
  let s := s.begin
  if !s.expired (.linkTrainingTimeout p) then .next s
  else
    let s := (s.expire (.linkTrainingTimeout p)).linkIn p
    .next ((s.putN (portKey p 1) 6).exceptional.stageNext).settleAll

/-! ### Stage 7 -/

/-- SPECIMEN_STAGE_TIMEOUT (R258): the cores whose run has not ended are retired as failed, and the stage ends. -/
def execSpecimenStageTimeout (s : State) : Host.Outcome State Fault Refusal :=
  let s := s.begin
  if !s.expired .specimenStageTimeout then .next s
  else
    let s := s.expire .specimenStageTimeout
    let l := s.bring.specLeft
    let s : State := { s with bring := { s.bring with specLeft := [] } }
    let s := l.foldl (fun (s : State) (c : PCore) => (s.fenceSteps c 3 false true).exceptional) s
    .next s.stageNext.settleAll

/-! ### Stage 8 and rechecks -/

/-- IDENTITY_REQUEST (R256): answered on every trained port from the end of stage 5. -/
def execIdentityRequest (p : PortNo) (s : State) : Host.Outcome State Fault Refusal :=
  let s := s.begin
  if s.stewardServed && s.portTrained p then
    .next (s.send (.identityAnswer p (s.get (key 0x2B00 1)) (BitVec.ofNat 8 (s.nat (key 0x2B00 0xB))) 1))
  else .next s

/-- The answer of a port is in, or is given up. -/
def State.identityIn (s : State) (p : PortNo) : State :=
  { s with bring := { s.bring with idLeft := s.bring.idLeft.filter (fun q => q ≠ p) } }

/-- What follows a port's answer: the tests when all are in, the next automatic check, the end of stage 8. -/
def State.identityNext (s : State) : State :=
  let s := s.judgePorts
  if s.stageNo = 9 then s.armRecheck else s.stageNext

/-- IDENTITY_ANSWER (R260 to R262): the tests run once every awaited answer is there; a late answer is discarded. -/
def execIdentityAnswer (p : PortNo) (answer : Identity) (s : State) : Host.Outcome State Fault Refusal :=
  let s := s.begin
  if !s.armed (.identityTimeout p) then .next s.late
  else
    let s := (s.arrives (.identityTimeout p) 4).identityIn p
    let s := (s.put (portKey p 5) answer.coords).putN (portKey p 6) answer.port.toNat
    let s := (s.putN (portKey p 7) answer.revision.toNat).putN (portKey p 8) answer.kind.toNat
    let s : State := { s with bring := { s.bring with answered := s.bring.answered ++ [p] } }
    .next s.identityNext.settleAll

/-- A port without an answer is held (R260, R262); an admitted one of a recheck stays admitted (R267). Its record shows no
neighbour. -/
def State.noAnswer (s : State) (p : PortNo) : State :=
  let kind := s.get (portKey p 8)
  let s := if s.bring.recheck && (s.admitted p || s.nat (portKey p 1) == 5) then s else s.putN (portKey p 1) 7
  let s := (s.put (portKey p 8) 0).cable p 7 0xFF 0x81 s.bring.copy.2.1
  s.put (portKey p 8) kind

/-- IDENTITY_TIMEOUT (R262). -/
def execIdentityTimeout (p : PortNo) (s : State) : Host.Outcome State Fault Refusal :=
  let s := s.begin
  if !s.expired (.identityTimeout p) then .next s
  else
    let s := ((s.expire (.identityTimeout p)).identityIn p).noAnswer p
    .next s.identityNext.settleAll

/-- IDENTITY_RECHECK_TIMER (R262): once per second every port held with no answer is asked again; a check that runs goes
first. -/
def execIdentityRecheckTimer (s : State) : Host.Outcome State Fault Refusal :=
  let s := s.begin
  if !s.expired .identityRecheckTimer then .next s
  else
    let s := s.disarm .identityRecheckTimer
    if s.stageNo ≠ 9 ∨ !s.bring.idLeft.isEmpty then .next s.armRecheck
    else .next ((s.askPorts (allPorts.filter (fun p => s.nat (portKey p 1) == 7)) true).armRecheck).settleAll

/-- TIME_LOCK_TIMEOUT (R263): stage 8 passes its time part with exceptions. -/
def execTimeLockTimeout (s : State) : Host.Outcome State Fault Refusal :=
  let s := s.begin
  if !s.expired .timeLockTimeout then .next s
  else
    let s := s.expire .timeLockTimeout
    let s : State := { s with bring := { s.bring with timeDone := true } }
    .next s.exceptional.stageNext.settleAll

/-- A recheck (R267): stage 8's tests on every trained port. -/
def recheckPorts (s : State) : State × WEnd :=
  if s.stageNo = 8 || !s.bring.idLeft.isEmpty || s.bring.recheck then (s, .busy)
  else if s.stageNo ≠ 9 then (s, .refused 8)
  else
    let l := allPorts.filter s.portTrained
    (s.askPorts l true, if l.isEmpty then .done else .progress)

/-- RECHECK (R267). -/
def execRecheck (path : Path) (s : State) : Host.Outcome State Fault Refusal :=
  .next (s.begin.granted path (key 0x2B00 9) 1 false recheckPorts).settleAll

/-- The neighbour seen on a port goes into its plan entry; an empty plan compares nothing and stays empty. -/
def State.planSeen (s : State) (p : PortNo) : State :=
  let plan := s.content (key 0x2B00 2)
  if plan.isEmpty then s
  else
    let e := le 8 (s.nat (portKey p 5)) ++ le 1 (s.nat (portKey p 6)) ++ le 1 (s.nat (portKey p 8))
    let b := setBytes plan (16 * p.val) e
    (s.setContent (key 0x2B00 2) b).configItem 0x103 0 b

/-- Acceptance of a port (R262): held for cabling, or refused for width once object 0x2B00.03 allows its width. -/
def acceptPort (p : PortNo) (s : State) : State × WEnd :=
  let st := s.nat (portKey p 1)
  if st ≠ 4 ∧ st ≠ 8 then (s, .refused 8)
  else if st = 8 ∧ popCount (s.get (portKey p 2)) < s.nat (key 0x2B00 3) then (s, .refused 8)
  else ((s.planSeen p).putN (portKey p 1) (if s.lanes p = 0xFF then 2 else 3), .done)

/-- PLAN_ACCEPT (R262). -/
def execPlanAccept (path : Path) (p : PortNo) (s : State) : Host.Outcome State Fault Refusal :=
  .next (s.begin.granted path (portKey p 0xA) 1 false (acceptPort p)).settleAll

/-! ### Halts (R266) -/

/-- A halted bring-up goes on with the next stage; the time halted is not counted. -/
def continueBringup (s : State) : State × WEnd :=
  if !s.bring.halted then (s, .refused 8)
  else
    let s : State := { s with bring := { s.bring with
      halted := false, excluded := s.bring.excluded + (s.t - s.bring.haltAt.toNat) } }
    ((s.startStage (s.stageNo + 1)).stageNext, .done)

/-- BRINGUP_CONTINUE (R266). -/
def execBringupContinue (path : Path) (s : State) : Host.Outcome State Fault Refusal :=
  .next (s.begin.granted path (key 0x2500 0x10) 1 false continueBringup).settleAll

end Sys2Proof.Machine
end

