-- ==== Sys2Proof/Machine/ProbeCmds.lean ====
section
/-! DEFINITION. What reaches a probe from its core (R296): core events, the work that is issued and completed (R77, R78), the
output units of a step with its colophons (R100, R219), reach record (R118) and watches (R303 to R305), arrivals at a
barrier, the cycles of an engine (R301), the drain report (R18). -/

namespace Sys2Proof.Machine

/-! ### Work -/

/-- The switch that covers a work item: an attention row has its own (R86). -/
def switchBit (w : Work) : Nat := if w.attn then 3 else engineBit w.engine

/-- The class of an engine's work is checked in the step that issued it (R86, R88). -/
def State.classOn (s : State) (w : Work) : Bool :=
  match w.origin with
  | .step d n => match (s.dom d).step? n with
    | some r => r.checks.getLsbD (switchBit w)
    | none => false
  | .proof d _ _ => (s.checks d).getLsbD (switchBit w)
  | _ => true

/-- An engine issues a work item: the step is not at galley clear before it is checked (R77). -/
def State.issueWork (s : State) (w : Work) : State :=
  match w.origin with
  | .step d n =>
    if s.classOn w then
      s.upStep d n (fun (r : StepRec) => { r with cores := r.cores.map (fun (c : CoreRec) =>
        if c.phys = w.core then { c with work := c.work ++ [(w.engine, w.item)] } else c) })
    else s
  | _ => s

/-- A work item completes: the engine progresses (R311), and the probe arms the check timeout (R78). Fenced, absent and held
cores have dormant checkers (R89). -/
def State.completeWork (s : State) (w : Work) : State :=
  let s := s.put (engKey w.core w.engine 8) s.now
  let f := s.fp w.core
  if s.classOn w && f != 2 && f != 3 && f != 4 && f != 5 then
    let d := (stepOfOrigin (some w.origin)).map (·.1)
    s.arm (.checkTimeout w) (ns (s.valOf d (key 0x2000 6)))
  else s

/-! ### Output units -/

/-- A command that a core issues in a step opens its operator colophon, the field element 1 (R219): at most 1,024 per core and
step. The time of its last output unit is free until it has one (log entry 185). -/
def openOp (l : List OpColophon) (cmd : Nat) (layer oper : BitVec 16) (time : Word) : List OpColophon :=
  if l.any (fun o => o.cmd == cmd) || decide (1024 ≤ l.length) then l
  else l ++ [{ value := 1, cmd := cmd, layer := layer, oper := oper, time := time }]

/-- An operator colophon entry, 32 bytes (R219). -/
def operatorEntry (o : OpColophon) : Bytes :=
  le 16 o.value.toNat ++ le 4 o.cmd ++ le 2 o.oper.toNat ++ le 2 o.layer.toNat ++ le 8 o.time.toNat

/-- The unit in the operator colophons of its command (R219): at most 1,024 per core and step, later commands in the last. -/
def foldOp (keys : Colophon × Colophon × Colophon) (l : List OpColophon) (u : OutUnit) (now : Word) : List OpColophon :=
  let data := maskedData u.mask u.data
  let hit (o : OpColophon) : OpColophon := { o with value := foldUnit keys o.value (unitWord u) data, time := now }
  if l.any (fun o => o.cmd == u.cmd) then l.map (fun o => if o.cmd = u.cmd then hit o else o)
  else if l.length < 1024 then
    l ++ [hit { value := 1, cmd := u.cmd, layer := u.layer, oper := u.oper, time := now }]
  else match l.getLast? with
    | some o => l.dropLast ++ [hit o]
    | none => l

/-- One output unit in a core's record of the step: colophon, units, reach, egress, poison mark (R100, R118, R163). -/
def CoreRec.output (c : CoreRec) (keys : Colophon × Colophon × Colophon) (u : OutUnit) (now : Word) : CoreRec :=
  let data := maskedData u.mask u.data
  { c with
    acc := foldUnit keys c.acc (unitWord u) data
    units := c.units + 1
    ops := foldOp keys c.ops u now
    reach := if h : u.kind.val = 1 ∧ u.dest.toNat < 576 then
        (if (⟨u.dest.toNat, h.2⟩ : LCore) ∈ c.reach then c.reach else c.reach ++ [⟨u.dest.toNat, h.2⟩])
      else c.reach
    sentOther := c.sentOther || u.kind.val == 2
    egress := if 3 ≤ u.kind.val then c.egress + 1 else c.egress
    marked := c.marked || u.marked }

/-- The ranks that the chip's cores sent to in a step: up to 64, else "many" (R118). -/
def StepRec.sendTo (r : StepRec) (u : OutUnit) : StepRec :=
  let q : Rank := u.dest.setWidth 32
  if u.kind.val ≠ 2 || r.many || q ∈ r.ranks then r
  else if r.ranks.length < 64 then { r with ranks := r.ranks ++ [q] }
  else { r with many := true }

/-! ### Watches (R303, R304) -/

/-- A watch matches a command of a step: its domain, mode, layer and operator, and the range of cores. -/
def watchMatches (b : Bytes) (d : Dom) (n : Nat) (k : LCore) (u : OutUnit) : Bool :=
  let mode := fieldAt b 1 1
  let any16 (want have_ : Nat) : Bool := want == 0xFFFF || want == have_
  !b.isEmpty && fieldAt b 0 1 == d.val && (mode == 1 || (mode == 2 && fieldAt b 8 6 == n)) &&
    any16 (fieldAt b 4 2) u.oper.toNat && any16 (fieldAt b 6 2) u.layer.toNat &&
    decide (fieldAt b 0xE 2 ≤ k.val) && decide (k.val ≤ fieldAt b 0x10 2)

/-- One unit folded into a watch's result of the step. A unit with the poison mark is folded as zero data. -/
def Watch.fold (w : Watch) (u : OutUnit) : Watch :=
  let u := if u.marked then { u with data := List.replicate 64 0 } else u
  { w with digest := w.digest + crc64 0 (unitEntry u), units := w.units + 1, poisoned := w.poisoned || u.marked,
           data := w.data ++ [le 8 u.mask.toNat ++ maskedData u.mask u.data] }

/-- A unit in every watch that matches its command; the event of the match is written at the command's first unit. -/
def State.foldWatches (s : State) (c : PCore) (d : Dom) (n : Nat) (k : LCore) (u : OutUnit) (first : Bool) : State :=
  (List.range 64).foldl (fun s j =>
    if watchMatches (s.inForceContent (watchKey j 1)) d n k u then
      let is (w : Watch) : Bool := w.watch == j && w.d == d && w.n == n
      let s : State := if s.obs.watches.any is then s
        else { s.upStep d n (fun r => { r with dist := r.dist ||| 0x100 }) with obs := { s.obs with watches := s.obs.watches ++
          [{ watch := j, d := d, n := n, digest := 0, units := 0, poisoned := false, data := [] }] } }
      let s : State := { s with obs := { s.obs with watches := s.obs.watches.map (fun w => if is w then w.fold u else w) } }
      if first then s.ringEvent c 7 (some d) 0x11 j else s
    else s) s

/-! ### What a unit does to the memory it is written to (R158, R163) -/

/-- The physical core whose slice a unit is written to. -/
def State.unitSlice (s : State) (c : PCore) (u : OutUnit) : Option PCore :=
  if u.kind.val = 0 then some c
  else if h : u.kind.val = 1 ∧ u.dest.toNat < 576 then s.physOf ⟨u.dest.toNat, h.2⟩
  else none

/-- The part of a unit in one code word, by its byte mask: a write that covers less than the word is a narrow one, counted in object
.95 of the slice (R158). Marked data poisons the word; unmarked data that fills it clears the poison (R163). -/
def State.writeWord (s : State) (c : PCore) (word : Nat) (mask : BitVec 32) (marked : Bool) : State :=
  if mask = 0 then s
  else
    let narrow := mask != BitVec.allOnes 32
    let s := if narrow then s.bump (coreKey c 0x95) else s
    if marked then s.poisonWords c word 1 else if narrow then s else s.clearPoison c word 1

/-- A unit written to a slice of this chip. -/
def State.writeUnit (s : State) (c : PCore) (u : OutUnit) : State :=
  match s.unitSlice c u with
  | none => s
  | some q =>
    let word := 2 * u.offset.toNat
    if 2 ^ 25 ≤ word then s
    else (s.writeWord q word (u.mask.setWidth 32) u.marked).writeWord q (word + 1) ((u.mask >>> 32).setWidth 32) u.marked

/-! ### Work digests (R220) -/

/-- The work item that an engine's output belongs to: 1 tile, 2 vector operation, 3 transfer. -/
def workKind (e : EngineNo) : Byte := if e.val < 4 then 1 else if e.val < 6 then 2 else 3

/-- An output unit in the digest of its work item, a new one where the item had none yet; in order of issue. -/
def foldWork (l : List (Nat × WorkDigest)) (u : OutUnit) : List (Nat × WorkDigest) :=
  let data := maskedData u.mask u.data
  if l.any (fun x => x.1 == u.item && x.2.engine == u.engine) then
    l.map (fun x => if x.1 = u.item ∧ x.2.engine = u.engine then (x.1, { x.2 with digest := crc64 x.2.digest data }) else x)
  else l ++ [(u.item, { kind := workKind u.engine, engine := u.engine, place := u.place, digest := crc64 0 data })]

/-- In the replay of the step that diverged, the first diverging core's probe records the work items of the diverging command. -/
def State.recordWork (s : State) (d : Dom) (n : Nat) (k : LCore) (u : OutUnit) : State :=
  match s.job.narrow with
  | some w => match w.first with
    | some f =>
      if w.stage = 3 ∧ w.d = d ∧ w.step = n ∧ f.1 = k ∧ f.2.cmd = u.cmd then
        s.upJob (fun j => { j with narrow := some { w with own := foldWork w.own u } })
      else s
    | none => s
  | none => s

/-- The core writes or sends an output unit in step n of d. -/
def State.outputUnit (s : State) (c : PCore) (d : Dom) (n : Nat) (u : OutUnit) : State :=
  match (s.dom d).step? n with
  | none => s
  | some r => match r.cores.find? (fun x => x.phys == c) with
    | none => s
    | some x =>
      let first := !x.ops.any (fun o => o.cmd == u.cmd && o.value != 1)
      let s := ((s.foldWatches c d n x.k u first).recordWork d n x.k u).writeUnit c u
      s.upStep d n (fun (r : StepRec) => StepRec.sendTo { r with
        cores := r.cores.map (fun (y : CoreRec) => if y.phys = c then y.output r.keys u s.now else y) } u)

/-! ### Counters (R301) -/

def Counters.zero : Counters := { busy := 0, stalled := 0, idle := 0, reasons := List.replicate 8 0 }

/-- Cycles of an engine since its last report: each is in one state, each stalled one charged to one reason. -/
def Counters.add (c : Counters) (busy idle : Nat) (stalled : List Nat) : Counters :=
  let more := (List.range 8).map (fun i => stalled.getD i 0)
  { busy := c.busy + busy, stalled := c.stalled + more.sum, idle := c.idle + idle,
    reasons := List.zipWith (· + ·) c.reasons more }

def State.countersOf (s : State) (i : Nat) : Counters := tabGet Counters.zero s.obs.counters i

def State.setCounters (s : State) (i : Nat) (c : Counters) : State :=
  { s with obs := { s.obs with counters := tabPut Counters.zero s.obs.counters i c } }

/-! ### Core events -/

/-- Check timeouts of a core do not run while its clocks are stopped (R79). -/
def checkOf (c : PCore) (i : Instr) : Bool :=
  match i with
  | .checkTimeout w => w.core == c
  | _ => false

/-- A core event in the ring; a clock stop other than a freeze holds the check timeouts, a resumption lets them run, and the
end of a command is progress (R79, R296, R311). The probe knows a core whose clock is stopped by other means than a freeze, and one
that is throttled: it runs below the clock cap (R50). -/
def State.coreEvent (s : State) (c : PCore) (unit : Fin 8) (code : Byte) (arg : BitVec 16) : State :=
  let s := s.ringEvent c unit.val (s.domOfCore c) code.toNat arg.toNat
  if code = 0x0B then (s.upProbe c (fun p => { p with stopped := p.stopped || arg != 1 })).holdTimers (checkOf c)
  else if code = 0x0C then
    let s := s.upProbe c (fun p => { p with stopped := p.stopped && arg == 1 })
    (if (c ∈ s.frz.cores && s.frz.on) || (s.probe c).stopped then s else s.resumeTimers (checkOf c))
  else if code = 0x0D then s.upProbe c (fun p => { p with slow := decide (arg.toNat < s.nat (key 0x2500 0xD)) })
  else if h : code = 2 ∧ unit.val < 7 then s.put (engKey c ⟨unit.val, h.2⟩ 8) s.now
  else s

/-- The core arrives at the barrier that ends step n. -/
def State.coreArrives (s : State) (c : PCore) (d : Dom) (n : Nat) : State :=
  s.upStep d n (fun (r : StepRec) =>
    { r with cores := r.cores.map (fun (x : CoreRec) => if x.phys = c then { x with arrived := true } else x) })

/-- The core received from another chip in step n (R118). -/
def State.coreReceived (s : State) (c : PCore) (d : Dom) (n : Nat) : State :=
  s.upStep d n (fun (r : StepRec) =>
    { r with cores := r.cores.map (fun (x : CoreRec) => if x.phys = c then { x with recvOther := true } else x) })

/-- The core issues a command in step n of d (R219). -/
def State.issueCommand (s : State) (c : PCore) (d : Dom) (n cmd : Nat) (layer oper : BitVec 16) : State :=
  let (w, s) := s.fresh
  s.upStep d n (fun (r : StepRec) => { r with cores := r.cores.map (fun (x : CoreRec) =>
    if x.phys = c then { x with ops := openOp x.ops cmd layer oper w } else x) })

/-- What an event of a core does at its probe. -/
def State.probeTakes (s : State) (c : PCore) (unit : Fin 8) : ProbeEv → State
  | .ring code arg => s.coreEvent c unit code arg
  | .command d n cmd layer oper => s.issueCommand c d n cmd layer oper
  | .issued w => s.issueWork w
  | .completed w => s.completeWork w
  | .output d n u => s.outputUnit c d n u
  | .received d n => s.coreReceived c d n
  | .barrier d n => s.coreArrives c d n
  | .cycles busy idle stalled =>
    if unit.val < 7 then
      let i := 7 * c.val + unit.val
      s.setCounters i ((s.countersOf i).add busy idle stalled)
    else s
  | .drained => s.upProbe c (fun p => { p with drained := p.drained || p.drain })

/-- What reaches a probe is stamped within the tick (R35): the interpolator resolves the arrival to 1 unit, at which unit of
the tick's 6.4 is free (log entry 187). Outside the probe the time is the tick's. -/
def State.stamped (s : State) (act : State → State) : State :=
  let (w, s) := s.fresh
  let t := s.now
  { act { s with now := BitVec.ofNat 64 (min (s.t + w.toNat % 7) (2 ^ 64 - 1)) } with now := t }

/-- PROBE_EVENT (R296). The probe of an absent core is dormant (R4). -/
def execProbeEvent (core : PCore) (unit : Fin 8) (edges : Nat) (ev : ProbeEv) (s : State) :
    Host.Outcome State Fault Refusal :=
  let s := s.begin
  if s.fp core = 4 then .next s
  else .next ((s.stamped (fun s => (s.addEdges core edges).probeTakes core unit ev))).settleAll

end Sys2Proof.Machine
end

