-- ==== Sys2Proof/Machine/Power.lean ====
section
/-! DEFINITION. Power and power-on reset: the supplies (R335, R374, R382), PHY_PORST_N (R381), brown-outs
(16_pins_and_electrical.md). -/

namespace Sys2Proof.Machine

/-- POWER_UP (R382): the supplies are in range; PHY_PORST_N, pulled down, still holds the chip in reset. -/
def execPowerUp (s : State) : Host.Outcome State Fault Refusal :=
  let s := s.begin
  .next (if s.powered then s else { s with powered := true, porst := false })

/-- PORST_RELEASE (R242, R382): a cold start begins, with the reference clock or without it. -/
def execPorstRelease (reference : Bool) (s : State) : Host.Outcome State Fault Refusal :=
  let s := s.begin
  if !s.powered || s.porst then .next s
  else
    let s : State := { s with porst := true, tb := { s.tb with refLost := !reference } }
    .next (if s.brownOut then s else (s.coldStart reference).settleAll)

/-- PHY_PORST_N re-initialises Phory as a power cycle does, apart from class F sticky bits (R381). -/
def State.assertPorst (s : State) : State := { s.reinit false true with porst := false }

/-- PORST_ASSERT (R381): 10 µs or longer takes effect, up to 1 µs is ignored, between them it may or may not: a free value.
Without power there is no assertion. -/
def execPorstAssert (ns : Nat) (s : State) : Host.Outcome State Fault Refusal :=
  let s := s.begin
  if !s.powered || !s.porst || ns ≤ 1000 then .next s
  else if 10000 ≤ ns then .next s.assertPorst
  else
    let (w, s) := s.fresh
    .next (if w.getLsbD 0 then s.assertPorst else s)

/-- The entry that was being written is not committed (R335): the last one handed over. -/
def CellarSt.tear (c : CellarSt) : CellarSt :=
  match c.entries.getLast? with
  | some e =>
    if e.committed then { c with entries := c.entries.dropLast ++ [{ e with committed := false, torn := true }] } else c
  | none => c

/-- POWER_LOSS (R335, R380): all but the Cellar is lost, the class F sticky bits with it. -/
def execPowerLoss (tornEntry : Bool) (s : State) : Host.Outcome State Fault Refusal :=
  let s := s.begin
  if !s.powered then .next s
  else
    let s : State := if tornEntry then { s with cel := s.cel.tear } else s
    let s := s.reinit false false
    .next { s with powered := false, porst := false, brownOut := false }

/-- BROWN_OUT (R374): below 0.60 V acts as an assertion of PHY_PORST_N, whose level stays what it is. -/
def execBrownOut (s : State) : Host.Outcome State Fault Refusal :=
  let s := s.begin
  if !s.powered || s.brownOut then .next s
  else .next { s.reinit false true with brownOut := true }

/-- BROWN_OUT_END (R374): with PHY_PORST_N released, a cold start begins. -/
def execBrownOutEnd (s : State) : Host.Outcome State Fault Refusal :=
  let s := s.begin
  if !s.brownOut then .next s
  else
    let s : State := { s with brownOut := false }
    .next (if s.porst then (s.coldStart (!s.tb.refLost)).settleAll else s)

/-- The supply record, 16 bytes (R374). -/
def supplyRecord (time extreme kind ns : Nat) (forced : Bool) : Bytes :=
  le 8 time ++ le 2 extreme ++ le 1 (bitOf forced * 128 + kind) ++ le 1 0 ++ le 4 (min ns 0xFFFFFFFF)

/-- SUPPLY_EXCURSION (R374): 1 µs or longer below 0.69 V or above 0.81 V raises "always-on supply fault"; below 0.60 V it is
a brown-out, after which no raise is granted. -/
def execSupplyExcursion (extreme_mV : BitVec 16) (above : Bool) (ns : Nat) (s : State) : Host.Outcome State Fault Refusal :=
  let s := s.begin
  let v := extreme_mV.toNat
  let outside := if above then decide (810 < v) else decide (v < 690) && decide (600 ≤ v)
  if !s.alive || ns < 1000 || !outside then .next s
  else .next (s.raise 0x19 0 (supplyRecord s.t v (if above then 2 else 1) ns false)).settleAll

end Sys2Proof.Machine
end

