-- ==== Sys2Proof/Machine/SelfTest.lean ====
section
/-! DEFINITION. The commands of self-test: results and timeouts of units (R272 to R281), requests and aborts in service (R280,
R281), stack requests (R282), key clearing (R284) (11_self_test.md). -/

namespace Sys2Proof.Machine

/-! ### Results -/

/-- Tests that a unit's record names. -/
def State.testsOf (s : State) (u : TestUnit) : Nat :=
  match unitCore u with
  | some c => match s.coreTest? c with
    | some t => t.mask
    | none => 4
  | none => match u with
    | .stack _ => 4
    | _ => 1

/-- A result judged. A slice is filled with its repairs before its verify pass (R275); an unrepairable one stays empty. -/
def State.judge (s : State) (u : TestUnit) (r : TestResult) : State × Judged :=
  match u with
  | .core c => (s, s.judgeCore u ((s.coreTest? c).map (·.mask) |>.getD 3) r)
  | .slice c =>
    let (s, j) := s.judgeSlice c r
    (if j.outcome = 4 then s else (s.applyRepairs c).filled c, j)
  | .stack _ => (s, Judged.plain (if r.responds then 0 else 2))
  | _ =>
    let (first, ok) := s.judgeLogic u r
    (s, { Judged.plain (if ok then 0 else 1) with interval := first, final := r.final })

/-- A stack that does not respond ends the tests of its slices without a result. -/
def State.dropSlices (s : State) (n : StackNo) : State :=
  (allCores.filter (fun c => stackOf c = n)).foldl (fun (s : State) (c : PCore) => s.dropUnit (.slice c)) s

/-- What follows a unit's end. -/
def State.testNext (s : State) : State := if s.stageNo = 6 then s.stageNext else s

/-- SELFTEST_DONE (R278, R279). A late completion is discarded (R281). -/
def execSelftestDone (u : TestUnit) (r : TestResult) (s : State) : Host.Outcome State Fault Refusal :=
  let s := s.begin
  match s.test.running.find? (fun (x : TestUnit × Word) => x.1 == u) with
  | none => .next s.late
  | some (_, start) =>
    let s := s.arrives (.selftestTimeout u) 6
    let tests := s.testsOf u
    let (s, j) := s.judge u r
    let s := match u with
      | .stack n => if j.outcome = 0 then s else s.dropSlices n
      | _ => s
    .next (s.endUnit u start tests j).testNext.settleAll

/-- SELFTEST_TIMEOUT (R281): handled as a logic BIST failure. -/
def execSelftestTimeout (u : TestUnit) (s : State) : Host.Outcome State Fault Refusal :=
  let s := s.begin
  if !s.expired (.selftestTimeout u) then .next s
  else match s.test.running.find? (fun (x : TestUnit × Word) => x.1 == u) with
    | none => .next (s.disarm (.selftestTimeout u))
    | some (_, start) =>
      .next ((s.expire (.selftestTimeout u)).endUnit u start (s.testsOf u) (Judged.plain 6)).testNext.settleAll

/-! ### Requests -/

/-- Object 0x2600.08 shows why a request is refused: 5 state, 6 life cycle. -/
def refuseTest (s : State) (status reason : Nat) : State × WEnd := (s.putN (key 0x2600 8) status, .refused reason)

/-- A core that failed a test and waits for its fence (R278). -/
def State.awaitsFence (s : State) (c : PCore) : Bool := s.test.awaiting.any (fun x => x.1 == c)

/-- A core that a request may name (R280): reserve without a spared role, enabled without an active domain, or one that
awaits its fence. -/
def State.testable (s : State) (c : PCore) : Bool :=
  (s.fp c == 1 && !(s.probe c).spared) || (s.fp c == 0 && (s.domOfCore c).isNone) || s.awaitsFence c

/-- The caps of R277 leave room in service. -/
def State.testRoom (s : State) (mask : Nat) : Bool :=
  let cap := min (s.nat (key 0x2600 2)) (s.nat (key 0x2600 3))
  let logic := (s.test.running.filter (fun (x : TestUnit × Word) => match x.1 with | .core _ => true | _ => false)).length
  let slices := (s.test.running.filter (fun (x : TestUnit × Word) => match x.1 with | .slice _ => true | _ => false)).length
  (mask % 4 == 0 || decide (logic < cap)) && (!mask.testBit 2 || decide (slices < 8))

/-- A request of a test (R280, R283). -/
def requestTest (v : Word) (s : State) : State × WEnd :=
  let n := bits v.toNat 15 0
  let mask := bits v.toNat 18 16
  if h : n < 600 then
    let c : PCore := ⟨n, h⟩
    let out := s.fp c = 2 ∨ s.fp c = 3 ∨ (c, 2) ∈ s.test.awaiting
    if mask = 0 then (s, .refused 1)
    else if s.lc = 4 ∨ (out ∧ s.lc = 2) then refuseTest s 6 4
    else if s.fp c = 4 ∨ s.fp c = 5 then refuseTest s 5 9
    else if s.stageNo ≠ 9 ∨ !(decide out || s.testable c) then refuseTest s 5 8
    else if mask.testBit 2 && !s.slicePresent c then refuseTest s 5 9
    else if mask.testBit 2 && s.stackSt (stackOf c) != 1 then refuseTest s 5 8
    else if !s.testRoom mask then refuseTest s 5 8
    else (((s.putN (key 0x2600 8) 1).startCore c mask).showTests, .done)
  else (s, .refused 1)

/-- SELFTEST_REQUEST (R280). -/
def execSelftestRequest (path : Path) (value : Word) (s : State) : Host.Outcome State Fault Refusal :=
  .next (s.begin.granted path (key 0x2600 7) value false (requestTest value)).settleAll

/-- An abort (R281) of a test that runs in service. -/
def requestAbort (v : Word) (s : State) : State × WEnd :=
  if h : v.toNat < 600 then
    let c : PCore := ⟨v.toNat, h⟩
    if s.stageNo ≠ 9 ∨ (s.coreTest? c).isNone then (s, .refused 8) else (s.abortTest c, .done)
  else (s, .refused 1)

/-- SELFTEST_ABORT (R281). -/
def execSelftestAbort (path : Path) (value : Word) (s : State) : Host.Outcome State Fault Refusal :=
  .next (s.begin.granted path (key 0x2600 0xF) value false (requestAbort value)).settleAll

/-- The slices that a stack request tests (R282): those of the stack's present cores; of a held stack, the held ones (R5). -/
def State.slicesOf (s : State) (n : StackNo) : List PCore :=
  (allCores.filter (fun c => stackOf c = n)).filter (fun c =>
    s.slicePresent c || (s.stackSt n == 2 && (s.fp c == 5 || s.fp c == 3)))

/-- A stack request (R282): in the safe state or while no domain is active. A held stack is tested, and stays held (R5). -/
def requestStack (v : Word) (s : State) : State × WEnd :=
  if h : v.toNat < 4 then
    let n : StackNo := ⟨v.toNat, h⟩
    if s.lc = 4 then refuseTest s 6 4
    else if !(decide (0x80 ≤ s.stageNo) || (s.stageNo == 9 && s.activeDoms.isEmpty)) then refuseTest s 5 8
    else if s.stackSt n = 3 then refuseTest s 5 9
    else if s.test.stack.isSome || !s.test.running.isEmpty then (s, .busy)
    else
      let cores := s.slicesOf n
      let s : State := { s with test := { s.test with stack := some n, stackFailed := false } }
      let s := (s.putN (key 0x2600 8) 1).startUnit (.stack n)
      let s := cores.foldl (fun (s : State) (c : PCore) =>
        ((s.abortScans c).putN (coreKey c 0x97) 0).startUnit (.slice c)) s
      (s.showTests, .done)
  else (s, .refused 1)

/-- STACK_REQUEST (R282). -/
def execStackRequest (path : Path) (value : Word) (s : State) : Host.Outcome State Fault Refusal :=
  .next (s.begin.granted path (key 0x2600 9) value false (requestStack value)).settleAll

/-! ### Key clearing (R284) -/

/-- The clearing of the key stores starts: in FIELD_LOCKED, when object 0x2601.02 is 1. -/
def startKeyClear (s : State) : State × WEnd :=
  if s.lc ≠ 2 then (s, .refused 4)
  else if s.get (key 0x2601 2) = 0 then (s, .refused 8)
  else ({ s with keyClearing := true }, .progress)

/-- KEY_CLEAR (R284). -/
def execKeyClear (path : Path) (s : State) : Host.Outcome State Fault Refusal :=
  .next (s.begin.granted path (key 0x2601 3) 1 false startKeyClear)

/-- KEY_CLEAR_DONE (R284): scan read-out opens when every store reads zero. -/
def execKeyClearDone (allZero : Bool) (s : State) : Host.Outcome State Fault Refusal :=
  let s := s.begin
  if !s.keyClearing then .next s
  else
    let s : State := { s with keyClearing := false, keyCleared := s.keyCleared || allZero }
    let s := if allZero then s.put (key 0x2601 4) s.now else s
    .next (if (s.status (key 0x2601 3)).st = .inProgress then
      s.endWrite (key 0x2601 3) (if allZero then .completed else .refused) (if allZero then 0 else 8) else s)

end Sys2Proof.Machine
end

