-- ==== Sys2Proof/Machine/Dumps.lean ====
section
/-! DEFINITION. Writing the Cellar where records fail (R340), and the dumps that PC0 writes: their sections, trailer and room
(R295, R327, R339). What the spec does not lay out is Config.rawState (log entry 13). -/

namespace Sys2Proof.Machine

/-! ### Records that fail (R340) -/

/-- The damage record of sources 0xC0 and 0xC1 (R342), 16 bytes. -/
def damageRecord (off seq kind cause attempts : Nat) (forced : Bool) : Bytes :=
  le 4 off ++ le 4 seq ++ le 2 kind ++ le 1 (bitOf forced * 128 + cause) ++ le 1 attempts ++ le 4 0

/-- A record that failed every attempt: the first and three more (R340; log entry 40). It joins the bad-record map while the
map has room, and raises "Cellar write failure". -/
def State.recordFails (s : State) (off seq kind : Nat) : State :=
  let s : State := if s.cel.bad.length < 1024 then
      let s := s.setCellar { s.cel with bad := s.cel.bad ++ [off] }
      s.configItem 0x10B 0 (s.cel.bad.flatMap (le 4))
    else s
  s.raise 0xC1 0 (damageRecord off seq kind 3 4 false)

/-- One entry written while the records at the offsets `bad` fail: each failing record is skipped, and the entry is written
again from its record 0 after it (R340). -/
def State.writeEntry (r kind : Nat) (body : Bytes) : Nat → List Nat → State → State
  | 0, _, s => s.cellarEntry r kind body
  | fuel + 1, bad, s =>
    let n := recordsFor body.length
    let p := findStart s.cel.bad r n (s.cel.bad.length + 1) (s.cel.pos.getD r 0)
    match (List.range n).find? (fun i => recordOffset r (p + i) ∈ bad) with
    | none => s.cellarEntry r kind body
    | some i =>
      let off := recordOffset r (p + i)
      let s := s.recordFails off (s.cel.seqs.getD r 0 + 1) kind
      let s := s.setCellar { s.cel with pos := s.cel.pos.set r ((p + i + 1) % regionSize r) }
      State.writeEntry r kind body fuel (bad.filter (fun x => x ≠ off)) s

/-! ### Sections (R339) -/

/-- n bytes of an image that the spec does not lay out. -/
def rawBytes (kind unit n : Nat) : Bytes := (List.range n).map (Config.rawState kind unit)

/-- A core's ring as object .C1 holds it (R296): 256 entries, oldest first; entries never written follow as zeros. -/
def State.ringContent (s : State) (c : PCore) : Bytes :=
  let b := (tabGet [] s.obs.rings c.val).flatMap id
  b ++ List.replicate (4096 - b.length) 0

/-- A counter snapshot (R302), 104 bytes. -/
def State.snapshot (s : State) (c : PCore) (e : EngineNo) : Bytes :=
  let x := s.countersOf (7 * c.val + e.val)
  le 8 s.t ++ le 8 (s.lccOf c).toNat ++ le 8 x.busy ++ le 8 x.stalled ++ le 8 x.idle ++ x.reasons.flatMap (le 8)

/-- The length in bytes of a capture that the host chip's links and crossings give: free, fixed by the freeze. -/
def State.captureLength (s : State) (kind unit : Nat) : Nat :=
  ofLe ((List.range 3).map (fun i => Config.rawState kind unit (s.frz.grant.toNat * 4 + i)))

/-- Object 0x2801.01: the FIFO captures of the freeze in force (R287). -/
def State.fifoCapture (s : State) : Bytes := rawBytes 7 s.frz.grant.toNat (s.captureLength 8 0)

/-- Object 0x2801.02: the scan state of the central logic. -/
def State.centralScan (s : State) : Bytes := rawBytes 9 s.frz.grant.toNat (s.captureLength 10 0)

/-- A port's object .50: up to 768 packets in entries of 16 to 272 bytes, a multiple of 16 bytes (R290). -/
def State.linkCapture (s : State) (p : PortNo) : Bytes :=
  rawBytes (32 + p.val) s.frz.grant.toNat (16 * (s.captureLength 11 p.val % (768 * 17 + 1)))

/-- Object 0x2601.01 (R283, R284): 1 in MANUFACTURE, FIELD_OPEN and RMA, 2 in FIELD_LOCKED once the key stores are cleared. -/
def State.readOutState (s : State) : Nat :=
  if s.lc = 0 ∨ s.lc = 1 ∨ s.lc = 3 then 1 else if s.lc = 2 ∧ s.keyCleared then 2 else 0

/-- A section: type, unit, data. -/
def section_ (type unit : Nat) (data : Bytes) : Bytes := le 2 type ++ le 2 unit ++ le 4 data.length ++ data

/-- Sections of the cores of a dump: latch (not in a freeze dump, which reads nothing from the cores), ring, counters. -/
def State.coreSections (s : State) (x : Dump) : List Bytes :=
  let rings := x.cores.map (fun c => section_ 2 c.val (s.ringContent c))
  if x.origin = 2 then rings
  else x.cores.map (fun c => section_ 1 c.val (s.content (coreKey c 0xD1))) ++ rings ++
    x.cores.map (fun c => section_ 3 c.val (allEngines.flatMap (s.snapshot c)))

/-- Sections of the central state: the ledgers of the domains concerned, the proof unit, the stacks, and for a chip dump
ports, sticky words with the capture queue, and the Proofreader cores (13, 'Content of a dump by level'). -/
def State.centralSections (s : State) (x : Dump) : List Bytes :=
  let n := x.num
  if x.origin = 2 then
    (if s.readOutState = 0 then [] else
      section_ 10 0 s.fifoCapture :: (if s.frz.chip then allPorts.map (fun p => section_ 11 p.val (s.linkCapture p)) else []))
  else
    (if x.level = 2 then [] else
      x.doms.map (fun d => section_ 4 d.val (((s.dom d).pages.take 1024).flatMap (fun p => p.bytes d (s.dom d).base (s.stepOf d)))) ++
        [section_ 5 0 (rawBytes 3 n 16384)]) ++
      x.stackNos.map (fun k => section_ 6 k.val (rawBytes 4 (4 * n + k.val) 32768)) ++
      (if x.chip then
        allPorts.map (fun p => section_ 7 p.val (rawBytes 5 (18 * n + p.val) 4096)) ++
          [section_ 8 0 (rawBytes 12 n 131072)] ++
          allPcs.map (fun p => section_ 9 p.val (rawBytes 13 (4 * n + p.val) 65536))
      else [])

def State.sections (s : State) (x : Dump) : List Bytes := s.coreSections x ++ s.centralSections x

/-! ### Header and trailer -/

def Dump.header (x : Dump) (sections : Nat) : Bytes :=
  le 4 x.num ++ le 1 x.origin ++ le 1 x.level ++ le 2 sections ++ le 8 x.time.toNat ++ le 4 x.cause ++ le 4 0 ++ x.record

/-- The trailer (R339). Complete, flag [0], unless one of the others is set. -/
def Dump.trailer (x : Dump) (flags sections bytes : Nat) (now : Word) : Bytes :=
  le 4 x.num ++ le 2 sections ++ le 1 (if flags = 0 then 1 else flags) ++ le 1 0 ++ le 8 now.toNat ++ le 8 bytes

/-! ### Room (R339) -/

/-- The records of the dump named in object 0x2A00.07: its first one and how many from there. -/
def State.heldDump (s : State) : Option (Nat × Nat) :=
  let held := s.nat (key 0x2A00 7)
  let l := s.cel.entries.filter (fun e => e.region == 4 && e.committed)
  if held = 0 then none
  else match l.find? (fun e => e.kind == 0x020 && fieldAt e.body 0 4 == held) with
    | none => none
    | some h =>
      let next := (l.filter (fun e => e.kind == 0x020 && decide (h.seq < e.seq))).foldl
        (fun (a : Nat) (e : CellEntry) => min a e.seq) (s.cel.seqs.getD 4 0 + 1)
      some (h.first, ((l.filter (fun e => decide (h.seq ≤ e.seq) && decide (e.seq < next))).map
        (fun e => (e.first + regionSize 4 - h.first) % regionSize 4 + recordsFor e.body.length)).foldl max 0)

/-- Records k from p on would touch the held ones: the position after those. -/
def pastHeld (h : Option (Nat × Nat)) (p k : Nat) : Nat :=
  match h with
  | none => p
  | some (a, n) =>
    let z := regionSize 4
    if (p + z - a) % z < n || (a + z - p) % z < k then (a + n) % z else p

/-- The dump's entries fit in the region outside the held dump: how far the position would move. -/
def dumpFits (h : Option (Nat × Nat)) (p : Nat) (sizes : List Nat) : Bool :=
  let z := regionSize 4
  let step (a : Nat × Nat) (k : Nat) : Nat × Nat :=
    let q := pastHeld h a.1 k
    ((q + k) % z, a.2 + (q + z - a.1) % z + k)
  decide ((sizes.foldl step (p, 0)).2 ≤ z)

/-- One entry of a dump, past the held dump. -/
def State.dumpEntry (s : State) (h : Option (Nat × Nat)) (kind : Nat) (body : Bytes) (bad : List Nat) : State :=
  let p := pastHeld h (s.cel.pos.getD 4 0) (recordsFor body.length)
  let s := s.setCellar { s.cel with pos := s.cel.pos.set 4 p }
  State.writeEntry 4 kind body (bad.length + 1) bad s

/-! ### The dump -/

/-- A dump that waits has no room: it is not written, and the reset record shows dump number 0 (R339). -/
def State.dropDump (s : State) (x : Dump) : State :=
  let no (b : Bytes) : Bytes := if b.length = 80 ∧ fieldAt b 0x40 4 = x.num then setBytes b 0x40 (le 4 0) else b
  let s := s.setContent (key 0x2900 0xA) (no (s.content (key 0x2900 0xA)))
  { s with rcv := { s.rcv with
    resets := s.rcv.resets.map (fun (r : Reset) => if r.dump = some x.num then { r with dump := none } else r) } }

/-- What a dump took is released: its latches read as written, and its rings record again unless a later capture holds them
(R327). -/
def State.dumpTaken (s : State) (x : Dump) : State :=
  let others := s.rcv.dumps.filter (fun (y : Dump) => y.num ≠ x.num)
  let s : State := { s with rcv := { s.rcv with dumps := others } }
  if x.origin = 2 then s
  else
    let free := x.cores.filter (fun c => !others.any (fun y => y.origin ≠ 2 && c ∈ y.cores))
    let s := free.foldl (fun (s : State) (c : PCore) =>
      if s.nat (coreKey c 0xD2) = 1 then
        let b := s.content (coreKey c 0xD1)
        (s.setContent (coreKey c 0xD1) (setBytes b 0xA (le 1 (fieldAt b 0xA 1 ||| 4)))).putN (coreKey c 0xD2) 2
      else s) s
    { s with rcv := { s.rcv with capturing := s.rcv.capturing.filter (fun c => c ∉ free) } }

/-- PC0 has written a dump: the first `count` sections, all of them when none was cut, with trailer flags beside those it
has (R339). An entry counts as committed as it is written. -/
def State.writeDump (s : State) (x : Dump) (count : Option Nat) (flags : Nat) (bad : List Nat) : State :=
  let all := s.sections x
  let l := match count with
    | some n => all.take n
    | none => all
  let flags := flags ||| x.flags
  let bytes := (l.map (fun b => b.length)).sum
  let h := s.heldDump
  let sizes := (recordsFor (x.header all.length).length :: l.map (fun b => recordsFor b.length)) ++ [1]
  if !dumpFits h (s.cel.pos.getD 4 0) sizes then (s.dropDump x).dumpTaken x
  else
    let s := s.setCellar { s.cel with dumpAt := s.cel.dumpAt ++ [(x.num, s.cel.pos.getD 4 0)] }
    let s := s.dumpEntry h 0x020 (x.header all.length) bad
    let s := l.foldl (fun (s : State) (b : Bytes) => s.dumpEntry h 0x021 b bad) s
    let s := s.dumpEntry h 0x022 (x.trailer flags l.length bytes s.now) bad
    (s.putN (key 0x2A00 6) x.num).dumpTaken x

/-- How many sections an interrupted dump had written: free, not all of them. -/
def State.sectionsCut (s : State) (x : Dump) : State × Nat :=
  let (w, s) := s.fresh
  (s, w.toNat % max 1 (s.sections x).length)

end Sys2Proof.Machine
end

