-- ==== Sys2Proof/Machine/Observation.lean ====
section
/-! DEFINITION. The commands of observation (12_observation.md): triggers and release of a freeze (R286 to R293, R377), pauses
(R290), read-out (R294, R295), event rings and counters (R296, R297, R302), the synchronisation trace (R298, R299),
breakpoints (R306 to R308). -/

namespace Sys2Proof.Machine

/-! ### Triggers of a freeze -/

/-- FREEZE_NOW (R286). -/
def execFreezeNow (path : Path) (s : State) : Host.Outcome State Fault Refusal :=
  .next (s.begin.granted path (key 0x2800 1) 1 false (fun s => (s.freezeTrigger 1 0 0 ones32, .done))).settleAll

/-- TIMED_FREEZE (R286, R289): the steward's timed freeze carries the rank whose trigger it spreads. -/
def execTimedFreeze (s : State) : Host.Outcome State Fault Refusal :=
  let s := s.begin
  if !s.expired .timedFreeze then .next s
  else
    let spread := s.frz.spread
    let s : State := { (s.disarm .timedFreeze).putN (key 0x2800 3) 0 with
      frz := { s.frz with spread := none } }
    .next (match spread with
      | some r => s.freezeTrigger 5 0 0 r
      | none => s.freezeTrigger 2 0 0 ones32).settleAll

/-- FREEZE_PIN_LOW (R377): a low of 20 ns that Phory does not drive itself; ignored while it drives the pin and for 200 ns
after. -/
def execFreezePinLow (ns_ : Nat) (s : State) : Host.Outcome State Fault Refusal :=
  let s := s.begin
  if !s.alive || !(s.get (key 0x2800 9)).getLsbD 0 || decide (ns_ < 20) || s.frz.driving ||
      decide (s.t < s.frz.driveEnd.toNat) then .next s
  else .next (s.freezeTrigger 3 0 0 ones32).settleAll

/-- A freeze at an instant that the steward gave, for the rank whose trigger it spreads. -/
def State.armFreeze (s : State) (at_ : Word) (r : Rank) : State :=
  let s : State := { s.put (key 0x2800 3) at_ with frz := { s.frz with spread := some r } }
  s.armAt .timedFreeze at_.toNat

/-- The steward takes a chip's freeze frame, and freezes itself and every worker at once; or its request, and arms a timed
freeze on every chip, object 0x2800.0F ahead (R289). -/
def State.spreadFreeze (s : State) (r : Rank) (request : Bool) : State :=
  if request then
    let at_ := s.after (us (s.nat (key 0x2800 0xF)))
    (s.toWorkers (.freeze (some at_))).armFreeze at_ r
  else (s.toWorkers (.freeze none)).freezeTrigger 5 0 0 r

/-- FREEZE_FRAME (R289). On the steward `at_` tells a request for a timed freeze from a freeze frame; on a worker it is the
instant of a timed freeze. -/
def execFreezeFrame (env : Env) (at_ : Option Word) (s : State) : Host.Outcome State Fault Refusal :=
  if s.role = 2 then .next (s.framed env 2 (fun s => s.spreadFreeze env.src at_.isSome))
  else .next (s.framed env 1 (fun s => match at_ with
    | none => s.freezeTrigger 5 0 0 env.src
    | some t => s.armFreeze t env.src))

/-! ### Release (R292, R293) -/

/-- The freeze record as it stands (R295), in its object. -/
def State.setFreezeRecord (s : State) (f : Bytes → Bytes) : State :=
  let b := f s.frz.record
  { s with frz := { s.frz with record := b } }.setContent (key 0x2800 0xC) b

/-- A flag of the freeze record, byte 0x1D. -/
def flagFreeze (m : Nat) (b : Bytes) : Bytes := setBytes b 0x1D (le 1 (fieldAt b 0x1D 1 ||| m))

/-- A release before the dump is complete ends it with what is written (R295). -/
def State.cutFreezeDump (s : State) : State :=
  match s.frz.dump with
  | none => s
  | some n => match s.rcv.dumps.find? (fun (x : Dump) => x.num == n) with
    | none => s
    | some x =>
      let (s, cut) := s.sectionsCut x
      let s := (s.writeDump x (some cut) 4 []).setFreezeRecord (flagFreeze 4)
      { s with frz := { s.frz with dump := none } }

/-- Timeouts that a release lets run (R291): check timeouts wait for their clock's first edge (R79), those that await a chip
reported frozen for that chip. -/
def State.releases (s : State) (c : Instr) : Bool :=
  match c with
  | .checkTimeout _ => false
  | c => !s.job.frozen.any (fun r => s.awaitsChip r c)

/-- A test that the freeze stopped (R281): it begins again in stage 6, else it is aborted. -/
def State.endStoppedTest (s : State) (c : PCore) : State :=
  if (s.coreTest? c).isNone then s
  else if s.stageNo = 6 then
    let l := s.test.running.filter (fun (x : TestUnit × Word) => unitCore x.1 == some c)
    let s : State := { s with test := { s.test with running := s.test.running.map (fun (x : TestUnit × Word) =>
      if unitCore x.1 == some c then (x.1, s.now) else x) } }
    l.foldl (fun (s : State) (x : TestUnit × Word) =>
      (s.send (.selftest x.1)).arm (.selftestTimeout x.1) (ms (s.nat (key 0x2600 6)))) s
  else s.abortTest c

/-- A chip reset that the freeze stopped with its dump done goes on (R326). -/
def State.resumeChipReset (s : State) : State :=
  match s.reset? .chip with
  | some r => if r.phase = 4 && !s.rcv.dumps.any (fun (x : Dump) => some x.num == r.dump) then s.assertReset else s
  | none => s

/-- The freeze ends (R292): the clocks start, the pin is released, held timeouts and stopped sequences go on. -/
def State.releaseFreeze (s : State) : State :=
  let s := s.cutFreezeDump
  let f := s.frz
  let started := f.cores.filter (fun c => s.nat (coreKey c 0xC6) == 1 || s.nat (coreKey c 0xC6) == 2)
  let doms := s.activeDoms.filter s.domFrozen
  let s := s.setFreezeRecord (fun b => setBytes (setBytes b 0x10 (le 8 s.t)) 0x38 (le 8 f.triggers))
  let s : State := { s with
    frz := { s.frz with on := false, driving := false, releasing := started, byPin := false,
                        driveEnd := if f.driving then s.after (ns 200) else f.driveEnd }
    bring := if s.stageNo < 9 && !s.bring.halted then
        { s.bring with excluded := s.bring.excluded + (s.t - max f.grant.toNat s.bring.begun.toNat) }
      else s.bring }
  let s := f.cores.foldl (fun (s : State) (c : PCore) =>
    let s := (s.applyAsked c).putN (coreKey c 0xC6) 0
    if f.readOut then s.setContent (coreKey c 0xC7) [] else s) s
  let s := doms.foldl (fun (s : State) (d : Dom) => (s.setHold d 5 false).disturb d 8) s
  let s := ((s.resumeTimers s.releases).disarm .pauseIndicationPeriod).send .releaseClocks
  let s := if f.driving then s.send (.freezePin false) else s
  let s := s.toSteward (.freezeReport false)
  let s := if started.isEmpty then s.putN (key 0x2800 0xB) 0
    else (s.putN (key 0x2800 0xB) 3).arm .freezeReleaseTimeout (us 10)
  let s := f.cores.foldl (fun (s : State) (c : PCore) => s.endStoppedTest c) s
  let s := allDoms.foldl (fun (s : State) (d : Dom) => if (s.dom d).sparings.isEmpty then s else s.resumeSparing d) s
  let s := s.resumeChipReset
  if 1 ≤ s.stageNo ∧ s.stageNo < 9 then s.stageNext else s

/-- A freeze that the pin holds does not release while the pin is low (R292). Its level is the board's: free (log entry 41). -/
def State.pinHolds (s : State) : State × Bool :=
  if s.frz.byPin then
    let (w, s) := s.fresh
    (s, w.getLsbD 0)
  else (s, false)

/-- A release order: there must be a freeze, and the pin must not hold it. -/
def orderRelease (s : State) : State × WEnd :=
  if !s.frz.on then (s, .refused 8)
  else
    let (s, low) := s.pinHolds
    if low then (s, .busy) else (s.releaseFreeze, .done)

/-- RELEASE_NOW (R292). -/
def execReleaseNow (path : Path) (s : State) : Host.Outcome State Fault Refusal :=
  .next (s.begin.granted path (key 0x2800 2) 1 false orderRelease).settleAll

/-- TIMED_RELEASE (R292). -/
def execTimedRelease (s : State) : Host.Outcome State Fault Refusal :=
  let s := s.begin
  if !s.expired .timedRelease then .next s
  else
    let s := (s.disarm .timedRelease).putN (key 0x2800 4) 0
    .next (orderRelease s).1.settleAll

/-- FREEZE_RELEASE_TIMEOUT (R293): a domain has not reported its first edge. -/
def execFreezeReleaseTimeout (s : State) : Host.Outcome State Fault Refusal :=
  let s := s.begin
  if !s.expired .freezeReleaseTimeout then .next s
  else
    let s := s.expire .freezeReleaseTimeout
    if s.frz.releasing.isEmpty then .next s
    else
      let s : State := { s with frz := { s.frz with releasing := [] } }
      .next ((s.putN (key 0x2800 0xB) 0).raise 0xA2 0 []).settleAll

/-! ### Pauses (R290) -/

/-- PAUSE_INDICATION_PERIOD: every 10 µs of a chip-scope freeze. -/
def execPauseIndicationPeriod (s : State) : Host.Outcome State Fault Refusal :=
  let s := s.begin
  if !s.expired .pauseIndicationPeriod then .next s
  else if !s.frz.on || !s.frz.chip then .next (s.disarm .pauseIndicationPeriod)
  else .next ((s.sendAll ((allPorts.filter s.admitted).map .pause)).arm .pauseIndicationPeriod (us 10))

/-- A neighbour's pause goes on: its last indication is not older than two periods (log entry 42). -/
def State.paused (s : State) (p : PortNo) : Bool :=
  s.frz.pauses.any (fun (x : PortNo × Word) => x.1 == p && decide (s.t ≤ x.2.toNat + us 20))

/-- PAUSE_INDICATION_RECEIVED: the port's retry timers and job traffic are held, up to the pause limit from the first
indication. -/
def execPauseIndicationReceived (p : PortNo) (s : State) : Host.Outcome State Fault Refusal :=
  let s := s.begin
  if !s.alive then .next s
  else
    let s := if s.paused p then s else s.arm (.pauseLimitTimeout p []) (ms (s.nat (key 0x2800 0xA)))
    .next { s with frz := { s.frz with pauses := s.frz.pauses.filter (fun (x : PortNo × Word) => x.1 ≠ p) ++ [(p, s.now)] } }

/-- PAUSE_LIMIT_TIMEOUT: the limit passes while the pause lasts, and the port is treated as failed (R123), with the packets it
holds. -/
def execPauseLimitTimeout (p : PortNo) (packets : List (Dom × Nat)) (s : State) : Host.Outcome State Fault Refusal :=
  let s := s.begin
  if !s.expired (.pauseLimitTimeout p []) then .next s
  else
    let on := s.paused p
    let s : State := { s.disarm (.pauseLimitTimeout p []) with
      frz := { s.frz with pauses := s.frz.pauses.filter (fun (x : PortNo × Word) => x.1 ≠ p) } }
    .next (if on then s.portFails p packets else s).settleAll

/-! ### Read-out (R294, R295) -/

/-- FREEZE_DUMP_DONE (R295). -/
def execFreezeDumpDone (s : State) : Host.Outcome State Fault Refusal :=
  let s := s.begin
  match s.frz.dump with
  | none => .next s
  | some n => match s.rcv.dumps.find? (fun (x : Dump) => x.num == n) with
    | none => .next s
    | some x =>
      let s := s.writeDump x none 0 []
      let written := s.nat (key 0x2A00 6) == n
      let s : State := { s with frz := { s.frz with dump := none } }
      .next (if written then s.setFreezeRecord (flagFreeze 2) else s).settleAll

/-- Frozen state may be read (R294): a freeze is in force, and object 0x2601.01 reads 1 or 2; not during the clearing of the
key stores (R284). -/
def State.mayReadOut (s : State) : Bool := s.frz.on && s.readOutState != 0 && !s.keyClearing

/-- A read-out was performed; after key clearing it is marked so. -/
def State.noteReadOut (s : State) : State :=
  { s with frz := { s.frz with readOut := true } }.setFreezeRecord (flagFreeze (if s.readOutState = 2 then 24 else 8))

/-- CORE_SCAN_READ (R294): the chains of a frozen core rotate once around, and object .C7 holds the image. -/
def execCoreScanRead (path : Path) (core : PCore) (image : Bytes) (s : State) : Host.Outcome State Fault Refusal :=
  let s := s.begin
  if !s.pathServed path then .next s
  else
    let s := s.countAccess path
    if s.mayReadOut && decide (core ∈ s.frz.cores) && s.dutyRuns 0 && !s.romService then
      .next (s.noteReadOut.setContent (coreKey core 0xC7) (slice image 0 89600))
    else .next s

/-! ### Event rings and counters -/

/-- RING_RESTART (R297). -/
def execRingRestart (path : Path) (core : PCore) (s : State) : Host.Outcome State Fault Refusal :=
  .next (s.begin.granted path (coreKey core 0xC5) 1 false (fun s => (s.putN (coreKey core 0xC4) 0, .done)))

/-- HOST_MARKER (R296). -/
def execHostMarker (path : Path) (core : PCore) (value : Word) (s : State) : Host.Outcome State Fault Refusal :=
  .next (s.begin.granted path (coreKey core 0xC8) value false
    (fun s => (s.ringEvent core 7 (s.domOfCore core) 0x13 value.toNat, .done)))

/-- COUNTERS_CLEAR (R302). -/
def execCountersClear (path : Path) (core : PCore) (engine : EngineNo) (s : State) : Host.Outcome State Fault Refusal :=
  .next (s.begin.granted path (engKey core engine 7) 1 false
    (fun s => (s.setCounters (7 * core.val + engine.val) Counters.zero, .done)))

/-- CLEAR_ALL_COUNTERS (R302): those of every engine at once. -/
def execClearAllCounters (path : Path) (s : State) : Host.Outcome State Fault Refusal :=
  .next (s.begin.granted path (key 0x2702 1) 1 false
    (fun s => ({ s with obs := { s.obs with counters := [] } }, .done)))

/-! ### Synchronisation trace (R298, R299) -/

/-- A trace record, 32 bytes. -/
def traceRecord (now : Word) (d : Dom) (w : SyncWait) : Bytes :=
  le 8 now.toNat ++ le 8 w.start.toNat ++ le 2 w.core.val ++ le 1 w.engine.val ++ [w.kind] ++ le 4 w.releaser.toNat ++
    le 2 w.object.toNat ++ [w.releaserEngine] ++ le 1 d.val ++ le 2 w.oper.toNat ++ le 2 w.layer.toNat

/-- SYNC_WAIT_END: a wait of at least object 0x2701.06 cycles in a traced domain. -/
def execSyncWaitEnd (d : Dom) (w : SyncWait) (s : State) : Host.Outcome State Fault Refusal :=
  let s := s.begin
  if !(s.valFor d (key 0x2701 1)).getLsbD d.val || decide (w.cycles < s.natFor d (key 0x2701 6)) ||
      s.nat (key 0x2701 8) != 1 || !(s.dom d).active then .next s
  else
    let (s, dropped) := (s.disturb d 8).traceQueue (traceRecord s.now d w)
    .next (if dropped then s.raise 0xA0 0 [] else s).settleAll

/-! ### Breakpoints (R306 to R308) -/

/-- The duty that an event belongs to. -/
def bpDuty (event : Nat) : Option PcNo :=
  if 1 ≤ event ∧ event ≤ 3 then some 1 else if event = 4 ∨ event = 8 then some 3 else if 5 ≤ event ∧ event ≤ 7 then some 2
  else none

/-- The armed breakpoint that an event matches, 1 to 8. -/
def State.bpArmed (s : State) (event filter : Nat) : Option Nat :=
  (List.range 8).find? (fun i =>
    let v := s.nat (key 0x2750 (1 + i))
    v != 0 && bits v 31 24 == event && (bits v 15 0 == 0xFFFF || bits v 15 0 == filter)) |>.map (· + 1)

/-- The core carries the event's duty and runs. -/
def State.bpCarries (s : State) (pc : PcNo) (event : Nat) : Bool :=
  match bpDuty event with
  | some n => s.pcRunning pc && (s.get (key 0x1020 5)).getLsbD (4 * pc.val + n.val)
  | none => false

/-- Drain and barrier holds of a match begin (R307). -/
def State.beginBp (s : State) (pc : PcNo) (number : Nat) (event : Byte) (filter : BitVec 16) (d : Option Dom) : State :=
  let b : Bp := ⟨pc, number, event, filter, d, s.now, false, false⟩
  let s : State := { s with obs := { s.obs with bp := some b } }
  let s := (s.activeDoms.flatMap s.physCores).foldl (fun (s : State) (c : PCore) => s.drainCore c) s
  (s.putN (key 0x2750 9) 1).arm .breakpointDrainTimeout (ms (s.nat (key 0x2750 0xD)))

/-- The match of an event that an armed breakpoint names; one more while another is under way waits. -/
def State.matchBp (s : State) (pc : PcNo) (event : Byte) (filter : BitVec 16) (d : Option Dom) : State :=
  if !s.bpCarries pc event.toNat then s
  else match s.bpArmed event.toNat filter.toNat with
    | none => s
    | some n =>
      if s.obs.bp.isSome then { s with obs := { s.obs with bpWaiting := s.obs.bpWaiting ++ [(pc, event, filter, d)] } }
      else s.beginBp pc n event filter d

/-- BREAKPOINT_MATCH (R307). -/
def execBreakpointMatch (pc : PcNo) (event : Byte) (filter : BitVec 16) (d : Option Dom) (s : State) :
    Host.Outcome State Fault Refusal :=
  .next (s.begin.matchBp pc event filter d).settleAll

/-- The hit record (R308), 32 bytes. -/
def Bp.record (b : Bp) (halt step : Nat) (byTimeout : Bool) : Bytes :=
  le 8 b.at_.toNat ++ le 8 halt ++ le 1 b.number ++ le 1 b.pc.val ++ [b.event] ++
    le 1 (bitOf b.notDrained + 2 * bitOf byTimeout) ++ le 2 b.filter.toNat ++
    le 1 (match b.d with | some d => d.val | none => 0xFF) ++ [0] ++ le 6 step ++ [0, 0]

/-- The Proofreader core halts (R307): its silence is not watched, and a halted PC2 leaves no trim lowered by a probe. -/
def State.haltPc (s : State) (b : Bp) : State :=
  let s : State := { s with obs := { s.obs with bp := some { b with halted := true } } }
  let s := (s.putN (pcKey b.pc) 2).disarm (.pcSilent b.pc)
  let s := s.activeDoms.foldl (fun (s : State) (d : Dom) => (s.setHold d 6 true).disturb d 8) s
  let step := match b.d with | some d => s.stepOf d | none => 0
  let s := (s.setContent (key 0x2750 0xA) (b.record s.t step false)).putN (key 0x2750 9) 2
  let s := (s.bump (key 0x2750 0xE)).arm .bpHaltTimeout (sec (s.nat (key 0x2750 0xC)))
  if bpDuty b.event.toNat = some 2 then (s.probings.map (·.core)).foldl (fun (s : State) (c : PCore) => s.endProbe c) s else s

/-- BREAKPOINT_DRAINED (R307). Once the timeout won it is late (R23). -/
def execBreakpointDrained (s : State) : Host.Outcome State Fault Refusal :=
  let s := s.begin
  match s.obs.bp with
  | none => .next s.late
  | some b =>
    if b.halted then .next s.late
    else
      let s := s.arrives .breakpointDrainTimeout 2
      let s := (s.activeDoms.flatMap s.physCores).foldl (fun (s : State) (c : PCore) =>
        s.upProbe c (fun p => { p with drained := p.drained || p.drain })) s
      .next (s.haltPc b).settleAll

/-- BREAKPOINT_DRAIN_TIMEOUT (R307). -/
def execBreakpointDrainTimeout (s : State) : Host.Outcome State Fault Refusal :=
  let s := s.begin
  if !s.expired .breakpointDrainTimeout then .next s
  else
    let s := s.expire .breakpointDrainTimeout
    match s.obs.bp with
    | some b => .next (if b.halted then s else s.haltPc { b with notDrained := true }).settleAll
    | none => .next s

/-- The next match that waits is taken, when it still matches (R307). -/
def State.nextBp (s : State) : State :=
  match s.obs.bpWaiting with
  | [] => s
  | (pc, event, filter, d) :: q =>
    { s with obs := { s.obs with bpWaiting := q } }.matchBp pc event filter d

/-- The halted core resumes, and drain and holds are released (R308). -/
def State.resumeBp (s : State) (b : Bp) : State :=
  let s : State := { s with obs := { s.obs with bp := none } }
  let s := (s.putN (pcKey b.pc) 0).arm (.pcSilent b.pc) silence
  let s := allDoms.foldl (fun (s : State) (d : Dom) => s.setHold d 6 false) s
  let s := allCores.foldl (fun (s : State) (c : PCore) => s.undrainCore c) s
  (s.putN (key 0x2750 9) 0).nextBp

/-- A resume wins against the halt timeout, or finds no halted core and is refused. -/
def orderResume (s : State) : State × WEnd :=
  match s.obs.bp with
  | some b => if b.halted then ((s.arrives .bpHaltTimeout 5).resumeBp b, .done) else (s, .refused 8)
  | none => (s, .refused 8)

/-- BP_RESUME (R308). -/
def execBpResume (path : Path) (s : State) : Host.Outcome State Fault Refusal :=
  .next (s.begin.granted path (key 0x2750 0xB) 1 false orderResume).settleAll

/-- BP_HALT_TIMEOUT (R308): the core resumes and the breakpoint is disarmed. -/
def execBpHaltTimeout (s : State) : Host.Outcome State Fault Refusal :=
  let s := s.begin
  if !s.expired .bpHaltTimeout then .next s
  else
    let s := s.expire .bpHaltTimeout
    match s.obs.bp with
    | some b =>
      let r := s.content (key 0x2750 0xA)
      let s := s.setContent (key 0x2750 0xA) (setBytes r 0x13 (le 1 (fieldAt r 0x13 1 ||| 2)))
      .next ((s.putN (key 0x2750 b.number) 0).resumeBp b).settleAll
    | none => .next s

end Sys2Proof.Machine
end

