-- ==== Sys2Proof/Machine/RecoveryCmds.lean ====
section
/-! DEFINITION. The orders and events of the recovery ladder: reset orders (R315 to R322), completions and timeouts (R323 to
R326), captures and dumps (R327), the fence of stale tags (R313) (13_recovery_ladder.md). -/

namespace Sys2Proof.Machine

/-! ### Orders -/

/-- The order word (13, 'The ladder'). -/
def orderWord (level mode domain unit : Nat) : Word :=
  BitVec.ofNat 64 (level * 2 ^ 28 + mode * 2 ^ 24 + domain * 2 ^ 16 + unit)

/-- A field value that its level does not allow (R315). -/
def orderOutOfRange (level mode unit : Nat) : Bool :=
  level == 0 || decide (5 < level) || decide (2 < mode) || (decide (3 ≤ level) && mode != 0) ||
    (level == 2 && decide (4199 < unit)) || (level == 3 && decide (3 < unit)) ||
    ((level == 1 || level == 4 || level == 5) && unit != 0)

/-- A partition, chip or power-cycle reset of the same or a higher level runs (R316). -/
def State.higherRuns (s : State) (level : Nat) : Bool :=
  s.rcv.resets.any (fun r => decide (3 ≤ r.atLevel) && decide (level ≤ r.atLevel))

/-- The domain already has a reset in progress (R316). -/
def State.resetRuns (s : State) (d : Dom) : Bool := s.rcv.resets.any (fun r => r.d == some d)

/-- The domain is in lock-step narrowing, or unattributed (R317). -/
def State.narrowing (s : State) (d : Dom) : Bool :=
  s.job.narrow.any (fun n => n.d == d) || (s.multi d && (s.get (key 0x2C10 6) == 2 || s.get (key 0x2C10 6) == 3))

/-- A sparing of the domain is under way. -/
def State.sparingRuns (s : State) (d : Dom) : Bool := s.get (domKey 0x1302 0x10 d) != 0

/-- A domain in a special state turns away an order in mode 1 (R317). -/
def State.special (s : State) (d : Dom) : Bool := s.sparingRuns d || (s.dom d).poison.isSome || s.narrowing d

/-- An order on a context begins, with the engines that an order of level 2 goes on to (R317, R318, R320). An order in mode
2 on a domain stopped by poison acts as the poison action that ends the job. -/
def orderContext (path : Path) (d : Dom) (mode level unit : Nat) (engines : List (PCore × EngineNo)) (s : State) :
    State × WEnd :=
  if s.resetRuns d then (s, .busy)
  else if mode = 1 ∧ s.special d then (s, .busy)
  else
    let s := if mode = 2 ∧ (s.dom d).poison.isSome then s.putN (domKey 0x2301 1 d) 2 else s
    (s.beginContext d mode (originOf path) level unit engines, .done)

/-- A level 1 order. -/
def orderLevel1 (path : Path) (d : Dom) (mode : Nat) (s : State) : State × WEnd :=
  if !(s.dom d).active || mode == 0 then (s, .refused 8)
  else if s.higherRuns 1 then (s, .busy)
  else orderContext path d mode 1 0xFFFF [] s

/-- A level 2 order: up to 8 at once, and one on each engine. -/
def orderLevel2 (path : Path) (c : PCore) (e : EngineNo) (mode : Nat) (s : State) : State × WEnd :=
  let runs := s.rcv.resets.filter (fun r => r.level == 2)
  if (s.domOfCore c).isSome && mode == 0 then (s, .refused 8)
  else if s.higherRuns 2 || decide (8 ≤ runs.length) ||
      runs.any (fun r => (c, e) ∈ r.engines || (c, e) ∈ r.thenEngines) then (s, .busy)
  else match s.domOfCore c with
    | some d => orderContext path d mode 2 (engineInstance c e) [(c, e)] s
    | none => (s.beginEngine c e mode (originOf path), .done)

/-- A level 3 order: the stack must be in service. -/
def orderLevel3 (path : Path) (n : StackNo) (s : State) : State × WEnd :=
  if s.stackSt n = 2 ∨ s.stackSt n = 3 then (s, .refused 9)
  else if s.higherRuns 3 then (s, .busy)
  else (s.beginPartition n (originOf path) none, .done)

/-- A level 4 or 5 order. A power cycle takes over a chip reset in progress, whose capture stays (R316). -/
def orderLevel45 (path : Path) (level : Nat) (s : State) : State × WEnd :=
  if s.higherRuns level then (s, .busy)
  else
    let s := match s.reset? .chip with
      | some r => (s.supersedeReset r).disarm .dumpBudgetTimeout
      | none => s
    (s.beginChip level (originOf path) none, .done)

/-- A write of object 0x2900.08 by its fields (R315). -/
def orderReset (path : Path) (v : Nat) (s : State) : State × WEnd :=
  let level := bits v 31 28
  let mode := bits v 27 24
  let unit := bits v 15 0
  if orderOutOfRange level mode unit then (s, .refused 1)
  else if level = 1 then
    (if h : bits v 18 16 < 8 then orderLevel1 path ⟨bits v 18 16, h⟩ mode s else (s, .refused 1))
  else if level = 2 then
    (if h : unit / 7 < 600 then orderLevel2 path ⟨unit / 7, h⟩ ⟨unit % 7, Nat.mod_lt _ (by omega)⟩ mode s else (s, .refused 1))
  else if level = 3 then (if h : unit < 4 then orderLevel3 path ⟨unit, h⟩ s else (s, .refused 1))
  else orderLevel45 path level s

/-- An order on a path. -/
def State.resetOrder (s : State) (path : Path) (v : Word) : State :=
  (s.begin.granted path (key 0x2900 8) v false (orderReset path v.toNat)).settleAll

/-- CONTEXT_RESET_ROLLBACK (R318). -/
def execContextResetRollback (path : Path) (d : Dom) (s : State) : Host.Outcome State Fault Refusal :=
  .next (s.resetOrder path (orderWord 1 1 d.val 0))

/-- CONTEXT_RESET_END (R318). -/
def execContextResetEnd (path : Path) (d : Dom) (s : State) : Host.Outcome State Fault Refusal :=
  .next (s.resetOrder path (orderWord 1 2 d.val 0))

/-- ENGINE_RESET (R320). -/
def execEngineReset (path : Path) (mode : Fin 16) (unit : BitVec 16) (s : State) : Host.Outcome State Fault Refusal :=
  .next (s.resetOrder path (orderWord 2 mode.val 0 unit.toNat))

/-- PARTITION_RESET (R321). -/
def execPartitionReset (path : Path) (unit : BitVec 16) (s : State) : Host.Outcome State Fault Refusal :=
  .next (s.resetOrder path (orderWord 3 0 0 unit.toNat))

/-- CHIP_RESET (R322). -/
def execChipReset (path : Path) (s : State) : Host.Outcome State Fault Refusal :=
  .next (s.resetOrder path (orderWord 4 0 0 0))

/-- POWER_CYCLE_ORDER (R322). -/
def execPowerCycleOrder (path : Path) (s : State) : Host.Outcome State Fault Refusal :=
  .next (s.resetOrder path (orderWord 5 0 0 0))

/-! ### Completions (R314, R323) -/

/-- A freeze of a core concerned stops the reset where it stands (R326). -/
def State.resetFrozen (s : State) (r : Reset) : Bool := s.frz.on && r.cores.any (fun c => c ∈ s.frz.cores)

/-- CONTEXT_DRAINED (R318): every core reports drained. After an escalation it is late (R323). -/
def execContextDrained (d : Dom) (s : State) : Host.Outcome State Fault Refusal :=
  let s := s.begin
  match s.reset? (.context d) with
  | none => .next s.late
  | some r =>
    if r.phase ≠ 0 ∨ r.atLevel ≠ 1 then .next s.late
    else if s.resetFrozen r then .next s
    else
      let s := r.cores.foldl (fun (s : State) (c : PCore) => s.upProbe c (fun p => { p with drained := true })) s
      let s := s.arrives (.resetTimeout r.id) 6
      .next (s.contextComplete r.id).settleAll

/-- The engine is back: object .9 and the count of its resets. -/
def State.engineBack (s : State) (c : PCore) (e : EngineNo) : State := (s.putN (engKey c e 9) 0).bump (engKey c e 10)

/-- The last engine of a reset is back: a context reset that escalated completes its context, and one whose context is over
completes. -/
def State.enginesBack (s : State) (r : Reset) : State :=
  let s := s.arrives (.resetTimeout r.id) 6
  match r.id with
  | .context _ =>
    if r.phase = 0 then
      let s := r.cores.foldl (fun (s : State) (c : PCore) => s.upProbe c (fun p => { p with drained := true })) s
      s.contextComplete r.id
    else s.completeReset r.id [] []
  | i => s.completeReset i [] []

/-- ENGINE_RESET_DONE (R320). With no reset of the engine in progress it is late. -/
def execEngineResetDone (core : PCore) (engine : EngineNo) (s : State) : Host.Outcome State Fault Refusal :=
  let s := s.begin
  match s.rcv.resets.find? (fun r => (core, engine) ∈ r.engines) with
  | none => .next s.late
  | some r =>
    if s.frz.on ∧ core ∈ s.frz.cores then .next s
    else
      let left := r.engines.filter (fun x => x ≠ (core, engine))
      let r := { r with engines := left }
      let s := (s.engineBack core engine).upReset r.id (fun _ => r)
      .next (if left.isEmpty then s.enginesBack r else s).settleAll

/-- PARTITION_RESET_DONE (R321): every slice is filled and every specimen run is over. -/
def execPartitionResetDone (n : StackNo) (s : State) : Host.Outcome State Fault Refusal :=
  let s := s.begin
  match s.reset? (.partition n) with
  | none => .next s.late
  | some r =>
    if r.phase ≠ 6 || !s.partitionReady r || s.resetFrozen r then .next s
    else .next ((s.arrives (.resetTimeout r.id) 6).completePartition n r).settleAll

/-- CHIP_RESET_SEQUENCE_DONE (R322): a warm recovery begins; the chip reset completes with it (R325). A power cycle already
requested stays requested. -/
def execChipResetSequenceDone (s : State) : Host.Outcome State Fault Refusal :=
  let s := s.begin
  match s.reset? .chip with
  | none => .next s.late
  | some r =>
    if r.phase ≠ 5 ∨ r.atLevel ≠ 4 then .next s
    else
      let s := (s.upReset .chip (fun x => { x with phase := 6 })).beginBringup 1
      let s := if s.pwrcyc then s.putN (key 0x2400 3) 2 else s
      .next s.settleAll

/-- RESET_TIMEOUT (R323). -/
def execResetTimeout (r : ResetId) (s : State) : Host.Outcome State Fault Refusal :=
  let s := s.begin
  if !s.expired (.resetTimeout r) then .next s
  else
    let s := s.expire (.resetTimeout r)
    match s.reset? r with
    | some x => .next (s.resetHangs x).settleAll
    | none => .next s

/-! ### Captures and dumps (R327) -/

/-- CAPTURE_TIMEOUT: the latch is marked not captured, and the reset goes on. -/
def execCaptureTimeout (core : PCore) (s : State) : Host.Outcome State Fault Refusal :=
  let s := s.begin
  if !s.expired (.captureTimeout core) then .next s
  else
    let s := s.expire (.captureTimeout core)
    let tag := match s.domOfCore core with
      | some d => s.nat (domKey 0x2902 1 d)
      | none => 0xFFFF
    let s := (s.setContent (coreKey core 0xD1) (s.latchOf core tag false)).putN (coreKey core 0xD2) 3
    .next { s with rcv := { s.rcv with
      latching := s.rcv.latching.filter (fun x => x ≠ core),
      latchLate := s.rcv.latchLate.filter (fun x => x ≠ core) ++ [core],
      resets := s.rcv.resets.map (fun (r : Reset) =>
      if core ∈ r.cores then { r with notCaptured := r.notCaptured + 1 } else r) } }

/-- The reset that waits for its dump goes on, unless a freeze stops it. -/
def State.dumpEnds (s : State) (num : Nat) : State :=
  match s.reset? .chip with
  | some r => if r.phase = 4 ∧ r.dump = some num ∧ !s.resetFrozen r then s.assertReset else s
  | none => s

/-- DUMP_WRITTEN (R327, R339): PC0 has written the oldest dump that waits; records of `bad` failed (R340). -/
def execDumpWritten (bad : List Nat) (s : State) : Host.Outcome State Fault Refusal :=
  let s := s.begin
  match s.rcv.dumps.find? (fun (x : Dump) => x.origin ≠ 2) with
  | none => .next s
  | some x =>
    if !s.dutyRuns 0 then .next s
    else
      let waits := match s.reset? .chip with
        | some r => r.phase == 4 && r.dump == some x.num
        | none => false
      let s := if waits then s.arrives .dumpBudgetTimeout 6 else s
      .next ((s.writeDump x none 0 bad).dumpEnds x.num).settleAll

/-- DUMP_BUDGET_TIMEOUT (R322): the reset proceeds, and the dump is marked incomplete. -/
def execDumpBudgetTimeout (s : State) : Host.Outcome State Fault Refusal :=
  let s := s.begin
  if !s.expired .dumpBudgetTimeout then .next s
  else
    let s := s.expire .dumpBudgetTimeout
    match s.reset? .chip with
    | none => .next s
    | some r => match s.rcv.dumps.find? (fun (x : Dump) => some x.num == r.dump) with
      | none => .next s
      | some x =>
        let (s, cut) := s.sectionsCut x
        .next ((s.writeDump x (some cut) 2 []).dumpEnds x.num).settleAll

/-! ### The fence (R313) -/

/-- The tag is the current one of an active domain. -/
def State.tagCurrent (s : State) (tag : BitVec 16) : Bool := s.activeDoms.any (fun d => s.tag d == tag.toNat)

/-- The late record (R328), 32 bytes. -/
def lateRecord (now : Word) (tag kind port core writer place step : Nat) (rank : Rank) : Bytes :=
  le 8 now.toNat ++ le 2 tag ++ le 1 kind ++ le 1 port ++ le 2 core ++ le 2 writer ++ le 4 place ++ le 6 step ++
    le 4 rank.toNat ++ le 2 0

/-- The drop in the record of the reset that made the tag stale. -/
def State.noteLate (s : State) (tag : BitVec 16) (f : Reset → Reset) : State :=
  { s with rcv := { s.rcv with resets := s.rcv.resets.map (fun (r : Reset) => if r.tag = tag ∧ r.d.isSome then f r else r) } }

/-- LATE_WRITE_DROPPED (R313). A write that carries a current tag is not dropped. -/
def execLateWriteDropped (slice : PCore) (writer : Option PCore) (rank : Rank) (tag : BitVec 16) (word : BitVec 25)
    (s : State) : Host.Outcome State Fault Refusal :=
  let s := s.begin
  if s.tagCurrent tag then .next s
  else
    let s := (s.bump (coreKey slice 0xD3)).bump (key 0x2900 0x12)
    let s := s.noteLate tag (fun r => { r with lateWrites := r.lateWrites + 1 })
    let w := match writer with
      | some c => c.val
      | none => 0xFFFF
    let b := lateRecord s.now tag.toNat 1 0xFF slice.val w word.toNat (2 ^ 48 - 1) rank
    .next (s.raiseRecord 0xB1 slice.val b false (key 0x2900 0x14)).settleAll

/-- LATE_PACKET_DISCARDED (R313). A packet that carries a current tag is delivered. -/
def execLatePacketDiscarded (p : PortNo) (rank : Rank) (tag : BitVec 16) (sequence : BitVec 32) (n : Nat) (s : State) :
    Host.Outcome State Fault Refusal :=
  let s := s.begin
  if s.tagCurrent tag then .next s
  else
    let s := (s.bump (portKey p 0x60)).bump (key 0x2900 0x13)
    let s := s.noteLate tag (fun r => { r with latePackets := r.latePackets + 1 })
    let b := lateRecord s.now tag.toNat 2 p.val 0xFFFF 0xFFFF sequence.toNat n rank
    .next (s.raiseRecord 0xB2 p.val b false (key 0x2900 0x14)).settleAll

end Sys2Proof.Machine
end

