-- ==== Sys2Proof/Machine/CellarCmds.lean ====
section
/-! DEFINITION. The commands of the Cellar: the commit of an error record (R232, R238, R340), the patrol (R342), the erase
(R344) (14_cellar.md). -/

namespace Sys2Proof.Machine

/-- The record of a capture enters the error ring while the records at `bad` fail (R340). -/
def State.commitAround (s : State) (c : Capture) (bad : List Nat) : State :=
  let s := State.writeEntry 2 0x001 c.bytes (bad.length + 1) bad s
  (s.setContent (srcKey c.src 0xA) c.bytes).setContent (key 0x2400 0xB) c.bytes

/-- ERROR_RECORD_COMMIT (R232): a record whose handling timed out goes first; else the one being handled, whose commit wins
against its timeout. -/
def execErrorRecordCommit (bad : List Nat) (s : State) : Host.Outcome State Fault Refusal :=
  let s := s.begin
  if !s.dutyRuns 0 then .next s
  else match s.err.lateRecords with
    | c :: l => .next ({ s with err := { s.err with lateRecords := l } }.commitAround c bad).settleAll
    | [] => match s.err.handling with
      | none => .next s
      | some c =>
        let s := (s.arrives .handlingTimeout 6).commitAround c bad
        .next (({ s with err := { s.err with handling := none } } : State)).settleAll

/-! ### Patrol (R342) -/

/-- An entry with a damaged record, by its first one: counted and raised. A copy of a configuration item whose other copy is
intact is written again over its own records (log entry 43). -/
def State.patrolEntry (s : State) (e : CellEntry) (l : List Nat) : State :=
  let i := l.foldl min (l.headD 0)
  let other := s.cel.entries.find? (fun x => decide (e.region < 2) && x.intact && decide (x ≠ e) && x.kind == e.kind && x.body == e.body)
  let mended := other.isSome && !l.isEmpty
  let upd (x : CellEntry) : CellEntry :=
    if x = e then { x with damaged := if mended then [] else (x.damaged ++ l).dedup } else x
  let s := s.setCellar { s.cel with
    entries := s.cel.entries.map upd
    bytes := s.cel.bytes + (if mended then 64 * recordsFor e.body.length else 0) }
  (s.bump (key 0x2A00 9)).raise 0xC0 0 (damageRecord (e.offset i) e.seq e.kind (if mended then 4 else 1) 0 false)

/-- Records of an entry that lie at damaged offsets. -/
def damagedIn (e : CellEntry) (damaged : List Nat) : List Nat :=
  (List.range (recordsFor e.body.length)).filter (fun i => e.offset i ∈ damaged)

/-- CELLAR_PATROL (R342): every record of every committed entry is checked; those at `damaged` fail their CRC. -/
def execCellarPatrol (damaged : List Nat) (s : State) : Host.Outcome State Fault Refusal :=
  let s := s.begin
  if !s.expired (.cellarPatrol []) then .next s
  else
    let s := s.arm (.cellarPatrol []) (hour (s.nat (key 0x2A00 0xE)))
    if !s.dutyRuns 0 then .next s
    else
      let hit := s.cel.entries.filter (fun e => e.committed && !(damagedIn e damaged).isEmpty)
      let s := hit.foldl (fun (s : State) (e : CellEntry) => s.patrolEntry e (damagedIn e damaged)) s
      .next (s.put (key 0x2A00 0xB) s.now).settleAll

/-! ### Erase (R344) -/

/-- The commit word of every entry of the rings and the dump region becomes 0; numbers go on from their values. -/
def eraseCellar (s : State) : State × WEnd :=
  (s.setCellar { s.cel with
    entries := s.cel.entries.map (fun (e : CellEntry) => if 2 ≤ e.region then { e with committed := false } else e)
    dumpAt := [] }, .done)

/-- CELLAR_ERASE (R344). -/
def execCellarErase (path : Path) (s : State) : Host.Outcome State Fault Refusal :=
  .next (s.begin.granted path (key 0x2A00 0xD) 1 false eraseCellar)

end Sys2Proof.Machine
end

