-- ==== Sys2Proof/Machine/Management.lean ====
section
/-! DEFINITION. The life cycle (R369, R370), the MCTP control commands (R354) and the I3C common command codes (R236, R355)
(15_object_dictionary.md). -/

namespace Sys2Proof.Machine

/-! ### Life cycle -/

/-- States by number: 0 MANUFACTURE, 1 FIELD_OPEN, 2 FIELD_LOCKED, 3 RMA, 4 DECOMMISSIONED. -/
def lcAllowed (now target : Nat) : Bool :=
  match now, target with
  | 0, 1 => true
  | 0, 2 => true
  | 0, 4 => true
  | 1, 2 => true
  | 1, 4 => true
  | 1, 3 => true
  | 2, 4 => true
  | 2, 3 => true
  | 3, 4 => true
  | _, _ => false

/-- The serial number in 32 bytes, padded with zero bytes. -/
def serialField : Bytes := slice Config.serialNumber 0 32

/-- The transition token of R370: target state, nonce, serial number, and a signature under a key slot that is not revoked. -/
def State.tokenOk (s : State) (b : Bytes) (target : Nat) : Bool :=
  let slot := fieldAt b 1 1
  b.length == 144 && fieldAt b 0 1 == target && fieldAt b 8 8 == s.nat (key 0x1100 6) && (b.drop 0x10).take 32 == serialField &&
    decide (slot < 4) && !(s.get (key 0x1010 8)).getLsbD slot && Config.signatureOk slot (b.take 0x30) (b.drop 0x30)

/-- The checks of R369 in their order, from the third on; the first two are those of every write. -/
def writeTransition (target : Nat) (s : State) : State × WEnd :=
  if !lcAllowed s.lc target then (s, .refused 8)
  else if s.lcProgramming.isSome || s.nat (key 0x1100 4) != 0xFF then (s, .busy)
  else if !s.activeDoms.isEmpty then (s, .deferred)
  else if target == 3 && !(match s.lcToken with | some b => s.tokenOk b 3 | none => false) then (s, .refused 8)
  else ({ s with lcProgramming := some target }, .progress)

/-- LC_TRANSITION (R369). -/
def execLcTransition (path : Path) (value : Word) (s : State) : Host.Outcome State Fault Refusal :=
  .next (s.begin.granted path (key 0x1100 2) value false (writeTransition value.toNat)).settleAll

/-- LC_FUSES_PROGRAMMED (R369): the state becomes pending until the next cold start. -/
def execLcFusesProgrammed (s : State) : Host.Outcome State Fault Refusal :=
  let s := s.begin
  match s.lcProgramming with
  | none => .next s
  | some t =>
    let s := ({ s with lcProgramming := none }.putN (key 0x1100 4) t).bump (key 0x1100 5)
    .next ((s.endWrite (key 0x1100 2) .completed 0).send (.programFuses t))

/-! ### MCTP control (R354). Response layouts are those of DSP0236 (PRESUMED, log entry 44). -/

/-- The binding answers control messages: its path is served, and on I3C Phory has an address. -/
def State.controlServed (s : State) : Binding → Bool
  | .pcie => s.pathServed .adpPcie
  | .i3c => s.pathServed .adpI3c && s.get (key 0x1000 0xC) != 0

/-- Object of a binding's endpoint ID. -/
def eidKey : Binding → Nat
  | .pcie => key 0x1000 0xA
  | .i3c => key 0x1000 0xB

/-- A control response. On I3C it is announced, and none is given below 69 bytes (R355). -/
def State.sendControl (s : State) (b : Binding) (payload : Bytes) : State :=
  match b with
  | .pcie => s.send (.mctp b payload)
  | .i3c =>
    if s.i3cServes then (s.send (.mctp b payload)).signalIbi { cls := 0, src := 0, inst := 0, num := 0, mctp := true } else s

/-- A control command whose response the state gives. -/
def State.control (s : State) (b : Binding) (payload : Bytes) : State :=
  let s := s.begin
  if s.controlServed b then s.sendControl b payload else s

/-- SET_ENDPOINT_ID. 0 and 0xFF are no endpoint IDs: completion code 2. -/
def execSetEndpointId (b : Binding) (eid : Byte) (s : State) : Host.Outcome State Fault Refusal :=
  let s := s.begin
  if !s.controlServed b then .next s
  else if eid = 0 ∨ eid = 0xFF then .next (s.sendControl b [2])
  else .next ((s.putN (eidKey b) eid.toNat).sendControl b [0, 0, eid, 0])

/-- GET_ENDPOINT_ID: a simple endpoint with a dynamic ID. -/
def execGetEndpointId (b : Binding) (s : State) : Host.Outcome State Fault Refusal :=
  .next (s.control b [0, (s.get (eidKey b)).setWidth 8, 0, 0])

/-- GET_ENDPOINT_UUID. -/
def execGetEndpointUuid (b : Binding) (s : State) : Host.Outcome State Fault Refusal :=
  .next (s.control b ([0] ++ be 16 Config.endpointUuid.toNat))

/-- GET_MCTP_VERSION_SUPPORT: the spec names no version, so the entry is free. A message type that Phory does not serve has
completion code 0x80. -/
def execGetMctpVersionSupport (b : Binding) (type_ : Byte) (s : State) : Host.Outcome State Fault Refusal :=
  let (w, s) := s.fresh
  .next (s.control b (if type_ = 0xFF ∨ type_ = 0 ∨ type_ = 0x7E then [0, 1] ++ le 4 w.toNat else [0x80]))

/-- GET_MESSAGE_TYPE_SUPPORT: vendor defined, PCI. -/
def execGetMessageTypeSupport (b : Binding) (s : State) : Host.Outcome State Fault Refusal :=
  .next (s.control b [0, 1, 0x7E])

/-- GET_VENDOR_DEFINED_MESSAGE_SUPPORT: the one set, under Zenedel's PCI vendor identifier. Its 16-bit version field is the
ADP version. -/
def execGetVendorDefinedMessageSupport (b : Binding) (selector : Byte) (s : State) : Host.Outcome State Fault Refusal :=
  .next (s.control b (if selector = 0 then [0, 0xFF, 0] ++ be 2 Config.pciVendorId.toNat ++ be 2 1 else [2]))

/-! ### I3C (R236, R355). Response layouts are those of the MIPI specification (PRESUMED, log entry 44). -/

/-- Phory is on the bus (R383). -/
def State.onBus (s : State) (f : State → State) : State :=
  let s := s.begin
  if s.alive then f s else s

/-- Phory has a dynamic address, which a direct command needs. -/
def State.addressed (s : State) (f : State → State) : State :=
  s.onBus (fun s => if s.get (key 0x1000 0xC) = 0 then s else f s)

/-- No in-band interrupt is kept without an address or while they are disabled (R236). -/
def State.dropIbis (s : State) : State := { s with err := { s.err with ibiOut := none, ibiQueue := [] } }

/-- ENTDAA: a target that has no dynamic address takes part. -/
def execEntdaa (address : BitVec 7) (s : State) : Host.Outcome State Fault Refusal :=
  .next (s.onBus (fun s => if s.get (key 0x1000 0xC) = 0 then s.putN (key 0x1000 0xC) address.toNat else s))

/-- SETNEWDA. -/
def execSetnewda (address : BitVec 7) (s : State) : Host.Outcome State Fault Refusal :=
  .next (s.addressed (fun s => s.putN (key 0x1000 0xC) address.toNat))

/-- RSTDAA. -/
def execRstdaa (s : State) : Host.Outcome State Fault Refusal :=
  .next (s.onBus (fun s => (s.putN (key 0x1000 0xC) 0).dropIbis))

/-- GETPID: 6 bytes, most significant first. -/
def execGetpid (s : State) : Host.Outcome State Fault Refusal :=
  .next (s.addressed (fun s => s.send (.i3c (be 6 Config.i3cPid.toNat))))

/-- GETBCR. -/
def execGetbcr (s : State) : Host.Outcome State Fault Refusal :=
  .next (s.addressed (fun s => s.send (.i3c [Config.i3cBcr])))

/-- GETDCR. -/
def execGetdcr (s : State) : Host.Outcome State Fault Refusal :=
  .next (s.addressed (fun s => s.send (.i3c [Config.i3cDcr])))

/-- GETSTATUS: two bytes that the spec does not state, free. -/
def execGetstatus (s : State) : Host.Outcome State Fault Refusal :=
  .next (s.addressed (fun s =>
    let (w, s) := s.fresh
    s.send (.i3c (be 2 (w.toNat % 65536)))))

/-- GETMRL: the length, most significant byte first, and the 5 bytes of an in-band interrupt's payload (R236). -/
def execGetmrl (s : State) : Host.Outcome State Fault Refusal :=
  .next (s.addressed (fun s => s.send (.i3c (be 2 s.err.maxRead.toNat ++ [5]))))

/-- GETMWL. -/
def execGetmwl (s : State) : Host.Outcome State Fault Refusal :=
  .next (s.addressed (fun s => s.send (.i3c (be 2 s.err.maxWrite.toNat))))

/-- SETMRL. -/
def execSetmrl (length : BitVec 16) (s : State) : Host.Outcome State Fault Refusal :=
  .next (s.onBus (fun s => { s with err := { s.err with maxRead := length } }))

/-- SETMWL. -/
def execSetmwl (length : BitVec 16) (s : State) : Host.Outcome State Fault Refusal :=
  .next (s.onBus (fun s => { s with err := { s.err with maxWrite := length } }))

/-- ENEC: none of those missed is sent. -/
def execEnec (s : State) : Host.Outcome State Fault Refusal :=
  .next (s.onBus (fun s => { s with err := { s.err with ibiEnabled := true } }))

/-- DISEC (R236). -/
def execDisec (s : State) : Host.Outcome State Fault Refusal :=
  .next (s.onBus (fun s => { s with err := { s.err with ibiEnabled := false } }.dropIbis))

end Sys2Proof.Machine
end

