-- ==== Sys2Proof/Machine/ErrorsCmds.lean ====
section
/-! DEFINITION. Orders and events of the error logic (09_errors_and_reactions.md): sticky and mask words (R228, R230), the
handling of captures (R232), PHY_ERR_N (R237), MSI-X (R235), in-band interrupts (R236), the power cycle request (R240,
R380). -/

namespace Sys2Proof.Machine

/-! ### Sticky and mask words -/

/-- The source applies to the instance: the engine sources of matrix, vector or movement engines do to those alone (R226). -/
def sourceOn (n i : Nat) : Bool :=
  match sourceInfo n with
  | none => false
  | some x =>
    if x.scope = .engine then
      let e := i % 7
      decide (i < 4200) && (if n = 0x20 ∨ n = 0x24 then decide (e < 4) else if n = 0x21 then decide (4 ≤ e) && decide (e < 6)
        else if n = 0x22 then decide (e = 6) else true)
    else decide (i < x.scope.instances)

/-- Bits of word w that stand for an instance of source n. -/
def instanceBits (n w : Nat) : Word :=
  (List.range 64).foldl (fun m b => if sourceOn n (64 * w + b) then m ||| (1 <<< b) else m) 0

/-- A word beyond the scope's word count is refused as read-only (R388). -/
def wordFits (n w : Nat) (body : State → State × WEnd) (s : State) : State × WEnd :=
  if w < wordsOf n then body s else (s, .refused 2)

/-- A sticky word: each 1 clears its bit (R227, R230). -/
def clearSticky (n w : Nat) (v : Word) : State → State × WEnd :=
  wordFits n w (fun s => (s.put (srcKey n (0x20 + w)) (s.get (srcKey n (0x20 + w)) &&& ~~~v), .done))

/-- STICKY_CLEAR (R230). -/
def execStickyClear (path : Path) (source : Byte) (word : Fin 66) (value : Word) (s : State) :
    Host.Outcome State Fault Refusal :=
  .next (s.begin.granted path (srcKey source.toNat (0x20 + word.val)) value false
    (clearSticky source.toNat word.val value)).settleAll

/-- An unmasked instance whose sticky bit is set is signalled once, with no new record (R228). Its interrupt carries the low
byte of a record number that the rule does not name: a free value. -/
def State.unmask (s : State) (n i : Nat) (cls : ErrCls) : State :=
  if s.sticky n i then
    let (r, s) := s.fresh
    s.signal n i cls (r.setWidth 8)
  else s

/-- A mask word (R228): setting a bit of a class F source is refused; bits that stand for no instance stay 0. -/
def writeMask (n w : Nat) (v : Word) : State → State × WEnd :=
  wordFits n w (fun s =>
    match sourceInfo n with
    | none => (s, .noObject)
    | some x =>
      let v := v &&& instanceBits n w
      if x.cls = .f ∧ v ≠ 0 then (s, .refused 8)
      else
        let old := s.get (srcKey n (0x62 + w))
        let s := s.put (srcKey n (0x62 + w)) v
        ((List.range 64).foldl (fun s b =>
          if old.getLsbD b && !v.getLsbD b then s.unmask n (64 * w + b) x.cls else s) s, .done))

/-- MASK_WRITE (R228). -/
def execMaskWrite (path : Path) (source : Byte) (word : Fin 66) (value : Word) (s : State) :
    Host.Outcome State Fault Refusal :=
  .next (s.begin.granted path (srcKey source.toNat (0x62 + word.val)) value false
    (writeMask source.toNat word.val value)).settleAll

/-! ### Handling (R232) -/

/-- HANDLING_START (R232): PC0 takes the next capture, when it runs its duties and handles none. -/
def execHandlingStart (s : State) : Host.Outcome State Fault Refusal := .next s.begin.takeCapture

/-- HANDLING_TIMEOUT (R232): the handling ends; its record is committed later, with its late flag. -/
def execHandlingTimeout (s : State) : Host.Outcome State Fault Refusal :=
  let s := s.begin
  if !s.expired .handlingTimeout then .next s
  else
    let s := s.expire .handlingTimeout
    match s.err.handling with
    | none => .next s
    | some c =>
      let s := s.bump (key 0x2400 0x10)
      .next { s with err := { s.err with handling := none, lateRecords := s.err.lateRecords ++ [{ c with late := true }] } }

/-! ### PHY_ERR_N (R237) -/

/-- ERR_PULSE_END (R237): the hold to come is applied with no release in between. -/
def execErrPulseEnd (s : State) : Host.Outcome State Fault Refusal :=
  let s := s.begin
  if !s.expired .errPulseEnd then .next s
  else
    let s := s.disarm .errPulseEnd
    .next { s with err := { s.err with pulse := false, hold := s.err.hold || s.err.holdToCome, holdToCome := false } }

/-- A release ends an applied hold, not one to come; in the fault state it is refused. -/
def releaseHold (s : State) : State × WEnd :=
  if s.faulted then (s, .refused 6) else ({ s with err := { s.err with hold := false } }, .done)

/-- HOLD_RELEASE (R237). -/
def execHoldRelease (path : Path) (s : State) : Host.Outcome State Fault Refusal :=
  .next (s.begin.granted path (key 0x2400 5) 1 false releaseHold).settleAll

/-! ### Interrupts -/

/-- MSIX_VECTOR_UNMASK (R235): a pending message is sent. -/
def execMsixVectorUnmask (vector : Fin 2048) (s : State) : Host.Outcome State Fault Refusal :=
  let s := s.begin
  let v := vector.val
  let pending := s.err.msixPending.getLsbD v
  let s : State := { s with err := { s.err with
    msixMask := s.err.msixMask &&& ~~~((1 : BitVec 2048) <<< v), msixPending := s.err.msixPending &&& ~~~((1 : BitVec 2048) <<< v) } }
  .next (if pending then s.send (.msix v) else s)

/-- The next queued in-band interrupt becomes the outstanding one and is sent. -/
def State.nextIbi (s : State) : State :=
  match s.err.ibiQueue with
  | [] => { s with err := { s.err with ibiOut := none } }
  | i :: q => { s with err := { s.err with ibiOut := some (i, 0), ibiQueue := q } }.send (.ibi (s.ibiPayload i))

/-- IBI_BUS_FREE (R236): the outstanding interrupt is over when it was acknowledged, else retried, at most 8 times. -/
def execIbiBusFree (acknowledged : Bool) (s : State) : Host.Outcome State Fault Refusal :=
  let s := s.begin
  if !s.err.ibiEnabled then .next s
  else match s.err.ibiOut with
    | none => .next s.nextIbi
    | some (i, tries) =>
      if acknowledged || decide (8 ≤ tries) then .next s.nextIbi
      else .next ({ s with err := { s.err with ibiOut := some (i, tries + 1) } }.send (.ibi (s.ibiPayload i)))

/-! ### The power cycle request (R240, R380) -/

/-- PHY_PWRCYC_N goes low, and object 0x2400.03 reads 2. -/
def State.requestCycle (s : State) : State :=
  ({ s.disarm .powerCycleDelay with pwrcyc := true }.putN (key 0x2400 3) 2).send (.powerCycle true)

/-- The request, which waits for the release of a freeze that won (R240). -/
def State.cycleOrWait (s : State) : State :=
  if s.frz.on then (s.arm .powerCycleDelay 0).holdTimers (fun c => c == .powerCycleDelay) else s.requestCycle

/-- POWER_CYCLE_DELAY (R240). -/
def execPowerCycleDelay (s : State) : Host.Outcome State Fault Refusal :=
  let s := s.begin
  if !s.expired .powerCycleDelay || s.get (key 0x2400 3) != 1 then .next s else .next s.cycleOrWait

/-- A request at once, in the fault state only. -/
def cycleNow (s : State) : State × WEnd :=
  if s.get (key 0x2400 3) != 1 then (s, .refused 8) else (s.cycleOrWait, .done)

/-- POWER_CYCLE_NOW (R240). -/
def execPowerCycleNow (path : Path) (s : State) : Host.Outcome State Fault Refusal :=
  .next (s.begin.granted path (key 0x2400 0xA) 1 false cycleNow)

end Sys2Proof.Machine
end

