-- ==== Sys2Proof/Machine/Screening.lean ====
section
/-! DEFINITION. Screening in service: specimen runs (R129 to R133), cross-core runs (R134 to R137), the check budget (R149,
R150) (05_screening_and_margins.md). -/

namespace Sys2Proof.Machine

/-! ### Scheduled runs (R130, R150) -/

/-- The scheduled run of a core in a specimen interval: deferred on an enabled core after a window over budget, but for one
run in four intervals (R150): it waits for a window within the budget. A core whose run is not over gets no second one. -/
def State.scheduledRun (s : State) (c : PCore) : State :=
  if (s.running? c).isSome then s
  else
    let n := tabGet 0 s.deferred c.val
    if s.overBudget && s.busyCore c && decide (n < 3) then
      { s.bump (key 0x2201 8) with deferred := tabPut 0 s.deferred c.val (n + 1)
                                   waitingRuns := s.waitingRuns.filter (fun x => x ≠ c) ++ [c] }
    else ({ s with deferred := tabPut 0 s.deferred c.val 0, waitingRuns := s.waitingRuns.filter (fun x => x ≠ c) }).issueSpecimen c 0

/-- SPECIMEN_INTERVAL (R130). -/
def execSpecimenInterval (s : State) : Host.Outcome State Fault Refusal :=
  let s := s.begin
  if !s.expired .specimenInterval then .next s
  else
    let s := s.arm .specimenInterval (sec (s.nat (key 0x2200 2)))
    let l := if (s.get (key 0x2200 1)).getLsbD 0 then allCores.filter s.screenable else []
    .next (l.foldl (fun s c => s.scheduledRun c) s).settleAll

/-! ### The outcome of a specimen run (R132) -/

/-- The sparing whose replacement awaits its specimen run. -/
def State.sparingOf (s : State) (c : PCore) : Option (Dom × Sparing) :=
  allDoms.findSome? (fun d => ((s.dom d).sparings.find? (fun p => p.repl == some c && p.of_.isNone)).map (fun p => (d, p)))

/-- A run's repeat passed (R132): a specimen transient, raised on each engine that the first run failed on or whose self-check it
missed, and a third run 60 s later. -/
def State.transient (s : State) (r : Run) : State :=
  let s := s.bump (key 0x2204 3)
  let l := allEngines.flatMap (fun e =>
    (if e ∈ r.failed then [(e, if r.timedOut then 2 else 1)] else []) ++ (if e ∈ r.missed then [(e, 3)] else []))
  let s := l.foldl (fun s (x : EngineNo × Nat) =>
    let (e, kind) := x
    s.screen 0x41 (engineInstance r.core e) r.core
      (screenRecord s r.core e.val kind (Config.specimenProgram e).toNat 0xFFFF 0) false) s
  let s := if r.why = 1 then s.countStage 2 else s
  s.arm (.specimenRetest r.core) (sec 60)

/-- A core that is neither fenced nor retired nor held is admitted to service: its isolate control is released (R384). -/
def State.letIn (s : State) (c : PCore) : State := if s.fp c = 0 ∨ s.fp c = 1 then s.unisolateCore c else s

/-- What waits for a passing run goes on (R190, R199, R258, R279, R321, R384). An unfenced core that kept its number is waited for
no more (R189, R199). -/
def State.afterPass (s : State) (r : Run) : State :=
  let c := r.core
  if r.why = 1 then
    ({ s.letIn c with bring := { s.bring with specLeft := s.bring.specLeft.filter (fun x => x ≠ c) } }).countStage 0
  else if r.why = 2 then
    match s.sparingOf c with
    | some (d, p) => s.refillStep d p.fenced
    | none => s
  else if r.why = 3 then
    let s : State := { s with idleMoves := s.idleMoves.filter (fun k => k.val ≠ s.lcOf c) }
    let s := (s.unisolateCore c).setFp c (if s.lcOf c = 0xFFFF then 1 else 0)
    let s := (s.setCoreStates c 0 0).endWrite (key 0x1302 0xA) .completed 0
    -- a sparing that awaits a reserve for the core's own number is served (R195)
    allDoms.foldl (fun s d =>
      if (s.dom d).sparings.any (fun y => y.of_.isNone && y.repl.isNone && y.fenced == c) then s.sparingNext d else s) s
  else if r.why = 4 then s.letIn c
  else if r.why = 5 then
    match s.test.returning.find? (fun (x : PCore × Nat) => x.1 == c) with
    | some x => ({ s with test := { s.test with returning := s.test.returning.filter (fun (y : PCore × Nat) => y.1 ≠ c) } }).returnCore c x.2
    | none => s
  else if r.why = 7 then
    (({ s with rcv := { s.rcv with heldAtLimit := s.rcv.heldAtLimit.filter (fun x => x ≠ c) } }).letIn c).showResets
  else s

/-- The run passes (R132). -/
def State.runPasses (s : State) (r : Run) : State :=
  let s := (s.endSpecimen r.core).put (coreKey r.core 0x81) s.now
  let s := s.upProbe r.core (fun p => { p with passedSpecimen := true })
  let s := if r.again then s.transient r else s
  s.afterPass r

/-- One engine that failed in both runs: its source, with a record of its own (R83, R132). -/
def State.engineFailed (s : State) (c : PCore) (e : EngineNo) (kind : Nat) (forced : Bool := false) : State :=
  let n := if kind = 3 then 0x42 else 0x40
  let s := if kind = 3 then s.bump (key 0x2204 4) else s.bump (key 0x2204 2)
  s.screen n (engineInstance c e) c (screenRecord s c e.val (kind + 128 * bitOf forced) (Config.specimenProgram e).toNat 0xFFFF 0)
    forced

/-- What becomes of the core of a failed run: in a bring-up it is retired under R259, as a replacement it is given up (R190),
else each engine's rule applies (R83, R132). -/
def State.afterFailure (s : State) (r : Run) (l : List (EngineNo × Nat)) : State :=
  let c := r.core
  let cause (kind : Nat) : Nat := if kind = 3 then 4 else 3
  if r.why = 1 then
    let s : State := { s with bring := { s.bring with
      specLeft := s.bring.specLeft.filter (fun x => x ≠ c), exceptions := true } }
    let s : State := { s with bring := { s.bring with counts := s.bring.counts.set 1 (s.bring.counts.getD 1 0 + (l.map (·.1)).dedup.length) } }
    s.fenceSteps c (match l with | x :: _ => cause x.2 | [] => 3) false true
  else
    let s := if r.why = 3 then s.endWrite (key 0x1302 0xA) .completed 0 else s
    let s : State := { s with test := { s.test with returning := s.test.returning.filter (fun (x : PCore × Nat) => x.1 ≠ c) } }
    match s.sparingOf c, r.why with
    | some (d, p), 2 => s.replacementFailed d p.fenced c p.k
    | _, _ => allEngines.foldl (fun s e => match l.find? (fun x => x.1 == e) with
      | some x => s.fenceEngine (s.domOfCore c) c e (cause x.2)
      | none => s) s

/-- The run does not pass: `failed` are the engines whose digest differs or whose programs had not ended, `missed` those
whose self-check was not flagged. The first time it is repeated at once. When no engine failed twice the repeat counts as a
first run of its own engines. An engine that missed its self-check twice and failed as well has both outcomes. -/
def State.runFails (s : State) (r : Run) (failed missed : List EngineNo) (timedOut : Bool) : State :=
  let c := r.core
  let s := (s.endSpecimen c).bump (coreKey c 0x82)
  let before_ (e : EngineNo) : Bool := e ∈ r.failed || e ∈ r.missed
  let kinds (e : EngineNo) : List Nat :=
    let both := e ∈ missed && e ∈ r.missed
    (if both then [3] else []) ++
      (if e ∈ failed && before_ e then [if timedOut then 2 else 1] else if e ∈ missed && e ∈ r.failed && !both then [1] else [])
  let l := if r.again then allEngines.flatMap (fun e => (kinds e).map (fun k => (e, k))) else []
  if l.isEmpty then s.issueRun { r with again := true, timedOut := timedOut, failed := failed, missed := missed }
  else
    let s := l.foldl (fun s x => s.engineFailed c x.1 x.2) s
    (s.revertTrim c).afterFailure r l

/-- SPECIMEN_RUN_DONE (R132): a completion wins against its timeout, and its digests and self-checks decide (R129). That of a run
whose timeout has won, or that was ended, is late (R133). -/
def execSpecimenRunDone (core : PCore) (run : Nat) (results : List Word × List Bool) (s : State) :
    Host.Outcome State Fault Refusal :=
  let s := s.begin
  match (s.running? core).filter (fun r => r.id == run) with
  | none => .next s.late
  | some r =>
    let s := (s.arrives (.specimenTimeout core []) 6).bump (key 0x2204 1)
    let failed := allEngines.filter (fun e => results.1[e.val]? != some (Config.specimenDigest e))
    let missed := allEngines.filter (fun e => results.2[e.val]? != some true)
    let s := if failed.isEmpty && missed.isEmpty then s.runPasses r else s.runFails r failed missed false
    .next s.stageNext.settleAll

/-- SPECIMEN_TIMEOUT (R133): a failure of each engine whose programs had not ended; where none is named, of all. -/
def execSpecimenTimeout (core : PCore) (unfinished : List EngineNo) (s : State) : Host.Outcome State Fault Refusal :=
  let s := s.begin
  if !s.expired (.specimenTimeout core []) then .next s
  else
    let s := s.expire (.specimenTimeout core [])
    match s.running? core with
    | none => .next s
    | some r =>
      let s := s.bump (key 0x2204 8)
      let l := if unfinished.isEmpty then allEngines else unfinished
      .next (s.runFails r l [] true).stageNext.settleAll

/-- SPECIMEN_RETEST (R132): the third run of a core after a transient, while R130 gives it runs; over budget it waits (R150). -/
def execSpecimenRetest (core : PCore) (s : State) : Host.Outcome State Fault Refusal :=
  let s := s.begin
  if !s.expired (.specimenRetest core) then .next s
  else
    let s := s.disarm (.specimenRetest core)
    if !s.screenable core || (s.running? core).isSome then .next s
    else if s.budgetAllows core then .next (s.issueSpecimen core 0).settleAll
    else .next { s.bump (key 0x2201 8) with waitingRuns := s.waitingRuns.filter (fun x => x ≠ core) ++ [core] }

/-! ### Cross-core runs (R134 to R137) -/

/-- The pairs of pass r over n eligible cores (R135), by list position. -/
def pairsOf (n r : Nat) : List (Nat × Nat) :=
  (List.range n).foldl (fun acc i =>
    let taken (j : Nat) : Bool := acc.any (fun p => p.1 == j || p.2 == j)
    if taken i then acc
    else
      let first := i + 1 + r % (n - 1)
      match ((List.range n).map (fun t => (first + t) % n)).find? (fun j => j != i && !taken j) with
      | some j => acc ++ [(i, j)]
      | none => acc) []

/-- Cores for the pass, and those with step work that wait for a window within the budget (R150). -/
def State.crossCores (s : State) : List PCore × List PCore := (allCores.filter s.screenable).partition s.budgetAllows

/-- The pairs of pass r over the cores of a list (R135). -/
def State.startPairs (s : State) (l : List PCore) (r : Nat) : State :=
  (pairsOf l.length r).foldl (fun s p => match l[p.1]?, l[p.2]? with
    | some a, some b => s.startPair a b none
    | _, _ => s) s

/-- CROSSCORE_INTERVAL (R135). -/
def execCrosscoreInterval (s : State) : Host.Outcome State Fault Refusal :=
  let s := s.begin
  if !s.expired .crosscoreInterval then .next s
  else
    let s := s.arm .crosscoreInterval (sec (s.nat (key 0x2200 4)))
    if !(s.get (key 0x2200 1)).getLsbD 1 then .next s
    else
      let (l, w) := s.crossCores
      let r := s.crossPass
      let s := ({ s with crossPass := r + 1, waitingCross := w }).bumpBy (key 0x2201 8) w.length
      .next (s.startPairs l r).settleAll

def State.dropCross (s : State) (x : Cross) : State :=
  x.cores.foldl (fun s c => s.disarm (.crosscoreTimeout c x.id)) { s with crosses := s.crosses.filter (fun y => y.id != x.id) }

def Cross.digestOf (x : Cross) (c : PCore) : Option (List Word) := (x.digests.find? (fun p => p.1 == c)).map (·.2)

/-- Engines whose digests on two cores differ. -/
def differing (a b : List Word) : List EngineNo := allEngines.filter (fun e => a[e.val]? != b[e.val]?)

/-- A core is charged for engines of a cross-core run (R136): its counters, its trim (R145), the record of the lowest engine
and the source, the others in their own engine objects, one entry of suspect steps per engine. A core a part of whose run was below
its trim is charged in the map alone (R139). -/
def State.chargeCross (s : State) (x : Cross) (c : PCore) (l : List EngineNo) (kind partner third : Nat) : State :=
  if c ∈ x.under then s.chargeMap c
  else
    let s := (if kind = 6 then [] else l.drop 1).foldl (fun s e => s.bump (engKey c e 2)) s
    let s := if kind = 5 then s else (s.bump (key 0x2204 6)).bump (coreKey c 0x84)
    let engine : Nat := match kind, l with
      | 6, _ => 0xFF
      | _, e :: _ => e.val
      | _, [] => 0xFF
    let s := s.screen 0x43 c.val c (screenRecord s c engine kind partner third x.id) false
    let s := s.revertTrim c
    l.foldl (fun s e => s.chargeEngine (s.domOfCore c) c e (runEntry x.id) 1) s

/-- The three digests of a run (R136): each core's diverging engines, those that differ from two equal ones, and the engines
for which no two agree. -/
def Cross.verdict (a b c : List Word) : List EngineNo × List EngineNo × List EngineNo × List EngineNo :=
  let eq (x y : List Word) (e : EngineNo) : Bool := x[e.val]? == y[e.val]?
  (allEngines.filter (fun e => eq b c e && !eq a b e), allEngines.filter (fun e => eq a c e && !eq a b e),
   allEngines.filter (fun e => eq a b e && !eq a c e),
   allEngines.filter (fun e => !eq a b e && !eq b c e && !eq a c e))

/-- The three-way comparison is made. -/
def State.judgeThree (s : State) (x : Cross) (a b c : PCore) (da db dc : List Word) : State :=
  let s := (s.dropCross x).bump (key 0x2204 5)
  let (la, lb, lc, none_) := Cross.verdict da db dc
  let s := if la.isEmpty then s else s.chargeCross x a la 4 b.val c.val
  let s := if lb.isEmpty then s else s.chargeCross x b lb 4 a.val c.val
  let s := if lc.isEmpty then s else s.chargeCross x c lc 4 a.val b.val
  if none_.isEmpty then s
  else
    let s := s.bump (key 0x2204 7)
    let s := s.chargeCross x a none_ 5 b.val c.val
    let s := s.chargeCross x b none_ 5 a.val c.val
    s.chargeCross x c none_ 5 a.val b.val

/-- A pair is compared (R135, R136, R139): equal; different with a core below its trim, which alone is charged; else a third
eligible core runs the same work, the lowest that runs no other. One that the budget keeps from it is waited for (R150). With none
to be had no two digests agree. -/
def State.judgePair (s : State) (x : Cross) (a b : PCore) (da db : List Word) : State :=
  let l := differing da db
  if l.isEmpty then (s.dropCross x).bump (key 0x2204 5)
  else if a ∈ x.under || b ∈ x.under then
    let s := (s.dropCross x).bump (key 0x2204 5)
    let s := if a ∈ x.under then s.chargeMap a else s
    if b ∈ x.under then s.chargeMap b else s
  else
    let free := allCores.filter (fun c => s.screenable c && c ∉ x.cores && !s.belowTrim c)
    let open_ := free.filter s.budgetAllows
    let idle := open_.filter (fun c => !s.crosses.any (fun y => c ∈ y.cores))
    match (idle ++ open_).head? with
    | some c =>
      let y := { x with cores := x.cores ++ [c] }
      ({ s with crosses := s.crosses.map (fun (z : Cross) => if z.id = x.id then y else z) } : State).issueCross y [c]
    | none =>
      if !free.isEmpty then s.bump (key 0x2201 8) else
      let s := ((s.dropCross x).bump (key 0x2204 5)).bump (key 0x2204 7)
      (s.chargeCross x a l 5 b.val 0xFFFF).chargeCross x b l 5 a.val 0xFFFF

/-- A run that ended was a unit of its core's dwell, and the next begins. -/
def State.crossEnded (s : State) (x : Cross) : State :=
  match x.probed with
  | some c =>
    let s : State := { s with probings := s.probings.map (fun (p : Probing) => if p.core = c then { p with units := p.units + 1 } else p) }
    s.probeRun c
  | none => s

/-- What the digests and timeouts that are in decide, once none is awaited (R136, R137). The engines of a late core count as
diverging, for it gave no digest. -/
def State.judgeCross (s : State) (x : Cross) : State :=
  if !x.cores.all (fun c => c ∈ x.late || (x.digestOf c).isSome) then s
  else match x.cores with
    | [a, b] =>
      match x.digestOf a, x.digestOf b with
      | some da, some db =>
        let s := s.judgePair x a b da db
        if s.crosses.any (fun y => y.id == x.id) then s else s.crossEnded x
      | _, _ => (s.dropCross x).crossEnded x
    | [a, b, c] =>
      match x.digestOf a, x.digestOf b, x.digestOf c with
      | some da, some db, some dc => (s.judgeThree x a b c da db dc).crossEnded x
      | some da, some db, none =>
        let l := differing da db
        let s := ((s.dropCross x).bump (key 0x2204 5)).bump (key 0x2204 7)
        ((s.chargeCross x a l 5 b.val c.val).chargeCross x b l 5 a.val c.val).crossEnded x
      | _, _, _ => (s.dropCross x).crossEnded x
    | _ => (s.dropCross x).crossEnded x

/-- The run that awaits the completion of a core. -/
def State.awaitedCross (s : State) (c : PCore) (run : Nat) : Option Cross :=
  s.crosses.find? (fun x => x.id == run && c ∈ x.cores && c ∉ x.late && (x.digestOf c).isNone)

/-- CROSSCORE_RUN_DONE (R136). -/
def execCrosscoreRunDone (core : PCore) (run : Nat) (digests : List Word) (s : State) :
    Host.Outcome State Fault Refusal :=
  let s := s.begin
  match s.awaitedCross core run with
  | none => .next s.late
  | some x =>
    let s := (s.arrives (.crosscoreTimeout core run) 6).bump (coreKey core 0x83)
    let y := { x with digests := x.digests ++ [(core, digests)] }
    let s : State := { s with crosses := s.crosses.map (fun (z : Cross) => if z.id = run then y else z) }
    .next (s.judgeCross y).settleAll

/-- CROSSCORE_TIMEOUT (R137): the run is abandoned, and the late core is charged as an odd core, each of its engines as one
that gave no digest. -/
def execCrosscoreTimeout (core : PCore) (run : Nat) (s : State) : Host.Outcome State Fault Refusal :=
  let s := s.begin
  if !s.expired (.crosscoreTimeout core run) then .next s
  else
    let s := s.expire (.crosscoreTimeout core run)
    match s.awaitedCross core run with
    | none => .next s
    | some x =>
      let s := s.bump (key 0x2204 8)
      let y := { x with late := x.late ++ [core] }
      let s : State := { s with crosses := s.crosses.map (fun (z : Cross) => if z.id = run then y else z) }
      let others := x.cores.filter (fun c => c ≠ core)
      let at_ (i : Nat) : Nat := match others[i]? with
        | some c => c.val
        | none => 0xFFFF
      let s := s.chargeCross y core allEngines 6 (at_ 0) (at_ 1)
      .next (s.judgeCross y).settleAll

/-! ### The check budget (R149, R150) -/

/-- a ÷ b in thousandths, to the nearest; 0 where there is nothing to divide by. -/
def thousandths (a b : Nat) : Nat := if b = 0 then 0 else (2000 * a + b) / (2 * b)

/-- Enabled cores. -/
def State.enabledCount (s : State) : Nat := (allCores.filter s.enabled).length

/-- A window within the budget begins: what waited for it goes on (R150): scheduled runs and third runs, the pass's cores, the third
core of a pair, the dwells of probed cores. -/
def State.resumeScreening (s : State) : State :=
  let runs := s.waitingRuns.filter (fun c => s.screenable c && (s.running? c).isNone)
  let cross := s.waitingCross.filter s.screenable
  let s : State := { s with waitingRuns := [], waitingCross := [] }
  let s := runs.foldl (fun s c => ({ s with deferred := tabPut 0 s.deferred c.val 0 }).issueSpecimen c 0) s
  let s := s.crosses.foldl (fun s x => if s.crosses.any (fun y => y == x) then s.judgeCross x else s) s
  let s := s.startPairs cross (s.crossPass - 1)
  (s.probings.map (·.core)).foldl (fun s c => s.probeRun c) s

/-- BUDGET_WINDOW_END (R149): matrix-engine cycles of enabled cores with checked job work and in all, and the core time in
1/16 ns of proofs and revises and of screening runs on enabled cores, over the window that ended. -/
def execBudgetWindowEnd (jobCycles allCycles proofTime screenTime : Nat) (s : State) : Host.Outcome State Fault Refusal :=
  let s := s.begin
  if !s.expired (.budgetWindowEnd 0 0 0 0) then .next s
  else
    let win := s.budgetWindow
    let s := s.armBudget
    let job := jobCycles
    let all := 64 * allCycles
    let coreTime := s.enabledCount * win
    let max16 (n : Nat) : Nat := min n 0xFFFF
    -- the share of the window as one fraction: galley, then proofs and screening
    let num := job * coreTime + (proofTime + screenTime) * all
    let den := all * coreTime
    let total := if den = 0 then thousandths job all + thousandths (proofTime + screenTime) coreTime else thousandths num den
    let s := s.putN (key 0x2201 3) (max16 total)
    let s := s.putN (key 0x2201 4) (max16 (thousandths job all))
    let s := s.putN (key 0x2201 5) (max16 (thousandths proofTime coreTime))
    let s := s.putN (key 0x2201 6) (max16 (thousandths screenTime coreTime))
    let above := if den = 0 then decide (s.nat (key 0x2201 1) < total) else decide (s.nat (key 0x2201 1) * den < 1000 * num)
    let s : State := { s with overBudget := above }
    .next (if above then (s.bump (key 0x2201 7)).raise 0x47 0 [] else s.resumeScreening).settleAll

end Sys2Proof.Machine
end

