-- ==== Sys2Proof/Machine/Margins.lean ====
section
/-! DEFINITION. Margin probing and the guard-band map (R138 to R142), trims (R143 to R146), and the supervision of live
re-centring (R147, R148) (05_screening_and_margins.md). -/

namespace Sys2Proof.Machine

/-! ### Eligibility (R138) -/

/-- The core holds no step work of its own and can be probed: a reserve core without a spared role in a proof pool, or an
enabled core of no active domain; none whose clock is frozen or whose ports are closed. -/
def State.probeEligible (s : State) (c : PCore) : Bool :=
  s.screenable c && !(s.frz.on && c ∈ s.frz.cores) && !(s.probe c).isolating && !(s.probe c).spared && c ∉ s.badRegulators && (s.probing? c).isNone &&
    (if s.fp c = 1 then s.inPool c else !s.busyCore c)

/-- A probe of the core is due: it was not measured, its entry is stale, or the re-probe interval ended (R142). -/
def State.probeDue (s : State) (c : PCore) : Bool :=
  let p := s.probe c
  !p.mapFlags.getLsbD 0 || p.mapFlags.getLsbD 1 || p.reprobe

/-- Probing is on, and fewer cores are probed than object 0x2202.05 allows. -/
def State.probeRoom (s : State) : Bool :=
  (s.get (key 0x2200 1)).getLsbD 2 && decide (s.probings.length < s.nat (key 0x2202 5))

/-- The regulator of a probed core is commanded, and its settle timeout armed (R140). From a command below the trim on, what runs on
the core is under probing (R139). -/
def State.command (s : State) (c : PCore) (mv : Int) (phase : Nat) : State :=
  let under := decide (mv < s.trim c)
  let s := s.upProbing c (fun p => { p with mv := mv, phase := phase, units := 0, fails := 0, below := p.below || under })
  let s := (if under then s.markUnder c else s).upProbe c (fun p => { p with settling := 0 })
  (s.send (.regulator c mv)).arm (.settleTimeout c) (us (s.nat (key 0x2202 3)))

/-- The lowest supply of a probe, in mV. -/
def State.floorMv (s : State) : Int := -(s.nat (key 0x2202 1) : Int)

/-! ### The map entry and the trim target (R141, R143) -/

/-- The guard-band map entry of a core, 16 bytes (R141). -/
def State.mapEntryOf (s : State) (c : PCore) : Bytes :=
  le 8 (s.nat (coreKey c 0x8A)) ++ le 1 (s.nat (coreKey c 0x87)) ++ le 1 (s.nat (coreKey c 0x86)) ++
    le 1 (s.nat (coreKey c 0x88)) ++ le 1 (s.probe c).mapFlags.toNat ++ le 2 (s.nat (coreKey c 0x8B)) ++
    le 2 (s.probe c).mapClock.toNat

/-- Object 0x2203.09. -/
def State.guardMap (s : State) : Bytes := allCores.flatMap s.mapEntryOf

/-- The least multiple of 5 mV at or above a number of mV. -/
def roundUp5 (x : Int) : Int := -(-x / 5 * 5)

/-- The trim target of a map entry (R143): from the first failing supply, else from the last passing one. -/
def State.targetOf (s : State) (last : Int) (fail : Option Int) : Int :=
  roundUp5 (fail.getD last + s.nat (key 0x2203 4))

/-- Object 0x2203.08. -/
def State.showWeak (s : State) : State :=
  s.putN (key 0x2203 8) (allCores.filter (fun c => (s.probe c).mapFlags.getLsbD 4)).length

/-- A core whose target lies above the up limit is margin weak (R143): its map entry is marked, and its state reads 6 once no probe
of it runs. -/
def State.marginWeak (s : State) (c : PCore) (forced : Bool := false) : State :=
  let s := (s.upProbe c (fun p => { p with mapFlags := p.mapFlags ||| 16 })).showWeak
  let s := if (s.probing? c).isNone then s.putN (coreKey c 0x85) 6 else s
  let b := screenRecord s c 0xFF (9 + 128 * bitOf forced) 0 0xFFFF 0
  let s := s.screen 0x44 c.val c b forced
  let (s, done) := s.fenceIfOn (s.domOfCore c) c 5
  if done then s else allEngines.foldl (fun s e => s.setGalley c e 2) s

/-- The target of a finished probe is applied, or reported only (R143). Whether a reported one is applied once object 0x2203.01 is
written 1 the spec does not say: DESIGN CHOICE, it is not, the next map entry's is (log entry 172). -/
def State.applyTarget (s : State) (c : PCore) (target : Int) : State :=
  if s.get (key 0x2203 1) = 1 then s.changeTrim c target else s

/-- A probe ends with a map entry (R138, R141): the measurement, the target, and the restored trim. -/
def State.recordMap (s : State) (c : PCore) (last : Int) (fail : Option Int) (temperature clock : BitVec 16) : State :=
  let raw := s.targetOf last fail
  let weak := decide ((s.nat (key 0x2203 3) : Int) < raw)
  let target := max raw (-(s.nat (key 0x2203 2) : Int))
  let flags := 1 + 4 * bitOf fail.isSome + 8 * bitOf (s.fp c = 0) + 16 * bitOf weak
  let s := s.upProbe c (fun p => { p with mapFlags := BitVec.ofNat 8 flags, mapClock := clock, reprobe := false })
  let s := s.putN (coreKey c 0x87) (codeOfMv last)
  let s := s.putN (coreKey c 0x86) (match fail with | some f => codeOfMv f | none => 0x80)
  let s := (s.put (coreKey c 0x8A) s.now).putN (coreKey c 0x8B) temperature.toNat
  let s := (s.putN (coreKey c 0x89) (codeOfMv target)).bump (key 0x2202 6)
  let s := s.showWeak.arm (.mapEntryAged c) (hour (s.nat (key 0x2203 5)))
  -- a confirmed failure is an outcome of its own in the screening record
  let s := if fail.isSome then s.keepScreen (screenRecord s c 0xFF 7 0 0xFFFF 0) else s
  let s := if weak then s else s.applyTarget c target
  let s := (s.upProbing c (fun p => { p with ending := true })).command c (s.trim c) 6
  if weak then s.marginWeak c else s

/-! ### Probes -/

/-- The next supply down, or the end of the search with no failure found (R138). -/
def State.stepDown (s : State) (c : PCore) (v : Int) (temperature clock : BitVec 16) : State :=
  if s.floorMv ≤ v - 5 then s.command c (v - 5) 0 else s.recordMap c v none temperature clock

/-- A probe begins at the present trim (R138). A trim at the floor already leaves no dwell to run: temperature and clock of
its map entry are the host chip's. -/
def State.startProbe (s : State) (c : PCore) : State :=
  let p : Probing := { core := c, mv := s.trim c, phase := 0, fails := 0, units := 0, lastPass := some (s.trim c),
                       firstFail := none, ending := false, below := false }
  let (t, s) := s.fresh
  let (k, s) := s.fresh
  let s := ({ s with probings := s.probings ++ [p] }.putN (coreKey c 0x85) 1).planChanged 1
  s.stepDown c (s.trim c) (t.setWidth 16) (k.setWidth 16)

/-- Start a probe where one may start. -/
def State.tryProbe (s : State) (c : PCore) : State :=
  if s.probeRoom && s.probeEligible c && s.probeDue c then s.startProbe c else s

/-- MARGIN_PROBE_START (R138). -/
def execMarginProbeStart (core : PCore) (s : State) : Host.Outcome State Fault Refusal :=
  .next (s.begin.tryProbe core).settleAll

/-- The core of an ended probe is handed over to the sparing, or the number of no active domain, that waits for it (R141, R187,
R190). -/
def State.handOver (s : State) (c : PCore) : State :=
  if c ∈ s.idleWaits then { s with idleWaits := s.idleWaits.filter (fun x => x ≠ c) }.fillIdle c
  else match s.sparingOf c with
    | some (d, p) => if p.phase = 1 && !s.holdsSparing p then s.beginFill d p.fenced c else s
    | none => s

/-- REGULATOR_SETTLED (R140): it wins against its timeout; the dwell starts, or the restored core is handed over, or a trim
commanded outside a probe is reached. A settled that nothing awaits is late. -/
def execRegulatorSettled (core : PCore) (s : State) : Host.Outcome State Fault Refusal :=
  let s := s.begin
  if !s.armed (.settleTimeout core) then .next s.late
  else
    let s := s.arrives (.settleTimeout core) 2
    match s.probing? core with
    | none => .next (s.upProbe core (fun p => { p with settling := 0 })).settleAll
    | some p =>
      if p.ending then .next ((s.dropProbing core).handOver core).settleAll
      else
        let below := decide (p.mv < s.trim core)
        let s := s.upProbing core (fun p => { p with phase := p.phase + 1, units := 0, fails := 0, below := below })
        .next (s.probeRun core).settleAll

/-- The restoring command saw no settled (R140): the core is fenced within its limits, else reads "fence requested"; a
sparing that waited for it chooses again, and a number that did waits for another core. -/
def State.restoreFailed (s : State) (c : PCore) : State :=
  let s := (if (s.probing? c).isSome then s.dropProbing c else s).upProbe c (fun p => { p with settling := 0 })
  let (s, done) := s.fenceIfOn (s.domOfCore c) c 6
  if done then s
  else
    let s := allEngines.foldl (fun s e => s.setGalley c e 2) s
    if c ∈ s.idleWaits then
      let s : State := { s with idleWaits := s.idleWaits.filter (fun x => x ≠ c) }
      if h : s.lcOf c < 576 then { s with idleMoves := s.idleMoves ++ [⟨s.lcOf c, h⟩] } else s
    else match s.sparingOf c with
      | some (d, p) => if p.phase = 1 then s.replacementFailed d p.fenced c p.k else s
      | none => s

/-- A regulator command saw no settled within the timeout (R140): counted, raised, and the core is probed no more until the next
cold start. -/
def State.regulatorFails (s : State) (c : PCore) : State :=
  let s : State := { s.bump (key 0x2202 8) with badRegulators := s.badRegulators.filter (fun x => x ≠ c) ++ [c] }
  s.screen 0x45 c.val c (screenRecord s c 0xFF 8 0 0xFFFF 0) false

/-- SETTLE_TIMEOUT (R140): a probe ends, and the trim is commanded; so it is again when a change of the trim saw no settled. The
timeout of a command that restores the trim fences the core. -/
def execSettleTimeout (core : PCore) (s : State) : Host.Outcome State Fault Refusal :=
  let s := s.begin
  if !s.expired (.settleTimeout core) then .next s
  else
    let s := (s.expire (.settleTimeout core)).regulatorFails core
    match s.probing? core with
    | none =>
      if (s.probe core).settling = 2 then .next (s.restoreFailed core).settleAll
      else .next ((s.commandTrim core).upProbe core (fun p => { p with settling := 2 })).settleAll
    | some p =>
      if p.ending then .next (s.restoreFailed core).settleAll
      else
        let s := s.upProbing core (fun p => { p with ending := true })
        .next (s.command core (s.trim core) 6).settleAll

/-- The dwell is over: it ran its units, or an error ended it (R138). -/
def State.dwellOver (s : State) (p : Probing) : Bool :=
  !p.ending && ((p.phase == 1 || p.phase == 5) && p.fails != 0 || (p.phase == 1 || p.phase == 3 || p.phase == 5) &&
    decide (s.nat (key 0x2202 2) ≤ p.units))

/-- What follows a dwell in the procedure of R138. -/
def State.afterDwell (s : State) (p : Probing) (temperature clock : BitVec 16) : State :=
  let c := p.core
  if p.phase = 1 then
    if p.fails = 0 then (s.upProbing c (fun q => { q with lastPass := some p.mv })).stepDown c p.mv temperature clock
    else (s.upProbing c (fun q => { q with firstFail := some p.mv })).command c (s.trim c) 2
  else if p.phase = 3 then s.command c (p.firstFail.getD p.mv) 4
  else if p.fails = 0 then
    let s := (s.bump (key 0x2202 7)).upProbing c (fun q => { q with firstFail := none, lastPass := some p.mv })
    s.stepDown c p.mv temperature clock
  else s.recordMap c (p.mv + 5) (some p.mv) temperature clock

/-- DWELL_DONE (R138): with the core's temperature and clock at this moment, for the map entry that may follow. -/
def execDwellDone (core : PCore) (temperature clock : BitVec 16) (s : State) : Host.Outcome State Fault Refusal :=
  let s := s.begin
  match s.probing? core with
  | none => .next s
  | some p =>
    if s.dwellOver p && !(s.frz.on && core ∈ s.frz.cores) then .next (s.afterDwell p temperature clock).settleAll
    else .next s

/-! ### Stale entries (R142) -/

/-- MAP_ENTRY_AGED (R142): an entry older than object 0x2203.05 is stale; a longer age set meanwhile is waited for. -/
def execMapEntryAged (core : PCore) (s : State) : Host.Outcome State Fault Refusal :=
  let s := s.begin
  if !s.expired (.mapEntryAged core) then .next s
  else
    let at_ := s.nat (coreKey core 0x8A) + hour (s.nat (key 0x2203 5))
    if s.t < at_ then .next (s.armAt (.mapEntryAged core) at_)
    else .next (((s.disarm (.mapEntryAged core)).staleMap core).tryProbe core).settleAll

/-- A temperature in 0.1 °C, two's complement. -/
def tempOf (t : Nat) : Int := if t < 2 ^ 15 then (t : Int) else (t : Int) - 2 ^ 16

/-- MAP_TEMPERATURE_STALE (R142): the core's temperature, averaged over one minute, moved by more than object 0x2203.06 from
the value of its entry. -/
def execMapTemperatureStale (core : PCore) (average : BitVec 16) (s : State) : Host.Outcome State Fault Refusal :=
  let s := s.begin
  let moved := (tempOf average.toNat - tempOf (s.nat (coreKey core 0x8B))).natAbs
  if (s.probe core).mapFlags.getLsbD 0 && decide (10 * s.nat (key 0x2203 6) < moved) then
    .next ((s.staleMap core).tryProbe core).settleAll
  else .next s

/-- REPROBE_INTERVAL (R142): every core that can be probed is due again; probes start as far as R138 allows. -/
def execReprobeInterval (s : State) : Host.Outcome State Fault Refusal :=
  let s := s.begin
  if !s.expired .reprobeInterval then .next s
  else
    let s := s.arm .reprobeInterval (hour (s.nat (key 0x2202 4)))
    let l := allCores.filter s.probeEligible
    let s := l.foldl (fun s c => s.upProbe c (fun p => { p with reprobe := true })) s
    .next (l.foldl (fun s c => s.tryProbe c) s).settleAll

/-! ### Trims written by the host (R146) -/

/-- The body of a trim write: refused while Phory applies targets, out of the limits, or on a fenced core. -/
def writeTrim (c : PCore) (v : Word) (s : State) : State × WEnd :=
  let mv := mvOfCode v.toNat
  if s.fp c = 2 ∨ s.fp c = 3 then (s, .refused 9)
  else if s.get (key 0x2203 1) ≠ 0 then (s, .refused 8)
  else if mv < -(s.nat (key 0x2203 2) : Int) ∨ (s.nat (key 0x2203 3) : Int) < mv then (s, .refused 1)
  else (s.changeTrim c mv, .done)

/-- TRIM_WRITE (R146). -/
def execTrimWrite (path : Path) (core : PCore) (value : Word) (s : State) : Host.Outcome State Fault Refusal :=
  .next (s.begin.granted path (coreKey core 0x88) value false (writeTrim core value)).settleAll

/-! ### Supervision of live re-centring (R147, R148) -/

/-- The margin record of a port's or slice's sample; the spec lays out none (log entry 178). -/
def State.marginRecord (s : State) (kind unit a b c : Nat) : Bytes :=
  le 8 s.t ++ le 1 kind ++ le 1 0 ++ le 2 unit ++ le 2 a ++ le 2 b ++ le 4 c

/-- The lane of the least horizontal opening, and the least openings, of a port's lanes. -/
def worstEye (l : List (BitVec 16 × BitVec 16)) : Nat × Nat × Nat :=
  let h := l.foldl (fun a x => min a x.1.toNat) 0xFFFF
  let v := l.foldl (fun a x => min a x.2.toNat) 0xFFFF
  let lane := match (l.zipIdx.find? (fun x => x.1.1.toNat == h)) with
    | some x => x.2
    | none => 0xFF
  (lane, h, v)

/-- A supervisor's record enters the Cellar with the raise that sets the source's sticky bit; a repeat has none (R148). -/
def State.marginEvent (s : State) (n i : Nat) (b : Bytes) : State := if s.sticky n i then s else s.event 0x016 b

/-- A sample of a port: its objects, and each threshold crossed (R148). A port without lanes is not sampled. -/
def State.sampleLink (s : State) (p : PortNo) (eyes : List (BitVec 16 × BitVec 16)) (adaptations : BitVec 32) : State :=
  if eyes.isEmpty then s
  else
    let (lane, h, v) := worstEye eyes
    let s := ((s.putN (portKey p 0x40) h).putN (portKey p 0x41) v).putN (portKey p 0x42) lane
    let s := (s.putN (portKey p 0x43) adaptations.toNat).put (portKey p 0x45) s.now
    let s := s.putN (portKey p 0x46) (min h (s.nat (portKey p 0x46)))
    let n := bitOf (h < s.nat (key 0x2206 2)) + bitOf (v < s.nat (key 0x2206 3))
    if n = 0 then s
    else
      let s := (s.bumpBy (portKey p 0x44) n).bumpBy (key 0x2206 6) n
      let b := s.marginRecord 1 p.val h v (lane + 256 * (adaptations.toNat % 2 ^ 24))
      (s.marginEvent 0x48 p.val b).raise 0x48 p.val b

/-- A sample of a slice: a value below its threshold, the accumulated shift as well, in the words of R148 (log entry 178). -/
def State.sampleDram (s : State) (c : PCore) (shift margin : Nat) : State :=
  let s := (s.putN (coreKey c 0x8D) shift).putN (coreKey c 0x8E) margin
  let n := bitOf (shift < s.nat (key 0x2206 4)) + bitOf (margin < s.nat (key 0x2206 5))
  if n = 0 then s
  else
    let s := s.bumpBy (key 0x2206 7) n
    let b := s.marginRecord 2 c.val shift margin 0
    (s.marginEvent 0x49 c.val b).raiseWith 0x49 c.val b false

/-- SUPERVISOR_SAMPLE (R147): what the supervisors read of the ports and slices at the end of a sample period. -/
def execSupervisorSample (samples : List Sample) (s : State) : Host.Outcome State Fault Refusal :=
  let s := s.begin
  if !s.expired (.supervisorSample []) then .next s
  else
    let s := s.arm (.supervisorSample []) (ms (s.nat (key 0x2206 1)))
    .next (samples.foldl (fun s x => match x with
      | .link p eyes a => s.sampleLink p eyes a
      | .dram c shift margin => s.sampleDram c shift.toNat margin.toNat) s).settleAll

end Sys2Proof.Machine
end

