-- ==== Sys2Proof/Machine/Proofing.lean ====
section
/-! DEFINITION. Step boundaries (R43), the ends of proofs and revises (R91 to R116), the end of a rollback's ledger walk (R113),
Phory's own arms (R386), KV pages (R110, R111, R178 to R180) and the consumption of poison (R164 to R167). -/

namespace Sys2Proof.Machine

/-! ### The step barrier -/

/-- STEP_BOUNDARY (R43): the barrier of the step that runs in d completes on every core, with the step's edges of the
slowest core's clock domain and the disturbances its probes saw (R209). A held barrier has arrived already. -/
def execStepBoundary (d : Dom) (cycles : Nat) (disturbed : BitVec 13) (s : State) : Host.Outcome State Fault Refusal :=
  let s := s.begin
  if (s.dom d).active && (s.dom d).running && (s.dom d).held.isNone then
    .next ((s.arriveAll d).tryBarrier d cycles disturbed).settleAll
  else .next s.settleAll

/-! ### Proofs -/

/-- The proof that a result is of: issued, without a result, of this chip (rank none) or served for another one (R126). -/
def State.awaitedProof (s : State) (d : Dom) (k : LCore) (n : Nat) (rank : Option Rank) : Option Proof :=
  s.proofs.find? (fun p => p.d == d && p.k == k && p.s == n && p.result.isNone && (p.core.isSome || p.remote) &&
    p.served == rank)

/-- A proof's result that nothing awaits any more is discarded and counted (R106, R113). -/
def State.lateProof (s : State) : State := s.bump (key 0x2105 7)

/-- The awaited result wins against the proof timeout: past its instant a near miss at the proof core's probe, or at the steward
path for a proof of another chip's core (R385). While a revise
is to follow the timeout stays armed, for it bounds the revise too (log entry 30). -/
def State.resultWins (s : State) (p : Proof) (last : Bool) : State :=
  if last || s.due p.timer then s.arrives p.timer (if p.remote then 4 else 2) else s

/-- One more unit of a margin probe's dwell ran on the core (R138). -/
def State.dwellUnit (s : State) (c : Option PCore) : State :=
  match c with
  | some c => { s with probings := s.probings.map (fun (p : Probing) => if p.core = c then { p with units := p.units + 1 } else p) }
  | none => s

/-- A proof passes (R91): counted, gone, and known to a narrowing that ordered it. -/
def State.proofPasses (s : State) (p : Proof) : State :=
  (((s.resultWins p true).passProof p).dropProof p).narrowingEnd p false

/-- A proof that differs (R91, R115, R116): one of which a part ran below its core's trim is charged to the map and neither passes
nor fails; else its revise is placed. -/
def State.proofDiffers (s : State) (p : Proof) (r : Colophon × Nat) : State :=
  if p.under then
    let s := (s.resultWins p true).bump (key 0x2105 0xD)
    let s := match p.core with
      | some c => s.chargeMap c
      | none => s
    s.unsettledProof p
  else
    let s := s.resultWins p false
    { s with proofs := s.proofs.map (fun (x : Proof) => if x = p then { x with result := some r } else x) }.placeWaiting

/-- A proof that this chip ran for another one: its result goes to the chip that asked (R126). -/
def State.answerProof (s : State) (p : Proof) (r : Rank) (f : Frame) : State :=
  ((s.served p.core).send (.frame r f)).dropProof p

/-- PROOF_RESULT (R106). -/
def execProofResult (d : Dom) (k : LCore) (n : Nat) (rank : Option Rank) (colophon : Colophon) (units : Nat) (s : State) :
    Host.Outcome State Fault Refusal :=
  let s := s.begin
  match s.awaitedProof d k n rank with
  | none => .next s.lateProof.settleAll
  | some p =>
    match p.served with
    | some r => .next (s.answerProof p r (.proofResult d k n colophon units)).settleAll
    | none =>
      let s := (s.served p.core).dwellUnit p.core
      match s.coreRec? d n k with
      | some c =>
        .next (if c.acc = colophon ∧ c.units = units then s.proofPasses p else s.proofDiffers p (colophon, units)).settleAll
      | none => .next (s.dropProof p).settleAll

/-- PROOF_TIMEOUT (R106): the timeout of one proof wins, and that proof is lost. -/
def execProofTimeout (d : Dom) (k : LCore) (proof : Nat × Nat) (s : State) : Host.Outcome State Fault Refusal :=
  let s := s.begin
  if !s.expired (.proofTimeout d k proof) then .next s
  else
    let l := s.proofs.filter (fun p => p.served.isNone && p.timer == .proofTimeout d k proof)
    let s := s.expire (.proofTimeout d k proof)
    .next (l.foldl (fun s p => s.loseProof p) s).settleAll

/-- PROOF_NOT_PROOFABLE (R93): counted, raised, and Lk gets a priority proof (R97). -/
def execProofNotProofable (d : Dom) (k : LCore) (n : Nat) (rank : Option Rank) (s : State) :
    Host.Outcome State Fault Refusal :=
  let s := s.begin
  match s.awaitedProof d k n rank with
  | none => .next s.lateProof.settleAll
  | some p =>
    match p.served with
    | some r => .next (s.answerProof p r (.proofNotProofable d k n)).settleAll
    | none =>
      let s := (s.resultWins p true).bump (key 0x2105 0xE)
      let s := (s.raise 0x36 0 []).dropProof p
      .next ((s.reproof d k).narrowingEnd p false).settleAll

/-- REVISE_RESULT (R115): the revise agrees with Lk, with the proof core, or with neither; none: the revise is lost. -/
def execReviseResult (d : Dom) (k : LCore) (n : Nat) (result : Option (Colophon × Nat)) (s : State) :
    Host.Outcome State Fault Refusal :=
  let s := s.begin
  match s.openRevise d k n with
  | none => .next s.lateProof.settleAll
  | some p =>
    match result with
    | none => .next (s.loseRevise p).settleAll
    | some r =>
      let s := (s.served p.rcore).resultWins p true
      let own := (s.coreRec? d n k).map (fun c => (c.acc, c.units))
      .next (if own = some r then s.proofCoreWrong p
        else if p.result = some r then s.failProof p 1
        else s.failProof p 2).settleAll

/-! ### Restarts -/

/-- The rolled-back domain goes on: with its sparing, or by Phory's own arm (R190, R386). -/
def State.afterWalk (s : State) (d : Dom) : State :=
  if !(s.dom d).sparings.isEmpty then s.sparingNext d
  else if (s.dom d).poison.isSome then s
  else s.phoryArm d

/-- LEDGER_WALK_DONE (R113): the walk of a single-chip rollback ends, and Phory arms the restart. -/
def execLedgerWalkDone (d : Dom) (s : State) : Host.Outcome State Fault Refusal :=
  let s := s.begin
  if !(s.dom d).walk then .next s
  else .next ((s.upDom d (fun x => { x with walk := false })).afterWalk d).settleAll

/-- REARM_ON_CAUSE_GONE (R386): the domain's own arm was refused for the time status, which now reads 2, or for the start
objects, which were written. -/
def execRearmOnCauseGone (d : Dom) (s : State) : Host.Outcome State Fault Refusal :=
  let s := s.begin.disarm (.rearmOnCauseGone d)
  match s.tb.refusedArms.find? (fun r => r.1 == d) with
  | none => .next s
  | some (_, time) =>
    if time && s.get (key 0x1200 3) != 2 then .next s
    else if s.multi d && s.role == 2 then .next (s.stewardArm d).settleAll
    else .next (s.phoryArm d).settleAll

/-! ### KV pages (R110, R111, R178 to R180) -/

/-- The ledger entry of a page; one that no uncommitted step wrote has its committed length (R110). -/
def DomSt.page (x : DomSt) (page : Word) : Page :=
  match x.pages.find? (fun p => p.page == page) with
  | some p => p
  | none => { page := page, stored := false, opened := !x.lengths.any (fun l => l.1 == page), freed := none,
              committedLen := x.pageLen page, lengths := [] }

/-- The page with the length that step n leaves it with. -/
def Page.setLen (p : Page) (n len : Nat) : Page :=
  { p with lengths := p.lengths.filter (fun l => decide (l.1 < n)) ++ [(n, len)] }

def State.putPage (s : State) (d : Dom) (p : Page) : State :=
  (s.upDom d (fun x => { x with pages := x.pages.filter (fun q => q.page ≠ p.page) ++ [p],
                                lengths := x.lengths.filter (fun l => l.1 ≠ p.page) })).showLedger

/-- KV_PAGE_WRITE (R110): a write below the committed length is refused and raises "committed page overwrite"; an append sets
the length of its step; a free is kept until its step commits. -/
def execKvPageWrite (d : Dom) (_k : LCore) (n : Nat) (page : Word) (a : KvAction) (s : State) :
    Host.Outcome State Fault Refusal :=
  let s := s.begin
  if !(s.dom d).active || ((s.dom d).step? n).isNone then .next s
  else
    let p := (s.dom d).page page
    match a with
    | .append pos count =>
      if pos < p.committedLen then .next (s.raise 0x34 d.val []).settleAll
      else .next (s.putPage d (p.setLen n (max p.len (pos + count)))).settleAll
    | .free => .next (s.putPage d { p with freed := some (p.freed.getD n) }).settleAll

/-- KV_SPILL (R111, R178): a page that an uncommitted step wrote waits for its commit, and the wait is counted. -/
def execKvSpill (d : Dom) (core : PCore) (page : Word) (data : Bytes) (tokens : Nat) (marked : Bool) (s : State) :
    Host.Outcome State Fault Refusal :=
  let s := s.begin
  let p : Spill := { step := s.runningStep d, core := core, page := page, data := data, tokens := tokens, marked := marked }
  if !(s.dom d).active then .next s
  else if (s.dom d).pages.any (fun g => g.page == page) then
    .next ((s.bump (key 0x2105 0xC)).upDom d (fun x => { x with spills := x.spills ++ [p] })).settleAll
  else .next (s.spill d p).settleAll

/-- The first check of R179 that a fill fails: 1 CRC, 2 page number, 3 job, 4 length, 5 format; 0 none. -/
def kvCheck (data tag : Bytes) (page job : Word) (units tokens : Nat) : Nat :=
  if fieldAt tag 0 8 ≠ (crc64 (crc64 0 data) (slice tag 8 24)).toNat then 1
  else if fieldAt tag 8 8 ≠ page.toNat then 2
  else if fieldAt tag 0x10 8 ≠ job.toNat then 3
  else if fieldAt tag 0x18 4 ≠ units ∨ fieldAt tag 0x1C 2 ≠ tokens then 4
  else if fieldAt tag 0x1E 1 ≠ 1 then 5
  else 0

/-- KV record, 48 bytes (R180). -/
def kvRecord (t : Nat) (page job : Word) (carried computed : Nat) (core d : Nat) (check attempts : Nat) : Bytes :=
  le 8 t ++ le 8 page.toNat ++ le 8 job.toNat ++ le 8 carried ++ le 8 computed ++ le 2 core ++ le 1 d ++ le 1 check ++
    le 1 attempts ++ List.replicate 3 0

/-- KV_FILL (R179, R180): the last word of an attempt has arrived. A fill that passes has written the page's words (R163). -/
def execKvFill (d : Dom) (core : PCore) (offset : BitVec 30) (page : Word) (units tokens : Nat) (data tag : Bytes)
    (s : State) : Host.Outcome State Fault Refusal :=
  let s := s.begin
  let is (k : Kv) : Bool := k.d == d && k.core == core && k.offset == offset && k.page == page
  let tries := (match s.kv.find? is with | some k => k.attempts | none => 0) + 1
  let bad := kvCheck data tag page (s.jobId d) units tokens
  let s0 : State := { s with kv := s.kv.filter (fun k => !is k) }
  if bad = 0 then
    let s := ((s0.clearPoison core (offset.toNat / 32) (2 * units)).bump (key 0x2302 0xB)).send (.kvDone page true)
    .next (if 1 < tries then s.raise 0x5A d.val [] else s).settleAll
  else if tries ≤ s.natFor d (key 0x2300 6) then
    .next { s0 with kv := s0.kv ++ [{ d := d, core := core, offset := offset, page := page, attempts := tries }] }
  else
    let s := (s0.bump (key 0x2302 0xB)).bump (key 0x2302 0xC)
    let s := (s.poisonWords core (offset.toNat / 32) (2 * units)).send (.kvDone page false)
    let b := kvRecord s.t page (s.jobId d) (fieldAt tag 0 8) (crc64 (crc64 0 data) (slice tag 8 24)).toNat core.val d.val bad
      tries
    .next (s.raiseRecord 0x59 d.val b false (key 0x2303 2)).settleAll

/-! ### Poison (R164 to R167) -/

/-- A specimen run ends without an outcome (R166). One that something awaits is issued anew at once, since no interval brings it
again. -/
def State.repeatSpecimen (s : State) (c : PCore) : State :=
  match s.running? c with
  | some r => if r.why = 0 then s.endSpecimen c else (s.endSpecimen c).issueSpecimen c r.why
  | none => s

/-- Work that is none of an active domain's step is not stopped by poison (R166): a proof is lost, the run ends without an
outcome, a regeneration run ends with status 5. -/
def State.consumeElsewhere (s : State) (w : Work) : State :=
  let s := s.bump (key 0x2301 0x12)
  match w.origin with
  | .proof d k n =>
    match s.proofOn d k n w.core with
    | some p => if p.rcore = some w.core then s.loseRevise p else s.loseProof p
    | none => s
  | .specimen => s.repeatSpecimen w.core
  | .cross r => (s.endCrosses w.core (fun x => x.id == r)).probeRun w.core
  | .regen => s.endRegen 5
  | .step _ _ => s

/-- POISON_CONSUMED (R165, R166). Work of a step that was discarded meanwhile is counted only (R167). -/
def execPoisonConsumed (w : Work) (cause : Fin 5) (source : Word) (s : State) : Host.Outcome State Fault Refusal :=
  let s := s.begin.addEdges w.core w.edges
  match w.origin with
  | .step d n =>
    if (s.dom d).active && ((s.dom d).step? n).isSome && workNew s w then
      .next (s.consume d n w.core w.engine.val cause.val source).settleAll
    else .next (s.bump (key 0x2301 0x12)).settleAll
  | _ => .next (s.consumeElsewhere w).settleAll
where
  /-- The work is not of a discarded step. -/
  workNew (s : State) (w : Work) : Bool := (w.core, w.engine, w.item) ∉ s.oldWork

/-- A write of object 0x2301.09–.10 is refused while the domain is not stopped (R167). -/
def ifStopped (d : Dom) (body : State → State × WEnd) (s : State) : State × WEnd :=
  if s.get (domKey 0x2301 1 d) != 1 then (s, .refused 8) else body s

/-- Ending 1: the job ends by a context reset in mode 2. -/
def poisonEnd (path : Path) (d : Dom) (s : State) : State × WEnd :=
  ((s.putN (domKey 0x2301 1 d) 2).endJob d (originOf path), .done)

/-- Ending 2: the domain, or the job through the steward, is rolled back to its committed step and restarted. A consumption that
comes before the rollback belongs to a discarded step: the rollback ends the stop. -/
def poisonResume (d : Dom) (s : State) : State × WEnd :=
  let s := s.putN (domKey 0x2301 1 d) 3
  if !s.multi d then
    let s := (s.rollbackHere d (s.dom d).base).upDom d (fun x => { x with poison := none })
    (if (s.dom d).walk then s else s.afterWalk d, .done)
  else if s.role = 2 then (s.stewardFailure d s.rank .rollback, .done)
  else (s.toSteward (.failure d .rollback), .done)

/-- POISON_END_JOB (R167). -/
def execPoisonEndJob (path : Path) (d : Dom) (s : State) : Host.Outcome State Fault Refusal :=
  .next (s.begin.granted path (domKey 0x2301 9 d) 1 false (ifStopped d (poisonEnd path d))).settleAll

/-- POISON_ROLLBACK_RESUME (R167). -/
def execPoisonRollbackResume (path : Path) (d : Dom) (s : State) : Host.Outcome State Fault Refusal :=
  .next (s.begin.granted path (domKey 0x2301 9 d) 2 false (ifStopped d (poisonResume d))).settleAll

end Sys2Proof.Machine
end

