-- ==== Sys2Proof/Machine/Storage.lean ====
section
/-! DEFINITION. Stored data (06_stored_data_integrity.md): corrected errors and repairs (R155 to R157, R161), uncorrectable errors
(R162), hardware fills (R159, R160), memory scan engines (R168 to R172), weight digests (R173 to R177), refused accesses
(R109, R160). -/

namespace Sys2Proof.Machine

/-! ### Corrected errors (R154 to R157) -/

/-- Physical location of a slice offset in 32-byte units (R154). -/
def locationOf (word : BitVec 25) : Nat :=
  let w := word.toNat
  bits w 9 5 * 2 ^ 20 + bits w 24 10 * 32 + bits w 4 0

def wordBank (word : BitVec 25) : Nat := bits word.toNat 9 5

def wordRow (word : BitVec 25) : Nat := bits word.toNat 24 10

/-- A corrected-error table entry, 32 bytes (R156); bit [1] tells whether its row is on the repair list. -/
def CeEntry.bytes (e : CeEntry) (listed : Bool) : Bytes :=
  le 8 e.first.toNat ++ le 8 e.last.toNat ++ le 4 e.word.toNat ++ le 4 (locationOf e.word) ++ le 2 e.count ++ le 1 e.symbol ++
    le 1 ((e.flags.toNat % 2) + bitOf listed * 2 + (e.flags.toNat / 4 % 2) * 4) ++ le 4 0

/-- Object .93 of a core. -/
def State.ceTable (s : State) (c : PCore) : Bytes :=
  (s.slice c).table.flatMap (fun e => e.bytes (decide ((wordBank e.word, wordRow e.word) ∈ (s.slice c).rows)))

/-- Corrections of the last 3,600 s. -/
def recentTimes (l : List Nat) (now : Nat) : List Nat := l.filter (fun t => decide (now ≤ t + sec 3600))

/-- A corrected read (R155, R170): counted, queued or lost, and written back where a scan engine read the word. -/
def State.corrected (s : State) (core : PCore) (word : BitVec 25) (symbol : Fin 36) (scan : Option MseNo) (newer : Bool)
    (forced : Bool) : State :=
  let s := (s.bump (coreKey core 0x91)).bump (key 0x2302 1)
  let x := s.slice core
  let x := { x with times := recentTimes x.times s.t ++ [s.t] }
  let s := if x.queue.length < 16 then s.setSlice core { x with queue := x.queue ++ [(word, symbol, s.now, scan.isSome)] }
    else (s.setSlice core x).bump (coreKey core 0x94)
  let s := if scan.isSome && s.get (key 0x2300 7) == 1 then
      (if newer then s.bump (key 0x2302 4) else (s.bump (key 0x2302 3)).send (.writeBack core word))
    else s
  (s.disturbCore core 4).raiseWith 0x50 core.val [] forced

/-- CORRECTED_ERROR_REPORT (R155, R170). -/
def execCorrectedErrorReport (core : PCore) (word : BitVec 25) (symbol : Fin 36) (scan : Option MseNo) (newer : Bool)
    (s : State) : Host.Outcome State Fault Refusal := .next (s.begin.corrected core word symbol scan newer false).settleAll

/-- The entry to be replaced in a full table (R156): the lowest count, among equals the oldest last time. -/
def ceVictim : List CeEntry → Option CeEntry
  | [] => none
  | e :: l => match ceVictim l with
    | none => some e
    | some f => if f.count < e.count ∨ (f.count = e.count ∧ f.last.toNat < e.last.toNat) then some f else some e

/-- A report updates the table; whether an entry was replaced. -/
def ceUpdate (l : List CeEntry) (word : BitVec 25) (symbol : Nat) (t : Word) (scan : Bool) : List CeEntry × Bool :=
  let flag : BitVec 8 := if scan then 4 else 0
  let new : CeEntry := { word := word, count := 1, first := t, last := t, symbol := symbol, flags := flag }
  if l.any (fun e => e.word == word) then
    (l.map (fun e => if e.word = word then
      { e with count := min (e.count + 1) 0xFFFF, last := t, symbol := symbol, flags := (e.flags &&& 1) ||| flag } else e),
     false)
  else if l.length < 64 then (l ++ [new], false)
  else match ceVictim l with
    | some v => (l.map (fun e => if e.word = v.word then new else e), true)
    | none => (l ++ [new], false)

/-- The entry of a word gets flag bits. -/
def State.ceFlag (s : State) (c : PCore) (word : BitVec 25) (f : BitVec 8) : State :=
  let x := s.slice c
  s.setSlice c { x with table := x.table.map (fun (e : CeEntry) => if e.word = word then { e with flags := e.flags ||| f } else e) }

/-- A row becomes a repair candidate (R157, R161): it joins the repair list, or finds no spare. -/
def State.candidate (s : State) (c : PCore) (word : BitVec 25) (forced : Bool := false) : State :=
  let r := (wordBank word, wordRow word)
  let s := (s.ceFlag c word 1).raiseWith 0x52 c.val [] forced
  if r ∈ (s.slice c).rows then s
  else if s.rowFits c r.1 then s.addRow c r
  else s.sparesExhausted c []

/-- The slice's corrections of the last 3,600 s exceed object 0x2300.01: raised once until they fall to it again (R157). -/
def State.rateCheck (s : State) (c : PCore) : State :=
  let x := s.slice c
  let l := recentTimes x.times s.t
  let high := decide (s.nat (key 0x2300 1) < l.length)
  let s := s.setSlice c { x with times := l, rateHigh := high }
  if high && !x.rateHigh then s.raiseWith 0x51 c.val [] false else s

/-- CE_REPORT_DEQUEUE (R156, R157). -/
def execCeReportDequeue (core : PCore) (s : State) : Host.Outcome State Fault Refusal :=
  let s := s.begin
  match (s.slice core).queue with
  | [] => .next s
  | (word, symbol, t, scan) :: q =>
    let x := s.slice core
    let (l, lost) := ceUpdate x.table word symbol.val t scan
    let s := s.setSlice core { x with queue := q, table := l }
    let s := if lost then s.bump (coreKey core 0x94) else s
    let s := match l.find? (fun e => e.word == word) with
      | some e => if !e.flags.getLsbD 0 && decide (s.nat (key 0x2300 2) ≤ e.count) then s.candidate core word else s
      | none => s
    .next (s.rateCheck core).settleAll

/-! ### Uncorrectable errors (R162) -/

/-- Kind byte and scan engine of a reader. -/
def readByNumber : ReadBy → Nat × Nat
  | .ownCore => (1, 0xFF)
  | .otherCore => (2, 0xFF)
  | .otherChip => (3, 0xFF)
  | .scan m => (4, m.val)
  | .readModifyWrite => (5, 0xFF)
  | .kvFill => (6, 0xFF)

/-- Uncorrectable-error record, 32 bytes. -/
def State.ueRecord (s : State) (c : PCore) (word : BitVec 25) (by_ scan : Nat) (forced : Bool) (req : Option PCore) : Bytes :=
  let d := req.bind s.domOfCore
  le 8 s.t ++ le 2 c.val ++ le 1 (bitOf forced * 128 + by_) ++ le 1 scan ++ le 4 word.toNat ++ le 4 (locationOf word) ++
    le 2 (match req with | some q => q.val | none => 0xFFFF) ++
    le 6 (match d with | some d => s.runningStep d | none => 2 ^ 48 - 1) ++
    le 1 (match d with | some d => d.val | none => 0xFF) ++ le 3 0

/-- An uncorrectable error (R162): the word poisoned, counted, raised; its record is kept where the raise is captured. -/
def State.uncorrectable (s : State) (c : PCore) (word : BitVec 25) (by_ scan : Nat) (forced : Bool) (req : Option PCore) :
    State :=
  let s := s.poisonWords c word.toNat 1
  let s := (s.bump (coreKey c 0x92)).bump (key 0x2302 2)
  let b := s.ueRecord c word by_ scan forced req
  let cap := s.captures 0x53 c.val
  let s := s.raiseWith 0x53 c.val b forced
  if cap then (s.setContent (key 0x2303 1) b).setContent (coreKey c 0x9B) b else s

/-- UNCORRECTABLE_ERROR (R162). The read of a narrow write (R158): a write by a core's unit is counted with that unit
(`State.narrowWrites`), one with no requesting core here. -/
def execUncorrectableError (core : PCore) (word : BitVec 25) (by_ : ReadBy) (requester : Option PCore) (s : State) :
    Host.Outcome State Fault Refusal :=
  let s := s.begin
  let n := readByNumber by_
  let s := if by_ = .readModifyWrite ∧ requester = none then s.bump (coreKey core 0x95) else s
  .next (s.uncorrectable core word n.1 n.2 false requester).settleAll

/-! ### Hardware fills (R159, R160) -/

/-- What waits for the fill of a slice goes on: the stage of a bring-up (R253), the replacement of a sparing (R190), a number
that moved (R187), the screening of a partition (R321). -/
def State.afterFill (s : State) (c : PCore) : State :=
  if c ∈ s.bring.fillLeft then
    ({ s with bring := { s.bring with fillLeft := s.bring.fillLeft.filter (fun x => x ≠ c) } }).stageNext
  else match s.sparingOf c with
    | some (d, p) =>
      if p.phase = 2 then ((s.upSparing d p.fenced (fun y => { y with phase := 3 })).issueSpecimen c 2).showSparing d else s
    | none =>
      if s.rcv.resets.any (fun r => r.atLevel == 3 && c ∈ r.cores) then
        (if s.fp c = 0 ∨ s.fp c = 1 then s.issueSpecimen c 4 else s)
      else if c ∈ s.idleFills then
        ({ s with idleFills := s.idleFills.filter (fun x => x ≠ c) }).issueSpecimen c 6
      else s

/-- HARDWARE_FILL_DONE (R160): the slice reads filled; a fill that nothing commanded changes nothing. The passes that it
aborted start again (R172). -/
def execHardwareFillDone (core : PCore) (s : State) : Host.Outcome State Fault Refusal :=
  let s := s.begin
  if s.get (coreKey core 0x97) != 1 then .next s
  else .next ((((s.arrives (.fillTimeout core) 3).filled core).afterFill core).schedulePasses).settleAll

/-- FILL_REFUSAL (R160): an access to a slice that does not read filled. -/
def execFillRefusal (slice : PCore) (s : State) : Host.Outcome State Fault Refusal :=
  let s := s.begin
  if s.get (coreKey slice 0x97) = 2 then .next s else .next ((s.bump (key 0x2302 0xD)).send .fenceStatus)

/-- RESERVED_RANGE_REFUSAL (R109). -/
def execReservedRangeRefusal (slice : PCore) (s : State) : Host.Outcome State Fault Refusal :=
  let s := s.begin
  if s.get (coreKey slice 0x97) = 3 then .next s else .next ((s.bump (key 0x2302 0xE)).send .fenceStatus)

/-! ### The host's scan engines (R169 to R172) -/

/-- The position and CRC that an engine stops at are what it folded so far: free values, the position a multiple of 64 from
where it began up to its length. -/
def State.stopScan (s : State) (m : MseNo) (state : Nat) : State :=
  let old := s.nat (mseKey m 3)
  let left := s.nat (mseKey m 2) - old
  let (a, s) := s.fresh
  let (c, s) := s.fresh
  let n := 64 * (a.toNat % (left / 64 + 1))
  let s := (s.putN (mseKey m 3) (old + n)).put (mseKey m 4) c
  (s.bumpBy (mseKey m 8) n).putN (mseKey m 6) state

/-- A pass of the host's begins or goes on. An access to a slice that is not filled is refused with the fence status (R160), and the
pass reads aborted. -/
def State.runScan (s : State) (m : MseNo) : State × WEnd :=
  let c := s.scanSlice m
  let off := s.nat (mseKey m 1) % 2 ^ 30
  if h : c < 600 then
    if 2 ^ 30 < off + s.nat (mseKey m 2) ∨ s.nat (mseKey m 2) < s.nat (mseKey m 3) then (s, .refused 8)
    else if s.get (coreKey ⟨c, h⟩ 0x97) = 3 then (s, .refused 9)
    else if s.get (coreKey ⟨c, h⟩ 0x97) ≠ 2 then
      (((s.bump (key 0x2302 0xD)).putN (mseKey m 6) 4).send .fenceStatus, .done)
    else (((s.putN (mseKey m 6) 1).putN (mseKey m 7) 0xFFFF).send (.scan m) |>.scanDisturbs ⟨c, h⟩, .done)
  else (s, .refused 8)

/-- A write of object .05: an engine that PC2 owns is busy (R172), a retired one refuses (R278). -/
def scanControl (m : MseNo) (v : Nat) (s : State) : State × WEnd :=
  if s.scanRetired m then (s, .refused 9)
  else if s.pcOwned m then (s, .busy)
  else if v = 1 then (if s.scanState m = 1 then (s, .busy) else s.runScan m)
  else if v = 2 then (if s.scanState m = 1 then (s.stopScan m 2, .done) else (s, .refused 8))
  else if v = 3 then (if s.scanState m = 2 then s.runScan m else (s, .refused 8))
  else if v = 4 then
    (if s.scanState m = 1 then (s.stopScan m 4, .done)
     else if s.scanState m = 2 then (s.putN (mseKey m 6) 4, .done) else (s, .refused 8))
  else (s, .refused 1)

/-- SCAN_START (R171). -/
def execScanStart (path : Path) (m : MseNo) (s : State) : Host.Outcome State Fault Refusal :=
  .next (s.begin.granted path (mseKey m 5) 1 false (scanControl m 1)).settleAll

/-- SCAN_PAUSE (R171). -/
def execScanPause (path : Path) (m : MseNo) (s : State) : Host.Outcome State Fault Refusal :=
  .next (s.begin.granted path (mseKey m 5) 2 false (scanControl m 2)).settleAll

/-- SCAN_RESUME (R171). -/
def execScanResume (path : Path) (m : MseNo) (s : State) : Host.Outcome State Fault Refusal :=
  .next (s.begin.granted path (mseKey m 5) 3 false (scanControl m 3)).settleAll

/-- SCAN_ABORT (R171). -/
def execScanAbort (path : Path) (m : MseNo) (s : State) : Host.Outcome State Fault Refusal :=
  .next (s.begin.granted path (mseKey m 5) 4 false (scanControl m 4)).settleAll

/-! ### Weight digests (R173 to R177) -/

/-- Bytes put into a digest record, in the record in force and in one that waits to be. -/
def State.writeDigest (s : State) (r : DigestNo) (off : Nat) (b : Bytes) : State :=
  let k := digestKey r.val
  let s : State := { s with staged := s.staged.map (fun (x : Staged) =>
    if x.key = k then { x with oldCont := setBytes x.oldCont off b } else x) }
  s.setContent k (setBytes (s.content k) off b)

/-- Result, end time, alive counter and status of a completed pass (R174). -/
def State.passFields (s : State) (r : DigestNo) (crc : Word) (status : Nat) : State :=
  let alive := (fieldAt (s.digestRec r) 0x36 1 + 1) % 256
  let s := (s.writeDigest r 0x20 (le 8 crc.toNat)).writeDigest r 0x36 (le 1 alive ++ le 1 status)
  s.writeDigest r 0x38 (le 8 s.t)

/-- A matching pass: its start, and the owner's step then. -/
def State.matchFields (s : State) (r : DigestNo) : State :=
  let x := s.digest r
  s.writeDigest r 0x28 (le 8 x.start.toNat ++ le 6 x.startStep)

/-- A confirmed mismatch (R177): with object 0x2300.04 at 1 the region is poisoned and the owner domain stopped at its running
step with cause 4. -/
def State.actOnDigest (s : State) (r : DigestNo) : State :=
  if s.get (key 0x2300 4) = 0 then s
  else
    let b := s.digestRec r
    let d := recDomain b
    match s.digestSlice r with
    | some c =>
      let s := s.poisonWords c (recOffset b / 32) (recLength b / 32)
      if (s.dom d).active then s.consume d (s.runningStep d) c 0xFF 4 (BitVec.ofNat 64 (c.val * 2 ^ 32 + recOffset b)) else s
    | none => s

/-- "digest stale" is awaited anew after a completed pass (R175). -/
def State.armStale (s : State) (r : DigestNo) : State :=
  s.arm (.digestStale r) (sec (s.nat (key 0x2300 5) * recPeriod (s.digestRec r)))

/-- The engine is free of its pass, and bytes scanned are counted. -/
def State.endScan (s : State) (m : MseNo) (crc : Word) (poison : Bool) : State :=
  let n := s.nat (mseKey m 2)
  let s := s.bumpBy (mseKey m 8) (n - s.nat (mseKey m 3))
  let s := (s.putN (mseKey m 3) n).put (mseKey m 4) crc
  (s.putN (mseKey m 6) (if poison then 5 else 3)).putN (mseKey m 7) 0xFFFF

/-- A pass of a digest record completes (R174, R176). -/
def State.digestDone (s : State) (r : DigestNo) (m : MseNo) (crc : Word) (poison : Bool) : State :=
  let s := s.bump (key 0x2302 5)
  let b := s.digestRec r
  let x := s.digest r
  let over_ (s : State) : State := s.upDigest r (fun y => { y with engine := none, confirming := none })
  let s := s.armStale r
  if poison then over_ (s.passFields r crc 4)
  else if recMode b = 3 then over_ (s.passFields r crc 5)
  else if recMode b = 2 then
    over_ (((s.passFields r crc 6).writeDigest r 0x18 (le 8 crc.toNat)).writeDigest r 9 [1])
  else if crc.toNat = recGolden b then
    let s := (s.passFields r crc 1).matchFields r
    let s := if x.confirming.isSome then (s.bump (key 0x2302 7)).raise 0x57 0 (s.digestRec r) else s
    over_ s
  else if x.confirming.isNone then
    ((s.passFields r crc 2).upDigest r (fun y => { y with engine := none, due := true, confirming := some m })).schedulePasses
  else
    let s := over_ (s.passFields r crc 3)
    let s := (s.bump (key 0x2302 6)).putN (key 0x2303 3) r.val
    (s.raise 0x56 0 (s.digestRec r)).actOnDigest r

/-- SCAN_PASS_DONE (R169, R174). -/
def execScanPassDone (m : MseNo) (crc : Word) (poison : Bool) (s : State) : Host.Outcome State Fault Refusal :=
  let s := s.begin
  if s.scanState m != 1 then .next s
  else
    let o := s.nat (mseKey m 7)
    let s := s.endScan m crc poison
    let s := if h : o < 2048 then s.digestDone ⟨o, h⟩ m crc poison else s
    .next s.schedulePasses.settleAll

/-- DIGEST_PERIOD (R174): a pass of the region is due, and the next period begins. -/
def execDigestPeriod (r : DigestNo) (s : State) : Host.Outcome State Fault Refusal :=
  let s := s.begin
  if !s.expired (.digestPeriod r) then .next s
  else
    let b := s.digestRec r
    if recMode b = 0 ∨ recPeriod b = 0 then .next (s.disarm (.digestPeriod r))
    else
      let s := s.arm (.digestPeriod r) (sec (recPeriod b))
      .next ((s.upDigest r (fun x => { x with due := true })).schedulePasses).settleAll

/-- DIGEST_STALE (R175). -/
def execDigestStale (r : DigestNo) (s : State) : Host.Outcome State Fault Refusal :=
  let s := s.begin
  if !s.expired (.digestStale r) then .next s
  else
    let b := s.digestRec r
    if recMode b = 0 ∨ recPeriod b = 0 then .next (s.disarm (.digestStale r))
    else .next (((s.armStale r).bump (key 0x2302 8)).raise 0x58 0 b).settleAll

/-- The host's bytes of a digest record are allowed (06, digest record). -/
def digestFits (b : Bytes) : Bool :=
  let off := recOffset b
  let n := recLength b
  decide (b.length = 64) && decide (recDom b < 8) && decide (recMode b < 4) &&
    (recMode b == 0 || (decide (recCore b < 576) && decide (1 ≤ recPeriod b) && decide (off % 64 = 0) && decide (n % 64 = 0) &&
      decide (64 ≤ n) && decide (off + n ≤ 2 ^ 30)))

/-- A digest record is written (R173): bytes 0x20 on stay as they are, reserved ones read zero (R10), a pass in progress is abandoned, the record applies
under R46, and its periods begin. -/
def digestWrite (r : DigestNo) (content : Bytes) (s : State) : State × WEnd :=
  let k := digestKey r.val
  if !digestFits content then (s, .refused 1)
  else match entryOf k with
    | none => (s, .noObject)
    | some e =>
      let b := setBytes (content.take 0x20) 0xE (le 2 0) ++ (s.content k).drop 0x20
      let (s1, w) := s.writeContentB e k b
      if w = .busy then (s, .busy)
      else
        let s := s1.abandonPass r false
        if recMode content = 0 then ((s.disarm (.digestPeriod r)).disarm (.digestStale r), w)
        else
          let p := recPeriod content
          let s := s.arm (.digestPeriod r) (sec p)
          (s.arm (.digestStale r) (sec (s.nat (key 0x2300 5) * p)), w)

/-- DIGEST_RECORD_WRITE (R173). -/
def execDigestRecordWrite (path : Path) (r : DigestNo) (content : Bytes) (s : State) : Host.Outcome State Fault Refusal :=
  .next (s.begin.granted path (digestKey r.val) 0 true (digestWrite r content)).settleAll

end Sys2Proof.Machine
end

