-- ==== Sys2Proof/Machine/FloorCmds.lean ====
section
/-! DEFINITION. Orders on the floor plan: fence and unfence (R199), the refill of a sparing (R190 to R194), the release of an Attic
entry (R201) (07_floor_plan_and_sparing.md). -/

namespace Sys2Proof.Machine

/-! ### Fence orders (R199) -/

/-- A fence order: refused for a core that is absent, held, fenced or retired. A test of the core is aborted first. -/
def fenceByHost (v : Nat) (s : State) : State × WEnd :=
  let n := v % 2 ^ 16
  if h : n < 600 then
    let c : PCore := ⟨n, h⟩
    if s.fp c = 2 ∨ s.fp c = 3 ∨ s.fp c = 4 ∨ s.fp c = 5 then (s, .refused 9)
    else ((s.abortTest c).fence c 8 true (v.testBit 16), .done)
  else (s, .refused 1)

/-- FENCE_ORDER (R199). -/
def execFenceOrder (path : Path) (value : Word) (s : State) : Host.Outcome State Fault Refusal :=
  .next (s.begin.granted path (key 0x1302 9) value false (fenceByHost value.toNat)).settleAll

/-- A replacement that was isolated because its fence is not allowed, and awaits the host (R190). -/
def State.awaitsHost (s : State) (c : PCore) : Bool :=
  (s.fp c == 0 || s.fp c == 1) && (s.probe c).isolate && s.get (engKey c 0 4) == 2

/-- An unfence of a fenced core that is not retired, or of one isolated in place of its fence (R190; log entry 188): a
specimen run, whose outcome ends the write. -/
def unfenceByHost (v : Nat) (s : State) : State × WEnd :=
  if h : v < 600 then
    let c : PCore := ⟨v, h⟩
    if s.fp c = 3 ∨ s.fp c = 4 ∨ s.fp c = 5 then (s, .refused 9)
    else if s.fp c ≠ 2 ∧ !s.awaitsHost c then (s, .refused 8)
    else (s.issueSpecimen c 3, .progress)
  else (s, .refused 1)

/-- UNFENCE (R199). -/
def execUnfence (path : Path) (value : Word) (s : State) : Host.Outcome State Fault Refusal :=
  .next (s.begin.granted path (key 0x1302 0xA) value false (unfenceByHost value.toNat)).settleAll

/-! ### Refills (R191 to R194) -/

/-- The fence of a domain's sparing that stands in a phase. -/
def State.inPhase (s : State) (d : Dom) (phase : Nat) : Option Sparing :=
  (s.dom d).sparings.find? (fun p => p.of_.isNone && p.phase == phase)

/-- A source bit of the sparing record is set, and bytes are counted (R205). -/
def State.refilled (s : State) (d : Dom) (p : PCore) (source bytes : Nat) : State :=
  s.upSparing d p (fun y => { y with
    sources := y.sources ||| BitVec.ofNat 8 (2 ^ source), bytes := y.bytes + bytes, entry := y.entry + 1 })

/-- The part of a range of code words that lies in another, moved by the distance between the two. -/
def movedRange (src dst count : Nat) (r : Nat × Nat) : Option (Nat × Nat) :=
  let lo := max r.1 src
  let hi := min (r.1 + r.2) (src + count)
  if lo < hi then some (lo - src + dst, hi - lo) else none

/-- The words that one refill entry writes (R192, R163): unmarked data clears what is poisoned there, and the words that are
poisoned in a source slice on this chip, the fenced core's for a salvage, poison their destinations. -/
def State.carryPoison (s : State) (y : Sparing) (e : Bytes) : State :=
  match y.repl with
  | none => s
  | some q =>
    let kind := fieldAt e 2 1
    let dst := fieldAt e 0xC 4 / 32
    let n := fieldAt e 0x10 4 / 32
    let s := s.clearPoison q dst n
    let from_ : Option (PCore × Nat) :=
      if kind = 1 then some (y.fenced, dst)
      else if kind = 2 then
        (if h : fieldAt e 8 2 < 576 then (s.physOf ⟨fieldAt e 8 2, h⟩).map (fun c => (c, fieldAt e 0x14 4 / 32)) else none)
      else none
    match from_ with
    | none => s
    | some (c, src) =>
      ((s.slice c).poisoned.filterMap (movedRange src dst n)).foldl (fun s r => s.poisonWords q r.1 r.2) s

/-- REFILL_ENTRY_DONE (R191): the entry of Phory's own that was under way is done, and the next follows. One that no entry under
way awaits is late. -/
def execRefillEntryDone (d : Dom) (bytes : Nat) (s : State) : Host.Outcome State Fault Refusal :=
  let s := s.begin
  match s.inPhase d 4 with
  | none => .next s.late
  | some y =>
    if !s.armed (.refillTimeout d) then .next s.late else
    let s := s.arrives (.refillTimeout d) 2
    let e := ((ownEntries (s.refillEntries d y.k))[y.entry]?).getD []
    let source := fieldAt e 2 1
    let s := s.carryPoison y e
    .next ((s.refilled d y.fenced source bytes).refillStep d y.fenced).settleAll

/-- REFILL_TIMEOUT (R193). -/
def execRefillTimeout (d : Dom) (s : State) : Host.Outcome State Fault Refusal :=
  let s := s.begin
  if !s.expired (.refillTimeout d) then .next s
  else
    let s := s.expire (.refillTimeout d)
    match s.inPhase d 4 with
    | none => .next s
    | some y => .next (s.refillFailed d y.fenced).settleAll

/-- The host has refilled its regions (R193): it wins against its timeout, or is refused. -/
def hostRefilled (v : Nat) (s : State) : State × WEnd :=
  if h : v < 8 then
    let d : Dom := ⟨v, h⟩
    match s.inPhase d 7 with
    | none => (s, .refused 8)
    | some y =>
      let s := s.arrives (.hostRefillTimeout d) 5
      let s := s.upSparing d y.fenced (fun z => { z with sources := z.sources ||| 16 })
      (s.refillStep d y.fenced, .done)
  else (s, .refused 1)

/-- HOST_REFILL_DONE (R193). -/
def execHostRefillDone (path : Path) (value : Word) (s : State) : Host.Outcome State Fault Refusal :=
  .next (s.begin.granted path (key 0x1302 0xB) value false (hostRefilled value.toNat)).settleAll

/-- HOST_REFILL_TIMEOUT (R193). -/
def execHostRefillTimeout (d : Dom) (s : State) : Host.Outcome State Fault Refusal :=
  let s := s.begin
  if !s.expired (.hostRefillTimeout d) then .next s
  else
    let s := s.expire (.hostRefillTimeout d)
    match s.inPhase d 7 with
    | none => .next s
    | some y => .next (s.refillFailed d y.fenced).settleAll

/-- The failed refill is repeated from its first entry after a new fill (R194). -/
def repeatRefill (d : Dom) (s : State) : State × WEnd :=
  match s.inPhase d 8 with
  | some y => match y.repl with
    | some q => (s.beginFill d y.fenced q, .done)
    | none => (s, .refused 8)
  | none => (s, .refused 8)

/-- The job whose refill failed is ended (R194). -/
def endRefill (path : Path) (d : Dom) (s : State) : State × WEnd :=
  match s.inPhase d 8 with
  | some _ => ((s.outcomes d 4 0 (fun _ => true)).endJob d (originOf path), .done)
  | none => (s, .refused 8)

/-- The value of object 0x1302.0D for an action on a domain. -/
def sparingAction (d : Dom) (action : Nat) : Word := BitVec.ofNat 64 (d.val * 16 + action)

/-- SPARING_REPEAT_REFILL (R194). -/
def execSparingRepeatRefill (path : Path) (d : Dom) (s : State) : Host.Outcome State Fault Refusal :=
  .next (s.begin.granted path (key 0x1302 0xD) (sparingAction d 1) false (repeatRefill d)).settleAll

/-- SPARING_END_JOB (R194). -/
def execSparingEndJob (path : Path) (d : Dom) (s : State) : Host.Outcome State Fault Refusal :=
  .next (s.begin.granted path (key 0x1302 0xD) (sparingAction d 2) false (endRefill path d)).settleAll

/-! ### The Attic (R201) -/

/-- An Attic entry is marked released, in the list and in the Cellar. -/
def releaseEntry (v : Nat) (s : State) : State × WEnd :=
  match s.attic[v]? with
  | none => (s, .refused 1)
  | some e =>
    let b := setBytes (setBytes e 0xD [(e.getD 0xD 0) ||| 4]) 0x28 (le 8 s.t)
    let s := (s.setAttic v b).configItem 0x107 v b
    (s.putN (key 0x1304 3) v, .done)

/-- ATTIC_RELEASE (R201). -/
def execAtticRelease (path : Path) (value : Word) (s : State) : Host.Outcome State Fault Refusal :=
  .next (s.begin.granted path (key 0x1304 3) value false (releaseEntry value.toNat)).settleAll

end Sys2Proof.Machine
end

