-- ==== Sys2Proof/Machine/Galley.lean ====
section
/-! DEFINITION. The galley checks (03_galley_checks.md): matrix tiles (R57 to R65), vector operations and attention rows (R66 to
R73), transfers (R74, R75), check timeouts (R78) and the sweep of suspect entries (R80). -/

namespace Sys2Proof.Machine

/-! ### A result at the probe -/

/-- The key of a work item. -/
def workId (w : Work) : PCore × EngineNo × Nat := (w.core, w.engine, w.item)

/-- The command of the check timeout armed for a work item, if any (R78). -/
def State.checkTimer (s : State) (w : Work) : Option Instr :=
  (s.timers.find? (fun t => match t.cmd with
    | .checkTimeout v => workId v == workId w
    | _ => false)).map (·.cmd)

/-- Galley switches under which the work is checked: those of the step that issued it (R86, R87); all on for the runs of the
specimen unit. -/
def State.checksOf (s : State) (o : Origin) : Word :=
  match stepOfOrigin (some o) with
  | some (d, n) => match (s.dom d).step? n with
    | some r => r.checks
    | none => s.checks d
  | none => 0xF

/-- Object 0x2000.i for a work item: as it was when its step opened, whatever is written since (R46, R87). -/
def State.coefOf (s : State) (o : Origin) (i : Nat) : Nat :=
  match stepOfOrigin (some o) with
  | some (d, n) => match (s.dom d).step? n with
    | some r => r.coefs.getD (i - 1) 0
    | none => s.natFor d (key 0x2000 i)
  | none => s.nat (key 0x2000 i)

/-- The checkers of absent, held and fenced cores are dormant (R89). -/
def State.dormant (s : State) (c : PCore) : Bool := s.fp c == 2 || s.fp c == 3 || s.fp c == 4 || s.fp c == 5

/-- The work item has its result: it is open no more (R77). -/
def State.closeWork (s : State) (w : Work) : State :=
  let s : State := { s with oldWork := s.oldWork.filter (fun x => x ≠ workId w) }
  match w.origin with
  | .step d n => s.upStep d n (fun (r : StepRec) =>
      { r with cores := r.cores.map (fun (c : CoreRec) =>
          if c.phys = w.core then { c with work := c.work.filter (fun x => x ≠ (w.engine, w.item)) } else c) })
  | _ => s

/-- A result reaches the probe (R78): it wins against its armed timeout; a result whose timeout has won is discarded and
counted in object 0x2002.0B. Whether it is used. -/
def State.takeResult (s : State) (w : Work) (sw : Nat) : State × Bool :=
  let s := s.addEdges w.core w.edges
  if workId w ∈ s.checkLate then
    ({ s.bump (key 0x2002 0xB) with checkLate := s.checkLate.filter (fun x => x ≠ workId w) }, false)
  else
    let s := match s.checkTimer w with
      | some c => s.arrives c 2
      | none => s
    (s, !s.dormant w.core && (s.checksOf w.origin).getLsbD sw)

/-- What a check finds of one work item, with the Δ and bound fields of its record. `kind` none: it passes. -/
structure Finding where
  kind : Option Nat
  field : Nat
  delta : Nat
  bound : Nat
  deriving DecidableEq, Repr

/-- A pass, or a test without a column (the record's Δ and bound are of a column): not numeric, bit-exact. -/
def finding (kind : Option Nat) (field : Nat) : Finding := { kind := kind, field := field, delta := 0x7FFF, bound := 0x8000 }

/-- The mismatch of a finding on a work item. -/
def Finding.mismatch (f : Finding) (s : State) (w : Work) (kind : Nat) : Mismatch :=
  { core := w.core, engine := w.engine, origin := some w.origin, kind := kind, format := w.format.val,
    layer := w.layer.toNat, oper := w.oper.toNat, place := w.place.toNat, field := f.field, delta := f.delta, bound := f.bound, forced := false,
    live := workId w ∉ s.oldWork }

/-- The work item passes, or mismatches (R57, R80). -/
def State.conclude (s : State) (w : Work) (f : Finding) : State :=
  match f.kind with
  | none => s.closeWork w
  | some k =>
    let m := f.mismatch s w k
    (s.closeWork w).mismatch m

/-- The same of an item with several findings, each a mismatch of its own (R64). -/
def State.concludeAll (s : State) (w : Work) (l : List Finding) : State :=
  l.foldl (fun s f => s.conclude w f) (s.closeWork w)

/-- One more item checked, in the engine's object and in a counter of objects 0x2002. -/
def State.countCheck (s : State) (w : Work) (sub : Nat) : State :=
  (s.bump (engKey w.core w.engine 1)).bump (key 0x2002 sub)

/-! ### Matrix tiles (R57 to R65) -/

/-- The coefficient, objects 0x2000.01 to .03, that is γ of a tolerance format (R62). -/
def gammaOf : Format → Nat
  | .mxfp6 => 2
  | .bf16 => 3
  | _ => 1

/-- Scale exponents of block i, those of raw scale 0xFF left out (R59). -/
def scalesOf (rows : List (List Byte)) (i : Nat) : List Int :=
  rows.filterMap (fun (r : List Byte) => match r[i]? with
    | some b => if b = 0xFF then none else some ((b.toNat : Int) - 127)
    | none => none)

def greatest (l : List Int) : Option Int := l.foldl (fun a x => match a with | some m => some (max m x) | none => some x) none

def least (l : List Int) : Option Int := l.foldl (fun a x => match a with | some m => some (min m x) | none => some x) none

/-- E_hi and E_lo of a tile (R59): over every row, column and block; none where every product involves a scale of 0xFF. -/
def tileSpan (t : Tile) (off : Int) : Option (Int × Int) :=
  let l := (List.range ((t.k + 31) / 32)).map (fun i => (scalesOf t.aScales i, scalesOf t.bScales i))
  let pair (f : List Int → Option Int) : List Int :=
    l.filterMap (fun p => match f p.1, f p.2 with
      | some a, some b => some (a + b + off)
      | _, _ => none)
  match greatest (pair greatest), least (pair least) with
  | some hi, some lo => some (hi, lo)
  | _, _ => none

/-- ⌈log2 K⌉. -/
def tileG (t : Tile) : Nat := Nat.clog 2 t.k

/-- L, the weight of the accumulator's least significant bit, and whether the tile is window exceeded (R59). -/
def tileWindow (t : Tile) (off : Int) (p : Nat) : Int × Bool :=
  match tileSpan t off with
  | some (hi, lo) => (hi + p + tileG t - 95, decide (95 - (p : Int) - tileG t < hi - lo))
  | none => ((p : Int) + tileG t - 95, false)

/-- Σ_k a_k·b_k; none when a term is not finite. -/
def dot (a b : List Num) : Num :=
  (a.zip b).foldl (fun acc p => match acc, p.1, p.2 with
    | some s, some x, some y => some (s.add (x.mul y))
    | _, _, _ => none) (some Dy.zero)

def absList (l : List Num) : List Num := l.map (fun x => x.map Dy.abs)

/-- A 16-bit field of a record in two's complement. -/
def s16 (i : Int) : Nat := (i % 65536).toNat

/-- ⌊log2⌋ field of a number; a bound of 0 has none and the spec states no value. -/
def logField (x : Dy) (open_ : Nat) : Nat := if x.m = 0 then open_ % 65536 else s16 x.log2

/-- The checker's own rounding error of a column, at most `limit` (R61, R62): a free value. -/
def roundError (n : Nat) (limit : Dy) : Dy :=
  (Dy.mk (max (-(2 ^ 20)) (min (2 ^ 20) (Config.checkerRoundoff n))) (-20)).mul limit

/-- One column: unchecked (none), or whether it passes, with its Δ and bound fields (R57, R60 to R62, R65). -/
def columnTest (z y : Num) (exact : Bool) (bound err : Dy) (open_ : Nat) : Option (Bool × Nat × Nat) :=
  match z with
  | none => none
  | some z => match y with
    | none => some (false, 0x7FFF, if exact then 0x8000 else logField bound open_)
    | some y =>
      if exact then
        let d := z.sub y
        some (d.m == 0, logField d open_, 0x8000)
      else
        let d := (z.sub y).add err
        some (d.abs.le bound, logField d open_, logField bound open_)

/-- The tests of the 64 columns of a tile in its mode; `win` has L and the window-exceeded flag of an exact format, γ is in
units of 2^-32. -/
def tileColumns (t : Tile) (win : Option (Int × Bool)) (gamma free : Nat) : List (Option (Bool × Nat × Nat)) :=
  (List.range 64).map (fun j =>
    let z := t.z.getD j none
    let b := t.b.getD j []
    let y := dot t.aRow b
    let open_ := (Config.freeWord (free + j)).toNat
    match win with
    | some (_, false) => columnTest z y true Dy.zero Dy.zero open_
    | some (l, true) =>
      columnTest z y false ⟨t.k, l + 6⟩ (roundError (free + j) ⟨t.k, l - 9⟩) open_
    | none =>
      let sj := (dot t.aAbs (absList b)).getD Dy.zero
      columnTest z y false (sj.mul ⟨gamma, -32⟩) (roundError (free + j) (sj.mul ⟨1, -60⟩)) open_)

/-- Columns whose two rounded outputs differ in an element (R64); element (i, j) is number 64 i + j. -/
def roundedColumns (t : Tile) : List Nat :=
  (((t.rounded.zip t.roundedCopy).zipIdx.filter (fun p => p.1.1 != p.1.2)).map (fun p => p.2 % 64)).dedup

def maskOf (l : List Nat) : Nat := (List.range 64).foldl (fun m j => if j ∈ l then m + 2 ^ j else m) 0

/-- What the column tests of a tile find. -/
def columnFinding (cols : List (Option (Bool × Nat × Nat))) (exact : Bool) : Finding :=
  let bad := cols.zipIdx.filter (fun p => match p.1 with
    | some c => !c.1
    | none => false)
  match bad with
  | (some c, _) :: _ =>
    { kind := some (if exact then 1 else 2), field := maskOf (bad.map (·.2)), delta := c.2.1, bound := c.2.2 }
  | _ => finding none 0

/-- What the duplicated rounder finds (R64), whatever the columns show. -/
def rounderFinding (t : Tile) : Finding :=
  let r := roundedColumns t
  if r.isEmpty then finding none 0 else finding (some 4) (maskOf r)

/-- A window-exceeded tile (R61, R129): counted and raised, but absorbed on specimen work. -/
def State.exceeded (s : State) (w : Work) (t : Tile) (l : Int) : State :=
  let m := { finding none 0 with bound := logField ⟨t.k, l + 6⟩ 0 }.mismatch s w 0
  s.windowExceeded m

/-- TILE_CHECK (R57 to R65). -/
def execTileCheck (w : Work) (t : Tile) (s : State) : Host.Outcome State Fault Refusal :=
  let (s, used) := s.begin.takeResult w 0
  if !used then .next (s.closeWork w).settleAll
  else
    let win := (exactFormat t.fmt).map (fun p => tileWindow t p.1 p.2)
    let exact := win.any (fun x => !x.2)
    let wide := win.any (fun x => x.2)
    let absorbed := wide && w.origin == .specimen
    let s := if absorbed then s.bump (engKey w.core w.engine 1) else s.countCheck w (if exact then 1 else 2)
    let s := match win with
      | some (l, true) => if absorbed then s else s.exceeded w t l
      | _ => s
    let gamma := s.coefOf w.origin (gammaOf t.fmt)
    let cols := tileColumns t win gamma s.free
    let s : State := { s with free := s.free + 64 }
    let s := if absorbed then s else s.bumpBy (key 0x2002 4) ((cols.filter (·.isNone)).length)
    .next (s.concludeAll w [columnFinding cols exact, rounderFinding t]).settleAll

/-! ### Vector operations (R66, R67) -/

/-- The modulus of the residues, 2^31 − 1 (R66, R74). -/
def resMod : Int := 2 ^ 31 - 1

/-- The operation on integers; a compare's full result is the difference it decides on. -/
def intApply (o : IntOp) (a b c : Int) : Int :=
  match o with
  | .add => a + b
  | .sub => a - b
  | .mul => a * b
  | .mulAdd => a * b + c
  | .shiftLeft => a * 2 ^ b.toNat
  | .shiftRight => a / 2 ^ b.toNat
  | .compare => a - b

/-- The engine wraps or saturates when its full result lies outside the bounds of its integer type; a compare delivers no
integer (R66). -/
def intWraps (o : IntOp) (result lo hi : Int) : Bool := o != .compare && (decide (result < lo) || decide (hi < result))

/-- |x − y| is at most 2^-10 of |y| (R67). An output that is not finite passes when the checker's own is not finite either, and
mismatches when only one is: the spec states no comparison there (DESIGN CHOICE, log entry 167). -/
def unitClose (x y : Num) : Bool :=
  match x, y with
  | some x, some y => (x.sub y).abs.le (y.abs.mul ⟨1, -10⟩)
  | none, none => true
  | _, _ => false

/-! ### Attention rows (R68 to R73) -/

/-- Two parts of one attention row are of the same work item and row number. -/
def Row.is (r : Row) (w : Work) (row : Nat) : Bool := workId r.w == workId w && r.row == row

def Row.fresh (w : Work) (row : Nat) : Row :=
  { w := w, row := row, max := none, keys := 0, raised := [], records := [], l := Dy.zero, sigma := Dy.zero,
    tau := Dy.zero, bad := false }

def State.row (s : State) (w : Work) (row : Nat) : Row := (s.rows.find? (fun r => r.is w row)).getD (Row.fresh w row)

def State.setRow (s : State) (r : Row) : State :=
  { s with rows := s.rows.filter (fun x => !x.is r.w r.row) ++ [r] }

/-- A shadow in 53-bit floating point: one of the two nearest values of 53 significant bits, the number itself when it is one
(R71). -/
def shadowRound (x : Dy) : Dy :=
  let n := Nat.log2 x.m.natAbs + 1 - 53
  let q := x.m.natAbs / 2 ^ n
  let q := if x.m.natAbs % 2 ^ n ≠ 0 && Config.shadowUp x then q + 1 else q
  ⟨if x.m < 0 then -(q : Int) else q, x.e + n⟩

/-- exp(x) of the checker's own unit. -/
def ownExp (x : Dy) : Dy := (fp32Num (Config.checkerExp x)).getD Dy.zero

/-- A block or a partial with maximum m joins the shadows: those of the row are scaled by α, what it brings by γ, and it needs a
rescale record when `record`. -/
def Row.join (r : Row) (block unmasked : Nat) (m alpha gamma : Dy) (record : Bool) (x y z : Dy) : Row :=
  let acc (a b : Dy) : Dy := shadowRound ((alpha.mul a).add (gamma.mul b))
  { r with
    max := some m
    keys := r.keys + unmasked
    raised := if record then r.raised ++ [block] else r.raised
    l := acc r.l x
    sigma := acc r.sigma y
    tau := acc r.tau z }

/-- One block of keys in the checker's shadows: a block whose maximum is above the running one raises it, and the shadows
are rescaled by the checker's own exponential (R68, R69). The first block with a key sets the maximum. -/
def Row.add (r : Row) (block : Nat) (mx : Option Dy) (unmasked : Nat) (sumExp sumV sumAbs : Dy) : Row :=
  match mx, r.max with
  | none, _ => r
  | some m, none => r.join block unmasked m ⟨1, 0⟩ ⟨1, 0⟩ false sumExp sumV sumAbs
  | some m, some old =>
    if m.le old then r.join block unmasked old ⟨1, 0⟩ ⟨1, 0⟩ false sumExp sumV sumAbs
    else r.join block unmasked m (ownExp (old.sub m)) ⟨1, 0⟩ true sumExp sumV sumAbs

/-- One split partial in the final combine (R70, R73): the smaller of its maximum and the running one is scaled by the exponential
of the difference, with a rescale record. A partial without an unmasked key contributes nothing and needs none. -/
def Row.combine (r : Row) (part : Nat) (mx : Option Dy) (unmasked : Nat) (l sigma tau : Dy) : Row :=
  match mx, r.max with
  | none, _ => r
  | some m, none => r.join part unmasked m ⟨1, 0⟩ ⟨1, 0⟩ false l sigma tau
  | some m, some old =>
    if m.eq old then r.join part unmasked old ⟨1, 0⟩ ⟨1, 0⟩ false l sigma tau
    else if m.le old then r.join part unmasked old ⟨1, 0⟩ (ownExp (m.sub old)) true l sigma tau
    else r.join part unmasked m (ownExp (old.sub m)) ⟨1, 0⟩ true l sigma tau

/-- The rescale records of a row are not those that its blocks or partials needed (R68). -/
def Row.recordsDiffer (r : Row) : Bool := r.raised.any (fun b => b ∉ r.records) || r.records.any (fun b => b ∉ r.raised)

/-- The end of a split partial (R68, R70, R73): its records, and for one without an unmasked key the maximum and the normaliser
that it hands on. -/
def Row.finishPart (r : Row) (mx : Option Dy) (l : Num) : Option Nat :=
  if r.recordsDiffer then some 8
  else if r.keys = 0 && !(mx.isNone && (match l with | some l => l.m == 0 | none => false)) then some 11
  else none

/-- |x − y| ≤ β·|z| for β in units of 2^-32. -/
def within (x y z : Dy) (beta : Nat) : Bool := (x.sub y).abs.le (z.abs.mul ⟨beta, -32⟩)

/-- The tests at the end of a row in their order: the rescale records (R68, R70), the empty row and flag (R73), the row of one
key (R72), the normaliser and the output (R69). None: the row passes. -/
def Row.finish (r : Row) (beta : Nat) (l sumO : Num) (o v : List (BitVec 32)) (empty : Bool) : Option Nat :=
  if r.recordsDiffer then some 8
  else if r.keys = 0 then
    if empty && o.all (fun x => x == 0) && (match l with | some l => l.m == 0 | none => false) then none else some 11
  else if empty then some 11
  else if r.keys = 1 && !((match l with | some l => l.eq ⟨1, 0⟩ | none => false) && o == v) then some 10
  else match l, sumO with
    | none, _ => some 7
    | some l, so =>
      if l.m = 0 || !within r.l l l beta then some 7
      else match so with
        | none => some 9
        | some x => if within x r.sigma r.tau beta then none else some 9

/-- The end of a row: counted, an empty row as well, and tested unless it has mismatched before. -/
def State.endRow (s : State) (w : Work) (row : Nat) (l sumO : Num) (o v : List (BitVec 32)) (empty : Bool) : State :=
  let r := s.row w row
  let s : State := { s with rows := s.rows.filter (fun x => !x.is w row) }
  let s := s.countCheck w 7
  if r.bad then s.closeWork w
  else
    let k := r.finish (s.coefOf w.origin 4) l sumO o v empty
    let s := if k.isNone && r.keys == 0 then s.bump (key 0x2002 8) else s
    s.conclude w (finding k 0)

/-- The end of a split partial, whose work item ends with it; the row itself counts when it is combined. -/
def State.endPart (s : State) (w : Work) (row : Nat) (mx : Option Dy) (l : Num) : State :=
  let r := s.row w row
  let s : State := { s with rows := s.rows.filter (fun x => !x.is w row) }
  let s := s.bump (engKey w.core w.engine 1)
  if r.bad then s.closeWork w else s.conclude w (finding (r.finishPart mx l) 0)

/-- What the vector checker does with an operation. Of a right shift the residues of the operands do not give the residue of the
result: the checker recomputes it on the operands themselves (DESIGN CHOICE, log entry 166). -/
def State.vectorCheck (s : State) (w : Work) : VecOp → State
  | .residue op a b c result lo hi wrapped =>
    let r := intApply op (a % resMod) (if op = .shiftLeft ∨ op = .shiftRight then b else b % resMod) (c % resMod)
    let want := if op = .shiftRight then intApply op a b c else r
    let ok := want % resMod == result % resMod && wrapped == intWraps op result lo hi
    (s.countCheck w 5).conclude w (finding (if ok then none else some 5) 0)
  | .reduction engine tree =>
    (s.countCheck w 5).conclude w (finding (if engine = tree then none else some 6) 0)
  | .unit engine checker =>
    (s.countCheck w 5).conclude w (finding (if unitClose engine checker then none else some 6) 0)
  | .elementwise => s.closeWork w
  | .attnBlock row block mx unmasked sumExp sumV sumAbs =>
    s.setRow ((s.row w row).add block mx unmasked sumExp sumV sumAbs)
  | .attnPartEnd row mx l => s.endPart w row mx l
  | .attnCombine row part mx unmasked l sigma tau => s.setRow ((s.row w row).combine part mx unmasked l sigma tau)
  | .attnRowEnd row l sumO o v empty => s.endRow w row l sumO o v empty

/-- The galley switch of a vector operation: attention 3, else VE 1 (R86). -/
def vecSwitch : VecOp → Nat
  | .attnBlock _ _ _ _ _ _ _ => 3
  | .attnPartEnd _ _ _ => 3
  | .attnCombine _ _ _ _ _ _ _ => 3
  | .attnRowEnd _ _ _ _ _ _ => 3
  | _ => 1

/-- The part of an operation that ends its work item: a block or a combined partial leaves the item of its row open (R70). -/
def vecEnds : VecOp → Bool
  | .attnBlock _ _ _ _ _ _ _ => false
  | .attnCombine _ _ _ _ _ _ _ => false
  | _ => true

/-- VECTOR_OP_CHECK (R66, R67, R69 to R73). -/
def execVectorOpCheck (w : Work) (v : VecOp) (s : State) : Host.Outcome State Fault Refusal :=
  let s := s.begin
  if vecEnds v then
    let (s, used) := s.takeResult w (vecSwitch v)
    .next (if used then s.vectorCheck w v else s.closeWork w).settleAll
  else
    let s := s.addEdges w.core w.edges
    .next (if !s.dormant w.core && (s.checksOf w.origin).getLsbD (vecSwitch v) then s.vectorCheck w v else s).settleAll

/-- FP32 patterns in order of value. -/
def ulpIndex (w : BitVec 32) : Int := if w.msb then -((w.toNat - 2 ^ 31 : Nat) : Int) else w.toNat

/-- α differs from the checker's own by no more than the allowed units in the last place (R68). -/
def alphaOk (alpha own : BitVec 32) (ulps : Nat) : Bool :=
  (fp32Num alpha).isSome && decide ((ulpIndex alpha - ulpIndex own).natAbs ≤ ulps)

/-- RESCALE_RECORD (R68): a second record of a block, or an α outside its tolerance, is a mismatch of kind 8 at once; which
blocks raised the maximum is compared at the row's end. From which maxima the checker recomputes α the spec does not say: DESIGN
CHOICE, those that the record itself holds (log entry 168). -/
def execRescaleRecord (w : Work) (row block : Nat) (mBefore mAfter : Dy) (alpha : BitVec 32) (s : State) :
    Host.Outcome State Fault Refusal :=
  let s := s.begin.addEdges w.core w.edges
  if s.dormant w.core || !(s.checksOf w.origin).getLsbD 3 then .next s
  else
    let r := s.row w row
    let ok := block ∉ r.records &&
      alphaOk alpha (Config.checkerExp (mBefore.sub mAfter)) (s.coefOf w.origin 5)
    let s := s.setRow { r with records := r.records ++ [block], bad := r.bad || !ok }
    if ok || r.bad then .next s.settleAll
    else .next (s.mismatch ((finding (some 8) 0).mismatch s w 8)).settleAll

/-! ### Transfers (R74, R75) -/

/-- The residue of words (R74). -/
def residue (l : List (BitVec 32)) : Int := ((l.map (fun x => (x.toNat : Int))).sum) % resMod

/-- Source residue and transfer fields of the record. -/
def sourceResidue : TransferSource → Int
  | .here _ _ words => residue words
  | .remote _ _ _ r => (r : Int) % resMod

def sourceField : TransferSource → Nat
  | .here c e _ => 0xFFFFFFFF * 2 ^ 32 + c.val * 65536 + e.val
  | .remote r c e _ => r.toNat * 2 ^ 32 + c.val * 65536 + e.val

/-- TRANSFER_CHECK (R74, R75): the destination residue against the number of copies times the source residue. -/
def execTransferCheck (w : Work) (t : Transfer) (s : State) : Host.Outcome State Fault Refusal :=
  let (s, used) := s.begin.takeResult w 2
  if !used then .next (s.closeWork w).settleAll
  else
    let ok := residue t.words == (t.copies * sourceResidue t.source) % resMod
    .next ((s.countCheck w 6).conclude w (finding (if ok then none else some 12) (sourceField t.source))).settleAll

/-! ### Check timeouts and the sweep -/

/-- CHECK_TIMEOUT (R78): the timeout wins, and the work counts as a mismatch of kind 13. -/
def execCheckTimeout (w : Work) (s : State) : Host.Outcome State Fault Refusal :=
  let s := s.begin
  if !s.expired (.checkTimeout w) then .next s
  else
    let s : State := { s.expire (.checkTimeout w) with checkLate := s.checkLate ++ [workId w] }
    -- of a transfer that timed out no source has arrived: a free value
    let field : Nat := if w.engine = 6 then (Config.freeWord s.free).toNat else 0
    .next ({ s with free := s.free + 1 }.conclude w (finding (some 13) field)).settleAll

/-- Entries of an accounting that are within the window of object 0x2000.08. -/
def freshEntries (l : List (Nat × Nat × Nat)) (now w : Nat) : List (Nat × Nat × Nat) :=
  l.filter (fun x => decide (now ≤ x.2.2 + w))

/-- The engine of an instance number. -/
def engineOf (i : Nat) : Option (PCore × EngineNo) :=
  if h : i < 4200 then some (⟨i / 7, by omega⟩, ⟨i % 7, by omega⟩) else none

/-- Suspect engines and cores without an entry left read clear again (R80, R117). -/
def State.sweep (s : State) : State :=
  let w := sec (s.nat (key 0x2000 8))
  let old := s.suspects.map (·.1)
  let oldP := s.proofSuspects.map (·.1)
  let s : State := { s with suspects := freshEntries s.suspects s.t w, proofSuspects := freshEntries s.proofSuspects s.t w }
  let s := old.foldl (fun s i => match engineOf i with
    | some (c, e) =>
      if s.get (engKey c e 4) == 1 && countEntries s.suspects i == 0 then s.putN (engKey c e 4) 0 else s
    | none => s) s
  oldP.foldl (fun s i => if h : i < 600 then
      let c : PCore := ⟨i, h⟩
      if s.get (coreKey c 0x75) == 1 && countEntries s.proofSuspects i == 0 then s.putN (coreKey c 0x75) 0 else s
    else s) s

/-- SUSPECT_SWEEP (R80): once per second; it goes on while entries are left. -/
def execSuspectSweep (s : State) : Host.Outcome State Fault Refusal :=
  let s := s.begin
  if !s.expired .suspectSweep then .next s
  else
    let s := (s.disarm .suspectSweep).sweep
    .next (if s.suspects.isEmpty && s.proofSuspects.isEmpty then s else s.armSweep)

end Sys2Proof.Machine
end

