-- ==== Sys2Proof/Machine/Starts.lean ====
section
/-! DEFINITION. Activation and close of a step domain (R44, R45) and start in step (R47 to R51) (02_time_and_steps.md). -/

namespace Sys2Proof.Machine

/-! ### Activation (R45) -/

/-- A core of the mask is under self-test, or a number of it has no core in service behind it (R45, R187, R189, R281). -/
def State.maskBusy (s : State) (l : List LCore) : Bool :=
  l.any (fun k => match s.physOf k with
    | some c => s.fp c == 6 || s.fp c == 2 || s.fp c == 3 || k ∈ s.idleMoves
    | none => true)

/-- Another active domain carries the same job tag (R312). -/
def State.tagTaken (s : State) (d : Dom) : Bool :=
  s.activeDoms.any (fun e => e != d && s.tag e % 4096 == s.tag d % 4096)

/-- The job whose chip has a role takes the domain that is activated for it (log entry 10). -/
def State.takeJob (s : State) (d : Dom) : State :=
  if s.role ≠ 0 ∧ s.job.dom.isNone then s.upJob (fun j => { j with dom := some d, silent := false }) else s

/-- The domain becomes active (R44, R45, R312): its counter is loaded, its incarnation is 0, and nothing is released or
committed. Its cores wait for the start of its first step; a probe on one of them ends, its trim commanded at once (R141; log
entry 71). -/
def State.activate (s : State) (d : Dom) (l : List LCore) : State :=
  let old := s
  let start := s.nat (domKey 0x1210 0x11 d) % 2 ^ 48
  let s := s.setDom d { DomSt.idle with active := true, cores := l, start := start, suspended := true }
  let s := s.putN (key 0x1210 0x19) (s.nat (key 0x1210 0x19) ||| 2 ^ d.val)
  let s := (s.putN (domKey 0x1210 1 d) start).setIncarnation d 0
  let s := ((s.put (domKey 0x2104 1 d) ones64).put (domKey 0x2104 9 d) ones64).putN (domKey 0x2104 0x11 d) 0
  let s := ((s.takeJob d).planChanged (poolChanges old s))
  let s := (s.physCores d).foldl (fun s c => s.endProbe c) s
  let s := if s.nat (key 0x2C10 3) = d.val ∧ s.get (key 0x2C10 1) ≠ 0 then s.putN (key 0x2C10 6) 1 else s
  if s.multi d ∧ s.role = 2 then s.stewardArm d else s

/-- A write of 1 to domain_control. -/
def activateDomain (d : Dom) (s : State) : State × WEnd :=
  let l := maskCores (s.content (domKey 0x1303 1 d))
  if s.stageNo ≠ 9 then (s, .deferred)
  else if l.isEmpty || (s.dom d).active || s.tagTaken d then (s, .refused 8)
  else if s.maskBusy l then (s, .busy)
  else (s.activate d l, .done)

/-- DOMAIN_ACTIVATE (R45). -/
def execDomainActivate (path : Path) (d : Dom) (s : State) : Host.Outcome State Fault Refusal :=
  .next (s.begin.granted path (domKey 0x1210 0x1A d) 1 false (activateDomain d)).settleAll

/-! ### Close (R45) -/

/-- A write of 2 to domain_control: the step in progress is the last. A domain with nothing left to commit is deactivated
at once. -/
def closeDomain (d : Dom) (s : State) : State × WEnd :=
  let x := s.dom d
  let n := s.stepOf d
  if !x.active then (s, .refused 8)
  else if x.running then (s.upDom d (fun x => { x with closing := some n }), .progress)
  else if n ≤ x.base then (s.deactivate d, .done)
  else ((s.dropArm d).upDom d (fun x => { x with closing := some (n - 1) }), .progress)

/-- DOMAIN_CLOSE (R45). -/
def execDomainClose (path : Path) (d : Dom) (s : State) : Host.Outcome State Fault Refusal :=
  .next (s.begin.granted path (domKey 0x1210 0x1A d) 2 false (closeDomain d)).settleAll

/-! ### Start in step -/

/-- Domains of object 0x1220.02. -/
def State.startMask (s : State) : List Dom := allDoms.filter (fun d => (s.get (key 0x1220 2)).getLsbD d.val)

/-- The outcome of a written arm for every domain it names: that of the first that cannot be armed, else 1. -/
def State.armOutcomes (s : State) (l : List Dom) (t : Nat) : Nat :=
  ((l.map (fun d => s.armOutcome (some d) t)).find? (fun o => o != 1)).getD 1

/-- A worker reports the outcome of an arm that came over the steward path (R53). -/
def State.reportArm (s : State) (path : Path) (o : Nat) : State :=
  if path = .steward then s.toSteward (.startStatus (BitVec.ofNat 8 o)) else s

/-- A write of start_time (R47, R48). -/
def armStart (path : Path) (t : Word) (s : State) : State × WEnd :=
  let l := s.startMask
  if s.stageNo ≠ 9 then (s, .deferred)
  else if l.isEmpty then (s, .refused 8)
  else
    let o := s.armOutcomes l t.toNat
    let (differ, s) : Bool × State := if o = 1 then
        l.foldl (fun (a : Bool × State) d => let (b, s) := a.2.settingsDiffer d; (a.1 || b, s)) (false, s)
      else (false, s)
    let o := if differ then 4 else o
    let s := s.putN (key 0x1220 3) o
    if o ≠ 1 then (s.reportArm path o, .refused 8)
    else ((l.foldl (fun s d => s.armDomain d t.toNat) (s.put (key 0x1220 1) t)).reportArm path 1, .done)

/-- START_ARM (R47). -/
def execStartArm (path : Path) (t : Word) (s : State) : Host.Outcome State Fault Refusal :=
  .next (s.begin.granted path (key 0x1220 1) t false (armStart path t)).settleAll

/-- Cores of a domain whose clock is stopped at T (R50). -/
def State.lateCores (s : State) (d : Dom) : List PCore :=
  (s.physCores d).filter (fun c => (s.frz.on && c ∈ s.frz.cores) || (s.probe c).stopped)

/-- Cores of a domain that start at T, and whether the bounds of R42 hold for all of them (R49, R50). -/
def State.timelyCores (s : State) (d : Dom) : List PCore := (s.physCores d).filter (fun c => c ∉ s.lateCores d)

def State.inBounds (s : State) (l : List PCore) : Bool := s.get (key 0x1200 3) == 2 && !l.any (fun c => (s.probe c).slow)

/-- The first and the last start of the cores that start at T: within 2 cycles of each other where R42 holds, else free, as the
first start is (objects .07 and .08; log entries 25 and 181). -/
def State.starts (s : State) (t : Word) (cores : List PCore) : State :=
  let s := s.upTb (fun b => { b with startT := t, anyStart := !cores.isEmpty })
  if cores.isEmpty then s
  else
    let (a, s) := s.fresh
    let (b, s) := s.fresh
    let gap := if cores.length = 1 then 0
      else if s.inBounds cores then b.toNat % (32000 / s.nat (key 0x2500 0xD) + 1) else b.toNat
    (s.putN (key 0x1220 7) (t.toNat + a.toNat % 2 ^ 32)).putN (key 0x1220 8) (s.spreadOf gap)

/-- A domain starts its step at T (R49): the step opens; a stop by poison and a sparing are over (R167, R190). -/
def State.startDomain (s : State) (d : Dom) (t : Word) : State :=
  let s := s.putN (domKey 0x1220 0xA d) 0
  let x := s.dom d
  if !x.active || x.running then s
  else
    let late := s.lateCores d
    let s : State := { s with tb := { s.tb with
      refusedArms := s.tb.refusedArms.filter (fun r => r.1 ≠ d)
      log := s.tb.log ++ late.map (fun c => (c.val + 1, t, 0)) } }
    let s := (s.upDom d (fun x => { x with suspended := false, lateStart := !late.isEmpty || s.get (key 0x1200 3) != 2 })).openStep d
    let s := if s.nat (domKey 0x2301 1 d) = 3 then s.putN (domKey 0x2301 1 d) 0 else s
    let s := if x.sparings.isEmpty then s
      else ((s.bump (key 0x1302 7)).outcomes d 1 t.toNat (fun _ => true)).endSparing d
    s.send (.startCores d)

/-- START_TIME_REACHED (R49, R50): every domain armed with T starts. -/
def execStartTimeReached (t : Word) (s : State) : Host.Outcome State Fault Refusal :=
  let s := s.begin
  if !s.expired (.startTimeReached t) then .next s
  else
    let s := s.expire (.startTimeReached t)
    let l := allDoms.filter (fun d => s.armOf d == t.toNat)
    let late := l.any (fun d => (s.dom d).active && !(s.dom d).running && !(s.lateCores d).isEmpty)
    let timely := (l.filter (fun d => (s.dom d).active && !(s.dom d).running)).flatMap s.timelyCores
    let s := l.foldl (fun s d => s.startDomain d t) s
    let s := s.putN (key 0x1220 3) (if late then 7 else if s.get (key 0x1200 3) ≠ 2 then 8 else 2)
    .next (s.starts t timely).settleAll

/-- The T of a masked domain's arm has won: its step runs (R51). -/
def State.cancelLate (s : State) : Bool := s.startMask.any (fun d => s.armOf d == 0 && (s.dom d).running)

/-- A write of 1 to cancel (R51): each unfired arm of a masked domain is cancelled; against a T that has come it is a near
miss. When T has won for a domain and no arm is left, the cancel is late (R23; log entry 180). -/
def cancelStart (s : State) : State × WEnd :=
  let l := s.startMask.filter (fun d => s.armOf d ≠ 0)
  if l.isEmpty then (if s.cancelLate then s.late else s, .refused 8)
  else
    let s := l.foldl (fun s d =>
      let c : Instr := .startTimeReached (BitVec.ofNat 64 (s.armOf d))
      (if s.due c then s.nearMiss 5 c else s).dropArm d) s
    (s.putN (key 0x1220 3) 5, .done)

/-- START_CANCEL (R51). -/
def execStartCancel (path : Path) (s : State) : Host.Outcome State Fault Refusal :=
  .next (s.begin.granted path (key 0x1220 9) 1 false cancelStart).settleAll

end Sys2Proof.Machine
end

