-- ==== Sys2Proof/Machine/Forces.lean ====
section
/-! DEFINITION. Force words (R229, R241) and what each source does when it is forced: R84 galley, R128 proofs, R152 screening, R181
stored data, R205 sparing, R223 lock-step, R270 bring-up, R285 self-test, R330 recovery, R371 the dictionary, and those of
the freeze, the Cellar and the supply. -/

namespace Sys2Proof.Machine

/-! ### What a force write is refused for (R229, R241) -/

/-- Sources whose chapter forces them on P000, P000.ME0, D0, L0 of D0 or digest record 0. -/
def fixedUnit (n : Nat) : Bool :=
  n == 0x30 || (decide (0x40 ≤ n) && decide (n ≤ 0x49)) || (decide (0x50 ≤ n) && decide (n ≤ 0x5A)) || n == 0x60 ||
    (decide (0x90 ≤ n) && decide (n ≤ 0x92)) || (decide (0xB0 ≤ n) && decide (n ≤ 0xB2))

/-- The unit of an instance is absent, held, fenced or retired. -/
def State.unitGone (s : State) (sc : Scope) (i : Nat) : Bool :=
  match coreOfInstance sc i with
  | some c => (decide (2 ≤ s.fp c) && decide (s.fp c ≤ 5)) || (sc == .slice && s.get (coreKey c 0x97) == 3)
  | none => match sc with
    | .port => s.nat (key (0x5000 + i) 1) == 0 || s.nat (key (0x5000 + i) 1) == 9
    | .stack => s.bring.stackSt.getD i 0 == 2 || s.bring.stackSt.getD i 0 == 3
    | .pc => s.nat (key 0x1020 (1 + i)) == 3
    | _ => false

/-- Instances that bits of word w name, in ascending order. -/
def forcedInstances (w : Nat) (v : Word) : List Nat := ((List.range 64).filter (fun b => v.getLsbD b)).map (fun b => 64 * w + b)

/-- Why a force write is refused whole, if it is. -/
def State.forceRefused (s : State) (n w : Nat) (v : Word) : Option WEnd :=
  match sourceInfo n with
  | none => some .noObject
  | some x =>
    let l := forcedInstances w v
    if wordsOf n ≤ w then some (.refused 2)
    else if v &&& ~~~(instanceBits n w) ≠ 0 then some (.refused 8)
    else if fixedUnit n && l.any (fun i => i != 0) then some (.refused 8)
    else if l.any (s.unitGone x.scope) then some (.refused 9)
    else if s.lc = 4 ∨ (x.cls = .f ∧ s.lc = 2) then some (.refused 4)
    else none

/-! ### Forced sources -/

/-- P000, P000.ME0 and D0. -/
def core0 : PCore := 0

def engine0 : EngineNo := 0

def dom0 : Dom := 0

/-- A forced raise that writes its record and changes no other state. -/
def State.forcedRaise (s : State) (n i : Nat) (payload : Bytes) : State := s.raiseWith n i payload true

/-- Galley sources (R84): as the real event on that engine. -/
def State.forceGalley (s : State) (n i : Nat) : State :=
  match coreOfInstance .engine i with
  | none => s
  | some c =>
    let e : EngineNo := ⟨i % 7, by omega⟩
    if n = 0x24 then s.windowExceeded (s.forcedMismatch c e 0)
    else s.mismatch (s.forcedMismatch c e (if n = 0x20 then 1 else if n = 0x21 then 5 else if n = 0x22 then 12 else 13))

/-- Proof failure (R128): a confirmed failure of L0 of D0 at the running step. -/
def State.forceProof (s : State) : State :=
  let x := s.dom dom0
  let k : LCore := 0
  if x.active && decide (k ∈ x.cores) then
    let own := (s.physOf k).toList
    let s := s.bump (key 0x2105 3)
    let s := own.foldl (fun (s : State) (c : PCore) => s.bump (coreKey c 0x72)) s
    s.proofFailure dom0 k (s.runningStep dom0) 1 true own false
  else s.forcedRaise 0x30 0 []

/-- Screening sources (R152): as the real event on P000 and its ME0, on LP0 or on P000's slice. -/
def State.forceScreen (s : State) (n : Nat) : State :=
  let c := core0
  let e := engine0
  let d := s.domOfCore c
  let rec_ (s : State) (engine kind : Nat) : Bytes := screenRecord s c engine (128 + kind) 0 0xFFFF 0
  if n = 0x40 then ((s.engineFailed c e 1 true).revertTrim c).fenceEngine d c e 3
  else if n = 0x41 then
    ((s.bump (key 0x2204 3)).screen 0x41 (engineInstance c e) c (rec_ s e.val 1) true).arm (.specimenRetest c) (sec 60)
  else if n = 0x42 then ((s.engineFailed c e 3 true).revertTrim c).fenceEngine d c e 4
  else if n = 0x43 then
    let s := (s.bump (key 0x2204 6)).bump (coreKey c 0x84)
    let s := (s.screen 0x43 c.val c (rec_ s e.val 4) true).revertTrim c
    s.chargeEngine d c e (forcedEntry s.t) 1
  else if n = 0x44 then s.marginWeak c true
  else if n = 0x45 then
    let s := s.bump (key 0x2202 8)
    let s : State := { s with badRegulators := if c ∈ s.badRegulators then s.badRegulators else s.badRegulators ++ [c] }
    (s.screen 0x45 c.val c (rec_ s 0xFF 8) true).endProbe c
  else if n = 0x46 then
    let b := rec_ s 0xFF 10
    let s := (s.upProbe c (fun p => { p with goal := none })).setTrim c 0
    let s := ((s.staleMap c).bump (coreKey c 0x8C)).bump (key 0x2203 7)
    s.screen 0x46 c.val c b true
  else if n = 0x47 then ({ s with overBudget := true }.bump (key 0x2201 7)).forcedRaise 0x47 0 []
  else if n = 0x48 then
    let p : PortNo := 0
    let s := (s.bump (portKey p 0x44)).bump (key 0x2206 6)
    let b := s.marginRecord (128 + 1) 0 (s.nat (portKey p 0x40)) (s.nat (portKey p 0x41)) (s.nat (portKey p 0x42))
    (s.event 0x016 b).forcedRaise 0x48 0 b
  else
    let s := s.bump (key 0x2206 7)
    let b := s.marginRecord (128 + 2) c.val (s.nat (coreKey c 0x8D)) (s.nat (coreKey c 0x8E)) 0
    (s.event 0x016 b).raiseWith 0x49 c.val b true

/-- The stored-data sources of P000's slice and of digest record 0 (R181). -/
def State.forceSlice (s : State) (n : Nat) : State :=
  let c := core0
  let r : DigestNo := 0
  if n = 0x50 then s.corrected c 0 0 none false true
  else if n = 0x51 then s.raiseWith 0x51 c.val [] true
  else if n = 0x52 then s.candidate c 0 true
  else if n = 0x53 then s.uncorrectable c 0 1 0xFF true none
  else if n = 0x54 then s.sparesExhausted c [] true
  else if n = 0x56 then
    let s := ((s.writeDigest r 0x37 (le 1 3)).bump (key 0x2302 6)).putN (key 0x2303 3) 0
    (s.forcedRaise 0x56 0 (s.digestRec r)).actOnDigest r
  else if n = 0x57 then
    let s := (s.writeDigest r 0x37 (le 1 1)).bump (key 0x2302 7)
    s.forcedRaise 0x57 0 (s.digestRec r)
  else (s.bump (key 0x2302 8)).forcedRaise 0x58 0 (s.digestRec r)

/-- The stored-data sources of D0 (R181). While D0 is not active they write their records alone. -/
def State.forceDomain (s : State) (n : Nat) : State :=
  let c := core0
  let on := (s.dom dom0).active
  if n = 0x55 then
    if on then s.consume dom0 (s.runningStep dom0) c engine0.val 1 0 true
    else s.raiseRecord 0x55 0 (poisonRecord s (s.lccOf c) (2 ^ 48 - 1) 0 (128 + 1) c engine0.val (s.lcOf c) 0 0) true
      (key 0x2301 0x11)
  else if n = 0x59 then
    let b := kvRecord s.t 0 (if on then s.jobId dom0 else 0) 0 0 c.val 0 (128 + 1) 1
    let s := if on then ((s.bump (key 0x2302 0xB)).bump (key 0x2302 0xC)).poisonWords c 0 2 else s
    s.raiseRecord 0x59 0 b true (key 0x2303 2)
  else s.forcedRaise 0x5A 0 []

/-- The reset record of a forced "reset escalated" (R330). -/
def State.forcedReset (s : State) (path : Path) : Bytes :=
  let b := resetRecordBytes s.t 1 (originOf path) 0 0xFFFF 0xFFFF 0 0 (2 ^ 48 - 1) (2 ^ 48 - 1) (s.culpritBytes none [])
  setBytes (setBytes b 8 (le 8 s.t)) 0x11 (le 1 2 ++ le 1 (128 + 3))

/-- The freeze record of a forced "freeze entered" (R286 and 12): trigger 4, flag [7]. -/
def State.forcedFreeze (s : State) : Bytes := freezeRecord s.t s.t 0 4 0xA1 0 0 128 0 0 0 0 ones32 0 0

/-- The frame error record (R371), 16 bytes. -/
def frameRecord (now : Word) (path kind index sub eid tag : Nat) : Bytes :=
  le 8 now.toNat ++ le 1 path ++ le 1 kind ++ le 2 index ++ le 1 sub ++ le 1 eid ++ le 2 tag

/-- The sparing record of a forced source of floor plan and sparing (R205), on P000, for a domain or none; the fields that such a fence
would have from a sparing are free of any (log entry 186). -/
def forcedSparing (now d outcome : Nat) : Bytes :=
  sparingRecord now 0 (2 ^ 48 - 1) d (128 + outcome) core0.val 0xFFFF 0xFFFF 0 0 0 0xFFFFFFFF

/-- One source forced on one instance. -/
def State.force (s : State) (path : Path) (n i : Nat) : State :=
  let c := core0
  let plan := s.content (key 0x2B00 2)
  let test (u : TestUnit) (o : Nat) : Bytes := s.selftestRecord u s.now 0 (Judged.plain o) true
  let diverged (o : Nat) : State :=
    let b := divergenceRecord s (Narrow.start s ⟨i % 8, Nat.mod_lt _ (by decide)⟩ (2 ^ 48 - 1)) o true
    (s.setContent (key 0x2C10 9) b).forcedRaise n i b
  let cab (kind : Nat) : Bytes :=
    if h : i < 18 then s.cablingRecord ⟨i, h⟩ kind 0xFF plan true else []
  if n = 0x19 then s.forcedRaise n i (supplyRecord s.t (Config.freeWord s.free).toNat 1 0 true)
  else if 0x20 ≤ n ∧ n ≤ 0x24 then s.forceGalley n i
  else if n = 0x30 then s.forceProof
  else if 0x40 ≤ n ∧ n ≤ 0x49 then s.forceScreen n
  else if n = 0x55 ∨ n = 0x59 ∨ n = 0x5A then s.forceDomain n
  else if 0x50 ≤ n ∧ n ≤ 0x58 then s.forceSlice n
  else if n = 0x60 then
    let b := forcedSparing s.t 0xFF 5
    (s.setContent (key 0x1302 8) b).forcedRaise n i b
  else if n = 0x64 then s.forcedRaise n i (forcedSparing s.t i 2)
  else if n = 0x65 then s.forcedRaise n i (forcedSparing s.t i 3)
  else if n = 0x70 ∨ n = 0x71 then diverged 2
  else if n = 0x72 then diverged 6
  else if n = 0x80 ∨ n = 0x86 then s.forcedRaise n i (s.stageRecord (if n = 0x80 then 2 else 1) (if n = 0x80 then 0x80 else 0) false true)
  else if n = 0x81 then s.forcedRaise n i (cab 2)
  else if n = 0x82 then s.forcedRaise n i (cab 3)
  else if n = 0x83 then s.forcedRaise n i (cab 4)
  else if n = 0x84 then s.forcedRaise n i (cab 5)
  else if n = 0x90 then s.forcedRaise n i (test (.core c) 1)
  else if n = 0x91 then s.forcedRaise n i (test (.core c) 2)
  else if n = 0x92 then s.forcedRaise n i (test (.slice c) 3)
  else if n = 0xA1 then s.forcedRaise n i s.forcedFreeze
  else if n = 0xB0 then s.forcedRaise n i (s.forcedReset path)
  else if n = 0xB1 then s.forcedRaise n i (lateRecord s.now 0xFFFF (128 + 1) 0xFF c.val 0xFFFF 0 (2 ^ 48 - 1) ones32)
  else if n = 0xB2 then s.forcedRaise n i (lateRecord s.now 0xFFFF (128 + 2) 0 0xFFFF 0xFFFF 0 (2 ^ 48 - 1) ones32)
  else if n = 0xC0 ∨ n = 0xC1 then s.forcedRaise n i (damageRecord 0 0 0 (if n = 0xC0 then 1 else 3) 0 true)
  else if n = 0xD0 then (s.bump (key 0x1030 0xB)).forcedRaise n i (frameRecord s.now 0 128 0xFFFF 0 0xFF 0xFFFF)
  else s.forcedRaise n i []

/-- A force word: refused whole, or the instances named are raised in ascending order. -/
def writeForce (path : Path) (n w : Nat) (v : Word) (s : State) : State × WEnd :=
  match s.forceRefused n w v with
  | some e => (s, e)
  | none => ((forcedInstances w v).foldl (fun (s : State) (i : Nat) => s.force path n i) s, .done)

/-- FORCE_WRITE (R229). -/
def execForceWrite (path : Path) (source : Byte) (word : Fin 66) (value : Word) (s : State) :
    Host.Outcome State Fault Refusal :=
  .next (s.begin.granted path (srcKey source.toNat (0xA4 + word.val)) value false
    (writeForce path source.toNat word.val value)).settleAll

end Sys2Proof.Machine
end

