-- ==== Sys2Proof/Machine/Views.lean ====
section
/-! DEFINITION. What a read of a dictionary entry gives (15_object_dictionary.md): the values and contents that the machine's state
stands for, when a read is refused, and what a read-out does (R294, R342, R343). -/

namespace Sys2Proof.Machine

/-! ### Which reads are served (R347) -/

/-- Entries held in hardware, whose reads are answered while no core runs PC0's duties: the error objects, the time base, the
per-core event rings, counters and capture latches. -/
def inHardware (k : Nat) : Bool :=
  let i := k / 256
  let j := k % 256
  (decide (0x2400 ≤ i) && decide (i ≤ 0x24FF)) || (decide (0x1200 ≤ i) && decide (i ≤ 0x1220)) ||
    (decide (0x3000 ≤ i) && decide (i ≤ 0x3257) &&
      ((decide (0xC1 ≤ j) && decide (j ≤ 0xC4)) || j == 0xC9 || j == 0xD1 || j == 0xD2 || j == 0xD4 ||
        (decide (j < 0x70) && j % 16 == 6)))

/-! ### Contents -/

/-- Floor plan entry of a core, 4 bytes (R182). -/
def State.floorEntry (s : State) (c : PCore) : Bytes :=
  le 1 (s.fp c) ++
    le 1 (bitOf (s.slicePresent c) + 2 * bitOf (s.inPool c) + 4 * bitOf (s.probing? c).isSome + 8 * bitOf (s.probe c).spared) ++
    le 2 (s.lcOf c)

/-- Logical map, object 0x1301.01. -/
def State.logicalMap (s : State) : Bytes :=
  (List.finRange 576).flatMap (fun (k : LCore) => le 2 (match s.physOf k with | some c => c.val | none => 0xFFFF))

/-- The core or port of a per-core or per-port index. -/
def coreOfIndex (i : Nat) : Option PCore := if h : 0x3000 ≤ i ∧ i ≤ 0x3257 then some ⟨i - 0x3000, by omega⟩ else none

def portOfIndex (i : Nat) : Option PortNo := if h : 0x5000 ≤ i ∧ i ≤ 0x5011 then some ⟨i - 0x5000, by omega⟩ else none

/-- Content of a per-core entry; none: the read is refused. -/
def State.coreContent (s : State) (c : PCore) (j : Nat) : Option Bytes :=
  if j = 0x93 then some (s.ceTable c)
  else if j = 0xC1 then some (s.ringContent c)
  else if j = 0xC7 then
    if s.mayReadOut && decide (c ∈ s.frz.cores) then
      let b := s.content (coreKey c 0xC7)
      some (if b.isEmpty then rawBytes 14 (600 * s.frz.grant.toNat + c.val) 89600 else b)
    else none
  else if h : j < 0x70 ∧ j % 16 = 6 then some (s.snapshot c ⟨j / 16, by omega⟩)
  else some (s.content (coreKey c j))

/-- Content of a STR or DOMAIN entry; none: the read is refused (R294, R343). -/
def State.contentSeen (s : State) (k : Nat) : Option Bytes :=
  let i := k / 256
  let j := k % 256
  match coreOfIndex i, portOfIndex i with
  | some c, _ => s.coreContent c j
  | none, some p =>
    if j = 0x50 then (if s.mayReadOut && s.frz.chip then some (s.linkCapture p) else none) else some (s.content k)
  | none, none =>
    if k = key 0x1300 6 then some (allCores.flatMap s.floorEntry)
    else if k = key 0x1301 1 then some s.logicalMap
    else if k = key 0x1304 2 then some (s.attic.flatMap id)
    else if k = key 0x2203 9 then some s.guardMap
    else if k = key 0x2801 1 then (if s.mayReadOut then some s.fifoCapture else none)
    else if k = key 0x2801 2 then (if s.mayReadOut && s.frz.chip then some s.centralScan else none)
    else if k = key 0x2A01 3 then some s.readData
    else if k = key 0x2A01 5 then s.selected.map CellEntry.dataOf
    else some (s.content k)

/-! ### Values -/

/-- Open channels, object 0x1030.04. -/
def State.channelBits (s : State) : Nat :=
  (s.chans.map (fun (x : Nat × Option Chan) => if x.2.isSome then 2 ^ x.1 else 0)).sum

/-- State of the sparing of the lowest domain that has one, object 0x1302.06. -/
def State.lowestSparing (s : State) : Nat :=
  ((allDoms.map (fun d => s.nat (domKey 0x1302 0x10 d))).find? (fun v => v != 0)).getD 0

/-- Values of per-core entries that depend on the floor plan and the domain. -/
def State.coreValue (s : State) (c : PCore) (j : Nat) : Word :=
  let v := s.get (coreKey c j)
  let gone := s.coreGone c
  if j = 0x75 then
    if gone then 5 else if s.fp c = 2 ∨ s.fp c = 3 then 3 else if v = 1 ∨ v = 2 then v
    else if (s.domOfCore c).isSome then 0 else 4
  else if j = 0x85 then
    if gone then 5 else if v = 0 && !s.probeEligible c then 4 else v
  else if h : j < 0x70 then
    let e : EngineNo := ⟨j / 16, by omega⟩
    if j % 16 = 4 then
      if gone then 5 else if s.fp c = 2 ∨ s.fp c = 3 then 3
      else match s.domOfCore c with
        | some d => if v = 0 && !(s.checks d).getLsbD (engineBit e) then 4 else v
        | none => v
    else if j % 16 = 9 then (if v = 0 && (s.probe c).drain && !(s.probe c).drained then 1 else v)
    else v
  else v

/-- The value of an entry that is neither a STR nor a DOMAIN. -/
def State.valueSeen (s : State) (k : Nat) : Word :=
  let n (v : Nat) : Word := BitVec.ofNat 64 v
  let i := k / 256
  match coreOfIndex i with
  | some c => s.coreValue c (k % 256)
  | none =>
    if k = key 0x1030 3 then n s.stagedCount
    else if k = key 0x1030 4 then n s.channelBits
    else if k = key 0x1200 1 then s.now
    else if k = key 0x1201 2 then n (bitOf s.isRoot)
    else if k = key 0x1300 5 then n s.reserveCount
    else if k = key 0x1302 6 then n s.lowestSparing
    else if k = key 0x1302 0xC then n s.recentFences
    else if k = key 0x2400 1 then n s.stickyTotal
    else if k = key 0x2400 2 then n s.highestClass
    else if k = key 0x2400 3 then (if s.pwrcyc then 2 else s.get k)
    else if k = key 0x2400 6 then n s.pinState
    else if key 0x2400 0xC ≤ k ∧ k ≤ key 0x2400 0xF then s.summary (k - key 0x2400 0xC)
    else if k = key 0x2601 1 then n s.readOutState
    else if 0x2410 ≤ i ∧ i ≤ 0x24FF ∧ k % 256 = 6 then n (s.stickyCount (i - 0x2400))
    else s.get k

/-! ### Reads -/

/-- The entries of the Cellar's read-out that fail a CRC check (R342): those that hold the records read, or the one named in
object 0x2A01.04. -/
def State.damagedRead (s : State) (k : Nat) : List CellEntry :=
  let hit (e : CellEntry) : Bool := e.committed && !e.damaged.isEmpty
  if k = key 0x2A01 3 then
    let a := s.nat (key 0x2A01 1)
    let n := s.nat (key 0x2A01 2)
    s.cel.entries.filter (fun e => hit e && e.damaged.any (fun i => decide (a ≤ e.offset i) && decide (e.offset i < a + n)))
  else if k = key 0x2A01 5 then
    let v := s.nat (key 0x2A01 4)
    s.cel.entries.filter (fun e => hit e && e.seq == bits v 31 0 &&
      (if bits v 63 62 = 3 then e.region == s.cel.half else e.region == bits v 63 62 + 2))
  else []

/-- What a read of the content does: a read-out of frozen state is noted in the freeze record (R295), and a damaged record of
the Cellar is raised and counted (R342). -/
def State.afterRead (s : State) (k : Nat) : State :=
  let frozen := k = key 0x2801 1 ∨ k = key 0x2801 2 ∨ ((portOfIndex (k / 256)).isSome ∧ k % 256 = 0x50) ∨
    ((coreOfIndex (k / 256)).isSome ∧ k % 256 = 0xC7)
  let s := if frozen && (s.contentSeen k).isSome then s.noteReadOut else s
  (s.damagedRead k).foldl (fun (s : State) (e : CellEntry) =>
    let i := e.damaged.foldl min (e.damaged.headD 0)
    (s.bump (key 0x2A00 9)).raise 0xC0 0 (damageRecord (e.offset i) e.seq e.kind 2 0 false)) s

/-- Why a read is not served, with the reason: ROM service, no such entry, PC0's duties stopped (R347, R348). -/
def State.readRefused (s : State) (k : Nat) : Option (WSt × Nat) :=
  if s.romService && !romServed k then some (.refused, 7)
  else match entryOf k with
    | none => some (.noObject, 0)
    | some _ => if !s.dutyRuns 0 && !inHardware k then some (.busy, 0) else none

/-- A read of an entry's value field: the value, the read status and the reason. A WO entry reads 0 (R349); a STR or DOMAIN
shows its length (R348). -/
def State.readValue (s : State) (k : Nat) : Word × WSt × Nat :=
  match s.readRefused k with
  | some (st, r) => (0, st, r)
  | none => match entryOf k with
    | none => (0, .noObject, 0)
    | some e =>
      if e.acc = .wo ∨ e.acc = .woLc then (0, .completed, 0)
      else if e.ty = .str ∨ e.ty = .dom then
        match s.contentSeen k with
        | some b => (BitVec.ofNat 64 b.length, .completed, 0)
        | none => (0, .refused, 8)
      else (s.valueSeen k, .completed, 0)

end Sys2Proof.Machine
end

