-- ==== Sys2Proof/Machine/Writes.lean ====
section
/-! DEFINITION. Writes of dictionary entries that have no command of their own: the rules of the entry's chapter (R28, R29, R86,
R98, R105, R172, R184, R191, R234, R245, R268, R283, R286, R292, R306, R339, R343), its apply class (R363 to R367), and what
follows from the write. Reasons follow R388. -/

namespace Sys2Proof.Machine

/-! ### Rules of the chapters -/

/-- Domain of a series entry whose first subindex is `base`. -/
def domAt (j base : Nat) : Dom := ⟨(j - base) % 8, by omega⟩

/-- A domain releases on proof by its newest setting, the staged one where one waits: release-on-galley staged first lets the
fraction be staged for the same boundary (R98; log entry 183). -/
def State.proofMode (s : State) (d : Dom) : Bool := s.get (domKey 0x2101 1 d) == 1

/-- A fraction code and a commit window that release-on-proof allows (R105). -/
def proofFits (code w : Nat) : Bool := decide (code ≠ 0) && decide (periodOf code + w ≤ 32)

/-- The heartbeat period and the steward-loss timeout are at least ten to one (R29). -/
def ratioOk (period timeout : Nat) : Bool := decide (10 * period ≤ timeout)

/-- Rules of the per-domain settings (R86, R98, R105) and of the commit window. -/
def State.proofRule (s : State) (i j v : Nat) : Option WEnd :=
  let w := s.nat (key 0x2102 1)
  if i = 0x2001 then (if bits v 3 3 = 1 ∧ bits v 1 1 = 0 then some (.refused 1) else none)
  else if i = 0x2100 then (if s.proofMode (domAt j 1) && !proofFits v w then some (.refused 8) else none)
  else if i = 0x2101 then (if v = 1 ∧ !proofFits (s.nat (key 0x2100 j)) w then some (.refused 8) else none)
  else if i = 0x2102 ∧ j = 1 then
    (if allDoms.any (fun d => s.proofMode d && !proofFits (s.nat (domKey 0x2100 1 d)) v) then some (.refused 8) else none)
  else none

/-- Rules of the multi-chip role and of lock-step (R29; 0x2C10.01). -/
def State.roleRule (s : State) (i j v : Nat) : Option WEnd :=
  let no (bad : Bool) : Option WEnd := if bad then some (.refused 8) else none
  if i = 0x2C00 ∧ j = 3 then no (decide (v < s.nat (key 0x2C00 3)))
  else if i = 0x2C00 ∧ j = 5 then no (!ratioOk v (s.nat (key 0x2C00 6)))
  else if i = 0x2C00 ∧ j = 6 then no (!ratioOk (s.nat (key 0x2C00 5)) v)
  else if i = 0x2C10 ∧ j = 1 then
    no ((v == 1 && s.nat (key 0x2C00 1) != 2) || (v == 2 && s.nat (key 0x2C00 1) != 1))
  else none

/-- Rules of a scan engine's controls: a retired one refuses (R278), one that PC2 owns (R172) or that scans (R171; log entry 182) is
busy; the region lies in a slice. -/
def State.scanRule (s : State) (m : MseNo) (j v : Nat) : Option WEnd :=
  if s.scanRetired m then some (.refused 9)
  else if s.pcOwned m || s.scanState m == 1 then some .busy
  else if j = 1 ∧ (600 ≤ v / 2 ^ 32 ∨ v % 64 ≠ 0) then some (.refused 1)
  else if j = 2 ∧ 2 ^ 30 < s.nat (mseKey m 1) % 2 ^ 30 + v then some (.refused 8)
  else none

/-- A breakpoint (R306): an event of the table, none of the steward's. -/
def State.breakpointRule (s : State) (v : Nat) : Option WEnd :=
  let event := bits v 31 24
  if v = 0 then none
  else if (bpDuty event).isNone then some (.refused 1)
  else if bpDuty event = some 1 ∧ s.nat (key 0x2C00 1) = 2 then some (.refused 8)
  else none

/-- Why the rules of its chapter refuse a value, if they do. -/
def State.ruleOf (s : State) (k v : Nat) : Option WEnd :=
  let i := k / 256
  let j := k % 256
  if 0x2001 ≤ i ∧ i ≤ 0x2102 then s.proofRule i j v
  else if i = 0x2C00 ∨ i = 0x2C10 then s.roleRule i j v
  else if h : 0x2310 ≤ i ∧ i ≤ 0x2327 ∧ j ≤ 4 then s.scanRule ⟨i - 0x2310, by omega⟩ j v
  else if i = 0x2750 ∧ 1 ≤ j ∧ j ≤ 8 then s.breakpointRule v
  else if 0x3000 ≤ i ∧ i ≤ 0x3257 ∧ j < 0x70 ∧ j % 16 = 3 ∧ 4 ≤ j / 16 then some (.refused 2)
  else if 0x2410 ≤ i ∧ i ≤ 0x24FF ∧ j = 4 then
    (if (sourceInfo (i - 0x2400)).map (·.cls) = some .f ∧ bits v 2 2 = 0 then some (.refused 8) else none)
  else if k = key 0x2106 3 then (if s.nat (key 0x2106 1) < v then some (.refused 8) else none)
  else if k = key 0x2600 4 ∨ k = key 0x2600 5 then (if s.lc = 2 then some (.refused 4) else none)
  else if k = key 0x2701 2 then (if 600 ≤ v / 2 ^ 32 ∨ v % 32 ≠ 0 then some (.refused 1) else none)
  else if k = key 0x2A00 7 then (if s.nat (key 0x2A00 6) < v then some (.refused 8) else none)
  else if k = key 0x2A01 2 then (if 2 ^ 26 < s.nat (key 0x2A01 1) + v then some (.refused 8) else none)
  else if k = key 0x2B00 1 then (if s.activeDoms.isEmpty then none else some .deferred)
  else none

/-! ### What follows from a write -/

/-- The items of the Cellar's configuration that hold settings (14, 'Configuration items'). -/
def State.keepSetting (s : State) (k : Nat) : State :=
  if k = key 0x2500 0xA then s.configItem 0x101 0 (le 1 (s.nat k))
  else if k = key 0x1300 8 ∨ k = key 0x1300 9 then
    s.configItem 0x102 0 (le 1 (s.nat (key 0x1300 8)) ++ s.content (key 0x1300 9))
  else if k = key 0x2B00 2 then s.configItem 0x103 0 (s.content k)
  else if k = key 0x2601 2 then s.configItem 0x108 0 (le 1 (s.nat k))
  else if k = key 0x2500 0xF then s.configItem 0x10D 0 (le 1 (s.nat k))
  else s

/-- A new trace region, or its domains (R298 to R300): records are counted from 0 again, and writing begins once a domain is
traced into a region of some length. -/
def State.setTrace (s : State) (j : Nat) : State :=
  let on := s.nat (key 0x2701 1) != 0 && s.nat (key 0x2701 3) != 0
  if j = 2 ∨ j = 3 then
    let s : State := { s with obs := { s.obs with trace := [], drop := none } }
    ((s.putN (key 0x2701 5) 0).putN (key 0x2701 9) 0).putN (key 0x2701 8) (bitOf on)
  else if j = 1 then
    (if !on then s.putN (key 0x2701 8) 0
     else if s.nat (key 0x2701 8) = 0 then s.putN (key 0x2701 8) 1 else s)
  else s

/-- A change of the source of time: exchanges begin or end, and the watch for pulses runs in rack reference mode alone. -/
def State.timeMode (s : State) (v : Nat) : State :=
  (if v = 0 then (if s.tb.timeSet then s.armWatch else s) else s.disarm .tpulseWatchTimeout).followBeacon

/-- A measured guard-band map entry ages by the newest setting (R142). -/
def State.ageMaps (s : State) : State :=
  (allCores.filter (fun c => (s.probe c).mapFlags.getLsbD 0 && !(s.probe c).mapFlags.getLsbD 1)).foldl
    (fun (s : State) (c : PCore) =>
      s.armAt (.mapEntryAged c) (s.nat (coreKey c 0x8A) + hour (s.nat (key 0x2203 5)))) s

/-- A higher role epoch is a new assignment: a lost steward is lost no more, and the heartbeats of a reset job resume (R28,
R29); what the new steward takes up follows at its first heartbeat (`State.resumeJob`). -/
def State.newAssignment (s : State) : State :=
  (s.upJob (fun j => { j with silent := false, resume := true })).putN (key 0x2C00 7) 0

/-- "Phory stops changing any" trim (R146): lowerings under way end where they are. -/
def State.stopTrims (s : State) : State :=
  (allCores.filter (fun c => (s.probe c).goal.isSome)).foldl (fun s c => s.upProbe c (fun p => { p with goal := none })) s

/-- A new delay of the power cycle counts from the entry into the fault state too; with 0 the request waits for object .0A (R240). -/
def State.newCycleDelay (s : State) (v : Nat) : State :=
  if s.get (key 0x2400 3) ≠ 1 then s
  else if v = 0 then s.disarm .powerCycleDelay
  else s.armAt .powerCycleDelay (s.err.faultAt.toNat + ms v)

/-- What follows from an accepted value beyond its apply class. -/
def State.afterWrite (s : State) (k : Nat) (v : Word) : State :=
  let i := k / 256
  let s := s.keepSetting k
  if k = key 0x1200 2 then s.timeMode v.toNat
  else if k = key 0x1305 1 then (s.bump (key 0x1305 2)).followBeacon
  else if i = 0x1201 then s.followBeacon
  else if key 0x1220 4 ≤ k ∧ k ≤ key 0x1220 6 then s.rearm false
  else if k = key 0x2203 1 then (if v = 0 then s.stopTrims else s)
  else if k = key 0x2203 5 then s.ageMaps
  else if k = key 0x2400 9 then s.newCycleDelay v.toNat
  else if i = 0x2701 then s.setTrace (k % 256)
  else if k = key 0x2C00 3 then s.newAssignment
  else s

/-! ### Plain values -/

/-- A worker that has lost its steward applies a new assignment, and a write of 0 to its lock-step mode, at once (R28). -/
def State.lostApplies (s : State) (k : Nat) (v : Word) : Bool :=
  s.get (key 0x2C00 7) == 1 &&
    ((decide (key 0x2C00 1 ≤ k) && decide (k ≤ key 0x2C00 4)) || (k == key 0x2C10 1 && v == 0))

/-- A timed freeze (R286): 0 disarms it; an instant less than 2 µs ahead is missed. -/
def writeFreezeAt (v : Word) (s : State) : State × WEnd :=
  if v = 0 then ((s.put (key 0x2800 3) 0).disarm .timedFreeze, .done)
  else if v.toNat < s.t + us 2 then (s.putN (key 0x2800 0xB) (if s.frz.on then s.nat (key 0x2800 0xB) else 4), .refused 8)
  else
    let s : State := { s.put (key 0x2800 3) v with frz := { s.frz with spread := none } }
    (s.armAt .timedFreeze v.toNat, .done)

/-- A timed release (R292); 0 disarms it. -/
def writeReleaseAt (v : Word) (s : State) : State × WEnd :=
  let s := s.put (key 0x2800 4) v
  if v = 0 then (s.disarm .timedRelease, .done) else (s.armAt .timedRelease v.toNat, .done)

/-- A write of a value whose entry has no command of its own, `ruled` when its chapter's rules were met already. -/
def plainWrite (path : Path) (drain : Bool) (e : Entry) (k : Nat) (v : Word) (ruled : Bool) (s : State) : State × WEnd :=
  if k = key 0x2800 3 then writeFreezeAt v s
  else if k = key 0x2800 4 then writeReleaseAt v s
  else
    let v := e.rng.keepBits v
    match (if ruled then none else s.ruleOf k v.toNat) with
    | some r => (s, r)
    | none =>
      let (t, r) : State × WEnd := if s.lostApplies k v then
          (({ s with staged := s.staged.filter (fun (x : Staged) => x.key ≠ k) }).put k v, .done)
        else s.writeValue e k v drain path
      match r with
      | .done => (t.afterWrite k v, r)
      | .staged => (t.afterWrite k v, r)
      | _ => (t, r)

/-! ### Contents -/

/-- The lengths that an entry's table allows (R361). -/
def lengthFits (k n : Nat) : Bool :=
  let i := k / 256
  if k = key 0x1010 4 then decide (n ≤ 6 * 2 ^ 20)
  else if k = key 0x1100 3 then n == 144
  else if k = key 0x1300 9 then n == 1152
  else if i = 0x1303 then n == 72
  else if i = 0x1306 then decide (n ≤ 2048) && n % 32 == 0
  else if k = key 0x2800 6 then n == 75
  else if k = key 0x2800 7 then n == 32
  else if k = key 0x2B00 2 then n == 0 || n == 288
  else if 0x2710 ≤ i ∧ i ≤ 0x274F then n == 32
  else if 0x2380 ≤ i ∧ i ≤ 0x23FF then n == 64
  else false

/-- Rules of a domain's mask (R184, R245): its cores exist, and no other active domain has one of them. -/
def State.maskRule (s : State) (d : Dom) (b : Bytes) : Option WEnd :=
  let l := maskCores b
  if s.stageNo ≠ 9 then some .deferred
  else if (s.dom d).active then some .deferred
  else if l.any (fun k => decide (s.nat (key 0x1300 4) ≤ k.val)) then some (.refused 8)
  else if s.activeDoms.any (fun o => decide (o ≠ d) && (s.dom o).cores.any (fun k => decide (k ∈ l))) then some (.refused 8)
  else none

/-- One entry of a refill plan is allowed (R191): its fields, and no byte in a reserved range (R109). -/
def refillFits (scratch : Nat) (e : Bytes) : Bool :=
  let src := fieldAt e 2 1
  let off := fieldAt e 0xC 4
  let n := fieldAt e 0x10 4
  src == 0 || (decide (src ≤ 4) && (decide (fieldAt e 0 2 < 576) || fieldAt e 0 2 == 0xFFFF) && off % 64 == 0 && n % 64 == 0 &&
    decide (off + n ≤ 2 ^ 30 - scratch * 2 ^ 20 - 2 ^ 18))

/-- The entries of a plan, 32 bytes each. -/
def planEntries (b : Bytes) : List Bytes := (List.range (b.length / 32)).map (fun i => (b.drop (32 * i)).take 32)

/-- A watch definition is allowed (R303). -/
def watchFits (b : Bytes) : Bool := decide (fieldAt b 0 1 < 8) && decide (fieldAt b 1 1 < 3) && decide (fieldAt b 2 1 < 5)

/-- A content as it is kept: what was written to the reserved bytes of its records is ignored, and they read zero (R10): those of a
refill plan's entries (R191), of a cabling plan's (R260) and of a watch definition (R303). -/
def keepContent (k : Nat) (b : Bytes) : Bytes :=
  let i := k / 256
  let each (n : Nat) (offs : List Nat) : Bytes := b.zipIdx.map (fun x => if x.2 % n ∈ offs then 0 else x.1)
  if i = 0x1306 then each 32 [3, 0xA, 0xB, 0x18, 0x19, 0x1A, 0x1B, 0x1C, 0x1D, 0x1E, 0x1F]
  else if k = key 0x2B00 2 then each 16 [0xB, 0xC, 0xD, 0xE, 0xF]
  else if 0x2710 ≤ i ∧ i ≤ 0x274F then
    each 32 [3, 0x12, 0x13, 0x14, 0x15, 0x16, 0x17, 0x18, 0x19, 0x1A, 0x1B, 0x1C, 0x1D, 0x1E, 0x1F]
  else b

/-- Why the rules of its chapter refuse a content, if they do. -/
def State.contentRule (s : State) (k : Nat) (b : Bytes) : Option WEnd :=
  let i := k / 256
  if !lengthFits k b.length then some (.refused 1)
  else if i = 0x1303 then s.maskRule (domAt (k % 256) 1) b
  else if i = 0x1306 then
    (if (s.dom (domAt (k % 256) 1)).active then some .deferred
     else if (planEntries b).all (refillFits (s.nat (key 0x2102 6))) then none else some (.refused 1))
  else if 0x2710 ≤ i ∧ i ≤ 0x274F then (if watchFits b then none else some (.refused 1))
  else none

/-- A write of a whole content (R361), digest records with the rule of their own (R173); a transition token is held apart, since
its entry is write-only (R370). -/
def contentWrite (e : Entry) (k : Nat) (b : Bytes) (s : State) : State × WEnd :=
  let i := k / 256
  if h : 0x2380 ≤ i ∧ i ≤ 0x23FF ∧ 1 ≤ k % 256 ∧ k % 256 ≤ 16 then
    digestWrite ⟨16 * (i - 0x2380) + (k % 256 - 1), by omega⟩ b s
  else match s.contentRule k b with
    | some r => (s, r)
    | none =>
      if k = key 0x1100 3 then ({ s with lcToken := some b }, .done)
      else
        let (t, r) := s.writeContent e k (keepContent k b)
        match r with
        | .done => (t.keepSetting k, r)
        | .staged => (t.keepSetting k, r)
        | _ => (t, r)

end Sys2Proof.Machine
end

