-- ==== Sys2Proof/Machine/Channels.lean ====
section
/-! DEFINITION. The transfer channels (15_object_dictionary.md, 'Segmented transfers'): opening, segments, the end of a download as
one write, abort and the idle timeout (R358 to R362), and the frame error (R371). -/

namespace Sys2Proof.Machine

/-! ### Frame errors -/

/-- "dictionary frame error" is raised (R371). -/
def State.frameError (s : State) (path : Path) (kind index sub : Nat) (eid : Byte) (tag : Nat) : State :=
  (s.bump (key 0x1030 0xB)).raise 0xD0 0 (frameRecord s.now (Path.num path) kind index sub eid.toNat tag)

/-! ### Channels and their data areas -/

def dataClear : Bytes := List.replicate 3072 0

/-- The data area of a channel (R359). -/
def State.area (s : State) (c : ChanNo) : Bytes := tabGet dataClear s.data c.val

/-- Bytes put into the data area at an offset. -/
def State.setArea (s : State) (c : ChanNo) (off : Nat) (b : Bytes) : State :=
  let a := s.area c
  { s with data := tabPut dataClear s.data c.val (a.take off ++ b ++ a.drop (off + b.length)) }

def State.chan (s : State) (c : ChanNo) : Option Chan := tabGet none s.chans c.val

def State.setChan (s : State) (c : ChanNo) (x : Option Chan) : State := { s with chans := tabPut none s.chans c.val x }

/-- The channel that an entry belongs to. -/
def chanOf (k : Nat) : Option ChanNo :=
  if h : 0x6000 ≤ k / 256 ∧ k / 256 ≤ 0x600F then some ⟨k / 256 - 0x6000, by omega⟩ else none

/-- The entry belongs to a channel that another path opened (R358). -/
def State.chanBusy (s : State) (path : Path) (k : Nat) : Bool :=
  match chanOf k with
  | none => false
  | some c => match s.chan c with
    | some x => decide (x.path ≠ path)
    | none => false

/-- The image store, whose downloads stream (R361). -/
abbrev imageKey : Nat := key 0x1010 4

/-- The idle timeout is armed (R362). -/
def State.armIdle (s : State) (c : ChanNo) : State := s.arm (.channelIdleTimeout c) (ms (s.nat (key 0x1030 0xC)))

/-- An operation wins against the idle timeout, which is armed again (R362). -/
def State.segmentOp (s : State) (c : ChanNo) : State := (s.arrives (.channelIdleTimeout c) 5).armIdle c

/-- The channel is free; object .02 shows how the transfer ended. -/
def State.freeChan (s : State) (c : ChanNo) (shown : Nat) : State :=
  ((((s.setChan c none).putN (chanKey c 2) shown).putN (chanKey c 7) 0xFF)).disarm (.channelIdleTimeout c)

/-- Bytes of a download received so far. -/
def State.received (s : State) (x : Chan) : Nat := if x.entry = imageKey then s.img.staged.length else x.got.length

/-- The image store is emptied, with the staged status given. -/
def State.dropImage (s : State) (status : Nat) : State :=
  ({ s with img := { s.img with staged := [] } } : State).putN (key 0x1010 5) status

/-- An aborted transfer changes nothing; one to the image store leaves staged status 0 (R362). -/
def State.abortChan (s : State) (c : ChanNo) (x : Chan) : State :=
  let s := if !x.upload && x.entry == imageKey then s.dropImage 0 else s
  s.freeChan c 4

/-! ### Opening (R358, R360) -/

/-- Content that an upload gives: a write-only entry shows none. -/
def State.uploadSeen (s : State) (k : Nat) : Option Bytes :=
  match entryOf k with
  | none => none
  | some e => if e.acc = .wo ∨ e.acc = .woLc then some [] else s.contentSeen k

/-- Why a transfer of the entry is not opened (R31, R32, R347 to R349, R239, R294, R343). -/
def State.openRefused (s : State) (k : Nat) (up : Bool) : Option WEnd :=
  if s.romService && !(if up then romServed k else k == imageKey) then some (.refused 7)
  else match entryOf k with
  | none => some .noObject
  | some e =>
    if !s.dutyRuns 0 && !(up && inHardware k) then some .busy
    else if e.ty ≠ .str ∧ e.ty ≠ .dom then some (.refused 5)
    else if up then (if (s.uploadSeen k).isNone then some (.refused 8) else none)
    else if e.acc = .const ∨ e.acc = .ro then some (.refused 2)
    else if s.faulted ∧ !faultServed k then some (.refused 6)
    else if k = imageKey ∧ (s.img.activating ∨ s.img.waitIdle ∨ s.inTransfer k) then some .busy
    else none

/-- A free channel is opened. Content of at most 128 KiB is copied at this instant (R360). -/
def State.openChan (s : State) (c : ChanNo) (path : Path) (eid : Byte) (rank : Rank) (k : Nat) (up : Bool) (total : Nat) :
    State :=
  let b := if up then (s.uploadSeen k).getD [] else []
  let live := decide (2 ^ 17 < b.length)
  let n := if up then b.length else total
  let s := if up then s.afterRead k else if k = imageKey then s.dropImage 1 else s
  let s := s.setChan c (some { entry := k, upload := up, path := path, eid := eid, rank := rank,
                               snapshot := if live then [] else b, live := live, total := n, got := [] })
  let s := ((s.putN (chanKey c 2) (if up then 1 else 2)).putN (chanKey c 3) n).putN (chanKey c 7) (Path.num path)
  s.armIdle c

/-- A write of a channel's object .01. The total of a download is written before its first segment, so what object .03 holds
stays. -/
def openByWrite (path : Path) (eid : Byte) (rank : Rank) (c : ChanNo) (v : Word) (s : State) : State × WEnd :=
  let n := v.toNat
  let k := key (bits n 31 16) (bits n 15 8)
  let dir := bits n 1 0
  if (s.chan c).isSome then (s, .busy)
  else if dir ≠ 1 ∧ dir ≠ 2 then (s, .refused 1)
  else match s.openRefused k (dir == 1) with
    | some r => (s, r)
    | none => (s.openChan c path eid rank k (dir == 1) (s.nat (chanKey c 3)), .done)

/-! ### Segments (R358, R359) -/

/-- Bytes of an upload from an offset on. -/
def State.fetchSegment (s : State) (x : Chan) (off len : Nat) : Bytes × WEnd :=
  if x.total ≤ off then ([], .refused 10)
  else if !x.live then ((x.snapshot.drop off).take len, .done)
  else match s.uploadSeen x.entry with
    | none => ([], .refused 8)
    | some b => ((b.drop off).take len, .done)

/-- Total of a download: what object .03 holds at the first segment. -/
def State.totalOf (s : State) (c : ChanNo) (x : Chan) : Nat :=
  if s.received x = 0 then s.nat (chanKey c 3) else x.total

/-- A segment of a download; one out of order or beyond the total aborts the transfer. -/
def storeSegment (c : ChanNo) (x : Chan) (off : Nat) (b : Bytes) (s : State) : State × WEnd :=
  let total := s.totalOf c x
  if off ≠ s.received x ∨ total < off + b.length then (s.abortChan c x, .refused 10)
  else if x.entry = imageKey then
    (({ s with img := { s.img with staged := s.img.staged ++ b } } : State).setChan c (some { x with total := total }), .done)
  else (s.setChan c (some { x with total := total, got := x.got ++ b }), .done)

/-! ### The end of a download (R361) -/

/-- The image is received whole; one above 6 MiB is too long (object 0x1010.05). -/
def endPush (s : State) : State × WEnd :=
  if 6 * 2 ^ 20 < s.img.staged.length then (s.dropImage 8, .refused 1) else (s, .done)

/-- One write of a whole content on a path, as part of an access already counted. -/
def State.contentGrant (s : State) (path : Path) (k : Nat) (b : Bytes) : State × WEnd :=
  match s.writeCheck k 0 true with
  | some r => ((if k = imageKey then s.dropImage 0 else s).endGrant path k r, r)
  | none =>
    let (t, r) := if k = imageKey then endPush s else match entryOf k with
      | some e => contentWrite e k b s
      | none => (s, .noObject)
    (t.endGrant path k r, r)

/-- A download ends: an incomplete one aborts with reason 10, any other acts as one write of its entry. Whether it wrote comes
last. -/
def State.endDownload (s : State) (path : Path) (c : ChanNo) (x : Chan) : State × WEnd × Bool :=
  if x.upload then (s, .refused 8, false)
  else if s.totalOf c x ≠ s.received x then (s.abortChan c x, .refused 10, false)
  else
    let (t, r) := (s.freeChan c 0).contentGrant path x.entry x.got
    (t, r, true)

/-! ### Commands of a channel (object .05) -/

/-- A channel that holds no transfer on this path: what the command reads. -/
def State.noTransfer (s : State) (c : ChanNo) : WEnd := if s.get (chanKey c 2) = 4 then .refused 10 else .refused 8

/-- A command on the transfer that a channel holds. -/
def onTransfer (path : Path) (c : ChanNo) (body : Chan → State → State × WEnd) (s : State) : State × WEnd :=
  match s.chan c with
  | none => (s, s.noTransfer c)
  | some x => if x.path ≠ path then (s, .busy) else body x (s.segmentOp c)

/-- 1: an upload segment into the data area. -/
def fetchCommand (path : Path) (c : ChanNo) : State → State × WEnd :=
  onTransfer path c (fun (x : Chan) (s : State) =>
    if !x.upload then (s, .refused 8)
    else
      let (b, r) := s.fetchSegment x (s.nat (chanKey c 4)) (s.nat (chanKey c 6))
      (if r = .done then s.setArea c 0 b else s, r))

/-- 2: a download segment from the data area. -/
def storeCommand (path : Path) (c : ChanNo) : State → State × WEnd :=
  onTransfer path c (fun (x : Chan) (s : State) =>
    if x.upload then (s, .refused 8)
    else storeSegment c x (s.nat (chanKey c 4)) ((s.area c).take (s.nat (chanKey c 6))) s)

/-- 3: the end of a download. -/
def endCommand (path : Path) (c : ChanNo) : State → State × WEnd :=
  onTransfer path c (fun (x : Chan) (s : State) =>
    let (t, r, _) := s.endDownload path c x
    (t, match r with
      | .staged => .done
      | .draining => .done
      | .progress => .done
      | r => r))

/-- 4: an abort in either direction. -/
def abortCommand (path : Path) (c : ChanNo) : State → State × WEnd :=
  onTransfer path c (fun (x : Chan) (s : State) => (s.abortChan c x, .done))

/-- A write of object .05. -/
def channelCommand (path : Path) (c : ChanNo) (v : Nat) : State → State × WEnd :=
  if v = 1 then fetchCommand path c
  else if v = 2 then storeCommand path c
  else if v = 3 then endCommand path c
  else abortCommand path c

/-- CH_OPEN (R358). -/
def execChOpen (c : ChanNo) (value : Word) (s : State) : Host.Outcome State Fault Refusal :=
  .next (s.begin.granted .window (chanKey c 1) value false (openByWrite .window 0xFF 0 c value)).settleAll

/-- CH_FETCH (R359). -/
def execChFetch (c : ChanNo) (s : State) : Host.Outcome State Fault Refusal :=
  .next (s.begin.granted .window (chanKey c 5) 1 false (fetchCommand .window c)).settleAll

/-- CH_STORE (R359). -/
def execChStore (c : ChanNo) (s : State) : Host.Outcome State Fault Refusal :=
  .next (s.begin.granted .window (chanKey c 5) 2 false (storeCommand .window c)).settleAll

/-- CH_END_DOWNLOAD (R359, R361). -/
def execChEndDownload (c : ChanNo) (s : State) : Host.Outcome State Fault Refusal :=
  .next (s.begin.granted .window (chanKey c 5) 3 false (endCommand .window c)).settleAll

/-- CH_ABORT (R359). -/
def execChAbort (c : ChanNo) (s : State) : Host.Outcome State Fault Refusal :=
  .next (s.begin.granted .window (chanKey c 5) 4 false (abortCommand .window c)).settleAll

/-- CHANNEL_IDLE_TIMEOUT (R362). -/
def execChannelIdleTimeout (c : ChanNo) (s : State) : Host.Outcome State Fault Refusal :=
  let s := s.begin
  if !s.expired (.channelIdleTimeout c) then .next s
  else match s.chan c with
    | none => .next (s.disarm (.channelIdleTimeout c))
    | some x =>
      let s := (s.expire (.channelIdleTimeout c)).abortChan c x
      .next (s.frameError x.path 8 (x.entry / 256) (x.entry % 256) x.eid 0xFFFF).settleAll

end Sys2Proof.Machine
end

