-- ==== Sys2Proof/Machine/Dictionary.lean ====
section
/-! DEFINITION. Writes of dictionary entries on every path: the entries whose writes are commands, plain writes, the writes of the
PCIe window and its malformed accesses (R346, R352, R353), groups (R368) and the drain timeout (R367)
(15_object_dictionary.md). -/

namespace Sys2Proof.Machine

/-! ### Entries whose writes are commands -/

/-- A write of an entry of a series per domain. -/
abbrev Body : Type := State → State × WEnd

/-- Time base, domains and start in step (02_time_and_steps.md). -/
def timeBody (path : Path) (k : Nat) (v : Word) : Option Body :=
  let j := k % 256
  if k = key 0x1200 4 then some (writeLoad path v)
  else if k / 256 = 0x1210 ∧ 0x1A ≤ j ∧ j ≤ 0x21 then
    some (if v = 1 then activateDomain (domAt j 0x1A) else closeDomain (domAt j 0x1A))
  else if k = key 0x1220 1 then some (armStart path v)
  else if k = key 0x1220 9 then some cancelStart
  else none

/-- Floor plan, sparing, Attic and machine position (07_floor_plan_and_sparing.md). -/
def floorBody (path : Path) (k : Nat) (v : Word) : Option Body :=
  if k = key 0x1302 9 then some (fenceByHost v.toNat)
  else if k = key 0x1302 0xA then some (unfenceByHost v.toNat)
  else if k = key 0x1302 0xB then some (hostRefilled v.toNat)
  else if k = key 0x1302 0xD then
    let d : Dom := domAt (bits v.toNat 6 4) 0
    if bits v.toNat 3 0 = 1 then some (repeatRefill d)
    else if bits v.toNat 3 0 = 2 then some (endRefill path d)
    else some (fun s => (s, .refused 1))
  else if k = key 0x1304 3 then some (releaseEntry v.toNat)
  else if k = key 0x1305 3 then some (replaceRank v)
  else if k = key 0x2B00 6 then some (writeRoute v)
  else none

/-- Proofing, stored data and determinism (04, 06, 08). -/
def checkBody (path : Path) (k : Nat) (v : Word) : Option Body :=
  let i := k / 256
  let j := k % 256
  if k = key 0x2108 9 then some (requestRegen v.toNat)
  else if k = key 0x2108 0xC then some releaseRegen
  else if k = key 0x2C10 0xA then some (ifUnattributed (if v = 1 then restartPair else endPair path))
  else if i = 0x2301 ∧ 9 ≤ j ∧ j ≤ 16 then
    let d := domAt j 9
    some (ifStopped d (if v = 1 then poisonEnd path d else poisonResume d))
  else if h : 0x2310 ≤ i ∧ i ≤ 0x2327 ∧ j = 5 then some (scanControl ⟨i - 0x2310, by omega⟩ v.toNat)
  else none

/-- Errors (09_errors_and_reactions.md). -/
def errorBody (path : Path) (k : Nat) (v : Word) : Option Body :=
  let i := k / 256
  let j := k % 256
  if k = key 0x2400 5 then some releaseHold
  else if k = key 0x2400 0xA then some cycleNow
  else if 0x2410 ≤ i ∧ i ≤ 0x24FF then
    let n := i - 0x2400
    if 0x20 ≤ j ∧ j ≤ 0x61 then some (clearSticky n (j - 0x20) v)
    else if 0x62 ≤ j ∧ j ≤ 0xA3 then some (writeMask n (j - 0x62) v)
    else if 0xA4 ≤ j ∧ j ≤ 0xE5 then some (writeForce path n (j - 0xA4) v)
    else none
  else none

/-- Bring-up, self-test, firmware, life cycle and the Cellar (01, 10, 11, 14, 15). -/
def serviceBody (k : Nat) (v : Word) : Option Body :=
  if k = key 0x1010 6 then some (activateImage (v == 2))
  else if k = key 0x1100 2 then some (writeTransition v.toNat)
  else if k = key 0x2500 0x10 then some continueBringup
  else if k = key 0x2B00 9 then some recheckPorts
  else if k = key 0x2600 7 then some (requestTest v)
  else if k = key 0x2600 0xF then some (requestAbort v)
  else if k = key 0x2600 9 then some (requestStack v)
  else if k = key 0x2601 3 then some startKeyClear
  else if k = key 0x2A00 0xD then some eraseCellar
  else match portOfIndex (k / 256) with
    | some p => if k % 256 = 0xA then some (acceptPort p) else none
    | none => none

/-- Freeze, counters, breakpoints and recovery (12, 13). -/
def watchBody (path : Path) (k : Nat) (v : Word) : Option Body :=
  if k = key 0x2702 1 then some (fun s => ({ s with obs := { s.obs with counters := [] } }, .done))
  else if k = key 0x2750 0xB then some orderResume
  else if k = key 0x2800 1 then some (fun s => (s.freezeTrigger 1 0 0 ones32, .done))
  else if k = key 0x2800 2 then some orderRelease
  else if k = key 0x2900 8 then some (orderReset path v.toNat)
  else none

/-- Entries per core: trim, the ring's restart, the host marker, the counters of an engine. -/
def coreBody (c : PCore) (j : Nat) (v : Word) : Option Body :=
  if j = 0x88 then some (writeTrim c v)
  else if j = 0xC5 then some (fun s => (s.putN (coreKey c 0xC4) 0, .done))
  else if j = 0xC8 then some (fun s => (s.ringEvent c 7 (s.domOfCore c) 0x13 v.toNat, .done))
  else if j < 0x70 ∧ j % 16 = 7 then
    some (fun s => (s.setCounters (7 * c.val + j / 16) Counters.zero, .done))
  else none

/-- A transfer channel's commands, for a requester on a path. -/
def channelBody (path : Path) (eid : Byte) (rank : Rank) (c : ChanNo) (j : Nat) (v : Word) : Option Body :=
  if j = 1 then some (openByWrite path eid rank c v)
  else if j = 5 then some (channelCommand path c v.toNat)
  else none

/-- What a write of the entry does, where the entry is a command. -/
def ownBody (path : Path) (eid : Byte) (rank : Rank) (k : Nat) (v : Word) : Option Body :=
  match chanOf k with
  | some c => channelBody path eid rank c (k % 256) v
  | none => match coreOfIndex (k / 256) with
    | some c => coreBody c (k % 256) v
    | none =>
      (timeBody path k v).or ((floorBody path k v).or ((checkBody path k v).or ((errorBody path k v).or
        ((serviceBody k v).or (watchBody path k v)))))

/-- What a write of the entry does. -/
def valueBody (path : Path) (eid : Byte) (rank : Rank) (drain : Bool) (k : Nat) (v : Word) : Body :=
  match ownBody path eid rank k v with
  | some body => body
  | none => fun s => match entryOf k with
    | some e => plainWrite path drain e k v false s
    | none => (s, .noObject)

/-- A write of a value on a path; entries of a channel that another path opened are busy (R358). -/
def State.writeAccess (s : State) (path : Path) (eid : Byte) (rank : Rank) (drain : Bool) (k : Nat) (v : Word) : State :=
  s.granted path k v false (fun s => if s.chanBusy path k then (s, .busy) else valueBody path eid rank drain k v s)

/-! ### The PCIe window (R352, R353) -/

/-- A write of bytes into a channel's data area on the window: 4 to 256 bytes, aligned to 4, within the area, which has no status
words. -/
def State.windowData (s : State) (k off : Nat) (b : Bytes) : State :=
  match chanOf k with
  | none => s
  | some c =>
    let at_ := 16 * (k % 256 - 0x40) + off
    if !s.pathServed .window || !s.dutyRuns 0 then s
    else if s.chanBusy .window k then s.countAccess .window
    else if k % 256 < 0x40 ∨ at_ % 4 ≠ 0 ∨ b.length % 4 ≠ 0 ∨ b.length < 4 ∨ 256 < b.length ∨ 3072 < at_ + b.length then s
    else (s.countAccess .window).setArea c at_ b

/-- The drain flag of a write that carries none of its own: object 0x1030.01 on the window, 1 on the steward path (R366). -/
def State.drainFlag (s : State) (path : Path) : Bool :=
  match path with
  | .window => s.get (key 0x1030 1) == 1
  | .steward => true
  | _ => false

/-- REGISTER_WRITE (R363): a write to an entry, its checks, and its application, staging or refusal. -/
def execRegisterWrite (path : Path) (index : BitVec 16) (sub : Byte) (written : Written) (s : State) :
    Host.Outcome State Fault Refusal :=
  let k := key index.toNat sub.toNat
  let s := s.begin
  match written with
  | .data off b => .next ((if path = .window then s.windowData k off b else s)).settleAll
  | .value v =>
    if (chanOf k).isSome ∧ 0x40 ≤ k % 256 ∧ path = .window then .next (s.windowData k 0 (le 8 v.toNat)).settleAll
    else .next (s.writeAccess path 0xFF 0 (s.drainFlag path) k v).settleAll

/-- Whether a window access of a size at an offset is well formed (R353). -/
def windowFits (offset size : Nat) (write : Bool) : Bool :=
  let i := offset / 4096
  let w := offset % 4096
  if 0x6000 ≤ i ∧ i ≤ 0x600F ∧ 0x400 ≤ w then
    decide (4 ≤ size) && decide (size ≤ 256) && w % 4 == 0 && size % 4 == 0 && decide (w + size ≤ 4096)
  else if write then size == 8 && w % 16 == 0
  else (size == 4 || size == 8 || size == 16) && offset % size == 0

/-- The 16 bytes of an entry in the window: value, then status word, from one instant (R352, R353). -/
def State.windowEntry (s : State) (k : Nat) : Bytes :=
  let (v, st) : Word × WSt := if s.chanBusy .window k then (0, .busy) else ((s.readValue k).1, (s.readValue k).2.1)
  le 8 v.toNat ++ le 8 (s.statusWord k st).toNat

/-- What a well-formed window read returns. -/
def State.windowBytes (s : State) (offset size : Nat) : Bytes :=
  let i := offset / 4096
  let w := offset % 4096
  match chanOf (key i 0) with
  | some c =>
    if 0x400 ≤ w then
      (if s.chanBusy .window (key i 0) || !s.dutyRuns 0 then List.replicate size 0 else ((s.area c).drop (w - 0x400)).take size)
    else ((s.windowEntry (key i (w / 16))).drop (w % 16)).take size
  | none => ((s.windowEntry (key i (w / 16))).drop (w % 16)).take size

/-- WINDOW_MALFORMED_ACCESS (R353): a malformed write is dropped, a malformed read completes with all ones; each raises
"dictionary frame error". A read of this shape that is not malformed is served; a write that is not carries no value here and
changes nothing. -/
def execWindowMalformedAccess (offset : BitVec 28) (size : Nat) (write : Bool) (s : State) :
    Host.Outcome State Fault Refusal :=
  let s := s.begin
  let o := offset.toNat
  if !s.pathServed .window then .next s
  else if windowFits o size write then
    .next (if write then s else (s.countAccess .window).send (.windowRead (s.windowBytes o size)))
  else
    let s := if write then s else s.send (.windowRead (List.replicate size 0xFF))
    .next (s.frameError .window 5 (o / 4096) (o % 4096 / 16) 0xFF 0xFFFF).settleAll

/-! ### Groups (R368) -/

/-- The key of an item. -/
def itemKey (t : GroupItem) : Nat := key t.index.toNat t.sub.toNat

/-- The entry of an item is of the class. -/
def itemIsOf (c : Cls) (t : GroupItem) : Bool :=
  match entryOf (itemKey t) with
  | some e => e.cls == c
  | none => false

/-- Position of the first item of class A or K, or that names a second domain. -/
def groupBreak : Option Nat → Nat → List GroupItem → Option Nat
  | _, _, [] => none
  | d, n, t :: l =>
    match entryOf (itemKey t) with
    | none => groupBreak d (n + 1) l
    | some e =>
      if e.cls = .a ∨ e.cls = .k then some n
      else match e.dom, d with
        | some a, some b => if a = b then groupBreak d (n + 1) l else some n
        | some a, none => groupBreak (some a) (n + 1) l
        | none, _ => groupBreak d (n + 1) l

/-- The item is one of the pair that R29 ties together, which is judged once the group stands. -/
def ratioItem (t : GroupItem) : Bool := itemKey t == key 0x2C00 5 || itemKey t == key 0x2C00 6

/-- Who sent a group, and how it applies: its drain flag, and whether the group waits for a drain. -/
structure GroupWay where
  path : Path
  eid : Byte
  rank : Rank
  drain : Bool
  quiet : Bool
  deriving DecidableEq, Repr

/-- A class B or X item of a group that waits for a drain: its rules are met, and its value waits. -/
def State.quietItem (s : State) (e : Entry) (t : GroupItem) : State × WEnd :=
  let k := itemKey t
  let v := e.rng.keepBits t.value
  match (if ratioItem t then none else s.ruleOf k v.toNat) with
  | some r => (s, r)
  | none => if !s.stageRoom k then (s, .busy) else ((s.stage k v s.activeDoms).afterWrite k v, .staged)

/-- One item, on the state that the items before it left. -/
def State.groupItem (s : State) (g : GroupWay) (t : GroupItem) : State × WEnd :=
  let k := itemKey t
  match s.writeCheck k t.value false with
  | some r => (s, r)
  | none =>
    if s.chanBusy g.path k then (s, .busy)
    else match ownBody g.path g.eid g.rank k t.value, entryOf k with
      | some body, _ => body s
      | none, none => (s, .noObject)
      | none, some e =>
        if g.quiet && (e.cls == .b || e.cls == .x) then s.quietItem e t
        else plainWrite g.path g.drain e k t.value (ratioItem t) s

/-- The write was accepted. -/
def WEnd.accepted : WEnd → Bool
  | .done => true
  | .progress => true
  | .staged => true
  | .draining => true
  | _ => false

/-- Every item in turn; the position and outcome of the first that is refused. -/
def runGroup (g : GroupWay) : Nat → List GroupItem → State → State × Option (Nat × WEnd)
  | _, [], s => (s, none)
  | n, t :: l, s =>
    let (u, r) := s.groupItem g t
    if r.accepted then runGroup g (n + 1) l (u.endGrant g.path (itemKey t) r) else (s, some (n, r))

/-- The values of a group that wait for its drain. -/
def quietValues (items : List GroupItem) : List (Nat × Word) :=
  (items.filter (fun t => itemIsOf .b t || itemIsOf .x t)).map (fun t =>
    (itemKey t, match entryOf (itemKey t) with | some e => e.rng.keepBits t.value | none => t.value))

/-- A group: validated whole on a copy, which stands when nothing is refused (R368). -/
def State.runItems (s : State) (g : GroupWay) (items : List GroupItem) : State × Option (Nat × WEnd) :=
  let no (n : Nat) (r : WEnd) : State × Option (Nat × WEnd) := (s, some (n, r))
  let firstX := items.findIdx (itemIsOf .x)
  if items.isEmpty ∨ 32 < items.length then no 0 (.refused 5)
  else match groupBreak none 0 items with
    | some n => no n (.refused 8)
    | none =>
      let quiet := items.any (itemIsOf .x) && !s.proofedDoms.isEmpty
      if quiet && !g.drain then no firstX .deferred
      else match runGroup { g with quiet := quiet } 0 items s with
        | (_, some x) => (s, some x)
        | (t, none) =>
          if items.any ratioItem && !ratioOk (t.nat (key 0x2C00 5)) (t.nat (key 0x2C00 6)) then
            no (items.findIdx ratioItem) (.refused 8)
          else if quiet then
            match t.beginDrain (quietValues items) g.path with
            | (u, .staged) => (u, none)
            | (_, r) => no firstX r
          else (t, none)

/-! ### The drain timeout (R367) -/

/-- DRAIN_TIMEOUT (R367): the write, or the whole group, is dropped. -/
def execDrainTimeout (s : State) : Host.Outcome State Fault Refusal :=
  let s := s.begin
  if !s.expired .drainTimeout then .next s
  else match s.drain with
    | none => .next (s.disarm .drainTimeout)
    | some w => .next ((s.expire .drainTimeout).dropDrain w).settleAll

end Sys2Proof.Machine
end

