-- ==== Sys2Proof/Machine/Messages.lean ====
section
/-! DEFINITION. The requests of the Aqrik dictionary protocol (15_object_dictionary.md, 'ADP over MCTP'): which are served (R346,
R347, R354, R357), what each does, and its response (R355, R356, R368). -/

namespace Sys2Proof.Machine

/-! ### Requests -/

/-- The entry that a request names. -/
def headKey (h : AdpHead) : Nat := key h.index.toNat h.sub.toNat

/-- The rank that a request on the steward path comes from. -/
def headRank (h : AdpHead) : Rank :=
  match h.env with
  | some e => e.src
  | none => 0

/-- The source endpoint ID, which the steward path does not have. -/
def headEid (h : AdpHead) : Byte := if h.path = .steward then 0xFF else h.eid

/-- Flag bits (ADP message, offset 0x07). -/
def headFlag (h : AdpHead) (n : Nat) : Bool := h.flags.getLsbD n

/-- ADP is served on the path: an MCTP endpoint without an ID answers control messages only (R354). -/
def State.adpServed (s : State) (path : Path) : Bool :=
  s.pathServed path && match path with
    | .window => false
    | .adpPcie => s.get (key 0x1000 0xA) != 0
    | .adpI3c => s.get (key 0x1000 0xB) != 0
    | .steward => true

/-- A request with its message tag in use is discarded (R354). -/
def State.tagInUse (s : State) (h : AdpHead) : Bool :=
  h.path != .steward && s.adp.any (fun w => w.path == h.path && w.msg == h.msg)

/-- A request arrives: on the steward path its envelope is checked (R357). -/
def State.adpIn (s : State) (h : AdpHead) (body : State → State) : State :=
  if !s.adpServed h.path then s
  else if h.path = .steward && !(match h.env with | some e => s.accepts e | none => false) then s.foreign
  else if s.tagInUse h then s.frameError h.path 4 h.index.toNat h.sub.toNat (headEid h) h.tag.toNat
  else body s

/-- A response (R356). -/
def State.reply (s : State) (h : AdpHead) (op st reason off : Nat) (data : Bytes) : State :=
  s.sendAdp h.path (headRank h) h.eid h.msg (adpMessage op h.tag h.index.toNat h.sub.toNat 2 st reason off data)

/-- A response that a request is not served. -/
def State.replyEnd (s : State) (h : AdpHead) (op : Nat) (r : WEnd) : State := s.reply h op r.st.code r.reason 0 []

/-- The response to a write: held while the wait flag is set and the write still acts or waits. -/
def State.replyWrite (s : State) (h : AdpHead) (op : Nat) (keys : List Nat) : State :=
  if headFlag h 2 && keys.any s.writeUnsettled then
    let w : AdpWait := { path := h.path, eid := h.eid, msg := h.msg, tag := h.tag, rank := headRank h,
                         op := BitVec.ofNat 8 op, keys := keys }
    ({ s with adp := s.adp ++ [w] } : State).arm w.timeout (ms 50)
  else s.writeResponse h.path (headRank h) h.eid h.msg h.tag op keys 0

/-! ### READ, WRITE, STATUS -/

/-- The value and the read status that a READ gets: what a channel's data area holds has no type to read (R359), and what another
path's channel holds is busy (R358). -/
def State.adpValue (s : State) (path : Path) (k : Nat) : Word × WSt :=
  let (v, st, _) := s.readValue k
  let raw : Bool := match entryOf k with | some e => e.ty == .raw | none => false
  if st = .completed ∧ raw then (0, .refused)
  else if st = .completed ∧ s.chanBusy path k then (0, .busy)
  else (v, st)

/-- Type code of an entry; none has code 0. -/
def typeCode (k : Nat) : Nat :=
  match entryOf k with
  | some e => e.ty.code
  | none => 0

/-- ADP_READ: the value, then the status word. -/
def execAdpRead (h : AdpHead) (s : State) : Host.Outcome State Fault Refusal :=
  .next (s.begin.adpIn h (fun s =>
    let s := s.countAccess h.path
    let (v, st) := s.adpValue h.path (headKey h)
    s.reply h 1 st.code (typeCode (headKey h)) 0 (le 8 v.toNat ++ le 8 (s.statusWord (headKey h) st).toNat))).settleAll

/-- ADP_WRITE: the status word. -/
def execAdpWrite (h : AdpHead) (value : Word) (s : State) : Host.Outcome State Fault Refusal :=
  .next (s.begin.adpIn h (fun s =>
    let drain := h.path == .steward || headFlag h 0
    (s.writeAccess h.path (headEid h) (headRank h) drain (headKey h) value).replyWrite h 2 [headKey h])).settleAll

/-- ADP_STATUS: the status word, without a read of the value; served while no core runs PC0's duties too (R347). -/
def execAdpStatus (h : AdpHead) (s : State) : Host.Outcome State Fault Refusal :=
  .next (s.begin.adpIn h (fun s =>
    let k := headKey h
    let s := s.countAccess h.path
    if s.romService && !romServed k then s.replyEnd h 3 (.refused 7)
    else
      let st : WSt := if (entryOf k).isSome then .completed else .noObject
      s.reply h 3 st.code 0 0 (le 8 (s.statusWord k st).toNat))).settleAll

/-! ### GROUP_WRITE (R368) -/

/-- ADP_GROUP_WRITE: an accepted group acts as its items' classes say; a refused one changes nothing but the refused item's status
word, and the response carries its position. -/
def execAdpGroupWrite (h : AdpHead) (items : List GroupItem) (s : State) : Host.Outcome State Fault Refusal :=
  .next (s.begin.adpIn h (fun s =>
    let s := s.countAccess h.path
    let g : GroupWay := { path := h.path, eid := headEid h, rank := headRank h,
                          drain := h.path == .steward || headFlag h 0, quiet := false }
    match s.runItems g items with
    | (t, none) => t.replyWrite h 5 (items.map itemKey)
    | (t, some (n, r)) =>
      match items[n]? with
      | none => t.reply h 5 r.st.code r.reason n []
      | some x =>
        let t := t.endGrant h.path (itemKey x) r
        t.reply h 5 r.st.code r.reason n (le 8 (t.statusWord (itemKey x) .completed).toNat))).settleAll

/-! ### Segmented transfers (R358 to R361) -/

/-- The lowest free channel. -/
def State.freeChannel (s : State) : Option ChanNo := (List.finRange 16).find? (fun c => (s.chan c).isNone)

/-- A channel claimed for a transfer of the named entry; or why not. -/
def State.claim (s : State) (h : AdpHead) (up : Bool) (total : Nat) : State × ChanNo × WEnd :=
  match s.openRefused (headKey h) up with
  | some r => (s, 0, r)
  | none => match s.freeChannel with
    | none => (s, 0, .busy)
    | some c => (s.openChan c h.path (headEid h) (headRank h) (headKey h) up total, c, .done)

/-- The lowest channel that holds this requester's transfer of the named entry. -/
def State.transferOf (s : State) (h : AdpHead) (up : Bool) : Option (ChanNo × Chan) :=
  (List.finRange 16).findSome? (fun c => match s.chan c with
    | some x => if x.path = h.path ∧ x.eid = headEid h ∧ x.rank = headRank h ∧ x.entry = headKey h ∧ x.upload = up
        then some (c, x) else none
    | none => none)

/-- A segment is moved only while a core runs PC0's duties, but for uploads of what hardware holds (R347). -/
def State.segmentBusy (s : State) (h : AdpHead) (up : Bool) : Bool := !s.dutyRuns 0 && !(up && inHardware (headKey h))

/-- ADP_UPLOAD_INIT: the total length and the channel. -/
def execAdpUploadInit (h : AdpHead) (s : State) : Host.Outcome State Fault Refusal :=
  .next (s.begin.adpIn h (fun s =>
    let (s, c, r) := (s.countAccess h.path).claim h true 0
    if r = .done then s.reply h 0x10 0 0 0 (le 4 (s.nat (chanKey c 3)) ++ le 4 c.val) else s.replyEnd h 0x10 r)).settleAll

/-- ADP_UPLOAD_SEGMENT: at most 1,024 bytes from the offset. -/
def execAdpUploadSegment (h : AdpHead) (offset : BitVec 32) (length : BitVec 16) (s : State) :
    Host.Outcome State Fault Refusal :=
  .next (s.begin.adpIn h (fun s =>
    let s := s.countAccess h.path
    if s.segmentBusy h true then s.replyEnd h 0x11 .busy
    else match s.transferOf h true with
      | none => s.replyEnd h 0x11 (.refused 10)
      | some (c, x) =>
        let s := s.segmentOp c
        let (b, r) := s.fetchSegment x offset.toNat (min 1024 length.toNat)
        s.reply h 0x11 r.st.code r.reason offset.toNat b)).settleAll

/-- ADP_DOWNLOAD_INIT: the channel. -/
def execAdpDownloadInit (h : AdpHead) (total : BitVec 32) (s : State) : Host.Outcome State Fault Refusal :=
  .next (s.begin.adpIn h (fun s =>
    let (s, c, r) := (s.countAccess h.path).claim h false total.toNat
    if r = .done then s.reply h 0x12 0 0 0 (le 4 c.val) else s.replyEnd h 0x12 r)).settleAll

/-- ADP_DOWNLOAD_SEGMENT. -/
def execAdpDownloadSegment (h : AdpHead) (offset : BitVec 32) (data : Bytes) (s : State) : Host.Outcome State Fault Refusal :=
  .next (s.begin.adpIn h (fun s =>
    let s := s.countAccess h.path
    if s.segmentBusy h false then s.replyEnd h 0x13 .busy
    else match s.transferOf h false with
      | none => s.replyEnd h 0x13 (.refused 10)
      | some (c, x) =>
        let (s, r) := storeSegment c x offset.toNat data (s.segmentOp c)
        s.reply h 0x13 r.st.code r.reason offset.toNat [])).settleAll

/-- ADP_DOWNLOAD_END: the status word of the write that results. -/
def execAdpDownloadEnd (h : AdpHead) (s : State) : Host.Outcome State Fault Refusal :=
  .next (s.begin.adpIn h (fun s =>
    let s := s.countAccess h.path
    if s.segmentBusy h false then s.replyEnd h 0x14 .busy
    else match s.transferOf h false with
      | none => s.replyEnd h 0x14 (.refused 10)
      | some (c, x) =>
        let (s, r, wrote) := (s.segmentOp c).endDownload h.path c x
        if wrote then s.replyWrite h 0x14 [headKey h] else s.replyEnd h 0x14 r)).settleAll

/-- ADP_ABORT: the transfer that the named channel holds, in either direction. -/
def execAdpAbort (h : AdpHead) (channel : Byte) (s : State) : Host.Outcome State Fault Refusal :=
  .next (s.begin.adpIn h (fun s =>
    let s := s.countAccess h.path
    if !s.dutyRuns 0 then s.replyEnd h 0x1F .busy
    else if hc : channel.toNat < 16 then
      let (s, r) := abortCommand h.path ⟨channel.toNat, hc⟩ s
      s.replyEnd h 0x1F r
    else s.replyEnd h 0x1F (.refused 1))).settleAll

/-! ### Malformed messages and held responses (R354, R356) -/

/-- Opcodes of ADP. -/
def adpOpcodes : List Nat := [1, 2, 3, 5, 0x10, 0x11, 0x12, 0x13, 0x14, 0x1F]

/-- Kind of the frame error of a message from its version byte on, if it is one: its CRC, version and length. -/
def messageFault (raw : Bytes) : Option Nat :=
  let n := raw.length
  if n < 20 then some 3
  else if fieldAt raw (n - 4) 4 ≠ crc32c (raw.take (n - 4)) then some 1
  else if fieldAt raw 0 1 ≠ 1 then some 2
  else if fieldAt raw 0xA 2 + 20 ≠ n then some 3
  else none

/-- ADP_MALFORMED_MESSAGE: discarded without a response, and raised. Nothing that a message with a bad CRC says is known. One with
an unknown opcode alone is answered with reason 5; one that is not malformed carries no request here and changes nothing. -/
def execAdpMalformedMessage (path : Path) (eid : Byte) (assembled : Bool) (raw : Bytes) (s : State) :
    Host.Outcome State Fault Refusal :=
  let s := s.begin
  let id : Byte := if path = .steward then 0xFF else eid
  if !s.adpServed path then .next s
  else if !assembled then .next (s.frameError path 4 0xFFFF 0 id 0xFFFF).settleAll
  else match messageFault raw with
    | some 2 => .next (s.frameError path 2 (fieldAt raw 4 2) (fieldAt raw 6 1) id (fieldAt raw 2 2)).settleAll
    | some kind => .next (s.frameError path kind 0xFFFF 0 id 0xFFFF).settleAll
    | none =>
      if fieldAt raw 1 1 ∈ adpOpcodes then .next s
      else .next (s.sendAdp path 0 eid 0 (adpMessage (fieldAt raw 1 1) (BitVec.ofNat 16 (fieldAt raw 2 2)) (fieldAt raw 4 2)
        (fieldAt raw 6 1) 2 WSt.refused.code 5 0 [])).settleAll

/-- ADP_WAIT_TIMEOUT (R356): the held response is sent with the status as it stands. -/
def execAdpWaitTimeout (path : Path) (msg : Fin 8) (tag : BitVec 16) (rank : Rank) (s : State) :
    Host.Outcome State Fault Refusal :=
  let s := s.begin
  if !s.expired (.adpWaitTimeout path msg tag rank) then .next s
  else match s.adp.find? (fun w => w.timeout == .adpWaitTimeout path msg tag rank) with
    | none => .next (s.disarm (.adpWaitTimeout path msg tag rank))
    | some w => .next (s.answerWait w)

end Sys2Proof.Machine
end

