-- ==== Sys2Proof/Machine/Dispatch.lean ====
section
/-! DEFINITION. One arm per command; each arm is one direct call of that command's meaning. -/

namespace Sys2Proof.Machine

def exec (i : Instr) (s : State) : Host.Outcome State Fault Refusal :=
  match i with
  | .pcHeartbeat pc => Sys2Proof.Machine.execPcHeartbeat pc s
  | .pcSilent pc => Sys2Proof.Machine.execPcSilent pc s
  | .pcReady pc => Sys2Proof.Machine.execPcReady pc s
  | .probeEvent core unit edges ev => Sys2Proof.Machine.execProbeEvent core unit edges ev s
  | .tileCheck w t => Sys2Proof.Machine.execTileCheck w t s
  | .vectorOpCheck w v => Sys2Proof.Machine.execVectorOpCheck w v s
  | .rescaleRecord w row block mBefore mAfter alpha => Sys2Proof.Machine.execRescaleRecord w row block mBefore mAfter alpha s
  | .transferCheck w t => Sys2Proof.Machine.execTransferCheck w t s
  | .checkTimeout w => Sys2Proof.Machine.execCheckTimeout w s
  | .suspectSweep => Sys2Proof.Machine.execSuspectSweep s
  | .stepBoundary d cycles disturbed => Sys2Proof.Machine.execStepBoundary d cycles disturbed s
  | .proofResult d k step rank colophon units => Sys2Proof.Machine.execProofResult d k step rank colophon units s
  | .proofTimeout d k proof => Sys2Proof.Machine.execProofTimeout d k proof s
  | .proofNotProofable d k step rank => Sys2Proof.Machine.execProofNotProofable d k step rank s
  | .reviseResult d k step result => Sys2Proof.Machine.execReviseResult d k step result s
  | .ledgerWalkDone d => Sys2Proof.Machine.execLedgerWalkDone d s
  | .rearmOnCauseGone d => Sys2Proof.Machine.execRearmOnCauseGone d s
  | .domainActivate path d => Sys2Proof.Machine.execDomainActivate path d s
  | .domainClose path d => Sys2Proof.Machine.execDomainClose path d s
  | .startArm path t => Sys2Proof.Machine.execStartArm path t s
  | .startTimeReached t => Sys2Proof.Machine.execStartTimeReached t s
  | .startCancel path => Sys2Proof.Machine.execStartCancel path s
  | .stewardHeartbeatSend => Sys2Proof.Machine.execStewardHeartbeatSend s
  | .stewardHeartbeat env => Sys2Proof.Machine.execStewardHeartbeat env s
  | .stewardTimeout => Sys2Proof.Machine.execStewardTimeout s
  | .imageVerified source => Sys2Proof.Machine.execImageVerified source s
  | .activateWhenIdle path => Sys2Proof.Machine.execActivateWhenIdle path s
  | .drainAndActivate path => Sys2Proof.Machine.execDrainAndActivate path s
  | .imageActivationDone => Sys2Proof.Machine.execImageActivationDone s
  | .loadAtPulse path value => Sys2Proof.Machine.execLoadAtPulse path value s
  | .tpulseEdge within => Sys2Proof.Machine.execTpulseEdge within s
  | .tpulseWatchTimeout => Sys2Proof.Machine.execTpulseWatchTimeout s
  | .beaconPeriod => Sys2Proof.Machine.execBeaconPeriod s
  | .beaconExchange t1 t2 t3 t4 residence => Sys2Proof.Machine.execBeaconExchange t1 t2 t3 t4 residence s
  | .beaconLossHoldover => Sys2Proof.Machine.execBeaconLossHoldover s
  | .refclkLoss => Sys2Proof.Machine.execRefclkLoss s
  | .backupChangeover => Sys2Proof.Machine.execBackupChangeover s
  | .refclkReturn => Sys2Proof.Machine.execRefclkReturn s
  | .clockResumed core lastEdge reason => Sys2Proof.Machine.execClockResumed core lastEdge reason s
  | .workerStepReport env d step proven colophon => Sys2Proof.Machine.execWorkerStepReport env d step proven colophon s
  | .jobGalleyClear env d step proven => Sys2Proof.Machine.execJobGalleyClear env d step proven s
  | .failureReport env d kind => Sys2Proof.Machine.execFailureReport env d kind s
  | .remoteTaint env d step => Sys2Proof.Machine.execRemoteTaint env d step s
  | .stewardRollbackOrder env d target incarnation => Sys2Proof.Machine.execStewardRollbackOrder env d target incarnation s
  | .startStatusReport env status => Sys2Proof.Machine.execStartStatusReport env status s
  | .startReportDeadline => Sys2Proof.Machine.execStartReportDeadline s
  | .stepDiscardOrder env d => Sys2Proof.Machine.execStepDiscardOrder env d s
  | .crossChipProofRequest env d k step index => Sys2Proof.Machine.execCrossChipProofRequest env d k step index s
  | .linkPortFailure p packets => Sys2Proof.Machine.execLinkPortFailure p packets s
  | .linkLossReport env d abandoned p => Sys2Proof.Machine.execLinkLossReport env d abandoned p s
  | .routeGenerationWrite path value => Sys2Proof.Machine.execRouteGenerationWrite path value s
  | .sparingCompleteReport env d => Sys2Proof.Machine.execSparingCompleteReport env d s
  | .rankReplaced path rank => Sys2Proof.Machine.execRankReplaced path rank s
  | .faultFrame env => Sys2Proof.Machine.execFaultFrame env s
  | .kvPageWrite d k step page a => Sys2Proof.Machine.execKvPageWrite d k step page a s
  | .kvSpill d core page data tokens marked => Sys2Proof.Machine.execKvSpill d core page data tokens marked s
  | .kvFill d core offset page units tokens data tag => Sys2Proof.Machine.execKvFill d core offset page units tokens data tag s
  | .specimenInterval => Sys2Proof.Machine.execSpecimenInterval s
  | .specimenRunDone core run results => Sys2Proof.Machine.execSpecimenRunDone core run results s
  | .specimenTimeout core unfinished => Sys2Proof.Machine.execSpecimenTimeout core unfinished s
  | .specimenRetest core => Sys2Proof.Machine.execSpecimenRetest core s
  | .crosscoreInterval => Sys2Proof.Machine.execCrosscoreInterval s
  | .crosscoreRunDone core run digests => Sys2Proof.Machine.execCrosscoreRunDone core run digests s
  | .crosscoreTimeout core run => Sys2Proof.Machine.execCrosscoreTimeout core run s
  | .marginProbeStart core => Sys2Proof.Machine.execMarginProbeStart core s
  | .regulatorSettled core => Sys2Proof.Machine.execRegulatorSettled core s
  | .settleTimeout core => Sys2Proof.Machine.execSettleTimeout core s
  | .dwellDone core temperature clock => Sys2Proof.Machine.execDwellDone core temperature clock s
  | .mapEntryAged core => Sys2Proof.Machine.execMapEntryAged core s
  | .reprobeInterval => Sys2Proof.Machine.execReprobeInterval s
  | .trimWrite path core value => Sys2Proof.Machine.execTrimWrite path core value s
  | .supervisorSample samples => Sys2Proof.Machine.execSupervisorSample samples s
  | .budgetWindowEnd jobCycles allCycles proofTime screenTime => Sys2Proof.Machine.execBudgetWindowEnd jobCycles allCycles proofTime screenTime s
  | .correctedErrorReport core word symbol scan newer => Sys2Proof.Machine.execCorrectedErrorReport core word symbol scan newer s
  | .ceReportDequeue core => Sys2Proof.Machine.execCeReportDequeue core s
  | .uncorrectableError core word by_ requester => Sys2Proof.Machine.execUncorrectableError core word by_ requester s
  | .poisonConsumed w cause source => Sys2Proof.Machine.execPoisonConsumed w cause source s
  | .poisonEndJob path d => Sys2Proof.Machine.execPoisonEndJob path d s
  | .poisonRollbackResume path d => Sys2Proof.Machine.execPoisonRollbackResume path d s
  | .hardwareFillDone core => Sys2Proof.Machine.execHardwareFillDone core s
  | .scanStart path m => Sys2Proof.Machine.execScanStart path m s
  | .scanPause path m => Sys2Proof.Machine.execScanPause path m s
  | .scanResume path m => Sys2Proof.Machine.execScanResume path m s
  | .scanAbort path m => Sys2Proof.Machine.execScanAbort path m s
  | .scanPassDone m crc poison => Sys2Proof.Machine.execScanPassDone m crc poison s
  | .digestPeriod r => Sys2Proof.Machine.execDigestPeriod r s
  | .digestStale r => Sys2Proof.Machine.execDigestStale r s
  | .digestRecordWrite path r content => Sys2Proof.Machine.execDigestRecordWrite path r content s
  | .fenceOrder path value => Sys2Proof.Machine.execFenceOrder path value s
  | .unfence path value => Sys2Proof.Machine.execUnfence path value s
  | .refillEntryDone d bytes => Sys2Proof.Machine.execRefillEntryDone d bytes s
  | .refillTimeout d => Sys2Proof.Machine.execRefillTimeout d s
  | .hostRefillDone path value => Sys2Proof.Machine.execHostRefillDone path value s
  | .hostRefillTimeout d => Sys2Proof.Machine.execHostRefillTimeout d s
  | .sparingRepeatRefill path d => Sys2Proof.Machine.execSparingRepeatRefill path d s
  | .sparingEndJob path d => Sys2Proof.Machine.execSparingEndJob path d s
  | .atticRelease path value => Sys2Proof.Machine.execAtticRelease path value s
  | .regenRequest path value => Sys2Proof.Machine.execRegenRequest path value s
  | .regenRunDone core units exceeded => Sys2Proof.Machine.execRegenRunDone core units exceeded s
  | .regenTimeout => Sys2Proof.Machine.execRegenTimeout s
  | .regenRelease path => Sys2Proof.Machine.execRegenRelease path s
  | .compareTimeout step => Sys2Proof.Machine.execCompareTimeout step s
  | .narrowingFetchResponse env fetch => Sys2Proof.Machine.execNarrowingFetchResponse env fetch s
  | .workDigestReport env digests => Sys2Proof.Machine.execWorkDigestReport env digests s
  | .divergenceRestartPair path => Sys2Proof.Machine.execDivergenceRestartPair path s
  | .divergenceEndJob path => Sys2Proof.Machine.execDivergenceEndJob path s
  | .stickyClear path source word value => Sys2Proof.Machine.execStickyClear path source word value s
  | .maskWrite path source word value => Sys2Proof.Machine.execMaskWrite path source word value s
  | .forceWrite path source word value => Sys2Proof.Machine.execForceWrite path source word value s
  | .handlingStart => Sys2Proof.Machine.execHandlingStart s
  | .errorRecordCommit bad => Sys2Proof.Machine.execErrorRecordCommit bad s
  | .handlingTimeout => Sys2Proof.Machine.execHandlingTimeout s
  | .errPulseEnd => Sys2Proof.Machine.execErrPulseEnd s
  | .holdRelease path => Sys2Proof.Machine.execHoldRelease path s
  | .msixVectorUnmask vector => Sys2Proof.Machine.execMsixVectorUnmask vector s
  | .ibiBusFree acknowledged => Sys2Proof.Machine.execIbiBusFree acknowledged s
  | .powerCycleDelay => Sys2Proof.Machine.execPowerCycleDelay s
  | .powerCycleNow path => Sys2Proof.Machine.execPowerCycleNow path s
  | .powerUp => Sys2Proof.Machine.execPowerUp s
  | .porstRelease reference => Sys2Proof.Machine.execPorstRelease reference s
  | .porstAssert ns => Sys2Proof.Machine.execPorstAssert ns s
  | .cellarConfigReadDone readable failedPcs => Sys2Proof.Machine.execCellarConfigReadDone readable failedPcs s
  | .fuseReadDone fuses => Sys2Proof.Machine.execFuseReadDone fuses s
  | .fillTimeout core => Sys2Proof.Machine.execFillTimeout core s
  | .memoryTrainingDone n trained => Sys2Proof.Machine.execMemoryTrainingDone n trained s
  | .memoryTrainingTimeout n => Sys2Proof.Machine.execMemoryTrainingTimeout n s
  | .linkTrainingDone p lanes failures reach time_us => Sys2Proof.Machine.execLinkTrainingDone p lanes failures reach time_us s
  | .linkTrainingTimeout p => Sys2Proof.Machine.execLinkTrainingTimeout p s
  | .selftestDone u r => Sys2Proof.Machine.execSelftestDone u r s
  | .specimenStageTimeout => Sys2Proof.Machine.execSpecimenStageTimeout s
  | .identityRequest p => Sys2Proof.Machine.execIdentityRequest p s
  | .identityAnswer p answer => Sys2Proof.Machine.execIdentityAnswer p answer s
  | .identityTimeout p => Sys2Proof.Machine.execIdentityTimeout p s
  | .identityRecheckTimer => Sys2Proof.Machine.execIdentityRecheckTimer s
  | .timeLockTimeout => Sys2Proof.Machine.execTimeLockTimeout s
  | .bringupContinue path => Sys2Proof.Machine.execBringupContinue path s
  | .recheck path => Sys2Proof.Machine.execRecheck path s
  | .planAccept path p => Sys2Proof.Machine.execPlanAccept path p s
  | .selftestRequest path value => Sys2Proof.Machine.execSelftestRequest path value s
  | .selftestTimeout u => Sys2Proof.Machine.execSelftestTimeout u s
  | .selftestAbort path value => Sys2Proof.Machine.execSelftestAbort path value s
  | .stackRequest path value => Sys2Proof.Machine.execStackRequest path value s
  | .keyClear path => Sys2Proof.Machine.execKeyClear path s
  | .keyClearDone allZero => Sys2Proof.Machine.execKeyClearDone allZero s
  | .freezeNow path => Sys2Proof.Machine.execFreezeNow path s
  | .timedFreeze => Sys2Proof.Machine.execTimedFreeze s
  | .freezePinLow ns => Sys2Proof.Machine.execFreezePinLow ns s
  | .freezeFrame env at_ => Sys2Proof.Machine.execFreezeFrame env at_ s
  | .releaseNow path => Sys2Proof.Machine.execReleaseNow path s
  | .timedRelease => Sys2Proof.Machine.execTimedRelease s
  | .freezeReleaseTimeout => Sys2Proof.Machine.execFreezeReleaseTimeout s
  | .pauseIndicationPeriod => Sys2Proof.Machine.execPauseIndicationPeriod s
  | .pauseIndicationReceived p => Sys2Proof.Machine.execPauseIndicationReceived p s
  | .pauseLimitTimeout p packets => Sys2Proof.Machine.execPauseLimitTimeout p packets s
  | .freezeDumpDone => Sys2Proof.Machine.execFreezeDumpDone s
  | .coreScanRead path core image => Sys2Proof.Machine.execCoreScanRead path core image s
  | .ringRestart path core => Sys2Proof.Machine.execRingRestart path core s
  | .hostMarker path core value => Sys2Proof.Machine.execHostMarker path core value s
  | .syncWaitEnd d w => Sys2Proof.Machine.execSyncWaitEnd d w s
  | .countersClear path core engine => Sys2Proof.Machine.execCountersClear path core engine s
  | .clearAllCounters path => Sys2Proof.Machine.execClearAllCounters path s
  | .breakpointMatch pc event filter d => Sys2Proof.Machine.execBreakpointMatch pc event filter d s
  | .breakpointDrained => Sys2Proof.Machine.execBreakpointDrained s
  | .breakpointDrainTimeout => Sys2Proof.Machine.execBreakpointDrainTimeout s
  | .bpResume path => Sys2Proof.Machine.execBpResume path s
  | .bpHaltTimeout => Sys2Proof.Machine.execBpHaltTimeout s
  | .contextResetRollback path d => Sys2Proof.Machine.execContextResetRollback path d s
  | .contextResetEnd path d => Sys2Proof.Machine.execContextResetEnd path d s
  | .engineReset path mode unit => Sys2Proof.Machine.execEngineReset path mode unit s
  | .partitionReset path unit => Sys2Proof.Machine.execPartitionReset path unit s
  | .chipReset path => Sys2Proof.Machine.execChipReset path s
  | .powerCycleOrder path => Sys2Proof.Machine.execPowerCycleOrder path s
  | .contextDrained d => Sys2Proof.Machine.execContextDrained d s
  | .engineResetDone core engine => Sys2Proof.Machine.execEngineResetDone core engine s
  | .partitionResetDone n => Sys2Proof.Machine.execPartitionResetDone n s
  | .chipResetSequenceDone => Sys2Proof.Machine.execChipResetSequenceDone s
  | .resetTimeout r => Sys2Proof.Machine.execResetTimeout r s
  | .captureTimeout core => Sys2Proof.Machine.execCaptureTimeout core s
  | .dumpWritten bad => Sys2Proof.Machine.execDumpWritten bad s
  | .dumpBudgetTimeout => Sys2Proof.Machine.execDumpBudgetTimeout s
  | .lateWriteDropped slice writer rank tag word => Sys2Proof.Machine.execLateWriteDropped slice writer rank tag word s
  | .latePacketDiscarded p rank tag sequence step => Sys2Proof.Machine.execLatePacketDiscarded p rank tag sequence step s
  | .cellarPatrol damaged => Sys2Proof.Machine.execCellarPatrol damaged s
  | .cellarErase path => Sys2Proof.Machine.execCellarErase path s
  | .registerWrite path index sub written => Sys2Proof.Machine.execRegisterWrite path index sub written s
  | .windowMalformedAccess offset size write => Sys2Proof.Machine.execWindowMalformedAccess offset size write s
  | .adpRead h => Sys2Proof.Machine.execAdpRead h s
  | .adpWrite h value => Sys2Proof.Machine.execAdpWrite h value s
  | .adpStatus h => Sys2Proof.Machine.execAdpStatus h s
  | .adpGroupWrite h items => Sys2Proof.Machine.execAdpGroupWrite h items s
  | .adpUploadInit h => Sys2Proof.Machine.execAdpUploadInit h s
  | .adpUploadSegment h offset length => Sys2Proof.Machine.execAdpUploadSegment h offset length s
  | .adpDownloadInit h total => Sys2Proof.Machine.execAdpDownloadInit h total s
  | .adpDownloadSegment h offset data => Sys2Proof.Machine.execAdpDownloadSegment h offset data s
  | .adpDownloadEnd h => Sys2Proof.Machine.execAdpDownloadEnd h s
  | .adpAbort h channel => Sys2Proof.Machine.execAdpAbort h channel s
  | .adpMalformedMessage path eid assembled raw => Sys2Proof.Machine.execAdpMalformedMessage path eid assembled raw s
  | .adpWaitTimeout path msg tag rank => Sys2Proof.Machine.execAdpWaitTimeout path msg tag rank s
  | .chOpen c value => Sys2Proof.Machine.execChOpen c value s
  | .chFetch c => Sys2Proof.Machine.execChFetch c s
  | .chStore c => Sys2Proof.Machine.execChStore c s
  | .chEndDownload c => Sys2Proof.Machine.execChEndDownload c s
  | .chAbort c => Sys2Proof.Machine.execChAbort c s
  | .channelIdleTimeout c => Sys2Proof.Machine.execChannelIdleTimeout c s
  | .drainTimeout => Sys2Proof.Machine.execDrainTimeout s
  | .setEndpointId b eid => Sys2Proof.Machine.execSetEndpointId b eid s
  | .getEndpointId b => Sys2Proof.Machine.execGetEndpointId b s
  | .getEndpointUuid b => Sys2Proof.Machine.execGetEndpointUuid b s
  | .getMctpVersionSupport b type_ => Sys2Proof.Machine.execGetMctpVersionSupport b type_ s
  | .getMessageTypeSupport b => Sys2Proof.Machine.execGetMessageTypeSupport b s
  | .getVendorDefinedMessageSupport b selector => Sys2Proof.Machine.execGetVendorDefinedMessageSupport b selector s
  | .entdaa address => Sys2Proof.Machine.execEntdaa address s
  | .setnewda address => Sys2Proof.Machine.execSetnewda address s
  | .rstdaa => Sys2Proof.Machine.execRstdaa s
  | .getpid => Sys2Proof.Machine.execGetpid s
  | .getbcr => Sys2Proof.Machine.execGetbcr s
  | .getdcr => Sys2Proof.Machine.execGetdcr s
  | .getstatus => Sys2Proof.Machine.execGetstatus s
  | .getmrl => Sys2Proof.Machine.execGetmrl s
  | .getmwl => Sys2Proof.Machine.execGetmwl s
  | .setmrl length => Sys2Proof.Machine.execSetmrl length s
  | .setmwl length => Sys2Proof.Machine.execSetmwl length s
  | .enec => Sys2Proof.Machine.execEnec s
  | .disec => Sys2Proof.Machine.execDisec s
  | .lcTransition path value => Sys2Proof.Machine.execLcTransition path value s
  | .lcFusesProgrammed => Sys2Proof.Machine.execLcFusesProgrammed s
  | .supplyExcursion extreme_mV above ns => Sys2Proof.Machine.execSupplyExcursion extreme_mV above ns s
  | .brownOut => Sys2Proof.Machine.execBrownOut s
  | .brownOutEnd => Sys2Proof.Machine.execBrownOutEnd s
  | .powerLoss tornEntry => Sys2Proof.Machine.execPowerLoss tornEntry s
  | .reservedRangeRefusal slice => Sys2Proof.Machine.execReservedRangeRefusal slice s
  | .fillRefusal slice => Sys2Proof.Machine.execFillRefusal slice s
  | .mapTemperatureStale core average => Sys2Proof.Machine.execMapTemperatureStale core average s
  | .beaconAtTimeRoot worker t1 => Sys2Proof.Machine.execBeaconAtTimeRoot worker t1 s
  | .stewardHoldOrder env d divergence => Sys2Proof.Machine.execStewardHoldOrder env d divergence s
  | .crossChipProofIssue env d k step place => Sys2Proof.Machine.execCrossChipProofIssue env d k step place s
  | .freezeReport env frozen => Sys2Proof.Machine.execFreezeReport env frozen s

end Sys2Proof.Machine
end

