-- ==== Sys2Proof/Safety.lean ====
section
/-! DEFINITION. What counts as a safe run, in the terms that claims use: the canonical form of the sparse tables and the sizes
of the arrays, which every step keeps; what it takes for a write to be taken (R346 to R351); a chip at rest. -/

namespace Sys2Proof.Machine

/-- A sparse table in its one form: keys rise strictly, and no listed entry holds the default of its key. -/
def tabCanon {α : Type} [DecidableEq α] (d : Nat → α) (l : Tab α) : Bool :=
  tabSorted l && l.all (fun e => decide (e.2 ≠ d e.1))

/-- Equal machines are equal data: the dictionary's values, contents and status words, channels and their data areas, probes,
slices, digest standings and counts are canonical, and the chip has its 8 domains and 4 Proofreader cores. -/
structure State.Canon (s : State) : Prop where
  dict : tabCanon dfltOf s.dict = true
  cont : tabCanon dfltContent s.cont = true
  stat : tabCanon (fun _ => Stat.none) s.stat = true
  chans : tabCanon (fun _ => none) s.chans = true
  data : tabCanon (fun _ => dataClear) s.data = true
  probes : tabCanon (fun _ => Probe.fresh) s.probes = true
  slices : tabCanon (fun _ => Slice.fresh) s.slices = true
  digests : tabCanon (fun _ => Digest.fresh) s.digests = true
  fenceCounts : tabCanon (fun _ => 0) s.fenceCounts = true
  deferred : tabCanon (fun _ => 0) s.deferred = true
  nearSecs : tabCanon (fun _ => 0) s.nearSecs = true
  doms : s.doms.length = 8
  pcs : s.pcs.length = 4

/-- The state in which a request is served: what the command before sent is gone, and the access is counted on its path (R346; objects
0x1030.07 to .0A). -/
def State.counted (s : State) (path : Path) : State := s.begin.countAccess path

/-- The same for a write of the entry k, which its arbiter has granted (R22, R24). -/
def State.taking (s : State) (path : Path) (k : Nat) : State :=
  (s.begin.grant (writeArbiter k) s.now 0).2.countAccess path

/-- A write to the entry k is taken: its path is served, and none of the checks that every write meets ends it
(R347 to R349, R239, R7, R365). -/
def State.Takes (s : State) (path : Path) (k : Nat) (v : Word) (content : Bool) : Prop :=
  s.pathServed path = true ∧ (s.taking path k).writeCheck k v content = none

/-- The end of a granted write: its status word (R351), then what follows from the write by itself. -/
def State.taken (s : State) (path : Path) (k : Nat) (e : WEnd) : State := (s.endGrant path k e).settleAll

/-- A frame of the steward path that the chip takes in the role it needs (R27). -/
def State.TakesFrame (s : State) (env : Env) (role : Nat) : Prop := s.accepts env = true ∧ s.role = role

/-- The same, of a frame that names the domain of the job. -/
def State.TakesFor (s : State) (env : Env) (role : Nat) (d : Dom) : Prop :=
  s.TakesFrame env role ∧ s.jobDom = some d ∧ (s.dom d).active = true

/-- A request of the debug protocol that is taken: its path serves it, a frame of the steward path is one of the job, and no
request with the same tag is in progress (R352 to R356). -/
def State.TakesRequest (s : State) (h : AdpHead) : Prop :=
  s.adpServed h.path = true ∧
    (h.path = .steward → (match h.env with | some e => s.accepts e | none => false) = true) ∧ s.tagInUse h = false

/-- Nothing runs by itself on the chip: no domain is active, the chip has no role and follows no beacon, nothing is narrowed, no write
drains, no core screens, no image waits, no freeze is on, and the bring-up has not ended in a fault. -/
structure State.Resting (s : State) : Prop where
  idle : ∀ d : Dom, (s.dom d).active = false
  role : s.role = 0
  lost : s.get (key 0x2C00 7) = 0
  beacon : s.beaconMode = false
  beats : ∀ t ∈ s.timers, t.cmd ≠ .stewardHeartbeatSend ∧ t.cmd ≠ .stewardTimeout ∧ t.cmd ≠ .beaconPeriod ∧
    t.cmd ≠ .beaconLossHoldover
  narrow : s.job.narrow = none
  narrowLost : s.job.narrowLost = none
  healthy : s.faulted = false
  runs : s.runs = []
  drain : s.drain = none
  image : s.img.waitIdle = false
  whole : ∀ d : Dom, s.sparingState d ≠ 6
  moves : s.idleMoves = []
  thawed : s.frz.on = false

/-- Every entry of the dictionary but those listed reads as before. -/
def State.KeepsBut (s t : State) (l : List Nat) : Prop := ∀ k, k ∉ l → t.get k = s.get k

/-- The counter k advances by one, unless it stood at the end of its type's range (log entry 4). -/
def State.Counts (s t : State) (k : Nat) : Prop := s.nat k + 1 < 2 ^ widthOf k → t.nat k = s.nat k + 1

/-! ### Commands that reach what the others leave alone -/

/-- The commands after which a cold start may begin (R242, R381): global time starts again. -/
def startsCold : Instr → Bool
  | .porstRelease _ | .brownOutEnd => true
  | _ => false

/-- The commands that may set or step global time: a load, a pulse, a beacon, the reference's return (R37 to R41, R246), and a write on a
path, which may be a load. -/
def movesTime : Instr → Bool
  | .loadAtPulse .. | .tpulseEdge _ | .beaconExchange .. | .refclkReturn | .registerWrite .. | .adpWrite .. | .adpGroupWrite .. => true
  | c => startsCold c

/-- The commands that switch the supplies and PHY_PORST_N. -/
def switchesPower : Instr → Bool
  | .powerUp | .powerLoss _ | .porstAssert _ | .brownOut => true
  | c => startsCold c

/-- The commands after which the units may be re-initialized at once (R242, R322): the supplies, and what can be the last that a chip reset
waits for. -/
def reinitializes : Instr → Bool
  | .powerLoss _ | .porstAssert _ | .brownOut | .dumpWritten _ | .dumpBudgetTimeout | .releaseNow _ | .timedRelease
  | .registerWrite .. | .adpWrite .. | .adpGroupWrite .. => true
  | _ => false

/-- The commands that open, move and close transfers (R358 to R361), and the responses that wait on them. -/
def movesTransfers : Instr → Bool
  | .adpAbort .. | .adpDownloadEnd .. | .adpDownloadInit .. | .adpDownloadSegment .. | .adpUploadInit .. | .chAbort _
  | .chEndDownload _ | .chOpen .. | .chStore _ | .chFetch _ | .channelIdleTimeout _ | .adpWaitTimeout .. => true
  | c => reinitializes c

/-- The commands on the key store, the life cycle and the token of R370. -/
def touchesKeys : Instr → Bool
  | .keyClear _ | .keyClearDone _ | .lcTransition .. | .lcFusesProgrammed | .adpDownloadEnd .. | .chEndDownload _ => true
  | c => reinitializes c || startsCold c

/-- The commands that may drive or release PHY_PWRCYC_N (R240, R380). -/
def cyclesPower : Instr → Bool
  | .powerCycleDelay | .powerCycleNow _ => true
  | c => reinitializes c

/-- The timeout that a command is the expiry of, as it was armed (`timerOf`); none for a command that is no expiry. -/
def timeoutOf (c : Instr) : Option Instr :=
  match c with
  | .specimenTimeout _ _ | .supervisorSample _ | .budgetWindowEnd _ _ _ _ | .pauseLimitTimeout _ _ | .cellarPatrol _
  | .pcSilent _ | .checkTimeout _ | .suspectSweep | .proofTimeout _ _ _ | .startTimeReached _ | .stewardHeartbeatSend
  | .stewardTimeout | .tpulseWatchTimeout | .beaconPeriod | .beaconLossHoldover | .startReportDeadline | .specimenInterval
  | .specimenRetest _ | .crosscoreInterval | .crosscoreTimeout _ _ | .settleTimeout _ | .mapEntryAged _ | .reprobeInterval
  | .digestPeriod _ | .digestStale _ | .refillTimeout _ | .hostRefillTimeout _ | .regenTimeout | .compareTimeout _
  | .handlingTimeout | .errPulseEnd | .powerCycleDelay | .fillTimeout _ | .memoryTrainingTimeout _ | .linkTrainingTimeout _
  | .specimenStageTimeout | .identityTimeout _ | .identityRecheckTimer | .timeLockTimeout | .selftestTimeout _
  | .timedFreeze | .timedRelease | .freezeReleaseTimeout | .pauseIndicationPeriod | .breakpointDrainTimeout | .bpHaltTimeout
  | .resetTimeout _ | .captureTimeout _ | .dumpBudgetTimeout | .adpWaitTimeout _ _ _ _ | .channelIdleTimeout _
  | .drainTimeout => some (timerOf c)
  | _ => none

end Sys2Proof.Machine
end

