-- ==== Sys2Proof/Certificates/Slice0/Obligations.lean ====
section
/-! DEFINITION. The statements for the provers, each with the rules of spec/ that it rests on. A statement that rests on a choice of the
model says so and names its log entry. -/

open Sys2Proof Sys2Proof.Machine

/-- A step takes the command at the front of the queue and runs it with the queue's rest (log entry 20). -/
def Obligations.StepRunsTheFrontCommand : Prop :=
  ∀ (s : State) (c : Instr) (rest : List Instr), s.pending = c :: rest → step s = exec c { s with pending := rest }

/-- On an empty queue the time base ticks: the addend of object 0x1200.07, by default 6.4 units, is added to global time and its
fraction, and the timeouts that are due are signalled, once (R34, R20; log entry 21). -/
def Obligations.EmptyQueueTicks : Prop :=
  dfltOf (key 0x1200 7) = BitVec.ofNat 64 (64 * 2 ^ 32 / 10) ∧
  ∀ s : State, s.pending = [] → ∃ t, step s = .next t ∧
    (s.t * 2 ^ 32 + s.tb.frac.toNat + s.nat (key 0x1200 7) < 2 ^ 96 →
      t.t * 2 ^ 32 + t.tb.frac.toNat = s.t * 2 ^ 32 + s.tb.frac.toNat + s.nat (key 0x1200 7)) ∧
    (∀ c, c ∈ t.pending → ∃ x ∈ t.timers, timerOf c = timerOf x.cmd ∧ x.fired = some t.now ∧ x.due ≤ t.t) ∧
    (∀ x ∈ t.timers, x.ready t.t = false)

/-- After reset the chip is in stage 1 of its first bring-up at global time 0, every other entry reads its default, no domain is
active, every core is held in reset, no transfer is open, and the Cellar and the Attic are empty (R242, R245, R247, R350; log
entries 1 and 2: what the Cellar, the Attic and the fuses hold at the first start is the model's choice). -/
def Obligations.ResetStartsStageOne : Prop :=
  State.reset.pending = [] ∧ State.reset.now = 0 ∧ State.reset.get (key 0x2500 1) = 1 ∧ State.reset.get (key 0x2500 6) = 1 ∧
  (∀ k, k ≠ key 0x2500 1 → k ≠ key 0x2500 6 → State.reset.get k = dfltOf k) ∧ (∀ k, State.reset.content k = dfltContent k) ∧
  (∀ k, State.reset.status k = Stat.none) ∧ (∀ d : Dom, (State.reset.dom d).active = false) ∧
  (∀ c : PCore, (State.reset.probe c).reset = true) ∧ (∀ c : ChanNo, State.reset.chan c = none) ∧
  State.reset.attic = [] ∧ State.reset.cel.entries = [] ∧ State.reset.alive = true ∧ State.reset.tb.timeSet = false

/-- The state after reset is canonical: its tables are in their one form, with 8 step domains and 4 Proofreader cores. -/
def Obligations.ResetIsCanonical : Prop :=
  State.reset.Canon

/-- Every step keeps the canonical form, whatever command is at the front and whatever the tick brings. -/
def Obligations.EveryStepKeepsCanon : Prop :=
  ∀ s t : State, s.Canon → step s = .next t → t.Canon

/-- Every command is answered with a next state, and none reaches the queue of those that wait. -/
def Obligations.EveryCommandIsAnswered : Prop :=
  ∀ (c : Instr) (s : State), ∃ t, exec c s = .next t ∧ t.pending = s.pending

/-- Global time never decreases, but where a cold start begins anew (R33, R39, R41), and only the commands that may load or step it
move it at all. -/
def Obligations.GlobalTimeNeverDecreases : Prop :=
  (∀ s t : State, (∀ c ∈ s.pending.head?, startsCold c = false) → step s = .next t → s.t ≤ t.t) ∧
  (∀ (c : Instr) (s t : State), movesTime c = false → exec c s = .next t → t.now = s.now)

/-- The Attic is history: no command takes an entry away or adds one beyond 1,024, the counts of fences and that of the cold starts
never fall, and a power loss leaves them as they are (R200, R201, R242). -/
def Obligations.AtticIsHistory : Prop :=
  ∀ (c : Instr) (s t : State), s.Canon → exec c s = .next t →
    s.attic.length ≤ t.attic.length ∧ (s.attic.length ≤ 1024 → t.attic.length ≤ 1024) ∧
    (∀ n : Nat, tabGet 0 s.fenceCounts n ≤ tabGet 0 t.fenceCounts n) ∧ s.coldStarts ≤ t.coldStarts

/-- State with few writers: the supplies' bits change only by the commands on them; transfers, data areas and waiting responses only
by accesses, timeouts of theirs, and what re-initializes the chip; the key store's and the life cycle's standing and PHY_PWRCYC_N
likewise (R358, R369, R374, R380). -/
def Obligations.GuardedStateHasFewWriters : Prop :=
  ∀ (c : Instr) (s t : State), exec c s = .next t →
    (switchesPower c = false → t.powered = s.powered ∧ t.porst = s.porst ∧ t.brownOut = s.brownOut) ∧
    (startsCold c = false → t.coldStarts = s.coldStarts) ∧
    (movesTransfers c = false → t.chans = s.chans ∧ t.data = s.data ∧ t.adp = s.adp) ∧
    (touchesKeys c = false → t.keyClearing = s.keyClearing ∧ t.keyCleared = s.keyCleared ∧ t.lcProgramming = s.lcProgramming ∧
      t.lcToken = s.lcToken) ∧
    (cyclesPower c = false → t.pwrcyc = s.pwrcyc)

/-- A timeout's expiry that is not due, or whose timeout was ended or replaced since, changes nothing (R20, R23; the model's choice,
log entry 21: the queue may hold it still). -/
def Obligations.ExpiriesNotDueDoNothing : Prop :=
  ∀ (c x : Instr) (s : State), timeoutOf c = some x → s.expired x = false → exec c s = .next { s with out := [] }

/-- A read of a reserved index returns the status "no such object", and a write to one is refused with it: the value stays, and no
status word is kept (R11). -/
def Obligations.ReservedIndicesAreNoObject : Prop :=
  ∀ (s : State) (index : BitVec 16), (∀ sub : Byte, entryOf (key index.toNat sub.toNat) = none) → s.romService = false →
    (∀ (x : State) (h : AdpHead), h.index = index → s.TakesRequest h → x = s.counted h.path →
      exec (.adpRead h) s = .next (State.settleAll (x.reply h 1 0x13 0 0
        (le 8 0 ++ le 8 (x.statusWord (headKey h) .noObject).toNat))) ∧
      (∀ (y : State) (v : Word), y = s.taking h.path (headKey h) → y.status (headKey h) = Stat.none →
        exec (.adpWrite h v) s = .next (State.settleAll (y.sendAdp h.path (headRank h) h.eid h.msg
          (adpMessage 2 h.tag (headKey h / 256) (headKey h % 256) 2 0x13 0 0
            (le 8 (y.statusWord (headKey h) .completed).toNat)))))) ∧
    (∀ (path : Path) (sub : Byte) (v : Word), s.pathServed path = true →
      exec (.registerWrite path index sub (.value v)) s = .next (s.taking path (key index.toNat sub.toNat)).settleAll)

/-- A Proofreader core that goes silent is stopped and its duties move; the loss of one or two raises source 0x10, of class U, that
of a third source 0x11, of class F (R17). -/
def Obligations.LostProofreaderCoresAreRaised : Prop :=
  (sourceInfo 0x10).map (·.cls) = some .u ∧ (sourceInfo 0x11).map (·.cls) = some .f ∧
  ∀ (s u : State) (pc : PcNo), s.expired (.pcSilent pc) = true → s.pcRunning pc = true →
    u = ((s.begin.expire (.pcSilent pc)).stopPc pc).moveDuties pc →
    ((u.pcsLost = 1 ∨ u.pcsLost = 2) → exec (.pcSilent pc) s = .next (u.raise 0x10 pc.val []).settleAll) ∧
    (3 ≤ u.pcsLost → exec (.pcSilent pc) s = .next (u.raise 0x11 0 []).settleAll)

/-- The erasure of the Cellar is accepted only in MANUFACTURE and RMA; it writes 0 into the commit words of the rings' and the dump
region's entries, leaves the configuration region, and the numbers go on (R344). -/
def Obligations.CellarErasureKeepsConfiguration : Prop :=
  (∀ (s x : State) (path : Path), x = s.taking path (key 0x2A00 0xD) → s.Takes path (key 0x2A00 0xD) 1 false →
    (s.lc = 0 ∨ s.lc = 3) ∧
    ∃ u : State, exec (.cellarErase path) s = .next (u.endGrant path (key 0x2A00 0xD) .done) ∧
      u.cel.entries = s.cel.entries.map (fun e => if 2 ≤ e.region then { e with committed := false } else e) ∧
      u.cel.seqs = s.cel.seqs ∧ u.cel.dumps = s.cel.dumps ∧ u.cel.pos = s.cel.pos) ∧
  (∀ (s t : State) (path : Path), s.lc ≠ 0 → s.lc ≠ 3 → exec (.cellarErase path) s = .next t → t.cel = s.cel)

/-- A write that its path does not serve changes nothing; one that a check ends is counted on its path, and changes nothing but its
own status word, which shows how it ended and counts it (R239, R347 to R349, R351). -/
def Obligations.RefusedWritesTouchTheirStatus : Prop :=
  (∀ (s : State) (path : Path) (k : Nat) (v : Word) (content : Bool) (body : Body), s.pathServed path = false →
    s.begin.granted path k v content body = s.begin) ∧
  (∀ (s t : State) (path : Path) (k : Nat) (v : Word) (content : Bool) (body : Body) (e : WEnd), s.pathServed path = true →
    (s.taking path k).writeCheck k v content = some e → e ≠ .noObject → t = s.begin.granted path k v content body →
    t.status k = { st := e.st, path := BitVec.ofNat 8 (Path.num path), reason := BitVec.ofNat 8 e.reason,
                   count := (s.status k).count + 1 } ∧
    (∀ j, j ≠ k → t.status j = s.status j) ∧ t = { s with out := [], dict := t.dict, stat := t.stat, err := t.err } ∧
    t.err = { s.err with grants := t.err.grants } ∧ s.KeepsBut t [key 0x1030 (7 + Path.num path)])

/-- On a chip at rest nothing follows by itself: what a command does is all that happens. -/
def Obligations.ChipAtRestStaysAsItIs : Prop :=
  ∀ s : State, s.Resting → s.settleAll = s

/-- A granted write of an entry of class I, with no command of its own and no rule that refuses it, puts the value with the bits
that its type keeps, changes no other value, and completes; on the window, bytes go to a channel's data area (R346 to R351, R359,
R363). -/
def Obligations.WritesSetTheirEntry : Prop :=
  (∀ (s x : State) (path : Path) (index : BitVec 16) (sub : Byte) (v : Word) (k : Nat) (e : Entry), k = key index.toNat sub.toNat →
    x = s.taking path k → s.Takes path k v false → entryOf k = some e → e.cls = .i → ownBody path 0xFF 0 k v = none →
    (chanOf k).isSome = false → k ≠ key 0x2800 3 → k ≠ key 0x2800 4 → x.ruleOf k (e.rng.keepBits v).toNat = none →
    x.lostApplies k (e.rng.keepBits v) = false →
    ∃ u : State, exec (.registerWrite path index sub (.value v)) s =
        .next ((u.afterWrite k (e.rng.keepBits v)).taken path k .done) ∧
      u.get k = e.rng.keepBits v ∧ u = { x with dict := u.dict } ∧ x.KeepsBut u [k]) ∧
  (∀ (s x : State) (index : BitVec 16) (sub : Byte) (off : Nat) (b : Bytes) (c : ChanNo), x = s.counted .window →
    chanOf (key index.toNat sub.toNat) = some c → s.pathServed .window = true → s.dutyRuns 0 = true →
    s.chanBusy .window (key index.toNat sub.toNat) = false → 0x40 ≤ sub.toNat → off % 4 = 0 → b.length % 4 = 0 →
    4 ≤ b.length → b.length ≤ 256 → 16 * (sub.toNat - 0x40) + off + b.length ≤ 3072 →
    ∃ u : State, exec (.registerWrite .window index sub (.data off b)) s = .next u.settleAll ∧
      u = { x with data := u.data } ∧
      u.area c = (x.area c).take (16 * (sub.toNat - 0x40) + off) ++ b ++
        (x.area c).drop (16 * (sub.toNat - 0x40) + off + b.length))

/-- An access that the window does not carry is told in an error record, and a read of that kind returns ones; a message that cannot
be read is told likewise, one of an unknown operation is refused with reason 5 (R353, R356, R371). -/
def Obligations.MalformedAccessesAreTold : Prop :=
  (∀ (s : State) (o : BitVec 28) (n : Nat) (w : Bool), s.pathServed .window = true → windowFits o.toNat n w = false →
    exec (.windowMalformedAccess o n w) s = .next (State.settleAll (State.frameError
      { s with out := if w then [] else [.windowRead (List.replicate n 0xFF)] }
      .window 5 (o.toNat / 4096) (o.toNat % 4096 / 16) 0xFF 0xFFFF))) ∧
  (∀ (s : State) (path : Path) (eid : Byte) (raw : Bytes), s.adpServed path = true → path ≠ .steward →
    exec (.adpMalformedMessage path eid false raw) s = .next (s.begin.frameError path 4 0xFFFF 0 eid 0xFFFF).settleAll) ∧
  (∀ (s : State) (path : Path) (eid : Byte) (raw : Bytes), s.adpServed path = true → path ≠ .steward → raw.length < 20 →
    exec (.adpMalformedMessage path eid true raw) s = .next (s.begin.frameError path 3 0xFFFF 0 eid 0xFFFF).settleAll) ∧
  (∀ (s : State) (path : Path) (eid : Byte) (raw : Bytes), s.adpServed path = true → path ≠ .steward → 20 ≤ raw.length →
    fieldAt raw (raw.length - 4) 4 ≠ crc32c (raw.take (raw.length - 4)) →
    exec (.adpMalformedMessage path eid true raw) s = .next (s.begin.frameError path 1 0xFFFF 0 eid 0xFFFF).settleAll) ∧
  (∀ (s : State) (path : Path) (eid : Byte) (raw : Bytes), s.adpServed path = true → messageFault raw = none →
    fieldAt raw 1 1 ∉ adpOpcodes →
    exec (.adpMalformedMessage path eid true raw) s = .next (State.settleAll (s.begin.sendAdp path 0 eid 0
      (adpMessage (fieldAt raw 1 1) (BitVec.ofNat 16 (fieldAt raw 2 2)) (fieldAt raw 4 2) (fieldAt raw 6 1) 2 0x10 5 0 []))))

/-- A request that its path serves is answered: a read with the value and the status word, a write with the status word of the entry
it set, a status request with the status word, a group with the status word of its first entry that did not complete; a response
that waits is sent when its time is over (R352 to R356, R368). -/
def Obligations.RequestsAreAnswered : Prop :=
  (∀ (s x : State) (h : AdpHead), s.TakesRequest h → x = s.counted h.path →
    exec (.adpRead h) s = .next (State.settleAll (x.reply h 1 (x.adpValue h.path (headKey h)).2.code (typeCode (headKey h)) 0
      (le 8 (x.adpValue h.path (headKey h)).1.toNat ++
        le 8 (x.statusWord (headKey h) (x.adpValue h.path (headKey h)).2).toNat)))) ∧
  (∀ (s x : State) (h : AdpHead), s.TakesRequest h → x = s.counted h.path → (entryOf (headKey h)).isSome = true →
    x.romService = false →
    exec (.adpStatus h) s = .next (x.reply h 3 0 0 0 (le 8 (x.statusWord (headKey h) .completed).toNat)).settleAll) ∧
  (∀ (s x : State) (h : AdpHead) (v : Word) (k : Nat) (e : Entry), s.TakesRequest h → x = s.taking h.path k → k = headKey h →
    s.Takes h.path k v false → entryOf k = some e → e.cls = .i → ownBody h.path (headEid h) (headRank h) k v = none →
    (chanOf k).isSome = false → k ≠ key 0x2800 3 → k ≠ key 0x2800 4 → x.ruleOf k (e.rng.keepBits v).toNat = none →
    x.lostApplies k (e.rng.keepBits v) = false →
    exec (.adpWrite h v) s = .next (State.settleAll
      ((((x.put k (e.rng.keepBits v)).afterWrite k (e.rng.keepBits v)).endGrant h.path k .done).replyWrite h 2 [k]))) ∧
  (∀ (s x t : State) (h : AdpHead) (items : List GroupItem), s.TakesRequest h → x = s.counted h.path →
    x.runItems { path := h.path, eid := headEid h, rank := headRank h, drain := h.path == .steward || headFlag h 0,
                 quiet := false } items = (t, none) →
    exec (.adpGroupWrite h items) s = .next (t.replyWrite h 5 (items.map itemKey)).settleAll) ∧
  (∀ (s : State) (path : Path) (msg : Fin 8) (tag : BitVec 16) (rank : Rank) (w : AdpWait),
    s.expired (.adpWaitTimeout path msg tag rank) = true →
    s.adp.find? (fun w => w.timeout == .adpWaitTimeout path msg tag rank) = some w →
    exec (.adpWaitTimeout path msg tag rank) s = .next (State.writeResponse
      { s with out := [], timers := s.timers.filter (fun t => t.cmd ≠ w.timeout), adp := s.adp.filter (fun x => x ≠ w) }
      w.path w.rank w.eid w.msg w.tag w.op.toNat w.keys 0))

/-- A transfer over the protocol opens the lowest free channel, moves its segments in order, ends in one write of the whole content,
and is aborted on order (R358 to R361). -/
def Obligations.SegmentedTransfersMove : Prop :=
  (∀ (s x u : State) (h : AdpHead) (c : ChanNo), s.TakesRequest h → x = s.counted h.path → x.openRefused (headKey h) true = none →
    x.freeChannel = some c → u = x.openChan c h.path (headEid h) (headRank h) (headKey h) true 0 →
    exec (.adpUploadInit h) s = .next (u.reply h 0x10 0 0 0 (le 4 (u.nat (chanKey c 3)) ++ le 4 c.val)).settleAll) ∧
  (∀ (s x : State) (h : AdpHead) (total : BitVec 32) (c : ChanNo), s.TakesRequest h → x = s.counted h.path →
    x.openRefused (headKey h) false = none → x.freeChannel = some c →
    exec (.adpDownloadInit h total) s = .next (State.settleAll
      ((x.openChan c h.path (headEid h) (headRank h) (headKey h) false total.toNat).reply h 0x12 0 0 0 (le 4 c.val)))) ∧
  (∀ (s x : State) (h : AdpHead) (off : BitVec 32) (n : BitVec 16) (c : ChanNo) (y : Chan), s.TakesRequest h →
    x = s.counted h.path → x.segmentBusy h true = false → x.transferOf h true = some (c, y) → y.live = false →
    off.toNat < y.total →
    exec (.adpUploadSegment h off n) s = .next (State.settleAll
      ((x.segmentOp c).reply h 0x11 0 0 off.toNat ((y.snapshot.drop off.toNat).take (min 1024 n.toNat))))) ∧
  (∀ (s x u : State) (h : AdpHead) (off : BitVec 32) (b : Bytes) (c : ChanNo) (y : Chan), s.TakesRequest h →
    x = s.counted h.path → x.segmentBusy h false = false → x.transferOf h false = some (c, y) → u = x.segmentOp c →
    y.entry ≠ imageKey → off.toNat = y.got.length → off.toNat + b.length ≤ u.totalOf c y →
    exec (.adpDownloadSegment h off b) s = .next (State.settleAll
      ((u.setChan c (some { y with total := u.totalOf c y, got := y.got ++ b })).reply h 0x13 0 0 off.toNat []))) ∧
  (∀ (s x u t : State) (h : AdpHead) (c : ChanNo) (y : Chan) (e : Entry), s.TakesRequest h → x = s.counted h.path →
    x.segmentBusy h false = false → x.transferOf h false = some (c, y) → y.upload = false → y.entry = headKey h →
    y.entry ≠ imageKey → (x.segmentOp c).totalOf c y = y.got.length → u = (x.segmentOp c).freeChan c 0 →
    entryOf y.entry = some e → u.writeCheck y.entry 0 true = none → contentWrite e y.entry y.got u = (t, .done) →
    exec (.adpDownloadEnd h) s = .next ((t.endGrant h.path y.entry .done).replyWrite h 0x14 [y.entry]).settleAll) ∧
  (∀ (s x : State) (h : AdpHead) (n : Byte) (c : ChanNo) (y : Chan), s.TakesRequest h → x = s.counted h.path →
    x.dutyRuns 0 = true → n.toNat = c.val → x.chan c = some y → y.path = h.path →
    exec (.adpAbort h n) s = .next (((x.segmentOp c).abortChan c y).replyEnd h 0x1F .done).settleAll)

/-- On the window a channel is opened on the entry of the written word, fetches and stores a segment of its data area, ends its
download in one write, and is aborted; a channel that is idle too long is aborted and told; a drain whose time is over gives its
writes up (R358 to R362, R367). -/
def Obligations.ChannelCommandsMoveContents : Prop :=
  (∀ (s x : State) (c : ChanNo) (v : Word) (k : Nat), x = s.taking .window (chanKey c 1) → s.Takes .window (chanKey c 1) v false →
    k = key (bits v.toNat 31 16) (bits v.toNat 15 8) → x.chan c = none → (bits v.toNat 1 0 = 1 ∨ bits v.toNat 1 0 = 2) →
    x.openRefused k (bits v.toNat 1 0 == 1) = none →
    exec (.chOpen c v) s = .next ((x.openChan c .window 0xFF 0 k (bits v.toNat 1 0 == 1) (x.nat (chanKey c 3))).taken
      .window (chanKey c 1) .done)) ∧
  (∀ (s x u : State) (c : ChanNo) (y : Chan), x = s.taking .window (chanKey c 5) → s.Takes .window (chanKey c 5) 1 false →
    x.chan c = some y → y.path = .window → y.upload = true → y.live = false → u = x.segmentOp c →
    u.nat (chanKey c 4) < y.total →
    exec (.chFetch c) s = .next ((u.setArea c 0 ((y.snapshot.drop (u.nat (chanKey c 4))).take (u.nat (chanKey c 6)))).taken
      .window (chanKey c 5) .done)) ∧
  (∀ (s x u : State) (c : ChanNo) (y : Chan), x = s.taking .window (chanKey c 5) → s.Takes .window (chanKey c 5) 2 false →
    x.chan c = some y → y.path = .window → y.upload = false → u = x.segmentOp c → y.entry ≠ imageKey →
    u.nat (chanKey c 4) = y.got.length →
    u.nat (chanKey c 4) + ((u.area c).take (u.nat (chanKey c 6))).length ≤ u.totalOf c y →
    exec (.chStore c) s = .next ((u.setChan c (some { y with
        total := u.totalOf c y, got := y.got ++ (u.area c).take (u.nat (chanKey c 6)) })).taken .window (chanKey c 5) .done)) ∧
  (∀ (s x u t : State) (c : ChanNo) (y : Chan) (e : Entry), x = s.taking .window (chanKey c 5) → s.Takes .window (chanKey c 5) 3 false →
    x.chan c = some y → y.path = .window → y.upload = false → y.entry ≠ imageKey →
    (x.segmentOp c).totalOf c y = y.got.length → u = (x.segmentOp c).freeChan c 0 → entryOf y.entry = some e →
    u.writeCheck y.entry 0 true = none → contentWrite e y.entry y.got u = (t, .done) →
    exec (.chEndDownload c) s = .next ((t.endGrant .window y.entry .done).taken .window (chanKey c 5) .done)) ∧
  (∀ (s x : State) (c : ChanNo) (y : Chan), x = s.taking .window (chanKey c 5) → s.Takes .window (chanKey c 5) 4 false →
    x.chan c = some y → y.path = .window →
    exec (.chAbort c) s = .next (((x.segmentOp c).abortChan c y).taken .window (chanKey c 5) .done)) ∧
  (∀ (s : State) (c : ChanNo) (y : Chan), s.expired (.channelIdleTimeout c) = true → s.chan c = some y →
    exec (.channelIdleTimeout c) s = .next (State.settleAll
      (((s.begin.expire (.channelIdleTimeout c)).abortChan c y).frameError y.path 8 (y.entry / 256) (y.entry % 256) y.eid 0xFFFF))) ∧
  (∀ (s : State) (w : Drain), s.expired .drainTimeout = true → s.drain = some w →
    exec .drainTimeout s = .next ((s.begin.expire .drainTimeout).dropDrain w).settleAll)

/-- The I3C commands that set something up complete on a served bus and change exactly what they set: the dynamic address (object
0x1000.0C), the largest read and write, the in-band interrupt enable (R236, R355). The I3C commands that read something complete on
a served bus when the target has an address, answer what the spec says, and change nothing but the count of free values taken. The
characteristics registers, the provisional ID and the bits of GETSTATUS are values that the spec leaves to the part. -/
def Obligations.I3cBusCommandsAct : Prop :=
  (∀ s : State, s.alive = true →
    (∀ a : BitVec 7, s.get (key 0x1000 0xC) = 0 →
      ∃ t, exec (.entdaa a) s = .next t ∧ t = { s with out := [], dict := t.dict } ∧
        t.nat (key 0x1000 0xC) = a.toNat ∧ s.KeepsBut t [key 0x1000 0xC]) ∧
    (∀ a : BitVec 7, s.get (key 0x1000 0xC) ≠ 0 →
      ∃ t, exec (.setnewda a) s = .next t ∧ t = { s with out := [], dict := t.dict } ∧
        t.nat (key 0x1000 0xC) = a.toNat ∧ s.KeepsBut t [key 0x1000 0xC]) ∧
    (∃ t, exec .rstdaa s = .next t ∧
      t = { s with out := [], dict := t.dict, err := { s.err with ibiOut := none, ibiQueue := [] } } ∧
        t.get (key 0x1000 0xC) = 0 ∧ s.KeepsBut t [key 0x1000 0xC]) ∧
    (∀ n : BitVec 16, exec (.setmrl n) s = .next { s with out := [], err := { s.err with maxRead := n } }) ∧
    (∀ n : BitVec 16, exec (.setmwl n) s = .next { s with out := [], err := { s.err with maxWrite := n } }) ∧
    exec .enec s = .next { s with out := [], err := { s.err with ibiEnabled := true } } ∧
    exec .disec s =
      .next { s with out := [], err := { s.err with ibiEnabled := false, ibiOut := none, ibiQueue := [] } }) ∧
  (∀ s : State, s.alive = true → s.get (key 0x1000 0xC) ≠ 0 →
    exec .getpid s = .next { s with out := [.i3c (be 6 Config.i3cPid.toNat)] } ∧
    exec .getbcr s = .next { s with out := [.i3c [Config.i3cBcr]] } ∧
    exec .getdcr s = .next { s with out := [.i3c [Config.i3cDcr]] } ∧
    (∃ w : Nat, exec .getstatus s = .next { s with out := [.i3c (be 2 (w % 65536))], free := s.free + 1 }) ∧
    exec .getmrl s = .next { s with out := [.i3c (be 2 s.err.maxRead.toNat ++ [5])] } ∧
    exec .getmwl s = .next { s with out := [.i3c (be 2 s.err.maxWrite.toNat)] })

/-- MCTP control requests complete on a served binding: SET_ENDPOINT_ID stores the endpoint ID unless it is 0 or 0xFF, the others
answer from what the part is, and nothing but the answer changes on PCIe (R354; layouts of the answers: log entry 44). Over I3C the
same requests are answered once the read and write lengths carry a packet, and each answer raises the pending-read notification
(R354, R355). -/
def Obligations.MctpControlRequestsAreAnswered : Prop :=
  (∀ s : State, s.controlServed .pcie = true →
    (∀ e : Byte, e ≠ 0 → e ≠ 0xFF →
      ∃ t, exec (.setEndpointId .pcie e) s = .next t ∧
        t = { s with out := [.mctp .pcie [0, 0, e, 0]], dict := t.dict } ∧
        t.nat (key 0x1000 0xA) = e.toNat ∧ s.KeepsBut t [key 0x1000 0xA]) ∧
    (∀ e : Byte, e = 0 ∨ e = 0xFF → exec (.setEndpointId .pcie e) s = .next { s with out := [.mctp .pcie [2]] }) ∧
    exec (.getEndpointId .pcie) s =
      .next { s with out := [.mctp .pcie [0, (s.get (key 0x1000 0xA)).setWidth 8, 0, 0]] } ∧
    exec (.getEndpointUuid .pcie) s = .next { s with out := [.mctp .pcie ([0] ++ be 16 Config.endpointUuid.toNat)] } ∧
    (∀ y : Byte, ∃ w : Nat, exec (.getMctpVersionSupport .pcie y) s =
      .next { s with free := s.free + 1, out := [.mctp .pcie
        (if y = 0xFF ∨ y = 0 ∨ y = 0x7E then [0, 1] ++ le 4 w else [0x80])] }) ∧
    exec (.getMessageTypeSupport .pcie) s = .next { s with out := [.mctp .pcie [0, 1, 0x7E]] } ∧
    (∀ n : Byte, exec (.getVendorDefinedMessageSupport .pcie n) s =
      .next { s with out := [.mctp .pcie (if n = 0 then [0, 0xFF, 0] ++ be 2 Config.pciVendorId.toNat ++ be 2 1 else [2])] })) ∧
  (∀ s : State, s.controlServed .i3c = true → s.i3cServes = true →
    (∀ e : Byte, e ≠ 0 → e ≠ 0xFF →
      exec (.setEndpointId .i3c e) s = .next (((s.begin.putN (key 0x1000 0xB) e.toNat).send (.mctp .i3c [0, 0, e, 0])).signalIbi
        { cls := 0, src := 0, inst := 0, num := 0, mctp := true })) ∧
    exec (.getEndpointId .i3c) s = .next ((s.begin.send (.mctp .i3c [0, (s.get (key 0x1000 0xB)).setWidth 8, 0, 0])).signalIbi
      { cls := 0, src := 0, inst := 0, num := 0, mctp := true }) ∧
    exec (.getMessageTypeSupport .i3c) s = .next ((s.begin.send (.mctp .i3c [0, 1, 0x7E])).signalIbi
      { cls := 0, src := 0, inst := 0, num := 0, mctp := true }))

/-- Unmasking an MSI-X vector clears its mask and its pending bit, sends the message if one was pending, and changes nothing else; a
free bus sends the next in-band interrupt (R235, R236). -/
def Obligations.InterruptCommandsSendWhatWaits : Prop :=
  (∀ (s : State) (v : Fin 2048), ∃ t, exec (.msixVectorUnmask v) s = .next t ∧
    t.err.msixMask = s.err.msixMask &&& ~~~((1 : BitVec 2048) <<< v.val) ∧
    t.err.msixPending = s.err.msixPending &&& ~~~((1 : BitVec 2048) <<< v.val) ∧
    t.out = (if s.err.msixPending.getLsbD v.val then [.msix v.val] else []) ∧
    t = { s with out := t.out, err := { s.err with msixMask := t.err.msixMask, msixPending := t.err.msixPending } }) ∧
  (∀ (s : State) (a : Bool) (i : Ibi) (q : List Ibi), s.err.ibiEnabled = true → s.err.ibiQueue = i :: q →
    (s.err.ibiOut = none ∨ a = true) →
    exec (.ibiBusFree a) s =
      .next { s with out := [.ibi (s.ibiPayload i)], err := { s.err with ibiOut := some (i, 0), ibiQueue := q } }) ∧
  (∀ (s : State) (a : Bool), s.err.ibiEnabled = true → s.err.ibiQueue = [] → (s.err.ibiOut = none ∨ a = true) →
    exec (.ibiBusFree a) s = .next { s with out := [], err := { s.err with ibiOut := none } }) ∧
  (∀ (s : State) (i : Ibi) (n : Nat), s.err.ibiEnabled = true → s.err.ibiOut = some (i, n) →
    exec (.ibiBusFree false) s = .next (if 8 ≤ n then s.begin.nextIbi
      else { s with out := [.ibi (s.ibiPayload i)], err := { s.err with ibiOut := some (i, n + 1) } }))

/-- A write of ones to a sticky word clears those bits, and no other entry's value; a mask word of a class C or U source takes the
bits of the instances that the source has, an unmasked bit is set on a class F source by nobody; the hold is released out of the
fault state; a forced word raises each instance it names (R229, R230, R234, R240, R241). -/
def Obligations.ErrorRegisterWritesTakeEffect : Prop :=
  (∀ (s : State) (path : Path) (src : Byte) (w : Fin 66) (v : Word), w.val < wordsOf src.toNat →
    s.Takes path (srcKey src.toNat (0x20 + w.val)) v false →
    ∃ u : State, exec (.stickyClear path src w v) s = .next (u.taken path (srcKey src.toNat (0x20 + w.val)) .done) ∧
      u.get (srcKey src.toNat (0x20 + w.val)) = (s.taking path (srcKey src.toNat (0x20 + w.val))).get (srcKey src.toNat (0x20 + w.val)) &&& ~~~v ∧
      u = { s.taking path (srcKey src.toNat (0x20 + w.val)) with dict := u.dict } ∧
      (s.taking path (srcKey src.toNat (0x20 + w.val))).KeepsBut u [srcKey src.toNat (0x20 + w.val)]) ∧
  (∀ (s : State) (path : Path) (src : Byte) (w : Fin 66) (v : Word) (x : SourceInfo), w.val < wordsOf src.toNat →
    sourceInfo src.toNat = some x → (x.cls = .f → v &&& instanceBits src.toNat w = 0) →
    s.Takes path (srcKey src.toNat (0x62 + w.val)) v false →
    exec (.maskWrite path src w v) s = .next (State.taken
      ((List.range 64).foldl (fun (u : State) b =>
          if ((s.taking path (srcKey src.toNat (0x62 + w.val))).get (srcKey src.toNat (0x62 + w.val))).getLsbD b &&
              !(v &&& instanceBits src.toNat w).getLsbD b
          then u.unmask src.toNat (64 * w.val + b) x.cls else u)
        ((s.taking path (srcKey src.toNat (0x62 + w.val))).put (srcKey src.toNat (0x62 + w.val)) (v &&& instanceBits src.toNat w)))
      path (srcKey src.toNat (0x62 + w.val)) .done)) ∧
  (∀ (s : State) (path : Path) (src : Byte) (w : Fin 66) (v : Word),
    s.Takes path (srcKey src.toNat (0xA4 + w.val)) v false → (s.taking path (srcKey src.toNat (0xA4 + w.val))).forceRefused src.toNat w v = none →
    exec (.forceWrite path src w v) s = .next (State.taken
      ((forcedInstances w v).foldl (fun (u : State) (i : Nat) => u.force path src.toNat i) (s.taking path (srcKey src.toNat (0xA4 + w.val))))
      path (srcKey src.toNat (0xA4 + w.val)) .done)) ∧
  (∀ (s : State) (path : Path), s.Takes path (key 0x2400 5) 1 false → s.faulted = false →
    exec (.holdRelease path) s = .next (State.taken
      { s.taking path (key 0x2400 5) with err := { (s.taking path (key 0x2400 5)).err with hold := false } } path (key 0x2400 5) .done))

/-- Captures are handled one at a time, oldest first, under a timeout, each committed to the Cellar and to the objects that show the
last record; a capture whose handling times out is counted and committed later, marked late; the pulse of PHY_ERR_N ends in the hold
that is to come (R231 to R234). -/
def Obligations.ErrorHandlingProceeds : Prop :=
  (∀ (s : State) (c : Capture) (q : List Capture), s.err.handling = none → s.dutyRuns 0 = true → s.err.queue = c :: q →
    ∃ t, exec .handlingStart s = .next t ∧ t.err = { s.err with queue := q, handling := some c } ∧
      t.nat (key 0x2400 7) = q.length % 2 ^ 64 ∧ t.armed .handlingTimeout = true ∧
      t = { s with out := [], err := t.err, dict := t.dict, timers := t.timers } ∧ s.KeepsBut t [key 0x2400 7]) ∧
  (∀ (s : State) (bad : List Nat) (c : Capture), s.dutyRuns 0 = true → s.err.lateRecords = [] → s.err.handling = some c →
    ∃ u : State, exec (.errorRecordCommit bad) s = .next u.settleAll ∧ u.err.handling = none ∧
      u.content (key 0x2400 0xB) = c.bytes ∧ u.content (srcKey c.src 0xA) = c.bytes) ∧
  (∀ (s : State) (bad : List Nat) (c : Capture) (l : List Capture), s.dutyRuns 0 = true → s.err.lateRecords = c :: l →
    ∃ u : State, exec (.errorRecordCommit bad) s = .next u.settleAll ∧
      u = State.commitAround { s with out := [], err := { s.err with lateRecords := l } } c bad ∧
      u.content (key 0x2400 0xB) = c.bytes ∧ u.content (srcKey c.src 0xA) = c.bytes) ∧
  (∀ (s : State) (c : Capture), s.expired .handlingTimeout = true → s.err.handling = some c →
    ∃ t, exec .handlingTimeout s = .next t ∧
      t.err = { s.err with
        handling := none, lateRecords := s.err.lateRecords ++ [{ c with late := true }], grants := t.err.grants } ∧
      t = { s with out := [], err := t.err, dict := t.dict, timers := s.timers.filter (fun x => x.cmd ≠ .handlingTimeout) } ∧
      s.KeepsBut t [key 0x2400 0x10] ∧
      s.Counts t (key 0x2400 0x10)) ∧
  (∀ s : State, s.expired .errPulseEnd = true →
    exec .errPulseEnd s = .next { s with
      out := [], timers := s.timers.filter (fun x => x.cmd ≠ .errPulseEnd),
      err := { s.err with pulse := false, hold := s.err.hold || s.err.holdToCome, holdToCome := false } })

/-- The commands on the supplies and PHY_PORST_N act on a chip in the state that they need: power comes and goes, the reset is
released and asserted, a brown-out begins and ends, an excursion of a supply is raised (R242, R374, R380 to R382). In the fault
state the power cycle is requested once the delay or the host says so: PHY_PWRCYC_N goes low and object 0x2400.03 shows it; under a
freeze the request waits (R239, R240). -/
def Obligations.PowerCommandsSwitchTheChip : Prop :=
  ((∀ s : State, s.powered = false →
    exec .powerUp s = .next { s with out := [], powered := true, porst := false }) ∧
  (∀ (s : State) (ref : Bool), s.powered = true → s.porst = false → s.brownOut = false →
    exec (.porstRelease ref) s = .next (State.settleAll (State.coldStart
      { s with out := [], porst := true, tb := { s.tb with refLost := !ref } } ref))) ∧
  (∀ (s : State) (ref : Bool), s.powered = true → s.porst = false → s.brownOut = true →
    exec (.porstRelease ref) s = .next { s with out := [], porst := true, tb := { s.tb with refLost := !ref } }) ∧
  (∀ (s : State) (ns : Nat), s.powered = true → s.porst = true → 10000 ≤ ns →
    ∃ t, exec (.porstAssert ns) s = .next t ∧ t = { s.begin.reinit false true with porst := false } ∧
      t.porst = false ∧ t.cel = s.cel ∧ t.pending = s.pending) ∧
  (∀ (s : State) (torn : Bool), s.powered = true →
    ∃ t, exec (.powerLoss torn) s = .next t ∧ t.powered = false ∧ t.porst = false ∧ t.brownOut = false ∧
      t.cel = (if torn then s.cel.tear else s.cel) ∧ t.attic = s.attic ∧ t.timers = [] ∧ t.doms = State.reset.doms) ∧
  (∀ s : State, s.powered = true → s.brownOut = false →
    ∃ t, exec .brownOut s = .next t ∧ t = { s.begin.reinit false true with brownOut := true } ∧ t.brownOut = true ∧
      t.powered = true ∧ t.porst = s.porst ∧ t.cel = s.cel ∧ t.pending = s.pending) ∧
  (∀ s : State, s.brownOut = true → s.porst = true →
    exec .brownOutEnd s = .next (State.settleAll (State.coldStart { s with out := [], brownOut := false } (!s.tb.refLost)))) ∧
  (∀ s : State, s.brownOut = true → s.porst = false →
    exec .brownOutEnd s = .next { s with out := [], brownOut := false }) ∧
  (∀ (s : State) (v : BitVec 16) (above : Bool) (ns : Nat), s.alive = true → 1000 ≤ ns →
    (above = true → 810 < v.toNat) → (above = false → 600 ≤ v.toNat ∧ v.toNat < 690) →
    exec (.supplyExcursion v above ns) s = .next (State.settleAll
      (s.begin.raise 0x19 0 (supplyRecord s.t v.toNat (if above then 2 else 1) ns false))))) ∧
  ((∀ s : State, s.expired .powerCycleDelay = true → s.get (key 0x2400 3) = 1 → s.frz.on = false →
    ∃ t, exec .powerCycleDelay s = .next t ∧ t.pwrcyc = true ∧ t.get (key 0x2400 3) = 2 ∧ t.out = [.powerCycle true] ∧
      t = { s with out := t.out, pwrcyc := true, dict := t.dict, timers := t.timers } ∧ s.KeepsBut t [key 0x2400 3]) ∧
  (∀ s : State, s.expired .powerCycleDelay = true → s.get (key 0x2400 3) = 1 → s.frz.on = true →
    ∃ t, exec .powerCycleDelay s = .next t ∧ t = { s with out := [], timers := t.timers }) ∧
  (∀ (s : State) (path : Path), s.Takes path (key 0x2400 0xA) 1 false → (s.taking path (key 0x2400 0xA)).get (key 0x2400 3) = 1 →
    s.frz.on = false →
    exec (.powerCycleNow path) s = .next ((s.taking path (key 0x2400 0xA)).requestCycle.endGrant path (key 0x2400 0xA) .done)))

/-- A cold start from a machine that has lost its state counts itself, takes its nonce, sets global time to 0 on the reference or
the backup oscillator, puts a life-cycle state that was programmed into force, keeps out the units of the Attic, and begins bring-up
stage 1 of kind 0 (R41, R242, R246, R280). -/
def Obligations.ColdStartBeginsStageOne : Prop :=
  ∀ (s : State) (ref : Bool), s.tb.base = 0 → s.tb.holdover = false →
    ∃ u : State, s.coldStart ref = u.beginBringup 0 ∧ u.now = 0 ∧ u.coldStarts = s.coldStarts + 1 ∧
      u.get (key 0x1100 6) = Config.nonce (s.coldStarts + 1) ∧ u.holes = s.atticUnits ∧
      u.tb = { s.tb with frac := 0, refLost := !ref, backup := !ref } ∧ u.nat (key 0x1200 3) = (if ref then 0 else 4) ∧
      u.nat (key 0x1100 4) = 0xFF ∧ (s.nat (key 0x1100 4) ≠ 0xFF → u.get (key 0x1100 1) = s.get (key 0x1100 4)) ∧
      s.KeepsBut u [key 0x1100 1, key 0x1100 4, key 0x1100 6, key 0x1200 3]

/-- A running Proofreader core's heartbeat is sent and its silence timeout armed anew; a silent core is stopped and its duties move;
a core that came back runs, and takes its duties at the next step boundary or at once when no domain is active (R14 to R16). -/
def Obligations.ProofreaderCoreCommandsAct : Prop :=
  (∀ (s : State) (pc : PcNo), s.pcRunning pc = true →
    ∃ t, exec (.pcHeartbeat pc) s = .next t ∧ t = ((s.begin.arrives (.pcSilent pc) 6).send (.heartbeat pc)).arm (.pcSilent pc) silence ∧
      t.armed (.pcSilent pc) = true ∧ t.out = (s.begin.arrives (.pcSilent pc) 6).out ++ [.heartbeat pc]) ∧
  (∀ (s : State) (pc : PcNo), s.expired (.pcSilent pc) = true → s.pcRunning pc = true →
    exec (.pcSilent pc) s = .next (State.settleAll
      ((((s.begin.expire (.pcSilent pc)).stopPc pc).moveDuties pc).raisePcLost pc))) ∧
  (∀ (s : State) (pc : PcNo), s.get (pcKey pc) = 1 → s.img.activating = false →
    ∃ u : State, exec (.pcReady pc) s = .next (if u.activeDoms.isEmpty then u.returnDuties else u).settleAll ∧
      u.pcRunning pc = true ∧ u.armed (.pcSilent pc) = true ∧
      u = { s with out := [], dict := u.dict, pcs := u.pcs, timers := u.timers } ∧ s.KeepsBut u [pcKey pc])

/-- An image that verifies runs or stays staged, one that does not is told; an activation order takes effect on a verified staged
image, at once on an idle chip, at the domains' held boundaries when it is to drain, else it is deferred; once the cores are back
the staged image is the one that runs (R30 to R32). -/
def Obligations.FirmwareImageCommandsAct : Prop :=
  (∀ (s : State) (b : Bytes), s.inStage 2 = true → s.get (key 0x2500 2) = 0 → s.romService = true →
    exec (.imageVerified (.bootFlash b)) s = .next (State.settleAll
      (if imageStatus b = 2 then (s.begin.runImage b 1).endStage (bitOf s.bring.exceptions)
       else (s.begin.writeStage 4 0 false).raise 0x17 0 []))) ∧
  (∀ s : State, s.inStage 2 = true → s.get (key 0x2500 2) = 1 → s.romService = true →
    exec (.imageVerified .imageStore) s = .next (State.settleAll
      (if imageStatus s.img.store = 2 then (s.begin.runImage s.img.store s.img.source).endStage (bitOf s.bring.exceptions)
       else (s.begin.writeStage 4 0 false).raise 0x17 0 []))) ∧
  (∀ s : State, s.get (key 0x1010 5) = 1 → s.inTransfer (key 0x1010 4) = false →
    ∃ u : State, exec (.imageVerified .staged) s =
        .next (if imageStatus s.img.staged = 2 then u else u.raise 0x16 0 []).settleAll ∧
      u = s.begin.putN (key 0x1010 5) (imageStatus s.img.staged) ∧ u.nat (key 0x1010 5) = imageStatus s.img.staged ∧
      s.KeepsBut u [key 0x1010 5]) ∧
  (∀ (s x : State) (path : Path), x = s.taking path (key 0x1010 6) → s.Takes path (key 0x1010 6) 1 false → x.get (key 0x1010 5) = 2 →
    x.img.activating = false → x.img.waitIdle = false → x.activeDoms = [] →
    exec (.activateWhenIdle path) s = .next (x.beginActivation.taken path (key 0x1010 6) .progress)) ∧
  (∀ (s x : State) (path : Path), x = s.taking path (key 0x1010 6) → s.Takes path (key 0x1010 6) 2 false → x.get (key 0x1010 5) = 2 →
    x.img.activating = false → x.img.waitIdle = false → x.activeDoms ≠ [] →
    exec (.drainAndActivate path) s =
      .next (State.taken { x with img := { x.img with waitIdle := true } } path (key 0x1010 6) .progress)) ∧
  (∀ (s x : State) (path : Path), x = s.taking path (key 0x1010 6) → s.Takes path (key 0x1010 6) 1 false → x.get (key 0x1010 5) = 2 →
    x.img.activating = false → x.img.waitIdle = false → x.activeDoms ≠ [] →
    exec (.activateWhenIdle path) s = .next (x.taken path (key 0x1010 6) .deferred)) ∧
  (∀ s : State, s.img.activating = true → s.inStage 2 = false → (s.status (key 0x1010 6)).st = .inProgress →
    ∃ u : State, exec .imageActivationDone s = .next u.settleAll ∧ u.img.store = s.img.staged ∧ u.img.staged = [] ∧
      u.img.activating = false ∧ (u.status (key 0x1010 6)).st = .completed)

/-- A domain is activated with the cores of its mask, at the step loaded; it is closed at the running step; a start armed by a write
starts every domain of the mask at its instant; a start is cancelled (R44 to R53). -/
def Obligations.StartCommandsAct : Prop :=
  (∀ (s x : State) (path : Path) (d : Dom), x = s.taking path (domKey 0x1210 0x1A d) → s.Takes path (domKey 0x1210 0x1A d) 1 false →
    x.stageNo = 9 → maskCores (x.content (domKey 0x1303 1 d)) ≠ [] → (x.dom d).active = false → x.tagTaken d = false →
    x.maskBusy (maskCores (x.content (domKey 0x1303 1 d))) = false →
    ∃ u : State, exec (.domainActivate path d) s = .next (u.taken path (domKey 0x1210 0x1A d) .done) ∧
      u = x.activate d (maskCores (x.content (domKey 0x1303 1 d))) ∧
      (s.doms.length = 8 → x.role = 0 → x.probings = [] →
        u.dom d = { DomSt.idle with active := true, cores := maskCores (x.content (domKey 0x1303 1 d)),
                                    start := x.nat (domKey 0x1210 0x11 d) % 2 ^ 48, suspended := true } ∧
        (u.get (key 0x1210 0x19)).getLsbD d.val = true ∧ u.stepOf d = x.nat (domKey 0x1210 0x11 d) % 2 ^ 48 ∧
        u.get (domKey 0x2104 1 d) = ones64 ∧ u.get (domKey 0x2104 9 d) = ones64)) ∧
  (∀ (s x : State) (path : Path) (d : Dom), x = s.taking path (domKey 0x1210 0x1A d) → s.Takes path (domKey 0x1210 0x1A d) 2 false →
    (x.dom d).active = true → (x.dom d).running = true →
    exec (.domainClose path d) s = .next ((x.upDom d (fun y => { y with closing := some (x.stepOf d) })).taken
      path (domKey 0x1210 0x1A d) .progress)) ∧
  (∀ (s x : State) (path : Path) (d : Dom), x = s.taking path (domKey 0x1210 0x1A d) → s.Takes path (domKey 0x1210 0x1A d) 2 false →
    (x.dom d).active = true → (x.dom d).running = false → x.stepOf d ≤ (x.dom d).base →
    exec (.domainClose path d) s = .next ((x.deactivate d).taken path (domKey 0x1210 0x1A d) .done)) ∧
  (∀ (s x : State) (path : Path) (t : Word), x = s.taking path (key 0x1220 1) → s.Takes path (key 0x1220 1) t false → x.stageNo = 9 →
    x.startMask ≠ [] → x.armOutcomes x.startMask t.toNat = 1 → (∀ d ∈ x.startMask, (x.settingsDiffer d) = (false, x)) →
    exec (.startArm path t) s = .next (State.taken
      ((x.startMask.foldl (fun (u : State) d => u.armDomain d t.toNat)
        ((x.putN (key 0x1220 3) 1).put (key 0x1220 1) t)).reportArm path 1) path (key 0x1220 1) .done)) ∧
  (∀ (s x : State) (path : Path), x = s.taking path (key 0x1220 9) → s.Takes path (key 0x1220 9) 1 false →
    x.startMask.filter (fun d => decide (x.armOf d ≠ 0)) ≠ [] →
    ∃ u : State, exec (.startCancel path) s = .next (u.taken path (key 0x1220 9) .done) ∧ u.get (key 0x1220 3) = 5) ∧
  (∀ (s : State) (t : Word), s.expired (.startTimeReached t) = true →
    ∃ u : State, exec (.startTimeReached t) s = .next u.settleAll ∧
      u.get (key 0x1220 3) ∈ ([2, 7, 8] : List Word)) ∧
  (∀ (s : State) (d : Dom), s.tb.refusedArms.find? (fun r => r.1 == d) = some (d, false) → s.multi d = false →
    ∃ u : State, exec (.rearmOnCauseGone d) s = .next u.settleAll ∧ u = (s.begin.disarm (.rearmOnCauseGone d)).phoryArm d ∧
      (s.faulted = false → (s.dom d).active = true → s.armOutcome (some d) (s.leadTime d) = 1 → s.leadTime d < 2 ^ 64 →
        u.armOf d = s.leadTime d ∧ u.armed (.startTimeReached (BitVec.ofNat 64 (s.leadTime d))) = true ∧
        u.get (key 0x1220 3) = 1 ∧ ∀ r ∈ u.tb.refusedArms, r.1 ≠ d)) ∧
  (∀ (s : State) (d : Dom), s.tb.refusedArms.find? (fun r => r.1 == d) = some (d, true) → s.get (key 0x1200 3) = 2 →
    s.multi d = true → s.role = 2 →
    exec (.rearmOnCauseGone d) s = .next (((s.begin.disarm (.rearmOnCauseGone d)).stewardArm d).settleAll))

/-- The steward sends its heartbeats and arms the next; a worker that hears one, from a steward it has not lost, notes the time and
arms its loss timeout anew, and one that has lost it counts the heartbeat as late; a newly assigned steward's first heartbeat
resumes the job; a loss timeout that wins declares the steward lost and raises it (R29). A missing start report fails the start; a
failed port of the job abandons the packets' steps; a higher route generation and a replaced rank let the steward restart the job
(R53, R123, R203). -/
def Obligations.StewardLinkAndRecoveryAct : Prop :=
  ((∀ s : State, s.expired .stewardHeartbeatSend = true → s.role = 2 →
    ∃ u : State, exec .stewardHeartbeatSend s = .next u.resumeJob.settleAll ∧ (s.job.resume = false → u.resumeJob = u) ∧
      u.get (key 0x2C00 9) = s.now ∧ u.armed .stewardHeartbeatSend = true ∧
      u.out = (s.jobRanks.filter (fun r => decide (r ≠ s.rank))).map (fun r => .frame r .heartbeat) ∧
      u = { s with out := u.out, dict := u.dict, timers := u.timers } ∧ s.KeepsBut u [key 0x2C00 9]) ∧
  (∀ (s : State) (env : Env), s.TakesFrame env 1 → s.get (key 0x2C00 7) = 0 →
    ∃ u : State, exec (.stewardHeartbeat env) s = .next u.resumeJob.settleAll ∧ (s.job.resume = false → u.resumeJob = u) ∧
      u.get (key 0x2C00 9) = s.now ∧ u.armed .stewardTimeout = true) ∧
  (∀ (s : State) (env : Env), s.TakesFrame env 1 → s.get (key 0x2C00 7) ≠ 0 →
    exec (.stewardHeartbeat env) s = .next s.begin.late.settleAll) ∧
  (∀ s : State, s.expired .stewardTimeout = true → s.role = 1 →
    ∃ u : State, exec .stewardTimeout s = .next (State.settleAll
        (u.raise 0x12 (match s.jobDom with | some d => d.val | none => 0) [])) ∧
      u.get (key 0x2C00 7) = 1 ∧ u = { s with out := [], dict := u.dict, timers := u.timers, err := u.err } ∧
      u.armed .stewardTimeout = false ∧ s.KeepsBut u [key 0x2C00 7])) ∧
  ((∀ (s : State) (d : Dom), s.expired .startReportDeadline = true → s.jobDom = some d →
    exec .startReportDeadline s = .next (State.settleAll
      ((((s.begin.expire .startReportDeadline).endStart.toWorkers (.discard d)).discardStart d).stewardArm d))) ∧
  (∀ (s : State) (p : PortNo) (l : List (Dom × Nat)),
    l.filter (fun x => s.begin.disturbLinks.multi x.1 && (s.begin.disturbLinks.dom x.1).active) = [] →
    exec (.linkPortFailure p l) s = .next s.begin.disturbLinks.settleAll) ∧
  (∀ (s x : State) (p : PortNo) (d : Dom) (n : Nat), x = s.begin.disturbLinks → x.multi d = true → (x.dom d).active = true →
    ∃ u : State, exec (.linkPortFailure p [(d, n)]) s = .next (if u.role = 2 then u.linkLost d n
        else (u.upDom d (fun y => { y with abandoned := some n })).toSteward (.linkLoss d n p)).settleAll ∧
      u = (((x.bump (key 0x2109 1)).putN (key 0x2109 2) (d.val * 2 ^ 48 + n)).putN (key 0x2109 3) p.val).raise 0x38 0 []) ∧
  (∀ (s : State) (p : PortNo) (l : List (Dom × Nat)), exec (.linkPortFailure p l) s = .next (s.begin.portFails p l).settleAll) ∧
  (∀ (s x : State) (path : Path) (v : Word), x = s.taking path (key 0x2B00 6) → s.Takes path (key 0x2B00 6) v false →
    x.nat (key 0x2B00 6) < v.toNat →
    ∃ u : State, exec (.routeGenerationWrite path v) s = .next (u.restartJob.taken path (key 0x2B00 6) .done) ∧
      u.get (key 0x2B00 6) = v ∧ u.job.waitRoutes = false ∧
      u = (x.put (key 0x2B00 6) v).disturbLinks.upJob (fun j => { j with waitRoutes := false })) ∧
  (∀ (s x : State) (path : Path) (v : Word) (d : Dom), x = s.taking path (key 0x1305 3) → s.Takes path (key 0x1305 3) v false → x.role = 2 →
    x.jobDom = some d → (x.dom d).active = true →
    ∃ u : State, exec (.rankReplaced path v) s = .next ((u.jobRollback d (u.restartStep d)).taken path (key 0x1305 3) .done) ∧
      u = { x with job := { x.job with lost := x.job.lost.filter (fun r => decide (r.toNat ≠ v.toNat)) } }))

/-- A frame of the job's domain that the chip takes in the role it needs acts as its rule says, and then what follows settles (R53,
R102, R113, R120, R123, R125, R126, R190, R220). -/
def Obligations.StewardFramesOfTheJobAct : Prop :=
  ∀ (s : State) (env : Env) (d : Dom),
    (s.TakesFor env 2 d →
      (∀ (n : Nat) (p : Option Nat) (c : Colophon), exec (.workerStepReport env d n p c) s =
        .next (s.begin.jobReport d env.src n p c).settleAll) ∧
      (∀ (ranks : List (Rank × Nat)) (many : Option Nat), exec (.failureReport env d (.proofFailure ranks many)) s = .next (State.settleAll
        (((s.begin.stewardTaints d env.src ranks many).supersedeNarrow).jobRollback d
          (s.begin.restartStep d)))) ∧
      (∀ (ranks : List (Rank × Nat)) (many : Option Nat), exec (.failureReport env d (.taint ranks many)) s =
        .next (s.begin.stewardTaints d env.src ranks many).settleAll) ∧
      exec (.failureReport env d .poison) s = .next (s.begin.supersedeNarrow.poisonHold d).settleAll ∧
      (∀ k : FailureKind, exec (.failureReport env d k) s = .next (s.begin.stewardFailure d env.src k).settleAll) ∧
      (∀ (k : LCore) (n i : Nat), exec (.crossChipProofRequest env d k n i) s =
        .next (s.begin.placeRemote env.src d k n i).settleAll) ∧
      (∀ (n : Nat) (p : PortNo), exec (.linkLossReport env d n p) s = .next (State.settleAll
        ((s.begin.supersedeNarrow.upJob (fun j => { j with waitRoutes := true })).jobRollback d n))) ∧
      (exec (.sparingCompleteReport env d) s = .next (State.settleAll
        (State.restartJob { s with
          out := []
          job := { s.job with waitSparing := s.job.waitSparing.filter (fun r => decide (r ≠ env.src)) } })))) ∧
    (s.TakesFor env 1 d →
      (∀ (n : Nat) (p : Option Nat), ∃ u : State, exec (.jobGalleyClear env d n p) s = .next u.settleAll ∧
        u = s.begin.jobClearHere d n p ∧ ∀ m, p = some m → ∃ q, u.job.proven = some q ∧ m ≤ q) ∧
      (∀ n : Nat, exec (.remoteTaint env d n) s = .next (s.begin.remoteTaintHere d n).settleAll) ∧
      (∃ u : State, exec (.stepDiscardOrder env d) s = .next u.settleAll ∧ u = s.begin.discardStart d ∧
        ((s.dom d).running = true → u = (s.begin.putN (key 0x1220 3) 6).rollback d ((s.begin.putN (key 0x1220 3) 6).stepOf d) none) ∧
        ((s.dom d).running = false → u.armOf d = 0 ∧ u.get (key 0x1220 3) = 6)) ∧
      (∀ (k : LCore) (n : Nat) (r : Rank) (i : Nat), exec (.crossChipProofIssue env d k n (r, i)) s = .next (State.settleAll
        (State.placeWaiting { s with
          out := [], proofs := s.proofs ++ [{ newProof d k n i false with served := some r }] }))) ∧
      (exec (.stewardHoldOrder env d none) s =
        .next (s.begin.upDom d (fun x => { x with jobHeld := some 0 })).settleAll) ∧
      (∀ n : Nat, s.lockstep d ≠ 2 → exec (.stewardHoldOrder env d (some (n, none))) s =
        .next (s.begin.upDom d (fun x => { x with jobHeld := some (n + 1) })).settleAll) ∧
      (∀ n : Nat, s.lockstep d = 2 → ∃ u : State, exec (.stewardHoldOrder env d (some (n, none))) s = .next u.settleAll ∧
        u.get (key 0x2C10 6) = 2 ∧ u.job.diverged = some n ∧ u.doms = (s.upDom d (fun x => { x with jobHeld := some (n + 1) })).doms) ∧
      (∀ (n : Nat) (k : LCore), exec (.stewardHoldOrder env d (some (n, some k))) s = .next (State.settleAll
        (s.begin.addProof { newProof d k n n true with narrowing := true }).placeWaiting)) ∧
      (∀ (target : Nat) (inc : BitVec 4), ∃ u : State,
        exec (.stewardRollbackOrder env d target inc) s =
          .next (if (u.dom d).sparings.isEmpty then u else u.sparingNext d).settleAll ∧
        u = State.upDom (State.rollback (s.begin.upDom d (fun x => { x with jobHeld := none })) d
          (max ((target + 1) % 2 ^ 48) ((s.begin.upDom d (fun x => { x with jobHeld := none })).restartStep d))
          (some inc)) d (fun x => { x with sparingWaits := false })))

/-- Frames that name no domain act on the steward's record of the job: a start status, a lost rank, a freeze report, a pair's
answers to the narrowing of a divergence, and a freeze (R53, R220, R221, R239, R287, R291). -/
def Obligations.StewardFramesOfTheChipAct : Prop :=
  (∀ (s : State) (env : Env) (st : Byte) (d : Dom), s.TakesFrame env 2 → s.jobDom = some d → s.job.armT = none →
    exec (.startStatusReport env st) s = .next s.begin.late.settleAll) ∧
  (∀ (s : State) (env : Env) (st : Byte) (d : Dom), s.TakesFrame env 2 → s.jobDom = some d → s.job.armT ≠ none →
    (st = 3 ∨ st = 4) → exec (.startStatusReport env st) s = .next (s.begin.startFailed d).settleAll) ∧
  (∀ (s : State) (env : Env) (st : Byte) (d : Dom), s.TakesFrame env 2 → s.jobDom = some d → s.job.armT ≠ none → st ≠ 3 → st ≠ 4 →
    ∃ u : State, exec (.startStatusReport env st) s = .next u.settleAll ∧ (env.src, st) ∈ u.job.arms ∧
      u.job.arms = s.job.arms.filter (fun a => decide (a.1 ≠ env.src)) ++ [(env.src, st)]) ∧
  (∀ (s : State) (env : Env), s.TakesFrame env 2 → s.jobDom = none →
    exec (.faultFrame env) s = .next (State.settleAll { s with
      out := []
      job := { s.job with lost := s.job.lost.filter (fun r => decide (r ≠ env.src)) ++ [env.src] } })) ∧
  (∀ (s : State) (env : Env) (d : Dom), s.TakesFrame env 2 → s.jobDom = some d → s.job.narrow = none →
    exec (.faultFrame env) s = .next (State.settleAll { s with
      out := []
      job := { s.job with lost := s.job.lost.filter (fun r => decide (r ≠ env.src)) ++ [env.src] } })) ∧
  (∀ (s : State) (env : Env) (d : Dom), s.TakesFrame env 2 → s.jobDom = some d →
    exec (.faultFrame env) s = .next (s.begin.stewardFailure d env.src .rankEnded).settleAll) ∧
  (∀ (s : State) (env : Env) (frozen : Bool), s.TakesFrame env 2 →
    ∃ u : State, exec (.freezeReport env frozen) s = .next u.settleAll ∧
      (env.src ∈ u.job.frozen ↔ frozen = true) ∧ u = { s with out := [], job := u.job, timers := u.timers }) ∧
  (∀ (s : State) (env : Env) (f : NarrowFetch) (n : Narrow), s.TakesFrame env 2 → s.job.narrow = some n → env.src = s.partner →
    exec (.narrowingFetchResponse env f) s = .next (State.settleAll (if s.narrowHeld n then
      { s with out := [], job := { s.job with narrow := some { n with waiting := n.waiting ++ [f] } } }
      else s.begin.narrowFetched n f))) ∧
  (∀ (s : State) (env : Env) (l : List WorkDigest) (n : Narrow), s.TakesFrame env 2 → s.job.narrow = some n →
    (n.stage = 3 ∨ n.stage = 4) → env.src = s.partner →
    exec (.workDigestReport env l) s = .next (State.settleAll (State.narrowDigests
      { s with out := [], job := { s.job with narrow := some { n with
        digests := n.digests.filter (fun x => decide (x.1 ≠ env.src)) ++ [(env.src, l)] } } }))) ∧
  (∀ (s : State) (env : Env) (at_ : Option Word), s.TakesFrame env 2 →
    exec (.freezeFrame env at_) s = .next (s.begin.spreadFreeze env.src at_.isSome).settleAll) ∧
  (∀ (s : State) (env : Env), s.TakesFrame env 1 →
    exec (.freezeFrame env none) s = .next (s.begin.freezeTrigger 5 0 0 env.src).settleAll) ∧
  (∀ (s : State) (env : Env) (t : Word), s.TakesFrame env 1 →
    ∃ u : State, exec (.freezeFrame env (some t)) s = .next u.settleAll ∧ u.get (key 0x2800 3) = t ∧
      u.frz.spread = some env.src ∧ u.armed .timedFreeze = true)

/-- A work item whose check the probe uses is checked when its result arrives: a result within its bounds closes the work, one out
of them closes it and raises a mismatch of its kind; work that is not checked is closed; a check that times out is a mismatch of
kind 13 (R57 to R78). -/
def Obligations.GalleyChecksConclude : Prop :=
  (∀ (s u : State) (w : Work) (t : Transfer), s.begin.takeResult w 2 = (u, true) →
    exec (.transferCheck w t) s = .next (if residue t.words = (t.copies * sourceResidue t.source) % resMod
      then ((u.countCheck w 6).closeWork w).settleAll
      else ((u.countCheck w 6).conclude w (finding (some 12) (sourceField t.source))).settleAll)) ∧
  (∀ (s u : State) (w : Work) (t : Transfer), s.begin.takeResult w 2 = (u, false) →
    exec (.transferCheck w t) s = .next (u.closeWork w).settleAll) ∧
  (∀ (s u : State) (w : Work) (t : Tile), s.begin.takeResult w 0 = (u, false) →
    exec (.tileCheck w t) s = .next (u.closeWork w).settleAll) ∧
  (∀ (s u x : State) (w : Work) (t : Tile), s.begin.takeResult w 0 = (u, true) → exactFormat t.fmt = none → x = u.countCheck w 2 →
    ∃ v : State, exec (.tileCheck w t) s = .next (v.concludeAll w [columnFinding
        (tileColumns t none (x.coefOf w.origin (gammaOf t.fmt)) x.free) false, rounderFinding t]).settleAll ∧
      v = { x with free := x.free + 64, dict := v.dict } ∧ x.KeepsBut v [key 0x2002 4]) ∧
  (∀ (s u x : State) (w : Work) (t : Tile) (f : Int × Nat) (l : Int) (wide : Bool), s.begin.takeResult w 0 = (u, true) →
    exactFormat t.fmt = some f → tileWindow t f.1 f.2 = (l, wide) → (wide = true → w.origin ≠ .specimen) →
    x = (if wide then (u.countCheck w 2).exceeded w t l else u.countCheck w 1) →
    ∃ v : State, exec (.tileCheck w t) s = .next (v.concludeAll w [columnFinding (tileColumns t (some (l, wide))
        (x.coefOf w.origin (gammaOf t.fmt)) x.free) (!wide), rounderFinding t]).settleAll ∧
      v = { x with free := x.free + 64, dict := v.dict } ∧ x.KeepsBut v [key 0x2002 4]) ∧
  (∀ (s u x : State) (w : Work) (t : Tile) (f : Int × Nat) (l : Int), s.begin.takeResult w 0 = (u, true) →
    exactFormat t.fmt = some f → tileWindow t f.1 f.2 = (l, true) → w.origin = .specimen → x = u.bump (engKey w.core w.engine 1) →
    exec (.tileCheck w t) s = .next (State.settleAll (State.concludeAll { x with free := x.free + 64 } w
      [columnFinding (tileColumns t (some (l, true)) (x.coefOf w.origin (gammaOf t.fmt)) x.free) false, rounderFinding t]))) ∧
  (∀ (s u : State) (w : Work) (op : IntOp) (a b c result lo hi : Int) (wrapped : Bool), op ≠ .shiftRight → op ≠ .shiftLeft →
    s.begin.takeResult w 1 = (u, true) →
    exec (.vectorOpCheck w (.residue op a b c result lo hi wrapped)) s = .next ((u.countCheck w 5).conclude w (finding
      (if intApply op (a % resMod) (b % resMod) (c % resMod) % resMod = result % resMod ∧ wrapped = intWraps op result lo hi
       then none else some 5) 0)).settleAll) ∧
  (∀ (s u : State) (w : Work) (a b : List Word) (x y : Sys2Proof.Num), s.begin.takeResult w 1 = (u, true) →
    exec (.vectorOpCheck w (.reduction a b)) s = .next ((u.countCheck w 5).conclude w (finding
      (if a = b then none else some 6) 0)).settleAll ∧
    exec (.vectorOpCheck w (.unit x y)) s = .next ((u.countCheck w 5).conclude w (finding
      (if unitClose x y then none else some 6) 0)).settleAll) ∧
  (∀ (s u : State) (w : Work) (v : VecOp), vecEnds v = true → s.begin.takeResult w (vecSwitch v) = (u, true) →
    exec (.vectorOpCheck w v) s = .next (u.vectorCheck w v).settleAll) ∧
  (∀ (s u : State) (w : Work) (v : VecOp), vecEnds v = true → s.begin.takeResult w (vecSwitch v) = (u, false) →
    exec (.vectorOpCheck w v) s = .next (u.closeWork w).settleAll) ∧
  (∀ (s u : State) (w : Work) (row block n : Nat) (mx : Option Dy) (a b c : Dy), u = s.begin.addEdges w.core w.edges →
    u.dormant w.core = false → (u.checksOf w.origin).getLsbD (vecSwitch (.attnBlock row block mx n a b c)) = true →
    exec (.vectorOpCheck w (.attnBlock row block mx n a b c)) s =
      .next (u.setRow ((u.row w row).add block mx n a b c)).settleAll) ∧
  (∀ (s u : State) (w : Work) (row block : Nat) (a b : Dy) (alpha : BitVec 32) (ok : Bool), u = s.begin.addEdges w.core w.edges →
    u.dormant w.core = false → (u.checksOf w.origin).getLsbD 3 = true → (u.row w row).bad = false →
    ok = (decide (block ∉ (u.row w row).records) &&
      alphaOk alpha (Config.checkerExp (a.sub b)) (u.coefOf w.origin 5)) →
    ∃ v : State, v = u.setRow { u.row w row with records := (u.row w row).records ++ [block], bad := !ok } ∧
      exec (.rescaleRecord w row block a b alpha) s =
        .next (if ok then v else v.mismatch ((finding (some 8) 0).mismatch v w 8)).settleAll) ∧
  (∀ (s : State) (w : Work), s.expired (.checkTimeout w) = true →
    ∃ u : State, exec (.checkTimeout w) s = .next (u.conclude w (finding (some 13)
        (if w.engine = 6 then (Config.freeWord s.free).toNat else 0))).settleAll ∧
      u.checkLate = s.checkLate ++ [workId w] ∧ u.armed (.checkTimeout w) = false ∧
      u = { s with out := [], timers := u.timers, checkLate := u.checkLate, free := s.free + 1, err := u.err }) ∧
  (∀ s : State, s.expired .suspectSweep = true →
    ∃ u : State, u = (s.begin.disarm .suspectSweep).sweep ∧
      exec .suspectSweep s = .next (if u.suspects.isEmpty && u.proofSuspects.isEmpty then u else u.armSweep))

/-- What reaches the probe of a core that is present is taken in the order it comes, stamped within the tick, after the edges of the
core's clock that it counts: work issued under its check is open until its result, work completed is timed, arrivals and receipts
mark the core's record, cycles are added, a drain that was asked for is reported; an absent core's probe is dormant. A clock that
resumed is logged, and the core's check timeouts run again (R4, R35, R36, R43, R77, R78, R118, R291, R301, R311). A step boundary of
a running, unheld domain: every core has arrived, and the barrier completes when nothing keeps it (R43); what keeps it holds it,
with its reasons (R106, R107, R112, R124, R165, R367); at the last step number the job ends (R44). In any other state it does
nothing but settle. -/
def Obligations.ProbeEventsAndBoundariesAct : Prop :=
  ((∀ (s : State) (c : PCore) (unit : Fin 8) (n : Nat) (ev : ProbeEv), s.fp c ≠ 4 →
    ∃ u : State, exec (.probeEvent c unit n ev) s = .next ({ u with now := s.now } : State).settleAll ∧
      u = (State.addEdges { s with
        out := [], free := s.free + 1
        now := BitVec.ofNat 64 (min (s.t + (Config.freeWord s.free).toNat % 7) (2 ^ 64 - 1)) } c n).probeTakes c unit ev) ∧
  (∀ (s : State) (c : PCore) (unit : Fin 8) (n : Nat) (ev : ProbeEv), s.fp c = 4 →
    exec (.probeEvent c unit n ev) s = .next { s with out := [] }) ∧
  (∀ (x : State) (c : PCore) (unit : Fin 8) (w : Work) (d : Dom) (n : Nat), w.origin = .step d n → x.classOn w = true →
    x.probeTakes c unit (.issued w) = x.upStep d n (fun r => { r with cores := r.cores.map (fun y =>
      if y.phys = w.core then { y with work := y.work ++ [(w.engine, w.item)] } else y) })) ∧
  (∀ (x : State) (c : PCore) (unit : Fin 8) (w : Work), x.classOn w = true → x.fp w.core ∉ ([2, 3, 4, 5] : List Nat) →
    ((x.probeTakes c unit (.completed w)).armed (.checkTimeout w) = true ∧
     (x.probeTakes c unit (.completed w)).get (engKey w.core w.engine 8) = x.now)) ∧
  (∀ (x : State) (c : PCore) (unit : Fin 8) (d : Dom) (n : Nat),
    x.probeTakes c unit (.barrier d n) = x.upStep d n (fun r => { r with cores := r.cores.map (fun y =>
      if y.phys = c then { y with arrived := true } else y) }) ∧
    x.probeTakes c unit (.received d n) = x.upStep d n (fun r => { r with cores := r.cores.map (fun y =>
      if y.phys = c then { y with recvOther := true } else y) })) ∧
  (∀ (x : State) (c : PCore) (unit : Fin 8) (b i : Nat) (l : List Nat), unit.val < 7 →
    x.probeTakes c unit (.cycles b i l) =
      x.setCounters (7 * c.val + unit.val) ((x.countersOf (7 * c.val + unit.val)).add b i l)) ∧
  (∀ (x : State) (c : PCore) (unit : Fin 8), ((x.probeTakes c unit .drained).probe c).drained =
    ((x.probe c).drained || (x.probe c).drain)) ∧
  (∀ (s : State) (c : PCore) (edge : Word) (reason : BitVec 16), reason ≠ 1 →
    ∃ u : State, exec (.clockResumed c edge reason) s = .next u.settleAll ∧
      u.tb.log = s.tb.log.map (fun e => if e.1 = c.val + 1 ∧ e.2.2 = 0 then (e.1, e.2.1, s.now) else e))) ∧
  (∀ (s y : State) (d : Dom) (n : Nat) (b : BitVec 13), y = s.begin.arriveAll d →
    ((s.dom d).active = true → (s.dom d).running = true → (s.dom d).held = none →
      exec (.stepBoundary d n b) s = .next (y.tryBarrier d n b).settleAll) ∧
    ((s.dom d).active = true → (s.dom d).running = true → (s.dom d).held = none → (s.dom d).suspended = false → s.doms.length = 8 →
      ((s.stepOf d ≠ 2 ^ 48 - 1 → y.barrierHolds d = (false, false, false, false) → y.tooDeep d = false →
        exec (.stepBoundary d n b) s = .next (y.completeBarrier d n b false).settleAll) ∧
      (s.stepOf d ≠ 2 ^ 48 - 1 → y.barrierHolds d ≠ (false, false, false, false) →
        ∃ (u : State) (h : Held), exec (.stepBoundary d n b) s = .next u.settleAll ∧ (u.dom d).held = some h ∧ h.cycles = n ∧
          h.disturbed = b ∧ h.proofing = ((y.barrierHolds d).1 || y.tooDeep d) ∧ h.ledger = (y.barrierHolds d).2.1 ∧
          h.drain = (y.barrierHolds d).2.2.1) ∧
      (s.stepOf d = 2 ^ 48 - 1 → exec (.stepBoundary d n b) s = .next ((y.raise 0x15 d.val []).endJob d 5).settleAll))) ∧
    (((s.dom d).active = false ∨ (s.dom d).running = false ∨ (s.dom d).held ≠ none) →
      exec (.stepBoundary d n b) s = .next s.begin.settleAll))

/-- An awaited proof that equals the core's colophon and count of units passes; one that differs goes to its revise; a proof run for
another chip is answered; a timed-out proof is lost, one that cannot be proofed is told and issued again; a revise decides whose
fault it was (R90 to R94, R115, R126). A result that no proof awaits is counted as late and changes nothing else but what settles
(R97). -/
def Obligations.ProofCommandsDecide : Prop :=
  ((∀ (s u : State) (d : Dom) (k : LCore) (n : Nat) (r : Option Rank) (c : Colophon) (m : Nat) (p : Proof) (x : CoreRec),
    s.awaitedProof d k n r = some p → p.served = none → u = (s.begin.served p.core).dwellUnit p.core →
    u.coreRec? d n k = some x →
    exec (.proofResult d k n r c m) s =
      .next (if x.acc = c ∧ x.units = m then u.proofPasses p else u.proofDiffers p (c, m)).settleAll) ∧
  (∀ (s : State) (d : Dom) (k : LCore) (n : Nat) (q : Rank) (c : Colophon) (m : Nat) (p : Proof),
    s.awaitedProof d k n (some q) = some p → p.served = some q →
    exec (.proofResult d k n (some q) c m) s = .next (s.begin.answerProof p q (.proofResult d k n c m)).settleAll ∧
    exec (.proofNotProofable d k n (some q)) s = .next (s.begin.answerProof p q (.proofNotProofable d k n)).settleAll) ∧
  (∀ (s : State) (d : Dom) (k : LCore) (n : Nat) (r : Option Rank) (p : Proof),
    s.awaitedProof d k n r = some p → p.served = none →
    exec (.proofNotProofable d k n r) s = .next (State.settleAll (State.narrowingEnd (State.reproof
      (((((s.begin.resultWins p true).bump (key 0x2105 0xE)).raise 0x36 0 []).dropProof p)) d k) p false))) ∧
  (∀ (s : State) (d : Dom) (k : LCore) (n i : Nat), s.expired (.proofTimeout d k (n, i)) = true →
    exec (.proofTimeout d k (n, i)) s = .next (State.settleAll
      ((s.proofs.filter (fun p => p.served.isNone && p.timer == .proofTimeout d k (n, i))).foldl
        (fun (u : State) p => u.loseProof p) (s.begin.expire (.proofTimeout d k (n, i)))))) ∧
  (∀ (s : State) (d : Dom) (k : LCore) (n : Nat) (p : Proof), s.openRevise d k n = some p →
    exec (.reviseResult d k n none) s = .next (s.begin.loseRevise p).settleAll) ∧
  (∀ (s u : State) (d : Dom) (k : LCore) (n : Nat) (p : Proof) (r : Colophon × Nat), s.openRevise d k n = some p →
    u = (s.begin.served p.rcore).resultWins p true →
    exec (.reviseResult d k n (some r)) s = .next
      (if (u.coreRec? d n k).map (fun c => (c.acc, c.units)) = some r then u.proofCoreWrong p
       else if p.result = some r then u.failProof p 1 else u.failProof p 2).settleAll)) ∧
  ((∀ (s : State) (d : Dom) (k : LCore) (n : Nat) (r : Option Rank) (c : Colophon) (m : Nat), s.awaitedProof d k n r = none →
    ∃ u : State, exec (.proofResult d k n r c m) s = .next u.settleAll ∧
      exec (.proofNotProofable d k n r) s = .next u.settleAll ∧
      u = { s with out := [], dict := u.dict } ∧ s.KeepsBut u [key 0x2105 7] ∧ s.Counts u (key 0x2105 7)) ∧
  (∀ (s : State) (d : Dom) (k : LCore) (n : Nat) (r : Option (Colophon × Nat)), s.openRevise d k n = none →
    ∃ u : State, exec (.reviseResult d k n r) s = .next u.settleAll ∧
      u = { s with out := [], dict := u.dict } ∧ s.KeepsBut u [key 0x2105 7] ∧ s.Counts u (key 0x2105 7)))

/-- The ledger notes what a step does to its pages, refuses to overwrite what is committed, and keeps back the spill of a page that
an uncommitted step wrote; once its walk ends the domain goes on with its sparing, waits for the host after poison, or is armed anew
(R110 to R113, R190, R386). A KV page whose tag fits is filled, counted and reported, and clears the poison of its words; one
refilled after a failure is told; a bad one is fetched again as often as object 0x2300.06 says, then its words are poisoned and the
mismatch is raised with its record (R163, R179 to R181). -/
def Obligations.LedgerAndKvCommandsAct : Prop :=
  ((∀ (s x : State) (d : Dom), (s.dom d).walk = true → x = s.begin.upDom d (fun y => { y with walk := false }) →
    exec (.ledgerWalkDone d) s = .next (x.afterWalk d).settleAll ∧
    (s.doms.length = 8 → (x.dom d).walk = false ∧
      ((s.dom d).sparings ≠ [] → exec (.ledgerWalkDone d) s = .next (x.sparingNext d).settleAll) ∧
      ((s.dom d).sparings = [] → (s.dom d).poison ≠ none → exec (.ledgerWalkDone d) s = .next x.settleAll) ∧
      ((s.dom d).sparings = [] → (s.dom d).poison = none → s.faulted = false → (s.dom d).active = true →
        s.armOutcome (some d) (s.leadTime d) = 1 → s.leadTime d < 2 ^ 64 →
        ∃ u : State, exec (.ledgerWalkDone d) s = .next u.settleAll ∧ u.armOf d = s.leadTime d ∧ u.get (key 0x1220 3) = 1 ∧
          u.armed (.startTimeReached (BitVec.ofNat 64 (s.leadTime d))) = true))) ∧
  (∀ (s : State) (d : Dom) (k : LCore) (n : Nat) (page : Word) (pos count : Nat), (s.dom d).active = true →
    (s.dom d).step? n ≠ none → ((s.dom d).page page).committedLen ≤ pos →
    exec (.kvPageWrite d k n page (.append pos count)) s = .next (State.settleAll (s.begin.putPage d
      (((s.dom d).page page).setLen n (max ((s.dom d).page page).len (pos + count)))))) ∧
  (∀ (s : State) (d : Dom) (k : LCore) (n : Nat) (page : Word) (pos count : Nat), (s.dom d).active = true →
    (s.dom d).step? n ≠ none → pos < ((s.dom d).page page).committedLen →
    exec (.kvPageWrite d k n page (.append pos count)) s = .next (s.begin.raise 0x34 d.val []).settleAll) ∧
  (∀ (s : State) (d : Dom) (k : LCore) (n : Nat) (page : Word), (s.dom d).active = true → (s.dom d).step? n ≠ none →
    exec (.kvPageWrite d k n page .free) s = .next (State.settleAll (s.begin.putPage d
      { (s.dom d).page page with freed := some (((s.dom d).page page).freed.getD n) }))) ∧
  (∀ (s : State) (d : Dom) (c : PCore) (page : Word) (data : Bytes) (n : Nat) (m : Bool), (s.dom d).active = true →
    (s.dom d).pages.any (fun g => g.page == page) = true →
    ∃ u : State, exec (.kvSpill d c page data n m) s = .next u.settleAll ∧
      u = { s with out := [], dict := u.dict, doms := u.doms } ∧ s.KeepsBut u [key 0x2105 0xC] ∧ s.Counts u (key 0x2105 0xC) ∧
      (s.doms.length = 8 → (u.dom d).spills = (s.dom d).spills ++
        [{ step := s.runningStep d, core := c, page := page, data := data, tokens := n, marked := m }])) ∧
  (∀ (s : State) (d : Dom) (c : PCore) (page : Word) (data : Bytes) (n : Nat), (s.dom d).active = true →
    (s.dom d).pages.any (fun g => g.page == page) = false →
    (∃ u : State, exec (.kvSpill d c page data n false) s = .next u.settleAll ∧
      u.out = [.kvSpill page (pageTag page (s.jobId d) data n)] ∧ u = { s with out := u.out, dict := u.dict } ∧
      s.KeepsBut u [key 0x2302 0xA] ∧ s.Counts u (key 0x2302 0xA)) ∧
    exec (.kvSpill d c page data n true) s = .next (State.settleAll
      (s.begin.consume d (s.runningStep d) c 6 3 (BitVec.ofNat 64 (c.val * 2 ^ 32)))))) ∧
  (∀ (s x : State) (d : Dom) (c : PCore) (off : BitVec 30) (page : Word) (units n a : Nat) (data tag : Bytes),
    a = (match s.kv.find? (fun k => k.d == d && k.core == c && k.offset == off && k.page == page) with
      | some k => k.attempts
      | none => 0) →
    x = { s with out := [], kv := s.kv.filter (fun k => !(k.d == d && k.core == c && k.offset == off && k.page == page)) } →
    (kvCheck data tag page (s.jobId d) units n = 0 →
      ∃ u : State, u = ((x.clearPoison c (off.toNat / 32) (2 * units)).bump (key 0x2302 0xB)).send (.kvDone page true) ∧
        exec (.kvFill d c off page units n data tag) s = .next (if 0 < a then u.raise 0x5A d.val [] else u).settleAll) ∧
    (kvCheck data tag page (s.jobId d) units n ≠ 0 → a + 1 ≤ s.natFor d (key 0x2300 6) →
      exec (.kvFill d c off page units n data tag) s = .next { x with
        kv := x.kv ++ [{ d := d, core := c, offset := off, page := page, attempts := a + 1 }] }) ∧
    (kvCheck data tag page (s.jobId d) units n ≠ 0 → s.natFor d (key 0x2300 6) < a + 1 →
      ∃ u : State, u = (((x.bump (key 0x2302 0xB)).bump (key 0x2302 0xC)).poisonWords c (off.toNat / 32) (2 * units)).send
          (.kvDone page false) ∧
        exec (.kvFill d c off page units n data tag) s = .next (u.raiseRecord 0x59 d.val (kvRecord u.t page (u.jobId d)
          (fieldAt tag 0 8) (crc64 (crc64 0 data) (slice tag 8 24)).toNat c.val d.val (kvCheck data tag page (s.jobId d) units n)
          (a + 1)) false (key 0x2303 2)).settleAll))

/-- Poison that a step's work consumes stops its domain, elsewhere it is counted and the work lost; the host's action on a stopped
domain ends the job or rolls it back (R163 to R167). -/
def Obligations.PoisonCommandsAct : Prop :=
  (∀ (s : State) (w : Work) (cause : Fin 5) (src : Word) (d : Dom) (n : Nat), w.origin = .step d n → (s.dom d).active = true →
    (s.dom d).step? n ≠ none → (w.core, w.engine, w.item) ∉ s.oldWork →
    exec (.poisonConsumed w cause src) s = .next (State.settleAll
      ((s.begin.addEdges w.core w.edges).consume d n w.core w.engine.val cause.val src))) ∧
  (∀ (s : State) (w : Work) (cause : Fin 5) (src : Word) (d : Dom) (n : Nat), w.origin = .step d n →
    ((s.dom d).active = false ∨ (s.dom d).step? n = none ∨ (w.core, w.engine, w.item) ∈ s.oldWork) →
    exec (.poisonConsumed w cause src) s = .next (State.settleAll ((s.begin.addEdges w.core w.edges).bump (key 0x2301 0x12)))) ∧
  (∀ (s u : State) (w : Work) (cause : Fin 5) (src : Word), u = (s.begin.addEdges w.core w.edges).bump (key 0x2301 0x12) →
    (w.origin = .specimen → exec (.poisonConsumed w cause src) s = .next (u.repeatSpecimen w.core).settleAll) ∧
    (∀ r, w.origin = .cross r → exec (.poisonConsumed w cause src) s =
      .next ((u.endCrosses w.core (fun x => x.id == r)).probeRun w.core).settleAll) ∧
    (w.origin = .regen → exec (.poisonConsumed w cause src) s = .next (u.endRegen 5).settleAll) ∧
    (∀ d k n p, w.origin = .proof d k n → u.proofOn d k n w.core = some p → exec (.poisonConsumed w cause src) s =
      .next (if p.rcore = some w.core then u.loseRevise p else u.loseProof p).settleAll)) ∧
  (∀ (s x : State) (path : Path) (d : Dom), x = s.taking path (domKey 0x2301 9 d) → s.Takes path (domKey 0x2301 9 d) 1 false →
    x.get (domKey 0x2301 1 d) = 1 →
    exec (.poisonEndJob path d) s = .next (State.taken
      ((x.putN (domKey 0x2301 1 d) 2).endJob d (originOf path)) path (domKey 0x2301 9 d) .done)) ∧
  (∀ (s x : State) (path : Path) (d : Dom), x = s.taking path (domKey 0x2301 9 d) → s.Takes path (domKey 0x2301 9 d) 2 false →
    x.get (domKey 0x2301 1 d) = 1 →
    exec (.poisonRollbackResume path d) s = .next ((poisonResume d x).1.taken path (domKey 0x2301 9 d) .done)) ∧
  (∀ (s x u v : State) (path : Path) (d : Dom), x = s.taking path (domKey 0x2301 9 d) → s.Takes path (domKey 0x2301 9 d) 2 false →
    x.get (domKey 0x2301 1 d) = 1 → u = x.putN (domKey 0x2301 1 d) 3 → u.get (domKey 0x2301 1 d) = 3 ∧
    (u.multi d = false → v = (u.rollbackHere d (u.dom d).base).upDom d (fun y => { y with poison := none }) →
      exec (.poisonRollbackResume path d) s = .next (State.taken (if (v.dom d).walk then v else v.afterWalk d)
        path (domKey 0x2301 9 d) .done)) ∧
    (u.multi d = true → u.role ≠ 2 →
      exec (.poisonRollbackResume path d) s = .next (State.taken (u.toSteward (.failure d .rollback)) path (domKey 0x2301 9 d) .done)))

/-- A load of global time waits for its pulse in pulse mode and is done at once in host mode; the pulse loads it, or in a chip whose
time is set measures the offset; a missing pulse is holdover (R34, R37, R38). -/
def Obligations.PulseCommandsSetTime : Prop :=
  (∀ (s x : State) (path : Path) (v : Word), x = s.taking path (key 0x1200 4) → s.Takes path (key 0x1200 4) v false →
    x.nat (key 0x1200 2) = 0 → x.t ≤ v.toNat + x.nat (key 0x1200 6) →
    exec (.loadAtPulse path v) s = .next (State.taken
      (State.showTime { x with tb := { x.tb with pendingLoad := some (v, path), base := max x.tb.base 1 } })
      path (key 0x1200 4) .progress)) ∧
  (∀ (s x : State) (path : Path) (v : Word), x = s.taking path (key 0x1200 4) → s.Takes path (key 0x1200 4) v false →
    x.nat (key 0x1200 2) = 2 → x.t ≤ v.toNat →
    exec (.loadAtPulse path v) s = .next ((x.load v.toNat 0).taken path (key 0x1200 4) .done)) ∧
  (∀ (s : State) (w : Fin 7) (v : Word) (p : Path), s.nat (key 0x1200 2) = 0 → s.tb.pendingLoad = some (v, p) →
    s.t + w.val ≤ v.toNat + s.nat (key 0x1200 6) →
    exec (.tpulseEdge w) s = .next (State.settleAll (State.armWatch
      ((s.begin.load (v.toNat + s.nat (key 0x1200 6)) w.val).endWrite (key 0x1200 4) .completed 0)))) ∧
  (∀ (s : State) (w : Fin 7), s.nat (key 0x1200 2) = 0 → s.tb.pendingLoad = none → s.tb.timeSet = true →
    exec (.tpulseEdge w) s = .next (s.begin.pulse (s.t + w.val)).settleAll) ∧
  (∀ s : State, s.expired .tpulseWatchTimeout = true → s.nat (key 0x1200 2) = 0 →
    exec .tpulseWatchTimeout s = .next ((s.begin.expire .tpulseWatchTimeout).enterHoldover).settleAll)

/-- A worker asks for the time each beacon period; an exchange that ends measures the offset and sets the filtered offset to work, a
reply that is not awaited is late; a chip that follows no root stops asking; silence is holdover; the time root answers with its own
time (R38 to R40). The loss of the reference is raised once; the changeover to the backup oscillator is counted and shown; the
reference's return ends both (R41). -/
def Obligations.BeaconAndReferenceCommandsKeepTime : Prop :=
  ((∀ s : State, s.expired .beaconPeriod = true → s.beacons = true →
    ∃ u : State, exec .beaconPeriod s = .next u.settleAll ∧ u.tb = { s.tb with beacon := some s.now } ∧
      u.out = [.beacon s.now] ∧ u.armed .beaconPeriod = true ∧
      u = { s with out := u.out, dict := u.dict, tb := u.tb, timers := u.timers } ∧ s.KeepsBut u [key 0x1201 9]) ∧
  (∀ (s : State) (t1 t2 t3 t4 : Word) (n : Nat), s.tb.beacon = some t1 →
    ∃ (u : State) (off : Int), exec (.beaconExchange t1 t2 t3 t4 n) s =
        .next ((u.measure off).correct (Config.beaconFilter s.tb.offset off)).showTime.settleAll ∧
      off = (t2.toNat : Int) - t1.toNat - (((t4.toNat : Int) - t1.toNat - ((t3.toNat : Int) - t2.toNat) -
          (if s.get (key 0x1201 5) = 1 then (n : Int) else 0)) / 2 + (s.get (key 0x1201 6)).toInt) ∧
      u.tb.beacon = none ∧ u.tb.holdover = false ∧ u.armed .beaconLossHoldover = true) ∧
  (∀ (s : State) (t1 t2 t3 t4 : Word) (n : Nat), s.tb.beacon ≠ some t1 →
    exec (.beaconExchange t1 t2 t3 t4 n) s = .next s.begin.late) ∧
  (∀ s : State, s.expired .beaconPeriod = true → s.beacons = false →
    ∃ u : State, exec .beaconPeriod s = .next u ∧ u.armed .beaconPeriod = false ∧
      u = { s with out := [], timers := u.timers, err := u.err }) ∧
  (∀ s : State, s.expired .beaconLossHoldover = true → s.beaconMode = true →
    exec .beaconLossHoldover s = .next ((s.begin.expire .beaconLossHoldover).enterHoldover).settleAll) ∧
  (∀ (s : State) (r : Rank) (t1 : Word), s.isRoot = true →
    exec (.beaconAtTimeRoot r t1) s = .next { s with out := [.beaconReply r t1 s.now s.now] })) ∧
  ((∀ s : State, s.tb.refLost = false →
    exec .refclkLoss s = .next (State.settleAll
      (State.raise { s with out := [], tb := { s.tb with refLost := true } } 0x14 0 []))) ∧
  (∀ s : State, s.tb.refLost = true → s.tb.backup = false →
    ∃ u : State, exec .backupChangeover s = .next (u.showTime).settleAll ∧ u.tb = { s.tb with backup := true, since := s.now } ∧
      u = { s with out := [], dict := u.dict, tb := u.tb } ∧ s.KeepsBut u [key 0x1200 0xD] ∧ s.Counts u (key 0x1200 0xD)) ∧
  (∀ s : State, s.tb.refLost = true → s.nat (key 0x1200 2) = 2 →
    exec .refclkReturn s = .next (State.settleAll (State.showTime
      { s with out := [], free := s.free + 1, tb := { s.tb with refLost := false, backup := false } }))) ∧
  (∀ s : State, s.tb.refLost = true → s.tb.backup = false →
    exec .refclkReturn s = .next (State.settleAll (State.showTime
      { s with out := [], free := s.free + 1, tb := { s.tb with refLost := false, backup := false } }))))

/-- Specimen runs are scheduled each interval, judged by their digests and self-checks when they end, and by the clock when they do
not (R129 to R133). -/
def Obligations.SpecimenCommandsScreen : Prop :=
  (∀ s : State, s.expired .specimenInterval = true →
    ∃ u : State, u = s.begin.arm .specimenInterval (sec (s.nat (key 0x2200 2))) ∧
      exec .specimenInterval s = .next (State.settleAll
        ((if (s.get (key 0x2200 1)).getLsbD 0 then allCores.filter u.screenable else []).foldl
          (fun (v : State) c => v.scheduledRun c) u))) ∧
  (∀ (s : State) (c : PCore) (n : Nat) (ds : List Word) (oks : List Bool), (∀ r, s.running? c = some r → r.id ≠ n) →
    exec (.specimenRunDone c n (ds, oks)) s = .next s.begin.late) ∧
  (∀ (s : State) (c : PCore) (r : Run), s.running? c = some r →
    exec (.specimenRunDone c r.id (allEngines.map Config.specimenDigest, List.replicate 7 true)) s = .next (State.settleAll
      (State.stageNext (((s.begin.arrives (.specimenTimeout c []) 6).bump (key 0x2204 1)).runPasses r)))) ∧
  (∀ (s : State) (c : PCore) (ds : List Word) (oks : List Bool) (r : Run), s.running? c = some r →
    (∃ e ∈ allEngines, ds[e.val]? ≠ some (Config.specimenDigest e) ∨ oks[e.val]? ≠ some true) →
    exec (.specimenRunDone c r.id (ds, oks)) s = .next (State.settleAll (State.stageNext
      (((s.begin.arrives (.specimenTimeout c []) 6).bump (key 0x2204 1)).runFails r
        (allEngines.filter (fun e => ds[e.val]? != some (Config.specimenDigest e)))
        (allEngines.filter (fun e => oks[e.val]? != some true)) false)))) ∧
  (∀ (s : State) (c : PCore) (l : List EngineNo) (r : Run), s.expired (.specimenTimeout c []) = true → s.running? c = some r →
    exec (.specimenTimeout c l) s = .next (State.settleAll (State.stageNext
      (((s.begin.expire (.specimenTimeout c [])).bump (key 0x2204 8)).runFails r (if l.isEmpty then allEngines else l) [] true)))) ∧
  (∀ (s : State) (c : PCore), s.expired (.specimenRetest c) = true → s.screenable c = true → s.running? c = none →
    s.budgetAllows c = true →
    exec (.specimenRetest c) s = .next (State.settleAll ((s.begin.disarm (.specimenRetest c)).issueSpecimen c 0))) ∧
  (∀ (s : State) (c : PCore), s.expired (.specimenRetest c) = true → s.screenable c = true → s.running? c = none →
    s.budgetAllows c = false →
    ∃ u : State, exec (.specimenRetest c) s = .next u ∧ u.waitingRuns = s.waitingRuns.filter (fun x => decide (x ≠ c)) ++ [c] ∧
      u.armed (.specimenRetest c) = false ∧
      u = { s with out := [], dict := u.dict, timers := u.timers, waitingRuns := u.waitingRuns } ∧
      s.KeepsBut u [key 0x2201 8] ∧ s.Counts u (key 0x2201 8))

/-- Cross-core pairs are formed each interval over the cores that the budget allows, and each digest or lost core of a run is judged
with the run's others (R134 to R137). -/
def Obligations.CrossCoreCommandsCompare : Prop :=
  (∀ s : State, s.expired .crosscoreInterval = true → (s.get (key 0x2200 1)).getLsbD 1 = true →
    ∃ u : State, exec .crosscoreInterval s = .next (u.startPairs s.crossCores.1 s.crossPass).settleAll ∧
      u.crossPass = s.crossPass + 1 ∧ u.waitingCross = s.crossCores.2 ∧ u.armed .crosscoreInterval = true ∧
      u = { s with out := [], crossPass := u.crossPass, timers := u.timers, dict := u.dict, waitingCross := u.waitingCross } ∧
      s.KeepsBut u [key 0x2201 8]) ∧
  (∀ s : State, s.expired .crosscoreInterval = true → (s.get (key 0x2200 1)).getLsbD 1 = false →
    exec .crosscoreInterval s = .next (s.begin.arm .crosscoreInterval (sec (s.nat (key 0x2200 4))))) ∧
  (∀ (s : State) (c : PCore) (n : Nat) (ds : List Word) (x : Cross), s.awaitedCross c n = some x →
    ∃ u : State, exec (.crosscoreRunDone c n ds) s = .next (u.judgeCross { x with digests := x.digests ++ [(c, ds)] }).settleAll ∧
      u.crosses = s.crosses.map (fun z => if z.id = n then { x with digests := x.digests ++ [(c, ds)] } else z)) ∧
  (∀ (s : State) (c : PCore) (n : Nat) (x : Cross), s.expired (.crosscoreTimeout c n) = true → s.awaitedCross c n = some x →
    ∃ (u : State) (a b : Nat), exec (.crosscoreTimeout c n) s = .next (State.settleAll
        ((u.chargeCross { x with late := x.late ++ [c] } c allEngines 6 a b).judgeCross { x with late := x.late ++ [c] })) ∧
      u.crosses = s.crosses.map (fun z => if z.id = n then { x with late := x.late ++ [c] } else z) ∧
      u.armed (.crosscoreTimeout c n) = false ∧
      u = { s with out := [], dict := u.dict, timers := u.timers, crosses := u.crosses, err := u.err } ∧ s.KeepsBut u [key 0x2204 8])

/-- A margin probe starts on an eligible core, goes on when its regulator has settled, gives up on one that does not settle, and
goes to the next supply when a dwell is over (R138 to R141). -/
def Obligations.MarginProbeCommandsStep : Prop :=
  (∀ (s : State) (c : PCore), s.probeRoom = true → s.probeEligible c = true → s.probeDue c = true →
    ∃ (u : State) (t k : BitVec 16), exec (.marginProbeStart c) s = .next (u.stepDown c (s.trim c) t k).settleAll ∧
      u.probings = s.probings ++ [⟨c, s.trim c, 0, 0, 0, some (s.trim c), none, false, false⟩] ∧ u.get (coreKey c 0x85) = 1 ∧
      u = { s with out := [], dict := u.dict, free := u.free, probings := u.probings } ∧
      s.KeepsBut u [coreKey c 0x85, key 0x1300 7]) ∧
  (∀ (s : State) (c : PCore), s.armed (.settleTimeout c) = false → exec (.regulatorSettled c) s = .next s.begin.late) ∧
  (∀ (s : State) (c : PCore), s.probing? c = none → s.armed (.settleTimeout c) = true →
    exec (.regulatorSettled c) s = .next (State.settleAll
      ((s.begin.arrives (.settleTimeout c) 2).upProbe c (fun p => { p with settling := 0 })))) ∧
  (∀ (s : State) (c : PCore) (p : Probing), s.probing? c = some p → s.armed (.settleTimeout c) = true →
    ∃ u : State, u = s.begin.arrives (.settleTimeout c) 2 ∧ exec (.regulatorSettled c) s = .next (State.settleAll
      (if p.ending then (u.dropProbing c).handOver c
       else (u.upProbing c (fun q =>
         { q with phase := q.phase + 1, units := 0, fails := 0, below := decide (p.mv < u.trim c) })).probeRun c))) ∧
  (∀ (s : State) (c : PCore) (p : Probing), s.expired (.settleTimeout c) = true → s.probing? c = some p →
    ∃ u v : State, exec (.settleTimeout c) s = .next (State.settleAll (if p.ending then v.restoreFailed c
        else (v.upProbing c (fun q => { q with ending := true })).command c (v.trim c) 6)) ∧
      v = u.screen 0x45 c.val c (screenRecord u c 0xFF 8 0 0xFFFF 0) false ∧
      u.badRegulators = s.badRegulators.filter (fun x => x ≠ c) ++ [c] ∧ u.armed (.settleTimeout c) = false ∧
      u = { s with out := [], dict := u.dict, timers := u.timers, badRegulators := u.badRegulators, err := u.err } ∧
      s.KeepsBut u [key 0x2202 8] ∧ s.Counts u (key 0x2202 8)) ∧
  (∀ (s : State) (c : PCore), s.expired (.settleTimeout c) = true → s.probing? c = none →
    ∃ u : State, u = (s.begin.expire (.settleTimeout c)).regulatorFails c ∧ exec (.settleTimeout c) s = .next (State.settleAll
      (if (u.probe c).settling = 2 then u.restoreFailed c
       else (u.commandTrim c).upProbe c (fun q => { q with settling := 2 })))) ∧
  (∀ (s : State) (c : PCore) (t k : BitVec 16) (p : Probing), s.probing? c = some p → s.dwellOver p = true → s.frz.on = false →
    exec (.dwellDone c t k) s = .next (s.begin.afterDwell p t k).settleAll ∧
    (p.core = c → p.phase = 1 → p.fails = 0 → s.floorMv ≤ p.mv - 5 → exec (.dwellDone c t k) s = .next (State.settleAll
      ((s.begin.upProbing c (fun q => { q with lastPass := some p.mv })).command c (p.mv - 5) 0))) ∧
    (p.core = c → p.phase = 1 → p.fails = 0 → p.mv - 5 < s.floorMv → exec (.dwellDone c t k) s = .next (State.settleAll
      ((s.begin.upProbing c (fun q => { q with lastPass := some p.mv })).recordMap c p.mv none t k))) ∧
    (p.core = c → p.phase = 1 → p.fails ≠ 0 → exec (.dwellDone c t k) s = .next (State.settleAll
      ((s.begin.upProbing c (fun q => { q with firstFail := some p.mv })).command c (s.trim c) 2))))

/-- A guard-band map entry that is too old or was taken too far from the present temperature goes stale and its core is probed
again; every reprobe interval marks each eligible core; a trim within its limits is taken (R141 to R144). -/
def Obligations.GuardBandCommandsAct : Prop :=
  (∀ (s : State) (c : PCore), s.expired (.mapEntryAged c) = true →
    s.nat (coreKey c 0x8A) + hour (s.nat (key 0x2203 5)) ≤ s.t →
    exec (.mapEntryAged c) s = .next (State.settleAll (((s.begin.disarm (.mapEntryAged c)).staleMap c).tryProbe c))) ∧
  (∀ (s : State) (c : PCore), s.expired (.mapEntryAged c) = true →
    s.t < s.nat (coreKey c 0x8A) + hour (s.nat (key 0x2203 5)) →
    exec (.mapEntryAged c) s =
      .next (s.begin.armAt (.mapEntryAged c) (s.nat (coreKey c 0x8A) + hour (s.nat (key 0x2203 5))))) ∧
  (∀ (s : State) (c : PCore) (t : BitVec 16), (s.probe c).mapFlags.getLsbD 0 = true →
    10 * s.nat (key 0x2203 6) < (tempOf t.toNat - tempOf (s.nat (coreKey c 0x8B))).natAbs →
    exec (.mapTemperatureStale c t) s = .next (State.settleAll ((s.begin.staleMap c).tryProbe c))) ∧
  (∀ s : State, s.expired .reprobeInterval = true →
    ∃ u : State, u = s.begin.arm .reprobeInterval (hour (s.nat (key 0x2202 4))) ∧
      exec .reprobeInterval s = .next (State.settleAll ((allCores.filter u.probeEligible).foldl (fun (v : State) c => v.tryProbe c)
        ((allCores.filter u.probeEligible).foldl (fun (v : State) c => v.upProbe c (fun p => { p with reprobe := true })) u)))) ∧
  (∀ (s x : State) (path : Path) (c : PCore) (v : Word), x = s.taking path (coreKey c 0x88) → s.Takes path (coreKey c 0x88) v false →
    x.fp c ≠ 2 → x.fp c ≠ 3 → x.get (key 0x2203 1) = 0 → -(x.nat (key 0x2203 2) : Int) ≤ mvOfCode v.toNat →
    mvOfCode v.toNat ≤ (x.nat (key 0x2203 3) : Int) →
    exec (.trimWrite path c v) s = .next ((x.changeTrim c (mvOfCode v.toNat)).taken path (coreKey c 0x88) .done))

/-- The supervisors' samples are stored and judged each interval; a budget window ends with its shares, in thousandths, and says
when they are over the budget (R147 to R150). -/
def Obligations.SupervisorsAndBudgetReport : Prop :=
  (∀ (s : State) (l : List Sample), s.expired (.supervisorSample []) = true →
    exec (.supervisorSample l) s = .next (State.settleAll (l.foldl (fun (u : State) x => match x with
        | .link p eyes a => u.sampleLink p eyes a
        | .dram c shift margin => u.sampleDram c shift.toNat margin.toNat)
      (s.begin.arm (.supervisorSample []) (ms (s.nat (key 0x2206 1))))))) ∧
  (∀ (s : State) (a b p q : Nat), s.expired (.budgetWindowEnd 0 0 0 0) = true →
    ∃ u : State, exec (.budgetWindowEnd a b p q) s = .next (if u.overBudget then (u.bump (key 0x2201 7)).raise 0x47 0 []
        else u.resumeScreening).settleAll ∧
      u.nat (key 0x2201 5) = min (thousandths p (s.enabledCount * s.budgetWindow)) 0xFFFF ∧
      u.nat (key 0x2201 6) = min (thousandths q (s.enabledCount * s.budgetWindow)) 0xFFFF ∧
      (64 * b * (s.enabledCount * s.budgetWindow) ≠ 0 → u.overBudget =
        decide (s.nat (key 0x2201 1) * (64 * b * (s.enabledCount * s.budgetWindow)) <
          1000 * (a * (s.enabledCount * s.budgetWindow) + (p + q) * (64 * b)))) ∧
      u.budgetWindow = ms (s.nat (key 0x2201 2)) ∧ u.armed (.budgetWindowEnd 0 0 0 0) = true ∧
      u = { s with out := [], dict := u.dict, timers := u.timers, overBudget := u.overBudget, budgetWindow := u.budgetWindow } ∧
      s.KeepsBut u [key 0x2201 3, key 0x2201 4, key 0x2201 5, key 0x2201 6])

/-- Corrected errors are queued and tabled, uncorrectable words are poisoned and raised, a slice read before its fill or in its
reserved range is refused and counted (R155 to R162, R109). -/
def Obligations.StoredDataReportsAreKept : Prop :=
  (∀ (s : State) (c : PCore) (w : BitVec 25) (y : Fin 36) (m : Option MseNo) (b : Bool),
    exec (.correctedErrorReport c w y m b) s = .next (s.begin.corrected c w y m b false).settleAll) ∧
  (∀ (s : State) (c : PCore) (w : BitVec 25) (y : Fin 36) (b : Bool), (s.slice c).queue.length < 16 →
    ∃ u : State, exec (.correctedErrorReport c w y none b) s = .next ((u.disturbCore c 4).raiseWith 0x50 c.val [] false).settleAll ∧
      (u.slice c).queue = (s.slice c).queue ++ [(w, y, s.now, false)] ∧
      u = { s with out := [], slices := u.slices, dict := u.dict } ∧ s.KeepsBut u [coreKey c 0x91, key 0x2302 1]) ∧
  (∀ (s : State) (c : PCore) (w : BitVec 25) (y : Fin 36) (t : Word) (scan : Bool) (q : List (BitVec 25 × Fin 36 × Word × Bool)),
    (s.slice c).queue = (w, y, t, scan) :: q →
    ∃ u v : State, exec (.ceReportDequeue c) s = .next (u.rateCheck c).settleAll ∧ (v.slice c).queue = q ∧
      (v.slice c).table = (ceUpdate (s.slice c).table w y.val t scan).1 ∧
      v = { s with out := [], slices := v.slices, dict := v.dict } ∧ s.KeepsBut v [coreKey c 0x94] ∧
      u = (match (ceUpdate (s.slice c).table w y.val t scan).1.find? (fun e => e.word == w) with
        | some e => if !e.flags.getLsbD 0 && decide (v.nat (key 0x2300 2) ≤ e.count) then v.candidate c w else v
        | none => v)) ∧
  (∀ (s : State) (c : PCore) (w : BitVec 25) (b : ReadBy) (r : Option PCore), b ≠ .readModifyWrite ∨ r ≠ none →
    ∃ (u : State) (b8 : Bytes), u = ((s.begin.poisonWords c w.toNat 1).bump (coreKey c 0x92)).bump (key 0x2302 2) ∧
      b8 = u.ueRecord c w (readByNumber b).1 (readByNumber b).2 false r ∧
      exec (.uncorrectableError c w b r) s = .next (State.settleAll (if u.captures 0x53 c.val then
        ((u.raiseWith 0x53 c.val b8 false).setContent (key 0x2303 1) b8).setContent (coreKey c 0x9B) b8
        else u.raiseWith 0x53 c.val b8 false))) ∧
  (∀ (s : State) (c : PCore), s.get (coreKey c 0x97) ≠ 2 →
    ∃ t, exec (.fillRefusal c) s = .next t ∧ t.out = [.fenceStatus] ∧ t = { s with out := t.out, dict := t.dict } ∧
      s.KeepsBut t [key 0x2302 0xD] ∧ s.Counts t (key 0x2302 0xD)) ∧
  (∀ (s : State) (c : PCore), s.get (coreKey c 0x97) ≠ 3 →
    ∃ t, exec (.reservedRangeRefusal c) s = .next t ∧ t.out = [.fenceStatus] ∧ t = { s with out := t.out, dict := t.dict } ∧
      s.KeepsBut t [key 0x2302 0xE] ∧ s.Counts t (key 0x2302 0xE))

/-- A scan engine that no Proofreader core holds starts, pauses, resumes and aborts a pass as the host says; a pass that is done
leaves its result, and the schedule goes on (R168 to R171). A digest record's period makes a pass due, its staleness is counted and
raised, and a write of the record starts it anew (R171 to R176). -/
def Obligations.ScanAndDigestCommandsAct : Prop :=
  ((∀ (s x : State) (path : Path) (m : MseNo), x = s.taking path (mseKey m 5) → x.scanRetired m = false → x.pcOwned m = false →
    (s.Takes path (mseKey m 5) 1 false → x.scanState m ≠ 1 →
      exec (.scanStart path m) s = .next ((x.runScan m).1.taken path (mseKey m 5) (x.runScan m).2)) ∧
    (s.Takes path (mseKey m 5) 2 false → x.scanState m = 1 →
      exec (.scanPause path m) s = .next ((x.stopScan m 2).taken path (mseKey m 5) .done)) ∧
    (s.Takes path (mseKey m 5) 3 false → x.scanState m = 2 →
      exec (.scanResume path m) s = .next ((x.runScan m).1.taken path (mseKey m 5) (x.runScan m).2)) ∧
    (s.Takes path (mseKey m 5) 4 false → x.scanState m = 1 →
      exec (.scanAbort path m) s = .next ((x.stopScan m 4).taken path (mseKey m 5) .done)) ∧
    (s.Takes path (mseKey m 5) 4 false → x.scanState m = 2 →
      exec (.scanAbort path m) s = .next ((x.putN (mseKey m 6) 4).taken path (mseKey m 5) .done))) ∧
  (∀ (s : State) (m : MseNo) (crc : Word) (poison : Bool), s.scanState m = 1 → 2048 ≤ s.nat (mseKey m 7) →
    ∃ u : State, exec (.scanPassDone m crc poison) s = .next u.schedulePasses.settleAll ∧ u = s.begin.endScan m crc poison ∧
      u.nat (mseKey m 6) = (if poison then 5 else 3) ∧ u.get (mseKey m 4) = crc ∧ u.nat (mseKey m 7) = 0xFFFF) ∧
  (∀ (s : State) (m : MseNo) (crc : Word) (poison : Bool) (h : s.nat (mseKey m 7) < 2048), s.scanState m = 1 →
    exec (.scanPassDone m crc poison) s = .next (State.settleAll (State.schedulePasses
      ((s.begin.endScan m crc poison).digestDone ⟨s.nat (mseKey m 7), h⟩ m crc poison))))) ∧
  ((∀ (s : State) (r : DigestNo), s.expired (.digestPeriod r) = true → recMode (s.digestRec r) ≠ 0 → recPeriod (s.digestRec r) ≠ 0 →
    exec (.digestPeriod r) s = .next (State.settleAll (State.schedulePasses
      ((s.begin.arm (.digestPeriod r) (sec (recPeriod (s.digestRec r)))).upDigest r (fun x => { x with due := true }))))) ∧
  (∀ (s : State) (r : DigestNo), s.expired (.digestStale r) = true → recMode (s.digestRec r) ≠ 0 → recPeriod (s.digestRec r) ≠ 0 →
    exec (.digestStale r) s = .next (State.settleAll
      (((s.begin.armStale r).bump (key 0x2302 8)).raise 0x58 0 (s.digestRec r)))) ∧
  (∀ (s x y : State) (path : Path) (r : DigestNo) (b : Bytes) (e : Entry) (w : WEnd), x = s.taking path (digestKey r.val) →
    s.Takes path (digestKey r.val) 0 true → digestFits b = true → recMode b ≠ 0 → entryOf (digestKey r.val) = some e →
    x.writeContentB e (digestKey r.val) (setBytes (b.take 0x20) 0xE (le 2 0) ++ (x.content (digestKey r.val)).drop 0x20) = (y, w) → w ≠ .busy →
    exec (.digestRecordWrite path r b) s = .next (State.taken
      (((y.abandonPass r false).arm (.digestPeriod r) (sec (recPeriod b))).arm (.digestStale r)
        (sec (((y.abandonPass r false).arm (.digestPeriod r) (sec (recPeriod b))).nat (key 0x2300 5) * recPeriod b)))
      path (digestKey r.val) w)))

/-- The host fences a core in service and unfences a fenced one through a specimen run, and releases an Attic entry (R187, R199 to
R201). -/
def Obligations.FenceCommandsAct : Prop :=
  (∀ (s x : State) (path : Path) (v : Word) (c : PCore), x = s.taking path (key 0x1302 9) → s.Takes path (key 0x1302 9) v false →
    v.toNat % 2 ^ 16 = c.val → x.fp c ≠ 2 → x.fp c ≠ 3 → x.fp c ≠ 4 → x.fp c ≠ 5 →
    exec (.fenceOrder path v) s =
      .next (((x.abortTest c).fence c 8 true (v.toNat.testBit 16)).taken path (key 0x1302 9) .done)) ∧
  (∀ (s x : State) (path : Path) (v : Word) (c : PCore), x = s.taking path (key 0x1302 0xA) → s.Takes path (key 0x1302 0xA) v false →
    v.toNat = c.val → x.fp c = 2 ∨ x.fp c ≠ 3 ∧ x.fp c ≠ 4 ∧ x.fp c ≠ 5 ∧ x.awaitsHost c = true →
    exec (.unfence path v) s = .next ((x.issueSpecimen c 3).taken path (key 0x1302 0xA) .progress)) ∧
  (∀ (s x : State) (path : Path) (v : Word) (e : Bytes), x = s.taking path (key 0x1304 3) → s.Takes path (key 0x1304 3) v false →
    x.attic[v.toNat]? = some e →
    ∃ u : State, exec (.atticRelease path v) s = .next (u.taken path (key 0x1304 3) .done) ∧
      u.get (key 0x1304 3) = BitVec.ofNat 64 v.toNat ∧
      u = (State.configItem { x with attic := u.attic } 0x107 v.toNat (setBytes (setBytes e 0xD [(e.getD 0xD 0) ||| 4]) 0x28
        (le 8 x.t))).putN (key 0x1304 3) v.toNat ∧
      u.attic = x.attic.set v.toNat (setBytes (setBytes e 0xD [(e.getD 0xD 0) ||| 4]) 0x28 (le 8 x.t)))

/-- A sparing refills entry by entry, from the chip's sources and the host's, fails when a source does not come in time, and after a
failure is repeated or ends the job as the host says (R192 to R198). -/
def Obligations.RefillCommandsAct : Prop :=
  (∀ (s : State) (d : Dom) (n : Nat) (y : Sparing), s.inPhase d 4 = some y → s.armed (.refillTimeout d) = true →
    ∃ (u : State) (e : Bytes), u = s.begin.arrives (.refillTimeout d) 2 ∧
      e = ((ownEntries (u.refillEntries d y.k))[y.entry]?).getD [] ∧
      exec (.refillEntryDone d n) s = .next (State.settleAll (State.refillStep ((u.carryPoison y e).upSparing d y.fenced
        (fun z => { z with sources := z.sources ||| BitVec.ofNat 8 (2 ^ fieldAt e 2 1), bytes := z.bytes + n,
                           entry := z.entry + 1 })) d y.fenced))) ∧
  (∀ (s : State) (d : Dom) (n : Nat), (∀ y, s.inPhase d 4 = some y → s.armed (.refillTimeout d) = false) →
    exec (.refillEntryDone d n) s = .next s.begin.late) ∧
  (∀ (s : State) (d : Dom) (y : Sparing), s.expired (.refillTimeout d) = true → s.inPhase d 4 = some y →
    exec (.refillTimeout d) s = .next (State.settleAll ((s.begin.expire (.refillTimeout d)).refillFailed d y.fenced))) ∧
  (∀ (s : State) (d : Dom) (y : Sparing), s.expired (.hostRefillTimeout d) = true → s.inPhase d 7 = some y →
    exec (.hostRefillTimeout d) s = .next (State.settleAll ((s.begin.expire (.hostRefillTimeout d)).refillFailed d y.fenced))) ∧
  (∀ (s x : State) (path : Path) (v : Word) (d : Dom) (y : Sparing), x = s.taking path (key 0x1302 0xB) → s.Takes path (key 0x1302 0xB) v false →
    v.toNat = d.val → x.inPhase d 7 = some y →
    exec (.hostRefillDone path v) s = .next (State.taken
      (((x.arrives (.hostRefillTimeout d) 5).upSparing d y.fenced (fun z => { z with sources := z.sources ||| 16 })).refillStep d
        y.fenced) path (key 0x1302 0xB) .done)) ∧
  (∀ (s x : State) (path : Path) (d : Dom) (y : Sparing) (q : PCore), x = s.taking path (key 0x1302 0xD) →
    s.Takes path (key 0x1302 0xD) (sparingAction d 1) false → x.inPhase d 8 = some y → y.repl = some q →
    exec (.sparingRepeatRefill path d) s = .next ((x.beginFill d y.fenced q).taken path (key 0x1302 0xD) .done)) ∧
  (∀ (s x : State) (path : Path) (d : Dom) (y : Sparing), x = s.taking path (key 0x1302 0xD) →
    s.Takes path (key 0x1302 0xD) (sparingAction d 2) false → x.inPhase d 8 = some y →
    exec (.sparingEndJob path d) s =
      .next (((x.outcomes d 4 0 (fun _ => true)).endJob d (originOf path)).taken path (key 0x1302 0xD) .done)) ∧
  (∀ (s : State) (c : PCore), s.get (coreKey c 0x97) = 1 →
    exec (.hardwareFillDone c) s = .next (State.settleAll (State.schedulePasses
      (((s.begin.arrives (.fillTimeout c) 3).filled c).afterFill c))))

/-- A regeneration run is ordered for a core of a kept step, ends with its record, by its limit or by its timeout, and is released
(R212 to R214). A pair whose partner does not report in time has lost it; an unattributed divergence ends as the host says: the pair
restarts or the job ends (R216 to R222). -/
def Obligations.RegenerationAndLockstepCommandsAct : Prop :=
  ((∀ (s x : State) (path : Path) (v : Word) (d : Dom) (k : LCore) (c : PCore), x = s.taking path (key 0x2108 9) →
    s.Takes path (key 0x2108 9) v false → bits v.toNat 63 61 = d.val → bits v.toNat 60 51 = k.val →
    x.regenStep d k (bits v.toNat 47 0) = true → x.regen = none → x.regenCore d k = some c →
    ∃ u w : State, w = (u.send (.regen d k (bits v.toNat 47 0) c (x.seedOf d k (bits v.toNat 47 0)))).disturbCore c 6 ∧
      exec (.regenRequest path v) s = .next ((w.arm .regenTimeout (us (w.natFor d (key 0x2102 2)))).taken path (key 0x2108 9) .done) ∧
      u.get (key 0x2108 0xA) = 1 ∧ u.regen = some ⟨d, k, bits v.toNat 47 0, c, x.seedOf d k (bits v.toNat 47 0), false, []⟩ ∧
      u = { x with dict := u.dict, regen := u.regen } ∧ x.KeepsBut u [key 0x2108 0xA]) ∧
  (∀ (s : State) (c : PCore) (l : List OutUnit) (b : Bool), (∀ r, s.regen = some r → r.done = true ∨ r.core ≠ c) →
    exec (.regenRunDone c l b) s = .next s.begin.late) ∧
  (∀ (s : State) (l : List OutUnit) (r : Regen), s.regen = some r → r.done = false →
    ∃ u : State, u = s.begin.arrives .regenTimeout 2 ∧
      exec (.regenRunDone r.core l true) s = .next (u.endRegen 6).settleAll ∧
      (u.nat (key 0x2102 6) * 2 ^ 20 < 80 * l.length → exec (.regenRunDone r.core l false) s = .next (u.endRegen 6).settleAll) ∧
      (80 * l.length ≤ u.nat (key 0x2102 6) * 2 ^ 20 →
        ∃ (v : State) (keys : Colophon × Colophon × Colophon), keys = (((u.dom r.d).step? r.s).map (·.keys)).getD (0, 0, 0) ∧
          exec (.regenRunDone r.core l false) s = .next v.settleAll ∧ v.get (key 0x2108 0xA) = 2 ∧
          v.content (key 0x2108 0xB) = u.regenRecord r (unitsColophon keys l) l.length ∧
          v.regen = some { r with done := true, scratch := l.flatMap unitEntry } ∧
          v = { u with dict := v.dict, cont := v.cont, regen := v.regen } ∧ u.KeepsBut v [key 0x2108 0xA])) ∧
  (∀ s : State, s.expired .regenTimeout = true →
    exec .regenTimeout s = .next ((s.begin.expire .regenTimeout).endRegen 5).settleAll) ∧
  (∀ (s x : State) (path : Path) (r : Regen), x = s.taking path (key 0x2108 0xC) → s.Takes path (key 0x2108 0xC) 1 false → x.regen = some r →
    r.done = true → exec (.regenRelease path) s = .next ((x.endRegen 0).taken path (key 0x2108 0xC) .done))) ∧
  ((∀ (s : State) (n : Nat) (d : Dom), s.expired (.compareTimeout n) = true → s.jobDom = some d → s.lockstep d = 1 →
    exec (.compareTimeout n) s = .next ((s.begin.expire (.compareTimeout n)).partnerLost d n).settleAll) ∧
  (∀ (s x : State) (path : Path) (w : Narrow), x = s.taking path (key 0x2C10 0xA) → x.job.narrow = some w → w.stage = 6 →
    x.get (key 0x2C10 6) = 3 →
    (s.Takes path (key 0x2C10 0xA) 1 false →
      exec (.divergenceRestartPair path) s = .next (State.taken
        ((State.putN { x with job := { x.job with narrow := none } } (key 0x2C10 6) 1).stewardArm w.d)
        path (key 0x2C10 0xA) .done)) ∧
    (s.Takes path (key 0x2C10 0xA) 2 false →
      exec (.divergenceEndJob path) s = .next (State.taken
        (State.endJob { x with job := { x.job with narrow := none } } w.d (originOf path)) path (key 0x2C10 0xA) .done))))

/-- Bring-up stages end when what they wait for has come: the Cellar's configuration, the fuses, a fill, memory and link training,
the specimen runs, time; a unit that does not come in its time is left out or fails the stage; a halted bring-up goes on when the
host says so (R243 to R250, R264). -/
def Obligations.BringUpStagesProceed : Prop :=
  (∀ (s : State) (l : List PcNo), s.inStage 1 = true →
    ∃ u : State, u = s.begin.openCellar.latchSettings.checkPcs l ∧
      exec (.cellarConfigReadDone true l) s =
        .next (if u.faulted then u else u.endStage (bitOf u.bring.exceptions)).settleAll ∧
      exec (.cellarConfigReadDone false l) s = .next (s.begin.failStage 0x80).settleAll) ∧
  (∀ s : State, s.inStage 3 = true →
    (∀ f : FuseMap, exec (.fuseReadDone (some f)) s = .next ((s.begin.applyFuses f).endStage 0).settleAll) ∧
    exec (.fuseReadDone none) s = .next (s.begin.failStage 0x80).settleAll) ∧
  (∀ (s : State) (c : PCore), s.expired (.fillTimeout c) = true → s.inStage 4 = true → c ∈ s.bring.fillLeft →
    exec (.fillTimeout c) s = .next ((s.begin.expire (.fillTimeout c)).failStage 0x80).settleAll) ∧
  (∀ (s : State) (n : StackNo), s.inStage 5 = true → n ∈ s.bring.memLeft → s.armed (.memoryTrainingTimeout n) = true →
    ∃ u : State, u = s.begin.arrives (.memoryTrainingTimeout n) 3 ∧
      exec (.memoryTrainingDone n true) s = .next ((u.stackTrained n).stageNext).settleAll ∧
      exec (.memoryTrainingDone n false) s = .next (u.trainingFailed n).settleAll) ∧
  (∀ (s : State) (n : StackNo), s.expired (.memoryTrainingTimeout n) = true → s.inStage 5 = true →
    exec (.memoryTrainingTimeout n) s = .next ((s.begin.expire (.memoryTrainingTimeout n)).trainingFailed n).settleAll) ∧
  (∀ (s : State) (p : PortNo) (n : Byte) (fl : BitVec 32) (reach : Byte) (t : BitVec 32), s.inStage 5 = true →
    p ∈ s.bring.linkLeft → s.armed (.linkTrainingTimeout p) = true →
    ∃ u : State, u = ((s.begin.arrives (.linkTrainingTimeout p) 4).keepTraining p n fl reach t).linkIn p ∧
      exec (.linkTrainingDone p n fl reach t) s = .next (State.settleAll (State.stageNext
        (if n = 0xFF then u else if n = 0 then (u.putN (portKey p 1) 6).exceptional else u.exceptional)))) ∧
  (∀ (s : State) (p : PortNo), s.expired (.linkTrainingTimeout p) = true →
    exec (.linkTrainingTimeout p) s = .next (State.settleAll (State.stageNext
      ((((s.begin.expire (.linkTrainingTimeout p)).linkIn p).putN (portKey p 1) 6).exceptional)))) ∧
  (∀ s : State, s.expired .specimenStageTimeout = true →
    exec .specimenStageTimeout s = .next (State.settleAll (State.stageNext
      (s.bring.specLeft.foldl (fun (u : State) (c : PCore) => (u.fenceSteps c 3 false true).exceptional)
        { s.begin.expire .specimenStageTimeout with bring := { s.bring with specLeft := [] } })))) ∧
  (∀ s : State, s.expired .timeLockTimeout = true →
    exec .timeLockTimeout s = .next (State.settleAll (State.stageNext (State.exceptional
      { s.begin.expire .timeLockTimeout with bring := { s.bring with timeDone := true } })))) ∧
  (∀ (s x : State) (path : Path), x = s.taking path (key 0x2500 0x10) → s.Takes path (key 0x2500 0x10) 1 false → x.bring.halted = true →
    ∃ u : State, u = { x with bring := { x.bring with
        halted := false, excluded := x.bring.excluded + (x.t - x.bring.haltAt.toNat) } } ∧
      exec (.bringupContinue path) s = .next (((u.startStage (u.stageNo + 1)).stageNext).taken path (key 0x2500 0x10) .done))

/-- Neighbours are asked who they are: a request is answered on a trained port, an answer is kept and judged, a silent port is
judged and asked again; the host rechecks ports and accepts what a port shows (R256 to R262). -/
def Obligations.IdentityCommandsJudgeTheCabling : Prop :=
  (∀ (s : State) (p : PortNo), s.stewardServed = true → s.portTrained p = true →
    exec (.identityRequest p) s = .next { s with
      out := [.identityAnswer p (s.get (key 0x2B00 1)) (BitVec.ofNat 8 (s.nat (key 0x2B00 0xB))) 1] }) ∧
  (∀ (s : State) (p : PortNo) (a : Identity), s.armed (.identityTimeout p) = true →
    ∃ u : State, exec (.identityAnswer p a) s = .next u.identityNext.settleAll ∧ u.get (portKey p 5) = a.coords ∧
      u.nat (portKey p 6) = a.port.toNat ∧ u.nat (portKey p 7) = a.revision.toNat ∧ u.nat (portKey p 8) = a.kind.toNat ∧
      u.bring.answered = s.bring.answered ++ [p] ∧ p ∉ u.bring.idLeft) ∧
  (∀ (s : State) (p : PortNo), s.expired (.identityTimeout p) = true →
    exec (.identityTimeout p) s = .next (State.settleAll (State.identityNext
      (((s.begin.expire (.identityTimeout p)).identityIn p).noAnswer p)))) ∧
  (∀ s : State, s.expired .identityRecheckTimer = true → s.stageNo = 9 → s.bring.idLeft = [] →
    exec .identityRecheckTimer s = .next (State.settleAll
      (((s.begin.disarm .identityRecheckTimer).askPorts (allPorts.filter (fun p => s.nat (portKey p 1) == 7)) true).armRecheck))) ∧
  (∀ (s x : State) (path : Path), x = s.taking path (key 0x2B00 9) → s.Takes path (key 0x2B00 9) 1 false → x.stageNo = 9 →
    x.bring.idLeft = [] → x.bring.recheck = false → allPorts.filter x.portTrained ≠ [] →
    exec (.recheck path) s = .next ((x.askPorts (allPorts.filter x.portTrained) true).taken path (key 0x2B00 9) .progress)) ∧
  (∀ (s x : State) (path : Path) (p : PortNo), x = s.taking path (portKey p 0xA) → s.Takes path (portKey p 0xA) 1 false →
    x.nat (portKey p 1) = 4 →
    exec (.planAccept path p) s = .next (State.taken
      ((x.planSeen p).putN (portKey p 1) (if x.lanes p = 0xFF then 2 else 3)) path (portKey p 0xA) .done))

/-- A test that ends is judged and kept, one that takes too long ends with outcome 6; the host orders a core's test, aborts it, and
orders a stack's (R271 to R279). -/
def Obligations.SelfTestCommandsAct : Prop :=
  (∀ (s u : State) (x : TestUnit) (r : TestResult) (t : Word) (j : Judged), (∀ n, x ≠ .stack n) ∨ j.outcome = 0 →
    s.test.running.find? (fun (y : TestUnit × Word) => y.1 == x) = some (x, t) →
    (s.begin.arrives (.selftestTimeout x) 6).judge x r = (u, j) →
    exec (.selftestDone x r) s = .next (State.settleAll (State.testNext
      (u.endUnit x t ((s.begin.arrives (.selftestTimeout x) 6).testsOf x) j)))) ∧
  (∀ (s : State) (x : TestUnit) (t : Word), s.expired (.selftestTimeout x) = true →
    s.test.running.find? (fun (y : TestUnit × Word) => y.1 == x) = some (x, t) →
    exec (.selftestTimeout x) s =
      .next (State.settleAll (State.testNext
        ((s.begin.expire (.selftestTimeout x)).endUnit x t (s.testsOf x) (Judged.plain 6))))) ∧
  (∀ (s x : State) (path : Path) (v : Word) (c : PCore), x = s.taking path (key 0x2600 7) → s.Takes path (key 0x2600 7) v false →
    bits v.toNat 15 0 = c.val → bits v.toNat 18 16 ≠ 0 → x.lc ≠ 4 → x.stageNo = 9 → x.fp c ≠ 4 → x.fp c ≠ 5 →
    (if x.fp c = 2 ∨ x.fp c = 3 ∨ (c, 2) ∈ x.test.awaiting then x.lc ≠ 2 else x.testable c = true) →
    ((bits v.toNat 18 16).testBit 2 = true → x.slicePresent c = true ∧ x.stackSt (stackOf c) = 1) →
    x.testRoom (bits v.toNat 18 16) = true →
    exec (.selftestRequest path v) s = .next (State.taken
      (((x.putN (key 0x2600 8) 1).startCore c (bits v.toNat 18 16)).showTests) path (key 0x2600 7) .done)) ∧
  (∀ (s x : State) (path : Path) (v : Word) (c : PCore) (t : CoreTest), x = s.taking path (key 0x2600 0xF) →
    s.Takes path (key 0x2600 0xF) v false → v.toNat = c.val → x.stageNo = 9 → x.coreTest? c = some t →
    exec (.selftestAbort path v) s = .next ((x.abortTest c).taken path (key 0x2600 0xF) .done)) ∧
  (∀ (s x : State) (path : Path) (v : Word) (n : StackNo), x = s.taking path (key 0x2600 9) → s.Takes path (key 0x2600 9) v false →
    v.toNat = n.val → x.lc ≠ 4 → 0x80 ≤ x.stageNo ∨ x.stageNo = 9 ∧ x.activeDoms = [] → x.stackSt n ≠ 3 → x.test.stack = none →
    x.test.running = [] →
    exec (.stackRequest path v) s = .next (State.taken (State.showTests
      ((x.slicesOf n).foldl (fun (u : State) (c : PCore) =>
          ((u.abortScans c).putN (coreKey c 0x97) 0).startUnit (.slice c))
        (((State.putN { x with test := { x.test with stack := some n, stackFailed := false } } (key 0x2600 8) 1)).startUnit
          (.stack n)))) path (key 0x2600 9) .done))

/-- The key store is cleared on order in the production state and tells when it is; a life-cycle transition is taken when no domain
is active, and its fuses, once programmed, show the state to come (R280 to R285, R369, R370). -/
def Obligations.KeyAndLifeCycleCommandsAct : Prop :=
  (∀ (s x : State) (path : Path), x = s.taking path (key 0x2601 3) → s.Takes path (key 0x2601 3) 1 false → x.lc = 2 →
    x.get (key 0x2601 2) ≠ 0 →
    exec (.keyClear path) s = .next (State.endGrant { x with keyClearing := true } path (key 0x2601 3) .progress)) ∧
  (∀ (s : State) (zero : Bool), s.keyClearing = true →
    ∃ t, exec (.keyClearDone zero) s = .next t ∧ t.keyClearing = false ∧ t.keyCleared = (s.keyCleared || zero) ∧
      (zero = true → t.get (key 0x2601 4) = s.now) ∧
      ((s.status (key 0x2601 3)).st = .inProgress →
        (t.status (key 0x2601 3)).st = (if zero then .completed else .refused)) ∧
      t = { s with out := [], dict := t.dict, stat := t.stat, keyClearing := false, keyCleared := t.keyCleared } ∧
      s.KeepsBut t [key 0x2601 4]) ∧
  (∀ (s x : State) (path : Path) (v : Word), x = s.taking path (key 0x1100 2) → s.Takes path (key 0x1100 2) v false →
    lcAllowed x.lc v.toNat = true → v.toNat ≠ 3 → x.lcProgramming = none → x.nat (key 0x1100 4) = 0xFF → x.activeDoms = [] →
    exec (.lcTransition path v) s =
      .next (State.taken { x with lcProgramming := some v.toNat } path (key 0x1100 2) .progress)) ∧
  (∀ (s : State) (n : Nat), s.lcProgramming = some n →
    ∃ t, exec .lcFusesProgrammed s = .next t ∧ t.get (key 0x1100 4) = BitVec.ofNat 64 n ∧ t.lcProgramming = none ∧
      t.out = [.programFuses n] ∧ (t.status (key 0x1100 2)).st = .completed ∧ s.Counts t (key 0x1100 5) ∧
      t = { s with out := t.out, dict := t.dict, stat := t.stat, lcProgramming := none } ∧
      s.KeepsBut t [key 0x1100 4, key 0x1100 5])

/-- The host, a timer and PHY_FREEZE_N freeze the chip and release it; a core that sees no edge after the release is an error; the
neighbours are told and watched while it lasts; the dump and the core's scan images are read (R286 to R295, R377). -/
def Obligations.FreezeCommandsAct : Prop :=
  (∀ (s : State) (path : Path), s.Takes path (key 0x2800 1) 1 false →
    exec (.freezeNow path) s =
      .next (((s.taking path (key 0x2800 1)).freezeTrigger 1 0 0 ones32).taken path (key 0x2800 1) .done)) ∧
  (∀ s : State, s.expired .timedFreeze = true →
    ∃ u : State, exec .timedFreeze s = .next (match s.frz.spread with
        | some r => u.freezeTrigger 5 0 0 r
        | none => u.freezeTrigger 2 0 0 ones32).settleAll ∧
      u.get (key 0x2800 3) = 0 ∧ u.frz = { s.frz with spread := none } ∧ u.armed .timedFreeze = false ∧
      u = { s with out := [], dict := u.dict, timers := u.timers, frz := u.frz } ∧ s.KeepsBut u [key 0x2800 3]) ∧
  (∀ (s : State) (n : Nat), s.alive = true → (s.get (key 0x2800 9)).getLsbD 0 = true → 20 ≤ n → s.frz.driving = false →
    s.frz.driveEnd.toNat ≤ s.t →
    exec (.freezePinLow n) s = .next (s.begin.freezeTrigger 3 0 0 ones32).settleAll) ∧
  (∀ (s : State) (path : Path), s.Takes path (key 0x2800 2) 1 false → (s.taking path (key 0x2800 2)).frz.on = true →
    (s.taking path (key 0x2800 2)).frz.byPin = false →
    exec (.releaseNow path) s = .next ((s.taking path (key 0x2800 2)).releaseFreeze.taken path (key 0x2800 2) .done)) ∧
  (∀ s : State, s.expired .timedRelease = true → s.frz.on = true → s.frz.byPin = false →
    exec .timedRelease s =
      .next (((s.begin.disarm .timedRelease).putN (key 0x2800 4) 0).releaseFreeze).settleAll) ∧
  (∀ s : State, s.expired .freezeReleaseTimeout = true → s.frz.releasing ≠ [] →
    ∃ u : State, exec .freezeReleaseTimeout s = .next (u.raise 0xA2 0 []).settleAll ∧ u.frz = { s.frz with releasing := [] } ∧
      u.get (key 0x2800 0xB) = 0 ∧ u.armed .freezeReleaseTimeout = false ∧
      u = { s with out := [], dict := u.dict, timers := u.timers, frz := u.frz, err := u.err } ∧ s.KeepsBut u [key 0x2800 0xB]) ∧
  (∀ s : State, s.expired .pauseIndicationPeriod = true → s.frz.on = true → s.frz.chip = true →
    ∃ t, exec .pauseIndicationPeriod s = .next t ∧ t.out = (allPorts.filter s.admitted).map .pause ∧
      t.armed .pauseIndicationPeriod = true ∧ t = { s with out := t.out, timers := t.timers }) ∧
  (∀ (s : State) (p : PortNo), s.alive = true →
    ∃ t, exec (.pauseIndicationReceived p) s = .next t ∧ (p, s.now) ∈ t.frz.pauses ∧
      (s.paused p = false → t.armed (.pauseLimitTimeout p []) = true) ∧
      t = { s with out := [], timers := t.timers, frz := { s.frz with pauses := t.frz.pauses } }) ∧
  (∀ (s : State) (p : PortNo) (l : List (Dom × Nat)), s.expired (.pauseLimitTimeout p []) = true → s.paused p = true →
    ∃ u : State, exec (.pauseLimitTimeout p l) s = .next (u.portFails p l).settleAll ∧
      (∀ x ∈ u.frz.pauses, x.1 ≠ p) ∧ u = { s with out := [], timers := u.timers, frz := { s.frz with pauses := u.frz.pauses } }) ∧
  (∀ (s : State) (n : Nat) (x : Dump), s.frz.dump = some n → s.rcv.dumps.find? (fun (y : Dump) => y.num == n) = some x →
    ∃ u : State, u = s.begin.writeDump x none 0 [] ∧
      exec .freezeDumpDone s = .next (if u.nat (key 0x2A00 6) = n
        then State.setFreezeRecord { u with frz := { u.frz with dump := none } } (flagFreeze 2)
        else { u with frz := { u.frz with dump := none } }).settleAll) ∧
  (∀ (s x : State) (path : Path) (c : PCore) (b : Bytes), x = s.counted path → s.pathServed path = true → x.mayReadOut = true →
    c ∈ x.frz.cores → x.dutyRuns 0 = true → x.romService = false →
    ∃ t, exec (.coreScanRead path c b) s = .next t ∧ t.content (coreKey c 0xC7) = slice b 0 89600 ∧ t.frz.readOut = true ∧
      t = { x with cont := t.cont, frz := t.frz })

/-- The host restarts a ring, marks it, and clears an engine's or all engines' counters; a wait on a release that the trace covers
is traced (R296 to R301). -/
def Obligations.TraceCommandsAct : Prop :=
  (∀ (s x : State) (path : Path) (c : PCore), x = s.taking path (coreKey c 0xC5) → s.Takes path (coreKey c 0xC5) 1 false →
    exec (.ringRestart path c) s = .next ((x.putN (coreKey c 0xC4) 0).endGrant path (coreKey c 0xC5) .done)) ∧
  (∀ (s x : State) (path : Path) (c : PCore) (v : Word), x = s.taking path (coreKey c 0xC8) → s.Takes path (coreKey c 0xC8) v false →
    exec (.hostMarker path c v) s =
      .next ((x.ringEvent c 7 (x.domOfCore c) 0x13 v.toNat).endGrant path (coreKey c 0xC8) .done)) ∧
  (∀ (s x : State) (path : Path) (c : PCore) (e : EngineNo), x = s.taking path (engKey c e 7) → s.Takes path (engKey c e 7) 1 false →
    ∃ u : State, exec (.countersClear path c e) s = .next (u.endGrant path (engKey c e 7) .done) ∧
      u.countersOf (7 * c.val + e.val) = Counters.zero ∧
      (∀ i, i ≠ 7 * c.val + e.val → u.countersOf i = x.countersOf i) ∧ u = { x with obs := u.obs }) ∧
  (∀ (s x : State) (path : Path), x = s.taking path (key 0x2702 1) → s.Takes path (key 0x2702 1) 1 false →
    ∃ u : State, exec (.clearAllCounters path) s = .next (u.endGrant path (key 0x2702 1) .done) ∧
      (∀ i, u.countersOf i = Counters.zero) ∧ u = { x with obs := { x.obs with counters := [] } }) ∧
  (∀ (s : State) (d : Dom) (w : SyncWait), (s.valFor d (key 0x2701 1)).getLsbD d.val = true →
    s.natFor d (key 0x2701 6) ≤ w.cycles → s.nat (key 0x2701 8) = 1 → (s.dom d).active = true →
    ∃ (u : State) (dropped : Bool), (s.begin.disturb d 8).traceQueue (traceRecord s.now d w) = (u, dropped) ∧
      exec (.syncWaitEnd d w) s = .next (if dropped then u.raise 0xA0 0 [] else u).settleAll)

/-- A match of an armed breakpoint halts its Proofreader core once the cores have drained or have had their time, and the core goes
on at the host's order or when the halt has lasted too long (R307 to R309). -/
def Obligations.BreakpointCommandsAct : Prop :=
  (∀ (s : State) (pc : PcNo) (event : Byte) (f : BitVec 16) (d : Option Dom) (n : Nat), s.bpCarries pc event.toNat = true →
    s.bpArmed event.toNat f.toNat = some n → s.obs.bp = none →
    ∃ u v w : State, u = { s with out := [], obs := { s.obs with bp := some ⟨pc, n, event, f, d, s.now, false, false⟩ } } ∧
      v = (u.activeDoms.flatMap u.physCores).foldl (fun (x : State) (c : PCore) => x.drainCore c) u ∧
      w = v.putN (key 0x2750 9) 1 ∧
      exec (.breakpointMatch pc event f d) s =
        .next (w.arm .breakpointDrainTimeout (ms (v.nat (key 0x2750 0xD)))).settleAll) ∧
  (∀ (s : State) (pc : PcNo) (event : Byte) (f : BitVec 16) (d : Option Dom) (n : Nat) (b : Bp), s.bpCarries pc event.toNat = true →
    s.bpArmed event.toNat f.toNat = some n → s.obs.bp = some b →
    exec (.breakpointMatch pc event f d) s = .next (State.settleAll
      { s with out := [], obs := { s.obs with bpWaiting := s.obs.bpWaiting ++ [(pc, event, f, d)] } })) ∧
  (∀ (s : State) (b : Bp), s.obs.bp = some b → b.halted = false →
    exec .breakpointDrained s = .next (State.settleAll (State.haltPc
      (((s.begin.arrives .breakpointDrainTimeout 2).activeDoms.flatMap (s.begin.arrives .breakpointDrainTimeout 2).physCores).foldl
        (fun (u : State) (c : PCore) => u.upProbe c (fun p => { p with drained := p.drained || p.drain }))
        (s.begin.arrives .breakpointDrainTimeout 2)) b))) ∧
  (∀ (s : State) (b : Bp), s.expired .breakpointDrainTimeout = true → s.obs.bp = some b → b.halted = false →
    exec .breakpointDrainTimeout s = .next (State.settleAll
      ((s.begin.expire .breakpointDrainTimeout).haltPc { b with notDrained := true }))) ∧
  (∀ (s x : State) (path : Path) (b : Bp), x = s.taking path (key 0x2750 0xB) → s.Takes path (key 0x2750 0xB) 1 false → x.obs.bp = some b →
    b.halted = true →
    exec (.bpResume path) s = .next (((x.arrives .bpHaltTimeout 5).resumeBp b).taken path (key 0x2750 0xB) .done)) ∧
  (∀ (s : State) (b : Bp), s.expired .bpHaltTimeout = true → s.obs.bp = some b →
    ∃ u : State, exec .bpHaltTimeout s = .next (u.resumeBp b).settleAll ∧ u.get (key 0x2750 b.number) = 0 ∧
      u.content (key 0x2750 0xA) = setBytes (s.content (key 0x2750 0xA)) 0x13
        (le 1 (fieldAt (s.content (key 0x2750 0xA)) 0x13 1 ||| 2)) ∧
      u = { s with out := [], dict := u.dict, cont := u.cont, timers := u.timers, err := u.err } ∧
      s.KeepsBut u [key 0x2750 b.number])

/-- An order to object 0x2900.08 begins a reset of its level when no reset of its level or above runs: a context's, an engine's of a
core of no active domain, one in a domain through its context, a partition's, the chip's, a power cycle (R315 to R325). -/
def Obligations.ResetOrdersBegin : Prop :=
  (∀ (s x : State) (path : Path) (d : Dom), x = s.taking path (key 0x2900 8) → (x.dom d).active = true → x.higherRuns 1 = false →
    x.resetRuns d = false → x.special d = false → s.Takes path (key 0x2900 8) (orderWord 1 1 d.val 0) false →
    exec (.contextResetRollback path d) s =
      .next ((x.beginContext d 1 (originOf path) 1 0xFFFF []).taken path (key 0x2900 8) .done)) ∧
  (∀ (s x : State) (path : Path) (d : Dom), x = s.taking path (key 0x2900 8) → (x.dom d).active = true → x.higherRuns 1 = false →
    x.resetRuns d = false → s.Takes path (key 0x2900 8) (orderWord 1 2 d.val 0) false →
    exec (.contextResetEnd path d) s = .next (((if (x.dom d).poison.isSome then x.putN (domKey 0x2301 1 d) 2 else x).beginContext
      d 2 (originOf path) 1 0xFFFF []).taken path (key 0x2900 8) .done)) ∧
  (∀ (s x : State) (path : Path) (c : PCore) (e : EngineNo) (mode : Fin 16), x = s.taking path (key 0x2900 8) → x.domOfCore c = none →
    mode.val ≤ 2 → x.higherRuns 2 = false → x.rcv.resets.filter (fun r => r.level == 2) = [] →
    s.Takes path (key 0x2900 8) (orderWord 2 mode.val 0 (7 * c.val + e.val)) false →
    exec (.engineReset path mode (BitVec.ofNat 16 (7 * c.val + e.val))) s =
      .next ((x.beginEngine c e mode.val (originOf path)).taken path (key 0x2900 8) .done)) ∧
  (∀ (s x : State) (path : Path) (c : PCore) (e : EngineNo) (d : Dom), x = s.taking path (key 0x2900 8) → x.domOfCore c = some d →
    x.higherRuns 2 = false → x.rcv.resets.filter (fun r => r.level == 2) = [] → x.resetRuns d = false → x.special d = false →
    s.Takes path (key 0x2900 8) (orderWord 2 1 0 (7 * c.val + e.val)) false →
    exec (.engineReset path 1 (BitVec.ofNat 16 (7 * c.val + e.val))) s =
      .next ((x.beginContext d 1 (originOf path) 2 (engineInstance c e) [(c, e)]).taken path (key 0x2900 8) .done)) ∧
  (∀ (s x : State) (path : Path) (n : StackNo), x = s.taking path (key 0x2900 8) → x.stackSt n ≠ 2 → x.stackSt n ≠ 3 → x.higherRuns 3 = false →
    s.Takes path (key 0x2900 8) (orderWord 3 0 0 n.val) false →
    exec (.partitionReset path (BitVec.ofNat 16 n.val)) s =
      .next ((x.beginPartition n (originOf path) none).taken path (key 0x2900 8) .done)) ∧
  (∀ (s x : State) (path : Path), x = s.taking path (key 0x2900 8) → x.higherRuns 4 = false → x.reset? .chip = none →
    s.Takes path (key 0x2900 8) (orderWord 4 0 0 0) false →
    exec (.chipReset path) s = .next ((x.beginChip 4 (originOf path) none).taken path (key 0x2900 8) .done)) ∧
  (∀ (s x : State) (path : Path), x = s.taking path (key 0x2900 8) → x.higherRuns 5 = false → x.reset? .chip = none →
    s.Takes path (key 0x2900 8) (orderWord 5 0 0 0) false →
    exec (.powerCycleOrder path) s = .next ((x.beginChip 5 (originOf path) none).taken path (key 0x2900 8) .done))

/-- A reset goes on as its parts answer: a context drained, engines back, a partition ready, the chip's sequence done; one that does
not answer in time goes up the ladder; a core whose capture does not come in time is noted (R315 to R328). -/
def Obligations.ResetsProceed : Prop :=
  (∀ (s : State) (d : Dom) (r : Reset), s.reset? (.context d) = some r → r.phase = 0 → r.atLevel = 1 → s.frz.on = false →
    exec (.contextDrained d) s = .next (State.settleAll
      (((r.cores.foldl (fun (u : State) (c : PCore) => u.upProbe c (fun p => { p with drained := true })) s.begin).arrives
        (.resetTimeout r.id) 6).contextComplete r.id))) ∧
  (∀ (s : State) (c : PCore) (e : EngineNo) (r : Reset), s.rcv.resets.find? (fun r => decide ((c, e) ∈ r.engines)) = some r →
    s.frz.on = false →
    ∃ u : State, u = (s.begin.engineBack c e).upReset r.id (fun _ =>
        { r with engines := r.engines.filter (fun x => decide (x ≠ (c, e))) }) ∧
      exec (.engineResetDone c e) s = .next
        (if r.engines.filter (fun x => decide (x ≠ (c, e))) = []
         then u.enginesBack { r with engines := [] } else u).settleAll) ∧
  (∀ (s : State) (n : StackNo) (r : Reset), s.reset? (.partition n) = some r → r.phase = 6 → s.partitionReady r = true →
    s.frz.on = false →
    exec (.partitionResetDone n) s =
      .next ((s.begin.arrives (.resetTimeout r.id) 6).completePartition n r).settleAll) ∧
  (∀ (s : State) (r : Reset), s.reset? .chip = some r → r.phase = 5 → r.atLevel = 4 →
    ∃ u : State, u = (s.begin.upReset .chip (fun x => { x with phase := 6 })).beginBringup 1 ∧
      exec .chipResetSequenceDone s = .next (if u.pwrcyc then u.putN (key 0x2400 3) 2 else u).settleAll) ∧
  (∀ (s : State) (i : ResetId) (r : Reset), s.expired (.resetTimeout i) = true → s.reset? i = some r →
    exec (.resetTimeout i) s = .next ((s.begin.expire (.resetTimeout i)).resetHangs r).settleAll) ∧
  (∀ (s : State) (c : PCore), s.expired (.captureTimeout c) = true →
    ∃ t, exec (.captureTimeout c) s = .next t ∧ t.get (coreKey c 0xD2) = 3 ∧
      t.rcv = { s.rcv with
        latching := s.rcv.latching.filter (fun x => decide (x ≠ c)),
        latchLate := s.rcv.latchLate.filter (fun x => decide (x ≠ c)) ++ [c],
        resets := s.rcv.resets.map (fun r => if c ∈ r.cores then { r with notCaptured := r.notCaptured + 1 } else r) } ∧
      t = { s with out := [], dict := t.dict, cont := t.cont, timers := t.timers, rcv := t.rcv, err := t.err } ∧
      s.KeepsBut t [coreKey c 0xD2])

/-- A dump is written and told to what waits for it, or cut by its budget; late writes and packets of an incarnation that is no more
are counted and raised (R313, R322, R328, R339). The Cellar's patrol mends or marks what is damaged in each of its intervals; the
host's erasure drops what is not configuration (R342, R344). -/
def Obligations.DumpsLateTrafficAndCellarAct : Prop :=
  ((∀ (s : State) (bad : List Nat) (x : Dump), s.rcv.dumps.find? (fun (y : Dump) => decide (y.origin ≠ 2)) = some x →
    s.dutyRuns 0 = true →
    ∃ u : State, u = (if (s.reset? .chip).any (fun r => r.phase == 4 && r.dump == some x.num)
        then s.begin.arrives .dumpBudgetTimeout 6 else s.begin) ∧
      exec (.dumpWritten bad) s = .next ((u.writeDump x none 0 bad).dumpEnds x.num).settleAll) ∧
  (∀ (s : State) (r : Reset) (x : Dump), s.expired .dumpBudgetTimeout = true → s.reset? .chip = some r →
    s.rcv.dumps.find? (fun (y : Dump) => some y.num == r.dump) = some x →
    ∃ (u : State) (cut : Nat), (s.begin.expire .dumpBudgetTimeout).sectionsCut x = (u, cut) ∧
      exec .dumpBudgetTimeout s = .next ((u.writeDump x (some cut) 2 []).dumpEnds x.num).settleAll) ∧
  (∀ (s : State) (c : PCore) (w : Option PCore) (r : Rank) (tag : BitVec 16) (word : BitVec 25), s.tagCurrent tag = false →
    ∃ u : State, u = State.noteLate ((s.begin.bump (coreKey c 0xD3)).bump (key 0x2900 0x12)) tag
        (fun r => { r with lateWrites := r.lateWrites + 1 }) ∧
      exec (.lateWriteDropped c w r tag word) s = .next (u.raiseRecord 0xB1 c.val
        (lateRecord u.now tag.toNat 1 0xFF c.val (match w with | some c => c.val | none => 0xFFFF) word.toNat (2 ^ 48 - 1) r)
        false (key 0x2900 0x14)).settleAll) ∧
  (∀ (s : State) (p : PortNo) (r : Rank) (tag : BitVec 16) (seq : BitVec 32) (n : Nat), s.tagCurrent tag = false →
    ∃ u : State, u = State.noteLate ((s.begin.bump (portKey p 0x60)).bump (key 0x2900 0x13)) tag
        (fun r => { r with latePackets := r.latePackets + 1 }) ∧
      exec (.latePacketDiscarded p r tag seq n) s = .next (u.raiseRecord 0xB2 p.val
        (lateRecord u.now tag.toNat 2 p.val 0xFFFF 0xFFFF seq.toNat n r) false (key 0x2900 0x14)).settleAll)) ∧
  ((∀ (s : State) (l : List Nat), s.expired (.cellarPatrol []) = true → s.dutyRuns 0 = false →
    exec (.cellarPatrol l) s = .next (s.begin.arm (.cellarPatrol []) (hour (s.nat (key 0x2A00 0xE))))) ∧
  (∀ (s : State) (l : List Nat), s.expired (.cellarPatrol []) = true → s.dutyRuns 0 = true →
    ∃ u : State, u = s.begin.arm (.cellarPatrol []) (hour (s.nat (key 0x2A00 0xE))) ∧
      exec (.cellarPatrol l) s = .next (State.settleAll
        ((u.cel.entries.filter (fun e => e.committed && !(damagedIn e l).isEmpty)).foldl
          (fun (v : State) (e : CellEntry) => v.patrolEntry e (damagedIn e l)) u |>.put (key 0x2A00 0xB)
          ((u.cel.entries.filter (fun e => e.committed && !(damagedIn e l).isEmpty)).foldl
            (fun (v : State) (e : CellEntry) => v.patrolEntry e (damagedIn e l)) u).now))) ∧
  (∀ (s x : State) (path : Path), x = s.taking path (key 0x2A00 0xD) → s.Takes path (key 0x2A00 0xD) 1 false →
    ∃ u : State, exec (.cellarErase path) s = .next (u.endGrant path (key 0x2A00 0xD) .done) ∧
      u = x.setCellar { x.cel with
        entries := x.cel.entries.map (fun e => if 2 ≤ e.region then { e with committed := false } else e)
        dumpAt := [] }))
end

