-- ==== Sys2Proof/Laws/State.lean ====
section
/-! SUPPORT. Beside State: what each of its plain updates leaves, one lemma per field per update, true by rfl. -/

namespace Sys2Proof.Machine

/-! ### put -/

@[simp] theorem State.put_pending (s : State) (k : Nat) (v : Word) : (s.put k v).pending = s.pending := rfl
@[simp] theorem State.put_cont (s : State) (k : Nat) (v : Word) : (s.put k v).cont = s.cont := rfl
@[simp] theorem State.put_stat (s : State) (k : Nat) (v : Word) : (s.put k v).stat = s.stat := rfl
@[simp] theorem State.put_now (s : State) (k : Nat) (v : Word) : (s.put k v).now = s.now := rfl
@[simp] theorem State.put_timers (s : State) (k : Nat) (v : Word) : (s.put k v).timers = s.timers := rfl
@[simp] theorem State.put_out (s : State) (k : Nat) (v : Word) : (s.put k v).out = s.out := rfl
@[simp] theorem State.put_free (s : State) (k : Nat) (v : Word) : (s.put k v).free = s.free := rfl
@[simp] theorem State.put_staged (s : State) (k : Nat) (v : Word) : (s.put k v).staged = s.staged := rfl
@[simp] theorem State.put_drain (s : State) (k : Nat) (v : Word) : (s.put k v).drain = s.drain := rfl
@[simp] theorem State.put_chans (s : State) (k : Nat) (v : Word) : (s.put k v).chans = s.chans := rfl
@[simp] theorem State.put_adp (s : State) (k : Nat) (v : Word) : (s.put k v).adp = s.adp := rfl
@[simp] theorem State.put_data (s : State) (k : Nat) (v : Word) : (s.put k v).data = s.data := rfl
@[simp] theorem State.put_tb (s : State) (k : Nat) (v : Word) : (s.put k v).tb = s.tb := rfl
@[simp] theorem State.put_doms (s : State) (k : Nat) (v : Word) : (s.put k v).doms = s.doms := rfl
@[simp] theorem State.put_proofs (s : State) (k : Nat) (v : Word) : (s.put k v).proofs = s.proofs := rfl
@[simp] theorem State.put_suspects (s : State) (k : Nat) (v : Word) : (s.put k v).suspects = s.suspects := rfl
@[simp] theorem State.put_proofSuspects (s : State) (k : Nat) (v : Word) : (s.put k v).proofSuspects = s.proofSuspects := rfl
@[simp] theorem State.put_rows (s : State) (k : Nat) (v : Word) : (s.put k v).rows = s.rows := rfl
@[simp] theorem State.put_checkLate (s : State) (k : Nat) (v : Word) : (s.put k v).checkLate = s.checkLate := rfl
@[simp] theorem State.put_oldWork (s : State) (k : Nat) (v : Word) : (s.put k v).oldWork = s.oldWork := rfl
@[simp] theorem State.put_regen (s : State) (k : Nat) (v : Word) : (s.put k v).regen = s.regen := rfl
@[simp] theorem State.put_job (s : State) (k : Nat) (v : Word) : (s.put k v).job = s.job := rfl
@[simp] theorem State.put_runs (s : State) (k : Nat) (v : Word) : (s.put k v).runs = s.runs := rfl
@[simp] theorem State.put_nextRun (s : State) (k : Nat) (v : Word) : (s.put k v).nextRun = s.nextRun := rfl
@[simp] theorem State.put_crosses (s : State) (k : Nat) (v : Word) : (s.put k v).crosses = s.crosses := rfl
@[simp] theorem State.put_nextCross (s : State) (k : Nat) (v : Word) : (s.put k v).nextCross = s.nextCross := rfl
@[simp] theorem State.put_crossPass (s : State) (k : Nat) (v : Word) : (s.put k v).crossPass = s.crossPass := rfl
@[simp] theorem State.put_budgetWindow (s : State) (k : Nat) (v : Word) : (s.put k v).budgetWindow = s.budgetWindow := rfl
@[simp] theorem State.put_overBudget (s : State) (k : Nat) (v : Word) : (s.put k v).overBudget = s.overBudget := rfl
@[simp] theorem State.put_deferred (s : State) (k : Nat) (v : Word) : (s.put k v).deferred = s.deferred := rfl
@[simp] theorem State.put_waitingRuns (s : State) (k : Nat) (v : Word) : (s.put k v).waitingRuns = s.waitingRuns := rfl
@[simp] theorem State.put_waitingCross (s : State) (k : Nat) (v : Word) : (s.put k v).waitingCross = s.waitingCross := rfl
@[simp] theorem State.put_probings (s : State) (k : Nat) (v : Word) : (s.put k v).probings = s.probings := rfl
@[simp] theorem State.put_badRegulators (s : State) (k : Nat) (v : Word) : (s.put k v).badRegulators = s.badRegulators := rfl
@[simp] theorem State.put_idleMoves (s : State) (k : Nat) (v : Word) : (s.put k v).idleMoves = s.idleMoves := rfl
@[simp] theorem State.put_idleFills (s : State) (k : Nat) (v : Word) : (s.put k v).idleFills = s.idleFills := rfl
@[simp] theorem State.put_idleWaits (s : State) (k : Nat) (v : Word) : (s.put k v).idleWaits = s.idleWaits := rfl
@[simp] theorem State.put_slices (s : State) (k : Nat) (v : Word) : (s.put k v).slices = s.slices := rfl
@[simp] theorem State.put_digests (s : State) (k : Nat) (v : Word) : (s.put k v).digests = s.digests := rfl
@[simp] theorem State.put_kv (s : State) (k : Nat) (v : Word) : (s.put k v).kv = s.kv := rfl
@[simp] theorem State.put_fences (s : State) (k : Nat) (v : Word) : (s.put k v).fences = s.fences := rfl
@[simp] theorem State.put_fenceCounts (s : State) (k : Nat) (v : Word) : (s.put k v).fenceCounts = s.fenceCounts := rfl
@[simp] theorem State.put_attic (s : State) (k : Nat) (v : Word) : (s.put k v).attic = s.attic := rfl
@[simp] theorem State.put_holes (s : State) (k : Nat) (v : Word) : (s.put k v).holes = s.holes := rfl
@[simp] theorem State.put_err (s : State) (k : Nat) (v : Word) : (s.put k v).err = s.err := rfl
@[simp] theorem State.put_bring (s : State) (k : Nat) (v : Word) : (s.put k v).bring = s.bring := rfl
@[simp] theorem State.put_test (s : State) (k : Nat) (v : Word) : (s.put k v).test = s.test := rfl
@[simp] theorem State.put_keyClearing (s : State) (k : Nat) (v : Word) : (s.put k v).keyClearing = s.keyClearing := rfl
@[simp] theorem State.put_keyCleared (s : State) (k : Nat) (v : Word) : (s.put k v).keyCleared = s.keyCleared := rfl
@[simp] theorem State.put_lcToken (s : State) (k : Nat) (v : Word) : (s.put k v).lcToken = s.lcToken := rfl
@[simp] theorem State.put_lcProgramming (s : State) (k : Nat) (v : Word) : (s.put k v).lcProgramming = s.lcProgramming := rfl
@[simp] theorem State.put_coldStarts (s : State) (k : Nat) (v : Word) : (s.put k v).coldStarts = s.coldStarts := rfl
@[simp] theorem State.put_frz (s : State) (k : Nat) (v : Word) : (s.put k v).frz = s.frz := rfl
@[simp] theorem State.put_obs (s : State) (k : Nat) (v : Word) : (s.put k v).obs = s.obs := rfl
@[simp] theorem State.put_rcv (s : State) (k : Nat) (v : Word) : (s.put k v).rcv = s.rcv := rfl
@[simp] theorem State.put_cel (s : State) (k : Nat) (v : Word) : (s.put k v).cel = s.cel := rfl
@[simp] theorem State.put_probes (s : State) (k : Nat) (v : Word) : (s.put k v).probes = s.probes := rfl
@[simp] theorem State.put_pcs (s : State) (k : Nat) (v : Word) : (s.put k v).pcs = s.pcs := rfl
@[simp] theorem State.put_img (s : State) (k : Nat) (v : Word) : (s.put k v).img = s.img := rfl
@[simp] theorem State.put_powered (s : State) (k : Nat) (v : Word) : (s.put k v).powered = s.powered := rfl
@[simp] theorem State.put_porst (s : State) (k : Nat) (v : Word) : (s.put k v).porst = s.porst := rfl
@[simp] theorem State.put_brownOut (s : State) (k : Nat) (v : Word) : (s.put k v).brownOut = s.brownOut := rfl
@[simp] theorem State.put_pwrcyc (s : State) (k : Nat) (v : Word) : (s.put k v).pwrcyc = s.pwrcyc := rfl
@[simp] theorem State.put_nearSecs (s : State) (k : Nat) (v : Word) : (s.put k v).nearSecs = s.nearSecs := rfl
@[simp] theorem State.put_coldMap (s : State) (k : Nat) (v : Word) : (s.put k v).coldMap = s.coldMap := rfl

/-! ### putN -/

@[simp] theorem State.putN_pending (s : State) (k n : Nat) : (s.putN k n).pending = s.pending := rfl
@[simp] theorem State.putN_cont (s : State) (k n : Nat) : (s.putN k n).cont = s.cont := rfl
@[simp] theorem State.putN_stat (s : State) (k n : Nat) : (s.putN k n).stat = s.stat := rfl
@[simp] theorem State.putN_now (s : State) (k n : Nat) : (s.putN k n).now = s.now := rfl
@[simp] theorem State.putN_timers (s : State) (k n : Nat) : (s.putN k n).timers = s.timers := rfl
@[simp] theorem State.putN_out (s : State) (k n : Nat) : (s.putN k n).out = s.out := rfl
@[simp] theorem State.putN_free (s : State) (k n : Nat) : (s.putN k n).free = s.free := rfl
@[simp] theorem State.putN_staged (s : State) (k n : Nat) : (s.putN k n).staged = s.staged := rfl
@[simp] theorem State.putN_drain (s : State) (k n : Nat) : (s.putN k n).drain = s.drain := rfl
@[simp] theorem State.putN_chans (s : State) (k n : Nat) : (s.putN k n).chans = s.chans := rfl
@[simp] theorem State.putN_adp (s : State) (k n : Nat) : (s.putN k n).adp = s.adp := rfl
@[simp] theorem State.putN_data (s : State) (k n : Nat) : (s.putN k n).data = s.data := rfl
@[simp] theorem State.putN_tb (s : State) (k n : Nat) : (s.putN k n).tb = s.tb := rfl
@[simp] theorem State.putN_doms (s : State) (k n : Nat) : (s.putN k n).doms = s.doms := rfl
@[simp] theorem State.putN_proofs (s : State) (k n : Nat) : (s.putN k n).proofs = s.proofs := rfl
@[simp] theorem State.putN_suspects (s : State) (k n : Nat) : (s.putN k n).suspects = s.suspects := rfl
@[simp] theorem State.putN_proofSuspects (s : State) (k n : Nat) : (s.putN k n).proofSuspects = s.proofSuspects := rfl
@[simp] theorem State.putN_rows (s : State) (k n : Nat) : (s.putN k n).rows = s.rows := rfl
@[simp] theorem State.putN_checkLate (s : State) (k n : Nat) : (s.putN k n).checkLate = s.checkLate := rfl
@[simp] theorem State.putN_oldWork (s : State) (k n : Nat) : (s.putN k n).oldWork = s.oldWork := rfl
@[simp] theorem State.putN_regen (s : State) (k n : Nat) : (s.putN k n).regen = s.regen := rfl
@[simp] theorem State.putN_job (s : State) (k n : Nat) : (s.putN k n).job = s.job := rfl
@[simp] theorem State.putN_runs (s : State) (k n : Nat) : (s.putN k n).runs = s.runs := rfl
@[simp] theorem State.putN_nextRun (s : State) (k n : Nat) : (s.putN k n).nextRun = s.nextRun := rfl
@[simp] theorem State.putN_crosses (s : State) (k n : Nat) : (s.putN k n).crosses = s.crosses := rfl
@[simp] theorem State.putN_nextCross (s : State) (k n : Nat) : (s.putN k n).nextCross = s.nextCross := rfl
@[simp] theorem State.putN_crossPass (s : State) (k n : Nat) : (s.putN k n).crossPass = s.crossPass := rfl
@[simp] theorem State.putN_budgetWindow (s : State) (k n : Nat) : (s.putN k n).budgetWindow = s.budgetWindow := rfl
@[simp] theorem State.putN_overBudget (s : State) (k n : Nat) : (s.putN k n).overBudget = s.overBudget := rfl
@[simp] theorem State.putN_deferred (s : State) (k n : Nat) : (s.putN k n).deferred = s.deferred := rfl
@[simp] theorem State.putN_waitingRuns (s : State) (k n : Nat) : (s.putN k n).waitingRuns = s.waitingRuns := rfl
@[simp] theorem State.putN_waitingCross (s : State) (k n : Nat) : (s.putN k n).waitingCross = s.waitingCross := rfl
@[simp] theorem State.putN_probings (s : State) (k n : Nat) : (s.putN k n).probings = s.probings := rfl
@[simp] theorem State.putN_badRegulators (s : State) (k n : Nat) : (s.putN k n).badRegulators = s.badRegulators := rfl
@[simp] theorem State.putN_idleMoves (s : State) (k n : Nat) : (s.putN k n).idleMoves = s.idleMoves := rfl
@[simp] theorem State.putN_idleFills (s : State) (k n : Nat) : (s.putN k n).idleFills = s.idleFills := rfl
@[simp] theorem State.putN_idleWaits (s : State) (k n : Nat) : (s.putN k n).idleWaits = s.idleWaits := rfl
@[simp] theorem State.putN_slices (s : State) (k n : Nat) : (s.putN k n).slices = s.slices := rfl
@[simp] theorem State.putN_digests (s : State) (k n : Nat) : (s.putN k n).digests = s.digests := rfl
@[simp] theorem State.putN_kv (s : State) (k n : Nat) : (s.putN k n).kv = s.kv := rfl
@[simp] theorem State.putN_fences (s : State) (k n : Nat) : (s.putN k n).fences = s.fences := rfl
@[simp] theorem State.putN_fenceCounts (s : State) (k n : Nat) : (s.putN k n).fenceCounts = s.fenceCounts := rfl
@[simp] theorem State.putN_attic (s : State) (k n : Nat) : (s.putN k n).attic = s.attic := rfl
@[simp] theorem State.putN_holes (s : State) (k n : Nat) : (s.putN k n).holes = s.holes := rfl
@[simp] theorem State.putN_err (s : State) (k n : Nat) : (s.putN k n).err = s.err := rfl
@[simp] theorem State.putN_bring (s : State) (k n : Nat) : (s.putN k n).bring = s.bring := rfl
@[simp] theorem State.putN_test (s : State) (k n : Nat) : (s.putN k n).test = s.test := rfl
@[simp] theorem State.putN_keyClearing (s : State) (k n : Nat) : (s.putN k n).keyClearing = s.keyClearing := rfl
@[simp] theorem State.putN_keyCleared (s : State) (k n : Nat) : (s.putN k n).keyCleared = s.keyCleared := rfl
@[simp] theorem State.putN_lcToken (s : State) (k n : Nat) : (s.putN k n).lcToken = s.lcToken := rfl
@[simp] theorem State.putN_lcProgramming (s : State) (k n : Nat) : (s.putN k n).lcProgramming = s.lcProgramming := rfl
@[simp] theorem State.putN_coldStarts (s : State) (k n : Nat) : (s.putN k n).coldStarts = s.coldStarts := rfl
@[simp] theorem State.putN_frz (s : State) (k n : Nat) : (s.putN k n).frz = s.frz := rfl
@[simp] theorem State.putN_obs (s : State) (k n : Nat) : (s.putN k n).obs = s.obs := rfl
@[simp] theorem State.putN_rcv (s : State) (k n : Nat) : (s.putN k n).rcv = s.rcv := rfl
@[simp] theorem State.putN_cel (s : State) (k n : Nat) : (s.putN k n).cel = s.cel := rfl
@[simp] theorem State.putN_probes (s : State) (k n : Nat) : (s.putN k n).probes = s.probes := rfl
@[simp] theorem State.putN_pcs (s : State) (k n : Nat) : (s.putN k n).pcs = s.pcs := rfl
@[simp] theorem State.putN_img (s : State) (k n : Nat) : (s.putN k n).img = s.img := rfl
@[simp] theorem State.putN_powered (s : State) (k n : Nat) : (s.putN k n).powered = s.powered := rfl
@[simp] theorem State.putN_porst (s : State) (k n : Nat) : (s.putN k n).porst = s.porst := rfl
@[simp] theorem State.putN_brownOut (s : State) (k n : Nat) : (s.putN k n).brownOut = s.brownOut := rfl
@[simp] theorem State.putN_pwrcyc (s : State) (k n : Nat) : (s.putN k n).pwrcyc = s.pwrcyc := rfl
@[simp] theorem State.putN_nearSecs (s : State) (k n : Nat) : (s.putN k n).nearSecs = s.nearSecs := rfl
@[simp] theorem State.putN_coldMap (s : State) (k n : Nat) : (s.putN k n).coldMap = s.coldMap := rfl

/-! ### setContent -/

@[simp] theorem State.setContent_pending (s : State) (k : Nat) (b : Bytes) : (s.setContent k b).pending = s.pending := rfl
@[simp] theorem State.setContent_dict (s : State) (k : Nat) (b : Bytes) : (s.setContent k b).dict = s.dict := rfl
@[simp] theorem State.setContent_stat (s : State) (k : Nat) (b : Bytes) : (s.setContent k b).stat = s.stat := rfl
@[simp] theorem State.setContent_now (s : State) (k : Nat) (b : Bytes) : (s.setContent k b).now = s.now := rfl
@[simp] theorem State.setContent_timers (s : State) (k : Nat) (b : Bytes) : (s.setContent k b).timers = s.timers := rfl
@[simp] theorem State.setContent_out (s : State) (k : Nat) (b : Bytes) : (s.setContent k b).out = s.out := rfl
@[simp] theorem State.setContent_free (s : State) (k : Nat) (b : Bytes) : (s.setContent k b).free = s.free := rfl
@[simp] theorem State.setContent_staged (s : State) (k : Nat) (b : Bytes) : (s.setContent k b).staged = s.staged := rfl
@[simp] theorem State.setContent_drain (s : State) (k : Nat) (b : Bytes) : (s.setContent k b).drain = s.drain := rfl
@[simp] theorem State.setContent_chans (s : State) (k : Nat) (b : Bytes) : (s.setContent k b).chans = s.chans := rfl
@[simp] theorem State.setContent_adp (s : State) (k : Nat) (b : Bytes) : (s.setContent k b).adp = s.adp := rfl
@[simp] theorem State.setContent_data (s : State) (k : Nat) (b : Bytes) : (s.setContent k b).data = s.data := rfl
@[simp] theorem State.setContent_tb (s : State) (k : Nat) (b : Bytes) : (s.setContent k b).tb = s.tb := rfl
@[simp] theorem State.setContent_doms (s : State) (k : Nat) (b : Bytes) : (s.setContent k b).doms = s.doms := rfl
@[simp] theorem State.setContent_proofs (s : State) (k : Nat) (b : Bytes) : (s.setContent k b).proofs = s.proofs := rfl
@[simp] theorem State.setContent_suspects (s : State) (k : Nat) (b : Bytes) : (s.setContent k b).suspects = s.suspects := rfl
@[simp] theorem State.setContent_proofSuspects (s : State) (k : Nat) (b : Bytes) : (s.setContent k b).proofSuspects = s.proofSuspects := rfl
@[simp] theorem State.setContent_rows (s : State) (k : Nat) (b : Bytes) : (s.setContent k b).rows = s.rows := rfl
@[simp] theorem State.setContent_checkLate (s : State) (k : Nat) (b : Bytes) : (s.setContent k b).checkLate = s.checkLate := rfl
@[simp] theorem State.setContent_oldWork (s : State) (k : Nat) (b : Bytes) : (s.setContent k b).oldWork = s.oldWork := rfl
@[simp] theorem State.setContent_regen (s : State) (k : Nat) (b : Bytes) : (s.setContent k b).regen = s.regen := rfl
@[simp] theorem State.setContent_job (s : State) (k : Nat) (b : Bytes) : (s.setContent k b).job = s.job := rfl
@[simp] theorem State.setContent_runs (s : State) (k : Nat) (b : Bytes) : (s.setContent k b).runs = s.runs := rfl
@[simp] theorem State.setContent_nextRun (s : State) (k : Nat) (b : Bytes) : (s.setContent k b).nextRun = s.nextRun := rfl
@[simp] theorem State.setContent_crosses (s : State) (k : Nat) (b : Bytes) : (s.setContent k b).crosses = s.crosses := rfl
@[simp] theorem State.setContent_nextCross (s : State) (k : Nat) (b : Bytes) : (s.setContent k b).nextCross = s.nextCross := rfl
@[simp] theorem State.setContent_crossPass (s : State) (k : Nat) (b : Bytes) : (s.setContent k b).crossPass = s.crossPass := rfl
@[simp] theorem State.setContent_budgetWindow (s : State) (k : Nat) (b : Bytes) : (s.setContent k b).budgetWindow = s.budgetWindow := rfl
@[simp] theorem State.setContent_overBudget (s : State) (k : Nat) (b : Bytes) : (s.setContent k b).overBudget = s.overBudget := rfl
@[simp] theorem State.setContent_deferred (s : State) (k : Nat) (b : Bytes) : (s.setContent k b).deferred = s.deferred := rfl
@[simp] theorem State.setContent_waitingRuns (s : State) (k : Nat) (b : Bytes) : (s.setContent k b).waitingRuns = s.waitingRuns := rfl
@[simp] theorem State.setContent_waitingCross (s : State) (k : Nat) (b : Bytes) : (s.setContent k b).waitingCross = s.waitingCross := rfl
@[simp] theorem State.setContent_probings (s : State) (k : Nat) (b : Bytes) : (s.setContent k b).probings = s.probings := rfl
@[simp] theorem State.setContent_badRegulators (s : State) (k : Nat) (b : Bytes) : (s.setContent k b).badRegulators = s.badRegulators := rfl
@[simp] theorem State.setContent_idleMoves (s : State) (k : Nat) (b : Bytes) : (s.setContent k b).idleMoves = s.idleMoves := rfl
@[simp] theorem State.setContent_idleFills (s : State) (k : Nat) (b : Bytes) : (s.setContent k b).idleFills = s.idleFills := rfl
@[simp] theorem State.setContent_idleWaits (s : State) (k : Nat) (b : Bytes) : (s.setContent k b).idleWaits = s.idleWaits := rfl
@[simp] theorem State.setContent_slices (s : State) (k : Nat) (b : Bytes) : (s.setContent k b).slices = s.slices := rfl
@[simp] theorem State.setContent_digests (s : State) (k : Nat) (b : Bytes) : (s.setContent k b).digests = s.digests := rfl
@[simp] theorem State.setContent_kv (s : State) (k : Nat) (b : Bytes) : (s.setContent k b).kv = s.kv := rfl
@[simp] theorem State.setContent_fences (s : State) (k : Nat) (b : Bytes) : (s.setContent k b).fences = s.fences := rfl
@[simp] theorem State.setContent_fenceCounts (s : State) (k : Nat) (b : Bytes) : (s.setContent k b).fenceCounts = s.fenceCounts := rfl
@[simp] theorem State.setContent_attic (s : State) (k : Nat) (b : Bytes) : (s.setContent k b).attic = s.attic := rfl
@[simp] theorem State.setContent_holes (s : State) (k : Nat) (b : Bytes) : (s.setContent k b).holes = s.holes := rfl
@[simp] theorem State.setContent_err (s : State) (k : Nat) (b : Bytes) : (s.setContent k b).err = s.err := rfl
@[simp] theorem State.setContent_bring (s : State) (k : Nat) (b : Bytes) : (s.setContent k b).bring = s.bring := rfl
@[simp] theorem State.setContent_test (s : State) (k : Nat) (b : Bytes) : (s.setContent k b).test = s.test := rfl
@[simp] theorem State.setContent_keyClearing (s : State) (k : Nat) (b : Bytes) : (s.setContent k b).keyClearing = s.keyClearing := rfl
@[simp] theorem State.setContent_keyCleared (s : State) (k : Nat) (b : Bytes) : (s.setContent k b).keyCleared = s.keyCleared := rfl
@[simp] theorem State.setContent_lcToken (s : State) (k : Nat) (b : Bytes) : (s.setContent k b).lcToken = s.lcToken := rfl
@[simp] theorem State.setContent_lcProgramming (s : State) (k : Nat) (b : Bytes) : (s.setContent k b).lcProgramming = s.lcProgramming := rfl
@[simp] theorem State.setContent_coldStarts (s : State) (k : Nat) (b : Bytes) : (s.setContent k b).coldStarts = s.coldStarts := rfl
@[simp] theorem State.setContent_frz (s : State) (k : Nat) (b : Bytes) : (s.setContent k b).frz = s.frz := rfl
@[simp] theorem State.setContent_obs (s : State) (k : Nat) (b : Bytes) : (s.setContent k b).obs = s.obs := rfl
@[simp] theorem State.setContent_rcv (s : State) (k : Nat) (b : Bytes) : (s.setContent k b).rcv = s.rcv := rfl
@[simp] theorem State.setContent_cel (s : State) (k : Nat) (b : Bytes) : (s.setContent k b).cel = s.cel := rfl
@[simp] theorem State.setContent_probes (s : State) (k : Nat) (b : Bytes) : (s.setContent k b).probes = s.probes := rfl
@[simp] theorem State.setContent_pcs (s : State) (k : Nat) (b : Bytes) : (s.setContent k b).pcs = s.pcs := rfl
@[simp] theorem State.setContent_img (s : State) (k : Nat) (b : Bytes) : (s.setContent k b).img = s.img := rfl
@[simp] theorem State.setContent_powered (s : State) (k : Nat) (b : Bytes) : (s.setContent k b).powered = s.powered := rfl
@[simp] theorem State.setContent_porst (s : State) (k : Nat) (b : Bytes) : (s.setContent k b).porst = s.porst := rfl
@[simp] theorem State.setContent_brownOut (s : State) (k : Nat) (b : Bytes) : (s.setContent k b).brownOut = s.brownOut := rfl
@[simp] theorem State.setContent_pwrcyc (s : State) (k : Nat) (b : Bytes) : (s.setContent k b).pwrcyc = s.pwrcyc := rfl
@[simp] theorem State.setContent_nearSecs (s : State) (k : Nat) (b : Bytes) : (s.setContent k b).nearSecs = s.nearSecs := rfl
@[simp] theorem State.setContent_coldMap (s : State) (k : Nat) (b : Bytes) : (s.setContent k b).coldMap = s.coldMap := rfl

/-! ### setStatus -/

@[simp] theorem State.setStatus_pending (s : State) (k : Nat) (v : Stat) : (s.setStatus k v).pending = s.pending := rfl
@[simp] theorem State.setStatus_dict (s : State) (k : Nat) (v : Stat) : (s.setStatus k v).dict = s.dict := rfl
@[simp] theorem State.setStatus_cont (s : State) (k : Nat) (v : Stat) : (s.setStatus k v).cont = s.cont := rfl
@[simp] theorem State.setStatus_now (s : State) (k : Nat) (v : Stat) : (s.setStatus k v).now = s.now := rfl
@[simp] theorem State.setStatus_timers (s : State) (k : Nat) (v : Stat) : (s.setStatus k v).timers = s.timers := rfl
@[simp] theorem State.setStatus_out (s : State) (k : Nat) (v : Stat) : (s.setStatus k v).out = s.out := rfl
@[simp] theorem State.setStatus_free (s : State) (k : Nat) (v : Stat) : (s.setStatus k v).free = s.free := rfl
@[simp] theorem State.setStatus_staged (s : State) (k : Nat) (v : Stat) : (s.setStatus k v).staged = s.staged := rfl
@[simp] theorem State.setStatus_drain (s : State) (k : Nat) (v : Stat) : (s.setStatus k v).drain = s.drain := rfl
@[simp] theorem State.setStatus_chans (s : State) (k : Nat) (v : Stat) : (s.setStatus k v).chans = s.chans := rfl
@[simp] theorem State.setStatus_adp (s : State) (k : Nat) (v : Stat) : (s.setStatus k v).adp = s.adp := rfl
@[simp] theorem State.setStatus_data (s : State) (k : Nat) (v : Stat) : (s.setStatus k v).data = s.data := rfl
@[simp] theorem State.setStatus_tb (s : State) (k : Nat) (v : Stat) : (s.setStatus k v).tb = s.tb := rfl
@[simp] theorem State.setStatus_doms (s : State) (k : Nat) (v : Stat) : (s.setStatus k v).doms = s.doms := rfl
@[simp] theorem State.setStatus_proofs (s : State) (k : Nat) (v : Stat) : (s.setStatus k v).proofs = s.proofs := rfl
@[simp] theorem State.setStatus_suspects (s : State) (k : Nat) (v : Stat) : (s.setStatus k v).suspects = s.suspects := rfl
@[simp] theorem State.setStatus_proofSuspects (s : State) (k : Nat) (v : Stat) : (s.setStatus k v).proofSuspects = s.proofSuspects := rfl
@[simp] theorem State.setStatus_rows (s : State) (k : Nat) (v : Stat) : (s.setStatus k v).rows = s.rows := rfl
@[simp] theorem State.setStatus_checkLate (s : State) (k : Nat) (v : Stat) : (s.setStatus k v).checkLate = s.checkLate := rfl
@[simp] theorem State.setStatus_oldWork (s : State) (k : Nat) (v : Stat) : (s.setStatus k v).oldWork = s.oldWork := rfl
@[simp] theorem State.setStatus_regen (s : State) (k : Nat) (v : Stat) : (s.setStatus k v).regen = s.regen := rfl
@[simp] theorem State.setStatus_job (s : State) (k : Nat) (v : Stat) : (s.setStatus k v).job = s.job := rfl
@[simp] theorem State.setStatus_runs (s : State) (k : Nat) (v : Stat) : (s.setStatus k v).runs = s.runs := rfl
@[simp] theorem State.setStatus_nextRun (s : State) (k : Nat) (v : Stat) : (s.setStatus k v).nextRun = s.nextRun := rfl
@[simp] theorem State.setStatus_crosses (s : State) (k : Nat) (v : Stat) : (s.setStatus k v).crosses = s.crosses := rfl
@[simp] theorem State.setStatus_nextCross (s : State) (k : Nat) (v : Stat) : (s.setStatus k v).nextCross = s.nextCross := rfl
@[simp] theorem State.setStatus_crossPass (s : State) (k : Nat) (v : Stat) : (s.setStatus k v).crossPass = s.crossPass := rfl
@[simp] theorem State.setStatus_budgetWindow (s : State) (k : Nat) (v : Stat) : (s.setStatus k v).budgetWindow = s.budgetWindow := rfl
@[simp] theorem State.setStatus_overBudget (s : State) (k : Nat) (v : Stat) : (s.setStatus k v).overBudget = s.overBudget := rfl
@[simp] theorem State.setStatus_deferred (s : State) (k : Nat) (v : Stat) : (s.setStatus k v).deferred = s.deferred := rfl
@[simp] theorem State.setStatus_waitingRuns (s : State) (k : Nat) (v : Stat) : (s.setStatus k v).waitingRuns = s.waitingRuns := rfl
@[simp] theorem State.setStatus_waitingCross (s : State) (k : Nat) (v : Stat) : (s.setStatus k v).waitingCross = s.waitingCross := rfl
@[simp] theorem State.setStatus_probings (s : State) (k : Nat) (v : Stat) : (s.setStatus k v).probings = s.probings := rfl
@[simp] theorem State.setStatus_badRegulators (s : State) (k : Nat) (v : Stat) : (s.setStatus k v).badRegulators = s.badRegulators := rfl
@[simp] theorem State.setStatus_idleMoves (s : State) (k : Nat) (v : Stat) : (s.setStatus k v).idleMoves = s.idleMoves := rfl
@[simp] theorem State.setStatus_idleFills (s : State) (k : Nat) (v : Stat) : (s.setStatus k v).idleFills = s.idleFills := rfl
@[simp] theorem State.setStatus_idleWaits (s : State) (k : Nat) (v : Stat) : (s.setStatus k v).idleWaits = s.idleWaits := rfl
@[simp] theorem State.setStatus_slices (s : State) (k : Nat) (v : Stat) : (s.setStatus k v).slices = s.slices := rfl
@[simp] theorem State.setStatus_digests (s : State) (k : Nat) (v : Stat) : (s.setStatus k v).digests = s.digests := rfl
@[simp] theorem State.setStatus_kv (s : State) (k : Nat) (v : Stat) : (s.setStatus k v).kv = s.kv := rfl
@[simp] theorem State.setStatus_fences (s : State) (k : Nat) (v : Stat) : (s.setStatus k v).fences = s.fences := rfl
@[simp] theorem State.setStatus_fenceCounts (s : State) (k : Nat) (v : Stat) : (s.setStatus k v).fenceCounts = s.fenceCounts := rfl
@[simp] theorem State.setStatus_attic (s : State) (k : Nat) (v : Stat) : (s.setStatus k v).attic = s.attic := rfl
@[simp] theorem State.setStatus_holes (s : State) (k : Nat) (v : Stat) : (s.setStatus k v).holes = s.holes := rfl
@[simp] theorem State.setStatus_err (s : State) (k : Nat) (v : Stat) : (s.setStatus k v).err = s.err := rfl
@[simp] theorem State.setStatus_bring (s : State) (k : Nat) (v : Stat) : (s.setStatus k v).bring = s.bring := rfl
@[simp] theorem State.setStatus_test (s : State) (k : Nat) (v : Stat) : (s.setStatus k v).test = s.test := rfl
@[simp] theorem State.setStatus_keyClearing (s : State) (k : Nat) (v : Stat) : (s.setStatus k v).keyClearing = s.keyClearing := rfl
@[simp] theorem State.setStatus_keyCleared (s : State) (k : Nat) (v : Stat) : (s.setStatus k v).keyCleared = s.keyCleared := rfl
@[simp] theorem State.setStatus_lcToken (s : State) (k : Nat) (v : Stat) : (s.setStatus k v).lcToken = s.lcToken := rfl
@[simp] theorem State.setStatus_lcProgramming (s : State) (k : Nat) (v : Stat) : (s.setStatus k v).lcProgramming = s.lcProgramming := rfl
@[simp] theorem State.setStatus_coldStarts (s : State) (k : Nat) (v : Stat) : (s.setStatus k v).coldStarts = s.coldStarts := rfl
@[simp] theorem State.setStatus_frz (s : State) (k : Nat) (v : Stat) : (s.setStatus k v).frz = s.frz := rfl
@[simp] theorem State.setStatus_obs (s : State) (k : Nat) (v : Stat) : (s.setStatus k v).obs = s.obs := rfl
@[simp] theorem State.setStatus_rcv (s : State) (k : Nat) (v : Stat) : (s.setStatus k v).rcv = s.rcv := rfl
@[simp] theorem State.setStatus_cel (s : State) (k : Nat) (v : Stat) : (s.setStatus k v).cel = s.cel := rfl
@[simp] theorem State.setStatus_probes (s : State) (k : Nat) (v : Stat) : (s.setStatus k v).probes = s.probes := rfl
@[simp] theorem State.setStatus_pcs (s : State) (k : Nat) (v : Stat) : (s.setStatus k v).pcs = s.pcs := rfl
@[simp] theorem State.setStatus_img (s : State) (k : Nat) (v : Stat) : (s.setStatus k v).img = s.img := rfl
@[simp] theorem State.setStatus_powered (s : State) (k : Nat) (v : Stat) : (s.setStatus k v).powered = s.powered := rfl
@[simp] theorem State.setStatus_porst (s : State) (k : Nat) (v : Stat) : (s.setStatus k v).porst = s.porst := rfl
@[simp] theorem State.setStatus_brownOut (s : State) (k : Nat) (v : Stat) : (s.setStatus k v).brownOut = s.brownOut := rfl
@[simp] theorem State.setStatus_pwrcyc (s : State) (k : Nat) (v : Stat) : (s.setStatus k v).pwrcyc = s.pwrcyc := rfl
@[simp] theorem State.setStatus_nearSecs (s : State) (k : Nat) (v : Stat) : (s.setStatus k v).nearSecs = s.nearSecs := rfl
@[simp] theorem State.setStatus_coldMap (s : State) (k : Nat) (v : Stat) : (s.setStatus k v).coldMap = s.coldMap := rfl

/-! ### begin -/

@[simp] theorem State.begin_pending (s : State) : (s.begin).pending = s.pending := rfl
@[simp] theorem State.begin_dict (s : State) : (s.begin).dict = s.dict := rfl
@[simp] theorem State.begin_cont (s : State) : (s.begin).cont = s.cont := rfl
@[simp] theorem State.begin_stat (s : State) : (s.begin).stat = s.stat := rfl
@[simp] theorem State.begin_now (s : State) : (s.begin).now = s.now := rfl
@[simp] theorem State.begin_timers (s : State) : (s.begin).timers = s.timers := rfl
@[simp] theorem State.begin_free (s : State) : (s.begin).free = s.free := rfl
@[simp] theorem State.begin_staged (s : State) : (s.begin).staged = s.staged := rfl
@[simp] theorem State.begin_drain (s : State) : (s.begin).drain = s.drain := rfl
@[simp] theorem State.begin_chans (s : State) : (s.begin).chans = s.chans := rfl
@[simp] theorem State.begin_adp (s : State) : (s.begin).adp = s.adp := rfl
@[simp] theorem State.begin_data (s : State) : (s.begin).data = s.data := rfl
@[simp] theorem State.begin_tb (s : State) : (s.begin).tb = s.tb := rfl
@[simp] theorem State.begin_doms (s : State) : (s.begin).doms = s.doms := rfl
@[simp] theorem State.begin_proofs (s : State) : (s.begin).proofs = s.proofs := rfl
@[simp] theorem State.begin_suspects (s : State) : (s.begin).suspects = s.suspects := rfl
@[simp] theorem State.begin_proofSuspects (s : State) : (s.begin).proofSuspects = s.proofSuspects := rfl
@[simp] theorem State.begin_rows (s : State) : (s.begin).rows = s.rows := rfl
@[simp] theorem State.begin_checkLate (s : State) : (s.begin).checkLate = s.checkLate := rfl
@[simp] theorem State.begin_oldWork (s : State) : (s.begin).oldWork = s.oldWork := rfl
@[simp] theorem State.begin_regen (s : State) : (s.begin).regen = s.regen := rfl
@[simp] theorem State.begin_job (s : State) : (s.begin).job = s.job := rfl
@[simp] theorem State.begin_runs (s : State) : (s.begin).runs = s.runs := rfl
@[simp] theorem State.begin_nextRun (s : State) : (s.begin).nextRun = s.nextRun := rfl
@[simp] theorem State.begin_crosses (s : State) : (s.begin).crosses = s.crosses := rfl
@[simp] theorem State.begin_nextCross (s : State) : (s.begin).nextCross = s.nextCross := rfl
@[simp] theorem State.begin_crossPass (s : State) : (s.begin).crossPass = s.crossPass := rfl
@[simp] theorem State.begin_budgetWindow (s : State) : (s.begin).budgetWindow = s.budgetWindow := rfl
@[simp] theorem State.begin_overBudget (s : State) : (s.begin).overBudget = s.overBudget := rfl
@[simp] theorem State.begin_deferred (s : State) : (s.begin).deferred = s.deferred := rfl
@[simp] theorem State.begin_waitingRuns (s : State) : (s.begin).waitingRuns = s.waitingRuns := rfl
@[simp] theorem State.begin_waitingCross (s : State) : (s.begin).waitingCross = s.waitingCross := rfl
@[simp] theorem State.begin_probings (s : State) : (s.begin).probings = s.probings := rfl
@[simp] theorem State.begin_badRegulators (s : State) : (s.begin).badRegulators = s.badRegulators := rfl
@[simp] theorem State.begin_idleMoves (s : State) : (s.begin).idleMoves = s.idleMoves := rfl
@[simp] theorem State.begin_idleFills (s : State) : (s.begin).idleFills = s.idleFills := rfl
@[simp] theorem State.begin_idleWaits (s : State) : (s.begin).idleWaits = s.idleWaits := rfl
@[simp] theorem State.begin_slices (s : State) : (s.begin).slices = s.slices := rfl
@[simp] theorem State.begin_digests (s : State) : (s.begin).digests = s.digests := rfl
@[simp] theorem State.begin_kv (s : State) : (s.begin).kv = s.kv := rfl
@[simp] theorem State.begin_fences (s : State) : (s.begin).fences = s.fences := rfl
@[simp] theorem State.begin_fenceCounts (s : State) : (s.begin).fenceCounts = s.fenceCounts := rfl
@[simp] theorem State.begin_attic (s : State) : (s.begin).attic = s.attic := rfl
@[simp] theorem State.begin_holes (s : State) : (s.begin).holes = s.holes := rfl
@[simp] theorem State.begin_err (s : State) : (s.begin).err = s.err := rfl
@[simp] theorem State.begin_bring (s : State) : (s.begin).bring = s.bring := rfl
@[simp] theorem State.begin_test (s : State) : (s.begin).test = s.test := rfl
@[simp] theorem State.begin_keyClearing (s : State) : (s.begin).keyClearing = s.keyClearing := rfl
@[simp] theorem State.begin_keyCleared (s : State) : (s.begin).keyCleared = s.keyCleared := rfl
@[simp] theorem State.begin_lcToken (s : State) : (s.begin).lcToken = s.lcToken := rfl
@[simp] theorem State.begin_lcProgramming (s : State) : (s.begin).lcProgramming = s.lcProgramming := rfl
@[simp] theorem State.begin_coldStarts (s : State) : (s.begin).coldStarts = s.coldStarts := rfl
@[simp] theorem State.begin_frz (s : State) : (s.begin).frz = s.frz := rfl
@[simp] theorem State.begin_obs (s : State) : (s.begin).obs = s.obs := rfl
@[simp] theorem State.begin_rcv (s : State) : (s.begin).rcv = s.rcv := rfl
@[simp] theorem State.begin_cel (s : State) : (s.begin).cel = s.cel := rfl
@[simp] theorem State.begin_probes (s : State) : (s.begin).probes = s.probes := rfl
@[simp] theorem State.begin_pcs (s : State) : (s.begin).pcs = s.pcs := rfl
@[simp] theorem State.begin_img (s : State) : (s.begin).img = s.img := rfl
@[simp] theorem State.begin_powered (s : State) : (s.begin).powered = s.powered := rfl
@[simp] theorem State.begin_porst (s : State) : (s.begin).porst = s.porst := rfl
@[simp] theorem State.begin_brownOut (s : State) : (s.begin).brownOut = s.brownOut := rfl
@[simp] theorem State.begin_pwrcyc (s : State) : (s.begin).pwrcyc = s.pwrcyc := rfl
@[simp] theorem State.begin_nearSecs (s : State) : (s.begin).nearSecs = s.nearSecs := rfl
@[simp] theorem State.begin_coldMap (s : State) : (s.begin).coldMap = s.coldMap := rfl

/-! ### send -/

@[simp] theorem State.send_pending (s : State) (o : Out) : (s.send o).pending = s.pending := rfl
@[simp] theorem State.send_dict (s : State) (o : Out) : (s.send o).dict = s.dict := rfl
@[simp] theorem State.send_cont (s : State) (o : Out) : (s.send o).cont = s.cont := rfl
@[simp] theorem State.send_stat (s : State) (o : Out) : (s.send o).stat = s.stat := rfl
@[simp] theorem State.send_now (s : State) (o : Out) : (s.send o).now = s.now := rfl
@[simp] theorem State.send_timers (s : State) (o : Out) : (s.send o).timers = s.timers := rfl
@[simp] theorem State.send_free (s : State) (o : Out) : (s.send o).free = s.free := rfl
@[simp] theorem State.send_staged (s : State) (o : Out) : (s.send o).staged = s.staged := rfl
@[simp] theorem State.send_drain (s : State) (o : Out) : (s.send o).drain = s.drain := rfl
@[simp] theorem State.send_chans (s : State) (o : Out) : (s.send o).chans = s.chans := rfl
@[simp] theorem State.send_adp (s : State) (o : Out) : (s.send o).adp = s.adp := rfl
@[simp] theorem State.send_data (s : State) (o : Out) : (s.send o).data = s.data := rfl
@[simp] theorem State.send_tb (s : State) (o : Out) : (s.send o).tb = s.tb := rfl
@[simp] theorem State.send_doms (s : State) (o : Out) : (s.send o).doms = s.doms := rfl
@[simp] theorem State.send_proofs (s : State) (o : Out) : (s.send o).proofs = s.proofs := rfl
@[simp] theorem State.send_suspects (s : State) (o : Out) : (s.send o).suspects = s.suspects := rfl
@[simp] theorem State.send_proofSuspects (s : State) (o : Out) : (s.send o).proofSuspects = s.proofSuspects := rfl
@[simp] theorem State.send_rows (s : State) (o : Out) : (s.send o).rows = s.rows := rfl
@[simp] theorem State.send_checkLate (s : State) (o : Out) : (s.send o).checkLate = s.checkLate := rfl
@[simp] theorem State.send_oldWork (s : State) (o : Out) : (s.send o).oldWork = s.oldWork := rfl
@[simp] theorem State.send_regen (s : State) (o : Out) : (s.send o).regen = s.regen := rfl
@[simp] theorem State.send_job (s : State) (o : Out) : (s.send o).job = s.job := rfl
@[simp] theorem State.send_runs (s : State) (o : Out) : (s.send o).runs = s.runs := rfl
@[simp] theorem State.send_nextRun (s : State) (o : Out) : (s.send o).nextRun = s.nextRun := rfl
@[simp] theorem State.send_crosses (s : State) (o : Out) : (s.send o).crosses = s.crosses := rfl
@[simp] theorem State.send_nextCross (s : State) (o : Out) : (s.send o).nextCross = s.nextCross := rfl
@[simp] theorem State.send_crossPass (s : State) (o : Out) : (s.send o).crossPass = s.crossPass := rfl
@[simp] theorem State.send_budgetWindow (s : State) (o : Out) : (s.send o).budgetWindow = s.budgetWindow := rfl
@[simp] theorem State.send_overBudget (s : State) (o : Out) : (s.send o).overBudget = s.overBudget := rfl
@[simp] theorem State.send_deferred (s : State) (o : Out) : (s.send o).deferred = s.deferred := rfl
@[simp] theorem State.send_waitingRuns (s : State) (o : Out) : (s.send o).waitingRuns = s.waitingRuns := rfl
@[simp] theorem State.send_waitingCross (s : State) (o : Out) : (s.send o).waitingCross = s.waitingCross := rfl
@[simp] theorem State.send_probings (s : State) (o : Out) : (s.send o).probings = s.probings := rfl
@[simp] theorem State.send_badRegulators (s : State) (o : Out) : (s.send o).badRegulators = s.badRegulators := rfl
@[simp] theorem State.send_idleMoves (s : State) (o : Out) : (s.send o).idleMoves = s.idleMoves := rfl
@[simp] theorem State.send_idleFills (s : State) (o : Out) : (s.send o).idleFills = s.idleFills := rfl
@[simp] theorem State.send_idleWaits (s : State) (o : Out) : (s.send o).idleWaits = s.idleWaits := rfl
@[simp] theorem State.send_slices (s : State) (o : Out) : (s.send o).slices = s.slices := rfl
@[simp] theorem State.send_digests (s : State) (o : Out) : (s.send o).digests = s.digests := rfl
@[simp] theorem State.send_kv (s : State) (o : Out) : (s.send o).kv = s.kv := rfl
@[simp] theorem State.send_fences (s : State) (o : Out) : (s.send o).fences = s.fences := rfl
@[simp] theorem State.send_fenceCounts (s : State) (o : Out) : (s.send o).fenceCounts = s.fenceCounts := rfl
@[simp] theorem State.send_attic (s : State) (o : Out) : (s.send o).attic = s.attic := rfl
@[simp] theorem State.send_holes (s : State) (o : Out) : (s.send o).holes = s.holes := rfl
@[simp] theorem State.send_err (s : State) (o : Out) : (s.send o).err = s.err := rfl
@[simp] theorem State.send_bring (s : State) (o : Out) : (s.send o).bring = s.bring := rfl
@[simp] theorem State.send_test (s : State) (o : Out) : (s.send o).test = s.test := rfl
@[simp] theorem State.send_keyClearing (s : State) (o : Out) : (s.send o).keyClearing = s.keyClearing := rfl
@[simp] theorem State.send_keyCleared (s : State) (o : Out) : (s.send o).keyCleared = s.keyCleared := rfl
@[simp] theorem State.send_lcToken (s : State) (o : Out) : (s.send o).lcToken = s.lcToken := rfl
@[simp] theorem State.send_lcProgramming (s : State) (o : Out) : (s.send o).lcProgramming = s.lcProgramming := rfl
@[simp] theorem State.send_coldStarts (s : State) (o : Out) : (s.send o).coldStarts = s.coldStarts := rfl
@[simp] theorem State.send_frz (s : State) (o : Out) : (s.send o).frz = s.frz := rfl
@[simp] theorem State.send_obs (s : State) (o : Out) : (s.send o).obs = s.obs := rfl
@[simp] theorem State.send_rcv (s : State) (o : Out) : (s.send o).rcv = s.rcv := rfl
@[simp] theorem State.send_cel (s : State) (o : Out) : (s.send o).cel = s.cel := rfl
@[simp] theorem State.send_probes (s : State) (o : Out) : (s.send o).probes = s.probes := rfl
@[simp] theorem State.send_pcs (s : State) (o : Out) : (s.send o).pcs = s.pcs := rfl
@[simp] theorem State.send_img (s : State) (o : Out) : (s.send o).img = s.img := rfl
@[simp] theorem State.send_powered (s : State) (o : Out) : (s.send o).powered = s.powered := rfl
@[simp] theorem State.send_porst (s : State) (o : Out) : (s.send o).porst = s.porst := rfl
@[simp] theorem State.send_brownOut (s : State) (o : Out) : (s.send o).brownOut = s.brownOut := rfl
@[simp] theorem State.send_pwrcyc (s : State) (o : Out) : (s.send o).pwrcyc = s.pwrcyc := rfl
@[simp] theorem State.send_nearSecs (s : State) (o : Out) : (s.send o).nearSecs = s.nearSecs := rfl
@[simp] theorem State.send_coldMap (s : State) (o : Out) : (s.send o).coldMap = s.coldMap := rfl

/-! ### sendAll -/

@[simp] theorem State.sendAll_pending (s : State) (l : List Out) : (s.sendAll l).pending = s.pending := rfl
@[simp] theorem State.sendAll_dict (s : State) (l : List Out) : (s.sendAll l).dict = s.dict := rfl
@[simp] theorem State.sendAll_cont (s : State) (l : List Out) : (s.sendAll l).cont = s.cont := rfl
@[simp] theorem State.sendAll_stat (s : State) (l : List Out) : (s.sendAll l).stat = s.stat := rfl
@[simp] theorem State.sendAll_now (s : State) (l : List Out) : (s.sendAll l).now = s.now := rfl
@[simp] theorem State.sendAll_timers (s : State) (l : List Out) : (s.sendAll l).timers = s.timers := rfl
@[simp] theorem State.sendAll_free (s : State) (l : List Out) : (s.sendAll l).free = s.free := rfl
@[simp] theorem State.sendAll_staged (s : State) (l : List Out) : (s.sendAll l).staged = s.staged := rfl
@[simp] theorem State.sendAll_drain (s : State) (l : List Out) : (s.sendAll l).drain = s.drain := rfl
@[simp] theorem State.sendAll_chans (s : State) (l : List Out) : (s.sendAll l).chans = s.chans := rfl
@[simp] theorem State.sendAll_adp (s : State) (l : List Out) : (s.sendAll l).adp = s.adp := rfl
@[simp] theorem State.sendAll_data (s : State) (l : List Out) : (s.sendAll l).data = s.data := rfl
@[simp] theorem State.sendAll_tb (s : State) (l : List Out) : (s.sendAll l).tb = s.tb := rfl
@[simp] theorem State.sendAll_doms (s : State) (l : List Out) : (s.sendAll l).doms = s.doms := rfl
@[simp] theorem State.sendAll_proofs (s : State) (l : List Out) : (s.sendAll l).proofs = s.proofs := rfl
@[simp] theorem State.sendAll_suspects (s : State) (l : List Out) : (s.sendAll l).suspects = s.suspects := rfl
@[simp] theorem State.sendAll_proofSuspects (s : State) (l : List Out) : (s.sendAll l).proofSuspects = s.proofSuspects := rfl
@[simp] theorem State.sendAll_rows (s : State) (l : List Out) : (s.sendAll l).rows = s.rows := rfl
@[simp] theorem State.sendAll_checkLate (s : State) (l : List Out) : (s.sendAll l).checkLate = s.checkLate := rfl
@[simp] theorem State.sendAll_oldWork (s : State) (l : List Out) : (s.sendAll l).oldWork = s.oldWork := rfl
@[simp] theorem State.sendAll_regen (s : State) (l : List Out) : (s.sendAll l).regen = s.regen := rfl
@[simp] theorem State.sendAll_job (s : State) (l : List Out) : (s.sendAll l).job = s.job := rfl
@[simp] theorem State.sendAll_runs (s : State) (l : List Out) : (s.sendAll l).runs = s.runs := rfl
@[simp] theorem State.sendAll_nextRun (s : State) (l : List Out) : (s.sendAll l).nextRun = s.nextRun := rfl
@[simp] theorem State.sendAll_crosses (s : State) (l : List Out) : (s.sendAll l).crosses = s.crosses := rfl
@[simp] theorem State.sendAll_nextCross (s : State) (l : List Out) : (s.sendAll l).nextCross = s.nextCross := rfl
@[simp] theorem State.sendAll_crossPass (s : State) (l : List Out) : (s.sendAll l).crossPass = s.crossPass := rfl
@[simp] theorem State.sendAll_budgetWindow (s : State) (l : List Out) : (s.sendAll l).budgetWindow = s.budgetWindow := rfl
@[simp] theorem State.sendAll_overBudget (s : State) (l : List Out) : (s.sendAll l).overBudget = s.overBudget := rfl
@[simp] theorem State.sendAll_deferred (s : State) (l : List Out) : (s.sendAll l).deferred = s.deferred := rfl
@[simp] theorem State.sendAll_waitingRuns (s : State) (l : List Out) : (s.sendAll l).waitingRuns = s.waitingRuns := rfl
@[simp] theorem State.sendAll_waitingCross (s : State) (l : List Out) : (s.sendAll l).waitingCross = s.waitingCross := rfl
@[simp] theorem State.sendAll_probings (s : State) (l : List Out) : (s.sendAll l).probings = s.probings := rfl
@[simp] theorem State.sendAll_badRegulators (s : State) (l : List Out) : (s.sendAll l).badRegulators = s.badRegulators := rfl
@[simp] theorem State.sendAll_idleMoves (s : State) (l : List Out) : (s.sendAll l).idleMoves = s.idleMoves := rfl
@[simp] theorem State.sendAll_idleFills (s : State) (l : List Out) : (s.sendAll l).idleFills = s.idleFills := rfl
@[simp] theorem State.sendAll_idleWaits (s : State) (l : List Out) : (s.sendAll l).idleWaits = s.idleWaits := rfl
@[simp] theorem State.sendAll_slices (s : State) (l : List Out) : (s.sendAll l).slices = s.slices := rfl
@[simp] theorem State.sendAll_digests (s : State) (l : List Out) : (s.sendAll l).digests = s.digests := rfl
@[simp] theorem State.sendAll_kv (s : State) (l : List Out) : (s.sendAll l).kv = s.kv := rfl
@[simp] theorem State.sendAll_fences (s : State) (l : List Out) : (s.sendAll l).fences = s.fences := rfl
@[simp] theorem State.sendAll_fenceCounts (s : State) (l : List Out) : (s.sendAll l).fenceCounts = s.fenceCounts := rfl
@[simp] theorem State.sendAll_attic (s : State) (l : List Out) : (s.sendAll l).attic = s.attic := rfl
@[simp] theorem State.sendAll_holes (s : State) (l : List Out) : (s.sendAll l).holes = s.holes := rfl
@[simp] theorem State.sendAll_err (s : State) (l : List Out) : (s.sendAll l).err = s.err := rfl
@[simp] theorem State.sendAll_bring (s : State) (l : List Out) : (s.sendAll l).bring = s.bring := rfl
@[simp] theorem State.sendAll_test (s : State) (l : List Out) : (s.sendAll l).test = s.test := rfl
@[simp] theorem State.sendAll_keyClearing (s : State) (l : List Out) : (s.sendAll l).keyClearing = s.keyClearing := rfl
@[simp] theorem State.sendAll_keyCleared (s : State) (l : List Out) : (s.sendAll l).keyCleared = s.keyCleared := rfl
@[simp] theorem State.sendAll_lcToken (s : State) (l : List Out) : (s.sendAll l).lcToken = s.lcToken := rfl
@[simp] theorem State.sendAll_lcProgramming (s : State) (l : List Out) : (s.sendAll l).lcProgramming = s.lcProgramming := rfl
@[simp] theorem State.sendAll_coldStarts (s : State) (l : List Out) : (s.sendAll l).coldStarts = s.coldStarts := rfl
@[simp] theorem State.sendAll_frz (s : State) (l : List Out) : (s.sendAll l).frz = s.frz := rfl
@[simp] theorem State.sendAll_obs (s : State) (l : List Out) : (s.sendAll l).obs = s.obs := rfl
@[simp] theorem State.sendAll_rcv (s : State) (l : List Out) : (s.sendAll l).rcv = s.rcv := rfl
@[simp] theorem State.sendAll_cel (s : State) (l : List Out) : (s.sendAll l).cel = s.cel := rfl
@[simp] theorem State.sendAll_probes (s : State) (l : List Out) : (s.sendAll l).probes = s.probes := rfl
@[simp] theorem State.sendAll_pcs (s : State) (l : List Out) : (s.sendAll l).pcs = s.pcs := rfl
@[simp] theorem State.sendAll_img (s : State) (l : List Out) : (s.sendAll l).img = s.img := rfl
@[simp] theorem State.sendAll_powered (s : State) (l : List Out) : (s.sendAll l).powered = s.powered := rfl
@[simp] theorem State.sendAll_porst (s : State) (l : List Out) : (s.sendAll l).porst = s.porst := rfl
@[simp] theorem State.sendAll_brownOut (s : State) (l : List Out) : (s.sendAll l).brownOut = s.brownOut := rfl
@[simp] theorem State.sendAll_pwrcyc (s : State) (l : List Out) : (s.sendAll l).pwrcyc = s.pwrcyc := rfl
@[simp] theorem State.sendAll_nearSecs (s : State) (l : List Out) : (s.sendAll l).nearSecs = s.nearSecs := rfl
@[simp] theorem State.sendAll_coldMap (s : State) (l : List Out) : (s.sendAll l).coldMap = s.coldMap := rfl

/-! ### armAt -/

@[simp] theorem State.armAt_pending (s : State) (c : Instr) (n : Nat) : (s.armAt c n).pending = s.pending := rfl
@[simp] theorem State.armAt_dict (s : State) (c : Instr) (n : Nat) : (s.armAt c n).dict = s.dict := rfl
@[simp] theorem State.armAt_cont (s : State) (c : Instr) (n : Nat) : (s.armAt c n).cont = s.cont := rfl
@[simp] theorem State.armAt_stat (s : State) (c : Instr) (n : Nat) : (s.armAt c n).stat = s.stat := rfl
@[simp] theorem State.armAt_now (s : State) (c : Instr) (n : Nat) : (s.armAt c n).now = s.now := rfl
@[simp] theorem State.armAt_out (s : State) (c : Instr) (n : Nat) : (s.armAt c n).out = s.out := rfl
@[simp] theorem State.armAt_free (s : State) (c : Instr) (n : Nat) : (s.armAt c n).free = s.free := rfl
@[simp] theorem State.armAt_staged (s : State) (c : Instr) (n : Nat) : (s.armAt c n).staged = s.staged := rfl
@[simp] theorem State.armAt_drain (s : State) (c : Instr) (n : Nat) : (s.armAt c n).drain = s.drain := rfl
@[simp] theorem State.armAt_chans (s : State) (c : Instr) (n : Nat) : (s.armAt c n).chans = s.chans := rfl
@[simp] theorem State.armAt_adp (s : State) (c : Instr) (n : Nat) : (s.armAt c n).adp = s.adp := rfl
@[simp] theorem State.armAt_data (s : State) (c : Instr) (n : Nat) : (s.armAt c n).data = s.data := rfl
@[simp] theorem State.armAt_tb (s : State) (c : Instr) (n : Nat) : (s.armAt c n).tb = s.tb := rfl
@[simp] theorem State.armAt_doms (s : State) (c : Instr) (n : Nat) : (s.armAt c n).doms = s.doms := rfl
@[simp] theorem State.armAt_proofs (s : State) (c : Instr) (n : Nat) : (s.armAt c n).proofs = s.proofs := rfl
@[simp] theorem State.armAt_suspects (s : State) (c : Instr) (n : Nat) : (s.armAt c n).suspects = s.suspects := rfl
@[simp] theorem State.armAt_proofSuspects (s : State) (c : Instr) (n : Nat) : (s.armAt c n).proofSuspects = s.proofSuspects := rfl
@[simp] theorem State.armAt_rows (s : State) (c : Instr) (n : Nat) : (s.armAt c n).rows = s.rows := rfl
@[simp] theorem State.armAt_checkLate (s : State) (c : Instr) (n : Nat) : (s.armAt c n).checkLate = s.checkLate := rfl
@[simp] theorem State.armAt_oldWork (s : State) (c : Instr) (n : Nat) : (s.armAt c n).oldWork = s.oldWork := rfl
@[simp] theorem State.armAt_regen (s : State) (c : Instr) (n : Nat) : (s.armAt c n).regen = s.regen := rfl
@[simp] theorem State.armAt_job (s : State) (c : Instr) (n : Nat) : (s.armAt c n).job = s.job := rfl
@[simp] theorem State.armAt_runs (s : State) (c : Instr) (n : Nat) : (s.armAt c n).runs = s.runs := rfl
@[simp] theorem State.armAt_nextRun (s : State) (c : Instr) (n : Nat) : (s.armAt c n).nextRun = s.nextRun := rfl
@[simp] theorem State.armAt_crosses (s : State) (c : Instr) (n : Nat) : (s.armAt c n).crosses = s.crosses := rfl
@[simp] theorem State.armAt_nextCross (s : State) (c : Instr) (n : Nat) : (s.armAt c n).nextCross = s.nextCross := rfl
@[simp] theorem State.armAt_crossPass (s : State) (c : Instr) (n : Nat) : (s.armAt c n).crossPass = s.crossPass := rfl
@[simp] theorem State.armAt_budgetWindow (s : State) (c : Instr) (n : Nat) : (s.armAt c n).budgetWindow = s.budgetWindow := rfl
@[simp] theorem State.armAt_overBudget (s : State) (c : Instr) (n : Nat) : (s.armAt c n).overBudget = s.overBudget := rfl
@[simp] theorem State.armAt_deferred (s : State) (c : Instr) (n : Nat) : (s.armAt c n).deferred = s.deferred := rfl
@[simp] theorem State.armAt_waitingRuns (s : State) (c : Instr) (n : Nat) : (s.armAt c n).waitingRuns = s.waitingRuns := rfl
@[simp] theorem State.armAt_waitingCross (s : State) (c : Instr) (n : Nat) : (s.armAt c n).waitingCross = s.waitingCross := rfl
@[simp] theorem State.armAt_probings (s : State) (c : Instr) (n : Nat) : (s.armAt c n).probings = s.probings := rfl
@[simp] theorem State.armAt_badRegulators (s : State) (c : Instr) (n : Nat) : (s.armAt c n).badRegulators = s.badRegulators := rfl
@[simp] theorem State.armAt_idleMoves (s : State) (c : Instr) (n : Nat) : (s.armAt c n).idleMoves = s.idleMoves := rfl
@[simp] theorem State.armAt_idleFills (s : State) (c : Instr) (n : Nat) : (s.armAt c n).idleFills = s.idleFills := rfl
@[simp] theorem State.armAt_idleWaits (s : State) (c : Instr) (n : Nat) : (s.armAt c n).idleWaits = s.idleWaits := rfl
@[simp] theorem State.armAt_slices (s : State) (c : Instr) (n : Nat) : (s.armAt c n).slices = s.slices := rfl
@[simp] theorem State.armAt_digests (s : State) (c : Instr) (n : Nat) : (s.armAt c n).digests = s.digests := rfl
@[simp] theorem State.armAt_kv (s : State) (c : Instr) (n : Nat) : (s.armAt c n).kv = s.kv := rfl
@[simp] theorem State.armAt_fences (s : State) (c : Instr) (n : Nat) : (s.armAt c n).fences = s.fences := rfl
@[simp] theorem State.armAt_fenceCounts (s : State) (c : Instr) (n : Nat) : (s.armAt c n).fenceCounts = s.fenceCounts := rfl
@[simp] theorem State.armAt_attic (s : State) (c : Instr) (n : Nat) : (s.armAt c n).attic = s.attic := rfl
@[simp] theorem State.armAt_holes (s : State) (c : Instr) (n : Nat) : (s.armAt c n).holes = s.holes := rfl
@[simp] theorem State.armAt_err (s : State) (c : Instr) (n : Nat) : (s.armAt c n).err = s.err := rfl
@[simp] theorem State.armAt_bring (s : State) (c : Instr) (n : Nat) : (s.armAt c n).bring = s.bring := rfl
@[simp] theorem State.armAt_test (s : State) (c : Instr) (n : Nat) : (s.armAt c n).test = s.test := rfl
@[simp] theorem State.armAt_keyClearing (s : State) (c : Instr) (n : Nat) : (s.armAt c n).keyClearing = s.keyClearing := rfl
@[simp] theorem State.armAt_keyCleared (s : State) (c : Instr) (n : Nat) : (s.armAt c n).keyCleared = s.keyCleared := rfl
@[simp] theorem State.armAt_lcToken (s : State) (c : Instr) (n : Nat) : (s.armAt c n).lcToken = s.lcToken := rfl
@[simp] theorem State.armAt_lcProgramming (s : State) (c : Instr) (n : Nat) : (s.armAt c n).lcProgramming = s.lcProgramming := rfl
@[simp] theorem State.armAt_coldStarts (s : State) (c : Instr) (n : Nat) : (s.armAt c n).coldStarts = s.coldStarts := rfl
@[simp] theorem State.armAt_frz (s : State) (c : Instr) (n : Nat) : (s.armAt c n).frz = s.frz := rfl
@[simp] theorem State.armAt_obs (s : State) (c : Instr) (n : Nat) : (s.armAt c n).obs = s.obs := rfl
@[simp] theorem State.armAt_rcv (s : State) (c : Instr) (n : Nat) : (s.armAt c n).rcv = s.rcv := rfl
@[simp] theorem State.armAt_cel (s : State) (c : Instr) (n : Nat) : (s.armAt c n).cel = s.cel := rfl
@[simp] theorem State.armAt_probes (s : State) (c : Instr) (n : Nat) : (s.armAt c n).probes = s.probes := rfl
@[simp] theorem State.armAt_pcs (s : State) (c : Instr) (n : Nat) : (s.armAt c n).pcs = s.pcs := rfl
@[simp] theorem State.armAt_img (s : State) (c : Instr) (n : Nat) : (s.armAt c n).img = s.img := rfl
@[simp] theorem State.armAt_powered (s : State) (c : Instr) (n : Nat) : (s.armAt c n).powered = s.powered := rfl
@[simp] theorem State.armAt_porst (s : State) (c : Instr) (n : Nat) : (s.armAt c n).porst = s.porst := rfl
@[simp] theorem State.armAt_brownOut (s : State) (c : Instr) (n : Nat) : (s.armAt c n).brownOut = s.brownOut := rfl
@[simp] theorem State.armAt_pwrcyc (s : State) (c : Instr) (n : Nat) : (s.armAt c n).pwrcyc = s.pwrcyc := rfl
@[simp] theorem State.armAt_nearSecs (s : State) (c : Instr) (n : Nat) : (s.armAt c n).nearSecs = s.nearSecs := rfl
@[simp] theorem State.armAt_coldMap (s : State) (c : Instr) (n : Nat) : (s.armAt c n).coldMap = s.coldMap := rfl

/-! ### arm -/

@[simp] theorem State.arm_pending (s : State) (c : Instr) (n : Nat) : (s.arm c n).pending = s.pending := rfl
@[simp] theorem State.arm_dict (s : State) (c : Instr) (n : Nat) : (s.arm c n).dict = s.dict := rfl
@[simp] theorem State.arm_cont (s : State) (c : Instr) (n : Nat) : (s.arm c n).cont = s.cont := rfl
@[simp] theorem State.arm_stat (s : State) (c : Instr) (n : Nat) : (s.arm c n).stat = s.stat := rfl
@[simp] theorem State.arm_now (s : State) (c : Instr) (n : Nat) : (s.arm c n).now = s.now := rfl
@[simp] theorem State.arm_out (s : State) (c : Instr) (n : Nat) : (s.arm c n).out = s.out := rfl
@[simp] theorem State.arm_free (s : State) (c : Instr) (n : Nat) : (s.arm c n).free = s.free := rfl
@[simp] theorem State.arm_staged (s : State) (c : Instr) (n : Nat) : (s.arm c n).staged = s.staged := rfl
@[simp] theorem State.arm_drain (s : State) (c : Instr) (n : Nat) : (s.arm c n).drain = s.drain := rfl
@[simp] theorem State.arm_chans (s : State) (c : Instr) (n : Nat) : (s.arm c n).chans = s.chans := rfl
@[simp] theorem State.arm_adp (s : State) (c : Instr) (n : Nat) : (s.arm c n).adp = s.adp := rfl
@[simp] theorem State.arm_data (s : State) (c : Instr) (n : Nat) : (s.arm c n).data = s.data := rfl
@[simp] theorem State.arm_tb (s : State) (c : Instr) (n : Nat) : (s.arm c n).tb = s.tb := rfl
@[simp] theorem State.arm_doms (s : State) (c : Instr) (n : Nat) : (s.arm c n).doms = s.doms := rfl
@[simp] theorem State.arm_proofs (s : State) (c : Instr) (n : Nat) : (s.arm c n).proofs = s.proofs := rfl
@[simp] theorem State.arm_suspects (s : State) (c : Instr) (n : Nat) : (s.arm c n).suspects = s.suspects := rfl
@[simp] theorem State.arm_proofSuspects (s : State) (c : Instr) (n : Nat) : (s.arm c n).proofSuspects = s.proofSuspects := rfl
@[simp] theorem State.arm_rows (s : State) (c : Instr) (n : Nat) : (s.arm c n).rows = s.rows := rfl
@[simp] theorem State.arm_checkLate (s : State) (c : Instr) (n : Nat) : (s.arm c n).checkLate = s.checkLate := rfl
@[simp] theorem State.arm_oldWork (s : State) (c : Instr) (n : Nat) : (s.arm c n).oldWork = s.oldWork := rfl
@[simp] theorem State.arm_regen (s : State) (c : Instr) (n : Nat) : (s.arm c n).regen = s.regen := rfl
@[simp] theorem State.arm_job (s : State) (c : Instr) (n : Nat) : (s.arm c n).job = s.job := rfl
@[simp] theorem State.arm_runs (s : State) (c : Instr) (n : Nat) : (s.arm c n).runs = s.runs := rfl
@[simp] theorem State.arm_nextRun (s : State) (c : Instr) (n : Nat) : (s.arm c n).nextRun = s.nextRun := rfl
@[simp] theorem State.arm_crosses (s : State) (c : Instr) (n : Nat) : (s.arm c n).crosses = s.crosses := rfl
@[simp] theorem State.arm_nextCross (s : State) (c : Instr) (n : Nat) : (s.arm c n).nextCross = s.nextCross := rfl
@[simp] theorem State.arm_crossPass (s : State) (c : Instr) (n : Nat) : (s.arm c n).crossPass = s.crossPass := rfl
@[simp] theorem State.arm_budgetWindow (s : State) (c : Instr) (n : Nat) : (s.arm c n).budgetWindow = s.budgetWindow := rfl
@[simp] theorem State.arm_overBudget (s : State) (c : Instr) (n : Nat) : (s.arm c n).overBudget = s.overBudget := rfl
@[simp] theorem State.arm_deferred (s : State) (c : Instr) (n : Nat) : (s.arm c n).deferred = s.deferred := rfl
@[simp] theorem State.arm_waitingRuns (s : State) (c : Instr) (n : Nat) : (s.arm c n).waitingRuns = s.waitingRuns := rfl
@[simp] theorem State.arm_waitingCross (s : State) (c : Instr) (n : Nat) : (s.arm c n).waitingCross = s.waitingCross := rfl
@[simp] theorem State.arm_probings (s : State) (c : Instr) (n : Nat) : (s.arm c n).probings = s.probings := rfl
@[simp] theorem State.arm_badRegulators (s : State) (c : Instr) (n : Nat) : (s.arm c n).badRegulators = s.badRegulators := rfl
@[simp] theorem State.arm_idleMoves (s : State) (c : Instr) (n : Nat) : (s.arm c n).idleMoves = s.idleMoves := rfl
@[simp] theorem State.arm_idleFills (s : State) (c : Instr) (n : Nat) : (s.arm c n).idleFills = s.idleFills := rfl
@[simp] theorem State.arm_idleWaits (s : State) (c : Instr) (n : Nat) : (s.arm c n).idleWaits = s.idleWaits := rfl
@[simp] theorem State.arm_slices (s : State) (c : Instr) (n : Nat) : (s.arm c n).slices = s.slices := rfl
@[simp] theorem State.arm_digests (s : State) (c : Instr) (n : Nat) : (s.arm c n).digests = s.digests := rfl
@[simp] theorem State.arm_kv (s : State) (c : Instr) (n : Nat) : (s.arm c n).kv = s.kv := rfl
@[simp] theorem State.arm_fences (s : State) (c : Instr) (n : Nat) : (s.arm c n).fences = s.fences := rfl
@[simp] theorem State.arm_fenceCounts (s : State) (c : Instr) (n : Nat) : (s.arm c n).fenceCounts = s.fenceCounts := rfl
@[simp] theorem State.arm_attic (s : State) (c : Instr) (n : Nat) : (s.arm c n).attic = s.attic := rfl
@[simp] theorem State.arm_holes (s : State) (c : Instr) (n : Nat) : (s.arm c n).holes = s.holes := rfl
@[simp] theorem State.arm_err (s : State) (c : Instr) (n : Nat) : (s.arm c n).err = s.err := rfl
@[simp] theorem State.arm_bring (s : State) (c : Instr) (n : Nat) : (s.arm c n).bring = s.bring := rfl
@[simp] theorem State.arm_test (s : State) (c : Instr) (n : Nat) : (s.arm c n).test = s.test := rfl
@[simp] theorem State.arm_keyClearing (s : State) (c : Instr) (n : Nat) : (s.arm c n).keyClearing = s.keyClearing := rfl
@[simp] theorem State.arm_keyCleared (s : State) (c : Instr) (n : Nat) : (s.arm c n).keyCleared = s.keyCleared := rfl
@[simp] theorem State.arm_lcToken (s : State) (c : Instr) (n : Nat) : (s.arm c n).lcToken = s.lcToken := rfl
@[simp] theorem State.arm_lcProgramming (s : State) (c : Instr) (n : Nat) : (s.arm c n).lcProgramming = s.lcProgramming := rfl
@[simp] theorem State.arm_coldStarts (s : State) (c : Instr) (n : Nat) : (s.arm c n).coldStarts = s.coldStarts := rfl
@[simp] theorem State.arm_frz (s : State) (c : Instr) (n : Nat) : (s.arm c n).frz = s.frz := rfl
@[simp] theorem State.arm_obs (s : State) (c : Instr) (n : Nat) : (s.arm c n).obs = s.obs := rfl
@[simp] theorem State.arm_rcv (s : State) (c : Instr) (n : Nat) : (s.arm c n).rcv = s.rcv := rfl
@[simp] theorem State.arm_cel (s : State) (c : Instr) (n : Nat) : (s.arm c n).cel = s.cel := rfl
@[simp] theorem State.arm_probes (s : State) (c : Instr) (n : Nat) : (s.arm c n).probes = s.probes := rfl
@[simp] theorem State.arm_pcs (s : State) (c : Instr) (n : Nat) : (s.arm c n).pcs = s.pcs := rfl
@[simp] theorem State.arm_img (s : State) (c : Instr) (n : Nat) : (s.arm c n).img = s.img := rfl
@[simp] theorem State.arm_powered (s : State) (c : Instr) (n : Nat) : (s.arm c n).powered = s.powered := rfl
@[simp] theorem State.arm_porst (s : State) (c : Instr) (n : Nat) : (s.arm c n).porst = s.porst := rfl
@[simp] theorem State.arm_brownOut (s : State) (c : Instr) (n : Nat) : (s.arm c n).brownOut = s.brownOut := rfl
@[simp] theorem State.arm_pwrcyc (s : State) (c : Instr) (n : Nat) : (s.arm c n).pwrcyc = s.pwrcyc := rfl
@[simp] theorem State.arm_nearSecs (s : State) (c : Instr) (n : Nat) : (s.arm c n).nearSecs = s.nearSecs := rfl
@[simp] theorem State.arm_coldMap (s : State) (c : Instr) (n : Nat) : (s.arm c n).coldMap = s.coldMap := rfl

/-! ### disarm -/

@[simp] theorem State.disarm_pending (s : State) (c : Instr) : (s.disarm c).pending = s.pending := rfl
@[simp] theorem State.disarm_dict (s : State) (c : Instr) : (s.disarm c).dict = s.dict := rfl
@[simp] theorem State.disarm_cont (s : State) (c : Instr) : (s.disarm c).cont = s.cont := rfl
@[simp] theorem State.disarm_stat (s : State) (c : Instr) : (s.disarm c).stat = s.stat := rfl
@[simp] theorem State.disarm_now (s : State) (c : Instr) : (s.disarm c).now = s.now := rfl
@[simp] theorem State.disarm_out (s : State) (c : Instr) : (s.disarm c).out = s.out := rfl
@[simp] theorem State.disarm_free (s : State) (c : Instr) : (s.disarm c).free = s.free := rfl
@[simp] theorem State.disarm_staged (s : State) (c : Instr) : (s.disarm c).staged = s.staged := rfl
@[simp] theorem State.disarm_drain (s : State) (c : Instr) : (s.disarm c).drain = s.drain := rfl
@[simp] theorem State.disarm_chans (s : State) (c : Instr) : (s.disarm c).chans = s.chans := rfl
@[simp] theorem State.disarm_adp (s : State) (c : Instr) : (s.disarm c).adp = s.adp := rfl
@[simp] theorem State.disarm_data (s : State) (c : Instr) : (s.disarm c).data = s.data := rfl
@[simp] theorem State.disarm_tb (s : State) (c : Instr) : (s.disarm c).tb = s.tb := rfl
@[simp] theorem State.disarm_doms (s : State) (c : Instr) : (s.disarm c).doms = s.doms := rfl
@[simp] theorem State.disarm_proofs (s : State) (c : Instr) : (s.disarm c).proofs = s.proofs := rfl
@[simp] theorem State.disarm_suspects (s : State) (c : Instr) : (s.disarm c).suspects = s.suspects := rfl
@[simp] theorem State.disarm_proofSuspects (s : State) (c : Instr) : (s.disarm c).proofSuspects = s.proofSuspects := rfl
@[simp] theorem State.disarm_rows (s : State) (c : Instr) : (s.disarm c).rows = s.rows := rfl
@[simp] theorem State.disarm_checkLate (s : State) (c : Instr) : (s.disarm c).checkLate = s.checkLate := rfl
@[simp] theorem State.disarm_oldWork (s : State) (c : Instr) : (s.disarm c).oldWork = s.oldWork := rfl
@[simp] theorem State.disarm_regen (s : State) (c : Instr) : (s.disarm c).regen = s.regen := rfl
@[simp] theorem State.disarm_job (s : State) (c : Instr) : (s.disarm c).job = s.job := rfl
@[simp] theorem State.disarm_runs (s : State) (c : Instr) : (s.disarm c).runs = s.runs := rfl
@[simp] theorem State.disarm_nextRun (s : State) (c : Instr) : (s.disarm c).nextRun = s.nextRun := rfl
@[simp] theorem State.disarm_crosses (s : State) (c : Instr) : (s.disarm c).crosses = s.crosses := rfl
@[simp] theorem State.disarm_nextCross (s : State) (c : Instr) : (s.disarm c).nextCross = s.nextCross := rfl
@[simp] theorem State.disarm_crossPass (s : State) (c : Instr) : (s.disarm c).crossPass = s.crossPass := rfl
@[simp] theorem State.disarm_budgetWindow (s : State) (c : Instr) : (s.disarm c).budgetWindow = s.budgetWindow := rfl
@[simp] theorem State.disarm_overBudget (s : State) (c : Instr) : (s.disarm c).overBudget = s.overBudget := rfl
@[simp] theorem State.disarm_deferred (s : State) (c : Instr) : (s.disarm c).deferred = s.deferred := rfl
@[simp] theorem State.disarm_waitingRuns (s : State) (c : Instr) : (s.disarm c).waitingRuns = s.waitingRuns := rfl
@[simp] theorem State.disarm_waitingCross (s : State) (c : Instr) : (s.disarm c).waitingCross = s.waitingCross := rfl
@[simp] theorem State.disarm_probings (s : State) (c : Instr) : (s.disarm c).probings = s.probings := rfl
@[simp] theorem State.disarm_badRegulators (s : State) (c : Instr) : (s.disarm c).badRegulators = s.badRegulators := rfl
@[simp] theorem State.disarm_idleMoves (s : State) (c : Instr) : (s.disarm c).idleMoves = s.idleMoves := rfl
@[simp] theorem State.disarm_idleFills (s : State) (c : Instr) : (s.disarm c).idleFills = s.idleFills := rfl
@[simp] theorem State.disarm_idleWaits (s : State) (c : Instr) : (s.disarm c).idleWaits = s.idleWaits := rfl
@[simp] theorem State.disarm_slices (s : State) (c : Instr) : (s.disarm c).slices = s.slices := rfl
@[simp] theorem State.disarm_digests (s : State) (c : Instr) : (s.disarm c).digests = s.digests := rfl
@[simp] theorem State.disarm_kv (s : State) (c : Instr) : (s.disarm c).kv = s.kv := rfl
@[simp] theorem State.disarm_fences (s : State) (c : Instr) : (s.disarm c).fences = s.fences := rfl
@[simp] theorem State.disarm_fenceCounts (s : State) (c : Instr) : (s.disarm c).fenceCounts = s.fenceCounts := rfl
@[simp] theorem State.disarm_attic (s : State) (c : Instr) : (s.disarm c).attic = s.attic := rfl
@[simp] theorem State.disarm_holes (s : State) (c : Instr) : (s.disarm c).holes = s.holes := rfl
@[simp] theorem State.disarm_err (s : State) (c : Instr) : (s.disarm c).err = s.err := rfl
@[simp] theorem State.disarm_bring (s : State) (c : Instr) : (s.disarm c).bring = s.bring := rfl
@[simp] theorem State.disarm_test (s : State) (c : Instr) : (s.disarm c).test = s.test := rfl
@[simp] theorem State.disarm_keyClearing (s : State) (c : Instr) : (s.disarm c).keyClearing = s.keyClearing := rfl
@[simp] theorem State.disarm_keyCleared (s : State) (c : Instr) : (s.disarm c).keyCleared = s.keyCleared := rfl
@[simp] theorem State.disarm_lcToken (s : State) (c : Instr) : (s.disarm c).lcToken = s.lcToken := rfl
@[simp] theorem State.disarm_lcProgramming (s : State) (c : Instr) : (s.disarm c).lcProgramming = s.lcProgramming := rfl
@[simp] theorem State.disarm_coldStarts (s : State) (c : Instr) : (s.disarm c).coldStarts = s.coldStarts := rfl
@[simp] theorem State.disarm_frz (s : State) (c : Instr) : (s.disarm c).frz = s.frz := rfl
@[simp] theorem State.disarm_obs (s : State) (c : Instr) : (s.disarm c).obs = s.obs := rfl
@[simp] theorem State.disarm_rcv (s : State) (c : Instr) : (s.disarm c).rcv = s.rcv := rfl
@[simp] theorem State.disarm_cel (s : State) (c : Instr) : (s.disarm c).cel = s.cel := rfl
@[simp] theorem State.disarm_probes (s : State) (c : Instr) : (s.disarm c).probes = s.probes := rfl
@[simp] theorem State.disarm_pcs (s : State) (c : Instr) : (s.disarm c).pcs = s.pcs := rfl
@[simp] theorem State.disarm_img (s : State) (c : Instr) : (s.disarm c).img = s.img := rfl
@[simp] theorem State.disarm_powered (s : State) (c : Instr) : (s.disarm c).powered = s.powered := rfl
@[simp] theorem State.disarm_porst (s : State) (c : Instr) : (s.disarm c).porst = s.porst := rfl
@[simp] theorem State.disarm_brownOut (s : State) (c : Instr) : (s.disarm c).brownOut = s.brownOut := rfl
@[simp] theorem State.disarm_pwrcyc (s : State) (c : Instr) : (s.disarm c).pwrcyc = s.pwrcyc := rfl
@[simp] theorem State.disarm_nearSecs (s : State) (c : Instr) : (s.disarm c).nearSecs = s.nearSecs := rfl
@[simp] theorem State.disarm_coldMap (s : State) (c : Instr) : (s.disarm c).coldMap = s.coldMap := rfl

/-! ### setDom -/

@[simp] theorem State.setDom_pending (s : State) (d : Dom) (x : DomSt) : (s.setDom d x).pending = s.pending := rfl
@[simp] theorem State.setDom_dict (s : State) (d : Dom) (x : DomSt) : (s.setDom d x).dict = s.dict := rfl
@[simp] theorem State.setDom_cont (s : State) (d : Dom) (x : DomSt) : (s.setDom d x).cont = s.cont := rfl
@[simp] theorem State.setDom_stat (s : State) (d : Dom) (x : DomSt) : (s.setDom d x).stat = s.stat := rfl
@[simp] theorem State.setDom_now (s : State) (d : Dom) (x : DomSt) : (s.setDom d x).now = s.now := rfl
@[simp] theorem State.setDom_timers (s : State) (d : Dom) (x : DomSt) : (s.setDom d x).timers = s.timers := rfl
@[simp] theorem State.setDom_out (s : State) (d : Dom) (x : DomSt) : (s.setDom d x).out = s.out := rfl
@[simp] theorem State.setDom_free (s : State) (d : Dom) (x : DomSt) : (s.setDom d x).free = s.free := rfl
@[simp] theorem State.setDom_staged (s : State) (d : Dom) (x : DomSt) : (s.setDom d x).staged = s.staged := rfl
@[simp] theorem State.setDom_drain (s : State) (d : Dom) (x : DomSt) : (s.setDom d x).drain = s.drain := rfl
@[simp] theorem State.setDom_chans (s : State) (d : Dom) (x : DomSt) : (s.setDom d x).chans = s.chans := rfl
@[simp] theorem State.setDom_adp (s : State) (d : Dom) (x : DomSt) : (s.setDom d x).adp = s.adp := rfl
@[simp] theorem State.setDom_data (s : State) (d : Dom) (x : DomSt) : (s.setDom d x).data = s.data := rfl
@[simp] theorem State.setDom_tb (s : State) (d : Dom) (x : DomSt) : (s.setDom d x).tb = s.tb := rfl
@[simp] theorem State.setDom_proofs (s : State) (d : Dom) (x : DomSt) : (s.setDom d x).proofs = s.proofs := rfl
@[simp] theorem State.setDom_suspects (s : State) (d : Dom) (x : DomSt) : (s.setDom d x).suspects = s.suspects := rfl
@[simp] theorem State.setDom_proofSuspects (s : State) (d : Dom) (x : DomSt) : (s.setDom d x).proofSuspects = s.proofSuspects := rfl
@[simp] theorem State.setDom_rows (s : State) (d : Dom) (x : DomSt) : (s.setDom d x).rows = s.rows := rfl
@[simp] theorem State.setDom_checkLate (s : State) (d : Dom) (x : DomSt) : (s.setDom d x).checkLate = s.checkLate := rfl
@[simp] theorem State.setDom_oldWork (s : State) (d : Dom) (x : DomSt) : (s.setDom d x).oldWork = s.oldWork := rfl
@[simp] theorem State.setDom_regen (s : State) (d : Dom) (x : DomSt) : (s.setDom d x).regen = s.regen := rfl
@[simp] theorem State.setDom_job (s : State) (d : Dom) (x : DomSt) : (s.setDom d x).job = s.job := rfl
@[simp] theorem State.setDom_runs (s : State) (d : Dom) (x : DomSt) : (s.setDom d x).runs = s.runs := rfl
@[simp] theorem State.setDom_nextRun (s : State) (d : Dom) (x : DomSt) : (s.setDom d x).nextRun = s.nextRun := rfl
@[simp] theorem State.setDom_crosses (s : State) (d : Dom) (x : DomSt) : (s.setDom d x).crosses = s.crosses := rfl
@[simp] theorem State.setDom_nextCross (s : State) (d : Dom) (x : DomSt) : (s.setDom d x).nextCross = s.nextCross := rfl
@[simp] theorem State.setDom_crossPass (s : State) (d : Dom) (x : DomSt) : (s.setDom d x).crossPass = s.crossPass := rfl
@[simp] theorem State.setDom_budgetWindow (s : State) (d : Dom) (x : DomSt) : (s.setDom d x).budgetWindow = s.budgetWindow := rfl
@[simp] theorem State.setDom_overBudget (s : State) (d : Dom) (x : DomSt) : (s.setDom d x).overBudget = s.overBudget := rfl
@[simp] theorem State.setDom_deferred (s : State) (d : Dom) (x : DomSt) : (s.setDom d x).deferred = s.deferred := rfl
@[simp] theorem State.setDom_waitingRuns (s : State) (d : Dom) (x : DomSt) : (s.setDom d x).waitingRuns = s.waitingRuns := rfl
@[simp] theorem State.setDom_waitingCross (s : State) (d : Dom) (x : DomSt) : (s.setDom d x).waitingCross = s.waitingCross := rfl
@[simp] theorem State.setDom_probings (s : State) (d : Dom) (x : DomSt) : (s.setDom d x).probings = s.probings := rfl
@[simp] theorem State.setDom_badRegulators (s : State) (d : Dom) (x : DomSt) : (s.setDom d x).badRegulators = s.badRegulators := rfl
@[simp] theorem State.setDom_idleMoves (s : State) (d : Dom) (x : DomSt) : (s.setDom d x).idleMoves = s.idleMoves := rfl
@[simp] theorem State.setDom_idleFills (s : State) (d : Dom) (x : DomSt) : (s.setDom d x).idleFills = s.idleFills := rfl
@[simp] theorem State.setDom_idleWaits (s : State) (d : Dom) (x : DomSt) : (s.setDom d x).idleWaits = s.idleWaits := rfl
@[simp] theorem State.setDom_slices (s : State) (d : Dom) (x : DomSt) : (s.setDom d x).slices = s.slices := rfl
@[simp] theorem State.setDom_digests (s : State) (d : Dom) (x : DomSt) : (s.setDom d x).digests = s.digests := rfl
@[simp] theorem State.setDom_kv (s : State) (d : Dom) (x : DomSt) : (s.setDom d x).kv = s.kv := rfl
@[simp] theorem State.setDom_fences (s : State) (d : Dom) (x : DomSt) : (s.setDom d x).fences = s.fences := rfl
@[simp] theorem State.setDom_fenceCounts (s : State) (d : Dom) (x : DomSt) : (s.setDom d x).fenceCounts = s.fenceCounts := rfl
@[simp] theorem State.setDom_attic (s : State) (d : Dom) (x : DomSt) : (s.setDom d x).attic = s.attic := rfl
@[simp] theorem State.setDom_holes (s : State) (d : Dom) (x : DomSt) : (s.setDom d x).holes = s.holes := rfl
@[simp] theorem State.setDom_err (s : State) (d : Dom) (x : DomSt) : (s.setDom d x).err = s.err := rfl
@[simp] theorem State.setDom_bring (s : State) (d : Dom) (x : DomSt) : (s.setDom d x).bring = s.bring := rfl
@[simp] theorem State.setDom_test (s : State) (d : Dom) (x : DomSt) : (s.setDom d x).test = s.test := rfl
@[simp] theorem State.setDom_keyClearing (s : State) (d : Dom) (x : DomSt) : (s.setDom d x).keyClearing = s.keyClearing := rfl
@[simp] theorem State.setDom_keyCleared (s : State) (d : Dom) (x : DomSt) : (s.setDom d x).keyCleared = s.keyCleared := rfl
@[simp] theorem State.setDom_lcToken (s : State) (d : Dom) (x : DomSt) : (s.setDom d x).lcToken = s.lcToken := rfl
@[simp] theorem State.setDom_lcProgramming (s : State) (d : Dom) (x : DomSt) : (s.setDom d x).lcProgramming = s.lcProgramming := rfl
@[simp] theorem State.setDom_coldStarts (s : State) (d : Dom) (x : DomSt) : (s.setDom d x).coldStarts = s.coldStarts := rfl
@[simp] theorem State.setDom_frz (s : State) (d : Dom) (x : DomSt) : (s.setDom d x).frz = s.frz := rfl
@[simp] theorem State.setDom_obs (s : State) (d : Dom) (x : DomSt) : (s.setDom d x).obs = s.obs := rfl
@[simp] theorem State.setDom_rcv (s : State) (d : Dom) (x : DomSt) : (s.setDom d x).rcv = s.rcv := rfl
@[simp] theorem State.setDom_cel (s : State) (d : Dom) (x : DomSt) : (s.setDom d x).cel = s.cel := rfl
@[simp] theorem State.setDom_probes (s : State) (d : Dom) (x : DomSt) : (s.setDom d x).probes = s.probes := rfl
@[simp] theorem State.setDom_pcs (s : State) (d : Dom) (x : DomSt) : (s.setDom d x).pcs = s.pcs := rfl
@[simp] theorem State.setDom_img (s : State) (d : Dom) (x : DomSt) : (s.setDom d x).img = s.img := rfl
@[simp] theorem State.setDom_powered (s : State) (d : Dom) (x : DomSt) : (s.setDom d x).powered = s.powered := rfl
@[simp] theorem State.setDom_porst (s : State) (d : Dom) (x : DomSt) : (s.setDom d x).porst = s.porst := rfl
@[simp] theorem State.setDom_brownOut (s : State) (d : Dom) (x : DomSt) : (s.setDom d x).brownOut = s.brownOut := rfl
@[simp] theorem State.setDom_pwrcyc (s : State) (d : Dom) (x : DomSt) : (s.setDom d x).pwrcyc = s.pwrcyc := rfl
@[simp] theorem State.setDom_nearSecs (s : State) (d : Dom) (x : DomSt) : (s.setDom d x).nearSecs = s.nearSecs := rfl
@[simp] theorem State.setDom_coldMap (s : State) (d : Dom) (x : DomSt) : (s.setDom d x).coldMap = s.coldMap := rfl

/-! ### upDom -/

@[simp] theorem State.upDom_pending (s : State) (d : Dom) (f : DomSt → DomSt) : (s.upDom d f).pending = s.pending := rfl
@[simp] theorem State.upDom_dict (s : State) (d : Dom) (f : DomSt → DomSt) : (s.upDom d f).dict = s.dict := rfl
@[simp] theorem State.upDom_cont (s : State) (d : Dom) (f : DomSt → DomSt) : (s.upDom d f).cont = s.cont := rfl
@[simp] theorem State.upDom_stat (s : State) (d : Dom) (f : DomSt → DomSt) : (s.upDom d f).stat = s.stat := rfl
@[simp] theorem State.upDom_now (s : State) (d : Dom) (f : DomSt → DomSt) : (s.upDom d f).now = s.now := rfl
@[simp] theorem State.upDom_timers (s : State) (d : Dom) (f : DomSt → DomSt) : (s.upDom d f).timers = s.timers := rfl
@[simp] theorem State.upDom_out (s : State) (d : Dom) (f : DomSt → DomSt) : (s.upDom d f).out = s.out := rfl
@[simp] theorem State.upDom_free (s : State) (d : Dom) (f : DomSt → DomSt) : (s.upDom d f).free = s.free := rfl
@[simp] theorem State.upDom_staged (s : State) (d : Dom) (f : DomSt → DomSt) : (s.upDom d f).staged = s.staged := rfl
@[simp] theorem State.upDom_drain (s : State) (d : Dom) (f : DomSt → DomSt) : (s.upDom d f).drain = s.drain := rfl
@[simp] theorem State.upDom_chans (s : State) (d : Dom) (f : DomSt → DomSt) : (s.upDom d f).chans = s.chans := rfl
@[simp] theorem State.upDom_adp (s : State) (d : Dom) (f : DomSt → DomSt) : (s.upDom d f).adp = s.adp := rfl
@[simp] theorem State.upDom_data (s : State) (d : Dom) (f : DomSt → DomSt) : (s.upDom d f).data = s.data := rfl
@[simp] theorem State.upDom_tb (s : State) (d : Dom) (f : DomSt → DomSt) : (s.upDom d f).tb = s.tb := rfl
@[simp] theorem State.upDom_proofs (s : State) (d : Dom) (f : DomSt → DomSt) : (s.upDom d f).proofs = s.proofs := rfl
@[simp] theorem State.upDom_suspects (s : State) (d : Dom) (f : DomSt → DomSt) : (s.upDom d f).suspects = s.suspects := rfl
@[simp] theorem State.upDom_proofSuspects (s : State) (d : Dom) (f : DomSt → DomSt) : (s.upDom d f).proofSuspects = s.proofSuspects := rfl
@[simp] theorem State.upDom_rows (s : State) (d : Dom) (f : DomSt → DomSt) : (s.upDom d f).rows = s.rows := rfl
@[simp] theorem State.upDom_checkLate (s : State) (d : Dom) (f : DomSt → DomSt) : (s.upDom d f).checkLate = s.checkLate := rfl
@[simp] theorem State.upDom_oldWork (s : State) (d : Dom) (f : DomSt → DomSt) : (s.upDom d f).oldWork = s.oldWork := rfl
@[simp] theorem State.upDom_regen (s : State) (d : Dom) (f : DomSt → DomSt) : (s.upDom d f).regen = s.regen := rfl
@[simp] theorem State.upDom_job (s : State) (d : Dom) (f : DomSt → DomSt) : (s.upDom d f).job = s.job := rfl
@[simp] theorem State.upDom_runs (s : State) (d : Dom) (f : DomSt → DomSt) : (s.upDom d f).runs = s.runs := rfl
@[simp] theorem State.upDom_nextRun (s : State) (d : Dom) (f : DomSt → DomSt) : (s.upDom d f).nextRun = s.nextRun := rfl
@[simp] theorem State.upDom_crosses (s : State) (d : Dom) (f : DomSt → DomSt) : (s.upDom d f).crosses = s.crosses := rfl
@[simp] theorem State.upDom_nextCross (s : State) (d : Dom) (f : DomSt → DomSt) : (s.upDom d f).nextCross = s.nextCross := rfl
@[simp] theorem State.upDom_crossPass (s : State) (d : Dom) (f : DomSt → DomSt) : (s.upDom d f).crossPass = s.crossPass := rfl
@[simp] theorem State.upDom_budgetWindow (s : State) (d : Dom) (f : DomSt → DomSt) : (s.upDom d f).budgetWindow = s.budgetWindow := rfl
@[simp] theorem State.upDom_overBudget (s : State) (d : Dom) (f : DomSt → DomSt) : (s.upDom d f).overBudget = s.overBudget := rfl
@[simp] theorem State.upDom_deferred (s : State) (d : Dom) (f : DomSt → DomSt) : (s.upDom d f).deferred = s.deferred := rfl
@[simp] theorem State.upDom_waitingRuns (s : State) (d : Dom) (f : DomSt → DomSt) : (s.upDom d f).waitingRuns = s.waitingRuns := rfl
@[simp] theorem State.upDom_waitingCross (s : State) (d : Dom) (f : DomSt → DomSt) : (s.upDom d f).waitingCross = s.waitingCross := rfl
@[simp] theorem State.upDom_probings (s : State) (d : Dom) (f : DomSt → DomSt) : (s.upDom d f).probings = s.probings := rfl
@[simp] theorem State.upDom_badRegulators (s : State) (d : Dom) (f : DomSt → DomSt) : (s.upDom d f).badRegulators = s.badRegulators := rfl
@[simp] theorem State.upDom_idleMoves (s : State) (d : Dom) (f : DomSt → DomSt) : (s.upDom d f).idleMoves = s.idleMoves := rfl
@[simp] theorem State.upDom_idleFills (s : State) (d : Dom) (f : DomSt → DomSt) : (s.upDom d f).idleFills = s.idleFills := rfl
@[simp] theorem State.upDom_idleWaits (s : State) (d : Dom) (f : DomSt → DomSt) : (s.upDom d f).idleWaits = s.idleWaits := rfl
@[simp] theorem State.upDom_slices (s : State) (d : Dom) (f : DomSt → DomSt) : (s.upDom d f).slices = s.slices := rfl
@[simp] theorem State.upDom_digests (s : State) (d : Dom) (f : DomSt → DomSt) : (s.upDom d f).digests = s.digests := rfl
@[simp] theorem State.upDom_kv (s : State) (d : Dom) (f : DomSt → DomSt) : (s.upDom d f).kv = s.kv := rfl
@[simp] theorem State.upDom_fences (s : State) (d : Dom) (f : DomSt → DomSt) : (s.upDom d f).fences = s.fences := rfl
@[simp] theorem State.upDom_fenceCounts (s : State) (d : Dom) (f : DomSt → DomSt) : (s.upDom d f).fenceCounts = s.fenceCounts := rfl
@[simp] theorem State.upDom_attic (s : State) (d : Dom) (f : DomSt → DomSt) : (s.upDom d f).attic = s.attic := rfl
@[simp] theorem State.upDom_holes (s : State) (d : Dom) (f : DomSt → DomSt) : (s.upDom d f).holes = s.holes := rfl
@[simp] theorem State.upDom_err (s : State) (d : Dom) (f : DomSt → DomSt) : (s.upDom d f).err = s.err := rfl
@[simp] theorem State.upDom_bring (s : State) (d : Dom) (f : DomSt → DomSt) : (s.upDom d f).bring = s.bring := rfl
@[simp] theorem State.upDom_test (s : State) (d : Dom) (f : DomSt → DomSt) : (s.upDom d f).test = s.test := rfl
@[simp] theorem State.upDom_keyClearing (s : State) (d : Dom) (f : DomSt → DomSt) : (s.upDom d f).keyClearing = s.keyClearing := rfl
@[simp] theorem State.upDom_keyCleared (s : State) (d : Dom) (f : DomSt → DomSt) : (s.upDom d f).keyCleared = s.keyCleared := rfl
@[simp] theorem State.upDom_lcToken (s : State) (d : Dom) (f : DomSt → DomSt) : (s.upDom d f).lcToken = s.lcToken := rfl
@[simp] theorem State.upDom_lcProgramming (s : State) (d : Dom) (f : DomSt → DomSt) : (s.upDom d f).lcProgramming = s.lcProgramming := rfl
@[simp] theorem State.upDom_coldStarts (s : State) (d : Dom) (f : DomSt → DomSt) : (s.upDom d f).coldStarts = s.coldStarts := rfl
@[simp] theorem State.upDom_frz (s : State) (d : Dom) (f : DomSt → DomSt) : (s.upDom d f).frz = s.frz := rfl
@[simp] theorem State.upDom_obs (s : State) (d : Dom) (f : DomSt → DomSt) : (s.upDom d f).obs = s.obs := rfl
@[simp] theorem State.upDom_rcv (s : State) (d : Dom) (f : DomSt → DomSt) : (s.upDom d f).rcv = s.rcv := rfl
@[simp] theorem State.upDom_cel (s : State) (d : Dom) (f : DomSt → DomSt) : (s.upDom d f).cel = s.cel := rfl
@[simp] theorem State.upDom_probes (s : State) (d : Dom) (f : DomSt → DomSt) : (s.upDom d f).probes = s.probes := rfl
@[simp] theorem State.upDom_pcs (s : State) (d : Dom) (f : DomSt → DomSt) : (s.upDom d f).pcs = s.pcs := rfl
@[simp] theorem State.upDom_img (s : State) (d : Dom) (f : DomSt → DomSt) : (s.upDom d f).img = s.img := rfl
@[simp] theorem State.upDom_powered (s : State) (d : Dom) (f : DomSt → DomSt) : (s.upDom d f).powered = s.powered := rfl
@[simp] theorem State.upDom_porst (s : State) (d : Dom) (f : DomSt → DomSt) : (s.upDom d f).porst = s.porst := rfl
@[simp] theorem State.upDom_brownOut (s : State) (d : Dom) (f : DomSt → DomSt) : (s.upDom d f).brownOut = s.brownOut := rfl
@[simp] theorem State.upDom_pwrcyc (s : State) (d : Dom) (f : DomSt → DomSt) : (s.upDom d f).pwrcyc = s.pwrcyc := rfl
@[simp] theorem State.upDom_nearSecs (s : State) (d : Dom) (f : DomSt → DomSt) : (s.upDom d f).nearSecs = s.nearSecs := rfl
@[simp] theorem State.upDom_coldMap (s : State) (d : Dom) (f : DomSt → DomSt) : (s.upDom d f).coldMap = s.coldMap := rfl

/-! ### setProbe -/

@[simp] theorem State.setProbe_pending (s : State) (c : PCore) (p : Probe) : (s.setProbe c p).pending = s.pending := rfl
@[simp] theorem State.setProbe_dict (s : State) (c : PCore) (p : Probe) : (s.setProbe c p).dict = s.dict := rfl
@[simp] theorem State.setProbe_cont (s : State) (c : PCore) (p : Probe) : (s.setProbe c p).cont = s.cont := rfl
@[simp] theorem State.setProbe_stat (s : State) (c : PCore) (p : Probe) : (s.setProbe c p).stat = s.stat := rfl
@[simp] theorem State.setProbe_now (s : State) (c : PCore) (p : Probe) : (s.setProbe c p).now = s.now := rfl
@[simp] theorem State.setProbe_timers (s : State) (c : PCore) (p : Probe) : (s.setProbe c p).timers = s.timers := rfl
@[simp] theorem State.setProbe_out (s : State) (c : PCore) (p : Probe) : (s.setProbe c p).out = s.out := rfl
@[simp] theorem State.setProbe_free (s : State) (c : PCore) (p : Probe) : (s.setProbe c p).free = s.free := rfl
@[simp] theorem State.setProbe_staged (s : State) (c : PCore) (p : Probe) : (s.setProbe c p).staged = s.staged := rfl
@[simp] theorem State.setProbe_drain (s : State) (c : PCore) (p : Probe) : (s.setProbe c p).drain = s.drain := rfl
@[simp] theorem State.setProbe_chans (s : State) (c : PCore) (p : Probe) : (s.setProbe c p).chans = s.chans := rfl
@[simp] theorem State.setProbe_adp (s : State) (c : PCore) (p : Probe) : (s.setProbe c p).adp = s.adp := rfl
@[simp] theorem State.setProbe_data (s : State) (c : PCore) (p : Probe) : (s.setProbe c p).data = s.data := rfl
@[simp] theorem State.setProbe_tb (s : State) (c : PCore) (p : Probe) : (s.setProbe c p).tb = s.tb := rfl
@[simp] theorem State.setProbe_doms (s : State) (c : PCore) (p : Probe) : (s.setProbe c p).doms = s.doms := rfl
@[simp] theorem State.setProbe_proofs (s : State) (c : PCore) (p : Probe) : (s.setProbe c p).proofs = s.proofs := rfl
@[simp] theorem State.setProbe_suspects (s : State) (c : PCore) (p : Probe) : (s.setProbe c p).suspects = s.suspects := rfl
@[simp] theorem State.setProbe_proofSuspects (s : State) (c : PCore) (p : Probe) : (s.setProbe c p).proofSuspects = s.proofSuspects := rfl
@[simp] theorem State.setProbe_rows (s : State) (c : PCore) (p : Probe) : (s.setProbe c p).rows = s.rows := rfl
@[simp] theorem State.setProbe_checkLate (s : State) (c : PCore) (p : Probe) : (s.setProbe c p).checkLate = s.checkLate := rfl
@[simp] theorem State.setProbe_oldWork (s : State) (c : PCore) (p : Probe) : (s.setProbe c p).oldWork = s.oldWork := rfl
@[simp] theorem State.setProbe_regen (s : State) (c : PCore) (p : Probe) : (s.setProbe c p).regen = s.regen := rfl
@[simp] theorem State.setProbe_job (s : State) (c : PCore) (p : Probe) : (s.setProbe c p).job = s.job := rfl
@[simp] theorem State.setProbe_runs (s : State) (c : PCore) (p : Probe) : (s.setProbe c p).runs = s.runs := rfl
@[simp] theorem State.setProbe_nextRun (s : State) (c : PCore) (p : Probe) : (s.setProbe c p).nextRun = s.nextRun := rfl
@[simp] theorem State.setProbe_crosses (s : State) (c : PCore) (p : Probe) : (s.setProbe c p).crosses = s.crosses := rfl
@[simp] theorem State.setProbe_nextCross (s : State) (c : PCore) (p : Probe) : (s.setProbe c p).nextCross = s.nextCross := rfl
@[simp] theorem State.setProbe_crossPass (s : State) (c : PCore) (p : Probe) : (s.setProbe c p).crossPass = s.crossPass := rfl
@[simp] theorem State.setProbe_budgetWindow (s : State) (c : PCore) (p : Probe) : (s.setProbe c p).budgetWindow = s.budgetWindow := rfl
@[simp] theorem State.setProbe_overBudget (s : State) (c : PCore) (p : Probe) : (s.setProbe c p).overBudget = s.overBudget := rfl
@[simp] theorem State.setProbe_deferred (s : State) (c : PCore) (p : Probe) : (s.setProbe c p).deferred = s.deferred := rfl
@[simp] theorem State.setProbe_waitingRuns (s : State) (c : PCore) (p : Probe) : (s.setProbe c p).waitingRuns = s.waitingRuns := rfl
@[simp] theorem State.setProbe_waitingCross (s : State) (c : PCore) (p : Probe) : (s.setProbe c p).waitingCross = s.waitingCross := rfl
@[simp] theorem State.setProbe_probings (s : State) (c : PCore) (p : Probe) : (s.setProbe c p).probings = s.probings := rfl
@[simp] theorem State.setProbe_badRegulators (s : State) (c : PCore) (p : Probe) : (s.setProbe c p).badRegulators = s.badRegulators := rfl
@[simp] theorem State.setProbe_idleMoves (s : State) (c : PCore) (p : Probe) : (s.setProbe c p).idleMoves = s.idleMoves := rfl
@[simp] theorem State.setProbe_idleFills (s : State) (c : PCore) (p : Probe) : (s.setProbe c p).idleFills = s.idleFills := rfl
@[simp] theorem State.setProbe_idleWaits (s : State) (c : PCore) (p : Probe) : (s.setProbe c p).idleWaits = s.idleWaits := rfl
@[simp] theorem State.setProbe_slices (s : State) (c : PCore) (p : Probe) : (s.setProbe c p).slices = s.slices := rfl
@[simp] theorem State.setProbe_digests (s : State) (c : PCore) (p : Probe) : (s.setProbe c p).digests = s.digests := rfl
@[simp] theorem State.setProbe_kv (s : State) (c : PCore) (p : Probe) : (s.setProbe c p).kv = s.kv := rfl
@[simp] theorem State.setProbe_fences (s : State) (c : PCore) (p : Probe) : (s.setProbe c p).fences = s.fences := rfl
@[simp] theorem State.setProbe_fenceCounts (s : State) (c : PCore) (p : Probe) : (s.setProbe c p).fenceCounts = s.fenceCounts := rfl
@[simp] theorem State.setProbe_attic (s : State) (c : PCore) (p : Probe) : (s.setProbe c p).attic = s.attic := rfl
@[simp] theorem State.setProbe_holes (s : State) (c : PCore) (p : Probe) : (s.setProbe c p).holes = s.holes := rfl
@[simp] theorem State.setProbe_err (s : State) (c : PCore) (p : Probe) : (s.setProbe c p).err = s.err := rfl
@[simp] theorem State.setProbe_bring (s : State) (c : PCore) (p : Probe) : (s.setProbe c p).bring = s.bring := rfl
@[simp] theorem State.setProbe_test (s : State) (c : PCore) (p : Probe) : (s.setProbe c p).test = s.test := rfl
@[simp] theorem State.setProbe_keyClearing (s : State) (c : PCore) (p : Probe) : (s.setProbe c p).keyClearing = s.keyClearing := rfl
@[simp] theorem State.setProbe_keyCleared (s : State) (c : PCore) (p : Probe) : (s.setProbe c p).keyCleared = s.keyCleared := rfl
@[simp] theorem State.setProbe_lcToken (s : State) (c : PCore) (p : Probe) : (s.setProbe c p).lcToken = s.lcToken := rfl
@[simp] theorem State.setProbe_lcProgramming (s : State) (c : PCore) (p : Probe) : (s.setProbe c p).lcProgramming = s.lcProgramming := rfl
@[simp] theorem State.setProbe_coldStarts (s : State) (c : PCore) (p : Probe) : (s.setProbe c p).coldStarts = s.coldStarts := rfl
@[simp] theorem State.setProbe_frz (s : State) (c : PCore) (p : Probe) : (s.setProbe c p).frz = s.frz := rfl
@[simp] theorem State.setProbe_obs (s : State) (c : PCore) (p : Probe) : (s.setProbe c p).obs = s.obs := rfl
@[simp] theorem State.setProbe_rcv (s : State) (c : PCore) (p : Probe) : (s.setProbe c p).rcv = s.rcv := rfl
@[simp] theorem State.setProbe_cel (s : State) (c : PCore) (p : Probe) : (s.setProbe c p).cel = s.cel := rfl
@[simp] theorem State.setProbe_pcs (s : State) (c : PCore) (p : Probe) : (s.setProbe c p).pcs = s.pcs := rfl
@[simp] theorem State.setProbe_img (s : State) (c : PCore) (p : Probe) : (s.setProbe c p).img = s.img := rfl
@[simp] theorem State.setProbe_powered (s : State) (c : PCore) (p : Probe) : (s.setProbe c p).powered = s.powered := rfl
@[simp] theorem State.setProbe_porst (s : State) (c : PCore) (p : Probe) : (s.setProbe c p).porst = s.porst := rfl
@[simp] theorem State.setProbe_brownOut (s : State) (c : PCore) (p : Probe) : (s.setProbe c p).brownOut = s.brownOut := rfl
@[simp] theorem State.setProbe_pwrcyc (s : State) (c : PCore) (p : Probe) : (s.setProbe c p).pwrcyc = s.pwrcyc := rfl
@[simp] theorem State.setProbe_nearSecs (s : State) (c : PCore) (p : Probe) : (s.setProbe c p).nearSecs = s.nearSecs := rfl
@[simp] theorem State.setProbe_coldMap (s : State) (c : PCore) (p : Probe) : (s.setProbe c p).coldMap = s.coldMap := rfl

/-! ### setSlice -/

@[simp] theorem State.setSlice_pending (s : State) (c : PCore) (x : Slice) : (s.setSlice c x).pending = s.pending := rfl
@[simp] theorem State.setSlice_dict (s : State) (c : PCore) (x : Slice) : (s.setSlice c x).dict = s.dict := rfl
@[simp] theorem State.setSlice_cont (s : State) (c : PCore) (x : Slice) : (s.setSlice c x).cont = s.cont := rfl
@[simp] theorem State.setSlice_stat (s : State) (c : PCore) (x : Slice) : (s.setSlice c x).stat = s.stat := rfl
@[simp] theorem State.setSlice_now (s : State) (c : PCore) (x : Slice) : (s.setSlice c x).now = s.now := rfl
@[simp] theorem State.setSlice_timers (s : State) (c : PCore) (x : Slice) : (s.setSlice c x).timers = s.timers := rfl
@[simp] theorem State.setSlice_out (s : State) (c : PCore) (x : Slice) : (s.setSlice c x).out = s.out := rfl
@[simp] theorem State.setSlice_free (s : State) (c : PCore) (x : Slice) : (s.setSlice c x).free = s.free := rfl
@[simp] theorem State.setSlice_staged (s : State) (c : PCore) (x : Slice) : (s.setSlice c x).staged = s.staged := rfl
@[simp] theorem State.setSlice_drain (s : State) (c : PCore) (x : Slice) : (s.setSlice c x).drain = s.drain := rfl
@[simp] theorem State.setSlice_chans (s : State) (c : PCore) (x : Slice) : (s.setSlice c x).chans = s.chans := rfl
@[simp] theorem State.setSlice_adp (s : State) (c : PCore) (x : Slice) : (s.setSlice c x).adp = s.adp := rfl
@[simp] theorem State.setSlice_data (s : State) (c : PCore) (x : Slice) : (s.setSlice c x).data = s.data := rfl
@[simp] theorem State.setSlice_tb (s : State) (c : PCore) (x : Slice) : (s.setSlice c x).tb = s.tb := rfl
@[simp] theorem State.setSlice_doms (s : State) (c : PCore) (x : Slice) : (s.setSlice c x).doms = s.doms := rfl
@[simp] theorem State.setSlice_proofs (s : State) (c : PCore) (x : Slice) : (s.setSlice c x).proofs = s.proofs := rfl
@[simp] theorem State.setSlice_suspects (s : State) (c : PCore) (x : Slice) : (s.setSlice c x).suspects = s.suspects := rfl
@[simp] theorem State.setSlice_proofSuspects (s : State) (c : PCore) (x : Slice) : (s.setSlice c x).proofSuspects = s.proofSuspects := rfl
@[simp] theorem State.setSlice_rows (s : State) (c : PCore) (x : Slice) : (s.setSlice c x).rows = s.rows := rfl
@[simp] theorem State.setSlice_checkLate (s : State) (c : PCore) (x : Slice) : (s.setSlice c x).checkLate = s.checkLate := rfl
@[simp] theorem State.setSlice_oldWork (s : State) (c : PCore) (x : Slice) : (s.setSlice c x).oldWork = s.oldWork := rfl
@[simp] theorem State.setSlice_regen (s : State) (c : PCore) (x : Slice) : (s.setSlice c x).regen = s.regen := rfl
@[simp] theorem State.setSlice_job (s : State) (c : PCore) (x : Slice) : (s.setSlice c x).job = s.job := rfl
@[simp] theorem State.setSlice_runs (s : State) (c : PCore) (x : Slice) : (s.setSlice c x).runs = s.runs := rfl
@[simp] theorem State.setSlice_nextRun (s : State) (c : PCore) (x : Slice) : (s.setSlice c x).nextRun = s.nextRun := rfl
@[simp] theorem State.setSlice_crosses (s : State) (c : PCore) (x : Slice) : (s.setSlice c x).crosses = s.crosses := rfl
@[simp] theorem State.setSlice_nextCross (s : State) (c : PCore) (x : Slice) : (s.setSlice c x).nextCross = s.nextCross := rfl
@[simp] theorem State.setSlice_crossPass (s : State) (c : PCore) (x : Slice) : (s.setSlice c x).crossPass = s.crossPass := rfl
@[simp] theorem State.setSlice_budgetWindow (s : State) (c : PCore) (x : Slice) : (s.setSlice c x).budgetWindow = s.budgetWindow := rfl
@[simp] theorem State.setSlice_overBudget (s : State) (c : PCore) (x : Slice) : (s.setSlice c x).overBudget = s.overBudget := rfl
@[simp] theorem State.setSlice_deferred (s : State) (c : PCore) (x : Slice) : (s.setSlice c x).deferred = s.deferred := rfl
@[simp] theorem State.setSlice_waitingRuns (s : State) (c : PCore) (x : Slice) : (s.setSlice c x).waitingRuns = s.waitingRuns := rfl
@[simp] theorem State.setSlice_waitingCross (s : State) (c : PCore) (x : Slice) : (s.setSlice c x).waitingCross = s.waitingCross := rfl
@[simp] theorem State.setSlice_probings (s : State) (c : PCore) (x : Slice) : (s.setSlice c x).probings = s.probings := rfl
@[simp] theorem State.setSlice_badRegulators (s : State) (c : PCore) (x : Slice) : (s.setSlice c x).badRegulators = s.badRegulators := rfl
@[simp] theorem State.setSlice_idleMoves (s : State) (c : PCore) (x : Slice) : (s.setSlice c x).idleMoves = s.idleMoves := rfl
@[simp] theorem State.setSlice_idleFills (s : State) (c : PCore) (x : Slice) : (s.setSlice c x).idleFills = s.idleFills := rfl
@[simp] theorem State.setSlice_idleWaits (s : State) (c : PCore) (x : Slice) : (s.setSlice c x).idleWaits = s.idleWaits := rfl
@[simp] theorem State.setSlice_digests (s : State) (c : PCore) (x : Slice) : (s.setSlice c x).digests = s.digests := rfl
@[simp] theorem State.setSlice_kv (s : State) (c : PCore) (x : Slice) : (s.setSlice c x).kv = s.kv := rfl
@[simp] theorem State.setSlice_fences (s : State) (c : PCore) (x : Slice) : (s.setSlice c x).fences = s.fences := rfl
@[simp] theorem State.setSlice_fenceCounts (s : State) (c : PCore) (x : Slice) : (s.setSlice c x).fenceCounts = s.fenceCounts := rfl
@[simp] theorem State.setSlice_attic (s : State) (c : PCore) (x : Slice) : (s.setSlice c x).attic = s.attic := rfl
@[simp] theorem State.setSlice_holes (s : State) (c : PCore) (x : Slice) : (s.setSlice c x).holes = s.holes := rfl
@[simp] theorem State.setSlice_err (s : State) (c : PCore) (x : Slice) : (s.setSlice c x).err = s.err := rfl
@[simp] theorem State.setSlice_bring (s : State) (c : PCore) (x : Slice) : (s.setSlice c x).bring = s.bring := rfl
@[simp] theorem State.setSlice_test (s : State) (c : PCore) (x : Slice) : (s.setSlice c x).test = s.test := rfl
@[simp] theorem State.setSlice_keyClearing (s : State) (c : PCore) (x : Slice) : (s.setSlice c x).keyClearing = s.keyClearing := rfl
@[simp] theorem State.setSlice_keyCleared (s : State) (c : PCore) (x : Slice) : (s.setSlice c x).keyCleared = s.keyCleared := rfl
@[simp] theorem State.setSlice_lcToken (s : State) (c : PCore) (x : Slice) : (s.setSlice c x).lcToken = s.lcToken := rfl
@[simp] theorem State.setSlice_lcProgramming (s : State) (c : PCore) (x : Slice) : (s.setSlice c x).lcProgramming = s.lcProgramming := rfl
@[simp] theorem State.setSlice_coldStarts (s : State) (c : PCore) (x : Slice) : (s.setSlice c x).coldStarts = s.coldStarts := rfl
@[simp] theorem State.setSlice_frz (s : State) (c : PCore) (x : Slice) : (s.setSlice c x).frz = s.frz := rfl
@[simp] theorem State.setSlice_obs (s : State) (c : PCore) (x : Slice) : (s.setSlice c x).obs = s.obs := rfl
@[simp] theorem State.setSlice_rcv (s : State) (c : PCore) (x : Slice) : (s.setSlice c x).rcv = s.rcv := rfl
@[simp] theorem State.setSlice_cel (s : State) (c : PCore) (x : Slice) : (s.setSlice c x).cel = s.cel := rfl
@[simp] theorem State.setSlice_probes (s : State) (c : PCore) (x : Slice) : (s.setSlice c x).probes = s.probes := rfl
@[simp] theorem State.setSlice_pcs (s : State) (c : PCore) (x : Slice) : (s.setSlice c x).pcs = s.pcs := rfl
@[simp] theorem State.setSlice_img (s : State) (c : PCore) (x : Slice) : (s.setSlice c x).img = s.img := rfl
@[simp] theorem State.setSlice_powered (s : State) (c : PCore) (x : Slice) : (s.setSlice c x).powered = s.powered := rfl
@[simp] theorem State.setSlice_porst (s : State) (c : PCore) (x : Slice) : (s.setSlice c x).porst = s.porst := rfl
@[simp] theorem State.setSlice_brownOut (s : State) (c : PCore) (x : Slice) : (s.setSlice c x).brownOut = s.brownOut := rfl
@[simp] theorem State.setSlice_pwrcyc (s : State) (c : PCore) (x : Slice) : (s.setSlice c x).pwrcyc = s.pwrcyc := rfl
@[simp] theorem State.setSlice_nearSecs (s : State) (c : PCore) (x : Slice) : (s.setSlice c x).nearSecs = s.nearSecs := rfl
@[simp] theorem State.setSlice_coldMap (s : State) (c : PCore) (x : Slice) : (s.setSlice c x).coldMap = s.coldMap := rfl

/-! ### setPc -/

@[simp] theorem State.setPc_pending (s : State) (p : PcNo) (x : PcSt) : (s.setPc p x).pending = s.pending := rfl
@[simp] theorem State.setPc_dict (s : State) (p : PcNo) (x : PcSt) : (s.setPc p x).dict = s.dict := rfl
@[simp] theorem State.setPc_cont (s : State) (p : PcNo) (x : PcSt) : (s.setPc p x).cont = s.cont := rfl
@[simp] theorem State.setPc_stat (s : State) (p : PcNo) (x : PcSt) : (s.setPc p x).stat = s.stat := rfl
@[simp] theorem State.setPc_now (s : State) (p : PcNo) (x : PcSt) : (s.setPc p x).now = s.now := rfl
@[simp] theorem State.setPc_timers (s : State) (p : PcNo) (x : PcSt) : (s.setPc p x).timers = s.timers := rfl
@[simp] theorem State.setPc_out (s : State) (p : PcNo) (x : PcSt) : (s.setPc p x).out = s.out := rfl
@[simp] theorem State.setPc_free (s : State) (p : PcNo) (x : PcSt) : (s.setPc p x).free = s.free := rfl
@[simp] theorem State.setPc_staged (s : State) (p : PcNo) (x : PcSt) : (s.setPc p x).staged = s.staged := rfl
@[simp] theorem State.setPc_drain (s : State) (p : PcNo) (x : PcSt) : (s.setPc p x).drain = s.drain := rfl
@[simp] theorem State.setPc_chans (s : State) (p : PcNo) (x : PcSt) : (s.setPc p x).chans = s.chans := rfl
@[simp] theorem State.setPc_adp (s : State) (p : PcNo) (x : PcSt) : (s.setPc p x).adp = s.adp := rfl
@[simp] theorem State.setPc_data (s : State) (p : PcNo) (x : PcSt) : (s.setPc p x).data = s.data := rfl
@[simp] theorem State.setPc_tb (s : State) (p : PcNo) (x : PcSt) : (s.setPc p x).tb = s.tb := rfl
@[simp] theorem State.setPc_doms (s : State) (p : PcNo) (x : PcSt) : (s.setPc p x).doms = s.doms := rfl
@[simp] theorem State.setPc_proofs (s : State) (p : PcNo) (x : PcSt) : (s.setPc p x).proofs = s.proofs := rfl
@[simp] theorem State.setPc_suspects (s : State) (p : PcNo) (x : PcSt) : (s.setPc p x).suspects = s.suspects := rfl
@[simp] theorem State.setPc_proofSuspects (s : State) (p : PcNo) (x : PcSt) : (s.setPc p x).proofSuspects = s.proofSuspects := rfl
@[simp] theorem State.setPc_rows (s : State) (p : PcNo) (x : PcSt) : (s.setPc p x).rows = s.rows := rfl
@[simp] theorem State.setPc_checkLate (s : State) (p : PcNo) (x : PcSt) : (s.setPc p x).checkLate = s.checkLate := rfl
@[simp] theorem State.setPc_oldWork (s : State) (p : PcNo) (x : PcSt) : (s.setPc p x).oldWork = s.oldWork := rfl
@[simp] theorem State.setPc_regen (s : State) (p : PcNo) (x : PcSt) : (s.setPc p x).regen = s.regen := rfl
@[simp] theorem State.setPc_job (s : State) (p : PcNo) (x : PcSt) : (s.setPc p x).job = s.job := rfl
@[simp] theorem State.setPc_runs (s : State) (p : PcNo) (x : PcSt) : (s.setPc p x).runs = s.runs := rfl
@[simp] theorem State.setPc_nextRun (s : State) (p : PcNo) (x : PcSt) : (s.setPc p x).nextRun = s.nextRun := rfl
@[simp] theorem State.setPc_crosses (s : State) (p : PcNo) (x : PcSt) : (s.setPc p x).crosses = s.crosses := rfl
@[simp] theorem State.setPc_nextCross (s : State) (p : PcNo) (x : PcSt) : (s.setPc p x).nextCross = s.nextCross := rfl
@[simp] theorem State.setPc_crossPass (s : State) (p : PcNo) (x : PcSt) : (s.setPc p x).crossPass = s.crossPass := rfl
@[simp] theorem State.setPc_budgetWindow (s : State) (p : PcNo) (x : PcSt) : (s.setPc p x).budgetWindow = s.budgetWindow := rfl
@[simp] theorem State.setPc_overBudget (s : State) (p : PcNo) (x : PcSt) : (s.setPc p x).overBudget = s.overBudget := rfl
@[simp] theorem State.setPc_deferred (s : State) (p : PcNo) (x : PcSt) : (s.setPc p x).deferred = s.deferred := rfl
@[simp] theorem State.setPc_waitingRuns (s : State) (p : PcNo) (x : PcSt) : (s.setPc p x).waitingRuns = s.waitingRuns := rfl
@[simp] theorem State.setPc_waitingCross (s : State) (p : PcNo) (x : PcSt) : (s.setPc p x).waitingCross = s.waitingCross := rfl
@[simp] theorem State.setPc_probings (s : State) (p : PcNo) (x : PcSt) : (s.setPc p x).probings = s.probings := rfl
@[simp] theorem State.setPc_badRegulators (s : State) (p : PcNo) (x : PcSt) : (s.setPc p x).badRegulators = s.badRegulators := rfl
@[simp] theorem State.setPc_idleMoves (s : State) (p : PcNo) (x : PcSt) : (s.setPc p x).idleMoves = s.idleMoves := rfl
@[simp] theorem State.setPc_idleFills (s : State) (p : PcNo) (x : PcSt) : (s.setPc p x).idleFills = s.idleFills := rfl
@[simp] theorem State.setPc_idleWaits (s : State) (p : PcNo) (x : PcSt) : (s.setPc p x).idleWaits = s.idleWaits := rfl
@[simp] theorem State.setPc_slices (s : State) (p : PcNo) (x : PcSt) : (s.setPc p x).slices = s.slices := rfl
@[simp] theorem State.setPc_digests (s : State) (p : PcNo) (x : PcSt) : (s.setPc p x).digests = s.digests := rfl
@[simp] theorem State.setPc_kv (s : State) (p : PcNo) (x : PcSt) : (s.setPc p x).kv = s.kv := rfl
@[simp] theorem State.setPc_fences (s : State) (p : PcNo) (x : PcSt) : (s.setPc p x).fences = s.fences := rfl
@[simp] theorem State.setPc_fenceCounts (s : State) (p : PcNo) (x : PcSt) : (s.setPc p x).fenceCounts = s.fenceCounts := rfl
@[simp] theorem State.setPc_attic (s : State) (p : PcNo) (x : PcSt) : (s.setPc p x).attic = s.attic := rfl
@[simp] theorem State.setPc_holes (s : State) (p : PcNo) (x : PcSt) : (s.setPc p x).holes = s.holes := rfl
@[simp] theorem State.setPc_err (s : State) (p : PcNo) (x : PcSt) : (s.setPc p x).err = s.err := rfl
@[simp] theorem State.setPc_bring (s : State) (p : PcNo) (x : PcSt) : (s.setPc p x).bring = s.bring := rfl
@[simp] theorem State.setPc_test (s : State) (p : PcNo) (x : PcSt) : (s.setPc p x).test = s.test := rfl
@[simp] theorem State.setPc_keyClearing (s : State) (p : PcNo) (x : PcSt) : (s.setPc p x).keyClearing = s.keyClearing := rfl
@[simp] theorem State.setPc_keyCleared (s : State) (p : PcNo) (x : PcSt) : (s.setPc p x).keyCleared = s.keyCleared := rfl
@[simp] theorem State.setPc_lcToken (s : State) (p : PcNo) (x : PcSt) : (s.setPc p x).lcToken = s.lcToken := rfl
@[simp] theorem State.setPc_lcProgramming (s : State) (p : PcNo) (x : PcSt) : (s.setPc p x).lcProgramming = s.lcProgramming := rfl
@[simp] theorem State.setPc_coldStarts (s : State) (p : PcNo) (x : PcSt) : (s.setPc p x).coldStarts = s.coldStarts := rfl
@[simp] theorem State.setPc_frz (s : State) (p : PcNo) (x : PcSt) : (s.setPc p x).frz = s.frz := rfl
@[simp] theorem State.setPc_obs (s : State) (p : PcNo) (x : PcSt) : (s.setPc p x).obs = s.obs := rfl
@[simp] theorem State.setPc_rcv (s : State) (p : PcNo) (x : PcSt) : (s.setPc p x).rcv = s.rcv := rfl
@[simp] theorem State.setPc_cel (s : State) (p : PcNo) (x : PcSt) : (s.setPc p x).cel = s.cel := rfl
@[simp] theorem State.setPc_probes (s : State) (p : PcNo) (x : PcSt) : (s.setPc p x).probes = s.probes := rfl
@[simp] theorem State.setPc_img (s : State) (p : PcNo) (x : PcSt) : (s.setPc p x).img = s.img := rfl
@[simp] theorem State.setPc_powered (s : State) (p : PcNo) (x : PcSt) : (s.setPc p x).powered = s.powered := rfl
@[simp] theorem State.setPc_porst (s : State) (p : PcNo) (x : PcSt) : (s.setPc p x).porst = s.porst := rfl
@[simp] theorem State.setPc_brownOut (s : State) (p : PcNo) (x : PcSt) : (s.setPc p x).brownOut = s.brownOut := rfl
@[simp] theorem State.setPc_pwrcyc (s : State) (p : PcNo) (x : PcSt) : (s.setPc p x).pwrcyc = s.pwrcyc := rfl
@[simp] theorem State.setPc_nearSecs (s : State) (p : PcNo) (x : PcSt) : (s.setPc p x).nearSecs = s.nearSecs := rfl
@[simp] theorem State.setPc_coldMap (s : State) (p : PcNo) (x : PcSt) : (s.setPc p x).coldMap = s.coldMap := rfl

/-! ### grant -/

@[simp] theorem State.grant_pending (s : State) (a : Nat) (t lcc : Word) : (s.grant a t lcc).2.pending = s.pending := rfl
@[simp] theorem State.grant_dict (s : State) (a : Nat) (t lcc : Word) : (s.grant a t lcc).2.dict = s.dict := rfl
@[simp] theorem State.grant_cont (s : State) (a : Nat) (t lcc : Word) : (s.grant a t lcc).2.cont = s.cont := rfl
@[simp] theorem State.grant_stat (s : State) (a : Nat) (t lcc : Word) : (s.grant a t lcc).2.stat = s.stat := rfl
@[simp] theorem State.grant_now (s : State) (a : Nat) (t lcc : Word) : (s.grant a t lcc).2.now = s.now := rfl
@[simp] theorem State.grant_timers (s : State) (a : Nat) (t lcc : Word) : (s.grant a t lcc).2.timers = s.timers := rfl
@[simp] theorem State.grant_out (s : State) (a : Nat) (t lcc : Word) : (s.grant a t lcc).2.out = s.out := rfl
@[simp] theorem State.grant_free (s : State) (a : Nat) (t lcc : Word) : (s.grant a t lcc).2.free = s.free := rfl
@[simp] theorem State.grant_staged (s : State) (a : Nat) (t lcc : Word) : (s.grant a t lcc).2.staged = s.staged := rfl
@[simp] theorem State.grant_drain (s : State) (a : Nat) (t lcc : Word) : (s.grant a t lcc).2.drain = s.drain := rfl
@[simp] theorem State.grant_chans (s : State) (a : Nat) (t lcc : Word) : (s.grant a t lcc).2.chans = s.chans := rfl
@[simp] theorem State.grant_adp (s : State) (a : Nat) (t lcc : Word) : (s.grant a t lcc).2.adp = s.adp := rfl
@[simp] theorem State.grant_data (s : State) (a : Nat) (t lcc : Word) : (s.grant a t lcc).2.data = s.data := rfl
@[simp] theorem State.grant_tb (s : State) (a : Nat) (t lcc : Word) : (s.grant a t lcc).2.tb = s.tb := rfl
@[simp] theorem State.grant_doms (s : State) (a : Nat) (t lcc : Word) : (s.grant a t lcc).2.doms = s.doms := rfl
@[simp] theorem State.grant_proofs (s : State) (a : Nat) (t lcc : Word) : (s.grant a t lcc).2.proofs = s.proofs := rfl
@[simp] theorem State.grant_suspects (s : State) (a : Nat) (t lcc : Word) : (s.grant a t lcc).2.suspects = s.suspects := rfl
@[simp] theorem State.grant_proofSuspects (s : State) (a : Nat) (t lcc : Word) : (s.grant a t lcc).2.proofSuspects = s.proofSuspects := rfl
@[simp] theorem State.grant_rows (s : State) (a : Nat) (t lcc : Word) : (s.grant a t lcc).2.rows = s.rows := rfl
@[simp] theorem State.grant_checkLate (s : State) (a : Nat) (t lcc : Word) : (s.grant a t lcc).2.checkLate = s.checkLate := rfl
@[simp] theorem State.grant_oldWork (s : State) (a : Nat) (t lcc : Word) : (s.grant a t lcc).2.oldWork = s.oldWork := rfl
@[simp] theorem State.grant_regen (s : State) (a : Nat) (t lcc : Word) : (s.grant a t lcc).2.regen = s.regen := rfl
@[simp] theorem State.grant_job (s : State) (a : Nat) (t lcc : Word) : (s.grant a t lcc).2.job = s.job := rfl
@[simp] theorem State.grant_runs (s : State) (a : Nat) (t lcc : Word) : (s.grant a t lcc).2.runs = s.runs := rfl
@[simp] theorem State.grant_nextRun (s : State) (a : Nat) (t lcc : Word) : (s.grant a t lcc).2.nextRun = s.nextRun := rfl
@[simp] theorem State.grant_crosses (s : State) (a : Nat) (t lcc : Word) : (s.grant a t lcc).2.crosses = s.crosses := rfl
@[simp] theorem State.grant_nextCross (s : State) (a : Nat) (t lcc : Word) : (s.grant a t lcc).2.nextCross = s.nextCross := rfl
@[simp] theorem State.grant_crossPass (s : State) (a : Nat) (t lcc : Word) : (s.grant a t lcc).2.crossPass = s.crossPass := rfl
@[simp] theorem State.grant_budgetWindow (s : State) (a : Nat) (t lcc : Word) : (s.grant a t lcc).2.budgetWindow = s.budgetWindow := rfl
@[simp] theorem State.grant_overBudget (s : State) (a : Nat) (t lcc : Word) : (s.grant a t lcc).2.overBudget = s.overBudget := rfl
@[simp] theorem State.grant_deferred (s : State) (a : Nat) (t lcc : Word) : (s.grant a t lcc).2.deferred = s.deferred := rfl
@[simp] theorem State.grant_waitingRuns (s : State) (a : Nat) (t lcc : Word) : (s.grant a t lcc).2.waitingRuns = s.waitingRuns := rfl
@[simp] theorem State.grant_waitingCross (s : State) (a : Nat) (t lcc : Word) : (s.grant a t lcc).2.waitingCross = s.waitingCross := rfl
@[simp] theorem State.grant_probings (s : State) (a : Nat) (t lcc : Word) : (s.grant a t lcc).2.probings = s.probings := rfl
@[simp] theorem State.grant_badRegulators (s : State) (a : Nat) (t lcc : Word) : (s.grant a t lcc).2.badRegulators = s.badRegulators := rfl
@[simp] theorem State.grant_idleMoves (s : State) (a : Nat) (t lcc : Word) : (s.grant a t lcc).2.idleMoves = s.idleMoves := rfl
@[simp] theorem State.grant_idleFills (s : State) (a : Nat) (t lcc : Word) : (s.grant a t lcc).2.idleFills = s.idleFills := rfl
@[simp] theorem State.grant_idleWaits (s : State) (a : Nat) (t lcc : Word) : (s.grant a t lcc).2.idleWaits = s.idleWaits := rfl
@[simp] theorem State.grant_slices (s : State) (a : Nat) (t lcc : Word) : (s.grant a t lcc).2.slices = s.slices := rfl
@[simp] theorem State.grant_digests (s : State) (a : Nat) (t lcc : Word) : (s.grant a t lcc).2.digests = s.digests := rfl
@[simp] theorem State.grant_kv (s : State) (a : Nat) (t lcc : Word) : (s.grant a t lcc).2.kv = s.kv := rfl
@[simp] theorem State.grant_fences (s : State) (a : Nat) (t lcc : Word) : (s.grant a t lcc).2.fences = s.fences := rfl
@[simp] theorem State.grant_fenceCounts (s : State) (a : Nat) (t lcc : Word) : (s.grant a t lcc).2.fenceCounts = s.fenceCounts := rfl
@[simp] theorem State.grant_attic (s : State) (a : Nat) (t lcc : Word) : (s.grant a t lcc).2.attic = s.attic := rfl
@[simp] theorem State.grant_holes (s : State) (a : Nat) (t lcc : Word) : (s.grant a t lcc).2.holes = s.holes := rfl
@[simp] theorem State.grant_bring (s : State) (a : Nat) (t lcc : Word) : (s.grant a t lcc).2.bring = s.bring := rfl
@[simp] theorem State.grant_test (s : State) (a : Nat) (t lcc : Word) : (s.grant a t lcc).2.test = s.test := rfl
@[simp] theorem State.grant_keyClearing (s : State) (a : Nat) (t lcc : Word) : (s.grant a t lcc).2.keyClearing = s.keyClearing := rfl
@[simp] theorem State.grant_keyCleared (s : State) (a : Nat) (t lcc : Word) : (s.grant a t lcc).2.keyCleared = s.keyCleared := rfl
@[simp] theorem State.grant_lcToken (s : State) (a : Nat) (t lcc : Word) : (s.grant a t lcc).2.lcToken = s.lcToken := rfl
@[simp] theorem State.grant_lcProgramming (s : State) (a : Nat) (t lcc : Word) : (s.grant a t lcc).2.lcProgramming = s.lcProgramming := rfl
@[simp] theorem State.grant_coldStarts (s : State) (a : Nat) (t lcc : Word) : (s.grant a t lcc).2.coldStarts = s.coldStarts := rfl
@[simp] theorem State.grant_frz (s : State) (a : Nat) (t lcc : Word) : (s.grant a t lcc).2.frz = s.frz := rfl
@[simp] theorem State.grant_obs (s : State) (a : Nat) (t lcc : Word) : (s.grant a t lcc).2.obs = s.obs := rfl
@[simp] theorem State.grant_rcv (s : State) (a : Nat) (t lcc : Word) : (s.grant a t lcc).2.rcv = s.rcv := rfl
@[simp] theorem State.grant_cel (s : State) (a : Nat) (t lcc : Word) : (s.grant a t lcc).2.cel = s.cel := rfl
@[simp] theorem State.grant_probes (s : State) (a : Nat) (t lcc : Word) : (s.grant a t lcc).2.probes = s.probes := rfl
@[simp] theorem State.grant_pcs (s : State) (a : Nat) (t lcc : Word) : (s.grant a t lcc).2.pcs = s.pcs := rfl
@[simp] theorem State.grant_img (s : State) (a : Nat) (t lcc : Word) : (s.grant a t lcc).2.img = s.img := rfl
@[simp] theorem State.grant_powered (s : State) (a : Nat) (t lcc : Word) : (s.grant a t lcc).2.powered = s.powered := rfl
@[simp] theorem State.grant_porst (s : State) (a : Nat) (t lcc : Word) : (s.grant a t lcc).2.porst = s.porst := rfl
@[simp] theorem State.grant_brownOut (s : State) (a : Nat) (t lcc : Word) : (s.grant a t lcc).2.brownOut = s.brownOut := rfl
@[simp] theorem State.grant_pwrcyc (s : State) (a : Nat) (t lcc : Word) : (s.grant a t lcc).2.pwrcyc = s.pwrcyc := rfl
@[simp] theorem State.grant_nearSecs (s : State) (a : Nat) (t lcc : Word) : (s.grant a t lcc).2.nearSecs = s.nearSecs := rfl
@[simp] theorem State.grant_coldMap (s : State) (a : Nat) (t lcc : Word) : (s.grant a t lcc).2.coldMap = s.coldMap := rfl

end Sys2Proof.Machine
end

