-- ==== Sys2Proof/Laws/Tab.lean ====
section
/-! SUPPORT. The laws of the sparse tables: a read after a write, and the canonical form that every operation keeps. -/

namespace Sys2Proof.Machine

theorem tabGet_tabDrop_ne {α : Type} (d : α) {j k : Nat} (h : k ≠ j) :
    ∀ l : Tab α, tabGet d (tabDrop l j) k = tabGet d l k
  | [] => rfl
  | (i, v) :: l => by
    have ih := tabGet_tabDrop_ne d h l
    by_cases hi : i = j
    · subst hi
      simp [tabDrop, tabGet, ih, Ne.symm h]
    · simp [tabDrop, tabGet, hi, ih]

theorem tabGet_tabDrop_same {α : Type} (d : α) (k : Nat) : ∀ l : Tab α, tabGet d (tabDrop l k) k = d
  | [] => rfl
  | (i, v) :: l => by
    have ih := tabGet_tabDrop_same d k l
    by_cases hi : i = k <;> simp [tabDrop, tabGet, hi, ih]

theorem tabGet_tabInsert_ne {α : Type} (d : α) {j k : Nat} (v : α) (h : k ≠ j) :
    ∀ l : Tab α, tabGet d (tabInsert l j v) k = tabGet d l k
  | [] => by simp [tabInsert, tabGet, Ne.symm h]
  | (i, w) :: l => by
    have ih := tabGet_tabInsert_ne d v h l
    by_cases hi : j < i <;> simp [tabInsert, tabGet, hi, ih, Ne.symm h]

theorem tabGet_tabInsert_drop {α : Type} (d : α) (k : Nat) (v : α) :
    ∀ l : Tab α, tabGet d (tabInsert (tabDrop l k) k v) k = v
  | [] => by simp [tabDrop, tabInsert, tabGet]
  | (i, w) :: l => by
    have ih := tabGet_tabInsert_drop d k v l
    by_cases hi : i = k
    · simp [tabDrop, hi, ih]
    · by_cases hk : k < i <;> simp [tabDrop, tabInsert, tabGet, hi, hk, ih]

/-- A read of what was written gives it. -/
theorem tabGet_tabPut_same {α : Type} [DecidableEq α] (d : α) (l : Tab α) (k : Nat) (v : α) :
    tabGet d (tabPut d l k v) k = v := by
  unfold tabPut
  split
  · rename_i h; rw [tabGet_tabDrop_same, h]
  · exact tabGet_tabInsert_drop d k v l

/-- A write leaves every other key alone. -/
theorem tabGet_tabPut_ne {α : Type} [DecidableEq α] (d e : α) (l : Tab α) {j k : Nat} (v : α) (h : k ≠ j) :
    tabGet e (tabPut d l j v) k = tabGet e l k := by
  unfold tabPut
  split
  · exact tabGet_tabDrop_ne e h l
  · rw [tabGet_tabInsert_ne e v h, tabGet_tabDrop_ne e h]

/-! ### The canonical form -/

theorem tabSorted_iff {α : Type} : ∀ l : Tab α, tabSorted l = true ↔ l.Pairwise (fun a b => a.1 < b.1)
  | [] => by simp [tabSorted]
  | [a] => by simp [tabSorted]
  | (i, v) :: (j, w) :: l => by
    have ih := tabSorted_iff ((j, w) :: l)
    simp only [tabSorted, Bool.and_eq_true, decide_eq_true_eq, ih]
    rw [List.pairwise_cons (l := (j, w) :: l)]
    constructor
    · rintro ⟨h, hp⟩
      refine ⟨?_, hp⟩
      intro b hb
      rcases List.mem_cons.1 hb with rfl | hb
      · exact h
      · exact lt_trans h ((List.pairwise_cons.1 hp).1 b hb)
    · rintro ⟨h, hp⟩
      exact ⟨h _ List.mem_cons_self, hp⟩

theorem tabDrop_eq {α : Type} (k : Nat) : ∀ l : Tab α, tabDrop l k = l.filter (fun e => decide (e.1 ≠ k))
  | [] => rfl
  | (i, v) :: l => by
    have ih := tabDrop_eq k l
    by_cases h : i = k <;> simp [tabDrop, h, ih]

theorem mem_tabInsert {α : Type} (k : Nat) (v : α) (e : Nat × α) :
    ∀ l : Tab α, e ∈ tabInsert l k v → e = (k, v) ∨ e ∈ l
  | [], h => by simpa [tabInsert] using h
  | (i, w) :: l, h => by
    by_cases hk : k < i
    · simpa [tabInsert, hk] using h
    · simp only [tabInsert, hk, if_false, List.mem_cons] at h
      rcases h with h | h
      · exact Or.inr (h ▸ List.mem_cons_self)
      · rcases mem_tabInsert k v e l h with h | h
        · exact Or.inl h
        · exact Or.inr (List.mem_cons_of_mem _ h)

theorem tabInsert_sorted {α : Type} (k : Nat) (v : α) :
    ∀ l : Tab α, l.Pairwise (fun a b => a.1 < b.1) → (∀ e ∈ l, e.1 ≠ k) →
      (tabInsert l k v).Pairwise (fun a b => a.1 < b.1)
  | [], _, _ => by simp [tabInsert]
  | (i, w) :: l, hs, hk => by
    by_cases h : k < i
    · simp only [tabInsert, h, if_true]
      refine List.pairwise_cons.2 ⟨?_, hs⟩
      intro b hb
      rcases List.mem_cons.1 hb with rfl | hb
      · exact h
      · exact lt_trans h ((List.pairwise_cons.1 hs).1 b hb)
    · simp only [tabInsert, h, if_false]
      have hi : i ≠ k := hk (i, w) List.mem_cons_self
      refine List.pairwise_cons.2 ⟨?_, tabInsert_sorted k v l (List.pairwise_cons.1 hs).2
        (fun e he => hk e (List.mem_cons_of_mem _ he))⟩
      intro b hb
      rcases mem_tabInsert k v b l hb with rfl | hb
      · show i < k
        omega
      · exact (List.pairwise_cons.1 hs).1 b hb

theorem tabCanon_iff {α : Type} [DecidableEq α] (d : Nat → α) (l : Tab α) :
    tabCanon d l = true ↔ l.Pairwise (fun a b => a.1 < b.1) ∧ ∀ e ∈ l, e.2 ≠ d e.1 := by
  simp [tabCanon, tabSorted_iff]

/-- A write keeps the canonical form. -/
theorem tabPut_canon {α : Type} [DecidableEq α] (d : Nat → α) (l : Tab α) (k : Nat) (v : α)
    (h : tabCanon d l = true) : tabCanon d (tabPut (d k) l k v) = true := by
  rw [tabCanon_iff] at h ⊢
  obtain ⟨hs, hd⟩ := h
  have hf : (tabDrop l k).Pairwise (fun a b => a.1 < b.1) := by rw [tabDrop_eq]; exact hs.filter _
  have hm : ∀ e ∈ tabDrop l k, e ∈ l ∧ e.1 ≠ k := by
    intro e he
    rw [tabDrop_eq] at he
    simpa using he
  unfold tabPut
  split
  · exact ⟨hf, fun e he => hd e (hm e he).1⟩
  · rename_i hv
    refine ⟨tabInsert_sorted k v _ hf (fun e he => (hm e he).2), ?_⟩
    intro e he
    rcases mem_tabInsert k v e _ he with rfl | he
    · exact hv
    · exact hd e (hm e he).1

/-- The same where every key has one default. -/
theorem tabPut_canon_const {α : Type} [DecidableEq α] (d : α) (l : Tab α) (k : Nat) (v : α)
    (h : tabCanon (fun _ => d) l = true) : tabCanon (fun _ => d) (tabPut d l k v) = true :=
  tabPut_canon (fun _ => d) l k v h

/-- Entries dropped keep the canonical form. -/
theorem filter_canon {α : Type} [DecidableEq α] (d : Nat → α) (l : Tab α) (p : Nat × α → Bool)
    (h : tabCanon d l = true) : tabCanon d (l.filter p) = true := by
  rw [tabCanon_iff] at h ⊢
  exact ⟨h.1.filter _, fun e he => h.2 e (List.mem_filter.1 he).1⟩

/-- A table built by writes is canonical. -/
theorem foldl_tabPut_canon {α β : Type} [DecidableEq α] (d : α) (f : β → Nat) (g : β → α) :
    ∀ (l : List β) (t : Tab α), tabCanon (fun _ => d) t = true →
      tabCanon (fun _ => d) (l.foldl (fun t e => tabPut d t (f e) (g e)) t) = true
  | [], _, h => h
  | e :: l, t, h => foldl_tabPut_canon d f g l _ (tabPut_canon_const d t (f e) (g e) h)

/-- In a canonical table a listed entry is what a read of its key gives. -/
theorem tabGet_mem {α : Type} (d : α) : ∀ l : Tab α, l.Pairwise (fun a b => a.1 < b.1) →
    ∀ e ∈ l, tabGet d l e.1 = e.2
  | [], _, e, he => by simp at he
  | (i, w) :: l, hs, e, he => by
    rcases List.mem_cons.1 he with rfl | he
    · simp [tabGet]
    · have hi : i < e.1 := (List.pairwise_cons.1 hs).1 e he
      have : i ≠ e.1 := by omega
      simp [tabGet, this, tabGet_mem d l (List.pairwise_cons.1 hs).2 e he]

end Sys2Proof.Machine
end

