-- ==== Sys2Proof/Laws/Ops.lean ====
section
/-! SUPPORT. The dictionary read after a write: the value, content or status written, and every other entry as before. What the
other named operations give. -/

namespace Sys2Proof.Machine

@[simp] theorem get_put_same (s : State) (k : Nat) (v : Word) : (s.put k v).get k = v :=
  tabGet_tabPut_same _ _ _ _

theorem get_put_ne (s : State) {j k : Nat} (v : Word) (h : k ≠ j) : (s.put j v).get k = s.get k :=
  tabGet_tabPut_ne _ _ _ v h

@[simp] theorem get_putN_same (s : State) (k n : Nat) : (s.putN k n).get k = BitVec.ofNat 64 n := get_put_same s k _

theorem get_putN_ne (s : State) {j k : Nat} (n : Nat) (h : k ≠ j) : (s.putN j n).get k = s.get k := get_put_ne s _ h

@[simp] theorem content_setContent_same (s : State) (k : Nat) (b : Bytes) : (s.setContent k b).content k = b :=
  tabGet_tabPut_same _ _ _ _

theorem content_setContent_ne (s : State) {j k : Nat} (b : Bytes) (h : k ≠ j) :
    (s.setContent j b).content k = s.content k := tabGet_tabPut_ne _ _ _ b h

@[simp] theorem status_setStatus_same (s : State) (k : Nat) (v : Stat) : (s.setStatus k v).status k = v :=
  tabGet_tabPut_same _ _ _ _

theorem status_setStatus_ne (s : State) {j k : Nat} (v : Stat) (h : k ≠ j) : (s.setStatus j v).status k = s.status k :=
  tabGet_tabPut_ne _ _ _ v h

/-! ### What leaves the dictionary's values alone -/

@[simp] theorem get_setContent (s : State) (j k : Nat) (b : Bytes) : (s.setContent j b).get k = s.get k := rfl

@[simp] theorem get_setStatus (s : State) (j k : Nat) (v : Stat) : (s.setStatus j v).get k = s.get k := rfl

@[simp] theorem get_begin (s : State) (k : Nat) : s.begin.get k = s.get k := rfl

@[simp] theorem get_send (s : State) (o : Out) (k : Nat) : (s.send o).get k = s.get k := rfl

@[simp] theorem get_sendAll (s : State) (l : List Out) (k : Nat) : (s.sendAll l).get k = s.get k := rfl

@[simp] theorem get_arm (s : State) (c : Instr) (n k : Nat) : (s.arm c n).get k = s.get k := rfl

@[simp] theorem get_disarm (s : State) (c : Instr) (k : Nat) : (s.disarm c).get k = s.get k := rfl

@[simp] theorem get_setDom (s : State) (d : Dom) (x : DomSt) (k : Nat) : (s.setDom d x).get k = s.get k := rfl

@[simp] theorem get_upDom (s : State) (d : Dom) (f : DomSt → DomSt) (k : Nat) : (s.upDom d f).get k = s.get k := rfl

/-! ### Counters -/

/-- A counter that has room counts. -/
theorem bumpBy_eq (s : State) (k n : Nat) (h : s.nat k + n < 2 ^ widthOf k) : s.bumpBy k n = s.putN k (s.nat k + n) := by
  simp [State.bumpBy, h]

theorem get_bumpBy_ne (s : State) {j k : Nat} (n : Nat) (h : k ≠ j) : (s.bumpBy j n).get k = s.get k := by
  unfold State.bumpBy
  simp only
  split
  · exact get_putN_ne s _ h
  · exact get_put_ne s _ h

theorem get_bump_ne (s : State) {j k : Nat} (h : k ≠ j) : (s.bump j).get k = s.get k := get_bumpBy_ne s 1 h

theorem widthOf_le (k : Nat) : widthOf k ≤ 64 := by
  unfold widthOf
  split
  · rename_i e _
    cases e.ty <;> decide
  · exact Nat.le_refl 64

/-- A counter counts by one. -/
theorem bump_counts (s : State) (k : Nat) : s.Counts (s.bump k) k := by
  intro h
  have h64 : s.nat k + 1 < 2 ^ 64 := Nat.lt_of_lt_of_le h (Nat.pow_le_pow_right (by decide) (widthOf_le k))
  unfold State.bump
  rw [bumpBy_eq s k 1 h]
  simp only [State.nat, get_putN_same, BitVec.toNat_ofNat]
  exact Nat.mod_eq_of_lt h64

/-- A counter's update writes the dictionary alone. -/
theorem bumpBy_put (s : State) (k n : Nat) : ∃ v, s.bumpBy k n = s.put k v := by
  unfold State.bumpBy
  simp only
  split
  · exact ⟨_, rfl⟩
  · exact ⟨_, rfl⟩

/-! ### Timeouts and domains -/

/-- A timeout just armed is armed. -/
theorem armed_arm (s : State) (c : Instr) (n : Nat) : (s.arm c n).armed c = true := by
  simp [State.armed, findTimer, State.arm, State.armAt, List.find?_append, List.find?_filter]

/-- A timeout disarmed is not armed. -/
theorem armed_disarm (s : State) (c : Instr) : (s.disarm c).armed c = false := by
  simp [State.armed, findTimer, State.disarm, List.find?_filter]

/-! ### Grants and expiries -/

@[simp] theorem get_grant (s : State) (a : Nat) (t lcc : Word) (k : Nat) : (s.grant a t lcc).2.get k = s.get k := rfl

@[simp] theorem content_grant (s : State) (a : Nat) (t lcc : Word) (k : Nat) : (s.grant a t lcc).2.content k = s.content k := rfl

@[simp] theorem status_grant (s : State) (a : Nat) (t lcc : Word) (k : Nat) : (s.grant a t lcc).2.status k = s.status k := rfl

@[simp] theorem dom_grant (s : State) (a : Nat) (t lcc : Word) (d : Dom) : (s.grant a t lcc).2.dom d = s.dom d := rfl

/-- A timeout that is due is armed. -/
theorem armed_of_expired {s : State} {c : Instr} (h : s.expired c = true) : s.armed c = true := by
  unfold State.expired State.due at h
  unfold State.armed
  cases e : findTimer c s.timers with
  | none => rw [e] at h; exact absurd h Bool.false_ne_true
  | some t => rfl

/-- An expiry is granted at its arbiter, and its timeout is no longer armed. -/
theorem expire_eq {s : State} {c : Instr} (h : s.expired c = true) :
    s.expire c = (s.grant (arbiterOf c).1 (s.expiryStamp c) 0).2.disarm c := by
  unfold State.expire
  rw [armed_of_expired h, if_pos rfl]

theorem dom_setDom_same (s : State) (d : Dom) (x : DomSt) (h : s.doms.length = 8) : (s.setDom d x).dom d = x := by
  have hd : d.val < s.doms.length := by rw [h]; exact d.isLt
  simp [State.dom, State.setDom, List.getD, hd]

theorem dom_setDom_ne (s : State) {d e : Dom} (x : DomSt) (h : e ≠ d) : (s.setDom d x).dom e = s.dom e := by
  have : d.val ≠ e.val := fun hv => h (Fin.ext hv.symm)
  simp [State.dom, State.setDom, List.getD, List.getElem?_set_ne this]

/-- A tick touches global time and its fraction alone. -/
theorem addTick_eq (s : State) : s.addTick = { s with now := s.addTick.now, tb := { s.tb with frac := s.addTick.tb.frac } } := rfl

end Sys2Proof.Machine
end

