-- ==== Sys2Proof/Laws/Access.lean ====
section
/-! SUPPORT. What a write, a frame and a request do, said once: the provers cite these instead of unfolding State.granted,
State.framed and State.adpIn. -/

namespace Sys2Proof.Machine

/-- A write that is taken runs its body on the state that took it and ends with the body's end. -/
theorem granted_takes (s : State) (path : Path) (k : Nat) (v : Word) (content : Bool) (body : State → State × WEnd)
    (h : s.Takes path k v content) :
    s.begin.granted path k v content body = (body (s.taking path k)).1.endGrant path k (body (s.taking path k)).2 := by
  have hp : s.begin.pathServed path = true := h.1
  have ha : ((s.begin.grant (writeArbiter k) s.begin.now 0).2.countAccess path).writeCheck k v content = none := h.2
  simp only [State.granted, hp, ha, Bool.not_true, Bool.false_eq_true, if_false]
  rfl

/-- A write that a check ends changes its status word and nothing else. -/
theorem granted_refused (s : State) (path : Path) (k : Nat) (v : Word) (content : Bool) (body : State → State × WEnd)
    (e : WEnd) (hp : s.pathServed path = true) (ha : (s.taking path k).writeCheck k v content = some e) :
    s.begin.granted path k v content body = (s.taking path k).endGrant path k e := by
  have hp' : s.begin.pathServed path = true := hp
  have ha' : ((s.begin.grant (writeArbiter k) s.begin.now 0).2.countAccess path).writeCheck k v content = some e := ha
  simp only [State.granted, hp', ha', Bool.not_true, Bool.false_eq_true, if_false]
  rfl

/-- On a path that is not served a write does nothing. -/
theorem granted_unserved (s : State) (path : Path) (k : Nat) (v : Word) (content : Bool) (body : State → State × WEnd)
    (hp : s.pathServed path = false) : s.begin.granted path k v content body = s.begin := by
  have hp' : s.begin.pathServed path = false := hp
  simp [State.granted, hp']

/-- A write ends with one status word more written, and the dictionary's values as the body left them. -/
@[simp] theorem get_endGrant (s : State) (path : Path) (k : Nat) (e : WEnd) (j : Nat) :
    (s.endGrant path k e).get j = s.get j := by
  cases e <;> rfl

theorem status_endGrant_same (s : State) (path : Path) (k : Nat) (e : WEnd) (h : e ≠ .noObject) :
    (s.endGrant path k e).status k =
      { st := e.st, path := BitVec.ofNat 8 (Path.num path), reason := BitVec.ofNat 8 e.reason,
        count := (s.status k).count + 1 } := by
  cases e <;> first | exact status_setStatus_same _ _ _ | exact absurd rfl h

theorem status_endGrant_ne (s : State) (path : Path) {j k : Nat} (e : WEnd) (h : j ≠ k) :
    (s.endGrant path k e).status j = s.status j := by
  cases e <;> first | exact status_setStatus_ne _ _ h | rfl

/-- A frame taken in its role acts. -/
theorem framed_takes (s : State) (env : Env) (role : Nat) (act : State → State) (h : s.TakesFrame env role) :
    s.framed env role act = (act s.begin).settleAll := by
  have ha : s.begin.accepts env = true := h.1
  have hr : s.begin.role = role := h.2
  simp [State.framed, ha, hr]

/-- Any other frame is foreign. -/
theorem framed_foreign (s : State) (env : Env) (role : Nat) (act : State → State) (h : ¬ s.TakesFrame env role) :
    s.framed env role act = s.begin.foreign.settleAll := by
  have : (s.begin.accepts env && s.begin.role == role) = false := by
    by_contra hc
    simp only [Bool.not_eq_false, Bool.and_eq_true, beq_iff_eq] at hc
    exact h hc
  simp [State.framed, this]

/-- A frame of the job's domain acts. -/
theorem framedFor_takes (s : State) (env : Env) (role : Nat) (d : Dom) (act : State → State) (h : s.TakesFor env role d) :
    s.framedFor env role d act = (act s.begin).settleAll := by
  have hj : s.begin.jobDom = some d := h.2.1
  have hd : (s.begin.dom d).active = true := h.2.2
  unfold State.framedFor
  rw [framed_takes s env role _ h.1]
  simp [hj, hd]

/-- A request that is taken runs its body. -/
theorem adpIn_takes (s : State) (h : AdpHead) (body : State → State) (ht : s.TakesRequest h) :
    s.begin.adpIn h body = body s.begin := by
  obtain ⟨h1, h2, h3⟩ := ht
  have h1' : s.begin.adpServed h.path = true := h1
  have h3' : s.begin.tagInUse h = false := h3
  unfold State.adpIn
  rw [h1', h3']
  by_cases hp : h.path = .steward
  · have hs := h2 hp
    cases he : h.env with
    | none => simp [he] at hs
    | some e =>
      have ha : s.accepts e = true := by simpa [he] using hs
      have : s.begin.accepts e = true := ha
      simp [hp, this]
  · simp [hp]

end Sys2Proof.Machine
end

