-- ==== Sys2Proof/Laws/Keeps.lean ====
section
/-! SUPPORT. What the model's operations keep, said once for every property: a property of states that each elementary update of the
fields of a mask keeps (Closed) is kept by every operation that writes no other field. The files Laws/Keeps*.lean hold one lemma for each
operation, with the mask of the fields that it may write. -/

namespace Sys2Proof.Machine

/-- The fields of State that operations write, and what writes several together: the re-initialization (R242), a jump of global time. -/
inductive Fld where
  | dict_ | cont_ | stat_ | now_ | timers_ | out_ | free_ | staged_ | drain_ | chans_ | adp_ | data_ | tb_ | doms_
  | proofs_ | suspects_ | proofSuspects_ | rows_ | checkLate_ | oldWork_ | regen_ | job_ | runs_ | nextRun_ | crosses_
  | nextCross_ | crossPass_ | budgetWindow_ | overBudget_ | deferred_ | waitingRuns_ | waitingCross_ | probings_
  | badRegulators_ | idleMoves_ | idleFills_ | idleWaits_ | slices_ | digests_ | kv_ | fences_ | fenceCounts_ | attic_
  | holes_ | err_ | bring_ | test_ | keyClearing_ | keyCleared_ | lcToken_ | lcProgramming_ | coldStarts_ | frz_ | obs_
  | rcv_ | cel_ | probes_ | pcs_ | img_ | powered_ | porst_ | brownOut_ | pwrcyc_ | nearSecs_ | coldMap_ | reinit_
  | jump_
  deriving DecidableEq, Repr

/-- The bit of a field in a mask. -/
def Fld.bit : Fld → Nat
  | .dict_ => 0
  | .cont_ => 1
  | .stat_ => 2
  | .now_ => 3
  | .timers_ => 4
  | .out_ => 5
  | .free_ => 6
  | .staged_ => 7
  | .drain_ => 8
  | .chans_ => 9
  | .adp_ => 10
  | .data_ => 11
  | .tb_ => 12
  | .doms_ => 13
  | .proofs_ => 14
  | .suspects_ => 15
  | .proofSuspects_ => 16
  | .rows_ => 17
  | .checkLate_ => 18
  | .oldWork_ => 19
  | .regen_ => 20
  | .job_ => 21
  | .runs_ => 22
  | .nextRun_ => 23
  | .crosses_ => 24
  | .nextCross_ => 25
  | .crossPass_ => 26
  | .budgetWindow_ => 27
  | .overBudget_ => 28
  | .deferred_ => 29
  | .waitingRuns_ => 30
  | .waitingCross_ => 31
  | .probings_ => 32
  | .badRegulators_ => 33
  | .idleMoves_ => 34
  | .idleFills_ => 35
  | .idleWaits_ => 36
  | .slices_ => 37
  | .digests_ => 38
  | .kv_ => 39
  | .fences_ => 40
  | .fenceCounts_ => 41
  | .attic_ => 42
  | .holes_ => 43
  | .err_ => 44
  | .bring_ => 45
  | .test_ => 46
  | .keyClearing_ => 47
  | .keyCleared_ => 48
  | .lcToken_ => 49
  | .lcProgramming_ => 50
  | .coldStarts_ => 51
  | .frz_ => 52
  | .obs_ => 53
  | .rcv_ => 54
  | .cel_ => 55
  | .probes_ => 56
  | .pcs_ => 57
  | .img_ => 58
  | .powered_ => 59
  | .porst_ => 60
  | .brownOut_ => 61
  | .pwrcyc_ => 62
  | .nearSecs_ => 63
  | .coldMap_ => 64
  | .reinit_ => 65
  | .jump_ => 66

/-- P is kept by the elementary updates of a field. -/
def Fld.Closes (P : State → Prop) : Fld → Prop
  | .dict_ => ∀ (s : State) (k : Nat) (v : Word), P s → P (s.put k v)
  | .cont_ => ∀ (s : State) (k : Nat) (b : Bytes), P s → P (s.setContent k b)
  | .stat_ => ∀ (s : State) (k : Nat) (v : Stat), P s → P (s.setStatus k v)
  | .now_ => ∀ (s : State) (v : Word), P s → P { s with now := v }
  | .timers_ => ∀ (s : State) (v : List Timer), P s → P { s with timers := v }
  | .out_ => ∀ (s : State) (v : List Out), P s → P { s with out := v }
  | .free_ => ∀ (s : State) (v : Nat), P s → P { s with free := v }
  | .staged_ => ∀ (s : State) (v : List Staged), P s → P { s with staged := v }
  | .drain_ => ∀ (s : State) (v : Option Drain), P s → P { s with drain := v }
  | .chans_ => ∀ (s : State) (c : ChanNo) (x : Option Chan), P s → P (s.setChan c x)
  | .adp_ => ∀ (s : State) (v : List AdpWait), P s → P { s with adp := v }
  | .data_ => ∀ (s : State) (c : ChanNo) (n : Nat) (b : Bytes), P s → P (s.setArea c n b)
  | .tb_ => ∀ (s : State) (v : TimeBase), P s → P { s with tb := v }
  | .doms_ => ∀ (s : State) (d : Dom) (x : DomSt), P s → P (s.setDom d x)
  | .proofs_ => ∀ (s : State) (v : List Proof), P s → P { s with proofs := v }
  | .suspects_ => ∀ (s : State) (v : List (Nat × Nat × Nat)), P s → P { s with suspects := v }
  | .proofSuspects_ => ∀ (s : State) (v : List (Nat × Nat × Nat)), P s → P { s with proofSuspects := v }
  | .rows_ => ∀ (s : State) (v : List Row), P s → P { s with rows := v }
  | .checkLate_ => ∀ (s : State) (v : List (PCore × EngineNo × Nat)), P s → P { s with checkLate := v }
  | .oldWork_ => ∀ (s : State) (v : List (PCore × EngineNo × Nat)), P s → P { s with oldWork := v }
  | .regen_ => ∀ (s : State) (v : Option Regen), P s → P { s with regen := v }
  | .job_ => ∀ (s : State) (v : Steward), P s → P { s with job := v }
  | .runs_ => ∀ (s : State) (v : List Run), P s → P { s with runs := v }
  | .nextRun_ => ∀ (s : State) (v : Nat), P s → P { s with nextRun := v }
  | .crosses_ => ∀ (s : State) (v : List Cross), P s → P { s with crosses := v }
  | .nextCross_ => ∀ (s : State) (v : Nat), P s → P { s with nextCross := v }
  | .crossPass_ => ∀ (s : State) (v : Nat), P s → P { s with crossPass := v }
  | .budgetWindow_ => ∀ (s : State) (v : Nat), P s → P { s with budgetWindow := v }
  | .overBudget_ => ∀ (s : State) (v : Bool), P s → P { s with overBudget := v }
  | .deferred_ => ∀ (s : State) (k n : Nat), P s → P { s with deferred := tabPut 0 s.deferred k n }
  | .waitingRuns_ => ∀ (s : State) (v : List PCore), P s → P { s with waitingRuns := v }
  | .waitingCross_ => ∀ (s : State) (v : List PCore), P s → P { s with waitingCross := v }
  | .probings_ => ∀ (s : State) (v : List Probing), P s → P { s with probings := v }
  | .badRegulators_ => ∀ (s : State) (v : List PCore), P s → P { s with badRegulators := v }
  | .idleMoves_ => ∀ (s : State) (v : List LCore), P s → P { s with idleMoves := v }
  | .idleFills_ => ∀ (s : State) (v : List PCore), P s → P { s with idleFills := v }
  | .idleWaits_ => ∀ (s : State) (v : List PCore), P s → P { s with idleWaits := v }
  | .slices_ => ∀ (s : State) (c : PCore) (x : Slice), P s → P (s.setSlice c x)
  | .digests_ => ∀ (s : State) (r : DigestNo) (x : Digest), P s → P (s.setDigest r x)
  | .kv_ => ∀ (s : State) (v : List Kv), P s → P { s with kv := v }
  | .fences_ => ∀ (s : State) (v : List Nat), P s → P { s with fences := v }
  | .fenceCounts_ => ∀ (s : State) (kind n : Nat), P s → P (s.countFence kind n)
  | .attic_ => ∀ (s : State) (i : Nat) (e : Bytes), P s → P (s.setAttic i e)
  | .holes_ => ∀ (s : State) (v : List (Nat × Nat)), P s → P { s with holes := v }
  | .err_ => ∀ (s : State) (v : ErrSt), P s → P { s with err := v }
  | .bring_ => ∀ (s : State) (v : Bring), P s → P { s with bring := v }
  | .test_ => ∀ (s : State) (v : SelfTest), P s → P { s with test := v }
  | .keyClearing_ => ∀ (s : State) (v : Bool), P s → P { s with keyClearing := v }
  | .keyCleared_ => ∀ (s : State) (v : Bool), P s → P { s with keyCleared := v }
  | .lcToken_ => ∀ (s : State) (v : Option Bytes), P s → P { s with lcToken := v }
  | .lcProgramming_ => ∀ (s : State) (v : Option Nat), P s → P { s with lcProgramming := v }
  | .coldStarts_ => ∀ (s : State) (v : Nat), P s → P { s with coldStarts := v }
  | .frz_ => ∀ (s : State) (v : FreezeSt), P s → P { s with frz := v }
  | .obs_ => ∀ (s : State) (v : ObsSt), P s → P { s with obs := v }
  | .rcv_ => ∀ (s : State) (v : RecSt), P s → P { s with rcv := v }
  | .cel_ => ∀ (s : State) (v : CellarSt), P s → P { s with cel := v }
  | .probes_ => ∀ (s : State) (c : PCore) (x : Probe), P s → P (s.setProbe c x)
  | .pcs_ => ∀ (s : State) (p : PcNo) (x : PcSt), P s → P (s.setPc p x)
  | .img_ => ∀ (s : State) (v : Images), P s → P { s with img := v }
  | .powered_ => ∀ (s : State) (v : Bool), P s → P { s with powered := v }
  | .porst_ => ∀ (s : State) (v : Bool), P s → P { s with porst := v }
  | .brownOut_ => ∀ (s : State) (v : Bool), P s → P { s with brownOut := v }
  | .pwrcyc_ => ∀ (s : State) (v : Bool), P s → P { s with pwrcyc := v }
  | .nearSecs_ => ∀ (s : State) (k n : Nat), P s → P { s with nearSecs := tabPut 0 s.nearSecs k n }
  | .coldMap_ => ∀ (s : State) (v : Nat × Bytes), P s → P { s with coldMap := v }
  | .reinit_ => ∀ (s : State) (warm keepF : Bool), P s → P (s.reinit warm keepF)
  | .jump_ => ∀ (s : State) (n : Nat), P s → P (s.jump n)

/-- P is kept by the elementary updates of every field of the mask m. -/
def Closed (m : Nat) (P : State → Prop) : Prop := ∀ f : Fld, m.testBit f.bit = true → f.Closes P

theorem Closed.mono {m n : Nat} {P : State → Prop} (c : Closed m P) (h : n &&& m = n) : Closed n P := by
  intro f hf
  refine c f ?_
  rw [← h, Nat.testBit_and] at hf
  exact (Bool.and_eq_true_iff.1 hf).2

/-- An outcome is a next state that has P. -/
def NextHas (P : State → Prop) (o : Host.Outcome State Fault Refusal) : Prop := ∃ t, o = .next t ∧ P t

theorem nextHas {P : State → Prop} {t : State} (h : P t) : NextHas P (.next t) := ⟨t, rfl, h⟩

theorem keeps_ite {P : State → Prop} {c : Prop} [Decidable c] {a b : State} (ha : P a) (hb : P b) : P (if c then a else b) := by
  split <;> assumption

theorem keeps_then {P : State → Prop} {c : Prop} [Decidable c] {a b : State} (hb : P b) (ha : P b → P a) :
    P (if c then a else b) := keeps_ite (ha hb) hb

theorem keeps_else {P : State → Prop} {c : Prop} [Decidable c] {a b : State} (ha : P a) (hb : P a → P b) :
    P (if c then a else b) := keeps_ite ha (hb ha)

theorem has_ite {α : Type} {P : α → Prop} {c : Prop} [Decidable c] {a b : α} (ha : P a) (hb : P b) : P (if c then a else b) := by
  split <;> assumption

theorem keeps_foldl {β : Type} {P : State → Prop} {f : State → β → State} (hf : ∀ s x, P s → P (f s x)) (l : List β) {s : State}
    (h : P s) : P (l.foldl f s) := by
  induction l generalizing s with
  | nil => exact h
  | cons a l ih => exact ih (hf s a h)

/-- The body that an entry's write runs, where it has one of its own, keeps P. -/
def BodyHas (P : State → Prop) (o : Option Body) : Prop := ∀ b, o = some b → ∀ s, P s → P (b s).1

theorem bodyHas_none {P : State → Prop} : BodyHas P none := fun _ e => nomatch e

theorem bodyHas_some {P : State → Prop} {b : Body} (h : ∀ s, P s → P (b s).1) : BodyHas P (some b) := by
  intro b' e
  cases e
  exact h

theorem bodyHas_or {P : State → Prop} {o q : Option Body} (h : BodyHas P o) (g : BodyHas P q) : BodyHas P (o.or q) := by
  cases o with
  | none => exact g
  | some b => exact h

theorem keeps_foldl_fst {α β : Type} {P : State → Prop} {f : State × α → β → State × α} (hf : ∀ p x, P p.1 → P (f p x).1)
    (l : List β) {p : State × α} (h : P p.1) : P (l.foldl f p).1 := by
  induction l generalizing p with
  | nil => exact h
  | cons a l ih => exact ih (hf p a h)

theorem keeps_foldl_snd {α β : Type} {P : State → Prop} {f : α × State → β → α × State} (hf : ∀ p x, P p.2 → P (f p x).2)
    (l : List β) {p : α × State} (h : P p.2) : P (l.foldl f p).2 := by
  induction l generalizing p with
  | nil => exact h
  | cons a l ih => exact ih (hf p a h)

theorem keeps_fst {α : Type} {P : State → Prop} {x : State × α} {t : State} {a : α} (e : x = (t, a)) (h : P x.1) : P t := by
  rw [e] at h; exact h

theorem keeps_snd {α : Type} {P : State → Prop} {x : α × State} {t : State} {a : α} (e : x = (a, t)) (h : P x.2) : P t := by
  rw [e] at h; exact h

theorem keeps_now {P : State → Prop} (c : Closed 0x8 P) {s : State} {v : Word} (h : P s) :
    P { s with now := v } := c .now_ rfl s v h

theorem keeps_timers {P : State → Prop} (c : Closed 0x10 P) {s : State} {v : List Timer} (h : P s) :
    P { s with timers := v } := c .timers_ rfl s v h

theorem keeps_out {P : State → Prop} (c : Closed 0x20 P) {s : State} {v : List Out} (h : P s) :
    P { s with out := v } := c .out_ rfl s v h

theorem keeps_free {P : State → Prop} (c : Closed 0x40 P) {s : State} {v : Nat} (h : P s) :
    P { s with free := v } := c .free_ rfl s v h

theorem keeps_staged {P : State → Prop} (c : Closed 0x80 P) {s : State} {v : List Staged} (h : P s) :
    P { s with staged := v } := c .staged_ rfl s v h

theorem keeps_drain {P : State → Prop} (c : Closed 0x100 P) {s : State} {v : Option Drain} (h : P s) :
    P { s with drain := v } := c .drain_ rfl s v h

theorem keeps_adp {P : State → Prop} (c : Closed 0x400 P) {s : State} {v : List AdpWait} (h : P s) :
    P { s with adp := v } := c .adp_ rfl s v h

theorem keeps_tb {P : State → Prop} (c : Closed 0x1000 P) {s : State} {v : TimeBase} (h : P s) :
    P { s with tb := v } := c .tb_ rfl s v h

theorem keeps_proofs {P : State → Prop} (c : Closed 0x4000 P) {s : State} {v : List Proof} (h : P s) :
    P { s with proofs := v } := c .proofs_ rfl s v h

theorem keeps_suspects {P : State → Prop} (c : Closed 0x8000 P) {s : State} {v : List (Nat × Nat × Nat)} (h : P s) :
    P { s with suspects := v } := c .suspects_ rfl s v h

theorem keeps_proofSuspects {P : State → Prop} (c : Closed 0x10000 P) {s : State} {v : List (Nat × Nat × Nat)} (h : P s) :
    P { s with proofSuspects := v } := c .proofSuspects_ rfl s v h

theorem keeps_rows {P : State → Prop} (c : Closed 0x20000 P) {s : State} {v : List Row} (h : P s) :
    P { s with rows := v } := c .rows_ rfl s v h

theorem keeps_checkLate {P : State → Prop} (c : Closed 0x40000 P) {s : State} {v : List (PCore × EngineNo × Nat)} (h : P s) :
    P { s with checkLate := v } := c .checkLate_ rfl s v h

theorem keeps_oldWork {P : State → Prop} (c : Closed 0x80000 P) {s : State} {v : List (PCore × EngineNo × Nat)} (h : P s) :
    P { s with oldWork := v } := c .oldWork_ rfl s v h

theorem keeps_regen {P : State → Prop} (c : Closed 0x100000 P) {s : State} {v : Option Regen} (h : P s) :
    P { s with regen := v } := c .regen_ rfl s v h

theorem keeps_job {P : State → Prop} (c : Closed 0x200000 P) {s : State} {v : Steward} (h : P s) :
    P { s with job := v } := c .job_ rfl s v h

theorem keeps_runs {P : State → Prop} (c : Closed 0x400000 P) {s : State} {v : List Run} (h : P s) :
    P { s with runs := v } := c .runs_ rfl s v h

theorem keeps_nextRun {P : State → Prop} (c : Closed 0x800000 P) {s : State} {v : Nat} (h : P s) :
    P { s with nextRun := v } := c .nextRun_ rfl s v h

theorem keeps_crosses {P : State → Prop} (c : Closed 0x1000000 P) {s : State} {v : List Cross} (h : P s) :
    P { s with crosses := v } := c .crosses_ rfl s v h

theorem keeps_nextCross {P : State → Prop} (c : Closed 0x2000000 P) {s : State} {v : Nat} (h : P s) :
    P { s with nextCross := v } := c .nextCross_ rfl s v h

theorem keeps_crossPass {P : State → Prop} (c : Closed 0x4000000 P) {s : State} {v : Nat} (h : P s) :
    P { s with crossPass := v } := c .crossPass_ rfl s v h

theorem keeps_budgetWindow {P : State → Prop} (c : Closed 0x8000000 P) {s : State} {v : Nat} (h : P s) :
    P { s with budgetWindow := v } := c .budgetWindow_ rfl s v h

theorem keeps_overBudget {P : State → Prop} (c : Closed 0x10000000 P) {s : State} {v : Bool} (h : P s) :
    P { s with overBudget := v } := c .overBudget_ rfl s v h

theorem keeps_deferred {P : State → Prop} (c : Closed 0x20000000 P) {s : State} {k n : Nat} (h : P s) :
    P { s with deferred := tabPut 0 s.deferred k n } := c .deferred_ rfl s k n h

theorem keeps_waitingRuns {P : State → Prop} (c : Closed 0x40000000 P) {s : State} {v : List PCore} (h : P s) :
    P { s with waitingRuns := v } := c .waitingRuns_ rfl s v h

theorem keeps_waitingCross {P : State → Prop} (c : Closed 0x80000000 P) {s : State} {v : List PCore} (h : P s) :
    P { s with waitingCross := v } := c .waitingCross_ rfl s v h

theorem keeps_probings {P : State → Prop} (c : Closed 0x100000000 P) {s : State} {v : List Probing} (h : P s) :
    P { s with probings := v } := c .probings_ rfl s v h

theorem keeps_badRegulators {P : State → Prop} (c : Closed 0x200000000 P) {s : State} {v : List PCore} (h : P s) :
    P { s with badRegulators := v } := c .badRegulators_ rfl s v h

theorem keeps_idleMoves {P : State → Prop} (c : Closed 0x400000000 P) {s : State} {v : List LCore} (h : P s) :
    P { s with idleMoves := v } := c .idleMoves_ rfl s v h

theorem keeps_idleFills {P : State → Prop} (c : Closed 0x800000000 P) {s : State} {v : List PCore} (h : P s) :
    P { s with idleFills := v } := c .idleFills_ rfl s v h

theorem keeps_idleWaits {P : State → Prop} (c : Closed 0x1000000000 P) {s : State} {v : List PCore} (h : P s) :
    P { s with idleWaits := v } := c .idleWaits_ rfl s v h

theorem keeps_kv {P : State → Prop} (c : Closed 0x8000000000 P) {s : State} {v : List Kv} (h : P s) :
    P { s with kv := v } := c .kv_ rfl s v h

theorem keeps_fences {P : State → Prop} (c : Closed 0x10000000000 P) {s : State} {v : List Nat} (h : P s) :
    P { s with fences := v } := c .fences_ rfl s v h

theorem keeps_holes {P : State → Prop} (c : Closed 0x80000000000 P) {s : State} {v : List (Nat × Nat)} (h : P s) :
    P { s with holes := v } := c .holes_ rfl s v h

theorem keeps_err {P : State → Prop} (c : Closed 0x100000000000 P) {s : State} {v : ErrSt} (h : P s) :
    P { s with err := v } := c .err_ rfl s v h

theorem keeps_bring {P : State → Prop} (c : Closed 0x200000000000 P) {s : State} {v : Bring} (h : P s) :
    P { s with bring := v } := c .bring_ rfl s v h

theorem keeps_test {P : State → Prop} (c : Closed 0x400000000000 P) {s : State} {v : SelfTest} (h : P s) :
    P { s with test := v } := c .test_ rfl s v h

theorem keeps_keyClearing {P : State → Prop} (c : Closed 0x800000000000 P) {s : State} {v : Bool} (h : P s) :
    P { s with keyClearing := v } := c .keyClearing_ rfl s v h

theorem keeps_keyCleared {P : State → Prop} (c : Closed 0x1000000000000 P) {s : State} {v : Bool} (h : P s) :
    P { s with keyCleared := v } := c .keyCleared_ rfl s v h

theorem keeps_lcToken {P : State → Prop} (c : Closed 0x2000000000000 P) {s : State} {v : Option Bytes} (h : P s) :
    P { s with lcToken := v } := c .lcToken_ rfl s v h

theorem keeps_lcProgramming {P : State → Prop} (c : Closed 0x4000000000000 P) {s : State} {v : Option Nat} (h : P s) :
    P { s with lcProgramming := v } := c .lcProgramming_ rfl s v h

theorem keeps_coldStarts {P : State → Prop} (c : Closed 0x8000000000000 P) {s : State} {v : Nat} (h : P s) :
    P { s with coldStarts := v } := c .coldStarts_ rfl s v h

theorem keeps_frz {P : State → Prop} (c : Closed 0x10000000000000 P) {s : State} {v : FreezeSt} (h : P s) :
    P { s with frz := v } := c .frz_ rfl s v h

theorem keeps_obs {P : State → Prop} (c : Closed 0x20000000000000 P) {s : State} {v : ObsSt} (h : P s) :
    P { s with obs := v } := c .obs_ rfl s v h

theorem keeps_rcv {P : State → Prop} (c : Closed 0x40000000000000 P) {s : State} {v : RecSt} (h : P s) :
    P { s with rcv := v } := c .rcv_ rfl s v h

theorem keeps_cel {P : State → Prop} (c : Closed 0x80000000000000 P) {s : State} {v : CellarSt} (h : P s) :
    P { s with cel := v } := c .cel_ rfl s v h

theorem keeps_img {P : State → Prop} (c : Closed 0x400000000000000 P) {s : State} {v : Images} (h : P s) :
    P { s with img := v } := c .img_ rfl s v h

theorem keeps_powered {P : State → Prop} (c : Closed 0x800000000000000 P) {s : State} {v : Bool} (h : P s) :
    P { s with powered := v } := c .powered_ rfl s v h

theorem keeps_porst {P : State → Prop} (c : Closed 0x1000000000000000 P) {s : State} {v : Bool} (h : P s) :
    P { s with porst := v } := c .porst_ rfl s v h

theorem keeps_brownOut {P : State → Prop} (c : Closed 0x2000000000000000 P) {s : State} {v : Bool} (h : P s) :
    P { s with brownOut := v } := c .brownOut_ rfl s v h

theorem keeps_pwrcyc {P : State → Prop} (c : Closed 0x4000000000000000 P) {s : State} {v : Bool} (h : P s) :
    P { s with pwrcyc := v } := c .pwrcyc_ rfl s v h

theorem keeps_nearSecs {P : State → Prop} (c : Closed 0x8000000000000000 P) {s : State} {k n : Nat} (h : P s) :
    P { s with nearSecs := tabPut 0 s.nearSecs k n } := c .nearSecs_ rfl s k n h

theorem keeps_coldMap {P : State → Prop} (c : Closed 0x10000000000000000 P) {s : State} {v : Nat × Bytes} (h : P s) :
    P { s with coldMap := v } := c .coldMap_ rfl s v h

theorem keeps_bring_frz {P : State → Prop} (c : Closed 0x10200000000000 P) {s : State} {v0 : Bring} {v1 : FreezeSt} (h : P s) :
    P { s with bring := v0, frz := v1 } := keeps_frz (s := { s with bring := v0 }) (c.mono rfl) (keeps_bring (c.mono rfl) h)

theorem keeps_brownOut_porst_powered {P : State → Prop} (c : Closed 0x3800000000000000 P) {s : State} {v0 : Bool} {v1 : Bool} {v2 : Bool} (h : P s) :
    P { s with brownOut := v0, porst := v1, powered := v2 } := keeps_powered (s := { s with brownOut := v0, porst := v1 }) (c.mono rfl) (keeps_porst (s := { s with brownOut := v0 }) (c.mono rfl) (keeps_brownOut (c.mono rfl) h))

theorem keeps_cel_rcv {P : State → Prop} (c : Closed 0xc0000000000000 P) {s : State} {v0 : CellarSt} {v1 : RecSt} (h : P s) :
    P { s with cel := v0, rcv := v1 } := keeps_rcv (s := { s with cel := v0 }) (c.mono rfl) (keeps_cel (c.mono rfl) h)

theorem keeps_checkLate_free {P : State → Prop} (c : Closed 0x40040 P) {s : State} {v0 : List (PCore × EngineNo × Nat)} {v1 : Nat} (h : P s) :
    P { s with checkLate := v0, free := v1 } := keeps_free (s := { s with checkLate := v0 }) (c.mono rfl) (keeps_checkLate (c.mono rfl) h)

theorem keeps_checkLate_oldWork {P : State → Prop} (c : Closed 0xc0000 P) {s : State} {v0 : List (PCore × EngineNo × Nat)} {v1 : List (PCore × EngineNo × Nat)} (h : P s) :
    P { s with checkLate := v0, oldWork := v1 } := keeps_oldWork (s := { s with checkLate := v0 }) (c.mono rfl) (keeps_checkLate (c.mono rfl) h)

theorem keeps_coldStarts_holes_now {P : State → Prop} (c : Closed 0x8080000000008 P) {s : State} {v0 : Nat} {v1 : List (Nat × Nat)} {v2 : Word} (h : P s) :
    P { s with coldStarts := v0, holes := v1, now := v2 } := keeps_now (s := { s with coldStarts := v0, holes := v1 }) (c.mono rfl) (keeps_holes (s := { s with coldStarts := v0 }) (c.mono rfl) (keeps_coldStarts (c.mono rfl) h))

theorem keeps_crossPass_waitingCross {P : State → Prop} (c : Closed 0x84000000 P) {s : State} {v0 : Nat} {v1 : List PCore} (h : P s) :
    P { s with crossPass := v0, waitingCross := v1 } := keeps_waitingCross (s := { s with crossPass := v0 }) (c.mono rfl) (keeps_crossPass (c.mono rfl) h)

theorem keeps_crosses_nextCross {P : State → Prop} (c : Closed 0x3000000 P) {s : State} {v0 : List Cross} {v1 : Nat} (h : P s) :
    P { s with crosses := v0, nextCross := v1 } := keeps_nextCross (s := { s with crosses := v0 }) (c.mono rfl) (keeps_crosses (c.mono rfl) h)

theorem keeps_crosses_proofs_runs {P : State → Prop} (c : Closed 0x1404000 P) {s : State} {v0 : List Cross} {v1 : List Proof} {v2 : List Run} (h : P s) :
    P { s with crosses := v0, proofs := v1, runs := v2 } := keeps_runs (s := { s with crosses := v0, proofs := v1 }) (c.mono rfl) (keeps_proofs (s := { s with crosses := v0 }) (c.mono rfl) (keeps_crosses (c.mono rfl) h))

theorem keeps_deferred_waitingRuns {P : State → Prop} (c : Closed 0x60000000 P) {s : State} {k0 n0 : Nat} {v1 : List PCore} (h : P s) :
    P { s with deferred := tabPut 0 s.deferred k0 n0, waitingRuns := v1 } := keeps_waitingRuns (s := { s with deferred := tabPut 0 s.deferred k0 n0 }) (c.mono rfl) (keeps_deferred (c.mono rfl) h)

theorem keeps_free_frz {P : State → Prop} (c : Closed 0x10000000000040 P) {s : State} {v0 : Nat} {v1 : FreezeSt} (h : P s) :
    P { s with free := v0, frz := v1 } := keeps_frz (s := { s with free := v0 }) (c.mono rfl) (keeps_free (c.mono rfl) h)

theorem keeps_free_obs {P : State → Prop} (c : Closed 0x20000000000040 P) {s : State} {v0 : Nat} {v1 : ObsSt} (h : P s) :
    P { s with free := v0, obs := v1 } := keeps_obs (s := { s with free := v0 }) (c.mono rfl) (keeps_free (c.mono rfl) h)

theorem keeps_free_rcv {P : State → Prop} (c : Closed 0x40000000000040 P) {s : State} {v0 : Nat} {v1 : RecSt} (h : P s) :
    P { s with free := v0, rcv := v1 } := keeps_rcv (s := { s with free := v0 }) (c.mono rfl) (keeps_free (c.mono rfl) h)

theorem keeps_idleFills_idleWaits_test {P : State → Prop} (c : Closed 0x401800000000 P) {s : State} {v0 : List PCore} {v1 : List PCore} {v2 : SelfTest} (h : P s) :
    P { s with idleFills := v0, idleWaits := v1, test := v2 } := keeps_test (s := { s with idleFills := v0, idleWaits := v1 }) (c.mono rfl) (keeps_idleWaits (s := { s with idleFills := v0 }) (c.mono rfl) (keeps_idleFills (c.mono rfl) h))

theorem keeps_idleMoves_idleWaits {P : State → Prop} (c : Closed 0x1400000000 P) {s : State} {v0 : List LCore} {v1 : List PCore} (h : P s) :
    P { s with idleMoves := v0, idleWaits := v1 } := keeps_idleWaits (s := { s with idleMoves := v0 }) (c.mono rfl) (keeps_idleMoves (c.mono rfl) h)

theorem keeps_keyCleared_keyClearing {P : State → Prop} (c : Closed 0x1800000000000 P) {s : State} {v0 : Bool} {v1 : Bool} (h : P s) :
    P { s with keyCleared := v0, keyClearing := v1 } := keeps_keyClearing (s := { s with keyCleared := v0 }) (c.mono rfl) (keeps_keyCleared (c.mono rfl) h)

theorem keeps_kv_obs_tb {P : State → Prop} (c : Closed 0x20008000001000 P) {s : State} {v0 : List Kv} {v1 : ObsSt} {v2 : TimeBase} (h : P s) :
    P { s with kv := v0, obs := v1, tb := v2 } := keeps_tb (s := { s with kv := v0, obs := v1 }) (c.mono rfl) (keeps_obs (s := { s with kv := v0 }) (c.mono rfl) (keeps_kv (c.mono rfl) h))

theorem keeps_nextRun_runs {P : State → Prop} (c : Closed 0xc00000 P) {s : State} {v0 : Nat} {v1 : List Run} (h : P s) :
    P { s with nextRun := v0, runs := v1 } := keeps_runs (s := { s with nextRun := v0 }) (c.mono rfl) (keeps_nextRun (c.mono rfl) h)

theorem keeps_now_tb {P : State → Prop} (c : Closed 0x1008 P) {s : State} {v0 : Word} {v1 : TimeBase} (h : P s) :
    P { s with now := v0, tb := v1 } := keeps_tb (s := { s with now := v0 }) (c.mono rfl) (keeps_now (c.mono rfl) h)

theorem keeps_obs_tb {P : State → Prop} (c : Closed 0x20000000001000 P) {s : State} {v0 : ObsSt} {v1 : TimeBase} (h : P s) :
    P { s with obs := v0, tb := v1 } := keeps_tb (s := { s with obs := v0 }) (c.mono rfl) (keeps_obs (c.mono rfl) h)

theorem keeps_oldWork_rows {P : State → Prop} (c : Closed 0xa0000 P) {s : State} {v0 : List (PCore × EngineNo × Nat)} {v1 : List Row} (h : P s) :
    P { s with oldWork := v0, rows := v1 } := keeps_rows (s := { s with oldWork := v0 }) (c.mono rfl) (keeps_oldWork (c.mono rfl) h)

theorem keeps_porst_powered {P : State → Prop} (c : Closed 0x1800000000000000 P) {s : State} {v0 : Bool} {v1 : Bool} (h : P s) :
    P { s with porst := v0, powered := v1 } := keeps_powered (s := { s with porst := v0 }) (c.mono rfl) (keeps_porst (c.mono rfl) h)

theorem keeps_porst_tb {P : State → Prop} (c : Closed 0x1000000000001000 P) {s : State} {v0 : Bool} {v1 : TimeBase} (h : P s) :
    P { s with porst := v0, tb := v1 } := keeps_tb (s := { s with porst := v0 }) (c.mono rfl) (keeps_porst (c.mono rfl) h)

theorem keeps_proofSuspects_suspects {P : State → Prop} (c : Closed 0x18000 P) {s : State} {v0 : List (Nat × Nat × Nat)} {v1 : List (Nat × Nat × Nat)} (h : P s) :
    P { s with proofSuspects := v0, suspects := v1 } := keeps_suspects (s := { s with proofSuspects := v0 }) (c.mono rfl) (keeps_proofSuspects (c.mono rfl) h)

theorem keeps_waitingCross_waitingRuns {P : State → Prop} (c : Closed 0xc0000000 P) {s : State} {v0 : List PCore} {v1 : List PCore} (h : P s) :
    P { s with waitingCross := v0, waitingRuns := v1 } := keeps_waitingRuns (s := { s with waitingCross := v0 }) (c.mono rfl) (keeps_waitingCross (c.mono rfl) h)

end Sys2Proof.Machine
end

