-- ==== Sys2Proof/Laws/KeepsOps.lean ====
section
/-! SUPPORT. What each operation keeps (see Laws/Keeps.lean): the operations over registers, the Cellar, the error handling and the steps. -/

namespace Sys2Proof.Machine

theorem State.put_keeps {P : State → Prop} (c : Closed 0x1 P) {s : State} {a2 : _} {a3 : _} (h : P s) :
    P (State.put s a2 a3) := by
  exact c .dict_ rfl _ _ _  h

theorem State.putN_keeps {P : State → Prop} (c : Closed 0x1 P) {s : State} {a2 : _} {a3 : _} (h : P s) :
    P (State.putN s a2 a3) := by
  have c1 : Closed 0x1 P := c.mono rfl
  unfold State.putN
  refine State.put_keeps c1 ?_
  assumption

theorem State.bumpBy_keeps {P : State → Prop} (c : Closed 0x1 P) {s : State} {a2 : _} {a3 : _} (h : P s) :
    P (State.bumpBy s a2 a3) := by
  have c1 : Closed 0x1 P := c.mono rfl
  unfold State.bumpBy
  dsimp only
  refine keeps_ite ?_ ?_
  · refine State.putN_keeps c1 ?_
    assumption
  · refine State.put_keeps c1 ?_
    assumption

theorem State.bump_keeps {P : State → Prop} (c : Closed 0x1 P) {s : State} {a2 : _} (h : P s) :
    P (State.bump s a2) := by
  have c1 : Closed 0x1 P := c.mono rfl
  unfold State.bump
  refine State.bumpBy_keeps c1 ?_
  assumption

theorem State.disarm_keeps {P : State → Prop} (c : Closed 0x10 P) {s : State} {a2 : _} (h : P s) :
    P (State.disarm s a2) := by
  have c10 : Closed 0x10 P := c.mono rfl
  unfold State.disarm
  refine keeps_timers c10 ?_
  assumption

theorem State.setContent_keeps {P : State → Prop} (c : Closed 0x2 P) {s : State} {a2 : _} {a3 : _} (h : P s) :
    P (State.setContent s a2 a3) := by
  exact c .cont_ rfl _ _ _  h

theorem State.setSlice_keeps {P : State → Prop} (c : Closed 0x2000000000 P) {s : State} {a2 : _} {a3 : _} (h : P s) :
    P (State.setSlice s a2 a3) := by
  exact c .slices_ rfl _ _ _  h

theorem State.send_keeps {P : State → Prop} (c : Closed 0x20 P) {s : State} {a2 : _} (h : P s) :
    P (State.send s a2) := by
  have c20 : Closed 0x20 P := c.mono rfl
  unfold State.send
  refine keeps_out c20 ?_
  assumption

theorem State.ringPass_keeps {P : State → Prop} (c : Closed 0x20000000000040 P) {s : State} {a2 : _} (h : P s) :
    P (State.ringPass s a2) := by
  have c20000000000040 : Closed 0x20000000000040 P := c.mono rfl
  unfold State.ringPass
  dsimp only
  refine keeps_free_obs c20000000000040 ?_
  assumption

theorem State.ringEvent_keeps {P : State → Prop} (c : Closed 0x20000000000041 P) {s : State} {a2 : _} {a3 : _} {a4 : _}
    {a5 : _} {a6 : _} (h : P s) :
    P (State.ringEvent s a2 a3 a4 a5 a6) := by
  have c1 : Closed 0x1 P := c.mono rfl
  have c20000000000000 : Closed 0x20000000000000 P := c.mono rfl
  have c20000000000040 : Closed 0x20000000000040 P := c.mono rfl
  unfold State.ringEvent
  dsimp only
  split
  · assumption
  · refine keeps_ite ?_ ?_
    · assumption
    · refine keeps_ite ?_ ?_
      · refine State.bump_keeps c1 ?_
        assumption
      · refine State.bump_keeps c1 ?_
        refine State.putN_keeps c1 ?_
        refine keeps_obs c20000000000000 ?_
        refine State.ringPass_keeps c20000000000040 ?_
        assumption

theorem State.setProbe_keeps {P : State → Prop} (c : Closed 0x100000000000000 P) {s : State} {a2 : _} {a3 : _} (h : P s) :
    P (State.setProbe s a2 a3) := by
  exact c .probes_ rfl _ _ _  h

theorem State.upProbe_keeps {P : State → Prop} (c : Closed 0x100000000000000 P) {s : State} {a2 : _} {a3 : _} (h : P s) :
    P (State.upProbe s a2 a3) := by
  have c100000000000000 : Closed 0x100000000000000 P := c.mono rfl
  unfold State.upProbe
  refine State.setProbe_keeps c100000000000000 ?_
  assumption

theorem State.unisolateCore_keeps {P : State → Prop} (c : Closed 0x120000000000041 P) {s : State} {a2 : _} (h : P s) :
    P (State.unisolateCore s a2) := by
  have c20000000000041 : Closed 0x20000000000041 P := c.mono rfl
  have c100000000000000 : Closed 0x100000000000000 P := c.mono rfl
  unfold State.unisolateCore
  dsimp only
  refine keeps_then ?_ ?_
  · refine State.upProbe_keeps c100000000000000 ?_
    assumption
  · intro x40
    refine State.ringEvent_keeps c20000000000041 ?_
    assumption

theorem State.armAt_keeps {P : State → Prop} (c : Closed 0x10 P) {s : State} {a2 : _} {a3 : _} (h : P s) :
    P (State.armAt s a2 a3) := by
  have c10 : Closed 0x10 P := c.mono rfl
  unfold State.armAt
  refine keeps_timers c10 ?_
  assumption

theorem State.arm_keeps {P : State → Prop} (c : Closed 0x10 P) {s : State} {a2 : _} {a3 : _} (h : P s) :
    P (State.arm s a2 a3) := by
  have c10 : Closed 0x10 P := c.mono rfl
  unfold State.arm
  refine State.armAt_keeps c10 ?_
  assumption

theorem State.grant_keeps {P : State → Prop} (c : Closed 0x100000000000 P) {s : State} {a2 : _} {a3 : _} {a4 : _} (h : P s) :
    P (State.grant s a2 a3 a4).2 := by
  have c100000000000 : Closed 0x100000000000 P := c.mono rfl
  unfold State.grant
  dsimp only
  refine keeps_err c100000000000 ?_
  assumption

theorem State.setCellar_keeps {P : State → Prop} (c : Closed 0x80000000000001 P) {s : State} {a2 : _} (h : P s) :
    P (State.setCellar s a2) := by
  have c1 : Closed 0x1 P := c.mono rfl
  have c80000000000000 : Closed 0x80000000000000 P := c.mono rfl
  unfold State.setCellar
  dsimp only
  refine State.putN_keeps c1 ?_
  refine State.putN_keeps c1 ?_
  refine State.putN_keeps c1 ?_
  refine State.putN_keeps c1 ?_
  refine State.putN_keeps c1 ?_
  refine State.putN_keeps c1 ?_
  refine State.putN_keeps c1 ?_
  refine keeps_cel c80000000000000 ?_
  assumption

theorem State.cellarEntry_keeps {P : State → Prop} (c : Closed 0x80000000000001 P) {s : State} {a2 : _} {a3 : _} {a4 : _}
    (h : P s) :
    P (State.cellarEntry s a2 a3 a4) := by
  have c80000000000001 : Closed 0x80000000000001 P := c.mono rfl
  unfold State.cellarEntry
  refine State.setCellar_keeps c80000000000001 ?_
  assumption

theorem State.event_keeps {P : State → Prop} (c : Closed 0x80000000000001 P) {s : State} {a2 : _} {a3 : _} (h : P s) :
    P (State.event s a2 a3) := by
  have c80000000000001 : Closed 0x80000000000001 P := c.mono rfl
  unfold State.event
  refine State.cellarEntry_keeps c80000000000001 ?_
  assumption

theorem State.nearMissCount_keeps {P : State → Prop} (c : Closed 0x8000000000000001 P) {s : State} {a2 : _} {a3 : _}
    (h : P s) :
    P (State.nearMissCount s a2 a3) := by
  have c1 : Closed 0x1 P := c.mono rfl
  have c8000000000000000 : Closed 0x8000000000000000 P := c.mono rfl
  unfold State.nearMissCount
  dsimp only
  refine keeps_nearSecs c8000000000000000 ?_
  refine State.putN_keeps c1 ?_
  refine State.put_keeps c1 ?_
  refine State.bump_keeps c1 ?_
  refine State.bump_keeps c1 ?_
  assumption

theorem State.nearMiss_keeps {P : State → Prop} (c : Closed 0x8080100000000001 P) {s : State} {a2 : _} {a3 : _} (h : P s) :
    P (State.nearMiss s a2 a3) := by
  have c100000000000 : Closed 0x100000000000 P := c.mono rfl
  have c80000000000001 : Closed 0x80000000000001 P := c.mono rfl
  have c8000000000000001 : Closed 0x8000000000000001 P := c.mono rfl
  unfold State.nearMiss
  dsimp only
  refine keeps_then ?_ ?_
  · refine State.grant_keeps c100000000000 ?_
    refine State.grant_keeps c100000000000 ?_
    refine State.nearMissCount_keeps c8000000000000001 ?_
    assumption
  · intro x40
    refine State.event_keeps c80000000000001 ?_
    assumption

theorem State.arrives_keeps {P : State → Prop} (c : Closed 0x8080100000000011 P) {s : State} {a2 : _} {a3 : _} (h : P s) :
    P (State.arrives s a2 a3) := by
  have c10 : Closed 0x10 P := c.mono rfl
  have c100000000000 : Closed 0x100000000000 P := c.mono rfl
  have c8080100000000001 : Closed 0x8080100000000001 P := c.mono rfl
  unfold State.arrives
  refine keeps_ite ?_ ?_
  · refine State.disarm_keeps c10 ?_
    refine State.nearMiss_keeps c8080100000000001 ?_
    assumption
  · refine keeps_ite ?_ ?_
    · refine State.disarm_keeps c10 ?_
      refine State.grant_keeps c100000000000 ?_
      assumption
    · assumption

theorem State.fillLatch_keeps {P : State → Prop} (c : Closed 0x80c0100000000053 P) {s : State} {a2 : _} (h : P s) :
    P (State.fillLatch s a2) := by
  have c1 : Closed 0x1 P := c.mono rfl
  have c2 : Closed 0x2 P := c.mono rfl
  have c40000000000040 : Closed 0x40000000000040 P := c.mono rfl
  have c8080100000000011 : Closed 0x8080100000000011 P := c.mono rfl
  unfold State.fillLatch
  dsimp only
  refine keeps_free_rcv c40000000000040 ?_
  refine State.put_keeps c1 ?_
  refine State.putN_keeps c1 ?_
  refine State.setContent_keeps c2 ?_
  refine State.arrives_keeps c8080100000000011 ?_
  assumption

theorem State.sendAll_keeps {P : State → Prop} (c : Closed 0x20 P) {s : State} {a2 : _} (h : P s) :
    P (State.sendAll s a2) := by
  have c20 : Closed 0x20 P := c.mono rfl
  unfold State.sendAll
  refine keeps_out c20 ?_
  assumption

theorem State.beginCapture_keeps {P : State → Prop} (c : Closed 0x80c0100000000073 P) {s : State} {a2 : _} (h : P s) :
    P (State.beginCapture s a2) := by
  have c1 : Closed 0x1 P := c.mono rfl
  have c10 : Closed 0x10 P := c.mono rfl
  have c20 : Closed 0x20 P := c.mono rfl
  have c40000000000000 : Closed 0x40000000000000 P := c.mono rfl
  have c40000000000040 : Closed 0x40000000000040 P := c.mono rfl
  have c80c0100000000053 : Closed 0x80c0100000000053 P := c.mono rfl
  unfold State.beginCapture
  dsimp only
  refine keeps_foldl ?_ _ ?_
  · intro x40 x41 x42
    refine keeps_ite ?_ ?_
    · refine State.fillLatch_keeps c80c0100000000053 ?_
      refine keeps_free_rcv c40000000000040 ?_
      refine State.arm_keeps c10 ?_
      assumption
    · refine State.putN_keeps c1 ?_
      refine keeps_free_rcv c40000000000040 ?_
      refine State.arm_keeps c10 ?_
      assumption
  · refine State.sendAll_keeps c20 ?_
    refine keeps_rcv c40000000000000 ?_
    assumption

theorem State.drainCore_keeps {P : State → Prop} (c : Closed 0x120000000000041 P) {s : State} {a2 : _} (h : P s) :
    P (State.drainCore s a2) := by
  have c20000000000041 : Closed 0x20000000000041 P := c.mono rfl
  have c100000000000000 : Closed 0x100000000000000 P := c.mono rfl
  unfold State.drainCore
  refine keeps_ite ?_ ?_
  · assumption
  · refine keeps_ite ?_ ?_
    · refine State.upProbe_keeps c100000000000000 ?_
      assumption
    · refine State.ringEvent_keeps c20000000000041 ?_
      refine State.upProbe_keeps c100000000000000 ?_
      assumption

theorem State.newDump_keeps {P : State → Prop} (c : Closed 0xc0000000000000 P) {s : State} {a2 : _} (h : P s) :
    P (State.newDump s a2) := by
  have cc0000000000000 : Closed 0xc0000000000000 P := c.mono rfl
  unfold State.newDump
  dsimp only
  refine keeps_cel_rcv cc0000000000000 ?_
  assumption

theorem State.setHold_keeps {P : State → Prop} (c : Closed 0x1 P) {s : State} {a2 : _} {a3 : _} {a4 : _} (h : P s) :
    P (State.setHold s a2 a3 a4) := by
  have c1 : Closed 0x1 P := c.mono rfl
  unfold State.setHold
  dsimp only
  refine State.put_keeps c1 ?_
  assumption

theorem State.toSteward_keeps {P : State → Prop} (c : Closed 0x20 P) {s : State} {a2 : _} (h : P s) :
    P (State.toSteward s a2) := by
  have c20 : Closed 0x20 P := c.mono rfl
  unfold State.toSteward
  refine keeps_ite ?_ ?_
  · refine State.send_keeps c20 ?_
    assumption
  · assumption

theorem State.enterFault_keeps {P : State → Prop} (c : Closed 0x81e0100000200073 P) {s : State} (h : P s) :
    P (State.enterFault s) := by
  have c1 : Closed 0x1 P := c.mono rfl
  have c10 : Closed 0x10 P := c.mono rfl
  have c20 : Closed 0x20 P := c.mono rfl
  have c40 : Closed 0x40 P := c.mono rfl
  have c200000 : Closed 0x200000 P := c.mono rfl
  have c100000000000 : Closed 0x100000000000 P := c.mono rfl
  have cc0000000000000 : Closed 0xc0000000000000 P := c.mono rfl
  have c120000000000041 : Closed 0x120000000000041 P := c.mono rfl
  have c80c0100000000073 : Closed 0x80c0100000000073 P := c.mono rfl
  unfold State.enterFault
  dsimp only
  refine keeps_ite ?_ ?_
  · assumption
  · refine keeps_else ?_ ?_
    · refine keeps_free c40 ?_
      refine State.newDump_keeps cc0000000000000 ?_
      refine State.beginCapture_keeps c80c0100000000073 ?_
      refine keeps_then ?_ ?_
      · refine keeps_then ?_ ?_
        · refine State.toSteward_keeps c20 ?_
          refine keeps_foldl ?_ _ ?_
          · intro x120 x121 x122
            refine State.drainCore_keeps c120000000000041 ?_
            assumption
          · refine keeps_foldl ?_ _ ?_
            · intro x140 x141 x142
              refine State.setHold_keeps c1 ?_
              assumption
            · refine State.put_keeps c1 ?_
              assumption
        · intro x100
          refine keeps_job c200000 ?_
          assumption
      · intro x80
        refine keeps_err c100000000000 ?_
        assumption
    · intro x60
      refine State.arm_keeps c10 ?_
      assumption

theorem State.holdTimers_keeps {P : State → Prop} (c : Closed 0x10 P) {s : State} {a2 : _} (h : P s) :
    P (State.holdTimers s a2) := by
  have c10 : Closed 0x10 P := c.mono rfl
  unfold State.holdTimers
  refine keeps_timers c10 ?_
  assumption

theorem State.capture_keeps {P : State → Prop} (c : Closed 0x100000000001 P) {s : State} {a2 : _} {a3 : _} {a4 : _} {a5 : _}
    {a6 : _} {a7 : _} {a8 : _} (h : P s) :
    P (State.capture s a2 a3 a4 a5 a6 a7 a8) := by
  have c1 : Closed 0x1 P := c.mono rfl
  have c100000000000 : Closed 0x100000000000 P := c.mono rfl
  unfold State.capture
  dsimp only
  refine keeps_ite ?_ ?_
  · split
    · refine State.bump_keeps c1 ?_
      assumption
    · refine keeps_err c100000000000 ?_
      refine State.putN_keeps c1 ?_
      assumption
  · refine State.putN_keeps c1 ?_
    refine keeps_err c100000000000 ?_
    refine State.putN_keeps c1 ?_
    assumption

theorem State.setSticky_keeps {P : State → Prop} (c : Closed 0x1 P) {s : State} {a2 : _} {a3 : _} (h : P s) :
    P (State.setSticky s a2 a3) := by
  have c1 : Closed 0x1 P := c.mono rfl
  unfold State.setSticky
  refine State.put_keeps c1 ?_
  assumption

theorem State.signalIbi_keeps {P : State → Prop} (c : Closed 0x100000000020 P) {s : State} {a2 : _} (h : P s) :
    P (State.signalIbi s a2) := by
  have c20 : Closed 0x20 P := c.mono rfl
  have c100000000000 : Closed 0x100000000000 P := c.mono rfl
  unfold State.signalIbi
  dsimp only
  refine keeps_ite ?_ ?_
  · assumption
  · split
    · refine State.send_keeps c20 ?_
      refine keeps_err c100000000000 ?_
      assumption
    · refine keeps_err c100000000000 ?_
      assumption

theorem State.signalMsix_keeps {P : State → Prop} (c : Closed 0x100000000020 P) {s : State} {a2 : _} (h : P s) :
    P (State.signalMsix s a2) := by
  have c20 : Closed 0x20 P := c.mono rfl
  have c100000000000 : Closed 0x100000000000 P := c.mono rfl
  unfold State.signalMsix
  dsimp only
  refine keeps_ite ?_ ?_
  · refine keeps_err c100000000000 ?_
    assumption
  · refine State.send_keeps c20 ?_
    assumption

theorem State.signalPin_keeps {P : State → Prop} (c : Closed 0x100000000010 P) {s : State} {a2 : _} (h : P s) :
    P (State.signalPin s a2) := by
  have c10 : Closed 0x10 P := c.mono rfl
  have c100000000000 : Closed 0x100000000000 P := c.mono rfl
  unfold State.signalPin
  dsimp only
  refine State.arm_keeps c10 ?_
  refine keeps_err c100000000000 ?_
  assumption

theorem State.signal_keeps {P : State → Prop} (c : Closed 0x100000000030 P) {s : State} {a2 : _} {a3 : _} {a4 : _} {a5 : _}
    (h : P s) :
    P (State.signal s a2 a3 a4 a5) := by
  have c100000000010 : Closed 0x100000000010 P := c.mono rfl
  have c100000000020 : Closed 0x100000000020 P := c.mono rfl
  unfold State.signal
  dsimp only
  refine keeps_then ?_ ?_
  · refine keeps_then ?_ ?_
    · refine keeps_ite ?_ ?_
      · refine State.signalMsix_keeps c100000000020 ?_
        assumption
      · assumption
    · intro x60
      refine State.signalIbi_keeps c100000000020 ?_
      assumption
  · intro x40
    refine State.signalPin_keeps c100000000010 ?_
    assumption

theorem State.firstRaise_keeps {P : State → Prop} (c : Closed 0x100000000071 P) {s : State} {a2 : _} {a3 : _} {a4 : _}
    {a5 : _} {a6 : _} {a7 : _} {a8 : _} {a9 : _} (h : P s) :
    P (State.firstRaise s a2 a3 a4 a5 a6 a7 a8 a9) := by
  have c1 : Closed 0x1 P := c.mono rfl
  have c40 : Closed 0x40 P := c.mono rfl
  have c100000000001 : Closed 0x100000000001 P := c.mono rfl
  have c100000000030 : Closed 0x100000000030 P := c.mono rfl
  unfold State.firstRaise
  dsimp only
  refine keeps_else ?_ ?_
  · refine keeps_then ?_ ?_
    · refine keeps_ite ?_ ?_
      · refine State.bump_keeps c1 ?_
        refine State.setSticky_keeps c1 ?_
        assumption
      · refine State.capture_keeps c100000000001 ?_
        refine State.setSticky_keeps c1 ?_
        assumption
    · intro x60
      refine keeps_free c40 ?_
      assumption
  · intro x40
    refine State.signal_keeps c100000000030 ?_
    assumption

theorem State.raiseInRing_keeps {P : State → Prop} (c : Closed 0x20000000000041 P) {s : State} {a2 : _} {a3 : _} {a4 : _}
    (h : P s) :
    P (State.raiseInRing s a2 a3 a4) := by
  have c1 : Closed 0x1 P := c.mono rfl
  have c20000000000041 : Closed 0x20000000000041 P := c.mono rfl
  unfold State.raiseInRing
  dsimp only
  split
  · assumption
  · refine keeps_then ?_ ?_
    · refine State.ringEvent_keeps c20000000000041 ?_
      assumption
    · intro x60
      refine State.put_keeps c1 ?_
      assumption

theorem State.fresh_keeps {P : State → Prop} (c : Closed 0x40 P) {s : State} (h : P s) :
    P (State.fresh s).2 := by
  have c40 : Closed 0x40 P := c.mono rfl
  unfold State.fresh
  dsimp only
  refine keeps_free c40 ?_
  assumption

theorem State.sourceCycles_keeps {P : State → Prop} (c : Closed 0x40 P) {s : State} {a2 : _} {a3 : _} (h : P s) :
    P (State.sourceCycles s a2 a3).2 := by
  have c40 : Closed 0x40 P := c.mono rfl
  unfold State.sourceCycles
  split
  · dsimp only
    assumption
  · split
    · refine State.fresh_keeps c40 ?_
      assumption
    · dsimp only
      assumption

theorem State.raise0_keeps {P : State → Prop} (c : Closed 0x20100000000071 P) {s : State} {a2 : _} {a3 : _} {a4 : _} {a5 : _}
    (h : P s) :
    P (State.raise0 s a2 a3 a4 a5).1 := by
  have c1 : Closed 0x1 P := c.mono rfl
  have c40 : Closed 0x40 P := c.mono rfl
  have c100000000000 : Closed 0x100000000000 P := c.mono rfl
  have c100000000071 : Closed 0x100000000071 P := c.mono rfl
  have c20000000000041 : Closed 0x20000000000041 P := c.mono rfl
  unfold State.raise0
  dsimp only
  split
  · dsimp only
    assumption
  · split
    · dsimp only
      refine State.bump_keeps c1 ?_
      refine State.bump_keeps c1 ?_
      refine State.grant_keeps c100000000000 ?_
      refine State.sourceCycles_keeps c40 ?_
      assumption
    · split
      · dsimp only
        refine State.bump_keeps c1 ?_
        refine State.setSticky_keeps c1 ?_
        refine State.bump_keeps c1 ?_
        refine State.grant_keeps c100000000000 ?_
        refine State.sourceCycles_keeps c40 ?_
        assumption
      · split
        · dsimp only
          refine State.raiseInRing_keeps c20000000000041 ?_
          refine State.firstRaise_keeps c100000000071 ?_
          refine State.put_keeps c1 ?_
          refine State.bump_keeps c1 ?_
          refine State.grant_keeps c100000000000 ?_
          refine State.sourceCycles_keeps c40 ?_
          assumption
        · split
          · dsimp only
            refine State.bump_keeps c1 ?_
            refine State.bump_keeps c1 ?_
            refine State.grant_keeps c100000000000 ?_
            refine State.raiseInRing_keeps c20000000000041 ?_
            refine State.firstRaise_keeps c100000000071 ?_
            refine State.put_keeps c1 ?_
            refine State.bump_keeps c1 ?_
            refine State.grant_keeps c100000000000 ?_
            refine State.sourceCycles_keeps c40 ?_
            assumption
          · split
            · dsimp only
              refine State.bump_keeps c1 ?_
              refine State.setSticky_keeps c1 ?_
              refine State.bump_keeps c1 ?_
              refine State.grant_keeps c100000000000 ?_
              refine State.raiseInRing_keeps c20000000000041 ?_
              refine State.firstRaise_keeps c100000000071 ?_
              refine State.put_keeps c1 ?_
              refine State.bump_keeps c1 ?_
              refine State.grant_keeps c100000000000 ?_
              refine State.sourceCycles_keeps c40 ?_
              assumption
            · dsimp only
              refine State.firstRaise_keeps c100000000071 ?_
              refine State.put_keeps c1 ?_
              refine State.bump_keeps c1 ?_
              refine State.grant_keeps c100000000000 ?_
              refine State.raiseInRing_keeps c20000000000041 ?_
              refine State.firstRaise_keeps c100000000071 ?_
              refine State.put_keeps c1 ?_
              refine State.bump_keeps c1 ?_
              refine State.grant_keeps c100000000000 ?_
              refine State.sourceCycles_keeps c40 ?_
              assumption

theorem State.enterFreeze_keeps {P : State → Prop} (c : Closed 0x1f0100000000073 P) {s : State} {a2 : _} {a3 : _} {a4 : _}
    {a5 : _} (h : P s) :
    P (State.enterFreeze s a2 a3 a4 a5) := by
  have c1 : Closed 0x1 P := c.mono rfl
  have c2 : Closed 0x2 P := c.mono rfl
  have c10 : Closed 0x10 P := c.mono rfl
  have c20 : Closed 0x20 P := c.mono rfl
  have c40 : Closed 0x40 P := c.mono rfl
  have c10000000000000 : Closed 0x10000000000000 P := c.mono rfl
  have c10000000000040 : Closed 0x10000000000040 P := c.mono rfl
  have c20000000000041 : Closed 0x20000000000041 P := c.mono rfl
  have c20100000000071 : Closed 0x20100000000071 P := c.mono rfl
  have cc0000000000000 : Closed 0xc0000000000000 P := c.mono rfl
  have c100000000000000 : Closed 0x100000000000000 P := c.mono rfl
  unfold State.enterFreeze
  dsimp only
  refine State.toSteward_keeps c20 ?_
  refine keeps_then ?_ ?_
  · refine keeps_then ?_ ?_
    · refine keeps_then ?_ ?_
      · refine State.raise0_keeps c20100000000071 ?_
        refine keeps_then ?_ ?_
        · refine State.send_keeps c20 ?_
          refine State.setContent_keeps c2 ?_
          refine State.bump_keeps c1 ?_
          refine State.put_keeps c1 ?_
          refine State.holdTimers_keeps c10 ?_
          refine keeps_foldl ?_ _ ?_
          · intro x120 x121 x122
            refine keeps_ite ?_ ?_
            · refine State.setHold_keeps c1 ?_
              assumption
            · assumption
          · refine keeps_foldl ?_ _ ?_
            · intro x140 x141 x142
              refine State.ringEvent_keeps c20000000000041 ?_
              refine State.putN_keeps c1 ?_
              refine State.setProbe_keeps c100000000000000 ?_
              assumption
            · refine keeps_free_frz c10000000000040 ?_
              assumption
        · intro x100
          refine State.send_keeps c20 ?_
          assumption
      · intro x80
        refine keeps_foldl ?_ _ ?_
        · intro x100 x101 x102
          refine State.putN_keeps c1 ?_
          refine State.putN_keeps c1 ?_
          refine keeps_free c40 ?_
          assumption
        · assumption
    · intro x60
      refine State.arm_keeps c10 ?_
      refine State.sendAll_keeps c20 ?_
      assumption
  · intro x40
    refine keeps_frz c10000000000000 ?_
    refine State.newDump_keeps cc0000000000000 ?_
    assumption

theorem State.toWorkers_keeps {P : State → Prop} (c : Closed 0x20 P) {s : State} {a2 : _} (h : P s) :
    P (State.toWorkers s a2) := by
  have c20 : Closed 0x20 P := c.mono rfl
  unfold State.toWorkers
  refine State.sendAll_keeps c20 ?_
  assumption

theorem State.freezeTrigger_keeps {P : State → Prop} (c : Closed 0x1f0100000000073 P) {s : State} {a2 : _} {a3 : _} {a4 : _}
    {a5 : _} (h : P s) :
    P (State.freezeTrigger s a2 a3 a4 a5) := by
  have c1 : Closed 0x1 P := c.mono rfl
  have c10 : Closed 0x10 P := c.mono rfl
  have c20 : Closed 0x20 P := c.mono rfl
  have c10000000000000 : Closed 0x10000000000000 P := c.mono rfl
  have c1f0100000000073 : Closed 0x1f0100000000073 P := c.mono rfl
  unfold State.freezeTrigger
  dsimp only
  refine keeps_ite ?_ ?_
  · refine keeps_frz c10000000000000 ?_
    refine State.bump_keeps c1 ?_
    assumption
  · refine keeps_else ?_ ?_
    · refine State.enterFreeze_keeps c1f0100000000073 ?_
      assumption
    · intro x60
      refine keeps_ite ?_ ?_
      · refine keeps_ite ?_ ?_
        · refine State.toWorkers_keeps c20 ?_
          assumption
        · refine State.toSteward_keeps c20 ?_
          assumption
      · refine keeps_ite ?_ ?_
        · refine State.armAt_keeps c10 ?_
          refine State.put_keeps c1 ?_
          refine State.toWorkers_keeps c20 ?_
          assumption
        · refine State.toSteward_keeps c20 ?_
          assumption

theorem State.raiseWith_keeps {P : State → Prop} (c : Closed 0x81f0100000200073 P) {s : State} {a2 : _} {a3 : _} {a4 : _}
    {a5 : _} (h : P s) :
    P (State.raiseWith s a2 a3 a4 a5) := by
  have c20100000000071 : Closed 0x20100000000071 P := c.mono rfl
  have c1f0100000000073 : Closed 0x1f0100000000073 P := c.mono rfl
  have c81e0100000200073 : Closed 0x81e0100000200073 P := c.mono rfl
  unfold State.raiseWith
  dsimp only
  refine keeps_then ?_ ?_
  · refine keeps_then ?_ ?_
    · refine State.raise0_keeps c20100000000071 ?_
      assumption
    · intro x60
      refine State.freezeTrigger_keeps c1f0100000000073 ?_
      assumption
  · intro x40
    refine State.enterFault_keeps c81e0100000200073 ?_
    assumption

theorem State.raiseRecord_keeps {P : State → Prop} (c : Closed 0x81f0100000200073 P) {s : State} {a2 : _} {a3 : _} {a4 : _}
    {a5 : _} {a6 : _} (h : P s) :
    P (State.raiseRecord s a2 a3 a4 a5 a6) := by
  have c2 : Closed 0x2 P := c.mono rfl
  have c81f0100000200073 : Closed 0x81f0100000200073 P := c.mono rfl
  unfold State.raiseRecord
  dsimp only
  refine keeps_then ?_ ?_
  · refine State.raiseWith_keeps c81f0100000200073 ?_
    assumption
  · intro x40
    refine State.setContent_keeps c2 ?_
    assumption

theorem State.setDom_keeps {P : State → Prop} (c : Closed 0x2000 P) {s : State} {a2 : _} {a3 : _} (h : P s) :
    P (State.setDom s a2 a3) := by
  exact c .doms_ rfl _ _ _  h

theorem State.upDom_keeps {P : State → Prop} (c : Closed 0x2000 P) {s : State} {a2 : _} {a3 : _} (h : P s) :
    P (State.upDom s a2 a3) := by
  have c2000 : Closed 0x2000 P := c.mono rfl
  unfold State.upDom
  refine State.setDom_keeps c2000 ?_
  assumption

theorem State.upStep_keeps {P : State → Prop} (c : Closed 0x2000 P) {s : State} {a2 : _} {a3 : _} {a4 : _} (h : P s) :
    P (State.upStep s a2 a3 a4) := by
  have c2000 : Closed 0x2000 P := c.mono rfl
  unfold State.upStep
  refine State.upDom_keeps c2000 ?_
  assumption

theorem State.consume_keeps {P : State → Prop} (c : Closed 0x81f0100000202073 P) {s : State} {a2 : _} {a3 : _} {a4 : _}
    {a5 : _} {a6 : _} {a7 : _} {a8 : _} (h : P s) :
    P (State.consume s a2 a3 a4 a5 a6 a7 a8) := by
  have c1 : Closed 0x1 P := c.mono rfl
  have c20 : Closed 0x20 P := c.mono rfl
  have c2000 : Closed 0x2000 P := c.mono rfl
  have c81f0100000200073 : Closed 0x81f0100000200073 P := c.mono rfl
  unfold State.consume
  dsimp only
  refine keeps_else ?_ ?_
  · refine State.bump_keeps c1 ?_
    assumption
  · intro x40
    refine State.raiseRecord_keeps c81f0100000200073 ?_
    refine keeps_else ?_ ?_
    · refine State.upDom_keeps c2000 ?_
      refine State.upStep_keeps c2000 ?_
      assumption
    · intro x60
      refine keeps_else ?_ ?_
      · refine State.putN_keeps c1 ?_
        assumption
      · intro x80
        refine keeps_ite ?_ ?_
        · refine State.toWorkers_keeps c20 ?_
          refine State.upDom_keeps c2000 ?_
          assumption
        · refine State.toSteward_keeps c20 ?_
          assumption

theorem State.poisonWords_keeps {P : State → Prop} (c : Closed 0x2000000021 P) {s : State} {a2 : _} {a3 : _} {a4 : _}
    (h : P s) :
    P (State.poisonWords s a2 a3 a4) := by
  have c1 : Closed 0x1 P := c.mono rfl
  have c20 : Closed 0x20 P := c.mono rfl
  have c2000000000 : Closed 0x2000000000 P := c.mono rfl
  unfold State.poisonWords
  dsimp only
  refine State.send_keeps c20 ?_
  refine State.bumpBy_keeps c1 ?_
  refine State.setSlice_keeps c2000000000 ?_
  assumption

theorem State.disturb_keeps {P : State → Prop} (c : Closed 0x2000 P) {s : State} {a2 : _} {a3 : _} (h : P s) :
    P (State.disturb s a2 a3) := by
  have c2000 : Closed 0x2000 P := c.mono rfl
  unfold State.disturb
  refine State.upStep_keeps c2000 ?_
  assumption

theorem State.disturbCore_keeps {P : State → Prop} (c : Closed 0x2000 P) {s : State} {a2 : _} {a3 : _} (h : P s) :
    P (State.disturbCore s a2 a3) := by
  have c2000 : Closed 0x2000 P := c.mono rfl
  unfold State.disturbCore
  split
  · refine State.disturb_keeps c2000 ?_
    assumption
  · assumption

theorem State.configItem_keeps {P : State → Prop} (c : Closed 0x80000000000001 P) {s : State} {a2 : _} {a3 : _} {a4 : _}
    (h : P s) :
    P (State.configItem s a2 a3 a4) := by
  have c80000000000001 : Closed 0x80000000000001 P := c.mono rfl
  unfold State.configItem
  refine State.setCellar_keeps c80000000000001 ?_
  assumption

theorem State.addEdges_keeps {P : State → Prop} (c : Closed 0x20000000000000 P) {s : State} {a2 : _} {a3 : _} (h : P s) :
    P (State.addEdges s a2 a3) := by
  have c20000000000000 : Closed 0x20000000000000 P := c.mono rfl
  unfold State.addEdges
  dsimp only
  refine keeps_obs c20000000000000 ?_
  assumption

theorem State.addTick_keeps {P : State → Prop} (c : Closed 0x1008 P) {s : State} (h : P s) :
    P (State.addTick s) := by
  have c1008 : Closed 0x1008 P := c.mono rfl
  unfold State.addTick
  dsimp only
  refine keeps_now_tb c1008 ?_
  assumption

theorem State.begin_keeps {P : State → Prop} (c : Closed 0x20 P) {s : State} (h : P s) :
    P (State.begin s) := by
  have c20 : Closed 0x20 P := c.mono rfl
  unfold State.begin
  refine keeps_out c20 ?_
  assumption

theorem State.raise_keeps {P : State → Prop} (c : Closed 0x81f0100000200073 P) {s : State} {a2 : _} {a3 : _} {a4 : _}
    (h : P s) :
    P (State.raise s a2 a3 a4) := by
  have c81f0100000200073 : Closed 0x81f0100000200073 P := c.mono rfl
  unfold State.raise
  refine State.raiseWith_keeps c81f0100000200073 ?_
  assumption

theorem State.isolateCore_keeps {P : State → Prop} (c : Closed 0x120000000000041 P) {s : State} {a2 : _} (h : P s) :
    P (State.isolateCore s a2) := by
  have c20000000000041 : Closed 0x20000000000041 P := c.mono rfl
  have c100000000000000 : Closed 0x100000000000000 P := c.mono rfl
  unfold State.isolateCore
  refine keeps_ite ?_ ?_
  · assumption
  · refine keeps_ite ?_ ?_
    · refine State.upProbe_keeps c100000000000000 ?_
      assumption
    · refine State.ringEvent_keeps c20000000000041 ?_
      refine State.upProbe_keeps c100000000000000 ?_
      assumption

theorem State.disarmAll_keeps {P : State → Prop} (c : Closed 0x10 P) {s : State} {a2 : _} (h : P s) :
    P (State.disarmAll s a2) := by
  have c10 : Closed 0x10 P := c.mono rfl
  unfold State.disarmAll
  refine keeps_timers c10 ?_
  assumption

theorem State.showColophons_keeps {P : State → Prop} (c : Closed 0x2 P) {s : State} {a2 : _} (h : P s) :
    P (State.showColophons s a2) := by
  have c2 : Closed 0x2 P := c.mono rfl
  unfold State.showColophons
  split
  · refine keeps_foldl ?_ _ ?_
    · intro x60 x61 x62
      refine State.setContent_keeps c2 ?_
      assumption
    · assumption
  · assumption

theorem State.storeEntries_keeps {P : State → Prop} (c : Closed 0x2000 P) {s : State} {a2 : _} (h : P s) :
    P (State.storeEntries s a2) := by
  have c2000 : Closed 0x2000 P := c.mono rfl
  unfold State.storeEntries
  refine State.upDom_keeps c2000 ?_
  assumption

theorem State.showLedger_keeps {P : State → Prop} (c : Closed 0x2001 P) {s : State} (h : P s) :
    P (State.showLedger s) := by
  have c1 : Closed 0x1 P := c.mono rfl
  have c2000 : Closed 0x2000 P := c.mono rfl
  unfold State.showLedger
  dsimp only
  refine State.putN_keeps c1 ?_
  refine keeps_foldl ?_ _ ?_
  · intro x40 x41 x42
    refine State.storeEntries_keeps c2000 ?_
    assumption
  · assumption

theorem State.setStatus_keeps {P : State → Prop} (c : Closed 0x4 P) {s : State} {a2 : _} {a3 : _} (h : P s) :
    P (State.setStatus s a2 a3) := by
  exact c .stat_ rfl _ _ _  h

theorem State.endWrite_keeps {P : State → Prop} (c : Closed 0x4 P) {s : State} {a2 : _} {a3 : _} {a4 : _} (h : P s) :
    P (State.endWrite s a2 a3 a4) := by
  have c4 : Closed 0x4 P := c.mono rfl
  unfold State.endWrite
  dsimp only
  refine State.setStatus_keeps c4 ?_
  assumption

theorem State.countStage_keeps {P : State → Prop} (c : Closed 0x200000000000 P) {s : State} {a2 : _} (h : P s) :
    P (State.countStage s a2) := by
  have c200000000000 : Closed 0x200000000000 P := c.mono rfl
  unfold State.countStage
  dsimp only
  refine keeps_bring c200000000000 ?_
  assumption

theorem State.writeStage_keeps {P : State → Prop} (c : Closed 0x80000000000003 P) {s : State} {a2 : _} {a3 : _} {a4 : _}
    (h : P s) :
    P (State.writeStage s a2 a3 a4) := by
  have c2 : Closed 0x2 P := c.mono rfl
  have c80000000000001 : Closed 0x80000000000001 P := c.mono rfl
  unfold State.writeStage
  dsimp only
  refine State.setContent_keeps c2 ?_
  refine State.event_keeps c80000000000001 ?_
  assumption

theorem State.sendAdp_keeps {P : State → Prop} (c : Closed 0x100000000020 P) {s : State} {a2 : _} {a3 : _} {a4 : _} {a5 : _}
    {a6 : _} (h : P s) :
    P (State.sendAdp s a2 a3 a4 a5 a6) := by
  have c20 : Closed 0x20 P := c.mono rfl
  have c100000000020 : Closed 0x100000000020 P := c.mono rfl
  unfold State.sendAdp
  dsimp only
  refine keeps_then ?_ ?_
  · refine State.send_keeps c20 ?_
    assumption
  · intro x40
    refine keeps_ite ?_ ?_
    · refine State.signalIbi_keeps c100000000020 ?_
      assumption
    · assumption

theorem State.writeResponse_keeps {P : State → Prop} (c : Closed 0x100000000020 P) {s : State} {a2 : _} {a3 : _} {a4 : _}
    {a5 : _} {a6 : _} {a7 : _} {a8 : _} {a9 : _} (h : P s) :
    P (State.writeResponse s a2 a3 a4 a5 a6 a7 a8 a9) := by
  have c100000000020 : Closed 0x100000000020 P := c.mono rfl
  unfold State.writeResponse
  dsimp only
  refine State.sendAdp_keeps c100000000020 ?_
  assumption

theorem State.answerWait_keeps {P : State → Prop} (c : Closed 0x100000000430 P) {s : State} {a2 : _} (h : P s) :
    P (State.answerWait s a2) := by
  have c10 : Closed 0x10 P := c.mono rfl
  have c400 : Closed 0x400 P := c.mono rfl
  have c100000000020 : Closed 0x100000000020 P := c.mono rfl
  unfold State.answerWait
  dsimp only
  refine State.writeResponse_keeps c100000000020 ?_
  refine keeps_adp c400 ?_
  refine State.disarm_keeps c10 ?_
  assumption

theorem State.answerWaits_keeps {P : State → Prop} (c : Closed 0x100000000430 P) {s : State} (h : P s) :
    P (State.answerWaits s) := by
  have c100000000430 : Closed 0x100000000430 P := c.mono rfl
  unfold State.answerWaits
  refine keeps_foldl ?_ _ ?_
  · intro x40 x41 x42
    refine State.answerWait_keeps c100000000430 ?_
    assumption
  · assumption

theorem State.applyAsked_keeps {P : State → Prop} (c : Closed 0x120000000000041 P) {s : State} {a2 : _} (h : P s) :
    P (State.applyAsked s a2) := by
  have c100000000000000 : Closed 0x100000000000000 P := c.mono rfl
  have c120000000000041 : Closed 0x120000000000041 P := c.mono rfl
  unfold State.applyAsked
  dsimp only
  refine keeps_then ?_ ?_
  · refine keeps_then ?_ ?_
    · refine State.upProbe_keeps c100000000000000 ?_
      assumption
    · intro x60
      refine State.isolateCore_keeps c120000000000041 ?_
      assumption
  · intro x40
    refine State.drainCore_keeps c120000000000041 ?_
    assumption

theorem State.zeroCycles_keeps {P : State → Prop} (c : Closed 0x20000000001000 P) {s : State} {a2 : _} (h : P s) :
    P (State.zeroCycles s a2) := by
  have c20000000001000 : Closed 0x20000000001000 P := c.mono rfl
  unfold State.zeroCycles
  dsimp only
  refine keeps_obs_tb c20000000001000 ?_
  assumption

theorem State.dropStageTimers_keeps {P : State → Prop} (c : Closed 0x10 P) {s : State} (h : P s) :
    P (State.dropStageTimers s) := by
  have c10 : Closed 0x10 P := c.mono rfl
  unfold State.dropStageTimers
  refine State.disarmAll_keeps c10 ?_
  assumption

theorem State.bringupFault_keeps {P : State → Prop} (c : Closed 0x80000000000013 P) {s : State} (h : P s) :
    P (State.bringupFault s) := by
  have c1 : Closed 0x1 P := c.mono rfl
  have c10 : Closed 0x10 P := c.mono rfl
  have c80000000000003 : Closed 0x80000000000003 P := c.mono rfl
  unfold State.bringupFault
  dsimp only
  refine keeps_ite ?_ ?_
  · refine State.dropStageTimers_keeps c10 ?_
    refine State.putN_keeps c1 ?_
    refine State.writeStage_keeps c80000000000003 ?_
    assumption
  · assumption

theorem State.clearPoison_keeps {P : State → Prop} (c : Closed 0x2000000000 P) {s : State} {a2 : _} {a3 : _} {a4 : _}
    (h : P s) :
    P (State.clearPoison s a2 a3 a4) := by
  have c2000000000 : Closed 0x2000000000 P := c.mono rfl
  unfold State.clearPoison
  dsimp only
  refine keeps_ite ?_ ?_
  · assumption
  · refine State.setSlice_keeps c2000000000 ?_
    assumption

theorem State.spill_keeps {P : State → Prop} (c : Closed 0x81f0100000202073 P) {s : State} {a2 : _} {a3 : _} (h : P s) :
    P (State.spill s a2 a3) := by
  have c1 : Closed 0x1 P := c.mono rfl
  have c20 : Closed 0x20 P := c.mono rfl
  have c81f0100000202073 : Closed 0x81f0100000202073 P := c.mono rfl
  unfold State.spill
  refine keeps_ite ?_ ?_
  · refine State.consume_keeps c81f0100000202073 ?_
    assumption
  · refine State.send_keeps c20 ?_
    refine State.bump_keeps c1 ?_
    assumption

theorem State.flushSpills_keeps {P : State → Prop} (c : Closed 0x81f0100000202073 P) {s : State} {a2 : _} (h : P s) :
    P (State.flushSpills s a2) := by
  have c2000 : Closed 0x2000 P := c.mono rfl
  have c81f0100000202073 : Closed 0x81f0100000202073 P := c.mono rfl
  unfold State.flushSpills
  dsimp only
  refine keeps_foldl ?_ _ ?_
  · intro x40 x41 x42
    refine State.spill_keeps c81f0100000202073 ?_
    assumption
  · refine State.setDom_keeps c2000 ?_
    assumption

theorem State.upCore_keeps {P : State → Prop} (c : Closed 0x2000 P) {s : State} {a2 : _} {a3 : _} {a4 : _} {a5 : _} (h : P s) :
    P (State.upCore s a2 a3 a4 a5) := by
  have c2000 : Closed 0x2000 P := c.mono rfl
  unfold State.upCore
  refine State.upStep_keeps c2000 ?_
  assumption

theorem State.openGates_keeps {P : State → Prop} (c : Closed 0x20000000002041 P) {s : State} {a2 : _} (h : P s) :
    P (State.openGates s a2) := by
  have c2000 : Closed 0x2000 P := c.mono rfl
  have c20000000000041 : Closed 0x20000000000041 P := c.mono rfl
  unfold State.openGates
  dsimp only
  refine keeps_foldl ?_ _ ?_
  · intro x40 x41 x42
    refine State.ringEvent_keeps c20000000000041 ?_
    refine State.upCore_keeps c2000 ?_
    assumption
  · assumption

theorem State.release_keeps {P : State → Prop} (c : Closed 0x20000000002061 P) {s : State} {a2 : _} {a3 : _} (h : P s) :
    P (State.release s a2 a3) := by
  have c1 : Closed 0x1 P := c.mono rfl
  have c20 : Closed 0x20 P := c.mono rfl
  have c2000 : Closed 0x2000 P := c.mono rfl
  have c20000000002041 : Closed 0x20000000002041 P := c.mono rfl
  unfold State.release
  dsimp only
  refine State.send_keeps c20 ?_
  refine State.openGates_keeps c20000000002041 ?_
  refine State.putN_keeps c1 ?_
  refine State.upDom_keeps c2000 ?_
  refine State.upStep_keeps c2000 ?_
  assumption

theorem State.commitStep_keeps {P : State → Prop} (c : Closed 0x81f0100000302073 P) {s : State} {a2 : _} {a3 : _} {a4 : _}
    (h : P s) :
    P (State.commitStep s a2 a3 a4) := by
  have c1 : Closed 0x1 P := c.mono rfl
  have c2 : Closed 0x2 P := c.mono rfl
  have c10 : Closed 0x10 P := c.mono rfl
  have c2000 : Closed 0x2000 P := c.mono rfl
  have c2001 : Closed 0x2001 P := c.mono rfl
  have c100000 : Closed 0x100000 P := c.mono rfl
  have c20000000002061 : Closed 0x20000000002061 P := c.mono rfl
  have c81f0100000202073 : Closed 0x81f0100000202073 P := c.mono rfl
  unfold State.commitStep
  dsimp only
  refine State.flushSpills_keeps c81f0100000202073 ?_
  refine State.showColophons_keeps c2 ?_
  refine State.showLedger_keeps c2001 ?_
  split
  · refine keeps_then ?_ ?_
    · refine State.putN_keeps c1 ?_
      split
      · refine keeps_then ?_ ?_
        · refine State.setContent_keeps c2 ?_
          refine keeps_then ?_ ?_
          · refine State.putN_keeps c1 ?_
            refine State.upDom_keeps c2000 ?_
            refine State.upStep_keeps c2000 ?_
            assumption
          · intro x120
            refine State.bump_keeps c1 ?_
            assumption
        · intro x100
          refine State.release_keeps c20000000002061 ?_
          assumption
      · refine keeps_then ?_ ?_
        · refine State.putN_keeps c1 ?_
          refine State.upDom_keeps c2000 ?_
          refine State.upStep_keeps c2000 ?_
          assumption
        · intro x100
          refine State.bump_keeps c1 ?_
          assumption
    · intro x60
      refine keeps_regen c100000 ?_
      refine State.disarm_keeps c10 ?_
      refine State.putN_keeps c1 ?_
      assumption
  · refine State.putN_keeps c1 ?_
    split
    · refine keeps_then ?_ ?_
      · refine State.setContent_keeps c2 ?_
        refine keeps_then ?_ ?_
        · refine State.putN_keeps c1 ?_
          refine State.upDom_keeps c2000 ?_
          refine State.upStep_keeps c2000 ?_
          assumption
        · intro x100
          refine State.bump_keeps c1 ?_
          assumption
      · intro x80
        refine State.release_keeps c20000000002061 ?_
        assumption
    · refine keeps_then ?_ ?_
      · refine State.putN_keeps c1 ?_
        refine State.upDom_keeps c2000 ?_
        refine State.upStep_keeps c2000 ?_
        assumption
      · intro x80
        refine State.bump_keeps c1 ?_
        assumption

theorem State.commitAll_keeps {P : State → Prop} (c : Closed 0x81f0100000302073 P) {s : State} {a2 : _} {a3 : _} (h : P s) :
    P (State.commitAll s a2 a3) := by
  induction a3 generalizing s with
  | zero => exact h
  | succ n ih =>
    unfold State.commitAll
    split
    · exact ih (State.commitStep_keeps (c.mono rfl) h)
    · exact h

theorem State.commitRecord_keeps {P : State → Prop} (c : Closed 0x80000000000003 P) {s : State} {a2 : _} (h : P s) :
    P (State.commitRecord s a2) := by
  have c2 : Closed 0x2 P := c.mono rfl
  have c80000000000001 : Closed 0x80000000000001 P := c.mono rfl
  unfold State.commitRecord
  dsimp only
  refine State.setContent_keeps c2 ?_
  refine State.setContent_keeps c2 ?_
  refine State.cellarEntry_keeps c80000000000001 ?_
  assumption

theorem State.openStep_keeps {P : State → Prop} (c : Closed 0x2000 P) {s : State} {a2 : _} (h : P s) :
    P (State.openStep s a2) := by
  have c2000 : Closed 0x2000 P := c.mono rfl
  unfold State.openStep
  dsimp only
  refine State.setDom_keeps c2000 ?_
  assumption

theorem State.setPc_keeps {P : State → Prop} (c : Closed 0x200000000000000 P) {s : State} {a2 : _} {a3 : _} (h : P s) :
    P (State.setPc s a2 a3) := by
  exact c .pcs_ rfl _ _ _  h

theorem State.ringEvents_keeps {P : State → Prop} (c : Closed 0x20000000000041 P) {s : State} {a2 : _} {a3 : _} {a4 : _}
    {a5 : _} {a6 : _} (h : P s) :
    P (State.ringEvents s a2 a3 a4 a5 a6) := by
  have c20000000000041 : Closed 0x20000000000041 P := c.mono rfl
  unfold State.ringEvents
  refine keeps_foldl ?_ _ ?_
  · intro x40 x41 x42
    refine State.ringEvent_keeps c20000000000041 ?_
    assumption
  · assumption

theorem State.resumeTimers_keeps {P : State → Prop} (c : Closed 0x10 P) {s : State} {a2 : _} (h : P s) :
    P (State.resumeTimers s a2) := by
  have c10 : Closed 0x10 P := c.mono rfl
  unfold State.resumeTimers
  refine keeps_timers c10 ?_
  assumption

theorem State.expire_keeps {P : State → Prop} (c : Closed 0x100000000010 P) {s : State} {a2 : _} (h : P s) :
    P (State.expire s a2) := by
  have c10 : Closed 0x10 P := c.mono rfl
  have c100000000000 : Closed 0x100000000000 P := c.mono rfl
  unfold State.expire
  refine keeps_ite ?_ ?_
  · refine State.disarm_keeps c10 ?_
    refine State.grant_keeps c100000000000 ?_
    assumption
  · assumption

theorem State.failStage_keeps {P : State → Prop} (c : Closed 0x81f0100000200073 P) {s : State} {a2 : _} (h : P s) :
    P (State.failStage s a2) := by
  have c1 : Closed 0x1 P := c.mono rfl
  have c10 : Closed 0x10 P := c.mono rfl
  have c80000000000003 : Closed 0x80000000000003 P := c.mono rfl
  have c100000000000000 : Closed 0x100000000000000 P := c.mono rfl
  have c120000000000041 : Closed 0x120000000000041 P := c.mono rfl
  have c81f0100000200073 : Closed 0x81f0100000200073 P := c.mono rfl
  unfold State.failStage
  dsimp only
  refine State.raise_keeps c81f0100000200073 ?_
  refine keeps_foldl ?_ _ ?_
  · intro x40 x41 x42
    refine keeps_ite ?_ ?_
    · refine State.putN_keeps c1 ?_
      assumption
    · assumption
  · refine keeps_foldl ?_ _ ?_
    · intro x60 x61 x62
      refine State.upProbe_keeps c100000000000000 ?_
      refine State.isolateCore_keeps c120000000000041 ?_
      assumption
    · refine State.putN_keeps c1 ?_
      refine State.dropStageTimers_keeps c10 ?_
      refine State.writeStage_keeps c80000000000003 ?_
      assumption

theorem State.releaseAll_keeps {P : State → Prop} (c : Closed 0x20000000002061 P) {s : State} {a2 : _} {a3 : _} (h : P s) :
    P (State.releaseAll s a2 a3) := by
  have c20000000002061 : Closed 0x20000000002061 P := c.mono rfl
  unfold State.releaseAll
  split
  · assumption
  · split
    · refine State.releaseAll_keeps c20000000002061 ?_
      refine State.release_keeps c20000000002061 ?_
      assumption
    · assumption

theorem State.late_keeps {P : State → Prop} (c : Closed 0x1 P) {s : State} (h : P s) :
    P (State.late s) := by
  have c1 : Closed 0x1 P := c.mono rfl
  unfold State.late
  refine State.bump_keeps c1 ?_
  assumption

theorem State.takeCapture_keeps {P : State → Prop} (c : Closed 0x100000000011 P) {s : State} (h : P s) :
    P (State.takeCapture s) := by
  have c1 : Closed 0x1 P := c.mono rfl
  have c10 : Closed 0x10 P := c.mono rfl
  have c100000000000 : Closed 0x100000000000 P := c.mono rfl
  unfold State.takeCapture
  dsimp only
  refine keeps_ite ?_ ?_
  · assumption
  · split
    · refine State.arm_keeps c10 ?_
      refine State.putN_keeps c1 ?_
      refine keeps_err c100000000000 ?_
      assumption
    · split
      · refine State.arm_keeps c10 ?_
        refine keeps_err c100000000000 ?_
        assumption
      · assumption

theorem State.tickLatches_keeps {P : State → Prop} (c : Closed 0x80c0100000000053 P) {s : State} (h : P s) :
    P (State.tickLatches s) := by
  have c1 : Closed 0x1 P := c.mono rfl
  have c40000000000040 : Closed 0x40000000000040 P := c.mono rfl
  have c80c0100000000053 : Closed 0x80c0100000000053 P := c.mono rfl
  unfold State.tickLatches
  dsimp only
  refine State.bumpBy_keeps c1 ?_
  refine keeps_foldl ?_ _ ?_
  · intro x40 x41 x42
    refine State.fillLatch_keeps c80c0100000000053 ?_
    assumption
  · refine keeps_free_rcv c40000000000040 ?_
    assumption

end Sys2Proof.Machine
end

