-- ==== Sys2Proof/Laws/KeepsProofs.lean ====
section
/-! SUPPORT. What each operation keeps (see Laws/Keeps.lean): proofs, screening faults, rollback, the job and the scans. -/

namespace Sys2Proof.Machine

theorem State.setDigest_keeps {P : State → Prop} (c : Closed 0x4000000000 P) {s : State} {a2 : _} {a3 : _} (h : P s) :
    P (State.setDigest s a2 a3) := by
  exact c .digests_ rfl _ _ _  h

theorem State.abandonPass_keeps {P : State → Prop} (c : Closed 0x4000000001 P) {s : State} {a2 : _} {a3 : _} (h : P s) :
    P (State.abandonPass s a2 a3) := by
  have c1 : Closed 0x1 P := c.mono rfl
  have c4000000000 : Closed 0x4000000000 P := c.mono rfl
  unfold State.abandonPass
  dsimp only
  refine State.setDigest_keeps c4000000000 ?_
  split
  · refine State.putN_keeps c1 ?_
    refine State.putN_keeps c1 ?_
    refine State.bump_keeps c1 ?_
    assumption
  · refine keeps_ite ?_ ?_
    · refine State.bump_keeps c1 ?_
      assumption
    · assumption

theorem State.abortScans_keeps {P : State → Prop} (c : Closed 0x4000000001 P) {s : State} {a2 : _} (h : P s) :
    P (State.abortScans s a2) := by
  have c1 : Closed 0x1 P := c.mono rfl
  have c4000000001 : Closed 0x4000000001 P := c.mono rfl
  unfold State.abortScans
  dsimp only
  refine keeps_foldl ?_ _ ?_
  · intro x40 x41 x42
    refine State.putN_keeps c1 ?_
    assumption
  · refine keeps_foldl ?_ _ ?_
    · intro x60 x61 x62
      refine State.abandonPass_keeps c4000000001 ?_
      assumption
    · assumption

theorem State.planChanged_keeps {P : State → Prop} (c : Closed 0x1 P) {s : State} {a2 : _} (h : P s) :
    P (State.planChanged s a2) := by
  have c1 : Closed 0x1 P := c.mono rfl
  unfold State.planChanged
  refine State.bumpBy_keeps c1 ?_
  assumption

theorem State.markUnder_keeps {P : State → Prop} (c : Closed 0x1404000 P) {s : State} {a2 : _} (h : P s) :
    P (State.markUnder s a2) := by
  have c1404000 : Closed 0x1404000 P := c.mono rfl
  unfold State.markUnder
  refine keeps_crosses_proofs_runs c1404000 ?_
  assumption

theorem State.upProbing_keeps {P : State → Prop} (c : Closed 0x100000000 P) {s : State} {a2 : _} {a3 : _} (h : P s) :
    P (State.upProbing s a2 a3) := by
  have c100000000 : Closed 0x100000000 P := c.mono rfl
  unfold State.upProbing
  refine keeps_probings c100000000 ?_
  assumption

theorem State.commandTrim_keeps {P : State → Prop} (c : Closed 0x100000101404030 P) {s : State} {a2 : _} (h : P s) :
    P (State.commandTrim s a2) := by
  have c10 : Closed 0x10 P := c.mono rfl
  have c20 : Closed 0x20 P := c.mono rfl
  have c1404000 : Closed 0x1404000 P := c.mono rfl
  have c100000000 : Closed 0x100000000 P := c.mono rfl
  have c100000000000000 : Closed 0x100000000000000 P := c.mono rfl
  unfold State.commandTrim
  dsimp only
  refine State.arm_keeps c10 ?_
  refine State.send_keeps c20 ?_
  refine keeps_then ?_ ?_
  · split
    · refine State.upProbing_keeps c100000000 ?_
      assumption
    · refine State.upProbe_keeps c100000000000000 ?_
      assumption
  · intro x40
    refine State.markUnder_keeps c1404000 ?_
    assumption

theorem State.placeProof_keeps {P : State → Prop} (c : Closed 0x2020 P) {s : State} {a2 : _} {a3 : _} {a4 : _} {a5 : _}
    (h : P s) :
    P (State.placeProof s a2 a3 a4 a5).1 := by
  have c20 : Closed 0x20 P := c.mono rfl
  have c2000 : Closed 0x2000 P := c.mono rfl
  unfold State.placeProof
  dsimp only
  refine keeps_then ?_ ?_
  · refine State.send_keeps c20 ?_
    assumption
  · intro x40
    refine State.disturbCore_keeps c2000 ?_
    assumption

theorem State.placeRevise_keeps {P : State → Prop} (c : Closed 0x2020 P) {s : State} {a2 : _} {a3 : _} (h : P s) :
    P (State.placeRevise s a2 a3).1 := by
  have c20 : Closed 0x20 P := c.mono rfl
  have c2000 : Closed 0x2000 P := c.mono rfl
  unfold State.placeRevise
  split
  · dsimp only
    refine State.disturbCore_keeps c2000 ?_
    refine State.send_keeps c20 ?_
    assumption
  · dsimp only
    assumption

theorem State.tryPlace_keeps {P : State → Prop} (c : Closed 0x2020 P) {s : State} {a2 : _} (h : P s) :
    P (State.tryPlace s a2).1 := by
  have c2020 : Closed 0x2020 P := c.mono rfl
  unfold State.tryPlace
  dsimp only
  split
  · split
    · dsimp only
      assumption
    · refine State.placeRevise_keeps c2020 ?_
      assumption
  · split
    · dsimp only
      assumption
    · split
      · refine State.placeProof_keeps c2020 ?_
        assumption
      · dsimp only
        assumption

theorem State.placeFrom_keeps {P : State → Prop} (c : Closed 0x6020 P) {s : State} {a2 : _} {a3 : _} (h : P s) :
    P (State.placeFrom s a2 a3) := by
  have c2020 : Closed 0x2020 P := c.mono rfl
  have c4000 : Closed 0x4000 P := c.mono rfl
  have c6020 : Closed 0x6020 P := c.mono rfl
  unfold State.placeFrom
  dsimp only
  split
  · assumption
  · split
    · assumption
    · refine State.placeFrom_keeps c6020 ?_
      refine keeps_proofs c4000 ?_
      refine State.tryPlace_keeps c2020 ?_
      assumption

theorem State.placeWaiting_keeps {P : State → Prop} (c : Closed 0x6020 P) {s : State} (h : P s) :
    P (State.placeWaiting s) := by
  have c6020 : Closed 0x6020 P := c.mono rfl
  unfold State.placeWaiting
  refine State.placeFrom_keeps c6020 ?_
  assumption

theorem State.dropProof_keeps {P : State → Prop} (c : Closed 0x6030 P) {s : State} {a2 : _} (h : P s) :
    P (State.dropProof s a2) := by
  have c10 : Closed 0x10 P := c.mono rfl
  have c4000 : Closed 0x4000 P := c.mono rfl
  have c6020 : Closed 0x6020 P := c.mono rfl
  unfold State.dropProof
  dsimp only
  refine State.placeWaiting_keeps c6020 ?_
  refine keeps_else ?_ ?_
  · refine keeps_proofs c4000 ?_
    assumption
  · intro x40
    refine State.disarm_keeps c10 ?_
    assumption

theorem State.noteLost_keeps {P : State → Prop} (c : Closed 0x200000 P) {s : State} {a2 : _} (h : P s) :
    P (State.noteLost s a2) := by
  have c200000 : Closed 0x200000 P := c.mono rfl
  unfold State.noteLost
  dsimp only
  refine keeps_ite ?_ ?_
  · refine keeps_job c200000 ?_
    assumption
  · assumption

theorem State.armProof_keeps {P : State → Prop} (c : Closed 0x10 P) {s : State} {a2 : _} (h : P s) :
    P (State.armProof s a2) := by
  have c10 : Closed 0x10 P := c.mono rfl
  unfold State.armProof
  refine State.arm_keeps c10 ?_
  assumption

theorem State.addProof_keeps {P : State → Prop} (c : Closed 0x4011 P) {s : State} {a2 : _} (h : P s) :
    P (State.addProof s a2) := by
  have c1 : Closed 0x1 P := c.mono rfl
  have c10 : Closed 0x10 P := c.mono rfl
  have c4000 : Closed 0x4000 P := c.mono rfl
  unfold State.addProof
  dsimp only
  refine State.armProof_keeps c10 ?_
  refine keeps_proofs c4000 ?_
  refine State.bump_keeps c1 ?_
  assumption

theorem State.serveProof_keeps {P : State → Prop} (c : Closed 0x6020 P) {s : State} {a2 : _} {a3 : _} {a4 : _} {a5 : _}
    {a6 : _} (h : P s) :
    P (State.serveProof s a2 a3 a4 a5 a6) := by
  have c4000 : Closed 0x4000 P := c.mono rfl
  have c6020 : Closed 0x6020 P := c.mono rfl
  unfold State.serveProof
  dsimp only
  refine State.placeWaiting_keeps c6020 ?_
  refine keeps_proofs c4000 ?_
  assumption

theorem State.placeRemote_keeps {P : State → Prop} (c : Closed 0x6061 P) {s : State} {a2 : _} {a3 : _} {a4 : _} {a5 : _}
    {a6 : _} (h : P s) :
    P (State.placeRemote s a2 a3 a4 a5 a6) := by
  have c1 : Closed 0x1 P := c.mono rfl
  have c20 : Closed 0x20 P := c.mono rfl
  have c40 : Closed 0x40 P := c.mono rfl
  have c6020 : Closed 0x6020 P := c.mono rfl
  unfold State.placeRemote
  dsimp only
  split
  · refine keeps_ite ?_ ?_
    · refine State.serveProof_keeps c6020 ?_
      refine State.bump_keeps c1 ?_
      refine keeps_free c40 ?_
      assumption
    · refine State.send_keeps c20 ?_
      refine State.bump_keeps c1 ?_
      refine keeps_free c40 ?_
      assumption
  · refine keeps_free c40 ?_
    assumption

theorem State.issueProof_keeps {P : State → Prop} (c : Closed 0x6071 P) {s : State} {a2 : _} {a3 : _} {a4 : _} {a5 : _}
    {a6 : _} {a7 : _} (h : P s) :
    P (State.issueProof s a2 a3 a4 a5 a6 a7) := by
  have c20 : Closed 0x20 P := c.mono rfl
  have c4011 : Closed 0x4011 P := c.mono rfl
  have c6061 : Closed 0x6061 P := c.mono rfl
  unfold State.issueProof
  dsimp only
  refine keeps_ite ?_ ?_
  · refine keeps_ite ?_ ?_
    · refine State.placeRemote_keeps c6061 ?_
      refine State.addProof_keeps c4011 ?_
      assumption
    · refine State.toSteward_keeps c20 ?_
      refine State.addProof_keeps c4011 ?_
      assumption
  · refine State.addProof_keeps c4011 ?_
    assumption

theorem State.priorityProof_keeps {P : State → Prop} (c : Closed 0x2000 P) {s : State} {a2 : _} {a3 : _} (h : P s) :
    P (State.priorityProof s a2 a3) := by
  have c2000 : Closed 0x2000 P := c.mono rfl
  unfold State.priorityProof
  dsimp only
  refine keeps_ite ?_ ?_
  · assumption
  · refine State.setDom_keeps c2000 ?_
    assumption

theorem State.reproof_keeps {P : State → Prop} (c : Closed 0x6071 P) {s : State} {a2 : _} {a3 : _} (h : P s) :
    P (State.reproof s a2 a3) := by
  have c2000 : Closed 0x2000 P := c.mono rfl
  have c6020 : Closed 0x6020 P := c.mono rfl
  have c6071 : Closed 0x6071 P := c.mono rfl
  unfold State.reproof
  dsimp only
  split
  · refine keeps_ite ?_ ?_
    · refine State.placeWaiting_keeps c6020 ?_
      refine State.issueProof_keeps c6071 ?_
      assumption
    · refine State.priorityProof_keeps c2000 ?_
      assumption
  · refine State.priorityProof_keeps c2000 ?_
    assumption

theorem State.unsettledProof_keeps {P : State → Prop} (c : Closed 0x206071 P) {s : State} {a2 : _} (h : P s) :
    P (State.unsettledProof s a2) := by
  have c6030 : Closed 0x6030 P := c.mono rfl
  have c6071 : Closed 0x6071 P := c.mono rfl
  have c200000 : Closed 0x200000 P := c.mono rfl
  unfold State.unsettledProof
  refine State.reproof_keeps c6071 ?_
  refine State.dropProof_keeps c6030 ?_
  refine State.noteLost_keeps c200000 ?_
  assumption

theorem State.endProbe_keeps {P : State → Prop} (c : Closed 0x100000101606071 P) {s : State} {a2 : _} (h : P s) :
    P (State.endProbe s a2) := by
  have c206071 : Closed 0x206071 P := c.mono rfl
  have c100000000 : Closed 0x100000000 P := c.mono rfl
  have c100000101404030 : Closed 0x100000101404030 P := c.mono rfl
  unfold State.endProbe
  dsimp only
  split
  · assumption
  · refine keeps_ite ?_ ?_
    · assumption
    · refine keeps_foldl ?_ _ ?_
      · intro x80 x81 x82
        refine State.unsettledProof_keeps c206071 ?_
        assumption
      · refine State.commandTrim_keeps c100000101404030 ?_
        refine State.upProbing_keeps c100000000 ?_
        assumption

theorem State.setIncarnation_keeps {P : State → Prop} (c : Closed 0x1 P) {s : State} {a2 : _} {a3 : _} (h : P s) :
    P (State.setIncarnation s a2 a3) := by
  have c1 : Closed 0x1 P := c.mono rfl
  unfold State.setIncarnation
  refine State.putN_keeps c1 ?_
  assumption

theorem State.dropArm_keeps {P : State → Prop} (c : Closed 0x11 P) {s : State} {a2 : _} (h : P s) :
    P (State.dropArm s a2) := by
  have c1 : Closed 0x1 P := c.mono rfl
  have c10 : Closed 0x10 P := c.mono rfl
  unfold State.dropArm
  dsimp only
  refine keeps_ite ?_ ?_
  · assumption
  · refine keeps_else ?_ ?_
    · refine State.putN_keeps c1 ?_
      assumption
    · intro x60
      refine State.disarm_keeps c10 ?_
      assumption

theorem State.armDomain_keeps {P : State → Prop} (c : Closed 0x11 P) {s : State} {a2 : _} {a3 : _} (h : P s) :
    P (State.armDomain s a2 a3) := by
  have c1 : Closed 0x1 P := c.mono rfl
  have c10 : Closed 0x10 P := c.mono rfl
  have c11 : Closed 0x11 P := c.mono rfl
  unfold State.armDomain
  dsimp only
  refine keeps_else ?_ ?_
  · refine State.putN_keeps c1 ?_
    refine State.dropArm_keeps c11 ?_
    assumption
  · intro x40
    refine State.armAt_keeps c10 ?_
    assumption

theorem State.settingsDiffer_keeps {P : State → Prop} (c : Closed 0x41 P) {s : State} {a2 : _} (h : P s) :
    P (State.settingsDiffer s a2).2 := by
  have c1 : Closed 0x1 P := c.mono rfl
  have c40 : Closed 0x40 P := c.mono rfl
  unfold State.settingsDiffer
  dsimp only
  split
  · split
    · dsimp only
      refine State.putN_keeps c1 ?_
      refine State.putN_keeps c1 ?_
      refine keeps_free c40 ?_
      assumption
    · dsimp only
      refine keeps_free c40 ?_
      assumption
  · dsimp only
    assumption

theorem State.upJob_keeps {P : State → Prop} (c : Closed 0x200000 P) {s : State} {a2 : _} (h : P s) :
    P (State.upJob s a2) := by
  have c200000 : Closed 0x200000 P := c.mono rfl
  unfold State.upJob
  refine keeps_job c200000 ?_
  assumption

theorem State.stewardArm_keeps {P : State → Prop} (c : Closed 0x201071 P) {s : State} {a2 : _} (h : P s) :
    P (State.stewardArm s a2) := by
  have c1 : Closed 0x1 P := c.mono rfl
  have c10 : Closed 0x10 P := c.mono rfl
  have c11 : Closed 0x11 P := c.mono rfl
  have c20 : Closed 0x20 P := c.mono rfl
  have c41 : Closed 0x41 P := c.mono rfl
  have c1000 : Closed 0x1000 P := c.mono rfl
  have c200000 : Closed 0x200000 P := c.mono rfl
  unfold State.stewardArm
  dsimp only
  refine keeps_ite ?_ ?_
  · assumption
  · refine keeps_else ?_ ?_
    · refine State.settingsDiffer_keeps c41 ?_
      assumption
    · intro x60
      refine keeps_ite ?_ ?_
      · refine keeps_else ?_ ?_
        · refine State.armDomain_keeps c11 ?_
          refine State.toWorkers_keeps c20 ?_
          refine keeps_tb c1000 ?_
          refine State.putN_keeps c1 ?_
          assumption
        · intro x100
          refine State.armAt_keeps c10 ?_
          refine State.upJob_keeps c200000 ?_
          assumption
      · refine keeps_tb c1000 ?_
        refine State.putN_keeps c1 ?_
        assumption

theorem State.foreign_keeps {P : State → Prop} (c : Closed 0x1 P) {s : State} (h : P s) :
    P (State.foreign s) := by
  have c1 : Closed 0x1 P := c.mono rfl
  unfold State.foreign
  refine State.bump_keeps c1 ?_
  assumption

theorem State.setTrim_keeps {P : State → Prop} (c : Closed 0x120000101404071 P) {s : State} {a2 : _} {a3 : _} (h : P s) :
    P (State.setTrim s a2 a3) := by
  have c1 : Closed 0x1 P := c.mono rfl
  have c20000000000041 : Closed 0x20000000000041 P := c.mono rfl
  have c100000101404030 : Closed 0x100000101404030 P := c.mono rfl
  unfold State.setTrim
  dsimp only
  split
  · refine keeps_then ?_ ?_
    · refine State.ringEvent_keeps c20000000000041 ?_
      refine State.putN_keeps c1 ?_
      assumption
    · intro x60
      refine State.commandTrim_keeps c100000101404030 ?_
      assumption
  · refine State.commandTrim_keeps c100000101404030 ?_
    refine State.ringEvent_keeps c20000000000041 ?_
    refine State.putN_keeps c1 ?_
    assumption

theorem State.changeTrim_keeps {P : State → Prop} (c : Closed 0x120000101404071 P) {s : State} {a2 : _} {a3 : _} (h : P s) :
    P (State.changeTrim s a2 a3) := by
  have c100000000000000 : Closed 0x100000000000000 P := c.mono rfl
  have c120000101404071 : Closed 0x120000101404071 P := c.mono rfl
  unfold State.changeTrim
  refine keeps_ite ?_ ?_
  · refine State.setTrim_keeps c120000101404071 ?_
    refine State.upProbe_keeps c100000000000000 ?_
    assumption
  · refine State.upProbe_keeps c100000000000000 ?_
    assumption

theorem State.keepScreen_keeps {P : State → Prop} (c : Closed 0x3 P) {s : State} {a2 : _} (h : P s) :
    P (State.keepScreen s a2) := by
  have c1 : Closed 0x1 P := c.mono rfl
  have c2 : Closed 0x2 P := c.mono rfl
  unfold State.keepScreen
  refine State.put_keeps c1 ?_
  refine State.setContent_keeps c2 ?_
  assumption

theorem State.endRegen_keeps {P : State → Prop} (c : Closed 0x106031 P) {s : State} {a2 : _} (h : P s) :
    P (State.endRegen s a2) := by
  have c1 : Closed 0x1 P := c.mono rfl
  have c10 : Closed 0x10 P := c.mono rfl
  have c6020 : Closed 0x6020 P := c.mono rfl
  have c100000 : Closed 0x100000 P := c.mono rfl
  unfold State.endRegen
  dsimp only
  split
  · refine State.placeWaiting_keeps c6020 ?_
    refine keeps_regen c100000 ?_
    refine State.disarm_keeps c10 ?_
    refine State.putN_keeps c1 ?_
    assumption
  · assumption

theorem State.dropRegenOn_keeps {P : State → Prop} (c : Closed 0x106031 P) {s : State} {a2 : _} (h : P s) :
    P (State.dropRegenOn s a2) := by
  have c106031 : Closed 0x106031 P := c.mono rfl
  unfold State.dropRegenOn
  split
  · refine keeps_ite ?_ ?_
    · refine State.endRegen_keeps c106031 ?_
      assumption
    · assumption
  · assumption

theorem State.issueCross_keeps {P : State → Prop} (c : Closed 0x2030 P) {s : State} {a2 : _} {a3 : _} (h : P s) :
    P (State.issueCross s a2 a3) := by
  have c10 : Closed 0x10 P := c.mono rfl
  have c20 : Closed 0x20 P := c.mono rfl
  have c2000 : Closed 0x2000 P := c.mono rfl
  unfold State.issueCross
  dsimp only
  refine keeps_foldl ?_ _ ?_
  · intro x40 x41 x42
    refine State.arm_keeps c10 ?_
    refine State.disturbCore_keeps c2000 ?_
    refine State.send_keeps c20 ?_
    assumption
  · assumption

theorem State.startPair_keeps {P : State → Prop} (c : Closed 0x3002030 P) {s : State} {a2 : _} {a3 : _} {a4 : _} (h : P s) :
    P (State.startPair s a2 a3 a4) := by
  have c2030 : Closed 0x2030 P := c.mono rfl
  have c3000000 : Closed 0x3000000 P := c.mono rfl
  unfold State.startPair
  dsimp only
  refine State.issueCross_keeps c2030 ?_
  refine keeps_crosses_nextCross c3000000 ?_
  assumption

theorem State.probeRun_keeps {P : State → Prop} (c : Closed 0x3002030 P) {s : State} {a2 : _} (h : P s) :
    P (State.probeRun s a2) := by
  have c3002030 : Closed 0x3002030 P := c.mono rfl
  unfold State.probeRun
  split
  · refine keeps_ite ?_ ?_
    · assumption
    · split
      · refine State.startPair_keeps c3002030 ?_
        assumption
      · assumption
  · assumption

theorem State.endCrosses_keeps {P : State → Prop} (c : Closed 0x3002030 P) {s : State} {a2 : _} {a3 : _} (h : P s) :
    P (State.endCrosses s a2 a3) := by
  have c10 : Closed 0x10 P := c.mono rfl
  have c1000000 : Closed 0x1000000 P := c.mono rfl
  have c3002030 : Closed 0x3002030 P := c.mono rfl
  unfold State.endCrosses
  dsimp only
  refine keeps_foldl ?_ _ ?_
  · intro x40 x41 x42
    refine State.probeRun_keeps c3002030 ?_
    assumption
  · refine keeps_foldl ?_ _ ?_
    · intro x60 x61 x62
      refine keeps_foldl ?_ _ ?_
      · intro x80 x81 x82
        refine State.disarm_keeps c10 ?_
        assumption
      · assumption
    · refine keeps_crosses c1000000 ?_
      assumption

theorem State.endSpecimen_keeps {P : State → Prop} (c : Closed 0x400010 P) {s : State} {a2 : _} (h : P s) :
    P (State.endSpecimen s a2) := by
  have c10 : Closed 0x10 P := c.mono rfl
  have c400000 : Closed 0x400000 P := c.mono rfl
  unfold State.endSpecimen
  refine State.disarm_keeps c10 ?_
  refine keeps_runs c400000 ?_
  assumption

theorem State.endRuns_keeps {P : State → Prop} (c : Closed 0x3402030 P) {s : State} {a2 : _} (h : P s) :
    P (State.endRuns s a2) := by
  have c400010 : Closed 0x400010 P := c.mono rfl
  have c3002030 : Closed 0x3002030 P := c.mono rfl
  unfold State.endRuns
  refine State.endCrosses_keeps c3002030 ?_
  refine State.endSpecimen_keeps c400010 ?_
  assumption

theorem State.loseProof_keeps {P : State → Prop} (c : Closed 0x81f0100000206073 P) {s : State} {a2 : _} (h : P s) :
    P (State.loseProof s a2) := by
  have c1 : Closed 0x1 P := c.mono rfl
  have c6030 : Closed 0x6030 P := c.mono rfl
  have c6071 : Closed 0x6071 P := c.mono rfl
  have c200000 : Closed 0x200000 P := c.mono rfl
  have c81f0100000200073 : Closed 0x81f0100000200073 P := c.mono rfl
  unfold State.loseProof
  dsimp only
  split
  · refine State.dropProof_keeps c6030 ?_
    refine State.raise_keeps c81f0100000200073 ?_
    refine State.bump_keeps c1 ?_
    assumption
  · refine State.reproof_keeps c6071 ?_
    refine State.dropProof_keeps c6030 ?_
    refine State.noteLost_keeps c200000 ?_
    refine State.raise_keeps c81f0100000200073 ?_
    refine State.bump_keeps c1 ?_
    assumption

theorem State.loseProofsOn_keeps {P : State → Prop} (c : Closed 0x81f0100000206073 P) {s : State} {a2 : _} (h : P s) :
    P (State.loseProofsOn s a2) := by
  have c81f0100000206073 : Closed 0x81f0100000206073 P := c.mono rfl
  unfold State.loseProofsOn
  refine keeps_foldl ?_ _ ?_
  · intro x40 x41 x42
    refine State.loseProof_keeps c81f0100000206073 ?_
    assumption
  · assumption

theorem State.moveScans_keeps {P : State → Prop} (c : Closed 0x4000000001 P) {s : State} {a2 : _} (h : P s) :
    P (State.moveScans s a2) := by
  have c4000000001 : Closed 0x4000000001 P := c.mono rfl
  unfold State.moveScans
  dsimp only
  refine keeps_foldl ?_ _ ?_
  · intro x40 x41 x42
    refine State.abandonPass_keeps c4000000001 ?_
    assumption
  · assumption

theorem State.endStart_keeps {P : State → Prop} (c : Closed 0x200010 P) {s : State} (h : P s) :
    P (State.endStart s) := by
  have c10 : Closed 0x10 P := c.mono rfl
  have c200000 : Closed 0x200000 P := c.mono rfl
  unfold State.endStart
  refine State.disarm_keeps c10 ?_
  refine State.upJob_keeps c200000 ?_
  assumption

theorem State.cancelProofs_keeps {P : State → Prop} (c : Closed 0x6030 P) {s : State} {a2 : _} {a3 : _} (h : P s) :
    P (State.cancelProofs s a2 a3) := by
  have c10 : Closed 0x10 P := c.mono rfl
  have c20 : Closed 0x20 P := c.mono rfl
  have c4000 : Closed 0x4000 P := c.mono rfl
  have c6020 : Closed 0x6020 P := c.mono rfl
  unfold State.cancelProofs
  dsimp only
  refine State.placeWaiting_keeps c6020 ?_
  refine keeps_foldl ?_ _ ?_
  · intro x40 x41 x42
    refine State.send_keeps c20 ?_
    refine keeps_ite ?_ ?_
    · assumption
    · refine State.disarm_keeps c10 ?_
      assumption
  · refine keeps_proofs c4000 ?_
    assumption

theorem State.dropChecks_keeps {P : State → Prop} (c : Closed 0xa0010 P) {s : State} {a2 : _} {a3 : _} (h : P s) :
    P (State.dropChecks s a2 a3) := by
  have c10 : Closed 0x10 P := c.mono rfl
  have ca0000 : Closed 0xa0000 P := c.mono rfl
  unfold State.dropChecks
  dsimp only
  refine keeps_oldWork_rows ca0000 ?_
  refine State.disarmAll_keeps c10 ?_
  assumption

theorem State.endHold_keeps {P : State → Prop} (c : Closed 0x2001 P) {s : State} {a2 : _} (h : P s) :
    P (State.endHold s a2) := by
  have c1 : Closed 0x1 P := c.mono rfl
  have c2000 : Closed 0x2000 P := c.mono rfl
  unfold State.endHold
  dsimp only
  split
  · refine State.upDom_keeps c2000 ?_
    refine keeps_ite ?_ ?_
    · refine State.bumpBy_keeps c1 ?_
      assumption
    · assumption
  · assumption

theorem State.flagResults_keeps {P : State → Prop} (c : Closed 0x2 P) {s : State} {a2 : _} {a3 : _} (h : P s) :
    P (State.flagResults s a2 a3) := by
  have c2 : Closed 0x2 P := c.mono rfl
  unfold State.flagResults
  dsimp only
  refine keeps_foldl ?_ _ ?_
  · intro x40 x41 x42
    refine keeps_ite ?_ ?_
    · assumption
    · refine State.setContent_keeps c2 ?_
      assumption
  · assumption

theorem State.rollback_keeps {P : State → Prop} (c : Closed 0x200000003a6033 P) {s : State} {a2 : _} {a3 : _} {a4 : _}
    (h : P s) :
    P (State.rollback s a2 a3 a4) := by
  have c1 : Closed 0x1 P := c.mono rfl
  have c2 : Closed 0x2 P := c.mono rfl
  have c10 : Closed 0x10 P := c.mono rfl
  have c11 : Closed 0x11 P := c.mono rfl
  have c2000 : Closed 0x2000 P := c.mono rfl
  have c2001 : Closed 0x2001 P := c.mono rfl
  have c6030 : Closed 0x6030 P := c.mono rfl
  have ca0010 : Closed 0xa0010 P := c.mono rfl
  have c106031 : Closed 0x106031 P := c.mono rfl
  have c200000 : Closed 0x200000 P := c.mono rfl
  have c20000000000000 : Closed 0x20000000000000 P := c.mono rfl
  unfold State.rollback
  dsimp only
  refine State.showColophons_keeps c2 ?_
  refine State.showLedger_keeps c2001 ?_
  refine keeps_foldl ?_ _ ?_
  · intro x40 x41 x42
    refine State.priorityProof_keeps c2000 ?_
    assumption
  · split
    · refine keeps_then ?_ ?_
      · refine keeps_then ?_ ?_
        · refine keeps_then ?_ ?_
          · refine State.putN_keeps c1 ?_
            split
            · refine State.putN_keeps c1 ?_
              refine State.putN_keeps c1 ?_
              refine keeps_obs c20000000000000 ?_
              refine State.dropArm_keeps c11 ?_
              refine State.upDom_keeps c2000 ?_
              refine State.flagResults_keeps c2 ?_
              refine State.dropChecks_keeps ca0010 ?_
              refine State.cancelProofs_keeps c6030 ?_
              refine State.endHold_keeps c2001 ?_
              refine State.bumpBy_keeps c1 ?_
              refine State.bump_keeps c1 ?_
              refine State.setIncarnation_keeps c1 ?_
              assumption
            · refine State.put_keeps c1 ?_
              refine State.putN_keeps c1 ?_
              refine keeps_obs c20000000000000 ?_
              refine State.dropArm_keeps c11 ?_
              refine State.upDom_keeps c2000 ?_
              refine State.flagResults_keeps c2 ?_
              refine State.dropChecks_keeps ca0010 ?_
              refine State.cancelProofs_keeps c6030 ?_
              refine State.endHold_keeps c2001 ?_
              refine State.bumpBy_keeps c1 ?_
              refine State.bump_keeps c1 ?_
              refine State.setIncarnation_keeps c1 ?_
              assumption
          · intro x120
            refine State.disarmAll_keeps c10 ?_
            refine keeps_job c200000 ?_
            assumption
        · intro x100
          refine State.put_keeps c1 ?_
          assumption
      · intro x80
        refine State.endRegen_keeps c106031 ?_
        assumption
    · refine keeps_then ?_ ?_
      · refine keeps_then ?_ ?_
        · refine State.putN_keeps c1 ?_
          split
          · refine State.putN_keeps c1 ?_
            refine State.putN_keeps c1 ?_
            refine keeps_obs c20000000000000 ?_
            refine State.dropArm_keeps c11 ?_
            refine State.upDom_keeps c2000 ?_
            refine State.flagResults_keeps c2 ?_
            refine State.dropChecks_keeps ca0010 ?_
            refine State.cancelProofs_keeps c6030 ?_
            refine State.endHold_keeps c2001 ?_
            refine State.bumpBy_keeps c1 ?_
            refine State.bump_keeps c1 ?_
            refine State.setIncarnation_keeps c1 ?_
            assumption
          · refine State.put_keeps c1 ?_
            refine State.putN_keeps c1 ?_
            refine keeps_obs c20000000000000 ?_
            refine State.dropArm_keeps c11 ?_
            refine State.upDom_keeps c2000 ?_
            refine State.flagResults_keeps c2 ?_
            refine State.dropChecks_keeps ca0010 ?_
            refine State.cancelProofs_keeps c6030 ?_
            refine State.endHold_keeps c2001 ?_
            refine State.bumpBy_keeps c1 ?_
            refine State.bump_keeps c1 ?_
            refine State.setIncarnation_keeps c1 ?_
            assumption
        · intro x100
          refine State.disarmAll_keeps c10 ?_
          refine keeps_job c200000 ?_
          assumption
      · intro x80
        refine State.put_keeps c1 ?_
        assumption

theorem State.jobRollback_keeps {P : State → Prop} (c : Closed 0x200000003a7073 P) {s : State} {a2 : _} {a3 : _} (h : P s) :
    P (State.jobRollback s a2 a3) := by
  have c1 : Closed 0x1 P := c.mono rfl
  have c20 : Closed 0x20 P := c.mono rfl
  have c200010 : Closed 0x200010 P := c.mono rfl
  have c201071 : Closed 0x201071 P := c.mono rfl
  have c200000003a6033 : Closed 0x200000003a6033 P := c.mono rfl
  unfold State.jobRollback
  dsimp only
  refine State.stewardArm_keeps c201071 ?_
  refine State.rollback_keeps c200000003a6033 ?_
  refine State.toWorkers_keeps c20 ?_
  refine State.endStart_keeps c200010 ?_
  refine State.bump_keeps c1 ?_
  assumption

theorem State.rollbackHere_keeps {P : State → Prop} (c : Closed 0x200000003a6033 P) {s : State} {a2 : _} {a3 : _} (h : P s) :
    P (State.rollbackHere s a2 a3) := by
  have c2000 : Closed 0x2000 P := c.mono rfl
  have c200000003a6033 : Closed 0x200000003a6033 P := c.mono rfl
  unfold State.rollbackHere
  dsimp only
  refine keeps_ite ?_ ?_
  · assumption
  · refine State.upDom_keeps c2000 ?_
    refine State.rollback_keeps c200000003a6033 ?_
    assumption

theorem State.phoryArm_keeps {P : State → Prop} (c : Closed 0x1011 P) {s : State} {a2 : _} (h : P s) :
    P (State.phoryArm s a2) := by
  have c1 : Closed 0x1 P := c.mono rfl
  have c11 : Closed 0x11 P := c.mono rfl
  have c1000 : Closed 0x1000 P := c.mono rfl
  unfold State.phoryArm
  dsimp only
  refine keeps_ite ?_ ?_
  · assumption
  · refine keeps_ite ?_ ?_
    · refine State.armDomain_keeps c11 ?_
      refine keeps_tb c1000 ?_
      refine State.putN_keeps c1 ?_
      assumption
    · refine keeps_tb c1000 ?_
      refine State.putN_keeps c1 ?_
      assumption

theorem State.endNarrow_keeps {P : State → Prop} (c : Closed 0x202003 P) {s : State} {a2 : _} {a3 : _} (h : P s) :
    P (State.endNarrow s a2 a3) := by
  have c1 : Closed 0x1 P := c.mono rfl
  have c2 : Closed 0x2 P := c.mono rfl
  have c2000 : Closed 0x2000 P := c.mono rfl
  have c200000 : Closed 0x200000 P := c.mono rfl
  unfold State.endNarrow
  dsimp only
  split
  · refine State.upJob_keeps c200000 ?_
    refine State.upDom_keeps c2000 ?_
    refine State.putN_keeps c1 ?_
    refine State.putN_keeps c1 ?_
    refine State.setContent_keeps c2 ?_
    assumption
  · assumption

theorem State.supersedeNarrow_keeps {P : State → Prop} (c : Closed 0x202003 P) {s : State} (h : P s) :
    P (State.supersedeNarrow s) := by
  have c202003 : Closed 0x202003 P := c.mono rfl
  unfold State.supersedeNarrow
  split
  · refine keeps_ite ?_ ?_
    · assumption
    · refine State.endNarrow_keeps c202003 ?_
      assumption
  · assumption

theorem State.screen_keeps {P : State → Prop} (c : Closed 0x81f0100000200073 P) {s : State} {a2 : _} {a3 : _} {a4 : _}
    {a5 : _} {a6 : _} (h : P s) :
    P (State.screen s a2 a3 a4 a5 a6) := by
  have c3 : Closed 0x3 P := c.mono rfl
  have c81f0100000200073 : Closed 0x81f0100000200073 P := c.mono rfl
  unfold State.screen
  dsimp only
  refine keeps_then ?_ ?_
  · refine State.raiseWith_keeps c81f0100000200073 ?_
    assumption
  · intro x40
    refine State.keepScreen_keeps c3 ?_
    assumption

theorem State.upDigest_keeps {P : State → Prop} (c : Closed 0x4000000000 P) {s : State} {a2 : _} {a3 : _} (h : P s) :
    P (State.upDigest s a2 a3) := by
  have c4000000000 : Closed 0x4000000000 P := c.mono rfl
  unfold State.upDigest
  refine State.setDigest_keeps c4000000000 ?_
  assumption

theorem State.preempt_keeps {P : State → Prop} (c : Closed 0x4000000041 P) {s : State} {a2 : _} (h : P s) :
    P (State.preempt s a2) := by
  have c1 : Closed 0x1 P := c.mono rfl
  have c40 : Closed 0x40 P := c.mono rfl
  have c4000000000 : Closed 0x4000000000 P := c.mono rfl
  unfold State.preempt
  dsimp only
  split
  · refine State.upDigest_keeps c4000000000 ?_
    refine State.putN_keeps c1 ?_
    refine State.putN_keeps c1 ?_
    refine State.bumpBy_keeps c1 ?_
    refine State.fresh_keeps c40 ?_
    refine State.fresh_keeps c40 ?_
    assumption
  · refine State.putN_keeps c1 ?_
    refine State.putN_keeps c1 ?_
    refine State.bumpBy_keeps c1 ?_
    refine State.fresh_keeps c40 ?_
    refine State.fresh_keeps c40 ?_
    assumption

theorem State.scanDisturbs_keeps {P : State → Prop} (c : Closed 0x2000 P) {s : State} {a2 : _} (h : P s) :
    P (State.scanDisturbs s a2) := by
  have c2000 : Closed 0x2000 P := c.mono rfl
  unfold State.scanDisturbs
  refine State.disturbCore_keeps c2000 ?_
  assumption

theorem State.startPass_keeps {P : State → Prop} (c : Closed 0x4000002021 P) {s : State} {a2 : _} {a3 : _} {a4 : _} (h : P s) :
    P (State.startPass s a2 a3 a4) := by
  have c1 : Closed 0x1 P := c.mono rfl
  have c20 : Closed 0x20 P := c.mono rfl
  have c2000 : Closed 0x2000 P := c.mono rfl
  have c4000000000 : Closed 0x4000000000 P := c.mono rfl
  unfold State.startPass
  dsimp only
  refine State.scanDisturbs_keeps c2000 ?_
  refine State.send_keeps c20 ?_
  refine State.setDigest_keeps c4000000000 ?_
  refine State.putN_keeps c1 ?_
  refine State.putN_keeps c1 ?_
  split
  · refine State.put_keeps c1 ?_
    refine State.put_keeps c1 ?_
    refine State.putN_keeps c1 ?_
    refine State.putN_keeps c1 ?_
    assumption
  · refine State.putN_keeps c1 ?_
    refine State.putN_keeps c1 ?_
    refine State.putN_keeps c1 ?_
    refine State.putN_keeps c1 ?_
    assumption

theorem State.tryPass_keeps {P : State → Prop} (c : Closed 0x4000002061 P) {s : State} {a2 : _} (h : P s) :
    P (State.tryPass s a2) := by
  have c4000000041 : Closed 0x4000000041 P := c.mono rfl
  have c4000002021 : Closed 0x4000002021 P := c.mono rfl
  unfold State.tryPass
  dsimp only
  refine keeps_ite ?_ ?_
  · assumption
  · split
    · refine keeps_ite ?_ ?_
      · assumption
      · split
        · refine State.startPass_keeps c4000002021 ?_
          refine State.preempt_keeps c4000000041 ?_
          assumption
        · refine State.startPass_keeps c4000002021 ?_
          assumption
        · assumption
    · assumption

theorem State.schedulePasses_keeps {P : State → Prop} (c : Closed 0x4000002061 P) {s : State} (h : P s) :
    P (State.schedulePasses s) := by
  have c4000002061 : Closed 0x4000002061 P := c.mono rfl
  unfold State.schedulePasses
  dsimp only
  refine keeps_foldl ?_ _ ?_
  · intro x40 x41 x42
    refine State.tryPass_keeps c4000002061 ?_
    assumption
  · refine keeps_foldl ?_ _ ?_
    · intro x60 x61 x62
      refine State.tryPass_keeps c4000002061 ?_
      assumption
    · assumption

theorem State.rearm_keeps {P : State → Prop} (c : Closed 0x10 P) {s : State} {a2 : _} (h : P s) :
    P (State.rearm s a2) := by
  have c10 : Closed 0x10 P := c.mono rfl
  unfold State.rearm
  refine keeps_foldl ?_ _ ?_
  · intro x40 x41 x42
    refine State.arm_keeps c10 ?_
    assumption
  · assumption

theorem State.served_keeps {P : State → Prop} (c : Closed 0x1 P) {s : State} {a2 : _} (h : P s) :
    P (State.served s a2) := by
  have c1 : Closed 0x1 P := c.mono rfl
  unfold State.served
  split
  · refine State.bump_keeps c1 ?_
    assumption
  · assumption

theorem State.unattributed_keeps {P : State → Prop} (c : Closed 0x200000003a7073 P) {s : State} {a2 : _} (h : P s) :
    P (State.unattributed s a2) := by
  have c202003 : Closed 0x202003 P := c.mono rfl
  have c200000003a7073 : Closed 0x200000003a7073 P := c.mono rfl
  unfold State.unattributed
  refine State.jobRollback_keeps c200000003a7073 ?_
  refine State.endNarrow_keeps c202003 ?_
  assumption

theorem State.narrowOutcome_keeps {P : State → Prop} (c : Closed 0x200000003a7073 P) {s : State} {a2 : _} {a3 : _} (h : P s) :
    P (State.narrowOutcome s a2 a3) := by
  have c200000 : Closed 0x200000 P := c.mono rfl
  have c202003 : Closed 0x202003 P := c.mono rfl
  have c200000003a7073 : Closed 0x200000003a7073 P := c.mono rfl
  unfold State.narrowOutcome
  dsimp only
  split
  · refine keeps_ite ?_ ?_
    · assumption
    · split
      · refine keeps_ite ?_ ?_
        · refine State.unattributed_keeps c200000003a7073 ?_
          refine State.upJob_keeps c200000 ?_
          assumption
        · refine State.jobRollback_keeps c200000003a7073 ?_
          refine State.endNarrow_keeps c202003 ?_
          refine State.upJob_keeps c200000 ?_
          assumption
      · refine State.upJob_keeps c200000 ?_
        assumption
  · assumption

theorem State.jobClearHere_keeps {P : State → Prop} (c : Closed 0x202001 P) {s : State} {a2 : _} {a3 : _} {a4 : _} (h : P s) :
    P (State.jobClearHere s a2 a3 a4) := by
  have c1 : Closed 0x1 P := c.mono rfl
  have c2000 : Closed 0x2000 P := c.mono rfl
  have c200000 : Closed 0x200000 P := c.mono rfl
  unfold State.jobClearHere
  dsimp only
  refine State.upJob_keeps c200000 ?_
  refine State.upStep_keeps c2000 ?_
  split
  · refine keeps_ite ?_ ?_
    · refine State.putN_keeps c1 ?_
      refine State.upJob_keeps c200000 ?_
      assumption
    · assumption
  · assumption

theorem State.keepJobColophon_keeps {P : State → Prop} (c : Closed 0x80000000200003 P) {s : State} {a2 : _} (h : P s) :
    P (State.keepJobColophon s a2) := by
  have c2 : Closed 0x2 P := c.mono rfl
  have c200000 : Closed 0x200000 P := c.mono rfl
  have c80000000000001 : Closed 0x80000000000001 P := c.mono rfl
  unfold State.keepJobColophon
  dsimp only
  refine keeps_ite ?_ ?_
  · refine State.upJob_keeps c200000 ?_
    refine State.setContent_keeps c2 ?_
    assumption
  · refine State.event_keeps c80000000000001 ?_
    refine State.upJob_keeps c200000 ?_
    refine State.setContent_keeps c2 ?_
    assumption

theorem State.recordColophons_keeps {P : State → Prop} (c : Closed 0x80000000200003 P) {s : State} {a2 : _} (h : P s) :
    P (State.recordColophons s a2) := by
  have c200000 : Closed 0x200000 P := c.mono rfl
  have c80000000200003 : Closed 0x80000000200003 P := c.mono rfl
  unfold State.recordColophons
  dsimp only
  split
  · refine keeps_foldl ?_ _ ?_
    · intro x60 x61 x62
      refine State.keepJobColophon_keeps c80000000200003 ?_
      assumption
    · refine State.upJob_keeps c200000 ?_
      assumption
  · assumption

theorem State.declareJobClear_keeps {P : State → Prop} (c : Closed 0x80000000202023 P) {s : State} {a2 : _} {a3 : _}
    (h : P s) :
    P (State.declareJobClear s a2 a3) := by
  have c1 : Closed 0x1 P := c.mono rfl
  have c20 : Closed 0x20 P := c.mono rfl
  have c202001 : Closed 0x202001 P := c.mono rfl
  have c80000000200003 : Closed 0x80000000200003 P := c.mono rfl
  unfold State.declareJobClear
  dsimp only
  split
  · refine keeps_ite ?_ ?_
    · refine State.recordColophons_keeps c80000000200003 ?_
      split
      · refine State.putN_keeps c1 ?_
        refine State.jobClearHere_keeps c202001 ?_
        refine State.toWorkers_keeps c20 ?_
        assumption
      · refine State.jobClearHere_keeps c202001 ?_
        refine State.toWorkers_keeps c20 ?_
        assumption
    · assumption
  · refine keeps_ite ?_ ?_
    · refine State.recordColophons_keeps c80000000200003 ?_
      split
      · refine State.putN_keeps c1 ?_
        refine State.jobClearHere_keeps c202001 ?_
        refine State.toWorkers_keeps c20 ?_
        assumption
      · refine State.jobClearHere_keeps c202001 ?_
        refine State.toWorkers_keeps c20 ?_
        assumption
    · assumption

theorem State.partnerLost_keeps {P : State → Prop} (c : Closed 0x81f0100000202073 P) {s : State} {a2 : _} {a3 : _} (h : P s) :
    P (State.partnerLost s a2 a3) := by
  have c1 : Closed 0x1 P := c.mono rfl
  have c2 : Closed 0x2 P := c.mono rfl
  have c10 : Closed 0x10 P := c.mono rfl
  have c2000 : Closed 0x2000 P := c.mono rfl
  have c200000 : Closed 0x200000 P := c.mono rfl
  have c202003 : Closed 0x202003 P := c.mono rfl
  have c80000000202023 : Closed 0x80000000202023 P := c.mono rfl
  have c81f0100000200073 : Closed 0x81f0100000200073 P := c.mono rfl
  unfold State.partnerLost
  dsimp only
  refine keeps_foldl ?_ _ ?_
  · intro x40 x41 x42
    refine State.declareJobClear_keeps c80000000202023 ?_
    assumption
  · refine State.upDom_keeps c2000 ?_
    refine State.upJob_keeps c200000 ?_
    refine State.raise_keeps c81f0100000200073 ?_
    refine State.disarmAll_keeps c10 ?_
    split
    · refine State.endNarrow_keeps c202003 ?_
      assumption
    · refine State.putN_keeps c1 ?_
      refine State.setContent_keeps c2 ?_
      assumption

theorem State.staleMap_keeps {P : State → Prop} (c : Closed 0x100000000000001 P) {s : State} {a2 : _} (h : P s) :
    P (State.staleMap s a2) := by
  have c1 : Closed 0x1 P := c.mono rfl
  have c100000000000000 : Closed 0x100000000000000 P := c.mono rfl
  unfold State.staleMap
  dsimp only
  refine keeps_ite ?_ ?_
  · refine keeps_then ?_ ?_
    · refine State.upProbe_keeps c100000000000000 ?_
      assumption
    · intro x60
      refine State.put_keeps c1 ?_
      assumption
  · assumption

theorem State.revertTrim_keeps {P : State → Prop} (c : Closed 0x81f0100101604073 P) {s : State} {a2 : _} (h : P s) :
    P (State.revertTrim s a2) := by
  have c1 : Closed 0x1 P := c.mono rfl
  have c100000000000000 : Closed 0x100000000000000 P := c.mono rfl
  have c100000000000001 : Closed 0x100000000000001 P := c.mono rfl
  have c120000101404071 : Closed 0x120000101404071 P := c.mono rfl
  have c81f0100000200073 : Closed 0x81f0100000200073 P := c.mono rfl
  unfold State.revertTrim
  dsimp only
  refine keeps_then ?_ ?_
  · refine State.upProbe_keeps c100000000000000 ?_
    assumption
  · intro x40
    refine State.screen_keeps c81f0100000200073 ?_
    refine State.bump_keeps c1 ?_
    refine State.bump_keeps c1 ?_
    refine State.staleMap_keeps c100000000000001 ?_
    refine State.setTrim_keeps c120000101404071 ?_
    assumption

theorem State.closingProofs_keeps {P : State → Prop} (c : Closed 0x6071 P) {s : State} {a2 : _} {a3 : _} (h : P s) :
    P (State.closingProofs s a2 a3) := by
  have c2000 : Closed 0x2000 P := c.mono rfl
  have c6020 : Closed 0x6020 P := c.mono rfl
  have c6071 : Closed 0x6071 P := c.mono rfl
  unfold State.closingProofs
  dsimp only
  refine keeps_else ?_ ?_
  · refine State.upDom_keeps c2000 ?_
    assumption
  · intro x40
    refine State.placeWaiting_keeps c6020 ?_
    refine keeps_foldl ?_ _ ?_
    · intro x60 x61 x62
      refine State.issueProof_keeps c6071 ?_
      assumption
    · assumption

theorem State.diverge_keeps {P : State → Prop} (c : Closed 0x81f0100000202073 P) {s : State} {a2 : _} {a3 : _} (h : P s) :
    P (State.diverge s a2 a3) := by
  have c1 : Closed 0x1 P := c.mono rfl
  have c2 : Closed 0x2 P := c.mono rfl
  have c20 : Closed 0x20 P := c.mono rfl
  have c2000 : Closed 0x2000 P := c.mono rfl
  have c200000 : Closed 0x200000 P := c.mono rfl
  have c81f0100000200073 : Closed 0x81f0100000200073 P := c.mono rfl
  unfold State.diverge
  dsimp only
  refine State.send_keeps c20 ?_
  refine State.toWorkers_keeps c20 ?_
  refine State.raise_keeps c81f0100000200073 ?_
  refine State.setContent_keeps c2 ?_
  refine State.upDom_keeps c2000 ?_
  refine State.upJob_keeps c200000 ?_
  refine State.putN_keeps c1 ?_
  refine State.bump_keeps c1 ?_
  assumption

theorem State.divergeAgain_keeps {P : State → Prop} (c : Closed 0x202020 P) {s : State} {a2 : _} {a3 : _} (h : P s) :
    P (State.divergeAgain s a2 a3) := by
  have c20 : Closed 0x20 P := c.mono rfl
  have c2000 : Closed 0x2000 P := c.mono rfl
  have c200000 : Closed 0x200000 P := c.mono rfl
  unfold State.divergeAgain
  dsimp only
  refine State.toWorkers_keeps c20 ?_
  refine State.upJob_keeps c200000 ?_
  refine State.upDom_keeps c2000 ?_
  assumption

theorem State.narrowingProof_keeps {P : State → Prop} (c : Closed 0x6031 P) {s : State} {a2 : _} {a3 : _} {a4 : _} (h : P s) :
    P (State.narrowingProof s a2 a3 a4) := by
  have c4011 : Closed 0x4011 P := c.mono rfl
  have c6020 : Closed 0x6020 P := c.mono rfl
  unfold State.narrowingProof
  dsimp only
  refine State.placeWaiting_keeps c6020 ?_
  refine State.addProof_keeps c4011 ?_
  assumption

theorem State.narrowDigests_keeps {P : State → Prop} (c : Closed 0x200000003a7073 P) {s : State} (h : P s) :
    P (State.narrowDigests s) := by
  have c20 : Closed 0x20 P := c.mono rfl
  have c6031 : Closed 0x6031 P := c.mono rfl
  have c200000 : Closed 0x200000 P := c.mono rfl
  have c200000003a7073 : Closed 0x200000003a7073 P := c.mono rfl
  unfold State.narrowDigests
  dsimp only
  split
  · refine keeps_ite ?_ ?_
    · assumption
    · split
      · refine State.narrowingProof_keeps c6031 ?_
        refine State.toWorkers_keeps c20 ?_
        refine State.upJob_keeps c200000 ?_
        assumption
      · refine State.unattributed_keeps c200000003a7073 ?_
        assumption
      · assumption
  · assumption

theorem State.compareStep_keeps {P : State → Prop} (c : Closed 0x81f01000003a7073 P) {s : State} {a2 : _} {a3 : _} (h : P s) :
    P (State.compareStep s a2 a3) := by
  have c1 : Closed 0x1 P := c.mono rfl
  have c2000 : Closed 0x2000 P := c.mono rfl
  have c202003 : Closed 0x202003 P := c.mono rfl
  have c202020 : Closed 0x202020 P := c.mono rfl
  have c200000003a7073 : Closed 0x200000003a7073 P := c.mono rfl
  have c81f0100000200073 : Closed 0x81f0100000200073 P := c.mono rfl
  have c81f0100000202073 : Closed 0x81f0100000202073 P := c.mono rfl
  unfold State.compareStep
  dsimp only
  split
  · refine keeps_ite ?_ ?_
    · assumption
    · refine keeps_ite ?_ ?_
      · split
        · refine keeps_then ?_ ?_
          · refine State.upStep_keeps c2000 ?_
            refine State.bump_keeps c1 ?_
            assumption
          · intro x120
            refine State.raise_keeps c81f0100000200073 ?_
            refine State.bump_keeps c1 ?_
            refine State.endNarrow_keeps c202003 ?_
            assumption
        · refine State.upStep_keeps c2000 ?_
          refine State.bump_keeps c1 ?_
          assumption
      · split
        · refine keeps_ite ?_ ?_
          · refine keeps_ite ?_ ?_
            · refine State.narrowDigests_keeps c200000003a7073 ?_
              refine State.divergeAgain_keeps c202020 ?_
              assumption
            · assumption
          · refine keeps_ite ?_ ?_
            · refine State.diverge_keeps c81f0100000202073 ?_
              assumption
            · assumption
        · refine State.diverge_keeps c81f0100000202073 ?_
          assumption
  · assumption

theorem State.lowerTrim_keeps {P : State → Prop} (c : Closed 0x120000101404071 P) {s : State} {a2 : _} (h : P s) :
    P (State.lowerTrim s a2) := by
  have c100000000000000 : Closed 0x100000000000000 P := c.mono rfl
  have c120000101404071 : Closed 0x120000101404071 P := c.mono rfl
  unfold State.lowerTrim
  dsimp only
  split
  · refine State.setTrim_keeps c120000101404071 ?_
    refine State.upProbe_keeps c100000000000000 ?_
    assumption
  · assumption

theorem State.discardStart_keeps {P : State → Prop} (c : Closed 0x200000003a6033 P) {s : State} {a2 : _} (h : P s) :
    P (State.discardStart s a2) := by
  have c1 : Closed 0x1 P := c.mono rfl
  have c11 : Closed 0x11 P := c.mono rfl
  have c200000003a6033 : Closed 0x200000003a6033 P := c.mono rfl
  unfold State.discardStart
  dsimp only
  refine keeps_ite ?_ ?_
  · refine State.rollback_keeps c200000003a6033 ?_
    refine State.putN_keeps c1 ?_
    assumption
  · refine State.dropArm_keeps c11 ?_
    refine State.putN_keeps c1 ?_
    assumption

theorem State.dispatch_keeps {P : State → Prop} (c : Closed 0x6071 P) {s : State} {a2 : _} {a3 : _} (h : P s) :
    P (State.dispatch s a2 a3) := by
  have c2000 : Closed 0x2000 P := c.mono rfl
  have c6020 : Closed 0x6020 P := c.mono rfl
  have c6071 : Closed 0x6071 P := c.mono rfl
  unfold State.dispatch
  dsimp only
  refine keeps_else ?_ ?_
  · refine State.upDom_keeps c2000 ?_
    refine State.upStep_keeps c2000 ?_
    assumption
  · intro x40
    refine State.placeWaiting_keeps c6020 ?_
    refine keeps_foldl ?_ _ ?_
    · intro x60 x61 x62
      refine State.issueProof_keeps c6071 ?_
      assumption
    · assumption

theorem State.dropProbing_keeps {P : State → Prop} (c : Closed 0x100000011 P) {s : State} {a2 : _} (h : P s) :
    P (State.dropProbing s a2) := by
  have c1 : Closed 0x1 P := c.mono rfl
  have c10 : Closed 0x10 P := c.mono rfl
  have c100000000 : Closed 0x100000000 P := c.mono rfl
  unfold State.dropProbing
  dsimp only
  refine State.disarm_keeps c10 ?_
  refine State.planChanged_keeps c1 ?_
  refine State.putN_keeps c1 ?_
  refine keeps_probings c100000000 ?_
  assumption

theorem State.replayDivergence_keeps {P : State → Prop} (c : Closed 0x200000003a7073 P) {s : State} {a2 : _} (h : P s) :
    P (State.replayDivergence s a2) := by
  have c20 : Closed 0x20 P := c.mono rfl
  have c2000 : Closed 0x2000 P := c.mono rfl
  have c200000 : Closed 0x200000 P := c.mono rfl
  have c200000003a7073 : Closed 0x200000003a7073 P := c.mono rfl
  unfold State.replayDivergence
  dsimp only
  refine State.jobRollback_keeps c200000003a7073 ?_
  split
  · refine State.send_keeps c20 ?_
    refine State.upDom_keeps c2000 ?_
    refine State.upJob_keeps c200000 ?_
    assumption
  · refine State.upDom_keeps c2000 ?_
    refine State.upJob_keeps c200000 ?_
    assumption

theorem State.narrowFetched_keeps {P : State → Prop} (c : Closed 0x200000003a7073 P) {s : State} {a2 : _} {a3 : _} (h : P s) :
    P (State.narrowFetched s a2 a3) := by
  have c20 : Closed 0x20 P := c.mono rfl
  have c200000 : Closed 0x200000 P := c.mono rfl
  have c200000003a7073 : Closed 0x200000003a7073 P := c.mono rfl
  unfold State.narrowFetched
  dsimp only
  split
  · refine keeps_ite ?_ ?_
    · assumption
    · refine keeps_ite ?_ ?_
      · refine State.replayDivergence_keeps c200000003a7073 ?_
        refine State.upJob_keeps c200000 ?_
        assumption
      · refine State.sendAll_keeps c20 ?_
        refine State.upJob_keeps c200000 ?_
        assumption
  · refine keeps_ite ?_ ?_
    · assumption
    · refine keeps_then ?_ ?_
      · refine State.upJob_keeps c200000 ?_
        assumption
      · intro x80
        refine State.replayDivergence_keeps c200000003a7073 ?_
        assumption

theorem State.takeFetch_keeps {P : State → Prop} (c : Closed 0x200000003a7073 P) {s : State} {a2 : _} (h : P s) :
    P (State.takeFetch s a2) := by
  have c200000 : Closed 0x200000 P := c.mono rfl
  have c200000003a7073 : Closed 0x200000003a7073 P := c.mono rfl
  unfold State.takeFetch
  split
  · refine keeps_ite ?_ ?_
    · refine State.upJob_keeps c200000 ?_
      assumption
    · refine State.narrowFetched_keeps c200000003a7073 ?_
      assumption
  · assumption

theorem State.followNarrow_keeps {P : State → Prop} (c : Closed 0x200000003a7073 P) {s : State} (h : P s) :
    P (State.followNarrow s) := by
  have c20 : Closed 0x20 P := c.mono rfl
  have c200000 : Closed 0x200000 P := c.mono rfl
  have c202003 : Closed 0x202003 P := c.mono rfl
  have c200000003a7073 : Closed 0x200000003a7073 P := c.mono rfl
  unfold State.followNarrow
  dsimp only
  split
  · refine keeps_ite ?_ ?_
    · refine State.narrowOutcome_keeps c200000003a7073 ?_
      refine State.upJob_keeps c200000 ?_
      split
      · refine keeps_ite ?_ ?_
        · refine State.supersedeNarrow_keeps c202003 ?_
          assumption
        · refine keeps_ite ?_ ?_
          · assumption
          · refine State.narrowDigests_keeps c200000003a7073 ?_
            refine keeps_foldl ?_ _ ?_
            · intro x140 x141 x142
              refine State.takeFetch_keeps c200000003a7073 ?_
              assumption
            · refine State.upJob_keeps c200000 ?_
              assumption
      · assumption
    · refine State.toSteward_keeps c20 ?_
      refine State.upJob_keeps c200000 ?_
      split
      · refine keeps_ite ?_ ?_
        · refine State.supersedeNarrow_keeps c202003 ?_
          assumption
        · refine keeps_ite ?_ ?_
          · assumption
          · refine State.narrowDigests_keeps c200000003a7073 ?_
            refine keeps_foldl ?_ _ ?_
            · intro x140 x141 x142
              refine State.takeFetch_keeps c200000003a7073 ?_
              assumption
            · refine State.upJob_keeps c200000 ?_
              assumption
      · assumption
  · split
    · refine keeps_ite ?_ ?_
      · refine State.supersedeNarrow_keeps c202003 ?_
        assumption
      · refine keeps_ite ?_ ?_
        · assumption
        · refine State.narrowDigests_keeps c200000003a7073 ?_
          refine keeps_foldl ?_ _ ?_
          · intro x120 x121 x122
            refine State.takeFetch_keeps c200000003a7073 ?_
            assumption
          · refine State.upJob_keeps c200000 ?_
            assumption
    · assumption

theorem State.jobReport_keeps {P : State → Prop} (c : Closed 0x81f01000003a7073 P) {s : State} {a2 : _} {a3 : _} {a4 : _}
    {a5 : _} {a6 : _} (h : P s) :
    P (State.jobReport s a2 a3 a4 a5 a6) := by
  have c10 : Closed 0x10 P := c.mono rfl
  have c200000 : Closed 0x200000 P := c.mono rfl
  have c80000000202023 : Closed 0x80000000202023 P := c.mono rfl
  have c8080100000000011 : Closed 0x8080100000000011 P := c.mono rfl
  have c81f01000003a7073 : Closed 0x81f01000003a7073 P := c.mono rfl
  unfold State.jobReport
  dsimp only
  refine State.declareJobClear_keeps c80000000202023 ?_
  split
  · refine keeps_then ?_ ?_
    · refine keeps_else ?_ ?_
      · split
        · refine State.upJob_keeps c200000 ?_
          assumption
        · assumption
      · intro x80
        refine State.upJob_keeps c200000 ?_
        assumption
    · intro x60
      refine keeps_ite ?_ ?_
      · refine State.arm_keeps c10 ?_
        assumption
      · refine State.compareStep_keeps c81f01000003a7073 ?_
        refine State.arrives_keeps c8080100000000011 ?_
        assumption
  · refine keeps_else ?_ ?_
    · split
      · refine State.upJob_keeps c200000 ?_
        assumption
      · assumption
    · intro x60
      refine State.upJob_keeps c200000 ?_
      assumption

theorem State.passProof_keeps {P : State → Prop} (c : Closed 0x2003 P) {s : State} {a2 : _} (h : P s) :
    P (State.passProof s a2) := by
  have c1 : Closed 0x1 P := c.mono rfl
  have c2 : Closed 0x2 P := c.mono rfl
  have c2000 : Closed 0x2000 P := c.mono rfl
  unfold State.passProof
  dsimp only
  refine State.showColophons_keeps c2 ?_
  split
  · refine State.putN_keeps c1 ?_
    refine State.bump_keeps c1 ?_
    refine State.upDom_keeps c2000 ?_
    refine State.upCore_keeps c2000 ?_
    refine State.bump_keeps c1 ?_
    assumption
  · refine State.upDom_keeps c2000 ?_
    refine State.upCore_keeps c2000 ?_
    refine State.bump_keeps c1 ?_
    assumption

theorem State.startFailed_keeps {P : State → Prop} (c : Closed 0x200000003a7073 P) {s : State} {a2 : _} (h : P s) :
    P (State.startFailed s a2) := by
  have c20 : Closed 0x20 P := c.mono rfl
  have c200010 : Closed 0x200010 P := c.mono rfl
  have c201071 : Closed 0x201071 P := c.mono rfl
  have c200000003a6033 : Closed 0x200000003a6033 P := c.mono rfl
  unfold State.startFailed
  refine State.stewardArm_keeps c201071 ?_
  refine State.discardStart_keeps c200000003a6033 ?_
  refine State.toWorkers_keeps c20 ?_
  refine State.endStart_keeps c200010 ?_
  assumption

end Sys2Proof.Machine
end

