-- ==== Sys2Proof/Laws/KeepsFloor.lean ====
section
/-! SUPPORT. What each operation keeps (see Laws/Keeps.lean): the floor, the suspects, the resets, what follows by itself, and the access checks. -/

namespace Sys2Proof.Machine

theorem State.fillSlice_keeps {P : State → Prop} (c : Closed 0x4000000021 P) {s : State} {a2 : _} (h : P s) :
    P (State.fillSlice s a2) := by
  have c1 : Closed 0x1 P := c.mono rfl
  have c20 : Closed 0x20 P := c.mono rfl
  have c4000000001 : Closed 0x4000000001 P := c.mono rfl
  unfold State.fillSlice
  dsimp only
  refine State.send_keeps c20 ?_
  refine keeps_then ?_ ?_
  · refine State.putN_keeps c1 ?_
    refine State.abortScans_keeps c4000000001 ?_
    assumption
  · intro x40
    refine State.putN_keeps c1 ?_
    assumption

theorem State.setFp_keeps {P : State → Prop} (c : Closed 0x1 P) {s : State} {a2 : _} {a3 : _} (h : P s) :
    P (State.setFp s a2 a3) := by
  have c1 : Closed 0x1 P := c.mono rfl
  unfold State.setFp
  refine State.planChanged_keeps c1 ?_
  refine State.putN_keeps c1 ?_
  assumption

theorem State.showResets_keeps {P : State → Prop} (c : Closed 0x1 P) {s : State} (h : P s) :
    P (State.showResets s) := by
  have c1 : Closed 0x1 P := c.mono rfl
  unfold State.showResets
  dsimp only
  refine State.putN_keeps c1 ?_
  assumption

theorem State.addReset_keeps {P : State → Prop} (c : Closed 0x40000000000041 P) {s : State} {a2 : _} (h : P s) :
    P (State.addReset s a2) := by
  have c1 : Closed 0x1 P := c.mono rfl
  have c40000000000040 : Closed 0x40000000000040 P := c.mono rfl
  unfold State.addReset
  dsimp only
  refine State.showResets_keeps c1 ?_
  refine keeps_free_rcv c40000000000040 ?_
  assumption

theorem State.countFence_keeps {P : State → Prop} (c : Closed 0x20000000000 P) {s : State} {a2 : _} {a3 : _} (h : P s) :
    P (State.countFence s a2 a3) := by
  exact c .fenceCounts_ rfl _ _ _  h

theorem State.setAttic_keeps {P : State → Prop} (c : Closed 0x40000000000 P) {s : State} {a2 : _} {a3 : _} (h : P s) :
    P (State.setAttic s a2 a3) := by
  exact c .attic_ rfl _ _ _  h

theorem State.retireUnit_keeps {P : State → Prop} (c : Closed 0x81f01c0000200073 P) {s : State} {a2 : _} (h : P s) :
    P (State.retireUnit s a2).1 := by
  have c1 : Closed 0x1 P := c.mono rfl
  have c40000000000 : Closed 0x40000000000 P := c.mono rfl
  have c80000000000 : Closed 0x80000000000 P := c.mono rfl
  have c80000000000001 : Closed 0x80000000000001 P := c.mono rfl
  have c81f0100000200073 : Closed 0x81f0100000200073 P := c.mono rfl
  unfold State.retireUnit
  dsimp only
  split
  · dsimp only
    refine State.configItem_keeps c80000000000001 ?_
    refine State.putN_keeps c1 ?_
    refine State.setAttic_keeps c40000000000 ?_
    refine keeps_holes c80000000000 ?_
    assumption
  · dsimp only
    refine State.raise_keeps c81f0100000200073 ?_
    refine keeps_holes c80000000000 ?_
    assumption

theorem State.retireCore_keeps {P : State → Prop} (c : Closed 0x81f01c0000200073 P) {s : State} {a2 : _} {a3 : _} {a4 : _}
    (h : P s) :
    P (State.retireCore s a2 a3 a4) := by
  have c1 : Closed 0x1 P := c.mono rfl
  have c81f01c0000200073 : Closed 0x81f01c0000200073 P := c.mono rfl
  unfold State.retireCore
  dsimp only
  split
  · refine State.putN_keeps c1 ?_
    refine State.retireUnit_keeps c81f01c0000200073 ?_
    assumption
  · refine State.putN_keeps c1 ?_
    refine State.retireUnit_keeps c81f01c0000200073 ?_
    assumption

theorem State.setCoreStates_keeps {P : State → Prop} (c : Closed 0x1 P) {s : State} {a2 : _} {a3 : _} {a4 : _} (h : P s) :
    P (State.setCoreStates s a2 a3 a4) := by
  have c1 : Closed 0x1 P := c.mono rfl
  unfold State.setCoreStates
  refine State.putN_keeps c1 ?_
  refine keeps_foldl ?_ _ ?_
  · intro x40 x41 x42
    refine State.putN_keeps c1 ?_
    assumption
  · assumption

theorem State.takeCore_keeps {P : State → Prop} (c : Closed 0x81f0100103706073 P) {s : State} {a2 : _} (h : P s) :
    P (State.takeCore s a2) := by
  have c106031 : Closed 0x106031 P := c.mono rfl
  have c3402030 : Closed 0x3402030 P := c.mono rfl
  have c100000101606071 : Closed 0x100000101606071 P := c.mono rfl
  have c81f0100000206073 : Closed 0x81f0100000206073 P := c.mono rfl
  unfold State.takeCore
  refine State.dropRegenOn_keeps c106031 ?_
  refine State.endProbe_keeps c100000101606071 ?_
  refine State.endRuns_keeps c3402030 ?_
  refine State.loseProofsOn_keeps c81f0100000206073 ?_
  assumption

theorem State.fenceSteps_keeps {P : State → Prop} (c : Closed 0x81f05e1903706073 P) {s : State} {a2 : _} {a3 : _} {a4 : _}
    {a5 : _} (h : P s) :
    P (State.fenceSteps s a2 a3 a4 a5) := by
  have c1 : Closed 0x1 P := c.mono rfl
  have c20000000000 : Closed 0x20000000000 P := c.mono rfl
  have c401800000000 : Closed 0x401800000000 P := c.mono rfl
  have c100000000000000 : Closed 0x100000000000000 P := c.mono rfl
  have c120000000000041 : Closed 0x120000000000041 P := c.mono rfl
  have c81f0100103706073 : Closed 0x81f0100103706073 P := c.mono rfl
  have c81f01c0000200073 : Closed 0x81f01c0000200073 P := c.mono rfl
  unfold State.fenceSteps
  dsimp only
  refine State.setCoreStates_keeps c1 ?_
  refine State.setFp_keeps c1 ?_
  refine State.upProbe_keeps c100000000000000 ?_
  refine keeps_then ?_ ?_
  · refine keeps_idleFills_idleWaits_test c401800000000 ?_
    refine State.countFence_keeps c20000000000 ?_
    refine State.takeCore_keeps c81f0100103706073 ?_
    refine State.isolateCore_keeps c120000000000041 ?_
    assumption
  · intro x40
    refine State.retireCore_keeps c81f01c0000200073 ?_
    assumption

theorem State.claimCore_keeps {P : State → Prop} (c : Closed 0x81f0100103706073 P) {s : State} {a2 : _} (h : P s) :
    P (State.claimCore s a2) := by
  have c106031 : Closed 0x106031 P := c.mono rfl
  have c3402030 : Closed 0x3402030 P := c.mono rfl
  have c100000101606071 : Closed 0x100000101606071 P := c.mono rfl
  have c81f0100000206073 : Closed 0x81f0100000206073 P := c.mono rfl
  unfold State.claimCore
  refine State.dropRegenOn_keeps c106031 ?_
  refine State.endRuns_keeps c3402030 ?_
  refine State.loseProofsOn_keeps c81f0100000206073 ?_
  refine State.endProbe_keeps c100000101606071 ?_
  assumption

theorem State.fillIdle_keeps {P : State → Prop} (c : Closed 0x4800000021 P) {s : State} {a2 : _} (h : P s) :
    P (State.fillIdle s a2) := by
  have c800000000 : Closed 0x800000000 P := c.mono rfl
  have c4000000021 : Closed 0x4000000021 P := c.mono rfl
  unfold State.fillIdle
  refine State.fillSlice_keeps c4000000021 ?_
  refine keeps_idleFills c800000000 ?_
  assumption

theorem State.moveNumber_keeps {P : State → Prop} (c : Closed 0x100004400000001 P) {s : State} {a2 : _} {a3 : _} {a4 : _}
    (h : P s) :
    P (State.moveNumber s a2 a3 a4) := by
  have c1 : Closed 0x1 P := c.mono rfl
  have c400000000 : Closed 0x400000000 P := c.mono rfl
  have c4000000001 : Closed 0x4000000001 P := c.mono rfl
  have c100000000000000 : Closed 0x100000000000000 P := c.mono rfl
  unfold State.moveNumber
  dsimp only
  refine State.moveScans_keeps c4000000001 ?_
  refine State.put_keeps c1 ?_
  refine State.bump_keeps c1 ?_
  refine State.planChanged_keeps c1 ?_
  refine keeps_then ?_ ?_
  · split
    · refine keeps_idleMoves c400000000 ?_
      refine State.putN_keeps c1 ?_
      refine State.putN_keeps c1 ?_
      assumption
    · refine State.putN_keeps c1 ?_
      refine State.putN_keeps c1 ?_
      assumption
  · intro x40
    refine State.upProbe_keeps c100000000000000 ?_
    assumption

theorem State.takeIdle_keeps {P : State → Prop} (c : Closed 0x81f0105d03706073 P) {s : State} {a2 : _} {a3 : _} {a4 : _}
    (h : P s) :
    P (State.takeIdle s a2 a3 a4) := by
  have c1000000000 : Closed 0x1000000000 P := c.mono rfl
  have c4800000021 : Closed 0x4800000021 P := c.mono rfl
  have c100004400000001 : Closed 0x100004400000001 P := c.mono rfl
  have c81f0100103706073 : Closed 0x81f0100103706073 P := c.mono rfl
  unfold State.takeIdle
  dsimp only
  refine keeps_ite ?_ ?_
  · refine keeps_idleWaits c1000000000 ?_
    refine State.moveNumber_keeps c100004400000001 ?_
    refine State.claimCore_keeps c81f0100103706073 ?_
    assumption
  · refine State.fillIdle_keeps c4800000021 ?_
    refine State.moveNumber_keeps c100004400000001 ?_
    refine State.claimCore_keeps c81f0100103706073 ?_
    assumption

theorem State.idleFence_keeps {P : State → Prop} (c : Closed 0x81f0105d03706073 P) {s : State} {a2 : _} {a3 : _} {a4 : _}
    (h : P s) :
    P (State.idleFence s a2 a3 a4) := by
  have c2 : Closed 0x2 P := c.mono rfl
  have c400000000 : Closed 0x400000000 P := c.mono rfl
  have c81f0100000200073 : Closed 0x81f0100000200073 P := c.mono rfl
  have c81f0105d03706073 : Closed 0x81f0105d03706073 P := c.mono rfl
  unfold State.idleFence
  dsimp only
  split
  · split
    · refine State.raiseWith_keeps c81f0100000200073 ?_
      refine State.setContent_keeps c2 ?_
      refine State.takeIdle_keeps c81f0105d03706073 ?_
      assumption
    · refine State.raiseWith_keeps c81f0100000200073 ?_
      refine State.setContent_keeps c2 ?_
      refine keeps_idleMoves c400000000 ?_
      assumption
  · refine State.raiseWith_keeps c81f0100000200073 ?_
    refine State.setContent_keeps c2 ?_
    assumption

theorem State.cancelRestart_keeps {P : State → Prop} (c : Closed 0x8080100000000011 P) {s : State} {a2 : _} (h : P s) :
    P (State.cancelRestart s a2) := by
  have c11 : Closed 0x11 P := c.mono rfl
  have c8080100000000001 : Closed 0x8080100000000001 P := c.mono rfl
  unfold State.cancelRestart
  dsimp only
  refine State.dropArm_keeps c11 ?_
  refine keeps_ite ?_ ?_
  · refine State.nearMiss_keeps c8080100000000001 ?_
    assumption
  · assumption

theorem State.showSparing_keeps {P : State → Prop} (c : Closed 0x1 P) {s : State} {a2 : _} (h : P s) :
    P (State.showSparing s a2) := by
  have c1 : Closed 0x1 P := c.mono rfl
  unfold State.showSparing
  refine State.putN_keeps c1 ?_
  assumption

theorem State.upSparing_keeps {P : State → Prop} (c : Closed 0x2000 P) {s : State} {a2 : _} {a3 : _} {a4 : _} (h : P s) :
    P (State.upSparing s a2 a3 a4) := by
  have c2000 : Closed 0x2000 P := c.mono rfl
  unfold State.upSparing
  refine State.upDom_keeps c2000 ?_
  assumption

theorem State.beginFill_keeps {P : State → Prop} (c : Closed 0x4000002021 P) {s : State} {a2 : _} {a3 : _} {a4 : _} (h : P s) :
    P (State.beginFill s a2 a3 a4) := by
  have c1 : Closed 0x1 P := c.mono rfl
  have c2000 : Closed 0x2000 P := c.mono rfl
  have c4000000021 : Closed 0x4000000021 P := c.mono rfl
  unfold State.beginFill
  refine State.showSparing_keeps c1 ?_
  refine State.fillSlice_keeps c4000000021 ?_
  refine State.upSparing_keeps c2000 ?_
  assumption

theorem State.outcomes_keeps {P : State → Prop} (c : Closed 0x81f0100000202073 P) {s : State} {a2 : _} {a3 : _} {a4 : _}
    {a5 : _} (h : P s) :
    P (State.outcomes s a2 a3 a4 a5) := by
  have c2 : Closed 0x2 P := c.mono rfl
  have c2000 : Closed 0x2000 P := c.mono rfl
  have c81f0100000200073 : Closed 0x81f0100000200073 P := c.mono rfl
  unfold State.outcomes
  dsimp only
  refine keeps_foldl ?_ _ ?_
  · intro x40 x41 x42
    refine keeps_else ?_ ?_
    · refine State.setContent_keeps c2 ?_
      assumption
    · intro x60
      refine State.upDom_keeps c2000 ?_
      refine State.raiseWith_keeps c81f0100000200073 ?_
      assumption
  · assumption

theorem State.restartSpared_keeps {P : State → Prop} (c : Closed 0x201071 P) {s : State} {a2 : _} (h : P s) :
    P (State.restartSpared s a2) := by
  have c1 : Closed 0x1 P := c.mono rfl
  have c20 : Closed 0x20 P := c.mono rfl
  have c1011 : Closed 0x1011 P := c.mono rfl
  have c200000 : Closed 0x200000 P := c.mono rfl
  have c201071 : Closed 0x201071 P := c.mono rfl
  unfold State.restartSpared
  dsimp only
  refine keeps_ite ?_ ?_
  · refine State.phoryArm_keeps c1011 ?_
    refine State.showSparing_keeps c1 ?_
    assumption
  · refine keeps_ite ?_ ?_
    · refine State.stewardArm_keeps c201071 ?_
      refine State.upJob_keeps c200000 ?_
      refine State.showSparing_keeps c1 ?_
      assumption
    · refine State.toSteward_keeps c20 ?_
      refine State.showSparing_keeps c1 ?_
      assumption

theorem State.serveRestored_keeps {P : State → Prop} (c : Closed 0x2000 P) {s : State} {a2 : _} (h : P s) :
    P (State.serveRestored s a2) := by
  have c2000 : Closed 0x2000 P := c.mono rfl
  unfold State.serveRestored
  refine State.upDom_keeps c2000 ?_
  assumption

theorem State.sparingNext_keeps {P : State → Prop} (c : Closed 0x81f0104503707073 P) {s : State} {a2 : _} (h : P s) :
    P (State.sparingNext s a2) := by
  have c1 : Closed 0x1 P := c.mono rfl
  have c2000 : Closed 0x2000 P := c.mono rfl
  have c201071 : Closed 0x201071 P := c.mono rfl
  have c4000002021 : Closed 0x4000002021 P := c.mono rfl
  have c100004400000001 : Closed 0x100004400000001 P := c.mono rfl
  have c81f0100000200073 : Closed 0x81f0100000200073 P := c.mono rfl
  have c81f0100000202073 : Closed 0x81f0100000202073 P := c.mono rfl
  have c81f0100103706073 : Closed 0x81f0100103706073 P := c.mono rfl
  unfold State.sparingNext
  dsimp only
  refine keeps_else ?_ ?_
  · refine State.showSparing_keeps c1 ?_
    refine State.serveRestored_keeps c2000 ?_
    assumption
  · intro x40
    refine keeps_else ?_ ?_
    · assumption
    · intro x60
      split
      · refine State.restartSpared_keeps c201071 ?_
        refine State.serveRestored_keeps c2000 ?_
        assumption
      · split
        · refine keeps_ite ?_ ?_
          · refine State.showSparing_keeps c1 ?_
            refine State.priorityProof_keeps c2000 ?_
            refine State.upSparing_keeps c2000 ?_
            refine State.moveNumber_keeps c100004400000001 ?_
            refine State.claimCore_keeps c81f0100103706073 ?_
            refine State.serveRestored_keeps c2000 ?_
            assumption
          · refine State.beginFill_keeps c4000002021 ?_
            refine State.priorityProof_keeps c2000 ?_
            refine State.upSparing_keeps c2000 ?_
            refine State.moveNumber_keeps c100004400000001 ?_
            refine State.claimCore_keeps c81f0100103706073 ?_
            refine State.serveRestored_keeps c2000 ?_
            assumption
        · refine keeps_ite ?_ ?_
          · assumption
          · refine State.showSparing_keeps c1 ?_
            refine State.raise_keeps c81f0100000200073 ?_
            refine State.outcomes_keeps c81f0100000202073 ?_
            refine State.upSparing_keeps c2000 ?_
            refine State.serveRestored_keeps c2000 ?_
            assumption

theorem State.beginSparing_keeps {P : State → Prop} (c : Closed 0x81f01045037a7073 P) {s : State} {a2 : _} (h : P s) :
    P (State.beginSparing s a2) := by
  have c1 : Closed 0x1 P := c.mono rfl
  have c20 : Closed 0x20 P := c.mono rfl
  have c2000 : Closed 0x2000 P := c.mono rfl
  have c200000 : Closed 0x200000 P := c.mono rfl
  have c202003 : Closed 0x202003 P := c.mono rfl
  have c200000003a6033 : Closed 0x200000003a6033 P := c.mono rfl
  have c200000003a7073 : Closed 0x200000003a7073 P := c.mono rfl
  have c8080100000000011 : Closed 0x8080100000000011 P := c.mono rfl
  have c81f0104503707073 : Closed 0x81f0104503707073 P := c.mono rfl
  unfold State.beginSparing
  dsimp only
  refine keeps_ite ?_ ?_
  · refine State.showSparing_keeps c1 ?_
    assumption
  · refine keeps_ite ?_ ?_
    · refine State.sparingNext_keeps c81f0104503707073 ?_
      refine State.rollbackHere_keeps c200000003a6033 ?_
      refine State.cancelRestart_keeps c8080100000000011 ?_
      assumption
    · refine keeps_ite ?_ ?_
      · refine State.sparingNext_keeps c81f0104503707073 ?_
        refine State.jobRollback_keeps c200000003a7073 ?_
        refine State.cancelRestart_keeps c8080100000000011 ?_
        refine State.upJob_keeps c200000 ?_
        refine State.supersedeNarrow_keeps c202003 ?_
        assumption
      · refine State.showSparing_keeps c1 ?_
        refine State.toSteward_keeps c20 ?_
        refine State.upDom_keeps c2000 ?_
        refine State.cancelRestart_keeps c8080100000000011 ?_
        assumption

theorem State.moveBack_keeps {P : State → Prop} (c : Closed 0x100004000002011 P) {s : State} {a2 : _} {a3 : _} {a4 : _}
    {a5 : _} (h : P s) :
    P (State.moveBack s a2 a3 a4 a5) := by
  have c1 : Closed 0x1 P := c.mono rfl
  have c10 : Closed 0x10 P := c.mono rfl
  have c2000 : Closed 0x2000 P := c.mono rfl
  have c4000000001 : Closed 0x4000000001 P := c.mono rfl
  have c100000000000000 : Closed 0x100000000000000 P := c.mono rfl
  unfold State.moveBack
  dsimp only
  refine State.upSparing_keeps c2000 ?_
  refine State.disarm_keeps c10 ?_
  refine State.disarm_keeps c10 ?_
  refine State.moveScans_keeps c4000000001 ?_
  refine State.put_keeps c1 ?_
  refine State.bump_keeps c1 ?_
  refine State.planChanged_keeps c1 ?_
  refine State.upProbe_keeps c100000000000000 ?_
  refine State.putN_keeps c1 ?_
  refine State.putN_keeps c1 ?_
  assumption

theorem State.joinSparing_keeps {P : State → Prop} (c : Closed 0x81f01045037a7073 P) {s : State} {a2 : _} {a3 : _} {a4 : _}
    {a5 : _} {a6 : _} (h : P s) :
    P (State.joinSparing s a2 a3 a4 a5 a6) := by
  have c2000 : Closed 0x2000 P := c.mono rfl
  have c100004000002011 : Closed 0x100004000002011 P := c.mono rfl
  have c8080100000000011 : Closed 0x8080100000000011 P := c.mono rfl
  have c81f0104503707073 : Closed 0x81f0104503707073 P := c.mono rfl
  have c81f01045037a7073 : Closed 0x81f01045037a7073 P := c.mono rfl
  unfold State.joinSparing
  dsimp only
  split
  · refine keeps_ite ?_ ?_
    · refine State.beginSparing_keeps c81f01045037a7073 ?_
      refine State.moveBack_keeps c100004000002011 ?_
      refine State.cancelRestart_keeps c8080100000000011 ?_
      refine State.upDom_keeps c2000 ?_
      assumption
    · refine State.sparingNext_keeps c81f0104503707073 ?_
      refine State.moveBack_keeps c100004000002011 ?_
      refine State.cancelRestart_keeps c8080100000000011 ?_
      refine State.upDom_keeps c2000 ?_
      assumption
  · refine keeps_ite ?_ ?_
    · refine State.beginSparing_keeps c81f01045037a7073 ?_
      refine State.upDom_keeps c2000 ?_
      assumption
    · refine State.sparingNext_keeps c81f0104503707073 ?_
      refine State.upDom_keeps c2000 ?_
      assumption

theorem State.fence_keeps {P : State → Prop} (c : Closed 0x81f05e5d037a7073 P) {s : State} {a2 : _} {a3 : _} {a4 : _}
    {a5 : _} (h : P s) :
    P (State.fence s a2 a3 a4 a5) := by
  have c81f01045037a7073 : Closed 0x81f01045037a7073 P := c.mono rfl
  have c81f0105d03706073 : Closed 0x81f0105d03706073 P := c.mono rfl
  have c81f05e1903706073 : Closed 0x81f05e1903706073 P := c.mono rfl
  unfold State.fence
  dsimp only
  split
  · split
    · refine State.joinSparing_keeps c81f01045037a7073 ?_
      refine State.fenceSteps_keeps c81f05e1903706073 ?_
      assumption
    · refine State.fenceSteps_keeps c81f05e1903706073 ?_
      assumption
  · refine State.idleFence_keeps c81f0105d03706073 ?_
    refine State.fenceSteps_keeps c81f05e1903706073 ?_
    assumption

theorem State.fenceAuto_keeps {P : State → Prop} (c : Closed 0x81f05f5d037a7073 P) {s : State} {a2 : _} {a3 : _} (h : P s) :
    P (State.fenceAuto s a2 a3).1 := by
  have c10000000000 : Closed 0x10000000000 P := c.mono rfl
  have c81f0100000200073 : Closed 0x81f0100000200073 P := c.mono rfl
  have c81f05e5d037a7073 : Closed 0x81f05e5d037a7073 P := c.mono rfl
  unfold State.fenceAuto
  split
  · dsimp only
    assumption
  · split
    · dsimp only
      refine State.fence_keeps c81f05e5d037a7073 ?_
      refine keeps_fences c10000000000 ?_
      assumption
    · dsimp only
      refine State.raise_keeps c81f0100000200073 ?_
      assumption

theorem State.fenceIfOn_keeps {P : State → Prop} (c : Closed 0x81f05f5d037a7073 P) {s : State} {a2 : _} {a3 : _} {a4 : _}
    (h : P s) :
    P (State.fenceIfOn s a2 a3 a4).1 := by
  have c81f05f5d037a7073 : Closed 0x81f05f5d037a7073 P := c.mono rfl
  unfold State.fenceIfOn
  split
  · refine State.fenceAuto_keeps c81f05f5d037a7073 ?_
    assumption
  · dsimp only
    assumption

theorem State.setGalley_keeps {P : State → Prop} (c : Closed 0x1 P) {s : State} {a2 : _} {a3 : _} {a4 : _} (h : P s) :
    P (State.setGalley s a2 a3 a4) := by
  have c1 : Closed 0x1 P := c.mono rfl
  unfold State.setGalley
  refine keeps_ite ?_ ?_
  · assumption
  · refine State.putN_keeps c1 ?_
    assumption

theorem State.fenceEngine_keeps {P : State → Prop} (c : Closed 0x81f05f5d037a7073 P) {s : State} {a2 : _} {a3 : _} {a4 : _}
    {a5 : _} (h : P s) :
    P (State.fenceEngine s a2 a3 a4 a5) := by
  have c1 : Closed 0x1 P := c.mono rfl
  have c81f05f5d037a7073 : Closed 0x81f05f5d037a7073 P := c.mono rfl
  unfold State.fenceEngine
  dsimp only
  refine keeps_else ?_ ?_
  · refine State.fenceIfOn_keeps c81f05f5d037a7073 ?_
    assumption
  · intro x40
    refine State.setGalley_keeps c1 ?_
    assumption

theorem State.replacementFailed_keeps {P : State → Prop} (c : Closed 0x81f05f5d037a7073 P) {s : State} {a2 : _} {a3 : _}
    {a4 : _} {a5 : _} (h : P s) :
    P (State.replacementFailed s a2 a3 a4 a5) := by
  have c1 : Closed 0x1 P := c.mono rfl
  have c100004000002011 : Closed 0x100004000002011 P := c.mono rfl
  have c120000000000041 : Closed 0x120000000000041 P := c.mono rfl
  have c81f0104503707073 : Closed 0x81f0104503707073 P := c.mono rfl
  have c81f05f5d037a7073 : Closed 0x81f05f5d037a7073 P := c.mono rfl
  unfold State.replacementFailed
  dsimp only
  refine keeps_else ?_ ?_
  · refine State.fenceAuto_keeps c81f05f5d037a7073 ?_
    assumption
  · intro x40
    refine State.sparingNext_keeps c81f0104503707073 ?_
    refine State.moveBack_keeps c100004000002011 ?_
    refine keeps_foldl ?_ _ ?_
    · intro x60 x61 x62
      refine State.putN_keeps c1 ?_
      assumption
    · refine State.isolateCore_keeps c120000000000041 ?_
      assumption

theorem State.issueRun_keeps {P : State → Prop} (c : Closed 0xc02030 P) {s : State} {a2 : _} (h : P s) :
    P (State.issueRun s a2) := by
  have c10 : Closed 0x10 P := c.mono rfl
  have c20 : Closed 0x20 P := c.mono rfl
  have c2000 : Closed 0x2000 P := c.mono rfl
  have cc00000 : Closed 0xc00000 P := c.mono rfl
  unfold State.issueRun
  dsimp only
  refine State.arm_keeps c10 ?_
  refine State.disturbCore_keeps c2000 ?_
  refine State.send_keeps c20 ?_
  refine keeps_nextRun_runs cc00000 ?_
  assumption

theorem State.issueSpecimen_keeps {P : State → Prop} (c : Closed 0xc02030 P) {s : State} {a2 : _} {a3 : _} (h : P s) :
    P (State.issueSpecimen s a2 a3) := by
  have cc02030 : Closed 0xc02030 P := c.mono rfl
  unfold State.issueSpecimen
  refine State.issueRun_keeps cc02030 ?_
  assumption

theorem State.dropReset_keeps {P : State → Prop} (c : Closed 0x40000000000011 P) {s : State} {a2 : _} (h : P s) :
    P (State.dropReset s a2) := by
  have c1 : Closed 0x1 P := c.mono rfl
  have c10 : Closed 0x10 P := c.mono rfl
  have c40000000000000 : Closed 0x40000000000000 P := c.mono rfl
  unfold State.dropReset
  dsimp only
  refine State.showResets_keeps c1 ?_
  refine State.disarm_keeps c10 ?_
  refine keeps_rcv c40000000000000 ?_
  assumption

theorem State.recordReset_keeps {P : State → Prop} (c : Closed 0x40000000000002 P) {s : State} {a2 : _} {a3 : _} {a4 : _}
    (h : P s) :
    P (State.recordReset s a2 a3 a4) := by
  have c2 : Closed 0x2 P := c.mono rfl
  have c40000000000000 : Closed 0x40000000000000 P := c.mono rfl
  unfold State.recordReset
  dsimp only
  refine keeps_rcv c40000000000000 ?_
  refine State.setContent_keeps c2 ?_
  assumption

theorem State.finishReset_keeps {P : State → Prop} (c : Closed 0x40000000000013 P) {s : State} {a2 : _} {a3 : _} (h : P s) :
    P (State.finishReset s a2 a3) := by
  have c1 : Closed 0x1 P := c.mono rfl
  have c40000000000002 : Closed 0x40000000000002 P := c.mono rfl
  have c40000000000011 : Closed 0x40000000000011 P := c.mono rfl
  unfold State.finishReset
  dsimp only
  refine State.dropReset_keeps c40000000000011 ?_
  refine State.recordReset_keeps c40000000000002 ?_
  refine State.bump_keeps c1 ?_
  assumption

theorem State.refillFailed_keeps {P : State → Prop} (c : Closed 0x81f0100000202073 P) {s : State} {a2 : _} {a3 : _} (h : P s) :
    P (State.refillFailed s a2 a3) := by
  have c1 : Closed 0x1 P := c.mono rfl
  have c10 : Closed 0x10 P := c.mono rfl
  have c2000 : Closed 0x2000 P := c.mono rfl
  have c81f0100000200073 : Closed 0x81f0100000200073 P := c.mono rfl
  have c81f0100000202073 : Closed 0x81f0100000202073 P := c.mono rfl
  unfold State.refillFailed
  dsimp only
  refine State.showSparing_keeps c1 ?_
  refine State.raise_keeps c81f0100000200073 ?_
  refine State.outcomes_keeps c81f0100000202073 ?_
  refine State.disarm_keeps c10 ?_
  refine State.disarm_keeps c10 ?_
  refine State.upSparing_keeps c2000 ?_
  assumption

theorem State.refillStep_keeps {P : State → Prop} (c : Closed 0x81f0104503707073 P) {s : State} {a2 : _} {a3 : _} (h : P s) :
    P (State.refillStep s a2 a3) := by
  have c1 : Closed 0x1 P := c.mono rfl
  have c10 : Closed 0x10 P := c.mono rfl
  have c20 : Closed 0x20 P := c.mono rfl
  have c2000 : Closed 0x2000 P := c.mono rfl
  have c4000002061 : Closed 0x4000002061 P := c.mono rfl
  have c81f0100000200073 : Closed 0x81f0100000200073 P := c.mono rfl
  have c81f0100000202073 : Closed 0x81f0100000202073 P := c.mono rfl
  have c81f0104503707073 : Closed 0x81f0104503707073 P := c.mono rfl
  unfold State.refillStep
  dsimp only
  split
  · assumption
  · refine keeps_ite ?_ ?_
    · refine State.showSparing_keeps c1 ?_
      refine State.upSparing_keeps c2000 ?_
      assumption
    · split
      · refine keeps_ite ?_ ?_
        · refine State.refillFailed_keeps c81f0100000202073 ?_
          assumption
        · refine State.showSparing_keeps c1 ?_
          refine State.arm_keeps c10 ?_
          refine State.send_keeps c20 ?_
          refine State.upSparing_keeps c2000 ?_
          assumption
      · refine keeps_ite ?_ ?_
        · refine State.showSparing_keeps c1 ?_
          refine State.raise_keeps c81f0100000200073 ?_
          refine State.arm_keeps c10 ?_
          refine State.upSparing_keeps c2000 ?_
          assumption
        · refine State.sparingNext_keeps c81f0104503707073 ?_
          refine State.schedulePasses_keeps c4000002061 ?_
          refine State.upSparing_keeps c2000 ?_
          assumption

theorem State.armBeaconLoss_keeps {P : State → Prop} (c : Closed 0x10 P) {s : State} (h : P s) :
    P (State.armBeaconLoss s) := by
  have c10 : Closed 0x10 P := c.mono rfl
  unfold State.armBeaconLoss
  refine State.arm_keeps c10 ?_
  assumption

theorem State.upTb_keeps {P : State → Prop} (c : Closed 0x1000 P) {s : State} {a2 : _} (h : P s) :
    P (State.upTb s a2) := by
  have c1000 : Closed 0x1000 P := c.mono rfl
  unfold State.upTb
  refine keeps_tb c1000 ?_
  assumption

theorem State.followBeacon_keeps {P : State → Prop} (c : Closed 0x1011 P) {s : State} (h : P s) :
    P (State.followBeacon s) := by
  have c1 : Closed 0x1 P := c.mono rfl
  have c10 : Closed 0x10 P := c.mono rfl
  have c1000 : Closed 0x1000 P := c.mono rfl
  unfold State.followBeacon
  dsimp only
  refine keeps_ite ?_ ?_
  · refine State.disarm_keeps c10 ?_
    refine keeps_ite ?_ ?_
    · refine State.disarm_keeps c10 ?_
      assumption
    · refine keeps_ite ?_ ?_
      · assumption
      · refine State.armBeaconLoss_keeps c10 ?_
        assumption
  · refine keeps_else ?_ ?_
    · refine keeps_ite ?_ ?_
      · refine State.disarm_keeps c10 ?_
        assumption
      · refine keeps_ite ?_ ?_
        · assumption
        · refine State.armBeaconLoss_keeps c10 ?_
          assumption
    · intro x60
      refine State.arm_keeps c10 ?_
      refine State.putN_keeps c1 ?_
      refine State.upTb_keeps c1000 ?_
      assumption

theorem State.endDrain_keeps {P : State → Prop} (c : Closed 0x110 P) {s : State} (h : P s) :
    P (State.endDrain s) := by
  have c10 : Closed 0x10 P := c.mono rfl
  have c100 : Closed 0x100 P := c.mono rfl
  unfold State.endDrain
  refine State.disarm_keeps c10 ?_
  refine keeps_drain c100 ?_
  assumption

theorem State.applyDrain_keeps {P : State → Prop} (c : Closed 0x8080100000000195 P) {s : State} {a2 : _} (h : P s) :
    P (State.applyDrain s a2) := by
  have c1 : Closed 0x1 P := c.mono rfl
  have c4 : Closed 0x4 P := c.mono rfl
  have c80 : Closed 0x80 P := c.mono rfl
  have c110 : Closed 0x110 P := c.mono rfl
  have c8080100000000011 : Closed 0x8080100000000011 P := c.mono rfl
  unfold State.applyDrain
  dsimp only
  refine State.bump_keeps c1 ?_
  refine State.endDrain_keeps c110 ?_
  refine State.arrives_keeps c8080100000000011 ?_
  refine keeps_foldl ?_ _ ?_
  · intro x40 x41 x42
    refine State.endWrite_keeps c4 ?_
    refine State.put_keeps c1 ?_
    refine keeps_staged c80 ?_
    assumption
  · assumption

theorem State.applyStaged_keeps {P : State → Prop} (c : Closed 0x2085 P) {s : State} {a2 : _} (h : P s) :
    P (State.applyStaged s a2) := by
  have c1 : Closed 0x1 P := c.mono rfl
  have c4 : Closed 0x4 P := c.mono rfl
  have c80 : Closed 0x80 P := c.mono rfl
  have c2000 : Closed 0x2000 P := c.mono rfl
  unfold State.applyStaged
  dsimp only
  refine keeps_then ?_ ?_
  · refine keeps_then ?_ ?_
    · refine keeps_foldl ?_ _ ?_
      · intro x80 x81 x82
        refine State.endWrite_keeps c4 ?_
        assumption
      · refine keeps_staged c80 ?_
        assumption
    · intro x60
      refine State.planChanged_keeps c1 ?_
      assumption
  · intro x40
    refine State.upDom_keeps c2000 ?_
    assumption

theorem State.armSweep_keeps {P : State → Prop} (c : Closed 0x10 P) {s : State} (h : P s) :
    P (State.armSweep s) := by
  have c10 : Closed 0x10 P := c.mono rfl
  unfold State.armSweep
  refine keeps_ite ?_ ?_
  · assumption
  · refine State.armAt_keeps c10 ?_
    assumption

theorem State.arriveAll_keeps {P : State → Prop} (c : Closed 0x2000 P) {s : State} {a2 : _} (h : P s) :
    P (State.arriveAll s a2) := by
  have c2000 : Closed 0x2000 P := c.mono rfl
  unfold State.arriveAll
  refine State.upStep_keeps c2000 ?_
  assumption

theorem State.upReset_keeps {P : State → Prop} (c : Closed 0x40000000000000 P) {s : State} {a2 : _} {a3 : _} (h : P s) :
    P (State.upReset s a2 a3) := by
  have c40000000000000 : Closed 0x40000000000000 P := c.mono rfl
  unfold State.upReset
  dsimp only
  refine keeps_rcv c40000000000000 ?_
  assumption

theorem State.beginActivation_keeps {P : State → Prop} (c : Closed 0x400000000000031 P) {s : State} (h : P s) :
    P (State.beginActivation s) := by
  have c1 : Closed 0x1 P := c.mono rfl
  have c10 : Closed 0x10 P := c.mono rfl
  have c20 : Closed 0x20 P := c.mono rfl
  have c400000000000000 : Closed 0x400000000000000 P := c.mono rfl
  unfold State.beginActivation
  dsimp only
  refine State.sendAll_keeps c20 ?_
  refine keeps_foldl ?_ _ ?_
  · intro x40 x41 x42
    refine State.disarm_keeps c10 ?_
    refine State.putN_keeps c1 ?_
    assumption
  · refine keeps_img c400000000000000 ?_
    assumption

theorem State.endSparing_keeps {P : State → Prop} (c : Closed 0x2011 P) {s : State} {a2 : _} (h : P s) :
    P (State.endSparing s a2) := by
  have c1 : Closed 0x1 P := c.mono rfl
  have c10 : Closed 0x10 P := c.mono rfl
  have c2000 : Closed 0x2000 P := c.mono rfl
  unfold State.endSparing
  dsimp only
  refine State.showSparing_keeps c1 ?_
  refine State.upDom_keeps c2000 ?_
  refine State.disarm_keeps c10 ?_
  refine State.disarm_keeps c10 ?_
  assumption

theorem State.dropSparing_keeps {P : State → Prop} (c : Closed 0x81f0100000202073 P) {s : State} {a2 : _} (h : P s) :
    P (State.dropSparing s a2) := by
  have c2011 : Closed 0x2011 P := c.mono rfl
  have c81f0100000202073 : Closed 0x81f0100000202073 P := c.mono rfl
  unfold State.dropSparing
  refine keeps_ite ?_ ?_
  · assumption
  · refine State.endSparing_keeps c2011 ?_
    refine State.outcomes_keeps c81f0100000202073 ?_
    assumption

theorem State.deactivate_keeps {P : State → Prop} (c : Closed 0x81f01081017a70f7 P) {s : State} {a2 : _} (h : P s) :
    P (State.deactivate s a2) := by
  have c1 : Closed 0x1 P := c.mono rfl
  have c4 : Closed 0x4 P := c.mono rfl
  have c10 : Closed 0x10 P := c.mono rfl
  have c11 : Closed 0x11 P := c.mono rfl
  have c2000 : Closed 0x2000 P := c.mono rfl
  have c2001 : Closed 0x2001 P := c.mono rfl
  have c2085 : Closed 0x2085 P := c.mono rfl
  have c6020 : Closed 0x6020 P := c.mono rfl
  have c6030 : Closed 0x6030 P := c.mono rfl
  have ca0010 : Closed 0xa0010 P := c.mono rfl
  have c106031 : Closed 0x106031 P := c.mono rfl
  have c200000 : Closed 0x200000 P := c.mono rfl
  have c200010 : Closed 0x200010 P := c.mono rfl
  have c20008000001000 : Closed 0x20008000001000 P := c.mono rfl
  have c80000000000001 : Closed 0x80000000000001 P := c.mono rfl
  have c100000000000000 : Closed 0x100000000000000 P := c.mono rfl
  have c120000101404071 : Closed 0x120000101404071 P := c.mono rfl
  have c81f0100000202073 : Closed 0x81f0100000202073 P := c.mono rfl
  unfold State.deactivate
  dsimp only
  refine State.placeWaiting_keeps c6020 ?_
  refine State.planChanged_keeps c1 ?_
  refine State.showSparing_keeps c1 ?_
  refine State.showLedger_keeps c2001 ?_
  refine keeps_then ?_ ?_
  · refine keeps_then ?_ ?_
    · refine State.put_keeps c1 ?_
      refine State.putN_keeps c1 ?_
      refine State.putN_keeps c1 ?_
      refine State.putN_keeps c1 ?_
      refine State.applyStaged_keeps c2085 ?_
      refine State.setDom_keeps c2000 ?_
      refine keeps_foldl ?_ _ ?_
      · intro x80 x81 x82
        split
        · split
          · refine State.setTrim_keeps c120000101404071 ?_
            refine State.upProbe_keeps c100000000000000 ?_
            assumption
          · assumption
        · assumption
      · refine keeps_kv_obs_tb c20008000001000 ?_
        refine State.dropArm_keeps c11 ?_
        refine State.dropChecks_keeps ca0010 ?_
        refine State.cancelProofs_keeps c6030 ?_
        split
        · refine keeps_then ?_ ?_
          · refine State.endHold_keeps c2001 ?_
            refine State.dropSparing_keeps c81f0100000202073 ?_
            refine keeps_ite ?_ ?_
            · refine State.endWrite_keeps c4 ?_
              assumption
            · assumption
          · intro x120
            refine State.endRegen_keeps c106031 ?_
            assumption
        · refine State.endHold_keeps c2001 ?_
          refine State.dropSparing_keeps c81f0100000202073 ?_
          refine keeps_ite ?_ ?_
          · refine State.endWrite_keeps c4 ?_
            assumption
          · assumption
    · intro x60
      refine State.upJob_keeps c200000 ?_
      refine State.disarmAll_keeps c10 ?_
      refine State.endStart_keeps c200010 ?_
      refine keeps_else ?_ ?_
      · assumption
      · intro x80
        refine State.event_keeps c80000000000001 ?_
        assumption
  · intro x40
    refine State.putN_keeps c1 ?_
    assumption

theorem State.endContext_keeps {P : State → Prop} (c : Closed 0x81f01081017a70f7 P) {s : State} {a2 : _} (h : P s) :
    P (State.endContext s a2) := by
  have c2 : Closed 0x2 P := c.mono rfl
  have c20 : Closed 0x20 P := c.mono rfl
  have c2000 : Closed 0x2000 P := c.mono rfl
  have c200000 : Closed 0x200000 P := c.mono rfl
  have c81f01081017a70f7 : Closed 0x81f01081017a70f7 P := c.mono rfl
  unfold State.endContext
  dsimp only
  refine State.deactivate_keeps c81f01081017a70f7 ?_
  refine State.showColophons_keeps c2 ?_
  refine State.upDom_keeps c2000 ?_
  refine State.flagResults_keeps c2 ?_
  refine keeps_then ?_ ?_
  · refine keeps_ite ?_ ?_
    · refine State.toSteward_keeps c20 ?_
      assumption
    · assumption
  · intro x40
    refine State.upJob_keeps c200000 ?_
    assumption

theorem State.poisonHold_keeps {P : State → Prop} (c : Closed 0x202030 P) {s : State} {a2 : _} (h : P s) :
    P (State.poisonHold s a2) := by
  have c20 : Closed 0x20 P := c.mono rfl
  have c2000 : Closed 0x2000 P := c.mono rfl
  have c200010 : Closed 0x200010 P := c.mono rfl
  unfold State.poisonHold
  refine keeps_ite ?_ ?_
  · assumption
  · refine State.toWorkers_keeps c20 ?_
    refine State.endStart_keeps c200010 ?_
    refine State.upDom_keeps c2000 ?_
    assumption

theorem State.carryTaints_keeps {P : State → Prop} (c : Closed 0x20 P) {s : State} {a2 : _} {a3 : _} {a4 : _} {a5 : _}
    (h : P s) :
    P (State.carryTaints s a2 a3 a4 a5) := by
  have c20 : Closed 0x20 P := c.mono rfl
  unfold State.carryTaints
  dsimp only
  refine State.sendAll_keeps c20 ?_
  assumption

theorem State.keepReport_keeps {P : State → Prop} (c : Closed 0x3 P) {s : State} {a2 : _} (h : P s) :
    P (State.keepReport s a2) := by
  have c1 : Closed 0x1 P := c.mono rfl
  have c2 : Closed 0x2 P := c.mono rfl
  unfold State.keepReport
  refine State.setContent_keeps c2 ?_
  refine State.bump_keeps c1 ?_
  assumption

theorem State.remoteTaintHere_keeps {P : State → Prop} (c : Closed 0x81f0100000200073 P) {s : State} {a2 : _} {a3 : _}
    (h : P s) :
    P (State.remoteTaintHere s a2 a3) := by
  have c3 : Closed 0x3 P := c.mono rfl
  have c20 : Closed 0x20 P := c.mono rfl
  have c81f0100000200073 : Closed 0x81f0100000200073 P := c.mono rfl
  unfold State.remoteTaintHere
  dsimp only
  refine keeps_ite ?_ ?_
  · refine State.carryTaints_keeps c20 ?_
    refine State.raise_keeps c81f0100000200073 ?_
    refine State.keepReport_keeps c3 ?_
    assumption
  · refine keeps_else ?_ ?_
    · refine State.raise_keeps c81f0100000200073 ?_
      refine State.keepReport_keeps c3 ?_
      assumption
    · intro x60
      refine State.toSteward_keeps c20 ?_
      assumption

theorem State.stewardTaints_keeps {P : State → Prop} (c : Closed 0x81f0100000200073 P) {s : State} {a2 : _} {a3 : _} {a4 : _}
    {a5 : _} (h : P s) :
    P (State.stewardTaints s a2 a3 a4 a5) := by
  have c20 : Closed 0x20 P := c.mono rfl
  have c81f0100000200073 : Closed 0x81f0100000200073 P := c.mono rfl
  unfold State.stewardTaints
  dsimp only
  refine keeps_else ?_ ?_
  · refine State.carryTaints_keeps c20 ?_
    assumption
  · intro x40
    split
    · refine State.remoteTaintHere_keeps c81f0100000200073 ?_
      assumption
    · assumption

theorem State.stewardFailure_keeps {P : State → Prop} (c : Closed 0x81f01000003a7073 P) {s : State} {a2 : _} {a3 : _}
    {a4 : _} (h : P s) :
    P (State.stewardFailure s a2 a3 a4) := by
  have c2000 : Closed 0x2000 P := c.mono rfl
  have c200000 : Closed 0x200000 P := c.mono rfl
  have c202003 : Closed 0x202003 P := c.mono rfl
  have c202030 : Closed 0x202030 P := c.mono rfl
  have c200000003a7073 : Closed 0x200000003a7073 P := c.mono rfl
  have c81f0100000200073 : Closed 0x81f0100000200073 P := c.mono rfl
  have c81f0100000202073 : Closed 0x81f0100000202073 P := c.mono rfl
  unfold State.stewardFailure
  dsimp only
  split
  · refine State.jobRollback_keeps c200000003a7073 ?_
    refine State.supersedeNarrow_keeps c202003 ?_
    refine State.stewardTaints_keeps c81f0100000200073 ?_
    assumption
  · refine State.stewardTaints_keeps c81f0100000200073 ?_
    assumption
  · refine State.poisonHold_keeps c202030 ?_
    refine State.supersedeNarrow_keeps c202003 ?_
    assumption
  · refine State.jobRollback_keeps c200000003a7073 ?_
    refine State.upDom_keeps c2000 ?_
    refine State.supersedeNarrow_keeps c202003 ?_
    assumption
  · refine keeps_ite ?_ ?_
    · refine State.partnerLost_keeps c81f0100000202073 ?_
      assumption
    · refine State.upJob_keeps c200000 ?_
      refine State.supersedeNarrow_keeps c202003 ?_
      assumption
  · refine State.jobRollback_keeps c200000003a7073 ?_
    refine State.upJob_keeps c200000 ?_
    refine State.supersedeNarrow_keeps c202003 ?_
    assumption
  · refine State.jobRollback_keeps c200000003a7073 ?_
    refine State.supersedeNarrow_keeps c202003 ?_
    assumption
  · refine State.narrowOutcome_keeps c200000003a7073 ?_
    assumption

theorem State.undrainCore_keeps {P : State → Prop} (c : Closed 0x120000000000041 P) {s : State} {a2 : _} (h : P s) :
    P (State.undrainCore s a2) := by
  have c20000000000041 : Closed 0x20000000000041 P := c.mono rfl
  have c100000000000000 : Closed 0x100000000000000 P := c.mono rfl
  unfold State.undrainCore
  dsimp only
  refine keeps_ite ?_ ?_
  · assumption
  · refine keeps_then ?_ ?_
    · refine State.upProbe_keeps c100000000000000 ?_
      assumption
    · intro x60
      refine State.ringEvent_keeps c20000000000041 ?_
      assumption

theorem State.contextDone_keeps {P : State → Prop} (c : Closed 0x81f01081017a70f7 P) {s : State} {a2 : _} {a3 : _} (h : P s) :
    P (State.contextDone s a2 a3) := by
  have c1 : Closed 0x1 P := c.mono rfl
  have c20 : Closed 0x20 P := c.mono rfl
  have c2000 : Closed 0x2000 P := c.mono rfl
  have c40000000000000 : Closed 0x40000000000000 P := c.mono rfl
  have c120000000000041 : Closed 0x120000000000041 P := c.mono rfl
  have c81f01000003a7073 : Closed 0x81f01000003a7073 P := c.mono rfl
  have c81f01081017a70f7 : Closed 0x81f01081017a70f7 P := c.mono rfl
  unfold State.contextDone
  dsimp only
  refine keeps_ite ?_ ?_
  · refine State.endContext_keeps c81f01081017a70f7 ?_
    refine State.setHold_keeps c1 ?_
    refine keeps_foldl ?_ _ ?_
    · intro x60 x61 x62
      refine State.undrainCore_keeps c120000000000041 ?_
      assumption
    · refine State.upReset_keeps c40000000000000 ?_
      assumption
  · refine keeps_ite ?_ ?_
    · refine State.upDom_keeps c2000 ?_
      refine State.setHold_keeps c1 ?_
      refine keeps_foldl ?_ _ ?_
      · intro x80 x81 x82
        refine State.undrainCore_keeps c120000000000041 ?_
        assumption
      · refine State.upReset_keeps c40000000000000 ?_
        assumption
    · refine keeps_ite ?_ ?_
      · refine State.stewardFailure_keeps c81f01000003a7073 ?_
        refine State.setHold_keeps c1 ?_
        refine keeps_foldl ?_ _ ?_
        · intro x100 x101 x102
          refine State.undrainCore_keeps c120000000000041 ?_
          assumption
        · refine State.upReset_keeps c40000000000000 ?_
          assumption
      · refine State.toSteward_keeps c20 ?_
        refine State.setHold_keeps c1 ?_
        refine keeps_foldl ?_ _ ?_
        · intro x100 x101 x102
          refine State.undrainCore_keeps c120000000000041 ?_
          assumption
        · refine State.upReset_keeps c40000000000000 ?_
          assumption

theorem State.supersedeReset_keeps {P : State → Prop} (c : Closed 0x40000000000013 P) {s : State} {a2 : _} (h : P s) :
    P (State.supersedeReset s a2) := by
  have c40000000000002 : Closed 0x40000000000002 P := c.mono rfl
  have c40000000000011 : Closed 0x40000000000011 P := c.mono rfl
  unfold State.supersedeReset
  refine State.dropReset_keeps c40000000000011 ?_
  refine State.recordReset_keeps c40000000000002 ?_
  assumption

theorem State.beginContext_keeps {P : State → Prop} (c : Closed 0x81e01000003a6073 P) {s : State} {a2 : _} {a3 : _} {a4 : _}
    {a5 : _} {a6 : _} {a7 : _} (h : P s) :
    P (State.beginContext s a2 a3 a4 a5 a6 a7) := by
  have c1 : Closed 0x1 P := c.mono rfl
  have c10 : Closed 0x10 P := c.mono rfl
  have c11 : Closed 0x11 P := c.mono rfl
  have c2000 : Closed 0x2000 P := c.mono rfl
  have c106031 : Closed 0x106031 P := c.mono rfl
  have c200000003a6033 : Closed 0x200000003a6033 P := c.mono rfl
  have c40000000000041 : Closed 0x40000000000041 P := c.mono rfl
  have c120000000000041 : Closed 0x120000000000041 P := c.mono rfl
  have c80c0100000000073 : Closed 0x80c0100000000073 P := c.mono rfl
  unfold State.beginContext
  dsimp only
  refine State.arm_keeps c10 ?_
  refine keeps_ite ?_ ?_
  · refine State.rollback_keeps c200000003a6033 ?_
    split
    · refine keeps_then ?_ ?_
      · refine keeps_foldl ?_ _ ?_
        · intro x100 x101 x102
          refine State.drainCore_keeps c120000000000041 ?_
          assumption
        · refine State.beginCapture_keeps c80c0100000000073 ?_
          refine State.setHold_keeps c1 ?_
          refine State.addReset_keeps c40000000000041 ?_
          assumption
      · intro x80
        refine State.endRegen_keeps c106031 ?_
        assumption
    · refine keeps_foldl ?_ _ ?_
      · intro x80 x81 x82
        refine State.drainCore_keeps c120000000000041 ?_
        assumption
      · refine State.beginCapture_keeps c80c0100000000073 ?_
        refine State.setHold_keeps c1 ?_
        refine State.addReset_keeps c40000000000041 ?_
        assumption
  · refine State.upDom_keeps c2000 ?_
    refine State.dropArm_keeps c11 ?_
    split
    · refine keeps_then ?_ ?_
      · refine keeps_foldl ?_ _ ?_
        · intro x100 x101 x102
          refine State.drainCore_keeps c120000000000041 ?_
          assumption
        · refine State.beginCapture_keeps c80c0100000000073 ?_
          refine State.setHold_keeps c1 ?_
          refine State.addReset_keeps c40000000000041 ?_
          assumption
      · intro x80
        refine State.endRegen_keeps c106031 ?_
        assumption
    · refine keeps_foldl ?_ _ ?_
      · intro x80 x81 x82
        refine State.drainCore_keeps c120000000000041 ?_
        assumption
      · refine State.beginCapture_keeps c80c0100000000073 ?_
        refine State.setHold_keeps c1 ?_
        refine State.addReset_keeps c40000000000041 ?_
        assumption

theorem State.stage_keeps {P : State → Prop} (c : Closed 0x81 P) {s : State} {a2 : _} {a3 : _} {a4 : _} (h : P s) :
    P (State.stage s a2 a3 a4) := by
  have c1 : Closed 0x1 P := c.mono rfl
  have c80 : Closed 0x80 P := c.mono rfl
  unfold State.stage
  dsimp only
  refine State.put_keeps c1 ?_
  refine keeps_ite ?_ ?_
  · assumption
  · refine keeps_staged c80 ?_
    assumption

theorem State.beginDrain_keeps {P : State → Prop} (c : Closed 0x191 P) {s : State} {a2 : _} {a3 : _} (h : P s) :
    P (State.beginDrain s a2 a3).1 := by
  have c10 : Closed 0x10 P := c.mono rfl
  have c81 : Closed 0x81 P := c.mono rfl
  have c100 : Closed 0x100 P := c.mono rfl
  unfold State.beginDrain
  dsimp only
  split
  · split
    · dsimp only
      refine keeps_drain c100 ?_
      refine keeps_foldl ?_ _ ?_
      · intro x80 x81 x82
        refine State.stage_keeps c81 ?_
        assumption
      · assumption
    · dsimp only
      assumption
  · dsimp only
    refine State.arm_keeps c10 ?_
    refine keeps_drain c100 ?_
    refine keeps_foldl ?_ _ ?_
    · intro x60 x61 x62
      refine State.stage_keeps c81 ?_
      assumption
    · assumption

theorem State.blockCore_keeps {P : State → Prop} (c : Closed 0x2000 P) {s : State} {a2 : _} {a3 : _} {a4 : _} (h : P s) :
    P (State.blockCore s a2 a3 a4) := by
  have c2000 : Closed 0x2000 P := c.mono rfl
  unfold State.blockCore
  refine State.upStep_keeps c2000 ?_
  assumption

theorem State.moveIdle_keeps {P : State → Prop} (c : Closed 0x81f0105d03706073 P) {s : State} (h : P s) :
    P (State.moveIdle s) := by
  have c400000000 : Closed 0x400000000 P := c.mono rfl
  have c81f0105d03706073 : Closed 0x81f0105d03706073 P := c.mono rfl
  unfold State.moveIdle
  dsimp only
  refine keeps_foldl ?_ _ ?_
  · intro x40 x41 x42
    split
    · split
      · refine State.takeIdle_keeps c81f0105d03706073 ?_
        refine keeps_idleMoves c400000000 ?_
        assumption
      · assumption
    · assumption
  · assumption

theorem State.candidatesAppear_keeps {P : State → Prop} (c : Closed 0x81f0105d03707073 P) {s : State} (h : P s) :
    P (State.candidatesAppear s) := by
  have c81f0104503707073 : Closed 0x81f0104503707073 P := c.mono rfl
  have c81f0105d03706073 : Closed 0x81f0105d03706073 P := c.mono rfl
  unfold State.candidatesAppear
  dsimp only
  refine keeps_else ?_ ?_
  · refine keeps_ite ?_ ?_
    · refine keeps_foldl ?_ _ ?_
      · intro x80 x81 x82
        refine keeps_ite ?_ ?_
        · refine State.sparingNext_keeps c81f0104503707073 ?_
          assumption
        · assumption
      · assumption
    · assumption
  · intro x40
    refine State.moveIdle_keeps c81f0105d03706073 ?_
    assumption

theorem State.chargeEngine_keeps {P : State → Prop} (c : Closed 0x81f05f5d037af073 P) {s : State} {a2 : _} {a3 : _} {a4 : _}
    {a5 : _} {a6 : _} (h : P s) :
    P (State.chargeEngine s a2 a3 a4 a5 a6) := by
  have c1 : Closed 0x1 P := c.mono rfl
  have c10 : Closed 0x10 P := c.mono rfl
  have c8000 : Closed 0x8000 P := c.mono rfl
  have c81f05f5d037a7073 : Closed 0x81f05f5d037a7073 P := c.mono rfl
  unfold State.chargeEngine
  dsimp only
  refine keeps_ite ?_ ?_
  · refine State.fenceEngine_keeps c81f05f5d037a7073 ?_
    refine keeps_suspects c8000 ?_
    assumption
  · refine State.armSweep_keeps c10 ?_
    refine State.setGalley_keeps c1 ?_
    refine keeps_suspects c8000 ?_
    assumption

theorem State.chargeMap_keeps {P : State → Prop} (c : Closed 0x100000000 P) {s : State} {a2 : _} (h : P s) :
    P (State.chargeMap s a2) := by
  have c100000000 : Closed 0x100000000 P := c.mono rfl
  unfold State.chargeMap
  refine keeps_probings c100000000 ?_
  assumption

theorem State.chargeProof_keeps {P : State → Prop} (c : Closed 0x81f05f5d037b7073 P) {s : State} {a2 : _} {a3 : _} {a4 : _}
    (h : P s) :
    P (State.chargeProof s a2 a3 a4) := by
  have c1 : Closed 0x1 P := c.mono rfl
  have c10 : Closed 0x10 P := c.mono rfl
  have c10000 : Closed 0x10000 P := c.mono rfl
  have c81f05f5d037a7073 : Closed 0x81f05f5d037a7073 P := c.mono rfl
  unfold State.chargeProof
  dsimp only
  refine keeps_ite ?_ ?_
  · refine keeps_else ?_ ?_
    · refine State.fenceIfOn_keeps c81f05f5d037a7073 ?_
      refine keeps_proofSuspects c10000 ?_
      assumption
    · intro x60
      refine State.putN_keeps c1 ?_
      assumption
  · refine keeps_else ?_ ?_
    · refine keeps_proofSuspects c10000 ?_
      assumption
    · intro x60
      refine State.armSweep_keeps c10 ?_
      refine State.putN_keeps c1 ?_
      assumption

theorem State.giveDuty_keeps {P : State → Prop} (c : Closed 0x1 P) {s : State} {a2 : _} {a3 : _} (h : P s) :
    P (State.giveDuty s a2 a3) := by
  have c1 : Closed 0x1 P := c.mono rfl
  unfold State.giveDuty
  dsimp only
  refine State.put_keeps c1 ?_
  assumption

theorem State.retireOther_keeps {P : State → Prop} (c : Closed 0x81f01e0000200073 P) {s : State} {a2 : _} {a3 : _} {a4 : _}
    {a5 : _} (h : P s) :
    P (State.retireOther s a2 a3 a4 a5) := by
  have c20000000000 : Closed 0x20000000000 P := c.mono rfl
  have c81f01c0000200073 : Closed 0x81f01c0000200073 P := c.mono rfl
  unfold State.retireOther
  dsimp only
  refine State.retireUnit_keeps c81f01c0000200073 ?_
  refine State.countFence_keeps c20000000000 ?_
  assumption

theorem State.commitOnAge_keeps {P : State → Prop} (c : Closed 0x81f0100000302073 P) {s : State} {a2 : _} (h : P s) :
    P (State.commitOnAge s a2) := by
  have c1 : Closed 0x1 P := c.mono rfl
  have c20 : Closed 0x20 P := c.mono rfl
  have c202001 : Closed 0x202001 P := c.mono rfl
  have c80000000200003 : Closed 0x80000000200003 P := c.mono rfl
  have c81f0100000302073 : Closed 0x81f0100000302073 P := c.mono rfl
  unfold State.commitOnAge
  dsimp only
  refine keeps_then ?_ ?_
  · refine State.commitStep_keeps c81f0100000302073 ?_
    assumption
  · intro x40
    refine State.recordColophons_keeps c80000000200003 ?_
    refine State.putN_keeps c1 ?_
    refine State.jobClearHere_keeps c202001 ?_
    refine State.toWorkers_keeps c20 ?_
    assumption

theorem State.returnDuties_keeps {P : State → Prop} (c : Closed 0x200000000000001 P) {s : State} (h : P s) :
    P (State.returnDuties s) := by
  have c1 : Closed 0x1 P := c.mono rfl
  have c200000000000000 : Closed 0x200000000000000 P := c.mono rfl
  unfold State.returnDuties
  dsimp only
  refine keeps_foldl ?_ _ ?_
  · intro x40 x41 x42
    refine keeps_ite ?_ ?_
    · refine State.giveDuty_keeps c1 ?_
      refine State.setPc_keeps c200000000000000 ?_
      assumption
    · assumption
  · assumption

theorem State.timeStep_keeps {P : State → Prop} (c : Closed 0x2 P) {s : State} {a2 : _} {a3 : _} {a4 : _} {a5 : _} (h : P s) :
    P (State.timeStep s a2 a3 a4 a5) := by
  have c2 : Closed 0x2 P := c.mono rfl
  unfold State.timeStep
  dsimp only
  refine State.setContent_keeps c2 ?_
  assumption

theorem State.completeBarrier_keeps {P : State → Prop} (c : Closed 0x3200001014060f7 P) {s : State} {a2 : _} {a3 : _}
    {a4 : _} {a5 : _} (h : P s) :
    P (State.completeBarrier s a2 a3 a4 a5) := by
  have c1 : Closed 0x1 P := c.mono rfl
  have c2 : Closed 0x2 P := c.mono rfl
  have c2000 : Closed 0x2000 P := c.mono rfl
  have c2001 : Closed 0x2001 P := c.mono rfl
  have c2085 : Closed 0x2085 P := c.mono rfl
  have c20000000000041 : Closed 0x20000000000041 P := c.mono rfl
  have c120000101404071 : Closed 0x120000101404071 P := c.mono rfl
  have c200000000000001 : Closed 0x200000000000001 P := c.mono rfl
  unfold State.completeBarrier
  dsimp only
  split
  · refine keeps_ite ?_ ?_
    · refine State.upDom_keeps c2000 ?_
      refine State.putN_keeps c1 ?_
      refine State.returnDuties_keeps c200000000000001 ?_
      refine keeps_foldl ?_ _ ?_
      · intro x80 x81 x82
        refine State.lowerTrim_keeps c120000101404071 ?_
        assumption
      · refine State.applyStaged_keeps c2085 ?_
        refine State.ringEvents_keeps c20000000000041 ?_
        refine State.showColophons_keeps c2 ?_
        refine State.put_keeps c1 ?_
        refine State.putN_keeps c1 ?_
        refine keeps_then ?_ ?_
        · refine keeps_else ?_ ?_
          · refine State.timeStep_keeps c2 ?_
            refine State.upStep_keeps c2000 ?_
            refine State.endHold_keeps c2001 ?_
            assumption
          · intro x120
            refine State.bump_keeps c1 ?_
            assumption
        · intro x100
          refine State.bump_keeps c1 ?_
          assumption
    · refine State.openStep_keeps c2000 ?_
      refine State.putN_keeps c1 ?_
      refine State.returnDuties_keeps c200000000000001 ?_
      refine keeps_foldl ?_ _ ?_
      · intro x80 x81 x82
        refine State.lowerTrim_keeps c120000101404071 ?_
        assumption
      · refine State.applyStaged_keeps c2085 ?_
        refine State.ringEvents_keeps c20000000000041 ?_
        refine State.showColophons_keeps c2 ?_
        refine State.put_keeps c1 ?_
        refine State.putN_keeps c1 ?_
        refine keeps_then ?_ ?_
        · refine keeps_else ?_ ?_
          · refine State.timeStep_keeps c2 ?_
            refine State.upStep_keeps c2000 ?_
            refine State.endHold_keeps c2001 ?_
            assumption
          · intro x120
            refine State.bump_keeps c1 ?_
            assumption
        · intro x100
          refine State.bump_keeps c1 ?_
          assumption
  · refine State.openStep_keeps c2000 ?_
    refine State.putN_keeps c1 ?_
    refine State.returnDuties_keeps c200000000000001 ?_
    refine keeps_foldl ?_ _ ?_
    · intro x60 x61 x62
      refine State.lowerTrim_keeps c120000101404071 ?_
      assumption
    · refine State.applyStaged_keeps c2085 ?_
      refine State.ringEvents_keeps c20000000000041 ?_
      refine State.showColophons_keeps c2 ?_
      refine State.put_keeps c1 ?_
      refine State.putN_keeps c1 ?_
      refine keeps_then ?_ ?_
      · refine keeps_else ?_ ?_
        · refine State.timeStep_keeps c2 ?_
          refine State.upStep_keeps c2000 ?_
          refine State.endHold_keeps c2001 ?_
          assumption
        · intro x100
          refine State.bump_keeps c1 ?_
          assumption
      · intro x80
        refine State.bump_keeps c1 ?_
        assumption

theorem State.resetDump_keeps {P : State → Prop} (c : Closed 0xc0000000000000 P) {s : State} {a2 : _} {a3 : _} {a4 : _}
    {a5 : _} {a6 : _} {a7 : _} (h : P s) :
    P (State.resetDump s a2 a3 a4 a5 a6 a7).1 := by
  have cc0000000000000 : Closed 0xc0000000000000 P := c.mono rfl
  unfold State.resetDump
  dsimp only
  refine State.newDump_keeps cc0000000000000 ?_
  assumption

theorem State.failed_keeps {P : State → Prop} (c : Closed 0x81f01000003a7073 P) {s : State} {a2 : _} {a3 : _} {a4 : _}
    (h : P s) :
    P (State.failed s a2 a3 a4) := by
  have c20 : Closed 0x20 P := c.mono rfl
  have c200000003a6033 : Closed 0x200000003a6033 P := c.mono rfl
  have c81f01000003a7073 : Closed 0x81f01000003a7073 P := c.mono rfl
  unfold State.failed
  dsimp only
  refine keeps_ite ?_ ?_
  · refine keeps_ite ?_ ?_
    · split
      · refine keeps_ite ?_ ?_
        · refine State.carryTaints_keeps c20 ?_
          assumption
        · refine State.toSteward_keeps c20 ?_
          assumption
      · assumption
    · assumption
  · refine keeps_ite ?_ ?_
    · refine State.rollbackHere_keeps c200000003a6033 ?_
      assumption
    · refine keeps_ite ?_ ?_
      · refine State.stewardFailure_keeps c81f01000003a7073 ?_
        assumption
      · refine State.toSteward_keeps c20 ?_
        assumption

theorem State.narrowingEnd_keeps {P : State → Prop} (c : Closed 0x200000003a7073 P) {s : State} {a2 : _} {a3 : _} (h : P s) :
    P (State.narrowingEnd s a2 a3) := by
  have c20 : Closed 0x20 P := c.mono rfl
  have c200000003a7073 : Closed 0x200000003a7073 P := c.mono rfl
  unfold State.narrowingEnd
  refine keeps_ite ?_ ?_
  · assumption
  · refine keeps_ite ?_ ?_
    · refine State.narrowOutcome_keeps c200000003a7073 ?_
      assumption
    · refine State.toSteward_keeps c20 ?_
      assumption

theorem State.proofFailure_keeps {P : State → Prop} (c : Closed 0x81f05f5d037b7073 P) {s : State} {a2 : _} {a3 : _} {a4 : _}
    {a5 : _} {a6 : _} {a7 : _} {a8 : _} (h : P s) :
    P (State.proofFailure s a2 a3 a4 a5 a6 a7 a8) := by
  have c3 : Closed 0x3 P := c.mono rfl
  have c20 : Closed 0x20 P := c.mono rfl
  have c2000 : Closed 0x2000 P := c.mono rfl
  have c80000000000001 : Closed 0x80000000000001 P := c.mono rfl
  have c81f0100000200073 : Closed 0x81f0100000200073 P := c.mono rfl
  have c81f01000003a7073 : Closed 0x81f01000003a7073 P := c.mono rfl
  have c81f0100101604073 : Closed 0x81f0100101604073 P := c.mono rfl
  have c81f05f5d037b7073 : Closed 0x81f05f5d037b7073 P := c.mono rfl
  unfold State.proofFailure
  dsimp only
  refine State.priorityProof_keeps c2000 ?_
  refine keeps_ite ?_ ?_
  · refine State.failed_keeps c81f01000003a7073 ?_
    refine keeps_foldl ?_ _ ?_
    · intro x60 x61 x62
      refine State.chargeProof_keeps c81f05f5d037b7073 ?_
      assumption
    · refine State.upDom_keeps c2000 ?_
      split
      · refine State.revertTrim_keeps c81f0100101604073 ?_
        split
        · split
          · refine State.event_keeps c80000000000001 ?_
            refine keeps_then ?_ ?_
            · refine keeps_then ?_ ?_
              · refine State.raiseWith_keeps c81f0100000200073 ?_
                refine State.keepReport_keeps c3 ?_
                assumption
              · intro x160
                refine State.raiseWith_keeps c81f0100000200073 ?_
                assumption
            · intro x140
              refine State.raiseWith_keeps c81f0100000200073 ?_
              assumption
          · refine keeps_then ?_ ?_
            · refine keeps_then ?_ ?_
              · refine State.raiseWith_keeps c81f0100000200073 ?_
                refine State.keepReport_keeps c3 ?_
                assumption
              · intro x160
                refine State.raiseWith_keeps c81f0100000200073 ?_
                assumption
            · intro x140
              refine State.raiseWith_keeps c81f0100000200073 ?_
              assumption
        · refine keeps_then ?_ ?_
          · refine keeps_then ?_ ?_
            · refine State.raiseWith_keeps c81f0100000200073 ?_
              refine State.keepReport_keeps c3 ?_
              assumption
            · intro x140
              refine State.raiseWith_keeps c81f0100000200073 ?_
              assumption
          · intro x120
            refine State.raiseWith_keeps c81f0100000200073 ?_
            assumption
      · split
        · split
          · refine State.event_keeps c80000000000001 ?_
            refine keeps_then ?_ ?_
            · refine keeps_then ?_ ?_
              · refine State.raiseWith_keeps c81f0100000200073 ?_
                refine State.keepReport_keeps c3 ?_
                assumption
              · intro x160
                refine State.raiseWith_keeps c81f0100000200073 ?_
                assumption
            · intro x140
              refine State.raiseWith_keeps c81f0100000200073 ?_
              assumption
          · refine keeps_then ?_ ?_
            · refine keeps_then ?_ ?_
              · refine State.raiseWith_keeps c81f0100000200073 ?_
                refine State.keepReport_keeps c3 ?_
                assumption
              · intro x160
                refine State.raiseWith_keeps c81f0100000200073 ?_
                assumption
            · intro x140
              refine State.raiseWith_keeps c81f0100000200073 ?_
              assumption
        · refine keeps_then ?_ ?_
          · refine keeps_then ?_ ?_
            · refine State.raiseWith_keeps c81f0100000200073 ?_
              refine State.keepReport_keeps c3 ?_
              assumption
            · intro x140
              refine State.raiseWith_keeps c81f0100000200073 ?_
              assumption
          · intro x120
            refine State.raiseWith_keeps c81f0100000200073 ?_
            assumption
  · refine keeps_ite ?_ ?_
    · refine State.carryTaints_keeps c20 ?_
      refine keeps_foldl ?_ _ ?_
      · intro x80 x81 x82
        refine State.chargeProof_keeps c81f05f5d037b7073 ?_
        assumption
      · refine State.upDom_keeps c2000 ?_
        split
        · refine State.revertTrim_keeps c81f0100101604073 ?_
          split
          · split
            · refine State.event_keeps c80000000000001 ?_
              refine keeps_then ?_ ?_
              · refine keeps_then ?_ ?_
                · refine State.raiseWith_keeps c81f0100000200073 ?_
                  refine State.keepReport_keeps c3 ?_
                  assumption
                · intro x180
                  refine State.raiseWith_keeps c81f0100000200073 ?_
                  assumption
              · intro x160
                refine State.raiseWith_keeps c81f0100000200073 ?_
                assumption
            · refine keeps_then ?_ ?_
              · refine keeps_then ?_ ?_
                · refine State.raiseWith_keeps c81f0100000200073 ?_
                  refine State.keepReport_keeps c3 ?_
                  assumption
                · intro x180
                  refine State.raiseWith_keeps c81f0100000200073 ?_
                  assumption
              · intro x160
                refine State.raiseWith_keeps c81f0100000200073 ?_
                assumption
          · refine keeps_then ?_ ?_
            · refine keeps_then ?_ ?_
              · refine State.raiseWith_keeps c81f0100000200073 ?_
                refine State.keepReport_keeps c3 ?_
                assumption
              · intro x160
                refine State.raiseWith_keeps c81f0100000200073 ?_
                assumption
            · intro x140
              refine State.raiseWith_keeps c81f0100000200073 ?_
              assumption
        · split
          · split
            · refine State.event_keeps c80000000000001 ?_
              refine keeps_then ?_ ?_
              · refine keeps_then ?_ ?_
                · refine State.raiseWith_keeps c81f0100000200073 ?_
                  refine State.keepReport_keeps c3 ?_
                  assumption
                · intro x180
                  refine State.raiseWith_keeps c81f0100000200073 ?_
                  assumption
              · intro x160
                refine State.raiseWith_keeps c81f0100000200073 ?_
                assumption
            · refine keeps_then ?_ ?_
              · refine keeps_then ?_ ?_
                · refine State.raiseWith_keeps c81f0100000200073 ?_
                  refine State.keepReport_keeps c3 ?_
                  assumption
                · intro x180
                  refine State.raiseWith_keeps c81f0100000200073 ?_
                  assumption
              · intro x160
                refine State.raiseWith_keeps c81f0100000200073 ?_
                assumption
          · refine keeps_then ?_ ?_
            · refine keeps_then ?_ ?_
              · refine State.raiseWith_keeps c81f0100000200073 ?_
                refine State.keepReport_keeps c3 ?_
                assumption
              · intro x160
                refine State.raiseWith_keeps c81f0100000200073 ?_
                assumption
            · intro x140
              refine State.raiseWith_keeps c81f0100000200073 ?_
              assumption
    · refine State.toSteward_keeps c20 ?_
      refine keeps_foldl ?_ _ ?_
      · intro x80 x81 x82
        refine State.chargeProof_keeps c81f05f5d037b7073 ?_
        assumption
      · refine State.upDom_keeps c2000 ?_
        split
        · refine State.revertTrim_keeps c81f0100101604073 ?_
          split
          · split
            · refine State.event_keeps c80000000000001 ?_
              refine keeps_then ?_ ?_
              · refine keeps_then ?_ ?_
                · refine State.raiseWith_keeps c81f0100000200073 ?_
                  refine State.keepReport_keeps c3 ?_
                  assumption
                · intro x180
                  refine State.raiseWith_keeps c81f0100000200073 ?_
                  assumption
              · intro x160
                refine State.raiseWith_keeps c81f0100000200073 ?_
                assumption
            · refine keeps_then ?_ ?_
              · refine keeps_then ?_ ?_
                · refine State.raiseWith_keeps c81f0100000200073 ?_
                  refine State.keepReport_keeps c3 ?_
                  assumption
                · intro x180
                  refine State.raiseWith_keeps c81f0100000200073 ?_
                  assumption
              · intro x160
                refine State.raiseWith_keeps c81f0100000200073 ?_
                assumption
          · refine keeps_then ?_ ?_
            · refine keeps_then ?_ ?_
              · refine State.raiseWith_keeps c81f0100000200073 ?_
                refine State.keepReport_keeps c3 ?_
                assumption
              · intro x160
                refine State.raiseWith_keeps c81f0100000200073 ?_
                assumption
            · intro x140
              refine State.raiseWith_keeps c81f0100000200073 ?_
              assumption
        · split
          · split
            · refine State.event_keeps c80000000000001 ?_
              refine keeps_then ?_ ?_
              · refine keeps_then ?_ ?_
                · refine State.raiseWith_keeps c81f0100000200073 ?_
                  refine State.keepReport_keeps c3 ?_
                  assumption
                · intro x180
                  refine State.raiseWith_keeps c81f0100000200073 ?_
                  assumption
              · intro x160
                refine State.raiseWith_keeps c81f0100000200073 ?_
                assumption
            · refine keeps_then ?_ ?_
              · refine keeps_then ?_ ?_
                · refine State.raiseWith_keeps c81f0100000200073 ?_
                  refine State.keepReport_keeps c3 ?_
                  assumption
                · intro x180
                  refine State.raiseWith_keeps c81f0100000200073 ?_
                  assumption
              · intro x160
                refine State.raiseWith_keeps c81f0100000200073 ?_
                assumption
          · refine keeps_then ?_ ?_
            · refine keeps_then ?_ ?_
              · refine State.raiseWith_keeps c81f0100000200073 ?_
                refine State.keepReport_keeps c3 ?_
                assumption
              · intro x160
                refine State.raiseWith_keeps c81f0100000200073 ?_
                assumption
            · intro x140
              refine State.raiseWith_keeps c81f0100000200073 ?_
              assumption

theorem State.failProof_keeps {P : State → Prop} (c : Closed 0x81f05f5d037b7073 P) {s : State} {a2 : _} {a3 : _} (h : P s) :
    P (State.failProof s a2 a3) := by
  have c1 : Closed 0x1 P := c.mono rfl
  have c2000 : Closed 0x2000 P := c.mono rfl
  have c6030 : Closed 0x6030 P := c.mono rfl
  have c200000003a7073 : Closed 0x200000003a7073 P := c.mono rfl
  have c81f05f5d037b7073 : Closed 0x81f05f5d037b7073 P := c.mono rfl
  unfold State.failProof
  dsimp only
  refine State.narrowingEnd_keeps c200000003a7073 ?_
  refine State.proofFailure_keeps c81f05f5d037b7073 ?_
  refine State.dropProof_keeps c6030 ?_
  refine State.upCore_keeps c2000 ?_
  split
  · refine State.bump_keeps c1 ?_
    refine State.bump_keeps c1 ?_
    assumption
  · refine State.bump_keeps c1 ?_
    assumption

theorem State.reviseLost_keeps {P : State → Prop} (c : Closed 0x6020 P) {s : State} {a2 : _} (h : P s) :
    P (State.reviseLost s a2).1 := by
  have c4000 : Closed 0x4000 P := c.mono rfl
  have c6020 : Closed 0x6020 P := c.mono rfl
  unfold State.reviseLost
  dsimp only
  split
  · dsimp only
    refine State.placeWaiting_keeps c6020 ?_
    refine keeps_proofs c4000 ?_
    assumption
  · dsimp only
    assumption

theorem State.loseRevise_keeps {P : State → Prop} (c : Closed 0x81f05f5d037b7073 P) {s : State} {a2 : _} (h : P s) :
    P (State.loseRevise s a2) := by
  have c6020 : Closed 0x6020 P := c.mono rfl
  have c81f05f5d037b7073 : Closed 0x81f05f5d037b7073 P := c.mono rfl
  unfold State.loseRevise
  dsimp only
  refine keeps_then ?_ ?_
  · refine State.reviseLost_keeps c6020 ?_
    assumption
  · intro x40
    refine State.failProof_keeps c81f05f5d037b7073 ?_
    assumption

theorem State.raiseMismatch_keeps {P : State → Prop} (c : Closed 0x81f0100000200073 P) {s : State} {a2 : _} {a3 : _}
    (h : P s) :
    P (State.raiseMismatch s a2 a3) := by
  have c1 : Closed 0x1 P := c.mono rfl
  have c2 : Closed 0x2 P := c.mono rfl
  have c81f0100000200073 : Closed 0x81f0100000200073 P := c.mono rfl
  unfold State.raiseMismatch
  dsimp only
  refine keeps_then ?_ ?_
  · refine State.raiseWith_keeps c81f0100000200073 ?_
    assumption
  · intro x40
    refine State.put_keeps c1 ?_
    refine State.setContent_keeps c2 ?_
    assumption

theorem State.reissueProof_keeps {P : State → Prop} (c : Closed 0x81f0100000206073 P) {s : State} {a2 : _} (h : P s) :
    P (State.reissueProof s a2) := by
  have c1 : Closed 0x1 P := c.mono rfl
  have c10 : Closed 0x10 P := c.mono rfl
  have c4000 : Closed 0x4000 P := c.mono rfl
  have c6020 : Closed 0x6020 P := c.mono rfl
  have c6071 : Closed 0x6071 P := c.mono rfl
  have c81f0100000200073 : Closed 0x81f0100000200073 P := c.mono rfl
  unfold State.reissueProof
  dsimp only
  split
  · refine State.placeWaiting_keeps c6020 ?_
    refine keeps_proofs c4000 ?_
    refine State.raise_keeps c81f0100000200073 ?_
    refine State.bump_keeps c1 ?_
    assumption
  · refine State.reproof_keeps c6071 ?_
    refine State.placeWaiting_keeps c6020 ?_
    refine State.armProof_keeps c10 ?_
    refine State.bump_keeps c1 ?_
    refine keeps_proofs c4000 ?_
    refine State.raise_keeps c81f0100000200073 ?_
    refine State.bump_keeps c1 ?_
    assumption

theorem State.mismatch_keeps {P : State → Prop} (c : Closed 0x81f05f5d037bf073 P) {s : State} {a2 : _} (h : P s) :
    P (State.mismatch s a2) := by
  have c1 : Closed 0x1 P := c.mono rfl
  have c2000 : Closed 0x2000 P := c.mono rfl
  have c100000000 : Closed 0x100000000 P := c.mono rfl
  have c20000000000041 : Closed 0x20000000000041 P := c.mono rfl
  have c81f0100000200073 : Closed 0x81f0100000200073 P := c.mono rfl
  have c81f0100000206073 : Closed 0x81f0100000206073 P := c.mono rfl
  have c81f01000003a7073 : Closed 0x81f01000003a7073 P := c.mono rfl
  have c81f0100101604073 : Closed 0x81f0100101604073 P := c.mono rfl
  have c81f05f5d037af073 : Closed 0x81f05f5d037af073 P := c.mono rfl
  have c81f05f5d037b7073 : Closed 0x81f05f5d037b7073 P := c.mono rfl
  unfold State.mismatch
  dsimp only
  split
  · split
    · refine keeps_else ?_ ?_
      · refine keeps_ite ?_ ?_
        · refine State.chargeMap_keeps c100000000 ?_
          split
          · refine State.revertTrim_keeps c81f0100101604073 ?_
            refine State.raiseMismatch_keeps c81f0100000200073 ?_
            refine State.ringEvent_keeps c20000000000041 ?_
            split
            · refine keeps_then ?_ ?_
              · split
                · refine State.putN_keeps c1 ?_
                  refine keeps_then ?_ ?_
                  · refine State.bump_keeps c1 ?_
                    refine State.bump_keeps c1 ?_
                    assumption
                  · intro x200
                    refine State.bump_keeps c1 ?_
                    assumption
                · refine keeps_then ?_ ?_
                  · refine State.bump_keeps c1 ?_
                    refine State.bump_keeps c1 ?_
                    assumption
                  · intro x200
                    refine State.bump_keeps c1 ?_
                    assumption
              · intro x160
                refine State.blockCore_keeps c2000 ?_
                assumption
            · refine keeps_then ?_ ?_
              · split
                · refine State.putN_keeps c1 ?_
                  refine keeps_then ?_ ?_
                  · refine State.bump_keeps c1 ?_
                    refine State.bump_keeps c1 ?_
                    assumption
                  · intro x200
                    refine State.bump_keeps c1 ?_
                    assumption
                · refine keeps_then ?_ ?_
                  · refine State.bump_keeps c1 ?_
                    refine State.bump_keeps c1 ?_
                    assumption
                  · intro x200
                    refine State.bump_keeps c1 ?_
                    assumption
              · intro x160
                refine State.blockCore_keeps c2000 ?_
                assumption
          · refine State.raiseMismatch_keeps c81f0100000200073 ?_
            refine State.ringEvent_keeps c20000000000041 ?_
            split
            · refine keeps_then ?_ ?_
              · split
                · refine State.putN_keeps c1 ?_
                  refine keeps_then ?_ ?_
                  · refine State.bump_keeps c1 ?_
                    refine State.bump_keeps c1 ?_
                    assumption
                  · intro x200
                    refine State.bump_keeps c1 ?_
                    assumption
                · refine keeps_then ?_ ?_
                  · refine State.bump_keeps c1 ?_
                    refine State.bump_keeps c1 ?_
                    assumption
                  · intro x200
                    refine State.bump_keeps c1 ?_
                    assumption
              · intro x160
                refine State.blockCore_keeps c2000 ?_
                assumption
            · split
              · refine State.putN_keeps c1 ?_
                refine keeps_then ?_ ?_
                · refine State.bump_keeps c1 ?_
                  refine State.bump_keeps c1 ?_
                  assumption
                · intro x180
                  refine State.bump_keeps c1 ?_
                  assumption
              · refine keeps_then ?_ ?_
                · refine State.bump_keeps c1 ?_
                  refine State.bump_keeps c1 ?_
                  assumption
                · intro x180
                  refine State.bump_keeps c1 ?_
                  assumption
        · split
          · refine State.chargeEngine_keeps c81f05f5d037af073 ?_
            split
            · refine State.revertTrim_keeps c81f0100101604073 ?_
              refine State.raiseMismatch_keeps c81f0100000200073 ?_
              refine State.ringEvent_keeps c20000000000041 ?_
              split
              · refine keeps_then ?_ ?_
                · split
                  · refine State.putN_keeps c1 ?_
                    refine keeps_then ?_ ?_
                    · refine State.bump_keeps c1 ?_
                      refine State.bump_keeps c1 ?_
                      assumption
                    · intro x220
                      refine State.bump_keeps c1 ?_
                      assumption
                  · refine keeps_then ?_ ?_
                    · refine State.bump_keeps c1 ?_
                      refine State.bump_keeps c1 ?_
                      assumption
                    · intro x220
                      refine State.bump_keeps c1 ?_
                      assumption
                · intro x180
                  refine State.blockCore_keeps c2000 ?_
                  assumption
              · refine keeps_then ?_ ?_
                · split
                  · refine State.putN_keeps c1 ?_
                    refine keeps_then ?_ ?_
                    · refine State.bump_keeps c1 ?_
                      refine State.bump_keeps c1 ?_
                      assumption
                    · intro x220
                      refine State.bump_keeps c1 ?_
                      assumption
                  · refine keeps_then ?_ ?_
                    · refine State.bump_keeps c1 ?_
                      refine State.bump_keeps c1 ?_
                      assumption
                    · intro x220
                      refine State.bump_keeps c1 ?_
                      assumption
                · intro x180
                  refine State.blockCore_keeps c2000 ?_
                  assumption
            · refine State.raiseMismatch_keeps c81f0100000200073 ?_
              refine State.ringEvent_keeps c20000000000041 ?_
              split
              · refine keeps_then ?_ ?_
                · split
                  · refine State.putN_keeps c1 ?_
                    refine keeps_then ?_ ?_
                    · refine State.bump_keeps c1 ?_
                      refine State.bump_keeps c1 ?_
                      assumption
                    · intro x220
                      refine State.bump_keeps c1 ?_
                      assumption
                  · refine keeps_then ?_ ?_
                    · refine State.bump_keeps c1 ?_
                      refine State.bump_keeps c1 ?_
                      assumption
                    · intro x220
                      refine State.bump_keeps c1 ?_
                      assumption
                · intro x180
                  refine State.blockCore_keeps c2000 ?_
                  assumption
              · split
                · refine State.putN_keeps c1 ?_
                  refine keeps_then ?_ ?_
                  · refine State.bump_keeps c1 ?_
                    refine State.bump_keeps c1 ?_
                    assumption
                  · intro x200
                    refine State.bump_keeps c1 ?_
                    assumption
                · refine keeps_then ?_ ?_
                  · refine State.bump_keeps c1 ?_
                    refine State.bump_keeps c1 ?_
                    assumption
                  · intro x200
                    refine State.bump_keeps c1 ?_
                    assumption
          · split
            · refine State.revertTrim_keeps c81f0100101604073 ?_
              refine State.raiseMismatch_keeps c81f0100000200073 ?_
              refine State.ringEvent_keeps c20000000000041 ?_
              split
              · refine keeps_then ?_ ?_
                · split
                  · refine State.putN_keeps c1 ?_
                    refine keeps_then ?_ ?_
                    · refine State.bump_keeps c1 ?_
                      refine State.bump_keeps c1 ?_
                      assumption
                    · intro x220
                      refine State.bump_keeps c1 ?_
                      assumption
                  · refine keeps_then ?_ ?_
                    · refine State.bump_keeps c1 ?_
                      refine State.bump_keeps c1 ?_
                      assumption
                    · intro x220
                      refine State.bump_keeps c1 ?_
                      assumption
                · intro x180
                  refine State.blockCore_keeps c2000 ?_
                  assumption
              · refine keeps_then ?_ ?_
                · split
                  · refine State.putN_keeps c1 ?_
                    refine keeps_then ?_ ?_
                    · refine State.bump_keeps c1 ?_
                      refine State.bump_keeps c1 ?_
                      assumption
                    · intro x220
                      refine State.bump_keeps c1 ?_
                      assumption
                  · refine keeps_then ?_ ?_
                    · refine State.bump_keeps c1 ?_
                      refine State.bump_keeps c1 ?_
                      assumption
                    · intro x220
                      refine State.bump_keeps c1 ?_
                      assumption
                · intro x180
                  refine State.blockCore_keeps c2000 ?_
                  assumption
            · refine State.raiseMismatch_keeps c81f0100000200073 ?_
              refine State.ringEvent_keeps c20000000000041 ?_
              split
              · refine keeps_then ?_ ?_
                · split
                  · refine State.putN_keeps c1 ?_
                    refine keeps_then ?_ ?_
                    · refine State.bump_keeps c1 ?_
                      refine State.bump_keeps c1 ?_
                      assumption
                    · intro x220
                      refine State.bump_keeps c1 ?_
                      assumption
                  · refine keeps_then ?_ ?_
                    · refine State.bump_keeps c1 ?_
                      refine State.bump_keeps c1 ?_
                      assumption
                    · intro x220
                      refine State.bump_keeps c1 ?_
                      assumption
                · intro x180
                  refine State.blockCore_keeps c2000 ?_
                  assumption
              · split
                · refine State.putN_keeps c1 ?_
                  refine keeps_then ?_ ?_
                  · refine State.bump_keeps c1 ?_
                    refine State.bump_keeps c1 ?_
                    assumption
                  · intro x200
                    refine State.bump_keeps c1 ?_
                    assumption
                · refine keeps_then ?_ ?_
                  · refine State.bump_keeps c1 ?_
                    refine State.bump_keeps c1 ?_
                    assumption
                  · intro x200
                    refine State.bump_keeps c1 ?_
                    assumption
      · intro x80
        split
        · refine State.priorityProof_keeps c2000 ?_
          refine State.failed_keeps c81f01000003a7073 ?_
          assumption
        · refine State.failed_keeps c81f01000003a7073 ?_
          assumption
    · refine keeps_ite ?_ ?_
      · refine State.chargeMap_keeps c100000000 ?_
        split
        · refine State.revertTrim_keeps c81f0100101604073 ?_
          refine State.raiseMismatch_keeps c81f0100000200073 ?_
          refine State.ringEvent_keeps c20000000000041 ?_
          split
          · refine keeps_then ?_ ?_
            · split
              · refine State.putN_keeps c1 ?_
                refine keeps_then ?_ ?_
                · refine State.bump_keeps c1 ?_
                  refine State.bump_keeps c1 ?_
                  assumption
                · intro x180
                  refine State.bump_keeps c1 ?_
                  assumption
              · refine keeps_then ?_ ?_
                · refine State.bump_keeps c1 ?_
                  refine State.bump_keeps c1 ?_
                  assumption
                · intro x180
                  refine State.bump_keeps c1 ?_
                  assumption
            · intro x140
              refine State.blockCore_keeps c2000 ?_
              assumption
          · refine keeps_then ?_ ?_
            · split
              · refine State.putN_keeps c1 ?_
                refine keeps_then ?_ ?_
                · refine State.bump_keeps c1 ?_
                  refine State.bump_keeps c1 ?_
                  assumption
                · intro x180
                  refine State.bump_keeps c1 ?_
                  assumption
              · refine keeps_then ?_ ?_
                · refine State.bump_keeps c1 ?_
                  refine State.bump_keeps c1 ?_
                  assumption
                · intro x180
                  refine State.bump_keeps c1 ?_
                  assumption
            · intro x140
              refine State.blockCore_keeps c2000 ?_
              assumption
        · refine State.raiseMismatch_keeps c81f0100000200073 ?_
          refine State.ringEvent_keeps c20000000000041 ?_
          split
          · refine keeps_then ?_ ?_
            · split
              · refine State.putN_keeps c1 ?_
                refine keeps_then ?_ ?_
                · refine State.bump_keeps c1 ?_
                  refine State.bump_keeps c1 ?_
                  assumption
                · intro x180
                  refine State.bump_keeps c1 ?_
                  assumption
              · refine keeps_then ?_ ?_
                · refine State.bump_keeps c1 ?_
                  refine State.bump_keeps c1 ?_
                  assumption
                · intro x180
                  refine State.bump_keeps c1 ?_
                  assumption
            · intro x140
              refine State.blockCore_keeps c2000 ?_
              assumption
          · split
            · refine State.putN_keeps c1 ?_
              refine keeps_then ?_ ?_
              · refine State.bump_keeps c1 ?_
                refine State.bump_keeps c1 ?_
                assumption
              · intro x160
                refine State.bump_keeps c1 ?_
                assumption
            · refine keeps_then ?_ ?_
              · refine State.bump_keeps c1 ?_
                refine State.bump_keeps c1 ?_
                assumption
              · intro x160
                refine State.bump_keeps c1 ?_
                assumption
      · split
        · refine State.chargeEngine_keeps c81f05f5d037af073 ?_
          split
          · refine State.revertTrim_keeps c81f0100101604073 ?_
            refine State.raiseMismatch_keeps c81f0100000200073 ?_
            refine State.ringEvent_keeps c20000000000041 ?_
            split
            · refine keeps_then ?_ ?_
              · split
                · refine State.putN_keeps c1 ?_
                  refine keeps_then ?_ ?_
                  · refine State.bump_keeps c1 ?_
                    refine State.bump_keeps c1 ?_
                    assumption
                  · intro x200
                    refine State.bump_keeps c1 ?_
                    assumption
                · refine keeps_then ?_ ?_
                  · refine State.bump_keeps c1 ?_
                    refine State.bump_keeps c1 ?_
                    assumption
                  · intro x200
                    refine State.bump_keeps c1 ?_
                    assumption
              · intro x160
                refine State.blockCore_keeps c2000 ?_
                assumption
            · refine keeps_then ?_ ?_
              · split
                · refine State.putN_keeps c1 ?_
                  refine keeps_then ?_ ?_
                  · refine State.bump_keeps c1 ?_
                    refine State.bump_keeps c1 ?_
                    assumption
                  · intro x200
                    refine State.bump_keeps c1 ?_
                    assumption
                · refine keeps_then ?_ ?_
                  · refine State.bump_keeps c1 ?_
                    refine State.bump_keeps c1 ?_
                    assumption
                  · intro x200
                    refine State.bump_keeps c1 ?_
                    assumption
              · intro x160
                refine State.blockCore_keeps c2000 ?_
                assumption
          · refine State.raiseMismatch_keeps c81f0100000200073 ?_
            refine State.ringEvent_keeps c20000000000041 ?_
            split
            · refine keeps_then ?_ ?_
              · split
                · refine State.putN_keeps c1 ?_
                  refine keeps_then ?_ ?_
                  · refine State.bump_keeps c1 ?_
                    refine State.bump_keeps c1 ?_
                    assumption
                  · intro x200
                    refine State.bump_keeps c1 ?_
                    assumption
                · refine keeps_then ?_ ?_
                  · refine State.bump_keeps c1 ?_
                    refine State.bump_keeps c1 ?_
                    assumption
                  · intro x200
                    refine State.bump_keeps c1 ?_
                    assumption
              · intro x160
                refine State.blockCore_keeps c2000 ?_
                assumption
            · split
              · refine State.putN_keeps c1 ?_
                refine keeps_then ?_ ?_
                · refine State.bump_keeps c1 ?_
                  refine State.bump_keeps c1 ?_
                  assumption
                · intro x180
                  refine State.bump_keeps c1 ?_
                  assumption
              · refine keeps_then ?_ ?_
                · refine State.bump_keeps c1 ?_
                  refine State.bump_keeps c1 ?_
                  assumption
                · intro x180
                  refine State.bump_keeps c1 ?_
                  assumption
        · split
          · refine State.revertTrim_keeps c81f0100101604073 ?_
            refine State.raiseMismatch_keeps c81f0100000200073 ?_
            refine State.ringEvent_keeps c20000000000041 ?_
            split
            · refine keeps_then ?_ ?_
              · split
                · refine State.putN_keeps c1 ?_
                  refine keeps_then ?_ ?_
                  · refine State.bump_keeps c1 ?_
                    refine State.bump_keeps c1 ?_
                    assumption
                  · intro x200
                    refine State.bump_keeps c1 ?_
                    assumption
                · refine keeps_then ?_ ?_
                  · refine State.bump_keeps c1 ?_
                    refine State.bump_keeps c1 ?_
                    assumption
                  · intro x200
                    refine State.bump_keeps c1 ?_
                    assumption
              · intro x160
                refine State.blockCore_keeps c2000 ?_
                assumption
            · refine keeps_then ?_ ?_
              · split
                · refine State.putN_keeps c1 ?_
                  refine keeps_then ?_ ?_
                  · refine State.bump_keeps c1 ?_
                    refine State.bump_keeps c1 ?_
                    assumption
                  · intro x200
                    refine State.bump_keeps c1 ?_
                    assumption
                · refine keeps_then ?_ ?_
                  · refine State.bump_keeps c1 ?_
                    refine State.bump_keeps c1 ?_
                    assumption
                  · intro x200
                    refine State.bump_keeps c1 ?_
                    assumption
              · intro x160
                refine State.blockCore_keeps c2000 ?_
                assumption
          · refine State.raiseMismatch_keeps c81f0100000200073 ?_
            refine State.ringEvent_keeps c20000000000041 ?_
            split
            · refine keeps_then ?_ ?_
              · split
                · refine State.putN_keeps c1 ?_
                  refine keeps_then ?_ ?_
                  · refine State.bump_keeps c1 ?_
                    refine State.bump_keeps c1 ?_
                    assumption
                  · intro x200
                    refine State.bump_keeps c1 ?_
                    assumption
                · refine keeps_then ?_ ?_
                  · refine State.bump_keeps c1 ?_
                    refine State.bump_keeps c1 ?_
                    assumption
                  · intro x200
                    refine State.bump_keeps c1 ?_
                    assumption
              · intro x160
                refine State.blockCore_keeps c2000 ?_
                assumption
            · split
              · refine State.putN_keeps c1 ?_
                refine keeps_then ?_ ?_
                · refine State.bump_keeps c1 ?_
                  refine State.bump_keeps c1 ?_
                  assumption
                · intro x180
                  refine State.bump_keeps c1 ?_
                  assumption
              · refine keeps_then ?_ ?_
                · refine State.bump_keeps c1 ?_
                  refine State.bump_keeps c1 ?_
                  assumption
                · intro x180
                  refine State.bump_keeps c1 ?_
                  assumption
  · split
    · refine keeps_ite ?_ ?_
      · refine State.loseRevise_keeps c81f05f5d037b7073 ?_
        refine keeps_ite ?_ ?_
        · refine State.chargeMap_keeps c100000000 ?_
          split
          · refine State.revertTrim_keeps c81f0100101604073 ?_
            refine State.raiseMismatch_keeps c81f0100000200073 ?_
            refine State.ringEvent_keeps c20000000000041 ?_
            split
            · refine keeps_then ?_ ?_
              · split
                · refine State.putN_keeps c1 ?_
                  refine keeps_then ?_ ?_
                  · refine State.bump_keeps c1 ?_
                    refine State.bump_keeps c1 ?_
                    assumption
                  · intro x200
                    refine State.bump_keeps c1 ?_
                    assumption
                · refine keeps_then ?_ ?_
                  · refine State.bump_keeps c1 ?_
                    refine State.bump_keeps c1 ?_
                    assumption
                  · intro x200
                    refine State.bump_keeps c1 ?_
                    assumption
              · intro x160
                refine State.blockCore_keeps c2000 ?_
                assumption
            · refine keeps_then ?_ ?_
              · split
                · refine State.putN_keeps c1 ?_
                  refine keeps_then ?_ ?_
                  · refine State.bump_keeps c1 ?_
                    refine State.bump_keeps c1 ?_
                    assumption
                  · intro x200
                    refine State.bump_keeps c1 ?_
                    assumption
                · refine keeps_then ?_ ?_
                  · refine State.bump_keeps c1 ?_
                    refine State.bump_keeps c1 ?_
                    assumption
                  · intro x200
                    refine State.bump_keeps c1 ?_
                    assumption
              · intro x160
                refine State.blockCore_keeps c2000 ?_
                assumption
          · refine State.raiseMismatch_keeps c81f0100000200073 ?_
            refine State.ringEvent_keeps c20000000000041 ?_
            split
            · refine keeps_then ?_ ?_
              · split
                · refine State.putN_keeps c1 ?_
                  refine keeps_then ?_ ?_
                  · refine State.bump_keeps c1 ?_
                    refine State.bump_keeps c1 ?_
                    assumption
                  · intro x200
                    refine State.bump_keeps c1 ?_
                    assumption
                · refine keeps_then ?_ ?_
                  · refine State.bump_keeps c1 ?_
                    refine State.bump_keeps c1 ?_
                    assumption
                  · intro x200
                    refine State.bump_keeps c1 ?_
                    assumption
              · intro x160
                refine State.blockCore_keeps c2000 ?_
                assumption
            · split
              · refine State.putN_keeps c1 ?_
                refine keeps_then ?_ ?_
                · refine State.bump_keeps c1 ?_
                  refine State.bump_keeps c1 ?_
                  assumption
                · intro x180
                  refine State.bump_keeps c1 ?_
                  assumption
              · refine keeps_then ?_ ?_
                · refine State.bump_keeps c1 ?_
                  refine State.bump_keeps c1 ?_
                  assumption
                · intro x180
                  refine State.bump_keeps c1 ?_
                  assumption
        · split
          · refine State.chargeEngine_keeps c81f05f5d037af073 ?_
            split
            · refine State.revertTrim_keeps c81f0100101604073 ?_
              refine State.raiseMismatch_keeps c81f0100000200073 ?_
              refine State.ringEvent_keeps c20000000000041 ?_
              split
              · refine keeps_then ?_ ?_
                · split
                  · refine State.putN_keeps c1 ?_
                    refine keeps_then ?_ ?_
                    · refine State.bump_keeps c1 ?_
                      refine State.bump_keeps c1 ?_
                      assumption
                    · intro x220
                      refine State.bump_keeps c1 ?_
                      assumption
                  · refine keeps_then ?_ ?_
                    · refine State.bump_keeps c1 ?_
                      refine State.bump_keeps c1 ?_
                      assumption
                    · intro x220
                      refine State.bump_keeps c1 ?_
                      assumption
                · intro x180
                  refine State.blockCore_keeps c2000 ?_
                  assumption
              · refine keeps_then ?_ ?_
                · split
                  · refine State.putN_keeps c1 ?_
                    refine keeps_then ?_ ?_
                    · refine State.bump_keeps c1 ?_
                      refine State.bump_keeps c1 ?_
                      assumption
                    · intro x220
                      refine State.bump_keeps c1 ?_
                      assumption
                  · refine keeps_then ?_ ?_
                    · refine State.bump_keeps c1 ?_
                      refine State.bump_keeps c1 ?_
                      assumption
                    · intro x220
                      refine State.bump_keeps c1 ?_
                      assumption
                · intro x180
                  refine State.blockCore_keeps c2000 ?_
                  assumption
            · refine State.raiseMismatch_keeps c81f0100000200073 ?_
              refine State.ringEvent_keeps c20000000000041 ?_
              split
              · refine keeps_then ?_ ?_
                · split
                  · refine State.putN_keeps c1 ?_
                    refine keeps_then ?_ ?_
                    · refine State.bump_keeps c1 ?_
                      refine State.bump_keeps c1 ?_
                      assumption
                    · intro x220
                      refine State.bump_keeps c1 ?_
                      assumption
                  · refine keeps_then ?_ ?_
                    · refine State.bump_keeps c1 ?_
                      refine State.bump_keeps c1 ?_
                      assumption
                    · intro x220
                      refine State.bump_keeps c1 ?_
                      assumption
                · intro x180
                  refine State.blockCore_keeps c2000 ?_
                  assumption
              · split
                · refine State.putN_keeps c1 ?_
                  refine keeps_then ?_ ?_
                  · refine State.bump_keeps c1 ?_
                    refine State.bump_keeps c1 ?_
                    assumption
                  · intro x200
                    refine State.bump_keeps c1 ?_
                    assumption
                · refine keeps_then ?_ ?_
                  · refine State.bump_keeps c1 ?_
                    refine State.bump_keeps c1 ?_
                    assumption
                  · intro x200
                    refine State.bump_keeps c1 ?_
                    assumption
          · split
            · refine State.revertTrim_keeps c81f0100101604073 ?_
              refine State.raiseMismatch_keeps c81f0100000200073 ?_
              refine State.ringEvent_keeps c20000000000041 ?_
              split
              · refine keeps_then ?_ ?_
                · split
                  · refine State.putN_keeps c1 ?_
                    refine keeps_then ?_ ?_
                    · refine State.bump_keeps c1 ?_
                      refine State.bump_keeps c1 ?_
                      assumption
                    · intro x220
                      refine State.bump_keeps c1 ?_
                      assumption
                  · refine keeps_then ?_ ?_
                    · refine State.bump_keeps c1 ?_
                      refine State.bump_keeps c1 ?_
                      assumption
                    · intro x220
                      refine State.bump_keeps c1 ?_
                      assumption
                · intro x180
                  refine State.blockCore_keeps c2000 ?_
                  assumption
              · refine keeps_then ?_ ?_
                · split
                  · refine State.putN_keeps c1 ?_
                    refine keeps_then ?_ ?_
                    · refine State.bump_keeps c1 ?_
                      refine State.bump_keeps c1 ?_
                      assumption
                    · intro x220
                      refine State.bump_keeps c1 ?_
                      assumption
                  · refine keeps_then ?_ ?_
                    · refine State.bump_keeps c1 ?_
                      refine State.bump_keeps c1 ?_
                      assumption
                    · intro x220
                      refine State.bump_keeps c1 ?_
                      assumption
                · intro x180
                  refine State.blockCore_keeps c2000 ?_
                  assumption
            · refine State.raiseMismatch_keeps c81f0100000200073 ?_
              refine State.ringEvent_keeps c20000000000041 ?_
              split
              · refine keeps_then ?_ ?_
                · split
                  · refine State.putN_keeps c1 ?_
                    refine keeps_then ?_ ?_
                    · refine State.bump_keeps c1 ?_
                      refine State.bump_keeps c1 ?_
                      assumption
                    · intro x220
                      refine State.bump_keeps c1 ?_
                      assumption
                  · refine keeps_then ?_ ?_
                    · refine State.bump_keeps c1 ?_
                      refine State.bump_keeps c1 ?_
                      assumption
                    · intro x220
                      refine State.bump_keeps c1 ?_
                      assumption
                · intro x180
                  refine State.blockCore_keeps c2000 ?_
                  assumption
              · split
                · refine State.putN_keeps c1 ?_
                  refine keeps_then ?_ ?_
                  · refine State.bump_keeps c1 ?_
                    refine State.bump_keeps c1 ?_
                    assumption
                  · intro x200
                    refine State.bump_keeps c1 ?_
                    assumption
                · refine keeps_then ?_ ?_
                  · refine State.bump_keeps c1 ?_
                    refine State.bump_keeps c1 ?_
                    assumption
                  · intro x200
                    refine State.bump_keeps c1 ?_
                    assumption
      · refine State.reissueProof_keeps c81f0100000206073 ?_
        refine keeps_ite ?_ ?_
        · refine State.chargeMap_keeps c100000000 ?_
          split
          · refine State.revertTrim_keeps c81f0100101604073 ?_
            refine State.raiseMismatch_keeps c81f0100000200073 ?_
            refine State.ringEvent_keeps c20000000000041 ?_
            split
            · refine keeps_then ?_ ?_
              · split
                · refine State.putN_keeps c1 ?_
                  refine keeps_then ?_ ?_
                  · refine State.bump_keeps c1 ?_
                    refine State.bump_keeps c1 ?_
                    assumption
                  · intro x200
                    refine State.bump_keeps c1 ?_
                    assumption
                · refine keeps_then ?_ ?_
                  · refine State.bump_keeps c1 ?_
                    refine State.bump_keeps c1 ?_
                    assumption
                  · intro x200
                    refine State.bump_keeps c1 ?_
                    assumption
              · intro x160
                refine State.blockCore_keeps c2000 ?_
                assumption
            · refine keeps_then ?_ ?_
              · split
                · refine State.putN_keeps c1 ?_
                  refine keeps_then ?_ ?_
                  · refine State.bump_keeps c1 ?_
                    refine State.bump_keeps c1 ?_
                    assumption
                  · intro x200
                    refine State.bump_keeps c1 ?_
                    assumption
                · refine keeps_then ?_ ?_
                  · refine State.bump_keeps c1 ?_
                    refine State.bump_keeps c1 ?_
                    assumption
                  · intro x200
                    refine State.bump_keeps c1 ?_
                    assumption
              · intro x160
                refine State.blockCore_keeps c2000 ?_
                assumption
          · refine State.raiseMismatch_keeps c81f0100000200073 ?_
            refine State.ringEvent_keeps c20000000000041 ?_
            split
            · refine keeps_then ?_ ?_
              · split
                · refine State.putN_keeps c1 ?_
                  refine keeps_then ?_ ?_
                  · refine State.bump_keeps c1 ?_
                    refine State.bump_keeps c1 ?_
                    assumption
                  · intro x200
                    refine State.bump_keeps c1 ?_
                    assumption
                · refine keeps_then ?_ ?_
                  · refine State.bump_keeps c1 ?_
                    refine State.bump_keeps c1 ?_
                    assumption
                  · intro x200
                    refine State.bump_keeps c1 ?_
                    assumption
              · intro x160
                refine State.blockCore_keeps c2000 ?_
                assumption
            · split
              · refine State.putN_keeps c1 ?_
                refine keeps_then ?_ ?_
                · refine State.bump_keeps c1 ?_
                  refine State.bump_keeps c1 ?_
                  assumption
                · intro x180
                  refine State.bump_keeps c1 ?_
                  assumption
              · refine keeps_then ?_ ?_
                · refine State.bump_keeps c1 ?_
                  refine State.bump_keeps c1 ?_
                  assumption
                · intro x180
                  refine State.bump_keeps c1 ?_
                  assumption
        · split
          · refine State.chargeEngine_keeps c81f05f5d037af073 ?_
            split
            · refine State.revertTrim_keeps c81f0100101604073 ?_
              refine State.raiseMismatch_keeps c81f0100000200073 ?_
              refine State.ringEvent_keeps c20000000000041 ?_
              split
              · refine keeps_then ?_ ?_
                · split
                  · refine State.putN_keeps c1 ?_
                    refine keeps_then ?_ ?_
                    · refine State.bump_keeps c1 ?_
                      refine State.bump_keeps c1 ?_
                      assumption
                    · intro x220
                      refine State.bump_keeps c1 ?_
                      assumption
                  · refine keeps_then ?_ ?_
                    · refine State.bump_keeps c1 ?_
                      refine State.bump_keeps c1 ?_
                      assumption
                    · intro x220
                      refine State.bump_keeps c1 ?_
                      assumption
                · intro x180
                  refine State.blockCore_keeps c2000 ?_
                  assumption
              · refine keeps_then ?_ ?_
                · split
                  · refine State.putN_keeps c1 ?_
                    refine keeps_then ?_ ?_
                    · refine State.bump_keeps c1 ?_
                      refine State.bump_keeps c1 ?_
                      assumption
                    · intro x220
                      refine State.bump_keeps c1 ?_
                      assumption
                  · refine keeps_then ?_ ?_
                    · refine State.bump_keeps c1 ?_
                      refine State.bump_keeps c1 ?_
                      assumption
                    · intro x220
                      refine State.bump_keeps c1 ?_
                      assumption
                · intro x180
                  refine State.blockCore_keeps c2000 ?_
                  assumption
            · refine State.raiseMismatch_keeps c81f0100000200073 ?_
              refine State.ringEvent_keeps c20000000000041 ?_
              split
              · refine keeps_then ?_ ?_
                · split
                  · refine State.putN_keeps c1 ?_
                    refine keeps_then ?_ ?_
                    · refine State.bump_keeps c1 ?_
                      refine State.bump_keeps c1 ?_
                      assumption
                    · intro x220
                      refine State.bump_keeps c1 ?_
                      assumption
                  · refine keeps_then ?_ ?_
                    · refine State.bump_keeps c1 ?_
                      refine State.bump_keeps c1 ?_
                      assumption
                    · intro x220
                      refine State.bump_keeps c1 ?_
                      assumption
                · intro x180
                  refine State.blockCore_keeps c2000 ?_
                  assumption
              · split
                · refine State.putN_keeps c1 ?_
                  refine keeps_then ?_ ?_
                  · refine State.bump_keeps c1 ?_
                    refine State.bump_keeps c1 ?_
                    assumption
                  · intro x200
                    refine State.bump_keeps c1 ?_
                    assumption
                · refine keeps_then ?_ ?_
                  · refine State.bump_keeps c1 ?_
                    refine State.bump_keeps c1 ?_
                    assumption
                  · intro x200
                    refine State.bump_keeps c1 ?_
                    assumption
          · split
            · refine State.revertTrim_keeps c81f0100101604073 ?_
              refine State.raiseMismatch_keeps c81f0100000200073 ?_
              refine State.ringEvent_keeps c20000000000041 ?_
              split
              · refine keeps_then ?_ ?_
                · split
                  · refine State.putN_keeps c1 ?_
                    refine keeps_then ?_ ?_
                    · refine State.bump_keeps c1 ?_
                      refine State.bump_keeps c1 ?_
                      assumption
                    · intro x220
                      refine State.bump_keeps c1 ?_
                      assumption
                  · refine keeps_then ?_ ?_
                    · refine State.bump_keeps c1 ?_
                      refine State.bump_keeps c1 ?_
                      assumption
                    · intro x220
                      refine State.bump_keeps c1 ?_
                      assumption
                · intro x180
                  refine State.blockCore_keeps c2000 ?_
                  assumption
              · refine keeps_then ?_ ?_
                · split
                  · refine State.putN_keeps c1 ?_
                    refine keeps_then ?_ ?_
                    · refine State.bump_keeps c1 ?_
                      refine State.bump_keeps c1 ?_
                      assumption
                    · intro x220
                      refine State.bump_keeps c1 ?_
                      assumption
                  · refine keeps_then ?_ ?_
                    · refine State.bump_keeps c1 ?_
                      refine State.bump_keeps c1 ?_
                      assumption
                    · intro x220
                      refine State.bump_keeps c1 ?_
                      assumption
                · intro x180
                  refine State.blockCore_keeps c2000 ?_
                  assumption
            · refine State.raiseMismatch_keeps c81f0100000200073 ?_
              refine State.ringEvent_keeps c20000000000041 ?_
              split
              · refine keeps_then ?_ ?_
                · split
                  · refine State.putN_keeps c1 ?_
                    refine keeps_then ?_ ?_
                    · refine State.bump_keeps c1 ?_
                      refine State.bump_keeps c1 ?_
                      assumption
                    · intro x220
                      refine State.bump_keeps c1 ?_
                      assumption
                  · refine keeps_then ?_ ?_
                    · refine State.bump_keeps c1 ?_
                      refine State.bump_keeps c1 ?_
                      assumption
                    · intro x220
                      refine State.bump_keeps c1 ?_
                      assumption
                · intro x180
                  refine State.blockCore_keeps c2000 ?_
                  assumption
              · split
                · refine State.putN_keeps c1 ?_
                  refine keeps_then ?_ ?_
                  · refine State.bump_keeps c1 ?_
                    refine State.bump_keeps c1 ?_
                    assumption
                  · intro x200
                    refine State.bump_keeps c1 ?_
                    assumption
                · refine keeps_then ?_ ?_
                  · refine State.bump_keeps c1 ?_
                    refine State.bump_keeps c1 ?_
                    assumption
                  · intro x200
                    refine State.bump_keeps c1 ?_
                    assumption
    · refine keeps_ite ?_ ?_
      · refine State.chargeMap_keeps c100000000 ?_
        split
        · refine State.revertTrim_keeps c81f0100101604073 ?_
          refine State.raiseMismatch_keeps c81f0100000200073 ?_
          refine State.ringEvent_keeps c20000000000041 ?_
          split
          · refine keeps_then ?_ ?_
            · split
              · refine State.putN_keeps c1 ?_
                refine keeps_then ?_ ?_
                · refine State.bump_keeps c1 ?_
                  refine State.bump_keeps c1 ?_
                  assumption
                · intro x180
                  refine State.bump_keeps c1 ?_
                  assumption
              · refine keeps_then ?_ ?_
                · refine State.bump_keeps c1 ?_
                  refine State.bump_keeps c1 ?_
                  assumption
                · intro x180
                  refine State.bump_keeps c1 ?_
                  assumption
            · intro x140
              refine State.blockCore_keeps c2000 ?_
              assumption
          · refine keeps_then ?_ ?_
            · split
              · refine State.putN_keeps c1 ?_
                refine keeps_then ?_ ?_
                · refine State.bump_keeps c1 ?_
                  refine State.bump_keeps c1 ?_
                  assumption
                · intro x180
                  refine State.bump_keeps c1 ?_
                  assumption
              · refine keeps_then ?_ ?_
                · refine State.bump_keeps c1 ?_
                  refine State.bump_keeps c1 ?_
                  assumption
                · intro x180
                  refine State.bump_keeps c1 ?_
                  assumption
            · intro x140
              refine State.blockCore_keeps c2000 ?_
              assumption
        · refine State.raiseMismatch_keeps c81f0100000200073 ?_
          refine State.ringEvent_keeps c20000000000041 ?_
          split
          · refine keeps_then ?_ ?_
            · split
              · refine State.putN_keeps c1 ?_
                refine keeps_then ?_ ?_
                · refine State.bump_keeps c1 ?_
                  refine State.bump_keeps c1 ?_
                  assumption
                · intro x180
                  refine State.bump_keeps c1 ?_
                  assumption
              · refine keeps_then ?_ ?_
                · refine State.bump_keeps c1 ?_
                  refine State.bump_keeps c1 ?_
                  assumption
                · intro x180
                  refine State.bump_keeps c1 ?_
                  assumption
            · intro x140
              refine State.blockCore_keeps c2000 ?_
              assumption
          · split
            · refine State.putN_keeps c1 ?_
              refine keeps_then ?_ ?_
              · refine State.bump_keeps c1 ?_
                refine State.bump_keeps c1 ?_
                assumption
              · intro x160
                refine State.bump_keeps c1 ?_
                assumption
            · refine keeps_then ?_ ?_
              · refine State.bump_keeps c1 ?_
                refine State.bump_keeps c1 ?_
                assumption
              · intro x160
                refine State.bump_keeps c1 ?_
                assumption
      · split
        · refine State.chargeEngine_keeps c81f05f5d037af073 ?_
          split
          · refine State.revertTrim_keeps c81f0100101604073 ?_
            refine State.raiseMismatch_keeps c81f0100000200073 ?_
            refine State.ringEvent_keeps c20000000000041 ?_
            split
            · refine keeps_then ?_ ?_
              · split
                · refine State.putN_keeps c1 ?_
                  refine keeps_then ?_ ?_
                  · refine State.bump_keeps c1 ?_
                    refine State.bump_keeps c1 ?_
                    assumption
                  · intro x200
                    refine State.bump_keeps c1 ?_
                    assumption
                · refine keeps_then ?_ ?_
                  · refine State.bump_keeps c1 ?_
                    refine State.bump_keeps c1 ?_
                    assumption
                  · intro x200
                    refine State.bump_keeps c1 ?_
                    assumption
              · intro x160
                refine State.blockCore_keeps c2000 ?_
                assumption
            · refine keeps_then ?_ ?_
              · split
                · refine State.putN_keeps c1 ?_
                  refine keeps_then ?_ ?_
                  · refine State.bump_keeps c1 ?_
                    refine State.bump_keeps c1 ?_
                    assumption
                  · intro x200
                    refine State.bump_keeps c1 ?_
                    assumption
                · refine keeps_then ?_ ?_
                  · refine State.bump_keeps c1 ?_
                    refine State.bump_keeps c1 ?_
                    assumption
                  · intro x200
                    refine State.bump_keeps c1 ?_
                    assumption
              · intro x160
                refine State.blockCore_keeps c2000 ?_
                assumption
          · refine State.raiseMismatch_keeps c81f0100000200073 ?_
            refine State.ringEvent_keeps c20000000000041 ?_
            split
            · refine keeps_then ?_ ?_
              · split
                · refine State.putN_keeps c1 ?_
                  refine keeps_then ?_ ?_
                  · refine State.bump_keeps c1 ?_
                    refine State.bump_keeps c1 ?_
                    assumption
                  · intro x200
                    refine State.bump_keeps c1 ?_
                    assumption
                · refine keeps_then ?_ ?_
                  · refine State.bump_keeps c1 ?_
                    refine State.bump_keeps c1 ?_
                    assumption
                  · intro x200
                    refine State.bump_keeps c1 ?_
                    assumption
              · intro x160
                refine State.blockCore_keeps c2000 ?_
                assumption
            · split
              · refine State.putN_keeps c1 ?_
                refine keeps_then ?_ ?_
                · refine State.bump_keeps c1 ?_
                  refine State.bump_keeps c1 ?_
                  assumption
                · intro x180
                  refine State.bump_keeps c1 ?_
                  assumption
              · refine keeps_then ?_ ?_
                · refine State.bump_keeps c1 ?_
                  refine State.bump_keeps c1 ?_
                  assumption
                · intro x180
                  refine State.bump_keeps c1 ?_
                  assumption
        · split
          · refine State.revertTrim_keeps c81f0100101604073 ?_
            refine State.raiseMismatch_keeps c81f0100000200073 ?_
            refine State.ringEvent_keeps c20000000000041 ?_
            split
            · refine keeps_then ?_ ?_
              · split
                · refine State.putN_keeps c1 ?_
                  refine keeps_then ?_ ?_
                  · refine State.bump_keeps c1 ?_
                    refine State.bump_keeps c1 ?_
                    assumption
                  · intro x200
                    refine State.bump_keeps c1 ?_
                    assumption
                · refine keeps_then ?_ ?_
                  · refine State.bump_keeps c1 ?_
                    refine State.bump_keeps c1 ?_
                    assumption
                  · intro x200
                    refine State.bump_keeps c1 ?_
                    assumption
              · intro x160
                refine State.blockCore_keeps c2000 ?_
                assumption
            · refine keeps_then ?_ ?_
              · split
                · refine State.putN_keeps c1 ?_
                  refine keeps_then ?_ ?_
                  · refine State.bump_keeps c1 ?_
                    refine State.bump_keeps c1 ?_
                    assumption
                  · intro x200
                    refine State.bump_keeps c1 ?_
                    assumption
                · refine keeps_then ?_ ?_
                  · refine State.bump_keeps c1 ?_
                    refine State.bump_keeps c1 ?_
                    assumption
                  · intro x200
                    refine State.bump_keeps c1 ?_
                    assumption
              · intro x160
                refine State.blockCore_keeps c2000 ?_
                assumption
          · refine State.raiseMismatch_keeps c81f0100000200073 ?_
            refine State.ringEvent_keeps c20000000000041 ?_
            split
            · refine keeps_then ?_ ?_
              · split
                · refine State.putN_keeps c1 ?_
                  refine keeps_then ?_ ?_
                  · refine State.bump_keeps c1 ?_
                    refine State.bump_keeps c1 ?_
                    assumption
                  · intro x200
                    refine State.bump_keeps c1 ?_
                    assumption
                · refine keeps_then ?_ ?_
                  · refine State.bump_keeps c1 ?_
                    refine State.bump_keeps c1 ?_
                    assumption
                  · intro x200
                    refine State.bump_keeps c1 ?_
                    assumption
              · intro x160
                refine State.blockCore_keeps c2000 ?_
                assumption
            · split
              · refine State.putN_keeps c1 ?_
                refine keeps_then ?_ ?_
                · refine State.bump_keeps c1 ?_
                  refine State.bump_keeps c1 ?_
                  assumption
                · intro x180
                  refine State.bump_keeps c1 ?_
                  assumption
              · refine keeps_then ?_ ?_
                · refine State.bump_keeps c1 ?_
                  refine State.bump_keeps c1 ?_
                  assumption
                · intro x180
                  refine State.bump_keeps c1 ?_
                  assumption
  · refine keeps_ite ?_ ?_
    · refine State.chargeMap_keeps c100000000 ?_
      split
      · refine State.revertTrim_keeps c81f0100101604073 ?_
        refine State.raiseMismatch_keeps c81f0100000200073 ?_
        refine State.ringEvent_keeps c20000000000041 ?_
        split
        · refine keeps_then ?_ ?_
          · split
            · refine State.putN_keeps c1 ?_
              refine keeps_then ?_ ?_
              · refine State.bump_keeps c1 ?_
                refine State.bump_keeps c1 ?_
                assumption
              · intro x160
                refine State.bump_keeps c1 ?_
                assumption
            · refine keeps_then ?_ ?_
              · refine State.bump_keeps c1 ?_
                refine State.bump_keeps c1 ?_
                assumption
              · intro x160
                refine State.bump_keeps c1 ?_
                assumption
          · intro x120
            refine State.blockCore_keeps c2000 ?_
            assumption
        · refine keeps_then ?_ ?_
          · split
            · refine State.putN_keeps c1 ?_
              refine keeps_then ?_ ?_
              · refine State.bump_keeps c1 ?_
                refine State.bump_keeps c1 ?_
                assumption
              · intro x160
                refine State.bump_keeps c1 ?_
                assumption
            · refine keeps_then ?_ ?_
              · refine State.bump_keeps c1 ?_
                refine State.bump_keeps c1 ?_
                assumption
              · intro x160
                refine State.bump_keeps c1 ?_
                assumption
          · intro x120
            refine State.blockCore_keeps c2000 ?_
            assumption
      · refine State.raiseMismatch_keeps c81f0100000200073 ?_
        refine State.ringEvent_keeps c20000000000041 ?_
        split
        · refine keeps_then ?_ ?_
          · split
            · refine State.putN_keeps c1 ?_
              refine keeps_then ?_ ?_
              · refine State.bump_keeps c1 ?_
                refine State.bump_keeps c1 ?_
                assumption
              · intro x160
                refine State.bump_keeps c1 ?_
                assumption
            · refine keeps_then ?_ ?_
              · refine State.bump_keeps c1 ?_
                refine State.bump_keeps c1 ?_
                assumption
              · intro x160
                refine State.bump_keeps c1 ?_
                assumption
          · intro x120
            refine State.blockCore_keeps c2000 ?_
            assumption
        · split
          · refine State.putN_keeps c1 ?_
            refine keeps_then ?_ ?_
            · refine State.bump_keeps c1 ?_
              refine State.bump_keeps c1 ?_
              assumption
            · intro x140
              refine State.bump_keeps c1 ?_
              assumption
          · refine keeps_then ?_ ?_
            · refine State.bump_keeps c1 ?_
              refine State.bump_keeps c1 ?_
              assumption
            · intro x140
              refine State.bump_keeps c1 ?_
              assumption
    · split
      · refine State.chargeEngine_keeps c81f05f5d037af073 ?_
        split
        · refine State.revertTrim_keeps c81f0100101604073 ?_
          refine State.raiseMismatch_keeps c81f0100000200073 ?_
          refine State.ringEvent_keeps c20000000000041 ?_
          split
          · refine keeps_then ?_ ?_
            · split
              · refine State.putN_keeps c1 ?_
                refine keeps_then ?_ ?_
                · refine State.bump_keeps c1 ?_
                  refine State.bump_keeps c1 ?_
                  assumption
                · intro x180
                  refine State.bump_keeps c1 ?_
                  assumption
              · refine keeps_then ?_ ?_
                · refine State.bump_keeps c1 ?_
                  refine State.bump_keeps c1 ?_
                  assumption
                · intro x180
                  refine State.bump_keeps c1 ?_
                  assumption
            · intro x140
              refine State.blockCore_keeps c2000 ?_
              assumption
          · refine keeps_then ?_ ?_
            · split
              · refine State.putN_keeps c1 ?_
                refine keeps_then ?_ ?_
                · refine State.bump_keeps c1 ?_
                  refine State.bump_keeps c1 ?_
                  assumption
                · intro x180
                  refine State.bump_keeps c1 ?_
                  assumption
              · refine keeps_then ?_ ?_
                · refine State.bump_keeps c1 ?_
                  refine State.bump_keeps c1 ?_
                  assumption
                · intro x180
                  refine State.bump_keeps c1 ?_
                  assumption
            · intro x140
              refine State.blockCore_keeps c2000 ?_
              assumption
        · refine State.raiseMismatch_keeps c81f0100000200073 ?_
          refine State.ringEvent_keeps c20000000000041 ?_
          split
          · refine keeps_then ?_ ?_
            · split
              · refine State.putN_keeps c1 ?_
                refine keeps_then ?_ ?_
                · refine State.bump_keeps c1 ?_
                  refine State.bump_keeps c1 ?_
                  assumption
                · intro x180
                  refine State.bump_keeps c1 ?_
                  assumption
              · refine keeps_then ?_ ?_
                · refine State.bump_keeps c1 ?_
                  refine State.bump_keeps c1 ?_
                  assumption
                · intro x180
                  refine State.bump_keeps c1 ?_
                  assumption
            · intro x140
              refine State.blockCore_keeps c2000 ?_
              assumption
          · split
            · refine State.putN_keeps c1 ?_
              refine keeps_then ?_ ?_
              · refine State.bump_keeps c1 ?_
                refine State.bump_keeps c1 ?_
                assumption
              · intro x160
                refine State.bump_keeps c1 ?_
                assumption
            · refine keeps_then ?_ ?_
              · refine State.bump_keeps c1 ?_
                refine State.bump_keeps c1 ?_
                assumption
              · intro x160
                refine State.bump_keeps c1 ?_
                assumption
      · split
        · refine State.revertTrim_keeps c81f0100101604073 ?_
          refine State.raiseMismatch_keeps c81f0100000200073 ?_
          refine State.ringEvent_keeps c20000000000041 ?_
          split
          · refine keeps_then ?_ ?_
            · split
              · refine State.putN_keeps c1 ?_
                refine keeps_then ?_ ?_
                · refine State.bump_keeps c1 ?_
                  refine State.bump_keeps c1 ?_
                  assumption
                · intro x180
                  refine State.bump_keeps c1 ?_
                  assumption
              · refine keeps_then ?_ ?_
                · refine State.bump_keeps c1 ?_
                  refine State.bump_keeps c1 ?_
                  assumption
                · intro x180
                  refine State.bump_keeps c1 ?_
                  assumption
            · intro x140
              refine State.blockCore_keeps c2000 ?_
              assumption
          · refine keeps_then ?_ ?_
            · split
              · refine State.putN_keeps c1 ?_
                refine keeps_then ?_ ?_
                · refine State.bump_keeps c1 ?_
                  refine State.bump_keeps c1 ?_
                  assumption
                · intro x180
                  refine State.bump_keeps c1 ?_
                  assumption
              · refine keeps_then ?_ ?_
                · refine State.bump_keeps c1 ?_
                  refine State.bump_keeps c1 ?_
                  assumption
                · intro x180
                  refine State.bump_keeps c1 ?_
                  assumption
            · intro x140
              refine State.blockCore_keeps c2000 ?_
              assumption
        · refine State.raiseMismatch_keeps c81f0100000200073 ?_
          refine State.ringEvent_keeps c20000000000041 ?_
          split
          · refine keeps_then ?_ ?_
            · split
              · refine State.putN_keeps c1 ?_
                refine keeps_then ?_ ?_
                · refine State.bump_keeps c1 ?_
                  refine State.bump_keeps c1 ?_
                  assumption
                · intro x180
                  refine State.bump_keeps c1 ?_
                  assumption
              · refine keeps_then ?_ ?_
                · refine State.bump_keeps c1 ?_
                  refine State.bump_keeps c1 ?_
                  assumption
                · intro x180
                  refine State.bump_keeps c1 ?_
                  assumption
            · intro x140
              refine State.blockCore_keeps c2000 ?_
              assumption
          · split
            · refine State.putN_keeps c1 ?_
              refine keeps_then ?_ ?_
              · refine State.bump_keeps c1 ?_
                refine State.bump_keeps c1 ?_
                assumption
              · intro x160
                refine State.bump_keeps c1 ?_
                assumption
            · refine keeps_then ?_ ?_
              · refine State.bump_keeps c1 ?_
                refine State.bump_keeps c1 ?_
                assumption
              · intro x160
                refine State.bump_keeps c1 ?_
                assumption

theorem State.endGrant_keeps {P : State → Prop} (c : Closed 0x4 P) {s : State} {a2 : _} {a3 : _} {a4 : _} (h : P s) :
    P (State.endGrant s a2 a3 a4) := by
  have c4 : Closed 0x4 P := c.mono rfl
  unfold State.endGrant
  split
  · assumption
  · refine State.setStatus_keeps c4 ?_
    assumption

theorem State.stageContent_keeps {P : State → Prop} (c : Closed 0x82 P) {s : State} {a2 : _} {a3 : _} {a4 : _} (h : P s) :
    P (State.stageContent s a2 a3 a4) := by
  have c2 : Closed 0x2 P := c.mono rfl
  have c80 : Closed 0x80 P := c.mono rfl
  unfold State.stageContent
  dsimp only
  refine State.setContent_keeps c2 ?_
  refine keeps_ite ?_ ?_
  · assumption
  · refine keeps_staged c80 ?_
    assumption

theorem State.writeContentB_keeps {P : State → Prop} (c : Closed 0x82 P) {s : State} {a2 : _} {a3 : _} {a4 : _} (h : P s) :
    P (State.writeContentB s a2 a3 a4).1 := by
  have c2 : Closed 0x2 P := c.mono rfl
  have c82 : Closed 0x82 P := c.mono rfl
  unfold State.writeContentB
  dsimp only
  split
  · dsimp only
    refine State.setContent_keeps c2 ?_
    assumption
  · split
    · dsimp only
      assumption
    · dsimp only
      refine State.stageContent_keeps c82 ?_
      assumption

theorem State.writeContent_keeps {P : State → Prop} (c : Closed 0x82 P) {s : State} {a2 : _} {a3 : _} {a4 : _} (h : P s) :
    P (State.writeContent s a2 a3 a4).1 := by
  have c2 : Closed 0x2 P := c.mono rfl
  have c82 : Closed 0x82 P := c.mono rfl
  unfold State.writeContent
  split
  · refine State.writeContentB_keeps c82 ?_
    assumption
  · split
    · dsimp only
      assumption
    · dsimp only
      refine State.setContent_keeps c2 ?_
      assumption
  · dsimp only
    refine State.setContent_keeps c2 ?_
    assumption

theorem State.countAccess_keeps {P : State → Prop} (c : Closed 0x1 P) {s : State} {a2 : _} (h : P s) :
    P (State.countAccess s a2) := by
  have c1 : Closed 0x1 P := c.mono rfl
  unfold State.countAccess
  refine State.bump_keeps c1 ?_
  assumption

theorem State.declareClears_keeps {P : State → Prop} (c : Closed 0x2002 P) {s : State} {a2 : _} (h : P s) :
    P (State.declareClears s a2) := by
  have c2 : Closed 0x2 P := c.mono rfl
  have c2000 : Closed 0x2000 P := c.mono rfl
  unfold State.declareClears
  dsimp only
  refine keeps_else ?_ ?_
  · refine State.upDom_keeps c2000 ?_
    assumption
  · intro x40
    refine State.showColophons_keeps c2 ?_
    assumption

theorem State.writeWatches_keeps {P : State → Prop} (c : Closed 0x20000000000042 P) {s : State} {a2 : _} {a3 : _} (h : P s) :
    P (State.writeWatches s a2 a3) := by
  have c2 : Closed 0x2 P := c.mono rfl
  have c40 : Closed 0x40 P := c.mono rfl
  have c20000000000000 : Closed 0x20000000000000 P := c.mono rfl
  unfold State.writeWatches
  dsimp only
  refine keeps_obs c20000000000000 ?_
  refine keeps_foldl ?_ _ ?_
  · intro x40 x41 x42
    refine State.setContent_keeps c2 ?_
    refine keeps_free c40 ?_
    assumption
  · assumption

theorem State.dispatchSteps_keeps {P : State → Prop} (c : Closed 0x20000000006073 P) {s : State} {a2 : _} (h : P s) :
    P (State.dispatchSteps s a2) := by
  have c6071 : Closed 0x6071 P := c.mono rfl
  have c20000000000042 : Closed 0x20000000000042 P := c.mono rfl
  unfold State.dispatchSteps
  dsimp only
  refine keeps_else ?_ ?_
  · refine keeps_foldl ?_ _ ?_
    · intro x60 x61 x62
      refine State.writeWatches_keeps c20000000000042 ?_
      assumption
    · assumption
  · intro x40
    split
    · refine keeps_then ?_ ?_
      · refine keeps_foldl ?_ _ ?_
        · intro x100 x101 x102
          refine State.dispatch_keeps c6071 ?_
          assumption
        · assumption
      · intro x80
        refine State.closingProofs_keeps c6071 ?_
        assumption
    · refine keeps_foldl ?_ _ ?_
      · intro x80 x81 x82
        refine State.dispatch_keeps c6071 ?_
        assumption
      · assumption

theorem State.dropDrain_keeps {P : State → Prop} (c : Closed 0x195 P) {s : State} {a2 : _} (h : P s) :
    P (State.dropDrain s a2) := by
  have c1 : Closed 0x1 P := c.mono rfl
  have c4 : Closed 0x4 P := c.mono rfl
  have c80 : Closed 0x80 P := c.mono rfl
  have c110 : Closed 0x110 P := c.mono rfl
  unfold State.dropDrain
  dsimp only
  refine State.bump_keeps c1 ?_
  refine State.endDrain_keeps c110 ?_
  refine keeps_foldl ?_ _ ?_
  · intro x40 x41 x42
    refine State.endWrite_keeps c4 ?_
    refine State.put_keeps c1 ?_
    refine keeps_staged c80 ?_
    assumption
  · assumption

theorem State.endJob_keeps {P : State → Prop} (c : Closed 0x81e01000003a6073 P) {s : State} {a2 : _} {a3 : _} (h : P s) :
    P (State.endJob s a2 a3) := by
  have c40000000000000 : Closed 0x40000000000000 P := c.mono rfl
  have c81e01000003a6073 : Closed 0x81e01000003a6073 P := c.mono rfl
  unfold State.endJob
  refine keeps_ite ?_ ?_
  · refine State.upReset_keeps c40000000000000 ?_
    assumption
  · refine State.beginContext_keeps c81e01000003a6073 ?_
    assumption

theorem State.windowExceeded_keeps {P : State → Prop} (c : Closed 0x81f0100000200073 P) {s : State} {a2 : _} (h : P s) :
    P (State.windowExceeded s a2) := by
  have c1 : Closed 0x1 P := c.mono rfl
  have c81f0100000200073 : Closed 0x81f0100000200073 P := c.mono rfl
  unfold State.windowExceeded
  refine State.raiseMismatch_keeps c81f0100000200073 ?_
  refine State.bump_keeps c1 ?_
  refine State.bump_keeps c1 ?_
  assumption

theorem State.finishClose_keeps {P : State → Prop} (c : Closed 0x81f01081017a70f7 P) {s : State} {a2 : _} (h : P s) :
    P (State.finishClose s a2) := by
  have c81f01081017a70f7 : Closed 0x81f01081017a70f7 P := c.mono rfl
  unfold State.finishClose
  dsimp only
  split
  · refine keeps_ite ?_ ?_
    · refine State.deactivate_keeps c81f01081017a70f7 ?_
      assumption
    · assumption
  · assumption

theorem State.followRole_keeps {P : State → Prop} (c : Closed 0x11 P) {s : State} (h : P s) :
    P (State.followRole s) := by
  have c1 : Closed 0x1 P := c.mono rfl
  have c10 : Closed 0x10 P := c.mono rfl
  unfold State.followRole
  dsimp only
  refine keeps_ite ?_ ?_
  · refine State.disarm_keeps c10 ?_
    refine keeps_ite ?_ ?_
    · refine State.disarm_keeps c10 ?_
      refine keeps_ite ?_ ?_
      · refine State.putN_keeps c1 ?_
        assumption
      · assumption
    · refine keeps_else ?_ ?_
      · refine keeps_ite ?_ ?_
        · refine State.putN_keeps c1 ?_
          assumption
        · assumption
      · intro x80
        refine State.arm_keeps c10 ?_
        assumption
  · refine keeps_else ?_ ?_
    · refine keeps_ite ?_ ?_
      · refine State.disarm_keeps c10 ?_
        refine keeps_ite ?_ ?_
        · refine State.putN_keeps c1 ?_
          assumption
        · assumption
      · refine keeps_else ?_ ?_
        · refine keeps_ite ?_ ?_
          · refine State.putN_keeps c1 ?_
            assumption
          · assumption
        · intro x100
          refine State.arm_keeps c10 ?_
          assumption
    · intro x60
      refine State.arm_keeps c10 ?_
      assumption

theorem State.holdSpecimens_keeps {P : State → Prop} (c : Closed 0x10 P) {s : State} (h : P s) :
    P (State.holdSpecimens s) := by
  have c10 : Closed 0x10 P := c.mono rfl
  unfold State.holdSpecimens
  dsimp only
  refine keeps_foldl ?_ _ ?_
  · intro x40 x41 x42
    refine keeps_ite ?_ ?_
    · refine State.holdTimers_keeps c10 ?_
      assumption
    · refine keeps_ite ?_ ?_
      · assumption
      · refine State.resumeTimers_keeps c10 ?_
        assumption
  · assumption

theorem State.reportStep_keeps {P : State → Prop} (c : Closed 0x81f01000003a7073 P) {s : State} {a2 : _} {a3 : _} (h : P s) :
    P (State.reportStep s a2 a3) := by
  have c20 : Closed 0x20 P := c.mono rfl
  have c2000 : Closed 0x2000 P := c.mono rfl
  have c200000 : Closed 0x200000 P := c.mono rfl
  have c81f01000003a7073 : Closed 0x81f01000003a7073 P := c.mono rfl
  unfold State.reportStep
  dsimp only
  refine keeps_ite ?_ ?_
  · refine State.jobReport_keeps c81f01000003a7073 ?_
    refine State.upJob_keeps c200000 ?_
    refine State.upStep_keeps c2000 ?_
    assumption
  · refine State.toSteward_keeps c20 ?_
    refine State.upJob_keeps c200000 ?_
    refine State.upStep_keeps c2000 ?_
    assumption

theorem State.reportSteps_keeps {P : State → Prop} (c : Closed 0x81f01000003a7073 P) {s : State} {a2 : _} (h : P s) :
    P (State.reportSteps s a2) := by
  have c20 : Closed 0x20 P := c.mono rfl
  have c200000 : Closed 0x200000 P := c.mono rfl
  have c80000000202023 : Closed 0x80000000202023 P := c.mono rfl
  have c81f01000003a7073 : Closed 0x81f01000003a7073 P := c.mono rfl
  unfold State.reportSteps
  dsimp only
  refine keeps_ite ?_ ?_
  · assumption
  · split
    · refine keeps_else ?_ ?_
      · refine keeps_foldl ?_ _ ?_
        · intro x100 x101 x102
          refine State.reportStep_keeps c81f01000003a7073 ?_
          assumption
        · assumption
      · intro x80
        split
        · assumption
        · refine keeps_ite ?_ ?_
          · refine State.declareJobClear_keeps c80000000202023 ?_
            refine State.upJob_keeps c200000 ?_
            refine State.upJob_keeps c200000 ?_
            assumption
          · split
            · refine State.toSteward_keeps c20 ?_
              refine State.upJob_keeps c200000 ?_
              assumption
            · refine State.upJob_keeps c200000 ?_
              assumption
    · refine keeps_foldl ?_ _ ?_
      · intro x80 x81 x82
        refine State.reportStep_keeps c81f01000003a7073 ?_
        assumption
      · assumption

theorem State.tryBarrier_keeps {P : State → Prop} (c : Closed 0x83f01001017a60f7 P) {s : State} {a2 : _} {a3 : _} {a4 : _}
    (h : P s) :
    P (State.tryBarrier s a2 a3 a4) := by
  have c1 : Closed 0x1 P := c.mono rfl
  have c2000 : Closed 0x2000 P := c.mono rfl
  have c3200001014060f7 : Closed 0x3200001014060f7 P := c.mono rfl
  have c81e01000003a6073 : Closed 0x81e01000003a6073 P := c.mono rfl
  have c81f0100000200073 : Closed 0x81f0100000200073 P := c.mono rfl
  have c81f0100000302073 : Closed 0x81f0100000302073 P := c.mono rfl
  unfold State.tryBarrier
  dsimp only
  refine keeps_ite ?_ ?_
  · assumption
  · refine keeps_ite ?_ ?_
    · refine State.endJob_keeps c81e01000003a6073 ?_
      refine State.raise_keeps c81f0100000200073 ?_
      assumption
    · refine keeps_ite ?_ ?_
      · refine State.completeBarrier_keeps c3200001014060f7 ?_
        refine keeps_ite ?_ ?_
        · refine State.commitOnAge_keeps c81f0100000302073 ?_
          assumption
        · assumption
      · refine State.upDom_keeps c2000 ?_
        refine keeps_then ?_ ?_
        · refine keeps_then ?_ ?_
          · refine keeps_then ?_ ?_
            · refine keeps_ite ?_ ?_
              · refine State.commitOnAge_keeps c81f0100000302073 ?_
                assumption
              · assumption
            · intro x140
              refine State.bump_keeps c1 ?_
              assumption
          · intro x120
            refine State.bumpBy_keeps c1 ?_
            assumption
        · intro x100
          refine State.raise_keeps c81f0100000200073 ?_
          refine State.bump_keeps c1 ?_
          assumption

theorem State.settleOnce_keeps {P : State → Prop} (c : Closed 0x83f01081017a70f7 P) {s : State} {a2 : _} (h : P s) :
    P (State.settleOnce s a2) := by
  have c2002 : Closed 0x2002 P := c.mono rfl
  have c20000000002041 : Closed 0x20000000002041 P := c.mono rfl
  have c20000000002061 : Closed 0x20000000002061 P := c.mono rfl
  have c20000000006073 : Closed 0x20000000006073 P := c.mono rfl
  have c81f0100000302073 : Closed 0x81f0100000302073 P := c.mono rfl
  have c81f01000003a7073 : Closed 0x81f01000003a7073 P := c.mono rfl
  have c81f01081017a70f7 : Closed 0x81f01081017a70f7 P := c.mono rfl
  have c83f01001017a60f7 : Closed 0x83f01001017a60f7 P := c.mono rfl
  unfold State.settleOnce
  dsimp only
  refine keeps_ite ?_ ?_
  · assumption
  · refine State.finishClose_keeps c81f01081017a70f7 ?_
    split
    · refine State.tryBarrier_keeps c83f01001017a60f7 ?_
      refine State.releaseAll_keeps c20000000002061 ?_
      refine State.commitAll_keeps c81f0100000302073 ?_
      refine State.reportSteps_keeps c81f01000003a7073 ?_
      refine State.commitAll_keeps c81f0100000302073 ?_
      refine State.releaseAll_keeps c20000000002061 ?_
      refine State.dispatchSteps_keeps c20000000006073 ?_
      refine State.openGates_keeps c20000000002041 ?_
      refine State.reportSteps_keeps c81f01000003a7073 ?_
      refine State.declareClears_keeps c2002 ?_
      assumption
    · refine State.releaseAll_keeps c20000000002061 ?_
      refine State.commitAll_keeps c81f0100000302073 ?_
      refine State.reportSteps_keeps c81f01000003a7073 ?_
      refine State.commitAll_keeps c81f0100000302073 ?_
      refine State.releaseAll_keeps c20000000002061 ?_
      refine State.dispatchSteps_keeps c20000000006073 ?_
      refine State.openGates_keeps c20000000002041 ?_
      refine State.reportSteps_keeps c81f01000003a7073 ?_
      refine State.declareClears_keeps c2002 ?_
      assumption

theorem State.showHolds_keeps {P : State → Prop} (c : Closed 0x1 P) {s : State} {a2 : _} (h : P s) :
    P (State.showHolds s a2) := by
  have c1 : Closed 0x1 P := c.mono rfl
  unfold State.showHolds
  dsimp only
  refine keeps_ite ?_ ?_
  · assumption
  · refine State.setHold_keeps c1 ?_
    refine State.setHold_keeps c1 ?_
    refine State.setHold_keeps c1 ?_
    refine State.setHold_keeps c1 ?_
    refine State.setHold_keeps c1 ?_
    refine State.setHold_keeps c1 ?_
    refine State.setHold_keeps c1 ?_
    assumption

theorem State.settle_keeps {P : State → Prop} (c : Closed 0x83f01081017a70f7 P) {s : State} {a2 : _} (h : P s) :
    P (State.settle s a2) := by
  have c1 : Closed 0x1 P := c.mono rfl
  have c83f01081017a70f7 : Closed 0x83f01081017a70f7 P := c.mono rfl
  unfold State.settle
  refine State.showHolds_keeps c1 ?_
  refine State.settleOnce_keeps c83f01081017a70f7 ?_
  refine State.settleOnce_keeps c83f01081017a70f7 ?_
  assumption

theorem State.settleDoms_keeps {P : State → Prop} (c : Closed 0x83f01081017a70f7 P) {s : State} (h : P s) :
    P (State.settleDoms s) := by
  have c83f01081017a70f7 : Closed 0x83f01081017a70f7 P := c.mono rfl
  unfold State.settleDoms
  refine keeps_foldl ?_ _ ?_
  · intro x40 x41 x42
    refine State.settle_keeps c83f01081017a70f7 ?_
    assumption
  · assumption

theorem State.settleAll_keeps {P : State → Prop} (c : Closed 0x87f010dd037a71f7 P) {s : State} (h : P s) :
    P (State.settleAll s) := by
  have c4 : Closed 0x4 P := c.mono rfl
  have c10 : Closed 0x10 P := c.mono rfl
  have c11 : Closed 0x11 P := c.mono rfl
  have c1011 : Closed 0x1011 P := c.mono rfl
  have c200000003a7073 : Closed 0x200000003a7073 P := c.mono rfl
  have c80000000000013 : Closed 0x80000000000013 P := c.mono rfl
  have c400000000000031 : Closed 0x400000000000031 P := c.mono rfl
  have c8080100000000195 : Closed 0x8080100000000195 P := c.mono rfl
  have c81f0105d03707073 : Closed 0x81f0105d03707073 P := c.mono rfl
  have c83f01081017a70f7 : Closed 0x83f01081017a70f7 P := c.mono rfl
  unfold State.settleAll
  dsimp only
  refine State.holdTimers_keeps c10 ?_
  refine State.candidatesAppear_keeps c81f0105d03707073 ?_
  refine keeps_then ?_ ?_
  · split
    · refine keeps_ite ?_ ?_
      · refine State.settleDoms_keeps c83f01081017a70f7 ?_
        refine State.applyDrain_keeps c8080100000000195 ?_
        refine State.holdSpecimens_keeps c10 ?_
        refine State.bringupFault_keeps c80000000000013 ?_
        refine State.followBeacon_keeps c1011 ?_
        refine State.followRole_keeps c11 ?_
        refine State.followNarrow_keeps c200000003a7073 ?_
        refine State.settleDoms_keeps c83f01081017a70f7 ?_
        assumption
      · refine keeps_then ?_ ?_
        · refine State.holdSpecimens_keeps c10 ?_
          refine State.bringupFault_keeps c80000000000013 ?_
          refine State.followBeacon_keeps c1011 ?_
          refine State.followRole_keeps c11 ?_
          refine State.followNarrow_keeps c200000003a7073 ?_
          refine State.settleDoms_keeps c83f01081017a70f7 ?_
          assumption
        · intro x100
          refine keeps_foldl ?_ _ ?_
          · intro x120 x121 x122
            refine State.endWrite_keeps c4 ?_
            assumption
          · assumption
    · refine State.holdSpecimens_keeps c10 ?_
      refine State.bringupFault_keeps c80000000000013 ?_
      refine State.followBeacon_keeps c1011 ?_
      refine State.followRole_keeps c11 ?_
      refine State.followNarrow_keeps c200000003a7073 ?_
      refine State.settleDoms_keeps c83f01081017a70f7 ?_
      assumption
  · intro x40
    refine State.beginActivation_keeps c400000000000031 ?_
    assumption

theorem State.granted_keeps {P : State → Prop} (c : Closed 0x100000000005 P) {s : State} {a2 : _} {a3 : _} {a4 : _} {a5 : _}
    {f6 : State → State × WEnd} (h : P s) (hf6 : ∀ (x0 : State), P x0 → P (f6 x0).1) :
    P (State.granted s a2 a3 a4 a5 f6) := by
  have c1 : Closed 0x1 P := c.mono rfl
  have c4 : Closed 0x4 P := c.mono rfl
  have c100000000000 : Closed 0x100000000000 P := c.mono rfl
  unfold State.granted
  dsimp only
  refine keeps_ite ?_ ?_
  · assumption
  · split
    · refine State.endGrant_keeps c4 ?_
      refine State.countAccess_keeps c1 ?_
      refine State.grant_keeps c100000000000 ?_
      assumption
    · refine State.endGrant_keeps c4 ?_
      refine hf6 _ ?_
      refine State.countAccess_keeps c1 ?_
      refine State.grant_keeps c100000000000 ?_
      assumption

theorem State.resumeSparing_keeps {P : State → Prop} (c : Closed 0x81f0104503707073 P) {s : State} {a2 : _} (h : P s) :
    P (State.resumeSparing s a2) := by
  have c4000002021 : Closed 0x4000002021 P := c.mono rfl
  have c81f0104503707073 : Closed 0x81f0104503707073 P := c.mono rfl
  unfold State.resumeSparing
  split
  · refine keeps_ite ?_ ?_
    · assumption
    · refine keeps_ite ?_ ?_
      · refine keeps_ite ?_ ?_
        · assumption
        · refine State.refillStep_keeps c81f0104503707073 ?_
          assumption
      · split
        · refine keeps_ite ?_ ?_
          · assumption
          · refine State.beginFill_keeps c4000002021 ?_
            assumption
        · assumption
  · refine State.sparingNext_keeps c81f0104503707073 ?_
    assumption

theorem State.writeB_keeps {P : State → Prop} (c : Closed 0x81 P) {s : State} {a2 : _} {a3 : _} {a4 : _} (h : P s) :
    P (State.writeB s a2 a3 a4).1 := by
  have c1 : Closed 0x1 P := c.mono rfl
  have c81 : Closed 0x81 P := c.mono rfl
  unfold State.writeB
  dsimp only
  split
  · dsimp only
    refine State.put_keeps c1 ?_
    assumption
  · split
    · dsimp only
      assumption
    · dsimp only
      refine State.stage_keeps c81 ?_
      assumption

theorem State.writeX_keeps {P : State → Prop} (c : Closed 0x191 P) {s : State} {a2 : _} {a3 : _} {a4 : _} {a5 : _} {a6 : _}
    (h : P s) :
    P (State.writeX s a2 a3 a4 a5 a6).1 := by
  have c81 : Closed 0x81 P := c.mono rfl
  have c191 : Closed 0x191 P := c.mono rfl
  unfold State.writeX
  split
  · refine State.writeB_keeps c81 ?_
    assumption
  · split
    · dsimp only
      assumption
    · split
      · dsimp only
        assumption
      · refine State.beginDrain_keeps c191 ?_
        assumption

theorem State.writeValue_keeps {P : State → Prop} (c : Closed 0x191 P) {s : State} {a2 : _} {a3 : _} {a4 : _} {a5 : _}
    {a6 : _} (h : P s) :
    P (State.writeValue s a2 a3 a4 a5 a6).1 := by
  have c1 : Closed 0x1 P := c.mono rfl
  have c81 : Closed 0x81 P := c.mono rfl
  have c191 : Closed 0x191 P := c.mono rfl
  unfold State.writeValue
  dsimp only
  split
  · dsimp only
    refine State.put_keeps c1 ?_
    assumption
  · dsimp only
    refine State.put_keeps c1 ?_
    assumption
  · refine State.writeB_keeps c81 ?_
    assumption
  · split
    · dsimp only
      assumption
    · dsimp only
      refine State.put_keeps c1 ?_
      assumption
  · refine State.writeX_keeps c191 ?_
    assumption

theorem State.proofCoreWrong_keeps {P : State → Prop} (c : Closed 0x81f05f5d037b7073 P) {s : State} {a2 : _} (h : P s) :
    P (State.proofCoreWrong s a2) := by
  have c1 : Closed 0x1 P := c.mono rfl
  have c2003 : Closed 0x2003 P := c.mono rfl
  have c6030 : Closed 0x6030 P := c.mono rfl
  have c200000003a7073 : Closed 0x200000003a7073 P := c.mono rfl
  have c81f0100000200073 : Closed 0x81f0100000200073 P := c.mono rfl
  have c81f05f5d037b7073 : Closed 0x81f05f5d037b7073 P := c.mono rfl
  unfold State.proofCoreWrong
  dsimp only
  split
  · refine State.chargeProof_keeps c81f05f5d037b7073 ?_
    refine State.narrowingEnd_keeps c200000003a7073 ?_
    refine State.dropProof_keeps c6030 ?_
    refine State.passProof_keeps c2003 ?_
    refine State.raise_keeps c81f0100000200073 ?_
    split
    · refine State.bump_keeps c1 ?_
      refine State.bump_keeps c1 ?_
      assumption
    · refine State.bump_keeps c1 ?_
      assumption
  · refine State.narrowingEnd_keeps c200000003a7073 ?_
    refine State.dropProof_keeps c6030 ?_
    refine State.passProof_keeps c2003 ?_
    refine State.raise_keeps c81f0100000200073 ?_
    split
    · refine State.bump_keeps c1 ?_
      refine State.bump_keeps c1 ?_
      assumption
    · refine State.bump_keeps c1 ?_
      assumption

end Sys2Proof.Machine
end

