-- ==== Sys2Proof/Laws/KeepsStages.lean ====
section
/-! SUPPORT. What each operation keeps (see Laws/Keeps.lean): the self-tests, the bring-up stages, time, and re-initialization. -/

namespace Sys2Proof.Machine

theorem State.dropUnit_keeps {P : State → Prop} (c : Closed 0x400000000010 P) {s : State} {a2 : _} (h : P s) :
    P (State.dropUnit s a2) := by
  have c10 : Closed 0x10 P := c.mono rfl
  have c400000000000 : Closed 0x400000000000 P := c.mono rfl
  unfold State.dropUnit
  dsimp only
  refine State.disarm_keeps c10 ?_
  refine keeps_test c400000000000 ?_
  assumption

theorem State.keepTest_keeps {P : State → Prop} (c : Closed 0x3 P) {s : State} {a2 : _} {a3 : _} {a4 : _} (h : P s) :
    P (State.keepTest s a2 a3 a4) := by
  have c1 : Closed 0x1 P := c.mono rfl
  have c2 : Closed 0x2 P := c.mono rfl
  unfold State.keepTest
  dsimp only
  split
  · split
    · refine State.putN_keeps c1 ?_
      refine State.bump_keeps c1 ?_
      refine State.put_keeps c1 ?_
      refine State.setContent_keeps c2 ?_
      refine keeps_then ?_ ?_
      · refine State.setContent_keeps c2 ?_
        refine State.bump_keeps c1 ?_
        assumption
      · intro x80
        refine State.bump_keeps c1 ?_
        assumption
    · refine State.bump_keeps c1 ?_
      refine State.put_keeps c1 ?_
      refine State.setContent_keeps c2 ?_
      refine keeps_then ?_ ?_
      · refine State.setContent_keeps c2 ?_
        refine State.bump_keeps c1 ?_
        assumption
      · intro x80
        refine State.bump_keeps c1 ?_
        assumption
  · refine keeps_then ?_ ?_
    · refine State.setContent_keeps c2 ?_
      refine State.bump_keeps c1 ?_
      assumption
    · intro x60
      refine State.bump_keeps c1 ?_
      assumption

theorem State.showRepairs_keeps {P : State → Prop} (c : Closed 0x1 P) {s : State} {a2 : _} (h : P s) :
    P (State.showRepairs s a2) := by
  have c1 : Closed 0x1 P := c.mono rfl
  unfold State.showRepairs
  dsimp only
  refine State.putN_keeps c1 ?_
  refine State.putN_keeps c1 ?_
  refine State.putN_keeps c1 ?_
  refine State.putN_keeps c1 ?_
  assumption

theorem State.applyRepairs_keeps {P : State → Prop} (c : Closed 0x2000000001 P) {s : State} {a2 : _} (h : P s) :
    P (State.applyRepairs s a2) := by
  have c1 : Closed 0x1 P := c.mono rfl
  have c2000000000 : Closed 0x2000000000 P := c.mono rfl
  unfold State.applyRepairs
  dsimp only
  refine State.showRepairs_keeps c1 ?_
  refine State.setSlice_keeps c2000000000 ?_
  assumption

theorem State.repairAndFill_keeps {P : State → Prop} (c : Closed 0x6000000021 P) {s : State} {a2 : _} (h : P s) :
    P (State.repairAndFill s a2) := by
  have c2000000001 : Closed 0x2000000001 P := c.mono rfl
  have c4000000021 : Closed 0x4000000021 P := c.mono rfl
  unfold State.repairAndFill
  refine State.applyRepairs_keeps c2000000001 ?_
  refine State.fillSlice_keeps c4000000021 ?_
  assumption

theorem State.returnCore_keeps {P : State → Prop} (c : Closed 0x120000000000041 P) {s : State} {a2 : _} {a3 : _} (h : P s) :
    P (State.returnCore s a2 a3) := by
  have c1 : Closed 0x1 P := c.mono rfl
  have c120000000000041 : Closed 0x120000000000041 P := c.mono rfl
  unfold State.returnCore
  dsimp only
  refine keeps_else ?_ ?_
  · refine State.setFp_keeps c1 ?_
    assumption
  · intro x40
    refine State.unisolateCore_keeps c120000000000041 ?_
    assumption

theorem State.showTests_keeps {P : State → Prop} (c : Closed 0x1 P) {s : State} (h : P s) :
    P (State.showTests s) := by
  have c1 : Closed 0x1 P := c.mono rfl
  unfold State.showTests
  refine State.putN_keeps c1 ?_
  assumption

theorem State.abortTest_keeps {P : State → Prop} (c : Closed 0x120406000000073 P) {s : State} {a2 : _} (h : P s) :
    P (State.abortTest s a2) := by
  have c1 : Closed 0x1 P := c.mono rfl
  have c3 : Closed 0x3 P := c.mono rfl
  have c6000000021 : Closed 0x6000000021 P := c.mono rfl
  have c400000000000 : Closed 0x400000000000 P := c.mono rfl
  have c400000000010 : Closed 0x400000000010 P := c.mono rfl
  have c120000000000041 : Closed 0x120000000000041 P := c.mono rfl
  unfold State.abortTest
  dsimp only
  split
  · assumption
  · refine State.showTests_keeps c1 ?_
    refine keeps_then ?_ ?_
    · refine State.returnCore_keeps c120000000000041 ?_
      refine State.putN_keeps c1 ?_
      refine State.putN_keeps c1 ?_
      refine keeps_test c400000000000 ?_
      refine keeps_foldl ?_ _ ?_
      · intro x80 x81 x82
        refine State.keepTest_keeps c3 ?_
        refine State.dropUnit_keeps c400000000010 ?_
        assumption
      · assumption
    · intro x60
      refine State.repairAndFill_keeps c6000000021 ?_
      assumption

theorem State.addColumn_keeps {P : State → Prop} (c : Closed 0x80002000000001 P) {s : State} {a2 : _} {a3 : _} (h : P s) :
    P (State.addColumn s a2 a3) := by
  have c1 : Closed 0x1 P := c.mono rfl
  have c2000000000 : Closed 0x2000000000 P := c.mono rfl
  have c80000000000001 : Closed 0x80000000000001 P := c.mono rfl
  unfold State.addColumn
  dsimp only
  refine keeps_ite ?_ ?_
  · assumption
  · refine State.configItem_keeps c80000000000001 ?_
    refine State.showRepairs_keeps c1 ?_
    refine State.setSlice_keeps c2000000000 ?_
    assumption

theorem State.addRow_keeps {P : State → Prop} (c : Closed 0x80002000000001 P) {s : State} {a2 : _} {a3 : _} (h : P s) :
    P (State.addRow s a2 a3) := by
  have c1 : Closed 0x1 P := c.mono rfl
  have c2000000000 : Closed 0x2000000000 P := c.mono rfl
  have c80000000000001 : Closed 0x80000000000001 P := c.mono rfl
  unfold State.addRow
  dsimp only
  refine keeps_ite ?_ ?_
  · assumption
  · refine State.configItem_keeps c80000000000001 ?_
    refine State.showRepairs_keeps c1 ?_
    refine State.setSlice_keeps c2000000000 ?_
    assumption

theorem State.moveRetired_keeps {P : State → Prop} (c : Closed 0x81f0304400200073 P) {s : State} (h : P s) :
    P (State.moveRetired s) := by
  have c1 : Closed 0x1 P := c.mono rfl
  have c200000000000 : Closed 0x200000000000 P := c.mono rfl
  have c100004400000001 : Closed 0x100004400000001 P := c.mono rfl
  have c81f0100000200073 : Closed 0x81f0100000200073 P := c.mono rfl
  unfold State.moveRetired
  dsimp only
  refine keeps_then ?_ ?_
  · refine keeps_foldl_fst ?_ _ ?_
    · intro x60 x61 x62
      split
      · split
        · dsimp only
          refine State.countStage_keeps c200000000000 ?_
          refine State.moveNumber_keeps c100004400000001 ?_
          assumption
        · dsimp only
          refine State.putN_keeps c1 ?_
          refine State.putN_keeps c1 ?_
          assumption
      · assumption
    · dsimp only
      assumption
  · intro x40
    refine State.raise_keeps c81f0100000200073 ?_
    assumption

theorem State.armRecheck_keeps {P : State → Prop} (c : Closed 0x10 P) {s : State} (h : P s) :
    P (State.armRecheck s) := by
  have c10 : Closed 0x10 P := c.mono rfl
  unfold State.armRecheck
  refine keeps_ite ?_ ?_
  · refine keeps_ite ?_ ?_
    · assumption
    · refine State.armAt_keeps c10 ?_
      assumption
  · refine State.disarm_keeps c10 ?_
    assumption

theorem State.chipResetOver_keeps {P : State → Prop} (c : Closed 0x80c0100000000013 P) {s : State} {a2 : _} (h : P s) :
    P (State.chipResetOver s a2) := by
  have c40000000000013 : Closed 0x40000000000013 P := c.mono rfl
  have c8080100000000011 : Closed 0x8080100000000011 P := c.mono rfl
  unfold State.chipResetOver
  split
  · refine State.finishReset_keeps c40000000000013 ?_
    refine State.arrives_keeps c8080100000000011 ?_
    assumption
  · assumption

theorem State.armBudget_keeps {P : State → Prop} (c : Closed 0x8000010 P) {s : State} (h : P s) :
    P (State.armBudget s) := by
  have c10 : Closed 0x10 P := c.mono rfl
  have c8000000 : Closed 0x8000000 P := c.mono rfl
  unfold State.armBudget
  dsimp only
  refine State.arm_keeps c10 ?_
  refine keeps_budgetWindow c8000000 ?_
  assumption

theorem State.startService_keeps {P : State → Prop} (c : Closed 0x8000010 P) {s : State} (h : P s) :
    P (State.startService s) := by
  have c10 : Closed 0x10 P := c.mono rfl
  have c8000010 : Closed 0x8000010 P := c.mono rfl
  unfold State.startService
  dsimp only
  refine State.arm_keeps c10 ?_
  refine State.armBudget_keeps c8000010 ?_
  refine State.arm_keeps c10 ?_
  refine State.arm_keeps c10 ?_
  refine State.arm_keeps c10 ?_
  refine State.arm_keeps c10 ?_
  assumption

theorem State.ready_keeps {P : State → Prop} (c : Closed 0x81f0100008200073 P) {s : State} (h : P s) :
    P (State.ready s) := by
  have c1 : Closed 0x1 P := c.mono rfl
  have c10 : Closed 0x10 P := c.mono rfl
  have c8000010 : Closed 0x8000010 P := c.mono rfl
  have c80000000000001 : Closed 0x80000000000001 P := c.mono rfl
  have c80000000000003 : Closed 0x80000000000003 P := c.mono rfl
  have c100000000000000 : Closed 0x100000000000000 P := c.mono rfl
  have c80c0100000000013 : Closed 0x80c0100000000013 P := c.mono rfl
  have c81f0100000200073 : Closed 0x81f0100000200073 P := c.mono rfl
  unfold State.ready
  dsimp only
  refine State.chipResetOver_keeps c80c0100000000013 ?_
  refine State.armRecheck_keeps c10 ?_
  refine State.startService_keeps c8000010 ?_
  refine keeps_then ?_ ?_
  · refine State.configItem_keeps c80000000000001 ?_
    refine State.writeStage_keeps c80000000000003 ?_
    refine State.planChanged_keeps c1 ?_
    refine State.putN_keeps c1 ?_
    refine State.put_keeps c1 ?_
    refine keeps_foldl ?_ _ ?_
    · intro x60 x61 x62
      refine keeps_ite ?_ ?_
      · refine State.upProbe_keeps c100000000000000 ?_
        assumption
      · assumption
    · assumption
  · intro x40
    refine State.raise_keeps c81f0100000200073 ?_
    assumption

theorem State.cable_keeps {P : State → Prop} (c : Closed 0x81f0300000200073 P) {s : State} {a2 : _} {a3 : _} {a4 : _}
    {a5 : _} {a6 : _} (h : P s) :
    P (State.cable s a2 a3 a4 a5 a6) := by
  have c1 : Closed 0x1 P := c.mono rfl
  have c2 : Closed 0x2 P := c.mono rfl
  have c200000000000 : Closed 0x200000000000 P := c.mono rfl
  have c81f0100000200073 : Closed 0x81f0100000200073 P := c.mono rfl
  unfold State.cable
  dsimp only
  refine State.raise_keeps c81f0100000200073 ?_
  refine keeps_bring c200000000000 ?_
  refine State.countStage_keeps c200000000000 ?_
  refine State.setContent_keeps c2 ?_
  refine State.bump_keeps c1 ?_
  assumption

theorem State.judgePort_keeps {P : State → Prop} (c : Closed 0x81f0300000200073 P) {s : State} {a2 : _} (h : P s) :
    P (State.judgePort s a2) := by
  have c1 : Closed 0x1 P := c.mono rfl
  have c81f0300000200073 : Closed 0x81f0300000200073 P := c.mono rfl
  unfold State.judgePort
  dsimp only
  split
  · refine State.cable_keeps c81f0300000200073 ?_
    refine keeps_ite ?_ ?_
    · assumption
    · refine State.putN_keeps c1 ?_
      assumption
  · refine keeps_ite ?_ ?_
    · assumption
    · refine keeps_ite ?_ ?_
      · refine State.putN_keeps c1 ?_
        assumption
      · refine State.cable_keeps c81f0300000200073 ?_
        refine State.putN_keeps c1 ?_
        assumption

theorem State.judgePorts_keeps {P : State → Prop} (c : Closed 0x81f0300000200077 P) {s : State} (h : P s) :
    P (State.judgePorts s) := by
  have c4 : Closed 0x4 P := c.mono rfl
  have c200000000000 : Closed 0x200000000000 P := c.mono rfl
  have c81f0300000200073 : Closed 0x81f0300000200073 P := c.mono rfl
  unfold State.judgePorts
  dsimp only
  refine keeps_ite ?_ ?_
  · refine keeps_then ?_ ?_
    · refine keeps_foldl ?_ _ ?_
      · intro x80 x81 x82
        refine State.judgePort_keeps c81f0300000200073 ?_
        assumption
      · refine keeps_bring c200000000000 ?_
        assumption
    · intro x60
      refine keeps_then ?_ ?_
      · refine keeps_bring c200000000000 ?_
        assumption
      · intro x80
        refine State.endWrite_keeps c4 ?_
        assumption
  · assumption

theorem State.askPorts_keeps {P : State → Prop} (c : Closed 0x81f0300000200077 P) {s : State} {a2 : _} {a3 : _} (h : P s) :
    P (State.askPorts s a2 a3) := by
  have c10 : Closed 0x10 P := c.mono rfl
  have c20 : Closed 0x20 P := c.mono rfl
  have c200000000000 : Closed 0x200000000000 P := c.mono rfl
  have c81f0300000200077 : Closed 0x81f0300000200077 P := c.mono rfl
  unfold State.askPorts
  dsimp only
  refine State.judgePorts_keeps c81f0300000200077 ?_
  refine keeps_foldl ?_ _ ?_
  · intro x40 x41 x42
    refine State.arm_keeps c10 ?_
    refine State.send_keeps c20 ?_
    assumption
  · refine keeps_bring c200000000000 ?_
    assumption

theorem State.startCabling_keeps {P : State → Prop} (c : Closed 0x81f0300000200077 P) {s : State} (h : P s) :
    P (State.startCabling s) := by
  have c10 : Closed 0x10 P := c.mono rfl
  have c200000000000 : Closed 0x200000000000 P := c.mono rfl
  have c81f0300000200073 : Closed 0x81f0300000200073 P := c.mono rfl
  have c81f0300000200077 : Closed 0x81f0300000200077 P := c.mono rfl
  unfold State.startCabling
  dsimp only
  refine keeps_foldl ?_ _ ?_
  · intro x40 x41 x42
    refine State.cable_keeps c81f0300000200073 ?_
    assumption
  · refine State.askPorts_keeps c81f0300000200077 ?_
    refine keeps_else ?_ ?_
    · refine keeps_bring c200000000000 ?_
      assumption
    · intro x60
      refine State.arm_keeps c10 ?_
      assumption

theorem State.sparesExhausted_keeps {P : State → Prop} (c : Closed 0x81f05f5d037a7073 P) {s : State} {a2 : _} {a3 : _}
    {a4 : _} (h : P s) :
    P (State.sparesExhausted s a2 a3 a4) := by
  have c1 : Closed 0x1 P := c.mono rfl
  have c81f0100000200073 : Closed 0x81f0100000200073 P := c.mono rfl
  have c81f05e1903706073 : Closed 0x81f05e1903706073 P := c.mono rfl
  have c81f05f5d037a7073 : Closed 0x81f05f5d037a7073 P := c.mono rfl
  unfold State.sparesExhausted
  dsimp only
  refine keeps_ite ?_ ?_
  · refine State.fenceSteps_keeps c81f05e1903706073 ?_
    refine State.raiseWith_keeps c81f0100000200073 ?_
    assumption
  · refine keeps_else ?_ ?_
    · refine State.fenceIfOn_keeps c81f05f5d037a7073 ?_
      refine State.raiseWith_keeps c81f0100000200073 ?_
      assumption
    · intro x60
      refine keeps_foldl ?_ _ ?_
      · intro x80 x81 x82
        refine State.setGalley_keeps c1 ?_
        assumption
      · assumption

theorem State.startFills_keeps {P : State → Prop} (c : Closed 0x81f07f7d037a7073 P) {s : State} (h : P s) :
    P (State.startFills s) := by
  have c10 : Closed 0x10 P := c.mono rfl
  have c6000000021 : Closed 0x6000000021 P := c.mono rfl
  have c200000000000 : Closed 0x200000000000 P := c.mono rfl
  have c81f05f5d037a7073 : Closed 0x81f05f5d037a7073 P := c.mono rfl
  unfold State.startFills
  dsimp only
  refine keeps_foldl ?_ _ ?_
  · intro x40 x41 x42
    refine keeps_then ?_ ?_
    · refine State.arm_keeps c10 ?_
      refine State.repairAndFill_keeps c6000000021 ?_
      assumption
    · intro x60
      refine State.sparesExhausted_keeps c81f05f5d037a7073 ?_
      assumption
  · refine keeps_bring c200000000000 ?_
    assumption

theorem State.startSpecimens_keeps {P : State → Prop} (c : Closed 0x200000c02030 P) {s : State} (h : P s) :
    P (State.startSpecimens s) := by
  have c10 : Closed 0x10 P := c.mono rfl
  have cc02030 : Closed 0xc02030 P := c.mono rfl
  have c200000000000 : Closed 0x200000000000 P := c.mono rfl
  unfold State.startSpecimens
  dsimp only
  refine keeps_foldl ?_ _ ?_
  · intro x40 x41 x42
    refine State.issueSpecimen_keeps cc02030 ?_
    assumption
  · refine State.arm_keeps c10 ?_
    refine keeps_bring c200000000000 ?_
    assumption

theorem State.startUnit_keeps {P : State → Prop} (c : Closed 0x400000000030 P) {s : State} {a2 : _} (h : P s) :
    P (State.startUnit s a2) := by
  have c10 : Closed 0x10 P := c.mono rfl
  have c20 : Closed 0x20 P := c.mono rfl
  have c400000000000 : Closed 0x400000000000 P := c.mono rfl
  unfold State.startUnit
  dsimp only
  refine State.arm_keeps c10 ?_
  refine State.send_keeps c20 ?_
  refine keeps_test c400000000000 ?_
  assumption

theorem State.startCore_keeps {P : State → Prop} (c : Closed 0x81f0504103706073 P) {s : State} {a2 : _} {a3 : _} (h : P s) :
    P (State.startCore s a2 a3) := by
  have c1 : Closed 0x1 P := c.mono rfl
  have c4000000001 : Closed 0x4000000001 P := c.mono rfl
  have c400000000000 : Closed 0x400000000000 P := c.mono rfl
  have c400000000030 : Closed 0x400000000030 P := c.mono rfl
  have c120000000000041 : Closed 0x120000000000041 P := c.mono rfl
  have c81f0100103706073 : Closed 0x81f0100103706073 P := c.mono rfl
  unfold State.startCore
  dsimp only
  refine keeps_then ?_ ?_
  · refine keeps_else ?_ ?_
    · refine keeps_test c400000000000 ?_
      refine State.putN_keeps c1 ?_
      refine State.setFp_keeps c1 ?_
      refine State.isolateCore_keeps c120000000000041 ?_
      refine State.takeCore_keeps c81f0100103706073 ?_
      refine keeps_test c400000000000 ?_
      assumption
    · intro x60
      refine State.startUnit_keeps c400000000030 ?_
      assumption
  · intro x40
    refine State.startUnit_keeps c400000000030 ?_
    refine State.putN_keeps c1 ?_
    refine State.abortScans_keeps c4000000001 ?_
    assumption

theorem State.nextBatch_keeps {P : State → Prop} (c : Closed 0x81f0704103706073 P) {s : State} (h : P s) :
    P (State.nextBatch s) := by
  have c200000000000 : Closed 0x200000000000 P := c.mono rfl
  have c400000000000 : Closed 0x400000000000 P := c.mono rfl
  have c81f0504103706073 : Closed 0x81f0504103706073 P := c.mono rfl
  unfold State.nextBatch
  dsimp only
  refine keeps_ite ?_ ?_
  · assumption
  · refine keeps_foldl ?_ _ ?_
    · intro x60 x61 x62
      refine State.startCore_keeps c81f0504103706073 ?_
      assumption
    · refine keeps_test c400000000000 ?_
      refine State.countStage_keeps c200000000000 ?_
      assumption

theorem State.startTests_keeps {P : State → Prop} (c : Closed 0x81f0704103706073 P) {s : State} (h : P s) :
    P (State.startTests s) := by
  have c1 : Closed 0x1 P := c.mono rfl
  have c400000000000 : Closed 0x400000000000 P := c.mono rfl
  have c400000000030 : Closed 0x400000000030 P := c.mono rfl
  have c81f0704103706073 : Closed 0x81f0704103706073 P := c.mono rfl
  unfold State.startTests
  dsimp only
  refine State.showTests_keeps c1 ?_
  refine State.nextBatch_keeps c81f0704103706073 ?_
  refine keeps_foldl ?_ _ ?_
  · intro x40 x41 x42
    refine State.startUnit_keeps c400000000030 ?_
    assumption
  · refine keeps_foldl ?_ _ ?_
    · intro x60 x61 x62
      refine State.startUnit_keeps c400000000030 ?_
      assumption
    · refine keeps_foldl ?_ _ ?_
      · intro x80 x81 x82
        refine State.startUnit_keeps c400000000030 ?_
        assumption
      · refine keeps_test c400000000000 ?_
        refine State.putN_keeps c1 ?_
        assumption

theorem State.trainStack_keeps {P : State → Prop} (c : Closed 0x30 P) {s : State} {a2 : _} (h : P s) :
    P (State.trainStack s a2) := by
  have c10 : Closed 0x10 P := c.mono rfl
  have c20 : Closed 0x20 P := c.mono rfl
  unfold State.trainStack
  refine State.arm_keeps c10 ?_
  refine State.send_keeps c20 ?_
  assumption

theorem State.startTraining_keeps {P : State → Prop} (c : Closed 0x200000000031 P) {s : State} (h : P s) :
    P (State.startTraining s) := by
  have c1 : Closed 0x1 P := c.mono rfl
  have c10 : Closed 0x10 P := c.mono rfl
  have c20 : Closed 0x20 P := c.mono rfl
  have c30 : Closed 0x30 P := c.mono rfl
  have c200000000000 : Closed 0x200000000000 P := c.mono rfl
  unfold State.startTraining
  dsimp only
  refine keeps_foldl ?_ _ ?_
  · intro x40 x41 x42
    refine State.trainStack_keeps c30 ?_
    assumption
  · refine keeps_foldl ?_ _ ?_
    · intro x60 x61 x62
      refine State.arm_keeps c10 ?_
      refine State.send_keeps c20 ?_
      refine State.bump_keeps c1 ?_
      assumption
    · refine keeps_bring c200000000000 ?_
      assumption

theorem State.startStage_keeps {P : State → Prop} (c : Closed 0x81f07f7d0bfa7077 P) {s : State} {a2 : _} (h : P s) :
    P (State.startStage s a2) := by
  have c1 : Closed 0x1 P := c.mono rfl
  have c200000000000 : Closed 0x200000000000 P := c.mono rfl
  have c200000000031 : Closed 0x200000000031 P := c.mono rfl
  have c200000c02030 : Closed 0x200000c02030 P := c.mono rfl
  have c81f0100008200073 : Closed 0x81f0100008200073 P := c.mono rfl
  have c81f0300000200077 : Closed 0x81f0300000200077 P := c.mono rfl
  have c81f0704103706073 : Closed 0x81f0704103706073 P := c.mono rfl
  have c81f07f7d037a7073 : Closed 0x81f07f7d037a7073 P := c.mono rfl
  unfold State.startStage
  dsimp only
  refine keeps_ite ?_ ?_
  · refine State.startFills_keeps c81f07f7d037a7073 ?_
    refine keeps_bring c200000000000 ?_
    refine State.putN_keeps c1 ?_
    assumption
  · refine keeps_ite ?_ ?_
    · refine State.startTraining_keeps c200000000031 ?_
      refine keeps_bring c200000000000 ?_
      refine State.putN_keeps c1 ?_
      assumption
    · refine keeps_ite ?_ ?_
      · refine keeps_else ?_ ?_
        · refine keeps_bring c200000000000 ?_
          refine State.putN_keeps c1 ?_
          assumption
        · intro x100
          refine State.startTests_keeps c81f0704103706073 ?_
          assumption
      · refine keeps_ite ?_ ?_
        · refine State.startSpecimens_keeps c200000c02030 ?_
          refine State.showTests_keeps c1 ?_
          refine keeps_bring c200000000000 ?_
          refine State.putN_keeps c1 ?_
          assumption
        · refine keeps_ite ?_ ?_
          · refine State.startCabling_keeps c81f0300000200077 ?_
            refine keeps_bring c200000000000 ?_
            refine State.putN_keeps c1 ?_
            assumption
          · refine keeps_then ?_ ?_
            · refine keeps_bring c200000000000 ?_
              refine State.putN_keeps c1 ?_
              assumption
            · intro x140
              refine State.ready_keeps c81f0100008200073 ?_
              assumption

theorem State.passStage_keeps {P : State → Prop} (c : Closed 0x81f07f7d0bfa7077 P) {s : State} {a2 : _} (h : P s) :
    P (State.passStage s a2) := by
  have c1 : Closed 0x1 P := c.mono rfl
  have c10 : Closed 0x10 P := c.mono rfl
  have c200000000000 : Closed 0x200000000000 P := c.mono rfl
  have c80000000000001 : Closed 0x80000000000001 P := c.mono rfl
  have c80000000000003 : Closed 0x80000000000003 P := c.mono rfl
  have c8080100000000011 : Closed 0x8080100000000011 P := c.mono rfl
  have c81f0304400200073 : Closed 0x81f0304400200073 P := c.mono rfl
  have c81f07f7d0bfa7077 : Closed 0x81f07f7d0bfa7077 P := c.mono rfl
  unfold State.passStage
  dsimp only
  refine keeps_ite ?_ ?_
  · refine keeps_bring c200000000000 ?_
    refine State.configItem_keeps c80000000000001 ?_
    refine State.putN_keeps c1 ?_
    refine State.writeStage_keeps c80000000000003 ?_
    refine keeps_then ?_ ?_
    · refine keeps_ite ?_ ?_
      · refine State.moveRetired_keeps c81f0304400200073 ?_
        refine State.arrives_keeps c8080100000000011 ?_
        assumption
      · assumption
    · intro x60
      refine State.disarm_keeps c10 ?_
      assumption
  · refine State.startStage_keeps c81f07f7d0bfa7077 ?_
    refine State.writeStage_keeps c80000000000003 ?_
    refine keeps_then ?_ ?_
    · refine keeps_ite ?_ ?_
      · refine State.moveRetired_keeps c81f0304400200073 ?_
        refine State.arrives_keeps c8080100000000011 ?_
        assumption
      · assumption
    · intro x60
      refine State.disarm_keeps c10 ?_
      assumption

theorem State.stageGo_keeps {P : State → Prop} (c : Closed 0x81f07f7d0bfa7077 P) {a1 : _} {s : State} (h : P s) :
    P (State.stageGo a1 s) := by
  have c81f07f7d0bfa7077 : Closed 0x81f07f7d0bfa7077 P := c.mono rfl
  unfold State.stageGo
  split
  · assumption
  · refine keeps_ite ?_ ?_
    · assumption
    · split
      · refine State.stageGo_keeps c81f07f7d0bfa7077 ?_
        refine State.passStage_keeps c81f07f7d0bfa7077 ?_
        assumption
      · assumption

theorem State.stageNext_keeps {P : State → Prop} (c : Closed 0x81f07f7d0bfa7077 P) {s : State} (h : P s) :
    P (State.stageNext s) := by
  have c81f07f7d0bfa7077 : Closed 0x81f07f7d0bfa7077 P := c.mono rfl
  unfold State.stageNext
  refine State.stageGo_keeps c81f07f7d0bfa7077 ?_
  assumption

theorem State.armWatch_keeps {P : State → Prop} (c : Closed 0x10 P) {s : State} (h : P s) :
    P (State.armWatch s) := by
  have c10 : Closed 0x10 P := c.mono rfl
  unfold State.armWatch
  refine State.arm_keeps c10 ?_
  assumption

theorem State.applyUnits_keeps {P : State → Prop} (c : Closed 0x200000000001 P) {s : State} {a2 : _} {a3 : _} (h : P s) :
    P (State.applyUnits s a2 a3) := by
  have c1 : Closed 0x1 P := c.mono rfl
  have c200000000000 : Closed 0x200000000000 P := c.mono rfl
  unfold State.applyUnits
  dsimp only
  refine keeps_foldl ?_ _ ?_
  · intro x40 x41 x42
    refine State.putN_keeps c1 ?_
    assumption
  · refine keeps_bring c200000000000 ?_
    assumption

theorem State.buildPlan_keeps {P : State → Prop} (c : Closed 0x81f0100000200073 P) {s : State} {a2 : _} {a3 : _} (h : P s) :
    P (State.buildPlan s a2 a3) := by
  have c1 : Closed 0x1 P := c.mono rfl
  have c81f0100000200073 : Closed 0x81f0100000200073 P := c.mono rfl
  unfold State.buildPlan
  dsimp only
  refine keeps_then ?_ ?_
  · refine keeps_then ?_ ?_
    · refine State.putN_keeps c1 ?_
      refine keeps_foldl ?_ _ ?_
      · intro x80 x81 x82
        refine State.putN_keeps c1 ?_
        refine State.putN_keeps c1 ?_
        assumption
      · assumption
    · intro x60
      refine State.raise_keeps c81f0100000200073 ?_
      assumption
  · intro x40
    refine State.raise_keeps c81f0100000200073 ?_
    assumption

theorem State.keepPlan_keeps {P : State → Prop} (c : Closed 0x1 P) {s : State} {a2 : _} (h : P s) :
    P (State.keepPlan s a2) := by
  have c1 : Closed 0x1 P := c.mono rfl
  unfold State.keepPlan
  refine keeps_foldl ?_ _ ?_
  · intro x40 x41 x42
    refine State.putN_keeps c1 ?_
    assumption
  · assumption

theorem State.showCores_keeps {P : State → Prop} (c : Closed 0x120000000000041 P) {s : State} {a2 : _} (h : P s) :
    P (State.showCores s a2) := by
  have c1 : Closed 0x1 P := c.mono rfl
  have c120000000000041 : Closed 0x120000000000041 P := c.mono rfl
  unfold State.showCores
  dsimp only
  refine keeps_foldl ?_ _ ?_
  · intro x40 x41 x42
    refine State.putN_keeps c1 ?_
    refine keeps_then ?_ ?_
    · refine keeps_ite ?_ ?_
      · refine State.putN_keeps c1 ?_
        assumption
      · assumption
    · intro x60
      refine State.isolateCore_keeps c120000000000041 ?_
      refine State.setCoreStates_keeps c1 ?_
      assumption
  · assumption

theorem State.applyFuses_keeps {P : State → Prop} (c : Closed 0x81f0300000200073 P) {s : State} {a2 : _} (h : P s) :
    P (State.applyFuses s a2) := by
  have c1 : Closed 0x1 P := c.mono rfl
  have c200000000000 : Closed 0x200000000000 P := c.mono rfl
  have c200000000001 : Closed 0x200000000001 P := c.mono rfl
  have c120000000000041 : Closed 0x120000000000041 P := c.mono rfl
  have c81f0100000200073 : Closed 0x81f0100000200073 P := c.mono rfl
  unfold State.applyFuses
  dsimp only
  refine State.putN_keeps c1 ?_
  refine State.putN_keeps c1 ?_
  refine State.planChanged_keeps c1 ?_
  refine State.showCores_keeps c120000000000041 ?_
  refine keeps_ite ?_ ?_
  · refine State.buildPlan_keeps c81f0100000200073 ?_
    refine State.applyUnits_keeps c200000000001 ?_
    refine keeps_bring c200000000000 ?_
    assumption
  · refine State.keepPlan_keeps c1 ?_
    refine State.applyUnits_keeps c200000000001 ?_
    refine keeps_bring c200000000000 ?_
    assumption

theorem State.chipReinit_keeps {P : State → Prop} (c : Closed 0x20160000000001061 P) {s : State} (h : P s) :
    P (State.chipReinit s) := by
  have c1 : Closed 0x1 P := c.mono rfl
  have c20 : Closed 0x20 P := c.mono rfl
  have c20000000001000 : Closed 0x20000000001000 P := c.mono rfl
  have c40000000000000 : Closed 0x40000000000000 P := c.mono rfl
  have c120000000000041 : Closed 0x120000000000041 P := c.mono rfl
  unfold State.chipReinit
  dsimp only
  refine State.send_keeps c20 ?_
  refine State.putN_keeps c1 ?_
  refine keeps_rcv c40000000000000 ?_
  refine keeps_foldl ?_ _ ?_
  · intro x40 x41 x42
    refine keeps_ite ?_ ?_
    · refine State.isolateCore_keeps c120000000000041 ?_
      assumption
    · assumption
  · refine c .reinit_ rfl _ _ _ ?_
    refine State.zeroCycles_keeps c20000000001000 ?_
    assumption

theorem State.beginBringup_keeps {P : State → Prop} (c : Closed 0x81e0300000200073 P) {s : State} {a2 : _} (h : P s) :
    P (State.beginBringup s a2) := by
  have c1 : Closed 0x1 P := c.mono rfl
  have c200000000000 : Closed 0x200000000000 P := c.mono rfl
  have c81e0100000200073 : Closed 0x81e0100000200073 P := c.mono rfl
  unfold State.beginBringup
  dsimp only
  refine keeps_then ?_ ?_
  · refine keeps_bring c200000000000 ?_
    refine State.bump_keeps c1 ?_
    refine State.put_keeps c1 ?_
    refine State.putN_keeps c1 ?_
    refine State.putN_keeps c1 ?_
    assumption
  · intro x40
    refine State.enterFault_keeps c81e0100000200073 ?_
    assumption

theorem State.centralBit_keeps {P : State → Prop} (c : Closed 0x1 P) {s : State} {a2 : _} (h : P s) :
    P (State.centralBit s a2) := by
  have c1 : Closed 0x1 P := c.mono rfl
  unfold State.centralBit
  refine State.put_keeps c1 ?_
  assumption

theorem State.readLifeCycle_keeps {P : State → Prop} (c : Closed 0x800000000001 P) {s : State} (h : P s) :
    P (State.readLifeCycle s) := by
  have c1 : Closed 0x1 P := c.mono rfl
  have c800000000000 : Closed 0x800000000000 P := c.mono rfl
  unfold State.readLifeCycle
  dsimp only
  refine keeps_ite ?_ ?_
  · assumption
  · refine keeps_then ?_ ?_
    · refine State.putN_keeps c1 ?_
      refine State.putN_keeps c1 ?_
      assumption
    · intro x60
      refine keeps_keyClearing c800000000000 ?_
      assumption

theorem State.showTime_keeps {P : State → Prop} (c : Closed 0x81f07f7d0bfa7077 P) {s : State} (h : P s) :
    P (State.showTime s) := by
  have c1 : Closed 0x1 P := c.mono rfl
  have c10 : Closed 0x10 P := c.mono rfl
  have c200000000000 : Closed 0x200000000000 P := c.mono rfl
  have c8080100000000011 : Closed 0x8080100000000011 P := c.mono rfl
  have c81f07f7d0bfa7077 : Closed 0x81f07f7d0bfa7077 P := c.mono rfl
  unfold State.showTime
  dsimp only
  refine keeps_then ?_ ?_
  · refine State.putN_keeps c1 ?_
    assumption
  · intro x40
    refine State.stageNext_keeps c81f07f7d0bfa7077 ?_
    refine keeps_then ?_ ?_
    · refine State.arrives_keeps c8080100000000011 ?_
      refine State.rearm_keeps c10 ?_
      assumption
    · intro x60
      refine keeps_bring c200000000000 ?_
      assumption

theorem State.coldStart_keeps {P : State → Prop} (c : Closed 0x81f8ff7d0bfa707f P) {s : State} {a2 : _} (h : P s) :
    P (State.coldStart s a2) := by
  have c1 : Closed 0x1 P := c.mono rfl
  have c1000 : Closed 0x1000 P := c.mono rfl
  have c800000000001 : Closed 0x800000000001 P := c.mono rfl
  have c8080000000008 : Closed 0x8080000000008 P := c.mono rfl
  have c81e0300000200073 : Closed 0x81e0300000200073 P := c.mono rfl
  have c81f07f7d0bfa7077 : Closed 0x81f07f7d0bfa7077 P := c.mono rfl
  unfold State.coldStart
  dsimp only
  refine State.beginBringup_keeps c81e0300000200073 ?_
  refine State.showTime_keeps c81f07f7d0bfa7077 ?_
  refine State.readLifeCycle_keeps c800000000001 ?_
  refine State.upTb_keeps c1000 ?_
  refine State.put_keeps c1 ?_
  refine keeps_coldStarts_holes_now c8080000000008 ?_
  assumption

theorem State.fenceFailed_keeps {P : State → Prop} (c : Closed 0x81f05f5d037a7073 P) {s : State} {a2 : _} {a3 : _} (h : P s) :
    P (State.fenceFailed s a2 a3).1 := by
  have c10000000000 : Closed 0x10000000000 P := c.mono rfl
  have c81f0100000200073 : Closed 0x81f0100000200073 P := c.mono rfl
  have c81f05e1903706073 : Closed 0x81f05e1903706073 P := c.mono rfl
  have c81f05f5d037a7073 : Closed 0x81f05f5d037a7073 P := c.mono rfl
  unfold State.fenceFailed
  split
  · refine State.fenceAuto_keeps c81f05f5d037a7073 ?_
    assumption
  · split
    · dsimp only
      refine State.fenceSteps_keeps c81f05e1903706073 ?_
      refine keeps_fences c10000000000 ?_
      assumption
    · dsimp only
      refine State.raise_keeps c81f0100000200073 ?_
      assumption

theorem State.coreDone_keeps {P : State → Prop} (c : Closed 0x81f07f5d03fa7073 P) {s : State} {a2 : _} (h : P s) :
    P (State.coreDone s a2) := by
  have c1 : Closed 0x1 P := c.mono rfl
  have cc02030 : Closed 0xc02030 P := c.mono rfl
  have c200000000000 : Closed 0x200000000000 P := c.mono rfl
  have c400000000000 : Closed 0x400000000000 P := c.mono rfl
  have c120000000000041 : Closed 0x120000000000041 P := c.mono rfl
  have c81f05e1903706073 : Closed 0x81f05e1903706073 P := c.mono rfl
  have c81f05f5d037a7073 : Closed 0x81f05f5d037a7073 P := c.mono rfl
  have c81f0704103706073 : Closed 0x81f0704103706073 P := c.mono rfl
  unfold State.coreDone
  dsimp only
  refine keeps_ite ?_ ?_
  · refine State.nextBatch_keeps c81f0704103706073 ?_
    refine keeps_then ?_ ?_
    · refine keeps_ite ?_ ?_
      · refine State.countStage_keeps c200000000000 ?_
        refine State.fenceSteps_keeps c81f05e1903706073 ?_
        refine State.putN_keeps c1 ?_
        refine State.countStage_keeps c200000000000 ?_
        refine keeps_test c400000000000 ?_
        assumption
      · refine State.returnCore_keeps c120000000000041 ?_
        refine State.putN_keeps c1 ?_
        refine State.countStage_keeps c200000000000 ?_
        refine keeps_test c400000000000 ?_
        assumption
    · intro x60
      refine keeps_bring c200000000000 ?_
      assumption
  · refine keeps_ite ?_ ?_
    · refine State.issueSpecimen_keeps cc02030 ?_
      refine keeps_test c400000000000 ?_
      refine State.putN_keeps c1 ?_
      refine State.putN_keeps c1 ?_
      refine keeps_test c400000000000 ?_
      assumption
    · refine keeps_ite ?_ ?_
      · refine State.setFp_keeps c1 ?_
        refine State.putN_keeps c1 ?_
        refine State.putN_keeps c1 ?_
        refine keeps_test c400000000000 ?_
        assumption
      · refine keeps_ite ?_ ?_
        · refine State.putN_keeps c1 ?_
          refine State.fenceFailed_keeps c81f05f5d037a7073 ?_
          refine State.putN_keeps c1 ?_
          refine keeps_test c400000000000 ?_
          assumption
        · refine keeps_test c400000000000 ?_
          refine State.putN_keeps c1 ?_
          refine State.fenceFailed_keeps c81f05f5d037a7073 ?_
          refine State.putN_keeps c1 ?_
          refine keeps_test c400000000000 ?_
          assumption

theorem State.jump_keeps {P : State → Prop} (c : Closed 0x40000000000000000 P) {s : State} {a2 : _} (h : P s) :
    P (State.jump s a2) := by
  exact c .jump_ rfl _ _  h

theorem State.setRate_keeps {P : State → Prop} (c : Closed 0x1 P) {s : State} {a2 : _} (h : P s) :
    P (State.setRate s a2) := by
  have c1 : Closed 0x1 P := c.mono rfl
  unfold State.setRate
  dsimp only
  refine State.put_keeps c1 ?_
  refine State.put_keeps c1 ?_
  assumption

theorem State.correct_keeps {P : State → Prop} (c : Closed 0x40000000000001001 P) {s : State} {a2 : _} (h : P s) :
    P (State.correct s a2) := by
  have c1 : Closed 0x1 P := c.mono rfl
  have c1000 : Closed 0x1000 P := c.mono rfl
  have c40000000000000000 : Closed 0x40000000000000000 P := c.mono rfl
  unfold State.correct
  dsimp only
  refine keeps_ite ?_ ?_
  · refine State.setRate_keeps c1 ?_
    refine State.upTb_keeps c1000 ?_
    refine State.jump_keeps c40000000000000000 ?_
    refine State.bump_keeps c1 ?_
    refine State.upTb_keeps c1000 ?_
    assumption
  · refine State.setRate_keeps c1 ?_
    refine State.upTb_keeps c1000 ?_
    assumption

theorem State.edgeSeen_keeps {P : State → Prop} (c : Closed 0x8090100000000011 P) {s : State} {a2 : _} (h : P s) :
    P (State.edgeSeen s a2) := by
  have c1 : Closed 0x1 P := c.mono rfl
  have c10000000000000 : Closed 0x10000000000000 P := c.mono rfl
  have c8080100000000011 : Closed 0x8080100000000011 P := c.mono rfl
  unfold State.edgeSeen
  dsimp only
  refine keeps_ite ?_ ?_
  · refine keeps_then ?_ ?_
    · refine keeps_frz c10000000000000 ?_
      assumption
    · intro x60
      refine State.putN_keeps c1 ?_
      refine State.arrives_keeps c8080100000000011 ?_
      assumption
  · assumption

theorem State.endStage_keeps {P : State → Prop} (c : Closed 0x81f07f7d0bfa7077 P) {s : State} {a2 : _} (h : P s) :
    P (State.endStage s a2) := by
  have c81f07f7d0bfa7077 : Closed 0x81f07f7d0bfa7077 P := c.mono rfl
  unfold State.endStage
  refine State.stageNext_keeps c81f07f7d0bfa7077 ?_
  refine State.passStage_keeps c81f07f7d0bfa7077 ?_
  assumption

theorem State.retireFailed_keeps {P : State → Prop} (c : Closed 0x81f03e0000200073 P) {s : State} {a2 : _} (h : P s) :
    P (State.retireFailed s a2) := by
  have c1 : Closed 0x1 P := c.mono rfl
  have c200000000000 : Closed 0x200000000000 P := c.mono rfl
  have c81f01e0000200073 : Closed 0x81f01e0000200073 P := c.mono rfl
  unfold State.retireFailed
  dsimp only
  split
  · refine State.centralBit_keeps c1 ?_
    refine State.countStage_keeps c200000000000 ?_
    assumption
  · refine State.centralBit_keeps c1 ?_
    refine State.retireOther_keeps c81f01e0000200073 ?_
    assumption
  · refine State.putN_keeps c1 ?_
    refine State.centralBit_keeps c1 ?_
    refine State.retireOther_keeps c81f01e0000200073 ?_
    assumption
  · refine keeps_ite ?_ ?_
    · assumption
    · refine State.retireOther_keeps c81f01e0000200073 ?_
      refine keeps_bring c200000000000 ?_
      assumption
  · assumption

theorem State.sliceFailed_keeps {P : State → Prop} (c : Closed 0x81f05f5d037a7073 P) {s : State} {a2 : _} (h : P s) :
    P (State.sliceFailed s a2) := by
  have c81f05e1903706073 : Closed 0x81f05e1903706073 P := c.mono rfl
  have c81f05f5d037a7073 : Closed 0x81f05f5d037a7073 P := c.mono rfl
  unfold State.sliceFailed
  refine keeps_ite ?_ ?_
  · refine State.fenceAuto_keeps c81f05f5d037a7073 ?_
    assumption
  · refine State.fenceSteps_keeps c81f05e1903706073 ?_
    assumption

theorem State.stackDone_keeps {P : State → Prop} (c : Closed 0x400000000001 P) {s : State} (h : P s) :
    P (State.stackDone s) := by
  have c1 : Closed 0x1 P := c.mono rfl
  have c400000000000 : Closed 0x400000000000 P := c.mono rfl
  unfold State.stackDone
  dsimp only
  refine keeps_ite ?_ ?_
  · refine keeps_test c400000000000 ?_
    refine State.putN_keeps c1 ?_
    assumption
  · assumption

theorem State.endUnit_keeps {P : State → Prop} (c : Closed 0x81f07f5d03fa7073 P) {s : State} {a2 : _} {a3 : _} {a4 : _}
    {a5 : _} (h : P s) :
    P (State.endUnit s a2 a3 a4 a5) := by
  have c1 : Closed 0x1 P := c.mono rfl
  have c3 : Closed 0x3 P := c.mono rfl
  have c400000000000 : Closed 0x400000000000 P := c.mono rfl
  have c400000000001 : Closed 0x400000000001 P := c.mono rfl
  have c400000000010 : Closed 0x400000000010 P := c.mono rfl
  have c81f0100000200073 : Closed 0x81f0100000200073 P := c.mono rfl
  have c81f03e0000200073 : Closed 0x81f03e0000200073 P := c.mono rfl
  have c81f05f5d037a7073 : Closed 0x81f05f5d037a7073 P := c.mono rfl
  have c81f07f5d03fa7073 : Closed 0x81f07f5d03fa7073 P := c.mono rfl
  unfold State.endUnit
  dsimp only
  split
  · split
    · refine keeps_ite ?_ ?_
      · refine State.showTests_keeps c1 ?_
        refine keeps_test c400000000000 ?_
        refine keeps_then ?_ ?_
        · split
          · split
            · refine State.raiseWith_keeps c81f0100000200073 ?_
              refine State.keepTest_keeps c3 ?_
              refine State.dropUnit_keeps c400000000010 ?_
              assumption
            · refine State.raise_keeps c81f0100000200073 ?_
              refine State.keepTest_keeps c3 ?_
              refine State.dropUnit_keeps c400000000010 ?_
              assumption
          · refine State.keepTest_keeps c3 ?_
            refine State.dropUnit_keeps c400000000010 ?_
            assumption
        · intro x100
          refine keeps_test c400000000000 ?_
          assumption
      · refine State.showTests_keeps c1 ?_
        refine State.coreDone_keeps c81f07f5d03fa7073 ?_
        refine keeps_test c400000000000 ?_
        refine keeps_then ?_ ?_
        · split
          · split
            · refine State.raiseWith_keeps c81f0100000200073 ?_
              refine State.keepTest_keeps c3 ?_
              refine State.dropUnit_keeps c400000000010 ?_
              assumption
            · refine State.raise_keeps c81f0100000200073 ?_
              refine State.keepTest_keeps c3 ?_
              refine State.dropUnit_keeps c400000000010 ?_
              assumption
          · refine State.keepTest_keeps c3 ?_
            refine State.dropUnit_keeps c400000000010 ?_
            assumption
        · intro x100
          refine keeps_test c400000000000 ?_
          assumption
    · refine State.showTests_keeps c1 ?_
      refine State.stackDone_keeps c400000000001 ?_
      refine keeps_then ?_ ?_
      · refine keeps_then ?_ ?_
        · split
          · split
            · refine State.raiseWith_keeps c81f0100000200073 ?_
              refine State.keepTest_keeps c3 ?_
              refine State.dropUnit_keeps c400000000010 ?_
              assumption
            · refine State.raise_keeps c81f0100000200073 ?_
              refine State.keepTest_keeps c3 ?_
              refine State.dropUnit_keeps c400000000010 ?_
              assumption
          · refine State.keepTest_keeps c3 ?_
            refine State.dropUnit_keeps c400000000010 ?_
            assumption
        · intro x100
          refine keeps_test c400000000000 ?_
          assumption
      · intro x80
        refine State.sliceFailed_keeps c81f05f5d037a7073 ?_
        assumption
  · refine State.showTests_keeps c1 ?_
    refine State.stackDone_keeps c400000000001 ?_
    refine keeps_then ?_ ?_
    · refine keeps_then ?_ ?_
      · split
        · split
          · refine State.raiseWith_keeps c81f0100000200073 ?_
            refine State.keepTest_keeps c3 ?_
            refine State.dropUnit_keeps c400000000010 ?_
            assumption
          · refine State.raise_keeps c81f0100000200073 ?_
            refine State.keepTest_keeps c3 ?_
            refine State.dropUnit_keeps c400000000010 ?_
            assumption
        · refine State.keepTest_keeps c3 ?_
          refine State.dropUnit_keeps c400000000010 ?_
          assumption
      · intro x80
        refine keeps_test c400000000000 ?_
        assumption
    · intro x60
      refine State.retireFailed_keeps c81f03e0000200073 ?_
      assumption

theorem State.enterHoldover_keeps {P : State → Prop} (c : Closed 0x81f07f7d0bfa7077 P) {s : State} (h : P s) :
    P (State.enterHoldover s) := by
  have c1 : Closed 0x1 P := c.mono rfl
  have c1000 : Closed 0x1000 P := c.mono rfl
  have c81f0100000200073 : Closed 0x81f0100000200073 P := c.mono rfl
  have c81f07f7d0bfa7077 : Closed 0x81f07f7d0bfa7077 P := c.mono rfl
  unfold State.enterHoldover
  refine keeps_ite ?_ ?_
  · assumption
  · refine State.raise_keeps c81f0100000200073 ?_
    refine State.showTime_keeps c81f07f7d0bfa7077 ?_
    refine State.bump_keeps c1 ?_
    refine State.upTb_keeps c1000 ?_
    assumption

theorem State.filled_keeps {P : State → Prop} (c : Closed 0x2000000001 P) {s : State} {a2 : _} (h : P s) :
    P (State.filled s a2) := by
  have c1 : Closed 0x1 P := c.mono rfl
  have c2000000000 : Closed 0x2000000000 P := c.mono rfl
  unfold State.filled
  dsimp only
  refine State.putN_keeps c1 ?_
  refine State.putN_keeps c1 ?_
  refine State.setSlice_keeps c2000000000 ?_
  assumption

theorem State.load_keeps {P : State → Prop} (c : Closed 0x481f07f7d0bfa7077 P) {s : State} {a2 : _} {a3 : _} (h : P s) :
    P (State.load s a2 a3) := by
  have c1 : Closed 0x1 P := c.mono rfl
  have c2 : Closed 0x2 P := c.mono rfl
  have c1000 : Closed 0x1000 P := c.mono rfl
  have c80000000000001 : Closed 0x80000000000001 P := c.mono rfl
  have c81f07f7d0bfa7077 : Closed 0x81f07f7d0bfa7077 P := c.mono rfl
  have c40000000000000000 : Closed 0x40000000000000000 P := c.mono rfl
  unfold State.load
  dsimp only
  refine State.showTime_keeps c81f07f7d0bfa7077 ?_
  refine keeps_then ?_ ?_
  · refine State.upTb_keeps c1000 ?_
    refine State.putN_keeps c1 ?_
    refine State.jump_keeps c40000000000000000 ?_
    assumption
  · intro x40
    refine State.setContent_keeps c2 ?_
    refine State.event_keeps c80000000000001 ?_
    assumption

theorem writeLoad_keeps {P : State → Prop} (c : Closed 0x481f07f7d0bfa7077 P) {a1 : _} {a2 : _} {s : State} (h : P s) :
    P (writeLoad a1 a2 s).1 := by
  have c1000 : Closed 0x1000 P := c.mono rfl
  have c81f07f7d0bfa7077 : Closed 0x81f07f7d0bfa7077 P := c.mono rfl
  have c481f07f7d0bfa7077 : Closed 0x481f07f7d0bfa7077 P := c.mono rfl
  unfold writeLoad
  dsimp only
  split
  · dsimp only
    assumption
  · split
    · split
      · dsimp only
        assumption
      · dsimp only
        refine State.load_keeps c481f07f7d0bfa7077 ?_
        assumption
    · split
      · dsimp only
        assumption
      · dsimp only
        refine State.showTime_keeps c81f07f7d0bfa7077 ?_
        refine State.upTb_keeps c1000 ?_
        assumption

theorem State.judgeSlice_keeps {P : State → Prop} (c : Closed 0x80002000000001 P) {s : State} {a2 : _} {a3 : _} (h : P s) :
    P (State.judgeSlice s a2 a3).1 := by
  have c1 : Closed 0x1 P := c.mono rfl
  have c80002000000001 : Closed 0x80002000000001 P := c.mono rfl
  unfold State.judgeSlice
  dsimp only
  split
  · dsimp only
    assumption
  · split
    · dsimp only
      refine State.bumpBy_keeps c1 ?_
      refine keeps_foldl ?_ _ ?_
      · intro x80 x81 x82
        refine State.addRow_keeps c80002000000001 ?_
        assumption
      · refine keeps_foldl ?_ _ ?_
        · intro x100 x101 x102
          refine State.addColumn_keeps c80002000000001 ?_
          assumption
        · assumption
    · dsimp only
      refine State.bumpBy_keeps c1 ?_
      refine keeps_foldl ?_ _ ?_
      · intro x80 x81 x82
        refine State.addRow_keeps c80002000000001 ?_
        assumption
      · refine keeps_foldl ?_ _ ?_
        · intro x100 x101 x102
          refine State.addColumn_keeps c80002000000001 ?_
          assumption
        · assumption

theorem State.latchSettings_keeps {P : State → Prop} (c : Closed 0x10000000000000001 P) {s : State} (h : P s) :
    P (State.latchSettings s) := by
  have c1 : Closed 0x1 P := c.mono rfl
  have c10000000000000000 : Closed 0x10000000000000000 P := c.mono rfl
  unfold State.latchSettings
  dsimp only
  refine keeps_ite ?_ ?_
  · assumption
  · refine keeps_coldMap c10000000000000000 ?_
    refine State.putN_keeps c1 ?_
    assumption

theorem State.measure_keeps {P : State → Prop} (c : Closed 0x1 P) {s : State} {a2 : _} (h : P s) :
    P (State.measure s a2) := by
  have c1 : Closed 0x1 P := c.mono rfl
  unfold State.measure
  dsimp only
  refine keeps_then ?_ ?_
  · refine State.put_keeps c1 ?_
    assumption
  · intro x40
    refine State.putN_keeps c1 ?_
    assumption

theorem State.pulse_keeps {P : State → Prop} (c : Closed 0x481f07f7d0bfa7077 P) {s : State} {a2 : _} (h : P s) :
    P (State.pulse s a2) := by
  have c1 : Closed 0x1 P := c.mono rfl
  have c10 : Closed 0x10 P := c.mono rfl
  have c1000 : Closed 0x1000 P := c.mono rfl
  have c8080100000000011 : Closed 0x8080100000000011 P := c.mono rfl
  have c81f07f7d0bfa7077 : Closed 0x81f07f7d0bfa7077 P := c.mono rfl
  have c40000000000001001 : Closed 0x40000000000001001 P := c.mono rfl
  unfold State.pulse
  dsimp only
  refine keeps_ite ?_ ?_
  · assumption
  · refine State.showTime_keeps c81f07f7d0bfa7077 ?_
    refine State.correct_keeps c40000000000001001 ?_
    refine State.upTb_keeps c1000 ?_
    refine State.measure_keeps c1 ?_
    refine State.armWatch_keeps c10 ?_
    refine State.arrives_keeps c8080100000000011 ?_
    assumption

theorem State.startLate_keeps {P : State → Prop} (c : Closed 0x1001 P) {s : State} {a2 : _} (h : P s) :
    P (State.startLate s a2) := by
  have c1 : Closed 0x1 P := c.mono rfl
  have c1000 : Closed 0x1000 P := c.mono rfl
  unfold State.startLate
  dsimp only
  refine keeps_ite ?_ ?_
  · refine State.upTb_keeps c1000 ?_
    refine State.putN_keeps c1 ?_
    refine State.putN_keeps c1 ?_
    assumption
  · refine State.upTb_keeps c1000 ?_
    assumption

theorem execBackupChangeover_keeps {P : State → Prop} (c : Closed 0x87f07ffd0bfa71f7 P) {s : State} (h : P s) :
    NextHas P (execBackupChangeover s) := by
  have c1 : Closed 0x1 P := c.mono rfl
  have c20 : Closed 0x20 P := c.mono rfl
  have c1000 : Closed 0x1000 P := c.mono rfl
  have c81f07f7d0bfa7077 : Closed 0x81f07f7d0bfa7077 P := c.mono rfl
  have c87f010dd037a71f7 : Closed 0x87f010dd037a71f7 P := c.mono rfl
  unfold execBackupChangeover
  dsimp only
  refine has_ite ?_ ?_
  · refine nextHas ?_
    refine State.begin_keeps c20 ?_
    assumption
  · refine nextHas ?_
    refine State.settleAll_keeps c87f010dd037a71f7 ?_
    refine State.showTime_keeps c81f07f7d0bfa7077 ?_
    refine State.bump_keeps c1 ?_
    refine State.upTb_keeps c1000 ?_
    refine State.begin_keeps c20 ?_
    assumption

theorem execBeaconAtTimeRoot_keeps {P : State → Prop} (c : Closed 0x20 P) {a1 : _} {a2 : _} {s : State} (h : P s) :
    NextHas P (execBeaconAtTimeRoot a1 a2 s) := by
  have c20 : Closed 0x20 P := c.mono rfl
  unfold execBeaconAtTimeRoot
  dsimp only
  refine has_ite ?_ ?_
  · refine nextHas ?_
    refine State.begin_keeps c20 ?_
    assumption
  · refine nextHas ?_
    refine State.send_keeps c20 ?_
    refine State.begin_keeps c20 ?_
    assumption

theorem execBeaconExchange_keeps {P : State → Prop} (c : Closed 0x487f07ffd0bfa71f7 P) {a1 : _} {a2 : _} {a3 : _} {a4 : _}
    {a5 : _} {s : State} (h : P s) :
    NextHas P (execBeaconExchange a1 a2 a3 a4 a5 s) := by
  have c1 : Closed 0x1 P := c.mono rfl
  have c10 : Closed 0x10 P := c.mono rfl
  have c20 : Closed 0x20 P := c.mono rfl
  have c40 : Closed 0x40 P := c.mono rfl
  have c1000 : Closed 0x1000 P := c.mono rfl
  have c8080100000000011 : Closed 0x8080100000000011 P := c.mono rfl
  have c81f07f7d0bfa7077 : Closed 0x81f07f7d0bfa7077 P := c.mono rfl
  have c87f010dd037a71f7 : Closed 0x87f010dd037a71f7 P := c.mono rfl
  have c40000000000001001 : Closed 0x40000000000001001 P := c.mono rfl
  unfold execBeaconExchange
  dsimp only
  refine has_ite ?_ ?_
  · refine nextHas ?_
    refine State.late_keeps c1 ?_
    refine State.begin_keeps c20 ?_
    assumption
  · refine nextHas ?_
    refine State.settleAll_keeps c87f010dd037a71f7 ?_
    refine State.showTime_keeps c81f07f7d0bfa7077 ?_
    refine State.correct_keeps c40000000000001001 ?_
    refine State.measure_keeps c1 ?_
    refine State.upTb_keeps c1000 ?_
    refine State.fresh_keeps c40 ?_
    refine State.put_keeps c1 ?_
    refine State.put_keeps c1 ?_
    refine State.armBeaconLoss_keeps c10 ?_
    refine State.arrives_keeps c8080100000000011 ?_
    refine State.begin_keeps c20 ?_
    assumption

theorem execBeaconLossHoldover_keeps {P : State → Prop} (c : Closed 0x87f07ffd0bfa71f7 P) {s : State} (h : P s) :
    NextHas P (execBeaconLossHoldover s) := by
  have c20 : Closed 0x20 P := c.mono rfl
  have c100000000010 : Closed 0x100000000010 P := c.mono rfl
  have c81f07f7d0bfa7077 : Closed 0x81f07f7d0bfa7077 P := c.mono rfl
  have c87f010dd037a71f7 : Closed 0x87f010dd037a71f7 P := c.mono rfl
  unfold execBeaconLossHoldover
  dsimp only
  refine has_ite ?_ ?_
  · refine nextHas ?_
    refine State.begin_keeps c20 ?_
    assumption
  · refine nextHas ?_
    refine State.settleAll_keeps c87f010dd037a71f7 ?_
    refine State.enterHoldover_keeps c81f07f7d0bfa7077 ?_
    refine State.expire_keeps c100000000010 ?_
    refine State.begin_keeps c20 ?_
    assumption

theorem execBeaconPeriod_keeps {P : State → Prop} (c : Closed 0x87f010dd037a71f7 P) {s : State} (h : P s) :
    NextHas P (execBeaconPeriod s) := by
  have c1 : Closed 0x1 P := c.mono rfl
  have c10 : Closed 0x10 P := c.mono rfl
  have c20 : Closed 0x20 P := c.mono rfl
  have c1000 : Closed 0x1000 P := c.mono rfl
  have c100000000010 : Closed 0x100000000010 P := c.mono rfl
  have c87f010dd037a71f7 : Closed 0x87f010dd037a71f7 P := c.mono rfl
  unfold execBeaconPeriod
  dsimp only
  refine has_ite ?_ ?_
  · refine nextHas ?_
    refine State.begin_keeps c20 ?_
    assumption
  · refine has_ite ?_ ?_
    · refine nextHas ?_
      refine State.expire_keeps c100000000010 ?_
      refine State.begin_keeps c20 ?_
      assumption
    · refine nextHas ?_
      refine State.settleAll_keeps c87f010dd037a71f7 ?_
      refine State.arm_keeps c10 ?_
      refine State.send_keeps c20 ?_
      refine State.upTb_keeps c1000 ?_
      refine keeps_then ?_ ?_
      · refine State.begin_keeps c20 ?_
        assumption
      · intro x80
        refine State.bump_keeps c1 ?_
        assumption

theorem execClockResumed_keeps {P : State → Prop} (c : Closed 0x87f010dd037a71f7 P) {a1 : _} {a2 : _} {a3 : _} {s : State}
    (h : P s) :
    NextHas P (execClockResumed a1 a2 a3 s) := by
  have c10 : Closed 0x10 P := c.mono rfl
  have c20 : Closed 0x20 P := c.mono rfl
  have c1001 : Closed 0x1001 P := c.mono rfl
  have c20000000000041 : Closed 0x20000000000041 P := c.mono rfl
  have c80000000000001 : Closed 0x80000000000001 P := c.mono rfl
  have c100000000000000 : Closed 0x100000000000000 P := c.mono rfl
  have c8090100000000011 : Closed 0x8090100000000011 P := c.mono rfl
  have c87f010dd037a71f7 : Closed 0x87f010dd037a71f7 P := c.mono rfl
  unfold execClockResumed
  dsimp only
  refine nextHas ?_
  refine State.settleAll_keeps c87f010dd037a71f7 ?_
  refine keeps_then ?_ ?_
  · refine State.startLate_keeps c1001 ?_
    refine State.resumeTimers_keeps c10 ?_
    refine State.upProbe_keeps c100000000000000 ?_
    refine State.ringEvent_keeps c20000000000041 ?_
    refine State.event_keeps c80000000000001 ?_
    refine State.begin_keeps c20 ?_
    assumption
  · intro x40
    refine State.edgeSeen_keeps c8090100000000011 ?_
    assumption

theorem execLoadAtPulse_keeps {P : State → Prop} (c : Closed 0x487f07ffd0bfa71f7 P) {a1 : _} {a2 : _} {s : State} (h : P s) :
    NextHas P (execLoadAtPulse a1 a2 s) := by
  have c20 : Closed 0x20 P := c.mono rfl
  have c100000000005 : Closed 0x100000000005 P := c.mono rfl
  have c87f010dd037a71f7 : Closed 0x87f010dd037a71f7 P := c.mono rfl
  have c481f07f7d0bfa7077 : Closed 0x481f07f7d0bfa7077 P := c.mono rfl
  unfold execLoadAtPulse
  refine nextHas ?_
  refine State.settleAll_keeps c87f010dd037a71f7 ?_
  refine State.granted_keeps c100000000005 ?_ ?_
  · refine State.begin_keeps c20 ?_
    assumption
  · intro x40 x41
    refine writeLoad_keeps c481f07f7d0bfa7077 ?_
    assumption

theorem execRefclkLoss_keeps {P : State → Prop} (c : Closed 0x87f010dd037a71f7 P) {s : State} (h : P s) :
    NextHas P (execRefclkLoss s) := by
  have c20 : Closed 0x20 P := c.mono rfl
  have c1000 : Closed 0x1000 P := c.mono rfl
  have c81f0100000200073 : Closed 0x81f0100000200073 P := c.mono rfl
  have c87f010dd037a71f7 : Closed 0x87f010dd037a71f7 P := c.mono rfl
  unfold execRefclkLoss
  dsimp only
  refine has_ite ?_ ?_
  · refine nextHas ?_
    refine State.begin_keeps c20 ?_
    assumption
  · refine nextHas ?_
    refine State.settleAll_keeps c87f010dd037a71f7 ?_
    refine State.raise_keeps c81f0100000200073 ?_
    refine State.upTb_keeps c1000 ?_
    refine State.begin_keeps c20 ?_
    assumption

theorem execRefclkReturn_keeps {P : State → Prop} (c : Closed 0x487f07ffd0bfa71f7 P) {s : State} (h : P s) :
    NextHas P (execRefclkReturn s) := by
  have c20 : Closed 0x20 P := c.mono rfl
  have c40 : Closed 0x40 P := c.mono rfl
  have c1000 : Closed 0x1000 P := c.mono rfl
  have c81f07f7d0bfa7077 : Closed 0x81f07f7d0bfa7077 P := c.mono rfl
  have c87f010dd037a71f7 : Closed 0x87f010dd037a71f7 P := c.mono rfl
  have c40000000000001001 : Closed 0x40000000000001001 P := c.mono rfl
  unfold execRefclkReturn
  dsimp only
  refine has_ite ?_ ?_
  · refine nextHas ?_
    refine State.begin_keeps c20 ?_
    assumption
  · refine nextHas ?_
    refine State.settleAll_keeps c87f010dd037a71f7 ?_
    refine State.showTime_keeps c81f07f7d0bfa7077 ?_
    refine keeps_then ?_ ?_
    · refine State.fresh_keeps c40 ?_
      refine State.upTb_keeps c1000 ?_
      refine State.begin_keeps c20 ?_
      assumption
    · intro x60
      refine State.correct_keeps c40000000000001001 ?_
      assumption

theorem execTpulseEdge_keeps {P : State → Prop} (c : Closed 0x487f07ffd0bfa71f7 P) {a1 : _} {s : State} (h : P s) :
    NextHas P (execTpulseEdge a1 s) := by
  have c4 : Closed 0x4 P := c.mono rfl
  have c10 : Closed 0x10 P := c.mono rfl
  have c20 : Closed 0x20 P := c.mono rfl
  have c1000 : Closed 0x1000 P := c.mono rfl
  have c87f010dd037a71f7 : Closed 0x87f010dd037a71f7 P := c.mono rfl
  have c481f07f7d0bfa7077 : Closed 0x481f07f7d0bfa7077 P := c.mono rfl
  unfold execTpulseEdge
  dsimp only
  refine has_ite ?_ ?_
  · refine nextHas ?_
    refine State.begin_keeps c20 ?_
    assumption
  · split
    · refine has_ite ?_ ?_
      · refine nextHas ?_
        refine State.settleAll_keeps c87f010dd037a71f7 ?_
        refine State.endWrite_keeps c4 ?_
        refine State.upTb_keeps c1000 ?_
        refine State.begin_keeps c20 ?_
        assumption
      · refine nextHas ?_
        refine State.settleAll_keeps c87f010dd037a71f7 ?_
        refine State.armWatch_keeps c10 ?_
        refine State.endWrite_keeps c4 ?_
        refine State.load_keeps c481f07f7d0bfa7077 ?_
        refine State.begin_keeps c20 ?_
        assumption
    · refine has_ite ?_ ?_
      · refine nextHas ?_
        refine State.settleAll_keeps c87f010dd037a71f7 ?_
        refine State.pulse_keeps c481f07f7d0bfa7077 ?_
        refine State.begin_keeps c20 ?_
        assumption
      · refine nextHas ?_
        refine State.begin_keeps c20 ?_
        assumption

theorem execTpulseWatchTimeout_keeps {P : State → Prop} (c : Closed 0x87f07ffd0bfa71f7 P) {s : State} (h : P s) :
    NextHas P (execTpulseWatchTimeout s) := by
  have c20 : Closed 0x20 P := c.mono rfl
  have c100000000010 : Closed 0x100000000010 P := c.mono rfl
  have c81f07f7d0bfa7077 : Closed 0x81f07f7d0bfa7077 P := c.mono rfl
  have c87f010dd037a71f7 : Closed 0x87f010dd037a71f7 P := c.mono rfl
  unfold execTpulseWatchTimeout
  dsimp only
  refine has_ite ?_ ?_
  · refine nextHas ?_
    refine State.begin_keeps c20 ?_
    assumption
  · refine nextHas ?_
    refine State.settleAll_keeps c87f010dd037a71f7 ?_
    refine State.enterHoldover_keeps c81f07f7d0bfa7077 ?_
    refine State.expire_keeps c100000000010 ?_
    refine State.begin_keeps c20 ?_
    assumption

end Sys2Proof.Machine
end

