-- ==== Sys2Proof/Laws/KeepsJobs.lean ====
section
/-! SUPPORT. What each operation keeps (see Laws/Keeps.lean): the job, lock-step, the ladder, firmware, bring-up and the trace. -/

namespace Sys2Proof.Machine

theorem State.assertReset_keeps {P : State → Prop} (c : Closed 0x24160000000001071 P) {s : State} (h : P s) :
    P (State.assertReset s) := by
  have c10 : Closed 0x10 P := c.mono rfl
  have c20 : Closed 0x20 P := c.mono rfl
  have c40000000000000 : Closed 0x40000000000000 P := c.mono rfl
  have c4000000000000000 : Closed 0x4000000000000000 P := c.mono rfl
  have c20160000000001061 : Closed 0x20160000000001061 P := c.mono rfl
  unfold State.assertReset
  dsimp only
  split
  · refine State.disarm_keeps c10 ?_
    assumption
  · refine keeps_else ?_ ?_
    · refine State.disarm_keeps c10 ?_
      assumption
    · intro x60
      refine keeps_ite ?_ ?_
      · refine State.send_keeps c20 ?_
        refine keeps_pwrcyc c4000000000000000 ?_
        refine State.upReset_keeps c40000000000000 ?_
        assumption
      · refine State.chipReinit_keeps c20160000000001061 ?_
        refine State.upReset_keeps c40000000000000 ?_
        assumption

theorem State.clearCores_keeps {P : State → Prop} (c : Closed 0x81f0506103706073 P) {s : State} {a2 : _} (h : P s) :
    P (State.clearCores s a2) := by
  have c120406000000073 : Closed 0x120406000000073 P := c.mono rfl
  have c81f0100103706073 : Closed 0x81f0100103706073 P := c.mono rfl
  unfold State.clearCores
  refine keeps_foldl ?_ _ ?_
  · intro x40 x41 x42
    refine State.claimCore_keeps c81f0100103706073 ?_
    refine State.abortTest_keeps c120406000000073 ?_
    assumption
  · assumption

theorem State.cutContext_keeps {P : State → Prop} (c : Closed 0x81f01081017a70f7 P) {s : State} {a2 : _} (h : P s) :
    P (State.cutContext s a2) := by
  have c81f01081017a70f7 : Closed 0x81f01081017a70f7 P := c.mono rfl
  unfold State.cutContext
  refine State.endContext_keeps c81f01081017a70f7 ?_
  assumption

theorem State.supersedeBelow_keeps {P : State → Prop} (c : Closed 0x81f01081017a70f7 P) {s : State} {a2 : _} {a3 : _}
    (h : P s) :
    P (State.supersedeBelow s a2 a3) := by
  have c40000000000013 : Closed 0x40000000000013 P := c.mono rfl
  have c81f01081017a70f7 : Closed 0x81f01081017a70f7 P := c.mono rfl
  unfold State.supersedeBelow
  dsimp only
  refine keeps_foldl ?_ _ ?_
  · intro x40 x41 x42
    split
    · refine keeps_then ?_ ?_
      · refine State.supersedeReset_keeps c40000000000013 ?_
        assumption
      · intro x80
        refine State.contextDone_keeps c81f01081017a70f7 ?_
        assumption
    · refine State.supersedeReset_keeps c40000000000013 ?_
      assumption
  · assumption

theorem State.beginChip_keeps {P : State → Prop} (c : Closed 0x81f050e1037a70f7 P) {s : State} {a2 : _} {a3 : _} {a4 : _}
    (h : P s) :
    P (State.beginChip s a2 a3 a4) := by
  have c10 : Closed 0x10 P := c.mono rfl
  have c40000000000000 : Closed 0x40000000000000 P := c.mono rfl
  have c40000000000011 : Closed 0x40000000000011 P := c.mono rfl
  have c40000000000041 : Closed 0x40000000000041 P := c.mono rfl
  have cc0000000000000 : Closed 0xc0000000000000 P := c.mono rfl
  have c80c0100000000073 : Closed 0x80c0100000000073 P := c.mono rfl
  have c81f01081017a70f7 : Closed 0x81f01081017a70f7 P := c.mono rfl
  have c81f0506103706073 : Closed 0x81f0506103706073 P := c.mono rfl
  unfold State.beginChip
  dsimp only
  refine keeps_then ?_ ?_
  · refine State.arm_keeps c10 ?_
    refine State.clearCores_keeps c81f0506103706073 ?_
    refine keeps_foldl ?_ _ ?_
    · intro x60 x61 x62
      refine State.cutContext_keeps c81f01081017a70f7 ?_
      assumption
    · refine State.upReset_keeps c40000000000000 ?_
      refine State.newDump_keeps cc0000000000000 ?_
      refine State.supersedeBelow_keeps c81f01081017a70f7 ?_
      refine State.beginCapture_keeps c80c0100000000073 ?_
      refine State.addReset_keeps c40000000000041 ?_
      split
      · refine State.dropReset_keeps c40000000000011 ?_
        assumption
      · assumption
  · intro x40
    refine State.arm_keeps c10 ?_
    assumption

theorem State.resetEngines_keeps {P : State → Prop} (c : Closed 0x81f01000037c6073 P) {s : State} {a2 : _} (h : P s) :
    P (State.resetEngines s a2) := by
  have c1 : Closed 0x1 P := c.mono rfl
  have c20 : Closed 0x20 P := c.mono rfl
  have cc0000 : Closed 0xc0000 P := c.mono rfl
  have c106031 : Closed 0x106031 P := c.mono rfl
  have c3402030 : Closed 0x3402030 P := c.mono rfl
  have c81f0100000206073 : Closed 0x81f0100000206073 P := c.mono rfl
  unfold State.resetEngines
  dsimp only
  refine keeps_foldl ?_ _ ?_
  · intro x40 x41 x42
    refine State.send_keeps c20 ?_
    refine State.putN_keeps c1 ?_
    refine keeps_checkLate_oldWork cc0000 ?_
    assumption
  · refine keeps_foldl ?_ _ ?_
    · intro x60 x61 x62
      refine State.dropRegenOn_keeps c106031 ?_
      refine State.endRuns_keeps c3402030 ?_
      refine State.loseProofsOn_keeps c81f0100000206073 ?_
      assumption
    · assumption

theorem State.beginEngine_keeps {P : State → Prop} (c : Closed 0x81f01000037c6073 P) {s : State} {a2 : _} {a3 : _} {a4 : _}
    {a5 : _} (h : P s) :
    P (State.beginEngine s a2 a3 a4 a5) := by
  have c10 : Closed 0x10 P := c.mono rfl
  have c40000000000041 : Closed 0x40000000000041 P := c.mono rfl
  have c80c0100000000073 : Closed 0x80c0100000000073 P := c.mono rfl
  have c81f01000037c6073 : Closed 0x81f01000037c6073 P := c.mono rfl
  unfold State.beginEngine
  dsimp only
  refine State.arm_keeps c10 ?_
  refine State.resetEngines_keeps c81f01000037c6073 ?_
  refine State.beginCapture_keeps c80c0100000000073 ?_
  refine State.addReset_keeps c40000000000041 ?_
  assumption

theorem State.loseReplacements_keeps {P : State → Prop} (c : Closed 0x100004000002011 P) {s : State} {a2 : _} (h : P s) :
    P (State.loseReplacements s a2) := by
  have c2000 : Closed 0x2000 P := c.mono rfl
  have c100004000002011 : Closed 0x100004000002011 P := c.mono rfl
  unfold State.loseReplacements
  refine keeps_foldl ?_ _ ?_
  · intro x40 x41 x42
    refine keeps_foldl ?_ _ ?_
    · intro x60 x61 x62
      split
      · refine keeps_ite ?_ ?_
        · refine keeps_ite ?_ ?_
          · refine State.moveBack_keeps c100004000002011 ?_
            assumption
          · refine State.upSparing_keeps c2000 ?_
            assumption
        · assumption
      · assumption
    · assumption
  · assumption

theorem State.beginPartition_keeps {P : State → Prop} (c : Closed 0x81f050e1037a70f7 P) {s : State} {a2 : _} {a3 : _}
    {a4 : _} (h : P s) :
    P (State.beginPartition s a2 a3 a4) := by
  have c1 : Closed 0x1 P := c.mono rfl
  have c10 : Closed 0x10 P := c.mono rfl
  have c20 : Closed 0x20 P := c.mono rfl
  have c4000000001 : Closed 0x4000000001 P := c.mono rfl
  have c20000000001000 : Closed 0x20000000001000 P := c.mono rfl
  have c40000000000011 : Closed 0x40000000000011 P := c.mono rfl
  have c40000000000041 : Closed 0x40000000000041 P := c.mono rfl
  have c100000000000000 : Closed 0x100000000000000 P := c.mono rfl
  have c100004000002011 : Closed 0x100004000002011 P := c.mono rfl
  have c80c0100000000073 : Closed 0x80c0100000000073 P := c.mono rfl
  have c81f01081017a70f7 : Closed 0x81f01081017a70f7 P := c.mono rfl
  have c81f0506103706073 : Closed 0x81f0506103706073 P := c.mono rfl
  unfold State.beginPartition
  dsimp only
  refine State.arm_keeps c10 ?_
  refine State.send_keeps c20 ?_
  refine keeps_foldl ?_ _ ?_
  · intro x40 x41 x42
    refine State.send_keeps c20 ?_
    refine keeps_then ?_ ?_
    · refine State.upProbe_keeps c100000000000000 ?_
      assumption
    · intro x60
      refine State.putN_keeps c1 ?_
      refine State.abortScans_keeps c4000000001 ?_
      assumption
  · refine State.zeroCycles_keeps c20000000001000 ?_
    refine State.loseReplacements_keeps c100004000002011 ?_
    refine State.clearCores_keeps c81f0506103706073 ?_
    refine keeps_foldl ?_ _ ?_
    · intro x60 x61 x62
      refine State.cutContext_keeps c81f01081017a70f7 ?_
      assumption
    · refine State.supersedeBelow_keeps c81f01081017a70f7 ?_
      refine State.beginCapture_keeps c80c0100000000073 ?_
      refine State.addReset_keeps c40000000000041 ?_
      split
      · refine State.dropReset_keeps c40000000000011 ?_
        assumption
      · assumption

theorem State.exceptional_keeps {P : State → Prop} (c : Closed 0x200000000000 P) {s : State} (h : P s) :
    P (State.exceptional s) := by
  have c200000000000 : Closed 0x200000000000 P := c.mono rfl
  unfold State.exceptional
  dsimp only
  refine keeps_bring c200000000000 ?_
  assumption

theorem State.moveDuties_keeps {P : State → Prop} (c : Closed 0x1 P) {s : State} {a2 : _} (h : P s) :
    P (State.moveDuties s a2) := by
  have c1 : Closed 0x1 P := c.mono rfl
  unfold State.moveDuties
  split
  · refine keeps_foldl ?_ _ ?_
    · intro x60 x61 x62
      refine State.giveDuty_keeps c1 ?_
      assumption
    · assumption
  · assumption

theorem State.raisePcLost_keeps {P : State → Prop} (c : Closed 0x81f0100000200073 P) {s : State} {a2 : _} (h : P s) :
    P (State.raisePcLost s a2) := by
  have c81f0100000200073 : Closed 0x81f0100000200073 P := c.mono rfl
  unfold State.raisePcLost
  refine keeps_ite ?_ ?_
  · refine State.raise_keeps c81f0100000200073 ?_
    assumption
  · refine State.raise_keeps c81f0100000200073 ?_
    assumption

theorem State.checkPcs_keeps {P : State → Prop} (c : Closed 0x81f03e0000200073 P) {s : State} {a2 : _} (h : P s) :
    P (State.checkPcs s a2) := by
  have c1 : Closed 0x1 P := c.mono rfl
  have c200000000000 : Closed 0x200000000000 P := c.mono rfl
  have c81f0100000200073 : Closed 0x81f0100000200073 P := c.mono rfl
  have c81f01e0000200073 : Closed 0x81f01e0000200073 P := c.mono rfl
  unfold State.checkPcs
  dsimp only
  refine keeps_foldl ?_ _ ?_
  · intro x40 x41 x42
    refine State.exceptional_keeps c200000000000 ?_
    refine State.raisePcLost_keeps c81f0100000200073 ?_
    refine State.moveDuties_keeps c1 ?_
    refine State.retireOther_keeps c81f01e0000200073 ?_
    refine State.putN_keeps c1 ?_
    assumption
  · refine keeps_foldl ?_ _ ?_
    · intro x60 x61 x62
      refine State.moveDuties_keeps c1 ?_
      refine State.putN_keeps c1 ?_
      assumption
    · assumption

theorem State.noteEscalation_keeps {P : State → Prop} (c : Closed 0x81f0100000200073 P) {s : State} {a2 : _} (h : P s) :
    P (State.noteEscalation s a2) := by
  have c1 : Closed 0x1 P := c.mono rfl
  have c40000000000002 : Closed 0x40000000000002 P := c.mono rfl
  have c81f0100000200073 : Closed 0x81f0100000200073 P := c.mono rfl
  unfold State.noteEscalation
  dsimp only
  refine State.raise_keeps c81f0100000200073 ?_
  refine State.recordReset_keeps c40000000000002 ?_
  refine State.bump_keeps c1 ?_
  assumption

theorem State.chipHangs_keeps {P : State → Prop} (c : Closed 0x81f0100000200073 P) {s : State} {a2 : _} (h : P s) :
    P (State.chipHangs s a2) := by
  have c40000000000000 : Closed 0x40000000000000 P := c.mono rfl
  have c81f0100000200073 : Closed 0x81f0100000200073 P := c.mono rfl
  unfold State.chipHangs
  dsimp only
  refine State.raise_keeps c81f0100000200073 ?_
  refine State.noteEscalation_keeps c81f0100000200073 ?_
  refine State.upReset_keeps c40000000000000 ?_
  assumption

theorem State.runHeld_keeps {P : State → Prop} (c : Closed 0x40000000c02031 P) {s : State} {a2 : _} (h : P s) :
    P (State.runHeld s a2) := by
  have c1 : Closed 0x1 P := c.mono rfl
  have cc02030 : Closed 0xc02030 P := c.mono rfl
  have c40000000000000 : Closed 0x40000000000000 P := c.mono rfl
  unfold State.runHeld
  dsimp only
  refine keeps_foldl ?_ _ ?_
  · intro x40 x41 x42
    refine State.issueSpecimen_keeps cc02030 ?_
    assumption
  · refine State.showResets_keeps c1 ?_
    refine keeps_rcv c40000000000000 ?_
    assumption

theorem State.completeReset_keeps {P : State → Prop} (c : Closed 0xc0000000c02033 P) {s : State} {a2 : _} {a3 : _} {a4 : _}
    (h : P s) :
    P (State.completeReset s a2 a3 a4) := by
  have c40000000000000 : Closed 0x40000000000000 P := c.mono rfl
  have c40000000000013 : Closed 0x40000000000013 P := c.mono rfl
  have c40000000c02031 : Closed 0x40000000c02031 P := c.mono rfl
  have cc0000000000000 : Closed 0xc0000000000000 P := c.mono rfl
  unfold State.completeReset
  dsimp only
  split
  · assumption
  · split
    · refine State.runHeld_keeps c40000000c02031 ?_
      refine State.finishReset_keeps c40000000000013 ?_
      refine State.upReset_keeps c40000000000000 ?_
      refine State.resetDump_keeps cc0000000000000 ?_
      assumption
    · refine State.upReset_keeps c40000000000000 ?_
      refine State.resetDump_keeps cc0000000000000 ?_
      assumption

theorem State.completePartition_keeps {P : State → Prop} (c : Closed 0x1c0000000c02033 P) {s : State} {a2 : _} {a3 : _}
    (h : P s) :
    P (State.completePartition s a2 a3) := by
  have cc0000000c02033 : Closed 0xc0000000c02033 P := c.mono rfl
  have c100000000000000 : Closed 0x100000000000000 P := c.mono rfl
  unfold State.completePartition
  dsimp only
  refine State.completeReset_keeps cc0000000c02033 ?_
  refine keeps_foldl ?_ _ ?_
  · intro x40 x41 x42
    refine keeps_then ?_ ?_
    · refine State.upProbe_keeps c100000000000000 ?_
      assumption
    · intro x60
      refine State.upProbe_keeps c100000000000000 ?_
      assumption
  · assumption

theorem State.contextComplete_keeps {P : State → Prop} (c : Closed 0x81f0108103fe70f7 P) {s : State} {a2 : _} (h : P s) :
    P (State.contextComplete s a2) := by
  have c1 : Closed 0x1 P := c.mono rfl
  have c10 : Closed 0x10 P := c.mono rfl
  have c40000000000000 : Closed 0x40000000000000 P := c.mono rfl
  have cc0000000c02033 : Closed 0xc0000000c02033 P := c.mono rfl
  have c81f01000037c6073 : Closed 0x81f01000037c6073 P := c.mono rfl
  have c81f01081017a70f7 : Closed 0x81f01081017a70f7 P := c.mono rfl
  unfold State.contextComplete
  dsimp only
  split
  · assumption
  · split
    · assumption
    · refine keeps_ite ?_ ?_
      · refine State.completeReset_keeps cc0000000c02033 ?_
        refine State.contextDone_keeps c81f01081017a70f7 ?_
        assumption
      · refine State.armAt_keeps c10 ?_
        refine State.resetEngines_keeps c81f01000037c6073 ?_
        refine State.showResets_keeps c1 ?_
        refine State.upReset_keeps c40000000000000 ?_
        refine State.contextDone_keeps c81f01081017a70f7 ?_
        assumption

theorem State.disturbLinks_keeps {P : State → Prop} (c : Closed 0x2000 P) {s : State} (h : P s) :
    P (State.disturbLinks s) := by
  have c2000 : Closed 0x2000 P := c.mono rfl
  unfold State.disturbLinks
  refine keeps_foldl ?_ _ ?_
  · intro x40 x41 x42
    refine State.disturb_keeps c2000 ?_
    assumption
  · assumption

theorem State.holdAtLimit_keeps {P : State → Prop} (c : Closed 0x81f0100000200073 P) {s : State} {a2 : _} {a3 : _} (h : P s) :
    P (State.holdAtLimit s a2 a3) := by
  have c1 : Closed 0x1 P := c.mono rfl
  have c40000000000000 : Closed 0x40000000000000 P := c.mono rfl
  have c40000000000002 : Closed 0x40000000000002 P := c.mono rfl
  have c40000000000011 : Closed 0x40000000000011 P := c.mono rfl
  have c120000000000041 : Closed 0x120000000000041 P := c.mono rfl
  have c81f0100000200073 : Closed 0x81f0100000200073 P := c.mono rfl
  unfold State.holdAtLimit
  dsimp only
  refine State.raise_keeps c81f0100000200073 ?_
  refine State.dropReset_keeps c40000000000011 ?_
  refine keeps_rcv c40000000000000 ?_
  refine keeps_foldl ?_ _ ?_
  · intro x40 x41 x42
    refine State.putN_keeps c1 ?_
    assumption
  · refine keeps_foldl ?_ _ ?_
    · intro x60 x61 x62
      refine State.isolateCore_keeps c120000000000041 ?_
      assumption
    · refine State.recordReset_keeps c40000000000002 ?_
      refine State.bump_keeps c1 ?_
      assumption

theorem State.escalateChip_keeps {P : State → Prop} (c : Closed 0x81f050e1037a70f7 P) {s : State} {a2 : _} (h : P s) :
    P (State.escalateChip s a2) := by
  have c81f0100000200073 : Closed 0x81f0100000200073 P := c.mono rfl
  have c81f050e1037a70f7 : Closed 0x81f050e1037a70f7 P := c.mono rfl
  unfold State.escalateChip
  refine keeps_ite ?_ ?_
  · refine State.holdAtLimit_keeps c81f0100000200073 ?_
    assumption
  · refine State.beginChip_keeps c81f050e1037a70f7 ?_
    refine State.noteEscalation_keeps c81f0100000200073 ?_
    assumption

theorem State.escalateContext_keeps {P : State → Prop} (c : Closed 0x81f0108103fe70f7 P) {s : State} {a2 : _} (h : P s) :
    P (State.escalateContext s a2) := by
  have c1 : Closed 0x1 P := c.mono rfl
  have c10 : Closed 0x10 P := c.mono rfl
  have c40000000000000 : Closed 0x40000000000000 P := c.mono rfl
  have c81f0100000200073 : Closed 0x81f0100000200073 P := c.mono rfl
  have c81f01000037c6073 : Closed 0x81f01000037c6073 P := c.mono rfl
  have c81f0108103fe70f7 : Closed 0x81f0108103fe70f7 P := c.mono rfl
  unfold State.escalateContext
  dsimp only
  refine keeps_ite ?_ ?_
  · refine State.contextComplete_keeps c81f0108103fe70f7 ?_
    assumption
  · refine keeps_ite ?_ ?_
    · refine State.holdAtLimit_keeps c81f0100000200073 ?_
      assumption
    · refine State.arm_keeps c10 ?_
      refine State.resetEngines_keeps c81f01000037c6073 ?_
      refine State.noteEscalation_keeps c81f0100000200073 ?_
      refine State.showResets_keeps c1 ?_
      refine State.upReset_keeps c40000000000000 ?_
      assumption

theorem State.escalateEngine_keeps {P : State → Prop} (c : Closed 0x81f050e1037a70f7 P) {s : State} {a2 : _} (h : P s) :
    P (State.escalateEngine s a2) := by
  have c81f0100000200073 : Closed 0x81f0100000200073 P := c.mono rfl
  have c81f050e1037a70f7 : Closed 0x81f050e1037a70f7 P := c.mono rfl
  unfold State.escalateEngine
  split
  · refine keeps_ite ?_ ?_
    · refine State.holdAtLimit_keeps c81f0100000200073 ?_
      assumption
    · refine State.beginPartition_keeps c81f050e1037a70f7 ?_
      refine State.noteEscalation_keeps c81f0100000200073 ?_
      assumption
  · refine State.escalateChip_keeps c81f050e1037a70f7 ?_
    assumption

theorem State.fillPartition_keeps {P : State → Prop} (c : Closed 0x6000000021 P) {s : State} {a2 : _} (h : P s) :
    P (State.fillPartition s a2) := by
  have c6000000021 : Closed 0x6000000021 P := c.mono rfl
  unfold State.fillPartition
  refine keeps_foldl ?_ _ ?_
  · intro x40 x41 x42
    refine State.repairAndFill_keeps c6000000021 ?_
    assumption
  · assumption

theorem State.framed_keeps {P : State → Prop} (c : Closed 0x87f010dd037a71f7 P) {s : State} {a2 : _} {a3 : _}
    {f4 : State → State} (h : P s) (hf4 : ∀ (x0 : State), P x0 → P (f4 x0)) :
    P (State.framed s a2 a3 f4) := by
  have c1 : Closed 0x1 P := c.mono rfl
  have c20 : Closed 0x20 P := c.mono rfl
  have c87f010dd037a71f7 : Closed 0x87f010dd037a71f7 P := c.mono rfl
  unfold State.framed
  dsimp only
  refine State.settleAll_keeps c87f010dd037a71f7 ?_
  refine keeps_ite ?_ ?_
  · refine hf4 _ ?_
    refine State.begin_keeps c20 ?_
    assumption
  · refine State.foreign_keeps c1 ?_
    refine State.begin_keeps c20 ?_
    assumption

theorem State.framedFor_keeps {P : State → Prop} (c : Closed 0x87f010dd037a71f7 P) {s : State} {a2 : _} {a3 : _} {a4 : _}
    {f5 : State → State} (h : P s) (hf5 : ∀ (x0 : State), P x0 → P (f5 x0)) :
    P (State.framedFor s a2 a3 a4 f5) := by
  have c87f010dd037a71f7 : Closed 0x87f010dd037a71f7 P := c.mono rfl
  unfold State.framedFor
  refine State.framed_keeps c87f010dd037a71f7 ?_ ?_
  · assumption
  · intro x40 x41
    refine keeps_ite ?_ ?_
    · refine hf5 _ ?_
      assumption
    · assumption

theorem endPair_keeps {P : State → Prop} (c : Closed 0x81e01000003a6073 P) {a1 : _} {a2 : _} {s : State} (h : P s) :
    P (endPair a1 a2 s).1 := by
  have c200000 : Closed 0x200000 P := c.mono rfl
  have c81e01000003a6073 : Closed 0x81e01000003a6073 P := c.mono rfl
  unfold endPair
  dsimp only
  refine State.endJob_keeps c81e01000003a6073 ?_
  refine State.upJob_keeps c200000 ?_
  assumption

theorem ifUnattributed_keeps {P : State → Prop} (c : Closed 0x0 P) {f1 : Narrow → State → State × WEnd} {s : State}
    (hf1 : ∀ (x0 : Narrow) (x1 : State), P x1 → P (f1 x0 x1).1) (h : P s) :
    P (ifUnattributed f1 s).1 := by
  unfold ifUnattributed
  split
  · split
    · refine hf1 _ _ ?_
      assumption
    · dsimp only
      assumption
  · dsimp only
    assumption

theorem releaseRegen_keeps {P : State → Prop} (c : Closed 0x106031 P) {s : State} (h : P s) :
    P (releaseRegen s).1 := by
  have c106031 : Closed 0x106031 P := c.mono rfl
  unfold releaseRegen
  split
  · split
    · dsimp only
      refine State.endRegen_keeps c106031 ?_
      assumption
    · dsimp only
      assumption
  · dsimp only
    assumption

theorem requestRegen_keeps {P : State → Prop} (c : Closed 0x102031 P) {a1 : _} {s : State} (h : P s) :
    P (requestRegen a1 s).1 := by
  have c1 : Closed 0x1 P := c.mono rfl
  have c10 : Closed 0x10 P := c.mono rfl
  have c20 : Closed 0x20 P := c.mono rfl
  have c2000 : Closed 0x2000 P := c.mono rfl
  have c100000 : Closed 0x100000 P := c.mono rfl
  unfold requestRegen
  dsimp only
  split
  · split
    · dsimp only
      refine State.putN_keeps c1 ?_
      assumption
    · split
      · dsimp only
        refine State.putN_keeps c1 ?_
        assumption
      · split
        · dsimp only
          refine State.putN_keeps c1 ?_
          assumption
        · dsimp only
          refine State.arm_keeps c10 ?_
          refine State.disturbCore_keeps c2000 ?_
          refine State.send_keeps c20 ?_
          refine keeps_regen c100000 ?_
          refine State.putN_keeps c1 ?_
          assumption
  · dsimp only
    assumption

theorem restartPair_keeps {P : State → Prop} (c : Closed 0x201071 P) {a1 : _} {s : State} (h : P s) :
    P (restartPair a1 s).1 := by
  have c1 : Closed 0x1 P := c.mono rfl
  have c200000 : Closed 0x200000 P := c.mono rfl
  have c201071 : Closed 0x201071 P := c.mono rfl
  unfold restartPair
  dsimp only
  refine State.stewardArm_keeps c201071 ?_
  refine State.putN_keeps c1 ?_
  refine State.upJob_keeps c200000 ?_
  assumption

theorem replaceRank_keeps {P : State → Prop} (c : Closed 0x200000003a7073 P) {a1 : _} {s : State} (h : P s) :
    P (replaceRank a1 s).1 := by
  have c200000 : Closed 0x200000 P := c.mono rfl
  have c200000003a7073 : Closed 0x200000003a7073 P := c.mono rfl
  unfold replaceRank
  dsimp only
  split
  · dsimp only
    assumption
  · dsimp only
    split
    · refine keeps_then ?_ ?_
      · refine State.upJob_keeps c200000 ?_
        assumption
      · intro x80
        refine State.jobRollback_keeps c200000003a7073 ?_
        assumption
    · refine State.upJob_keeps c200000 ?_
      assumption

theorem State.restartJob_keeps {P : State → Prop} (c : Closed 0x201071 P) {s : State} (h : P s) :
    P (State.restartJob s) := by
  have c201071 : Closed 0x201071 P := c.mono rfl
  unfold State.restartJob
  split
  · refine keeps_ite ?_ ?_
    · refine State.stewardArm_keeps c201071 ?_
      assumption
    · assumption
  · assumption

theorem writeRoute_keeps {P : State → Prop} (c : Closed 0x203071 P) {a1 : _} {s : State} (h : P s) :
    P (writeRoute a1 s).1 := by
  have c1 : Closed 0x1 P := c.mono rfl
  have c2000 : Closed 0x2000 P := c.mono rfl
  have c200000 : Closed 0x200000 P := c.mono rfl
  have c201071 : Closed 0x201071 P := c.mono rfl
  unfold writeRoute
  dsimp only
  split
  · dsimp only
    assumption
  · split
    · dsimp only
      refine State.put_keeps c1 ?_
      assumption
    · dsimp only
      refine State.restartJob_keeps c201071 ?_
      refine State.upJob_keeps c200000 ?_
      refine State.disturbLinks_keeps c2000 ?_
      refine State.put_keeps c1 ?_
      assumption

theorem State.planSeen_keeps {P : State → Prop} (c : Closed 0x80000000000003 P) {s : State} {a2 : _} (h : P s) :
    P (State.planSeen s a2) := by
  have c2 : Closed 0x2 P := c.mono rfl
  have c80000000000001 : Closed 0x80000000000001 P := c.mono rfl
  unfold State.planSeen
  dsimp only
  refine keeps_ite ?_ ?_
  · assumption
  · refine State.configItem_keeps c80000000000001 ?_
    refine State.setContent_keeps c2 ?_
    assumption

theorem acceptPort_keeps {P : State → Prop} (c : Closed 0x80000000000003 P) {a1 : _} {s : State} (h : P s) :
    P (acceptPort a1 s).1 := by
  have c1 : Closed 0x1 P := c.mono rfl
  have c80000000000003 : Closed 0x80000000000003 P := c.mono rfl
  unfold acceptPort
  dsimp only
  split
  · dsimp only
    assumption
  · split
    · dsimp only
      assumption
    · dsimp only
      refine State.putN_keeps c1 ?_
      refine State.planSeen_keeps c80000000000003 ?_
      assumption

theorem activateImage_keeps {P : State → Prop} (c : Closed 0x400000000000031 P) {a1 : _} {s : State} (h : P s) :
    P (activateImage a1 s).1 := by
  have c400000000000000 : Closed 0x400000000000000 P := c.mono rfl
  have c400000000000031 : Closed 0x400000000000031 P := c.mono rfl
  unfold activateImage
  dsimp only
  split
  · dsimp only
    assumption
  · split
    · dsimp only
      assumption
    · split
      · dsimp only
        refine State.beginActivation_keeps c400000000000031 ?_
        assumption
      · split
        · dsimp only
          refine keeps_img c400000000000000 ?_
          assumption
        · dsimp only
          assumption

theorem continueBringup_keeps {P : State → Prop} (c : Closed 0x81f07f7d0bfa7077 P) {s : State} (h : P s) :
    P (continueBringup s).1 := by
  have c200000000000 : Closed 0x200000000000 P := c.mono rfl
  have c81f07f7d0bfa7077 : Closed 0x81f07f7d0bfa7077 P := c.mono rfl
  unfold continueBringup
  dsimp only
  split
  · dsimp only
    assumption
  · dsimp only
    refine State.stageNext_keeps c81f07f7d0bfa7077 ?_
    refine State.startStage_keeps c81f07f7d0bfa7077 ?_
    refine keeps_bring c200000000000 ?_
    assumption

theorem recheckPorts_keeps {P : State → Prop} (c : Closed 0x81f0300000200077 P) {s : State} (h : P s) :
    P (recheckPorts s).1 := by
  have c81f0300000200077 : Closed 0x81f0300000200077 P := c.mono rfl
  unfold recheckPorts
  dsimp only
  split
  · dsimp only
    assumption
  · split
    · dsimp only
      assumption
    · dsimp only
      refine State.askPorts_keeps c81f0300000200077 ?_
      assumption

theorem State.identityIn_keeps {P : State → Prop} (c : Closed 0x200000000000 P) {s : State} {a2 : _} (h : P s) :
    P (State.identityIn s a2) := by
  have c200000000000 : Closed 0x200000000000 P := c.mono rfl
  unfold State.identityIn
  dsimp only
  refine keeps_bring c200000000000 ?_
  assumption

theorem State.identityNext_keeps {P : State → Prop} (c : Closed 0x81f07f7d0bfa7077 P) {s : State} (h : P s) :
    P (State.identityNext s) := by
  have c10 : Closed 0x10 P := c.mono rfl
  have c81f0300000200077 : Closed 0x81f0300000200077 P := c.mono rfl
  have c81f07f7d0bfa7077 : Closed 0x81f07f7d0bfa7077 P := c.mono rfl
  unfold State.identityNext
  dsimp only
  refine keeps_ite ?_ ?_
  · refine State.armRecheck_keeps c10 ?_
    refine State.judgePorts_keeps c81f0300000200077 ?_
    assumption
  · refine State.stageNext_keeps c81f07f7d0bfa7077 ?_
    refine State.judgePorts_keeps c81f0300000200077 ?_
    assumption

theorem State.runImage_keeps {P : State → Prop} (c : Closed 0x400000000000013 P) {s : State} {a2 : _} {a3 : _} (h : P s) :
    P (State.runImage s a2 a3) := by
  have c1 : Closed 0x1 P := c.mono rfl
  have c2 : Closed 0x2 P := c.mono rfl
  have c10 : Closed 0x10 P := c.mono rfl
  have c400000000000000 : Closed 0x400000000000000 P := c.mono rfl
  unfold State.runImage
  dsimp only
  refine keeps_foldl ?_ _ ?_
  · intro x40 x41 x42
    refine keeps_ite ?_ ?_
    · assumption
    · refine State.arm_keeps c10 ?_
      refine State.putN_keeps c1 ?_
      assumption
  · refine State.setContent_keeps c2 ?_
    refine State.putN_keeps c1 ?_
    refine State.putN_keeps c1 ?_
    refine State.putN_keeps c1 ?_
    refine keeps_img c400000000000000 ?_
    assumption

theorem State.judgeImage_keeps {P : State → Prop} (c : Closed 0x85f07f7d0bfa7077 P) {s : State} {a2 : _} {a3 : _} (h : P s) :
    P (State.judgeImage s a2 a3) := by
  have c80000000000003 : Closed 0x80000000000003 P := c.mono rfl
  have c400000000000013 : Closed 0x400000000000013 P := c.mono rfl
  have c81f0100000200073 : Closed 0x81f0100000200073 P := c.mono rfl
  have c81f07f7d0bfa7077 : Closed 0x81f07f7d0bfa7077 P := c.mono rfl
  unfold State.judgeImage
  refine keeps_ite ?_ ?_
  · refine State.endStage_keeps c81f07f7d0bfa7077 ?_
    refine State.runImage_keeps c400000000000013 ?_
    assumption
  · refine State.raise_keeps c81f0100000200073 ?_
    refine State.writeStage_keeps c80000000000003 ?_
    assumption

theorem State.keepTraining_keeps {P : State → Prop} (c : Closed 0x1 P) {s : State} {a2 : _} {a3 : _} {a4 : _} {a5 : _}
    {a6 : _} (h : P s) :
    P (State.keepTraining s a2 a3 a4 a5 a6) := by
  have c1 : Closed 0x1 P := c.mono rfl
  unfold State.keepTraining
  dsimp only
  refine State.putN_keeps c1 ?_
  refine State.putN_keeps c1 ?_
  refine State.putN_keeps c1 ?_
  refine State.putN_keeps c1 ?_
  assumption

theorem State.linkIn_keeps {P : State → Prop} (c : Closed 0x200000000000 P) {s : State} {a2 : _} (h : P s) :
    P (State.linkIn s a2) := by
  have c200000000000 : Closed 0x200000000000 P := c.mono rfl
  unfold State.linkIn
  dsimp only
  refine keeps_bring c200000000000 ?_
  assumption

theorem State.linkLost_keeps {P : State → Prop} (c : Closed 0x200000003a7073 P) {s : State} {a2 : _} {a3 : _} (h : P s) :
    P (State.linkLost s a2 a3) := by
  have c200000 : Closed 0x200000 P := c.mono rfl
  have c202003 : Closed 0x202003 P := c.mono rfl
  have c200000003a7073 : Closed 0x200000003a7073 P := c.mono rfl
  unfold State.linkLost
  refine State.jobRollback_keeps c200000003a7073 ?_
  refine State.upJob_keeps c200000 ?_
  refine State.supersedeNarrow_keeps c202003 ?_
  assumption

theorem State.noAnswer_keeps {P : State → Prop} (c : Closed 0x81f0300000200073 P) {s : State} {a2 : _} (h : P s) :
    P (State.noAnswer s a2) := by
  have c1 : Closed 0x1 P := c.mono rfl
  have c81f0300000200073 : Closed 0x81f0300000200073 P := c.mono rfl
  unfold State.noAnswer
  dsimp only
  refine State.put_keeps c1 ?_
  refine State.cable_keeps c81f0300000200073 ?_
  refine State.put_keeps c1 ?_
  refine keeps_ite ?_ ?_
  · assumption
  · refine State.putN_keeps c1 ?_
    assumption

theorem State.openCellar_keeps {P : State → Prop} (c : Closed 0x80000000000001 P) {s : State} (h : P s) :
    P (State.openCellar s) := by
  have c1 : Closed 0x1 P := c.mono rfl
  have c80000000000001 : Closed 0x80000000000001 P := c.mono rfl
  unfold State.openCellar
  dsimp only
  refine State.configItem_keeps c80000000000001 ?_
  refine State.event_keeps c80000000000001 ?_
  refine State.putN_keeps c1 ?_
  refine State.putN_keeps c1 ?_
  refine State.setCellar_keeps c80000000000001 ?_
  assumption

theorem State.portFails_keeps {P : State → Prop} (c : Closed 0x81f01000003a7073 P) {s : State} {a2 : _} {a3 : _} (h : P s) :
    P (State.portFails s a2 a3) := by
  have c1 : Closed 0x1 P := c.mono rfl
  have c20 : Closed 0x20 P := c.mono rfl
  have c2000 : Closed 0x2000 P := c.mono rfl
  have c200000003a7073 : Closed 0x200000003a7073 P := c.mono rfl
  have c81f0100000200073 : Closed 0x81f0100000200073 P := c.mono rfl
  unfold State.portFails
  dsimp only
  split
  · refine State.disturbLinks_keeps c2000 ?_
    assumption
  · refine keeps_ite ?_ ?_
    · refine State.linkLost_keeps c200000003a7073 ?_
      refine State.raise_keeps c81f0100000200073 ?_
      refine State.putN_keeps c1 ?_
      refine State.putN_keeps c1 ?_
      refine State.bump_keeps c1 ?_
      refine State.disturbLinks_keeps c2000 ?_
      assumption
    · refine State.toSteward_keeps c20 ?_
      refine State.upDom_keeps c2000 ?_
      refine State.raise_keeps c81f0100000200073 ?_
      refine State.putN_keeps c1 ?_
      refine State.putN_keeps c1 ?_
      refine State.bump_keeps c1 ?_
      refine State.disturbLinks_keeps c2000 ?_
      assumption

theorem State.resetHangs_keeps {P : State → Prop} (c : Closed 0x81f050e103fe70f7 P) {s : State} {a2 : _} (h : P s) :
    P (State.resetHangs s a2) := by
  have c81f0100000200073 : Closed 0x81f0100000200073 P := c.mono rfl
  have c81f0108103fe70f7 : Closed 0x81f0108103fe70f7 P := c.mono rfl
  have c81f050e1037a70f7 : Closed 0x81f050e1037a70f7 P := c.mono rfl
  unfold State.resetHangs
  split
  · refine keeps_ite ?_ ?_
    · refine State.escalateContext_keeps c81f0108103fe70f7 ?_
      assumption
    · refine State.escalateEngine_keeps c81f050e1037a70f7 ?_
      assumption
  · refine State.escalateEngine_keeps c81f050e1037a70f7 ?_
    assumption
  · refine State.escalateChip_keeps c81f050e1037a70f7 ?_
    assumption
  · refine State.chipHangs_keeps c81f0100000200073 ?_
    assumption

theorem State.resumeJob_keeps {P : State → Prop} (c : Closed 0x206061 P) {s : State} (h : P s) :
    P (State.resumeJob s) := by
  have c20 : Closed 0x20 P := c.mono rfl
  have c2000 : Closed 0x2000 P := c.mono rfl
  have c6061 : Closed 0x6061 P := c.mono rfl
  have c200000 : Closed 0x200000 P := c.mono rfl
  unfold State.resumeJob
  dsimp only
  refine keeps_ite ?_ ?_
  · assumption
  · split
    · refine State.upJob_keeps c200000 ?_
      assumption
    · refine keeps_foldl ?_ _ ?_
      · intro x80 x81 x82
        refine keeps_ite ?_ ?_
        · refine State.placeRemote_keeps c6061 ?_
          assumption
        · refine State.toSteward_keeps c20 ?_
          assumption
      · refine State.upDom_keeps c2000 ?_
        refine State.upJob_keeps c200000 ?_
        assumption

theorem State.stackTrained_keeps {P : State → Prop} (c : Closed 0x80200000000001 P) {s : State} {a2 : _} (h : P s) :
    P (State.stackTrained s a2) := by
  have c200000000000 : Closed 0x200000000000 P := c.mono rfl
  have c80000000000001 : Closed 0x80000000000001 P := c.mono rfl
  unfold State.stackTrained
  dsimp only
  refine State.configItem_keeps c80000000000001 ?_
  refine keeps_bring c200000000000 ?_
  assumption

theorem State.stopPc_keeps {P : State → Prop} (c : Closed 0x83f01e0000200073 P) {s : State} {a2 : _} (h : P s) :
    P (State.stopPc s a2) := by
  have c1 : Closed 0x1 P := c.mono rfl
  have c20 : Closed 0x20 P := c.mono rfl
  have c100000000000 : Closed 0x100000000000 P := c.mono rfl
  have c200000000000000 : Closed 0x200000000000000 P := c.mono rfl
  have c81f01e0000200073 : Closed 0x81f01e0000200073 P := c.mono rfl
  unfold State.stopPc
  dsimp only
  refine keeps_ite ?_ ?_
  · refine State.retireOther_keeps c81f01e0000200073 ?_
    refine State.putN_keeps c1 ?_
    refine State.setPc_keeps c200000000000000 ?_
    assumption
  · refine State.send_keeps c20 ?_
    refine State.bump_keeps c1 ?_
    refine State.putN_keeps c1 ?_
    refine State.grant_keeps c100000000000 ?_
    refine State.setPc_keeps c200000000000000 ?_
    assumption

theorem State.takeStatus_keeps {P : State → Prop} (c : Closed 0x80a01000003a7073 P) {s : State} {a2 : _} {a3 : _} {a4 : _}
    (h : P s) :
    P (State.takeStatus s a2 a3 a4) := by
  have c1 : Closed 0x1 P := c.mono rfl
  have c200000 : Closed 0x200000 P := c.mono rfl
  have c200000003a7073 : Closed 0x200000003a7073 P := c.mono rfl
  have c8080100000000011 : Closed 0x8080100000000011 P := c.mono rfl
  unfold State.takeStatus
  dsimp only
  refine keeps_ite ?_ ?_
  · refine State.late_keeps c1 ?_
    assumption
  · refine keeps_ite ?_ ?_
    · refine State.startFailed_keeps c200000003a7073 ?_
      assumption
    · refine keeps_then ?_ ?_
      · refine State.upJob_keeps c200000 ?_
        assumption
      · intro x80
        refine State.arrives_keeps c8080100000000011 ?_
        assumption

theorem State.traceAppend_keeps {P : State → Prop} (c : Closed 0x20000000000000 P) {s : State} {a2 : _} (h : P s) :
    P (State.traceAppend s a2) := by
  have c20000000000000 : Closed 0x20000000000000 P := c.mono rfl
  unfold State.traceAppend
  dsimp only
  refine keeps_obs c20000000000000 ?_
  assumption

theorem State.traceStop_keeps {P : State → Prop} (c : Closed 0x20000000000021 P) {s : State} (h : P s) :
    P (State.traceStop s) := by
  have c1 : Closed 0x1 P := c.mono rfl
  have c20 : Closed 0x20 P := c.mono rfl
  have c20000000000000 : Closed 0x20000000000000 P := c.mono rfl
  unfold State.traceStop
  dsimp only
  refine State.putN_keeps c1 ?_
  refine keeps_obs c20000000000000 ?_
  refine keeps_else ?_ ?_
  · refine keeps_ite ?_ ?_
    · assumption
    · refine State.bumpBy_keeps c1 ?_
      assumption
  · intro x40
    refine State.send_keeps c20 ?_
    assumption

theorem State.traceStore_keeps {P : State → Prop} (c : Closed 0x21 P) {s : State} {a2 : _} (h : P s) :
    P (State.traceStore s a2) := by
  have c1 : Closed 0x1 P := c.mono rfl
  have c20 : Closed 0x20 P := c.mono rfl
  unfold State.traceStore
  dsimp only
  refine State.putN_keeps c1 ?_
  refine State.bump_keeps c1 ?_
  refine State.send_keeps c20 ?_
  assumption

theorem State.traceDrain_keeps {P : State → Prop} (c : Closed 0x20000000000021 P) {a1 : _} {s : State} (h : P s) :
    P (State.traceDrain a1 s) := by
  have c21 : Closed 0x21 P := c.mono rfl
  have c20000000000000 : Closed 0x20000000000000 P := c.mono rfl
  have c20000000000021 : Closed 0x20000000000021 P := c.mono rfl
  unfold State.traceDrain
  dsimp only
  split
  · assumption
  · split
    · assumption
    · refine keeps_ite ?_ ?_
      · refine keeps_obs c20000000000000 ?_
        assumption
      · refine keeps_ite ?_ ?_
        · refine State.traceStop_keeps c20000000000021 ?_
          assumption
        · refine keeps_ite ?_ ?_
          · assumption
          · refine State.traceDrain_keeps c20000000000021 ?_
            refine State.traceStore_keeps c21 ?_
            refine keeps_obs c20000000000000 ?_
            assumption

theorem State.traceDrop_keeps {P : State → Prop} (c : Closed 0x20000000000001 P) {s : State} (h : P s) :
    P (State.traceDrop s).1 := by
  have c1 : Closed 0x1 P := c.mono rfl
  have c20000000000000 : Closed 0x20000000000000 P := c.mono rfl
  unfold State.traceDrop
  dsimp only
  split
  · dsimp only
    refine keeps_obs c20000000000000 ?_
    refine State.bump_keeps c1 ?_
    assumption
  · dsimp only
    refine keeps_obs c20000000000000 ?_
    refine State.bump_keeps c1 ?_
    assumption

theorem State.traceQueue_keeps {P : State → Prop} (c : Closed 0x20000000000021 P) {s : State} {a2 : _} (h : P s) :
    P (State.traceQueue s a2).1 := by
  have c20000000000000 : Closed 0x20000000000000 P := c.mono rfl
  have c20000000000001 : Closed 0x20000000000001 P := c.mono rfl
  have c20000000000021 : Closed 0x20000000000021 P := c.mono rfl
  unfold State.traceQueue
  dsimp only
  split
  · split
    · split
      · dsimp only
        refine State.traceAppend_keeps c20000000000000 ?_
        refine keeps_obs c20000000000000 ?_
        refine State.traceAppend_keeps c20000000000000 ?_
        refine State.traceDrain_keeps c20000000000021 ?_
        assumption
      · refine State.traceDrop_keeps c20000000000001 ?_
        refine keeps_obs c20000000000000 ?_
        refine State.traceAppend_keeps c20000000000000 ?_
        refine State.traceDrain_keeps c20000000000021 ?_
        assumption
    · refine State.traceDrop_keeps c20000000000001 ?_
      refine State.traceDrain_keeps c20000000000021 ?_
      assumption
  · split
    · dsimp only
      refine State.traceAppend_keeps c20000000000000 ?_
      refine State.traceDrain_keeps c20000000000021 ?_
      assumption
    · refine State.traceDrop_keeps c20000000000001 ?_
      refine State.traceDrain_keeps c20000000000021 ?_
      assumption

theorem State.trainingFailed_keeps {P : State → Prop} (c : Closed 0x81f0300000200073 P) {s : State} {a2 : _} (h : P s) :
    P (State.trainingFailed s a2) := by
  have c30 : Closed 0x30 P := c.mono rfl
  have c200000000000 : Closed 0x200000000000 P := c.mono rfl
  have c81f0100000200073 : Closed 0x81f0100000200073 P := c.mono rfl
  unfold State.trainingFailed
  dsimp only
  refine keeps_ite ?_ ?_
  · refine State.failStage_keeps c81f0100000200073 ?_
    refine State.raise_keeps c81f0100000200073 ?_
    assumption
  · refine State.trainStack_keeps c30 ?_
    refine keeps_bring c200000000000 ?_
    assumption

theorem execActivateWhenIdle_keeps {P : State → Prop} (c : Closed 0x87f010dd037a71f7 P) {a1 : _} {s : State} (h : P s) :
    NextHas P (execActivateWhenIdle a1 s) := by
  have c20 : Closed 0x20 P := c.mono rfl
  have c100000000005 : Closed 0x100000000005 P := c.mono rfl
  have c400000000000031 : Closed 0x400000000000031 P := c.mono rfl
  have c87f010dd037a71f7 : Closed 0x87f010dd037a71f7 P := c.mono rfl
  unfold execActivateWhenIdle
  refine nextHas ?_
  refine State.settleAll_keeps c87f010dd037a71f7 ?_
  refine State.granted_keeps c100000000005 ?_ ?_
  · refine State.begin_keeps c20 ?_
    assumption
  · intro x40 x41
    refine activateImage_keeps c400000000000031 ?_
    assumption

theorem execBringupContinue_keeps {P : State → Prop} (c : Closed 0x87f07ffd0bfa71f7 P) {a1 : _} {s : State} (h : P s) :
    NextHas P (execBringupContinue a1 s) := by
  have c20 : Closed 0x20 P := c.mono rfl
  have c100000000005 : Closed 0x100000000005 P := c.mono rfl
  have c81f07f7d0bfa7077 : Closed 0x81f07f7d0bfa7077 P := c.mono rfl
  have c87f010dd037a71f7 : Closed 0x87f010dd037a71f7 P := c.mono rfl
  unfold execBringupContinue
  refine nextHas ?_
  refine State.settleAll_keeps c87f010dd037a71f7 ?_
  refine State.granted_keeps c100000000005 ?_ ?_
  · refine State.begin_keeps c20 ?_
    assumption
  · intro x40 x41
    refine continueBringup_keeps c81f07f7d0bfa7077 ?_
    assumption

theorem execCellarConfigReadDone_keeps {P : State → Prop} (c : Closed 0x187f07ffd0bfa71f7 P) {a1 : _} {a2 : _} {s : State}
    (h : P s) :
    NextHas P (execCellarConfigReadDone a1 a2 s) := by
  have c20 : Closed 0x20 P := c.mono rfl
  have c80000000000001 : Closed 0x80000000000001 P := c.mono rfl
  have c81f0100000200073 : Closed 0x81f0100000200073 P := c.mono rfl
  have c81f03e0000200073 : Closed 0x81f03e0000200073 P := c.mono rfl
  have c81f07f7d0bfa7077 : Closed 0x81f07f7d0bfa7077 P := c.mono rfl
  have c87f010dd037a71f7 : Closed 0x87f010dd037a71f7 P := c.mono rfl
  have c10000000000000001 : Closed 0x10000000000000001 P := c.mono rfl
  unfold execCellarConfigReadDone
  dsimp only
  refine has_ite ?_ ?_
  · refine nextHas ?_
    refine State.begin_keeps c20 ?_
    assumption
  · refine has_ite ?_ ?_
    · refine nextHas ?_
      refine State.settleAll_keeps c87f010dd037a71f7 ?_
      refine State.failStage_keeps c81f0100000200073 ?_
      refine State.begin_keeps c20 ?_
      assumption
    · refine nextHas ?_
      refine State.settleAll_keeps c87f010dd037a71f7 ?_
      refine keeps_else ?_ ?_
      · refine State.checkPcs_keeps c81f03e0000200073 ?_
        refine State.latchSettings_keeps c10000000000000001 ?_
        refine State.openCellar_keeps c80000000000001 ?_
        refine State.begin_keeps c20 ?_
        assumption
      · intro x80
        refine State.endStage_keeps c81f07f7d0bfa7077 ?_
        assumption

theorem execCompareTimeout_keeps {P : State → Prop} (c : Closed 0x87f010dd037a71f7 P) {a1 : _} {s : State} (h : P s) :
    NextHas P (execCompareTimeout a1 s) := by
  have c20 : Closed 0x20 P := c.mono rfl
  have c100000000010 : Closed 0x100000000010 P := c.mono rfl
  have c81f0100000202073 : Closed 0x81f0100000202073 P := c.mono rfl
  have c87f010dd037a71f7 : Closed 0x87f010dd037a71f7 P := c.mono rfl
  unfold execCompareTimeout
  dsimp only
  refine has_ite ?_ ?_
  · refine nextHas ?_
    refine State.begin_keeps c20 ?_
    assumption
  · split
    · refine has_ite ?_ ?_
      · refine nextHas ?_
        refine State.settleAll_keeps c87f010dd037a71f7 ?_
        refine State.partnerLost_keeps c81f0100000202073 ?_
        refine State.expire_keeps c100000000010 ?_
        refine State.begin_keeps c20 ?_
        assumption
      · refine nextHas ?_
        refine State.expire_keeps c100000000010 ?_
        refine State.begin_keeps c20 ?_
        assumption
    · refine nextHas ?_
      refine State.expire_keeps c100000000010 ?_
      refine State.begin_keeps c20 ?_
      assumption

theorem execCrossChipProofIssue_keeps {P : State → Prop} (c : Closed 0x87f010dd037a71f7 P) {a1 : _} {a2 : _} {a3 : _}
    {a4 : _} {a5 : _} {s : State} (h : P s) :
    NextHas P (execCrossChipProofIssue a1 a2 a3 a4 a5 s) := by
  have c6020 : Closed 0x6020 P := c.mono rfl
  have c87f010dd037a71f7 : Closed 0x87f010dd037a71f7 P := c.mono rfl
  unfold execCrossChipProofIssue
  refine nextHas ?_
  refine State.framedFor_keeps c87f010dd037a71f7 ?_ ?_
  · assumption
  · intro x40 x41
    refine State.serveProof_keeps c6020 ?_
    assumption

theorem execCrossChipProofRequest_keeps {P : State → Prop} (c : Closed 0x87f010dd037a71f7 P) {a1 : _} {a2 : _} {a3 : _}
    {a4 : _} {a5 : _} {s : State} (h : P s) :
    NextHas P (execCrossChipProofRequest a1 a2 a3 a4 a5 s) := by
  have c6061 : Closed 0x6061 P := c.mono rfl
  have c87f010dd037a71f7 : Closed 0x87f010dd037a71f7 P := c.mono rfl
  unfold execCrossChipProofRequest
  refine nextHas ?_
  refine State.framedFor_keeps c87f010dd037a71f7 ?_ ?_
  · assumption
  · intro x40 x41
    refine State.placeRemote_keeps c6061 ?_
    assumption

theorem execDivergenceEndJob_keeps {P : State → Prop} (c : Closed 0x87f010dd037a71f7 P) {a1 : _} {s : State} (h : P s) :
    NextHas P (execDivergenceEndJob a1 s) := by
  have c0 : Closed 0x0 P := c.mono rfl
  have c20 : Closed 0x20 P := c.mono rfl
  have c100000000005 : Closed 0x100000000005 P := c.mono rfl
  have c81e01000003a6073 : Closed 0x81e01000003a6073 P := c.mono rfl
  have c87f010dd037a71f7 : Closed 0x87f010dd037a71f7 P := c.mono rfl
  unfold execDivergenceEndJob
  refine nextHas ?_
  refine State.settleAll_keeps c87f010dd037a71f7 ?_
  refine State.granted_keeps c100000000005 ?_ ?_
  · refine State.begin_keeps c20 ?_
    assumption
  · intro x40 x41
    refine ifUnattributed_keeps c0 ?_ ?_
    · intro x60 x61 x62
      refine endPair_keeps c81e01000003a6073 ?_
      assumption
    · assumption

theorem execDivergenceRestartPair_keeps {P : State → Prop} (c : Closed 0x87f010dd037a71f7 P) {a1 : _} {s : State} (h : P s) :
    NextHas P (execDivergenceRestartPair a1 s) := by
  have c0 : Closed 0x0 P := c.mono rfl
  have c20 : Closed 0x20 P := c.mono rfl
  have c201071 : Closed 0x201071 P := c.mono rfl
  have c100000000005 : Closed 0x100000000005 P := c.mono rfl
  have c87f010dd037a71f7 : Closed 0x87f010dd037a71f7 P := c.mono rfl
  unfold execDivergenceRestartPair
  refine nextHas ?_
  refine State.settleAll_keeps c87f010dd037a71f7 ?_
  refine State.granted_keeps c100000000005 ?_ ?_
  · refine State.begin_keeps c20 ?_
    assumption
  · intro x40 x41
    refine ifUnattributed_keeps c0 ?_ ?_
    · intro x60 x61 x62
      refine restartPair_keeps c201071 ?_
      assumption
    · assumption

theorem execDrainAndActivate_keeps {P : State → Prop} (c : Closed 0x87f010dd037a71f7 P) {a1 : _} {s : State} (h : P s) :
    NextHas P (execDrainAndActivate a1 s) := by
  have c20 : Closed 0x20 P := c.mono rfl
  have c100000000005 : Closed 0x100000000005 P := c.mono rfl
  have c400000000000031 : Closed 0x400000000000031 P := c.mono rfl
  have c87f010dd037a71f7 : Closed 0x87f010dd037a71f7 P := c.mono rfl
  unfold execDrainAndActivate
  refine nextHas ?_
  refine State.settleAll_keeps c87f010dd037a71f7 ?_
  refine State.granted_keeps c100000000005 ?_ ?_
  · refine State.begin_keeps c20 ?_
    assumption
  · intro x40 x41
    refine activateImage_keeps c400000000000031 ?_
    assumption

theorem execFailureReport_keeps {P : State → Prop} (c : Closed 0x87f010dd037a71f7 P) {a1 : _} {a2 : _} {a3 : _} {s : State}
    (h : P s) :
    NextHas P (execFailureReport a1 a2 a3 s) := by
  have c81f01000003a7073 : Closed 0x81f01000003a7073 P := c.mono rfl
  have c87f010dd037a71f7 : Closed 0x87f010dd037a71f7 P := c.mono rfl
  unfold execFailureReport
  refine nextHas ?_
  refine State.framedFor_keeps c87f010dd037a71f7 ?_ ?_
  · assumption
  · intro x40 x41
    refine State.stewardFailure_keeps c81f01000003a7073 ?_
    assumption

theorem execFaultFrame_keeps {P : State → Prop} (c : Closed 0x87f010dd037a71f7 P) {a1 : _} {s : State} (h : P s) :
    NextHas P (execFaultFrame a1 s) := by
  have c200000 : Closed 0x200000 P := c.mono rfl
  have c81f01000003a7073 : Closed 0x81f01000003a7073 P := c.mono rfl
  have c87f010dd037a71f7 : Closed 0x87f010dd037a71f7 P := c.mono rfl
  unfold execFaultFrame
  refine nextHas ?_
  refine State.framed_keeps c87f010dd037a71f7 ?_ ?_
  · assumption
  · intro x40 x41
    split
    · refine State.stewardFailure_keeps c81f01000003a7073 ?_
      assumption
    · refine State.upJob_keeps c200000 ?_
      assumption

theorem execFillTimeout_keeps {P : State → Prop} (c : Closed 0x87f010dd037a71f7 P) {a1 : _} {s : State} (h : P s) :
    NextHas P (execFillTimeout a1 s) := by
  have c20 : Closed 0x20 P := c.mono rfl
  have c100000000010 : Closed 0x100000000010 P := c.mono rfl
  have c81f0100000200073 : Closed 0x81f0100000200073 P := c.mono rfl
  have c87f010dd037a71f7 : Closed 0x87f010dd037a71f7 P := c.mono rfl
  unfold execFillTimeout
  dsimp only
  refine has_ite ?_ ?_
  · refine nextHas ?_
    refine State.begin_keeps c20 ?_
    assumption
  · refine nextHas ?_
    refine State.settleAll_keeps c87f010dd037a71f7 ?_
    refine keeps_then ?_ ?_
    · refine State.expire_keeps c100000000010 ?_
      refine State.begin_keeps c20 ?_
      assumption
    · intro x60
      refine State.failStage_keeps c81f0100000200073 ?_
      assumption

theorem execFreezeReport_keeps {P : State → Prop} (c : Closed 0x87f010dd037a71f7 P) {a1 : _} {a2 : _} {s : State} (h : P s) :
    NextHas P (execFreezeReport a1 a2 s) := by
  have c10 : Closed 0x10 P := c.mono rfl
  have c200000 : Closed 0x200000 P := c.mono rfl
  have c87f010dd037a71f7 : Closed 0x87f010dd037a71f7 P := c.mono rfl
  unfold execFreezeReport
  dsimp only
  refine nextHas ?_
  refine State.framed_keeps c87f010dd037a71f7 ?_ ?_
  · assumption
  · intro x40 x41
    refine keeps_ite ?_ ?_
    · refine State.holdTimers_keeps c10 ?_
      refine State.upJob_keeps c200000 ?_
      assumption
    · refine State.resumeTimers_keeps c10 ?_
      refine State.upJob_keeps c200000 ?_
      assumption

theorem execFuseReadDone_keeps {P : State → Prop} (c : Closed 0x87f07ffd0bfa71f7 P) {a1 : _} {s : State} (h : P s) :
    NextHas P (execFuseReadDone a1 s) := by
  have c20 : Closed 0x20 P := c.mono rfl
  have c81f0100000200073 : Closed 0x81f0100000200073 P := c.mono rfl
  have c81f0300000200073 : Closed 0x81f0300000200073 P := c.mono rfl
  have c81f07f7d0bfa7077 : Closed 0x81f07f7d0bfa7077 P := c.mono rfl
  have c87f010dd037a71f7 : Closed 0x87f010dd037a71f7 P := c.mono rfl
  unfold execFuseReadDone
  dsimp only
  refine has_ite ?_ ?_
  · refine nextHas ?_
    refine State.begin_keeps c20 ?_
    assumption
  · split
    · refine nextHas ?_
      refine State.settleAll_keeps c87f010dd037a71f7 ?_
      refine State.failStage_keeps c81f0100000200073 ?_
      refine State.begin_keeps c20 ?_
      assumption
    · refine nextHas ?_
      refine State.settleAll_keeps c87f010dd037a71f7 ?_
      refine State.endStage_keeps c81f07f7d0bfa7077 ?_
      refine State.applyFuses_keeps c81f0300000200073 ?_
      refine State.begin_keeps c20 ?_
      assumption

theorem execIdentityAnswer_keeps {P : State → Prop} (c : Closed 0x87f07ffd0bfa71f7 P) {a1 : _} {a2 : _} {s : State} (h : P s) :
    NextHas P (execIdentityAnswer a1 a2 s) := by
  have c1 : Closed 0x1 P := c.mono rfl
  have c20 : Closed 0x20 P := c.mono rfl
  have c200000000000 : Closed 0x200000000000 P := c.mono rfl
  have c8080100000000011 : Closed 0x8080100000000011 P := c.mono rfl
  have c81f07f7d0bfa7077 : Closed 0x81f07f7d0bfa7077 P := c.mono rfl
  have c87f010dd037a71f7 : Closed 0x87f010dd037a71f7 P := c.mono rfl
  unfold execIdentityAnswer
  dsimp only
  refine has_ite ?_ ?_
  · refine nextHas ?_
    refine State.late_keeps c1 ?_
    refine State.begin_keeps c20 ?_
    assumption
  · refine nextHas ?_
    refine State.settleAll_keeps c87f010dd037a71f7 ?_
    refine State.identityNext_keeps c81f07f7d0bfa7077 ?_
    refine keeps_bring c200000000000 ?_
    refine State.putN_keeps c1 ?_
    refine State.putN_keeps c1 ?_
    refine State.putN_keeps c1 ?_
    refine State.put_keeps c1 ?_
    refine State.identityIn_keeps c200000000000 ?_
    refine State.arrives_keeps c8080100000000011 ?_
    refine State.begin_keeps c20 ?_
    assumption

theorem execIdentityRecheckTimer_keeps {P : State → Prop} (c : Closed 0x87f030dd037a71f7 P) {s : State} (h : P s) :
    NextHas P (execIdentityRecheckTimer s) := by
  have c10 : Closed 0x10 P := c.mono rfl
  have c20 : Closed 0x20 P := c.mono rfl
  have c81f0300000200077 : Closed 0x81f0300000200077 P := c.mono rfl
  have c87f010dd037a71f7 : Closed 0x87f010dd037a71f7 P := c.mono rfl
  unfold execIdentityRecheckTimer
  dsimp only
  refine has_ite ?_ ?_
  · refine nextHas ?_
    refine State.begin_keeps c20 ?_
    assumption
  · refine has_ite ?_ ?_
    · refine nextHas ?_
      refine State.armRecheck_keeps c10 ?_
      refine State.disarm_keeps c10 ?_
      refine State.begin_keeps c20 ?_
      assumption
    · refine nextHas ?_
      refine State.settleAll_keeps c87f010dd037a71f7 ?_
      refine State.armRecheck_keeps c10 ?_
      refine State.askPorts_keeps c81f0300000200077 ?_
      refine State.disarm_keeps c10 ?_
      refine State.begin_keeps c20 ?_
      assumption

theorem execIdentityRequest_keeps {P : State → Prop} (c : Closed 0x20 P) {a1 : _} {s : State} (h : P s) :
    NextHas P (execIdentityRequest a1 s) := by
  have c20 : Closed 0x20 P := c.mono rfl
  unfold execIdentityRequest
  dsimp only
  refine has_ite ?_ ?_
  · refine nextHas ?_
    refine State.send_keeps c20 ?_
    refine State.begin_keeps c20 ?_
    assumption
  · refine nextHas ?_
    refine State.begin_keeps c20 ?_
    assumption

theorem execIdentityTimeout_keeps {P : State → Prop} (c : Closed 0x87f07ffd0bfa71f7 P) {a1 : _} {s : State} (h : P s) :
    NextHas P (execIdentityTimeout a1 s) := by
  have c20 : Closed 0x20 P := c.mono rfl
  have c100000000010 : Closed 0x100000000010 P := c.mono rfl
  have c200000000000 : Closed 0x200000000000 P := c.mono rfl
  have c81f0300000200073 : Closed 0x81f0300000200073 P := c.mono rfl
  have c81f07f7d0bfa7077 : Closed 0x81f07f7d0bfa7077 P := c.mono rfl
  have c87f010dd037a71f7 : Closed 0x87f010dd037a71f7 P := c.mono rfl
  unfold execIdentityTimeout
  dsimp only
  refine has_ite ?_ ?_
  · refine nextHas ?_
    refine State.begin_keeps c20 ?_
    assumption
  · refine nextHas ?_
    refine State.settleAll_keeps c87f010dd037a71f7 ?_
    refine State.identityNext_keeps c81f07f7d0bfa7077 ?_
    refine State.noAnswer_keeps c81f0300000200073 ?_
    refine State.identityIn_keeps c200000000000 ?_
    refine State.expire_keeps c100000000010 ?_
    refine State.begin_keeps c20 ?_
    assumption

theorem execImageActivationDone_keeps {P : State → Prop} (c : Closed 0x87f07ffd0bfa71f7 P) {s : State} (h : P s) :
    NextHas P (execImageActivationDone s) := by
  have c1 : Closed 0x1 P := c.mono rfl
  have c4 : Closed 0x4 P := c.mono rfl
  have c20 : Closed 0x20 P := c.mono rfl
  have c200000000000 : Closed 0x200000000000 P := c.mono rfl
  have c200000000000000 : Closed 0x200000000000000 P := c.mono rfl
  have c200000000000001 : Closed 0x200000000000001 P := c.mono rfl
  have c400000000000000 : Closed 0x400000000000000 P := c.mono rfl
  have c400000000000013 : Closed 0x400000000000013 P := c.mono rfl
  have c81f07f7d0bfa7077 : Closed 0x81f07f7d0bfa7077 P := c.mono rfl
  have c87f010dd037a71f7 : Closed 0x87f010dd037a71f7 P := c.mono rfl
  unfold execImageActivationDone
  dsimp only
  refine has_ite ?_ ?_
  · refine nextHas ?_
    refine State.begin_keeps c20 ?_
    assumption
  · refine has_ite ?_ ?_
    · refine nextHas ?_
      refine State.settleAll_keeps c87f010dd037a71f7 ?_
      refine State.endStage_keeps c81f07f7d0bfa7077 ?_
      refine keeps_bring c200000000000 ?_
      refine keeps_then ?_ ?_
      · refine keeps_then ?_ ?_
        · refine keeps_foldl ?_ _ ?_
          · intro x120 x121 x122
            refine State.setPc_keeps c200000000000000 ?_
            assumption
          · refine State.putN_keeps c1 ?_
            refine State.runImage_keeps c400000000000013 ?_
            refine keeps_img c400000000000000 ?_
            refine State.begin_keeps c20 ?_
            assumption
        · intro x100
          refine State.returnDuties_keeps c200000000000001 ?_
          assumption
      · intro x80
        refine State.endWrite_keeps c4 ?_
        assumption
    · refine nextHas ?_
      refine State.settleAll_keeps c87f010dd037a71f7 ?_
      refine keeps_then ?_ ?_
      · refine keeps_then ?_ ?_
        · refine keeps_foldl ?_ _ ?_
          · intro x120 x121 x122
            refine State.setPc_keeps c200000000000000 ?_
            assumption
          · refine State.putN_keeps c1 ?_
            refine State.runImage_keeps c400000000000013 ?_
            refine keeps_img c400000000000000 ?_
            refine State.begin_keeps c20 ?_
            assumption
        · intro x100
          refine State.returnDuties_keeps c200000000000001 ?_
          assumption
      · intro x80
        refine State.endWrite_keeps c4 ?_
        assumption

theorem execImageVerified_keeps {P : State → Prop} (c : Closed 0x87f07ffd0bfa71f7 P) {a1 : _} {s : State} (h : P s) :
    NextHas P (execImageVerified a1 s) := by
  have c1 : Closed 0x1 P := c.mono rfl
  have c20 : Closed 0x20 P := c.mono rfl
  have c81f0100000200073 : Closed 0x81f0100000200073 P := c.mono rfl
  have c85f07f7d0bfa7077 : Closed 0x85f07f7d0bfa7077 P := c.mono rfl
  have c87f010dd037a71f7 : Closed 0x87f010dd037a71f7 P := c.mono rfl
  unfold execImageVerified
  dsimp only
  split
  · refine nextHas ?_
    refine State.settleAll_keeps c87f010dd037a71f7 ?_
    refine keeps_then ?_ ?_
    · refine State.begin_keeps c20 ?_
      assumption
    · intro x60
      refine State.judgeImage_keeps c85f07f7d0bfa7077 ?_
      assumption
  · refine nextHas ?_
    refine State.settleAll_keeps c87f010dd037a71f7 ?_
    refine keeps_then ?_ ?_
    · refine State.begin_keeps c20 ?_
      assumption
    · intro x60
      refine State.judgeImage_keeps c85f07f7d0bfa7077 ?_
      assumption
  · refine has_ite ?_ ?_
    · refine nextHas ?_
      refine State.begin_keeps c20 ?_
      assumption
    · refine nextHas ?_
      refine State.settleAll_keeps c87f010dd037a71f7 ?_
      refine keeps_else ?_ ?_
      · refine State.putN_keeps c1 ?_
        refine State.begin_keeps c20 ?_
        assumption
      · intro x80
        refine State.raise_keeps c81f0100000200073 ?_
        assumption

theorem execJobGalleyClear_keeps {P : State → Prop} (c : Closed 0x87f010dd037a71f7 P) {a1 : _} {a2 : _} {a3 : _} {a4 : _}
    {s : State} (h : P s) :
    NextHas P (execJobGalleyClear a1 a2 a3 a4 s) := by
  have c202001 : Closed 0x202001 P := c.mono rfl
  have c87f010dd037a71f7 : Closed 0x87f010dd037a71f7 P := c.mono rfl
  unfold execJobGalleyClear
  refine nextHas ?_
  refine State.framedFor_keeps c87f010dd037a71f7 ?_ ?_
  · assumption
  · intro x40 x41
    refine State.jobClearHere_keeps c202001 ?_
    assumption

theorem execLinkLossReport_keeps {P : State → Prop} (c : Closed 0x87f010dd037a71f7 P) {a1 : _} {a2 : _} {a3 : _} {a4 : _}
    {s : State} (h : P s) :
    NextHas P (execLinkLossReport a1 a2 a3 a4 s) := by
  have c200000003a7073 : Closed 0x200000003a7073 P := c.mono rfl
  have c87f010dd037a71f7 : Closed 0x87f010dd037a71f7 P := c.mono rfl
  unfold execLinkLossReport
  refine nextHas ?_
  refine State.framedFor_keeps c87f010dd037a71f7 ?_ ?_
  · assumption
  · intro x40 x41
    refine State.linkLost_keeps c200000003a7073 ?_
    assumption

theorem execLinkPortFailure_keeps {P : State → Prop} (c : Closed 0x87f010dd037a71f7 P) {a1 : _} {a2 : _} {s : State}
    (h : P s) :
    NextHas P (execLinkPortFailure a1 a2 s) := by
  have c20 : Closed 0x20 P := c.mono rfl
  have c81f01000003a7073 : Closed 0x81f01000003a7073 P := c.mono rfl
  have c87f010dd037a71f7 : Closed 0x87f010dd037a71f7 P := c.mono rfl
  unfold execLinkPortFailure
  refine nextHas ?_
  refine State.settleAll_keeps c87f010dd037a71f7 ?_
  refine State.portFails_keeps c81f01000003a7073 ?_
  refine State.begin_keeps c20 ?_
  assumption

theorem execLinkTrainingDone_keeps {P : State → Prop} (c : Closed 0x87f07ffd0bfa71f7 P) {a1 : _} {a2 : _} {a3 : _} {a4 : _}
    {a5 : _} {s : State} (h : P s) :
    NextHas P (execLinkTrainingDone a1 a2 a3 a4 a5 s) := by
  have c1 : Closed 0x1 P := c.mono rfl
  have c20 : Closed 0x20 P := c.mono rfl
  have c200000000000 : Closed 0x200000000000 P := c.mono rfl
  have c8080100000000011 : Closed 0x8080100000000011 P := c.mono rfl
  have c81f07f7d0bfa7077 : Closed 0x81f07f7d0bfa7077 P := c.mono rfl
  have c87f010dd037a71f7 : Closed 0x87f010dd037a71f7 P := c.mono rfl
  unfold execLinkTrainingDone
  dsimp only
  refine has_ite ?_ ?_
  · refine nextHas ?_
    refine State.settleAll_keeps c87f010dd037a71f7 ?_
    refine State.stageNext_keeps c81f07f7d0bfa7077 ?_
    refine keeps_else ?_ ?_
    · refine keeps_then ?_ ?_
      · refine State.linkIn_keeps c200000000000 ?_
        refine State.keepTraining_keeps c1 ?_
        refine State.arrives_keeps c8080100000000011 ?_
        refine State.begin_keeps c20 ?_
        assumption
      · intro x80
        refine State.putN_keeps c1 ?_
        assumption
    · intro x60
      refine State.exceptional_keeps c200000000000 ?_
      assumption
  · refine has_ite ?_ ?_
    · refine nextHas ?_
      refine State.settleAll_keeps c87f010dd037a71f7 ?_
      refine State.bump_keeps c1 ?_
      refine State.keepTraining_keeps c1 ?_
      refine State.begin_keeps c20 ?_
      assumption
    · refine nextHas ?_
      refine State.late_keeps c1 ?_
      refine State.begin_keeps c20 ?_
      assumption

theorem execLinkTrainingTimeout_keeps {P : State → Prop} (c : Closed 0x87f07ffd0bfa71f7 P) {a1 : _} {s : State} (h : P s) :
    NextHas P (execLinkTrainingTimeout a1 s) := by
  have c1 : Closed 0x1 P := c.mono rfl
  have c20 : Closed 0x20 P := c.mono rfl
  have c100000000010 : Closed 0x100000000010 P := c.mono rfl
  have c200000000000 : Closed 0x200000000000 P := c.mono rfl
  have c81f07f7d0bfa7077 : Closed 0x81f07f7d0bfa7077 P := c.mono rfl
  have c87f010dd037a71f7 : Closed 0x87f010dd037a71f7 P := c.mono rfl
  unfold execLinkTrainingTimeout
  dsimp only
  refine has_ite ?_ ?_
  · refine nextHas ?_
    refine State.begin_keeps c20 ?_
    assumption
  · refine nextHas ?_
    refine State.settleAll_keeps c87f010dd037a71f7 ?_
    refine State.stageNext_keeps c81f07f7d0bfa7077 ?_
    refine State.exceptional_keeps c200000000000 ?_
    refine State.putN_keeps c1 ?_
    refine State.linkIn_keeps c200000000000 ?_
    refine State.expire_keeps c100000000010 ?_
    refine State.begin_keeps c20 ?_
    assumption

theorem execMemoryTrainingDone_keeps {P : State → Prop} (c : Closed 0x87f07ffd0bfa71f7 P) {a1 : _} {a2 : _} {s : State}
    (h : P s) :
    NextHas P (execMemoryTrainingDone a1 a2 s) := by
  have c1 : Closed 0x1 P := c.mono rfl
  have c20 : Closed 0x20 P := c.mono rfl
  have c6000000021 : Closed 0x6000000021 P := c.mono rfl
  have c40000000000000 : Closed 0x40000000000000 P := c.mono rfl
  have c80200000000001 : Closed 0x80200000000001 P := c.mono rfl
  have c8080100000000011 : Closed 0x8080100000000011 P := c.mono rfl
  have c81f0100000200073 : Closed 0x81f0100000200073 P := c.mono rfl
  have c81f0300000200073 : Closed 0x81f0300000200073 P := c.mono rfl
  have c81f050e1037a70f7 : Closed 0x81f050e1037a70f7 P := c.mono rfl
  have c81f07f7d0bfa7077 : Closed 0x81f07f7d0bfa7077 P := c.mono rfl
  have c87f010dd037a71f7 : Closed 0x87f010dd037a71f7 P := c.mono rfl
  unfold execMemoryTrainingDone
  dsimp only
  refine has_ite ?_ ?_
  · refine nextHas ?_
    refine State.settleAll_keeps c87f010dd037a71f7 ?_
    refine keeps_ite ?_ ?_
    · refine State.stageNext_keeps c81f07f7d0bfa7077 ?_
      refine State.stackTrained_keeps c80200000000001 ?_
      refine State.arrives_keeps c8080100000000011 ?_
      refine State.begin_keeps c20 ?_
      assumption
    · refine State.trainingFailed_keeps c81f0300000200073 ?_
      refine State.arrives_keeps c8080100000000011 ?_
      refine State.begin_keeps c20 ?_
      assumption
  · split
    · refine has_ite ?_ ?_
      · refine has_ite ?_ ?_
        · refine nextHas ?_
          refine State.settleAll_keeps c87f010dd037a71f7 ?_
          refine State.fillPartition_keeps c6000000021 ?_
          refine State.upReset_keeps c40000000000000 ?_
          refine State.begin_keeps c20 ?_
          assumption
        · refine nextHas ?_
          refine State.settleAll_keeps c87f010dd037a71f7 ?_
          refine State.escalateChip_keeps c81f050e1037a70f7 ?_
          refine State.raise_keeps c81f0100000200073 ?_
          refine State.begin_keeps c20 ?_
          assumption
      · refine nextHas ?_
        refine State.late_keeps c1 ?_
        refine State.begin_keeps c20 ?_
        assumption
    · refine nextHas ?_
      refine State.late_keeps c1 ?_
      refine State.begin_keeps c20 ?_
      assumption

theorem execMemoryTrainingTimeout_keeps {P : State → Prop} (c : Closed 0x87f030dd037a71f7 P) {a1 : _} {s : State} (h : P s) :
    NextHas P (execMemoryTrainingTimeout a1 s) := by
  have c20 : Closed 0x20 P := c.mono rfl
  have c100000000010 : Closed 0x100000000010 P := c.mono rfl
  have c81f0300000200073 : Closed 0x81f0300000200073 P := c.mono rfl
  have c87f010dd037a71f7 : Closed 0x87f010dd037a71f7 P := c.mono rfl
  unfold execMemoryTrainingTimeout
  dsimp only
  refine has_ite ?_ ?_
  · refine nextHas ?_
    refine State.begin_keeps c20 ?_
    assumption
  · refine nextHas ?_
    refine State.settleAll_keeps c87f010dd037a71f7 ?_
    refine keeps_then ?_ ?_
    · refine State.expire_keeps c100000000010 ?_
      refine State.begin_keeps c20 ?_
      assumption
    · intro x60
      refine State.trainingFailed_keeps c81f0300000200073 ?_
      assumption

theorem execNarrowingFetchResponse_keeps {P : State → Prop} (c : Closed 0x87f010dd037a71f7 P) {a1 : _} {a2 : _} {s : State}
    (h : P s) :
    NextHas P (execNarrowingFetchResponse a1 a2 s) := by
  have c200000003a7073 : Closed 0x200000003a7073 P := c.mono rfl
  have c87f010dd037a71f7 : Closed 0x87f010dd037a71f7 P := c.mono rfl
  unfold execNarrowingFetchResponse
  refine nextHas ?_
  refine State.framed_keeps c87f010dd037a71f7 ?_ ?_
  · assumption
  · intro x40 x41
    split
    · refine keeps_ite ?_ ?_
      · refine State.takeFetch_keeps c200000003a7073 ?_
        assumption
      · assumption
    · assumption

theorem execPcHeartbeat_keeps {P : State → Prop} (c : Closed 0x8080100000000031 P) {a1 : _} {s : State} (h : P s) :
    NextHas P (execPcHeartbeat a1 s) := by
  have c10 : Closed 0x10 P := c.mono rfl
  have c20 : Closed 0x20 P := c.mono rfl
  have c8080100000000011 : Closed 0x8080100000000011 P := c.mono rfl
  unfold execPcHeartbeat
  dsimp only
  refine has_ite ?_ ?_
  · refine nextHas ?_
    refine State.begin_keeps c20 ?_
    assumption
  · refine nextHas ?_
    refine State.arm_keeps c10 ?_
    refine State.send_keeps c20 ?_
    refine State.arrives_keeps c8080100000000011 ?_
    refine State.begin_keeps c20 ?_
    assumption

theorem execPcReady_keeps {P : State → Prop} (c : Closed 0x87f010dd037a71f7 P) {a1 : _} {s : State} (h : P s) :
    NextHas P (execPcReady a1 s) := by
  have c1 : Closed 0x1 P := c.mono rfl
  have c10 : Closed 0x10 P := c.mono rfl
  have c20 : Closed 0x20 P := c.mono rfl
  have c200000000000000 : Closed 0x200000000000000 P := c.mono rfl
  have c200000000000001 : Closed 0x200000000000001 P := c.mono rfl
  have c87f010dd037a71f7 : Closed 0x87f010dd037a71f7 P := c.mono rfl
  unfold execPcReady
  dsimp only
  refine has_ite ?_ ?_
  · refine nextHas ?_
    refine State.begin_keeps c20 ?_
    assumption
  · refine nextHas ?_
    refine State.settleAll_keeps c87f010dd037a71f7 ?_
    refine keeps_then ?_ ?_
    · refine State.arm_keeps c10 ?_
      refine State.setPc_keeps c200000000000000 ?_
      refine State.putN_keeps c1 ?_
      refine State.begin_keeps c20 ?_
      assumption
    · intro x60
      refine State.returnDuties_keeps c200000000000001 ?_
      assumption

theorem execPcSilent_keeps {P : State → Prop} (c : Closed 0x87f01edd037a71f7 P) {a1 : _} {s : State} (h : P s) :
    NextHas P (execPcSilent a1 s) := by
  have c1 : Closed 0x1 P := c.mono rfl
  have c20 : Closed 0x20 P := c.mono rfl
  have c100000000010 : Closed 0x100000000010 P := c.mono rfl
  have c81f0100000200073 : Closed 0x81f0100000200073 P := c.mono rfl
  have c83f01e0000200073 : Closed 0x83f01e0000200073 P := c.mono rfl
  have c87f010dd037a71f7 : Closed 0x87f010dd037a71f7 P := c.mono rfl
  unfold execPcSilent
  dsimp only
  refine has_ite ?_ ?_
  · refine nextHas ?_
    refine State.begin_keeps c20 ?_
    assumption
  · refine nextHas ?_
    refine State.settleAll_keeps c87f010dd037a71f7 ?_
    refine State.raisePcLost_keeps c81f0100000200073 ?_
    refine State.moveDuties_keeps c1 ?_
    refine State.stopPc_keeps c83f01e0000200073 ?_
    refine State.expire_keeps c100000000010 ?_
    refine State.begin_keeps c20 ?_
    assumption

theorem execPlanAccept_keeps {P : State → Prop} (c : Closed 0x87f010dd037a71f7 P) {a1 : _} {a2 : _} {s : State} (h : P s) :
    NextHas P (execPlanAccept a1 a2 s) := by
  have c20 : Closed 0x20 P := c.mono rfl
  have c100000000005 : Closed 0x100000000005 P := c.mono rfl
  have c80000000000003 : Closed 0x80000000000003 P := c.mono rfl
  have c87f010dd037a71f7 : Closed 0x87f010dd037a71f7 P := c.mono rfl
  unfold execPlanAccept
  refine nextHas ?_
  refine State.settleAll_keeps c87f010dd037a71f7 ?_
  refine State.granted_keeps c100000000005 ?_ ?_
  · refine State.begin_keeps c20 ?_
    assumption
  · intro x40 x41
    refine acceptPort_keeps c80000000000003 ?_
    assumption

theorem execRankReplaced_keeps {P : State → Prop} (c : Closed 0x87f010dd037a71f7 P) {a1 : _} {a2 : _} {s : State} (h : P s) :
    NextHas P (execRankReplaced a1 a2 s) := by
  have c20 : Closed 0x20 P := c.mono rfl
  have c100000000005 : Closed 0x100000000005 P := c.mono rfl
  have c200000003a7073 : Closed 0x200000003a7073 P := c.mono rfl
  have c87f010dd037a71f7 : Closed 0x87f010dd037a71f7 P := c.mono rfl
  unfold execRankReplaced
  refine nextHas ?_
  refine State.settleAll_keeps c87f010dd037a71f7 ?_
  refine State.granted_keeps c100000000005 ?_ ?_
  · refine State.begin_keeps c20 ?_
    assumption
  · intro x40 x41
    refine replaceRank_keeps c200000003a7073 ?_
    assumption

theorem execRecheck_keeps {P : State → Prop} (c : Closed 0x87f030dd037a71f7 P) {a1 : _} {s : State} (h : P s) :
    NextHas P (execRecheck a1 s) := by
  have c20 : Closed 0x20 P := c.mono rfl
  have c100000000005 : Closed 0x100000000005 P := c.mono rfl
  have c81f0300000200077 : Closed 0x81f0300000200077 P := c.mono rfl
  have c87f010dd037a71f7 : Closed 0x87f010dd037a71f7 P := c.mono rfl
  unfold execRecheck
  refine nextHas ?_
  refine State.settleAll_keeps c87f010dd037a71f7 ?_
  refine State.granted_keeps c100000000005 ?_ ?_
  · refine State.begin_keeps c20 ?_
    assumption
  · intro x40 x41
    refine recheckPorts_keeps c81f0300000200077 ?_
    assumption

theorem execRegenRelease_keeps {P : State → Prop} (c : Closed 0x87f010dd037a71f7 P) {a1 : _} {s : State} (h : P s) :
    NextHas P (execRegenRelease a1 s) := by
  have c20 : Closed 0x20 P := c.mono rfl
  have c106031 : Closed 0x106031 P := c.mono rfl
  have c100000000005 : Closed 0x100000000005 P := c.mono rfl
  have c87f010dd037a71f7 : Closed 0x87f010dd037a71f7 P := c.mono rfl
  unfold execRegenRelease
  refine nextHas ?_
  refine State.settleAll_keeps c87f010dd037a71f7 ?_
  refine State.granted_keeps c100000000005 ?_ ?_
  · refine State.begin_keeps c20 ?_
    assumption
  · intro x40 x41
    refine releaseRegen_keeps c106031 ?_
    assumption

theorem execRegenRequest_keeps {P : State → Prop} (c : Closed 0x87f010dd037a71f7 P) {a1 : _} {a2 : _} {s : State} (h : P s) :
    NextHas P (execRegenRequest a1 a2 s) := by
  have c20 : Closed 0x20 P := c.mono rfl
  have c102031 : Closed 0x102031 P := c.mono rfl
  have c100000000005 : Closed 0x100000000005 P := c.mono rfl
  have c87f010dd037a71f7 : Closed 0x87f010dd037a71f7 P := c.mono rfl
  unfold execRegenRequest
  refine nextHas ?_
  refine State.settleAll_keeps c87f010dd037a71f7 ?_
  refine State.granted_keeps c100000000005 ?_ ?_
  · refine State.begin_keeps c20 ?_
    assumption
  · intro x40 x41
    refine requestRegen_keeps c102031 ?_
    assumption

theorem execRegenRunDone_keeps {P : State → Prop} (c : Closed 0x87f010dd037a71f7 P) {a1 : _} {a2 : _} {a3 : _}
    {s : State} (h : P s) :
    NextHas P (execRegenRunDone a1 a2 a3 s) := by
  have c1 : Closed 0x1 P := c.mono rfl
  have c2 : Closed 0x2 P := c.mono rfl
  have c20 : Closed 0x20 P := c.mono rfl
  have c100000 : Closed 0x100000 P := c.mono rfl
  have c106031 : Closed 0x106031 P := c.mono rfl
  have c8080100000000011 : Closed 0x8080100000000011 P := c.mono rfl
  have c87f010dd037a71f7 : Closed 0x87f010dd037a71f7 P := c.mono rfl
  unfold execRegenRunDone
  dsimp only
  split
  · refine nextHas ?_
    refine State.late_keeps c1 ?_
    refine State.begin_keeps c20 ?_
    assumption
  · refine has_ite ?_ ?_
    · refine nextHas ?_
      refine State.late_keeps c1 ?_
      refine State.begin_keeps c20 ?_
      assumption
    · refine has_ite ?_ ?_
      · refine nextHas ?_
        refine State.settleAll_keeps c87f010dd037a71f7 ?_
        refine State.endRegen_keeps c106031 ?_
        refine State.arrives_keeps c8080100000000011 ?_
        refine State.begin_keeps c20 ?_
        assumption
      · refine nextHas ?_
        refine State.settleAll_keeps c87f010dd037a71f7 ?_
        refine keeps_regen c100000 ?_
        refine State.putN_keeps c1 ?_
        refine State.setContent_keeps c2 ?_
        refine State.arrives_keeps c8080100000000011 ?_
        refine State.begin_keeps c20 ?_
        assumption

theorem execRegenTimeout_keeps {P : State → Prop} (c : Closed 0x87f010dd037a71f7 P) {s : State} (h : P s) :
    NextHas P (execRegenTimeout s) := by
  have c20 : Closed 0x20 P := c.mono rfl
  have c106031 : Closed 0x106031 P := c.mono rfl
  have c100000000010 : Closed 0x100000000010 P := c.mono rfl
  have c87f010dd037a71f7 : Closed 0x87f010dd037a71f7 P := c.mono rfl
  unfold execRegenTimeout
  dsimp only
  refine has_ite ?_ ?_
  · refine nextHas ?_
    refine State.begin_keeps c20 ?_
    assumption
  · refine nextHas ?_
    refine State.settleAll_keeps c87f010dd037a71f7 ?_
    refine State.endRegen_keeps c106031 ?_
    refine State.expire_keeps c100000000010 ?_
    refine State.begin_keeps c20 ?_
    assumption

theorem execRemoteTaint_keeps {P : State → Prop} (c : Closed 0x87f010dd037a71f7 P) {a1 : _} {a2 : _} {a3 : _} {s : State}
    (h : P s) :
    NextHas P (execRemoteTaint a1 a2 a3 s) := by
  have c81f0100000200073 : Closed 0x81f0100000200073 P := c.mono rfl
  have c87f010dd037a71f7 : Closed 0x87f010dd037a71f7 P := c.mono rfl
  unfold execRemoteTaint
  refine nextHas ?_
  refine State.framedFor_keeps c87f010dd037a71f7 ?_ ?_
  · assumption
  · intro x40 x41
    refine State.remoteTaintHere_keeps c81f0100000200073 ?_
    assumption

theorem execRouteGenerationWrite_keeps {P : State → Prop} (c : Closed 0x87f010dd037a71f7 P) {a1 : _} {a2 : _} {s : State}
    (h : P s) :
    NextHas P (execRouteGenerationWrite a1 a2 s) := by
  have c20 : Closed 0x20 P := c.mono rfl
  have c203071 : Closed 0x203071 P := c.mono rfl
  have c100000000005 : Closed 0x100000000005 P := c.mono rfl
  have c87f010dd037a71f7 : Closed 0x87f010dd037a71f7 P := c.mono rfl
  unfold execRouteGenerationWrite
  refine nextHas ?_
  refine State.settleAll_keeps c87f010dd037a71f7 ?_
  refine State.granted_keeps c100000000005 ?_ ?_
  · refine State.begin_keeps c20 ?_
    assumption
  · intro x40 x41
    refine writeRoute_keeps c203071 ?_
    assumption

theorem execSparingCompleteReport_keeps {P : State → Prop} (c : Closed 0x87f010dd037a71f7 P) {a1 : _} {a2 : _} {s : State}
    (h : P s) :
    NextHas P (execSparingCompleteReport a1 a2 s) := by
  have c200000 : Closed 0x200000 P := c.mono rfl
  have c201071 : Closed 0x201071 P := c.mono rfl
  have c87f010dd037a71f7 : Closed 0x87f010dd037a71f7 P := c.mono rfl
  unfold execSparingCompleteReport
  refine nextHas ?_
  refine State.framedFor_keeps c87f010dd037a71f7 ?_ ?_
  · assumption
  · intro x40 x41
    refine State.restartJob_keeps c201071 ?_
    refine State.upJob_keeps c200000 ?_
    assumption

theorem execSpecimenStageTimeout_keeps {P : State → Prop} (c : Closed 0x87f07ffd0bfa71f7 P) {s : State} (h : P s) :
    NextHas P (execSpecimenStageTimeout s) := by
  have c20 : Closed 0x20 P := c.mono rfl
  have c100000000010 : Closed 0x100000000010 P := c.mono rfl
  have c200000000000 : Closed 0x200000000000 P := c.mono rfl
  have c81f05e1903706073 : Closed 0x81f05e1903706073 P := c.mono rfl
  have c81f07f7d0bfa7077 : Closed 0x81f07f7d0bfa7077 P := c.mono rfl
  have c87f010dd037a71f7 : Closed 0x87f010dd037a71f7 P := c.mono rfl
  unfold execSpecimenStageTimeout
  dsimp only
  refine has_ite ?_ ?_
  · refine nextHas ?_
    refine State.begin_keeps c20 ?_
    assumption
  · refine nextHas ?_
    refine State.settleAll_keeps c87f010dd037a71f7 ?_
    refine State.stageNext_keeps c81f07f7d0bfa7077 ?_
    refine keeps_foldl ?_ _ ?_
    · intro x60 x61 x62
      refine State.exceptional_keeps c200000000000 ?_
      refine State.fenceSteps_keeps c81f05e1903706073 ?_
      assumption
    · refine keeps_bring c200000000000 ?_
      refine State.expire_keeps c100000000010 ?_
      refine State.begin_keeps c20 ?_
      assumption

theorem execStartReportDeadline_keeps {P : State → Prop} (c : Closed 0x87f010dd037a71f7 P) {s : State} (h : P s) :
    NextHas P (execStartReportDeadline s) := by
  have c20 : Closed 0x20 P := c.mono rfl
  have c200010 : Closed 0x200010 P := c.mono rfl
  have c100000000010 : Closed 0x100000000010 P := c.mono rfl
  have c200000003a7073 : Closed 0x200000003a7073 P := c.mono rfl
  have c87f010dd037a71f7 : Closed 0x87f010dd037a71f7 P := c.mono rfl
  unfold execStartReportDeadline
  dsimp only
  refine has_ite ?_ ?_
  · refine nextHas ?_
    refine State.begin_keeps c20 ?_
    assumption
  · split
    · refine nextHas ?_
      refine State.settleAll_keeps c87f010dd037a71f7 ?_
      refine State.startFailed_keeps c200000003a7073 ?_
      refine State.expire_keeps c100000000010 ?_
      refine State.begin_keeps c20 ?_
      assumption
    · refine nextHas ?_
      refine State.endStart_keeps c200010 ?_
      refine State.begin_keeps c20 ?_
      assumption

theorem execStartStatusReport_keeps {P : State → Prop} (c : Closed 0x87f010dd037a71f7 P) {a1 : _} {a2 : _} {s : State}
    (h : P s) :
    NextHas P (execStartStatusReport a1 a2 s) := by
  have c80a01000003a7073 : Closed 0x80a01000003a7073 P := c.mono rfl
  have c87f010dd037a71f7 : Closed 0x87f010dd037a71f7 P := c.mono rfl
  unfold execStartStatusReport
  refine nextHas ?_
  refine State.framed_keeps c87f010dd037a71f7 ?_ ?_
  · assumption
  · intro x40 x41
    split
    · refine State.takeStatus_keeps c80a01000003a7073 ?_
      assumption
    · assumption

theorem execStepDiscardOrder_keeps {P : State → Prop} (c : Closed 0x87f010dd037a71f7 P) {a1 : _} {a2 : _} {s : State}
    (h : P s) :
    NextHas P (execStepDiscardOrder a1 a2 s) := by
  have c200000003a6033 : Closed 0x200000003a6033 P := c.mono rfl
  have c87f010dd037a71f7 : Closed 0x87f010dd037a71f7 P := c.mono rfl
  unfold execStepDiscardOrder
  refine nextHas ?_
  refine State.framedFor_keeps c87f010dd037a71f7 ?_ ?_
  · assumption
  · intro x40 x41
    refine State.discardStart_keeps c200000003a6033 ?_
    assumption

theorem execStewardHeartbeat_keeps {P : State → Prop} (c : Closed 0x87f010dd037a71f7 P) {a1 : _} {s : State} (h : P s) :
    NextHas P (execStewardHeartbeat a1 s) := by
  have c1 : Closed 0x1 P := c.mono rfl
  have c10 : Closed 0x10 P := c.mono rfl
  have c206061 : Closed 0x206061 P := c.mono rfl
  have c8080100000000011 : Closed 0x8080100000000011 P := c.mono rfl
  have c87f010dd037a71f7 : Closed 0x87f010dd037a71f7 P := c.mono rfl
  unfold execStewardHeartbeat
  dsimp only
  refine nextHas ?_
  refine State.framed_keeps c87f010dd037a71f7 ?_ ?_
  · assumption
  · intro x40 x41
    refine keeps_ite ?_ ?_
    · refine State.late_keeps c1 ?_
      assumption
    · refine State.resumeJob_keeps c206061 ?_
      refine State.arm_keeps c10 ?_
      refine State.put_keeps c1 ?_
      refine State.arrives_keeps c8080100000000011 ?_
      assumption

theorem execStewardHeartbeatSend_keeps {P : State → Prop} (c : Closed 0x87f010dd037a71f7 P) {s : State} (h : P s) :
    NextHas P (execStewardHeartbeatSend s) := by
  have c1 : Closed 0x1 P := c.mono rfl
  have c10 : Closed 0x10 P := c.mono rfl
  have c20 : Closed 0x20 P := c.mono rfl
  have c206061 : Closed 0x206061 P := c.mono rfl
  have c87f010dd037a71f7 : Closed 0x87f010dd037a71f7 P := c.mono rfl
  unfold execStewardHeartbeatSend
  dsimp only
  refine has_ite ?_ ?_
  · refine nextHas ?_
    refine State.begin_keeps c20 ?_
    assumption
  · refine nextHas ?_
    refine State.settleAll_keeps c87f010dd037a71f7 ?_
    refine State.resumeJob_keeps c206061 ?_
    refine State.arm_keeps c10 ?_
    refine State.put_keeps c1 ?_
    refine State.toWorkers_keeps c20 ?_
    refine State.begin_keeps c20 ?_
    assumption

theorem execStewardHoldOrder_keeps {P : State → Prop} (c : Closed 0x87f010dd037a71f7 P) {a1 : _} {a2 : _} {a3 : _}
    {s : State} (h : P s) :
    NextHas P (execStewardHoldOrder a1 a2 a3 s) := by
  have c1 : Closed 0x1 P := c.mono rfl
  have c2000 : Closed 0x2000 P := c.mono rfl
  have c6031 : Closed 0x6031 P := c.mono rfl
  have c200000 : Closed 0x200000 P := c.mono rfl
  have c87f010dd037a71f7 : Closed 0x87f010dd037a71f7 P := c.mono rfl
  unfold execStewardHoldOrder
  dsimp only
  refine nextHas ?_
  refine State.framedFor_keeps c87f010dd037a71f7 ?_ ?_
  · assumption
  · intro x40 x41
    split
    · refine State.upDom_keeps c2000 ?_
      assumption
    · refine keeps_then ?_ ?_
      · refine State.upDom_keeps c2000 ?_
        assumption
      · intro x80
        refine State.upJob_keeps c200000 ?_
        refine State.putN_keeps c1 ?_
        assumption
    · refine State.narrowingProof_keeps c6031 ?_
      assumption

theorem execStewardRollbackOrder_keeps {P : State → Prop} (c : Closed 0x87f010dd037a71f7 P) {a1 : _} {a2 : _} {a3 : _}
    {a4 : _} {s : State} (h : P s) :
    NextHas P (execStewardRollbackOrder a1 a2 a3 a4 s) := by
  have c2000 : Closed 0x2000 P := c.mono rfl
  have c200000003a6033 : Closed 0x200000003a6033 P := c.mono rfl
  have c81f0104503707073 : Closed 0x81f0104503707073 P := c.mono rfl
  have c87f010dd037a71f7 : Closed 0x87f010dd037a71f7 P := c.mono rfl
  unfold execStewardRollbackOrder
  dsimp only
  refine nextHas ?_
  refine State.framedFor_keeps c87f010dd037a71f7 ?_ ?_
  · assumption
  · intro x40 x41
    refine keeps_else ?_ ?_
    · refine State.upDom_keeps c2000 ?_
      refine State.rollback_keeps c200000003a6033 ?_
      refine State.upDom_keeps c2000 ?_
      assumption
    · intro x60
      refine State.sparingNext_keeps c81f0104503707073 ?_
      assumption

theorem execStewardTimeout_keeps {P : State → Prop} (c : Closed 0x87f010dd037a71f7 P) {s : State} (h : P s) :
    NextHas P (execStewardTimeout s) := by
  have c1 : Closed 0x1 P := c.mono rfl
  have c20 : Closed 0x20 P := c.mono rfl
  have c100000000010 : Closed 0x100000000010 P := c.mono rfl
  have c81f0100000200073 : Closed 0x81f0100000200073 P := c.mono rfl
  have c87f010dd037a71f7 : Closed 0x87f010dd037a71f7 P := c.mono rfl
  unfold execStewardTimeout
  dsimp only
  refine has_ite ?_ ?_
  · refine nextHas ?_
    refine State.begin_keeps c20 ?_
    assumption
  · refine nextHas ?_
    refine State.settleAll_keeps c87f010dd037a71f7 ?_
    refine State.raise_keeps c81f0100000200073 ?_
    refine State.putN_keeps c1 ?_
    refine State.expire_keeps c100000000010 ?_
    refine State.begin_keeps c20 ?_
    assumption

theorem execTimeLockTimeout_keeps {P : State → Prop} (c : Closed 0x87f07ffd0bfa71f7 P) {s : State} (h : P s) :
    NextHas P (execTimeLockTimeout s) := by
  have c20 : Closed 0x20 P := c.mono rfl
  have c100000000010 : Closed 0x100000000010 P := c.mono rfl
  have c200000000000 : Closed 0x200000000000 P := c.mono rfl
  have c81f07f7d0bfa7077 : Closed 0x81f07f7d0bfa7077 P := c.mono rfl
  have c87f010dd037a71f7 : Closed 0x87f010dd037a71f7 P := c.mono rfl
  unfold execTimeLockTimeout
  dsimp only
  refine has_ite ?_ ?_
  · refine nextHas ?_
    refine State.begin_keeps c20 ?_
    assumption
  · refine nextHas ?_
    refine State.settleAll_keeps c87f010dd037a71f7 ?_
    refine State.stageNext_keeps c81f07f7d0bfa7077 ?_
    refine State.exceptional_keeps c200000000000 ?_
    refine keeps_bring c200000000000 ?_
    refine State.expire_keeps c100000000010 ?_
    refine State.begin_keeps c20 ?_
    assumption

theorem execWorkDigestReport_keeps {P : State → Prop} (c : Closed 0x87f010dd037a71f7 P) {a1 : _} {a2 : _} {s : State}
    (h : P s) :
    NextHas P (execWorkDigestReport a1 a2 s) := by
  have c200000 : Closed 0x200000 P := c.mono rfl
  have c200000003a7073 : Closed 0x200000003a7073 P := c.mono rfl
  have c87f010dd037a71f7 : Closed 0x87f010dd037a71f7 P := c.mono rfl
  unfold execWorkDigestReport
  dsimp only
  refine nextHas ?_
  refine State.framed_keeps c87f010dd037a71f7 ?_ ?_
  · assumption
  · intro x40 x41
    split
    · refine keeps_ite ?_ ?_
      · refine State.narrowDigests_keeps c200000003a7073 ?_
        refine State.upJob_keeps c200000 ?_
        assumption
      · assumption
    · assumption

theorem execWorkerStepReport_keeps {P : State → Prop} (c : Closed 0x87f010dd037a71f7 P) {a1 : _} {a2 : _} {a3 : _} {a4 : _}
    {a5 : _} {s : State} (h : P s) :
    NextHas P (execWorkerStepReport a1 a2 a3 a4 a5 s) := by
  have c81f01000003a7073 : Closed 0x81f01000003a7073 P := c.mono rfl
  have c87f010dd037a71f7 : Closed 0x87f010dd037a71f7 P := c.mono rfl
  unfold execWorkerStepReport
  refine nextHas ?_
  refine State.framedFor_keeps c87f010dd037a71f7 ?_ ?_
  · assumption
  · intro x40 x41
    refine State.jobReport_keeps c81f01000003a7073 ?_
    assumption

end Sys2Proof.Machine
end

