-- ==== Sys2Proof/Laws/KeepsService.lean ====
section
/-! SUPPORT. What each operation keeps (see Laws/Keeps.lean): probe events, power, tests, dumps, freezes and resets. -/

namespace Sys2Proof.Machine

theorem State.setFreezeRecord_keeps {P : State → Prop} (c : Closed 0x10000000000002 P) {s : State} {a2 : _} (h : P s) :
    P (State.setFreezeRecord s a2) := by
  have c2 : Closed 0x2 P := c.mono rfl
  have c10000000000000 : Closed 0x10000000000000 P := c.mono rfl
  unfold State.setFreezeRecord
  dsimp only
  refine State.setContent_keeps c2 ?_
  refine keeps_frz c10000000000000 ?_
  assumption

theorem State.noteReadOut_keeps {P : State → Prop} (c : Closed 0x10000000000002 P) {s : State} (h : P s) :
    P (State.noteReadOut s) := by
  have c10000000000000 : Closed 0x10000000000000 P := c.mono rfl
  have c10000000000002 : Closed 0x10000000000002 P := c.mono rfl
  unfold State.noteReadOut
  dsimp only
  refine State.setFreezeRecord_keeps c10000000000002 ?_
  refine keeps_frz c10000000000000 ?_
  assumption

theorem State.armFreeze_keeps {P : State → Prop} (c : Closed 0x10000000000011 P) {s : State} {a2 : _} {a3 : _} (h : P s) :
    P (State.armFreeze s a2 a3) := by
  have c1 : Closed 0x1 P := c.mono rfl
  have c10 : Closed 0x10 P := c.mono rfl
  have c10000000000000 : Closed 0x10000000000000 P := c.mono rfl
  unfold State.armFreeze
  dsimp only
  refine State.armAt_keeps c10 ?_
  refine keeps_frz c10000000000000 ?_
  refine State.put_keeps c1 ?_
  assumption

theorem State.assertPorst_keeps {P : State → Prop} (c : Closed 0x21000000000000000 P) {s : State} (h : P s) :
    P (State.assertPorst s) := by
  have c1000000000000000 : Closed 0x1000000000000000 P := c.mono rfl
  unfold State.assertPorst
  dsimp only
  refine keeps_porst c1000000000000000 ?_
  refine c .reinit_ rfl _ _ _ ?_
  assumption

theorem State.beginBp_keeps {P : State → Prop} (c : Closed 0x120000000000051 P) {s : State} {a2 : _} {a3 : _} {a4 : _}
    {a5 : _} {a6 : _} (h : P s) :
    P (State.beginBp s a2 a3 a4 a5 a6) := by
  have c1 : Closed 0x1 P := c.mono rfl
  have c10 : Closed 0x10 P := c.mono rfl
  have c20000000000000 : Closed 0x20000000000000 P := c.mono rfl
  have c120000000000041 : Closed 0x120000000000041 P := c.mono rfl
  unfold State.beginBp
  dsimp only
  refine State.arm_keeps c10 ?_
  refine State.putN_keeps c1 ?_
  refine keeps_foldl ?_ _ ?_
  · intro x40 x41 x42
    refine State.drainCore_keeps c120000000000041 ?_
    assumption
  · refine keeps_obs c20000000000000 ?_
    assumption

theorem State.recordFails_keeps {P : State → Prop} (c : Closed 0x81f0100000200073 P) {s : State} {a2 : _} {a3 : _} {a4 : _}
    (h : P s) :
    P (State.recordFails s a2 a3 a4) := by
  have c80000000000001 : Closed 0x80000000000001 P := c.mono rfl
  have c81f0100000200073 : Closed 0x81f0100000200073 P := c.mono rfl
  unfold State.recordFails
  dsimp only
  refine State.raise_keeps c81f0100000200073 ?_
  refine keeps_ite ?_ ?_
  · refine State.configItem_keeps c80000000000001 ?_
    refine State.setCellar_keeps c80000000000001 ?_
    assumption
  · assumption

theorem State.writeEntry_keeps {P : State → Prop} (c : Closed 0x81f0100000200073 P) {a1 : _} {a2 : _} {a3 : _} {a4 : _}
    {a5 : _} {s : State} (h : P s) :
    P (State.writeEntry a1 a2 a3 a4 a5 s) := by
  have c80000000000001 : Closed 0x80000000000001 P := c.mono rfl
  have c81f0100000200073 : Closed 0x81f0100000200073 P := c.mono rfl
  unfold State.writeEntry
  dsimp only
  split
  · refine State.cellarEntry_keeps c80000000000001 ?_
    assumption
  · split
    · refine State.cellarEntry_keeps c80000000000001 ?_
      assumption
    · refine State.writeEntry_keeps c81f0100000200073 ?_
      refine State.setCellar_keeps c80000000000001 ?_
      refine State.recordFails_keeps c81f0100000200073 ?_
      assumption

theorem State.completeWork_keeps {P : State → Prop} (c : Closed 0x11 P) {s : State} {a2 : _} (h : P s) :
    P (State.completeWork s a2) := by
  have c1 : Closed 0x1 P := c.mono rfl
  have c10 : Closed 0x10 P := c.mono rfl
  unfold State.completeWork
  dsimp only
  refine keeps_then ?_ ?_
  · refine State.put_keeps c1 ?_
    assumption
  · intro x40
    refine State.arm_keeps c10 ?_
    assumption

theorem State.coreArrives_keeps {P : State → Prop} (c : Closed 0x2000 P) {s : State} {a2 : _} {a3 : _} {a4 : _} (h : P s) :
    P (State.coreArrives s a2 a3 a4) := by
  have c2000 : Closed 0x2000 P := c.mono rfl
  unfold State.coreArrives
  refine State.upStep_keeps c2000 ?_
  assumption

theorem State.coreEvent_keeps {P : State → Prop} (c : Closed 0x120000000000051 P) {s : State} {a2 : _} {a3 : _} {a4 : _}
    {a5 : _} (h : P s) :
    P (State.coreEvent s a2 a3 a4 a5) := by
  have c1 : Closed 0x1 P := c.mono rfl
  have c10 : Closed 0x10 P := c.mono rfl
  have c20000000000041 : Closed 0x20000000000041 P := c.mono rfl
  have c100000000000000 : Closed 0x100000000000000 P := c.mono rfl
  unfold State.coreEvent
  dsimp only
  refine keeps_ite ?_ ?_
  · refine State.holdTimers_keeps c10 ?_
    refine State.upProbe_keeps c100000000000000 ?_
    refine State.ringEvent_keeps c20000000000041 ?_
    assumption
  · refine keeps_ite ?_ ?_
    · refine keeps_else ?_ ?_
      · refine State.upProbe_keeps c100000000000000 ?_
        refine State.ringEvent_keeps c20000000000041 ?_
        assumption
      · intro x80
        refine State.resumeTimers_keeps c10 ?_
        assumption
    · refine keeps_ite ?_ ?_
      · refine State.upProbe_keeps c100000000000000 ?_
        refine State.ringEvent_keeps c20000000000041 ?_
        assumption
      · split
        · refine State.put_keeps c1 ?_
          refine State.ringEvent_keeps c20000000000041 ?_
          assumption
        · refine State.ringEvent_keeps c20000000000041 ?_
          assumption

theorem State.coreReceived_keeps {P : State → Prop} (c : Closed 0x2000 P) {s : State} {a2 : _} {a3 : _} {a4 : _} (h : P s) :
    P (State.coreReceived s a2 a3 a4) := by
  have c2000 : Closed 0x2000 P := c.mono rfl
  unfold State.coreReceived
  refine State.upStep_keeps c2000 ?_
  assumption

theorem State.sectionsCut_keeps {P : State → Prop} (c : Closed 0x40 P) {s : State} {a2 : _} (h : P s) :
    P (State.sectionsCut s a2).1 := by
  have c40 : Closed 0x40 P := c.mono rfl
  unfold State.sectionsCut
  dsimp only
  refine State.fresh_keeps c40 ?_
  assumption

theorem State.dropDump_keeps {P : State → Prop} (c : Closed 0x40000000000002 P) {s : State} {a2 : _} (h : P s) :
    P (State.dropDump s a2) := by
  have c2 : Closed 0x2 P := c.mono rfl
  have c40000000000000 : Closed 0x40000000000000 P := c.mono rfl
  unfold State.dropDump
  dsimp only
  refine keeps_rcv c40000000000000 ?_
  refine State.setContent_keeps c2 ?_
  assumption

theorem State.dumpEntry_keeps {P : State → Prop} (c : Closed 0x81f0100000200073 P) {s : State} {a2 : _} {a3 : _} {a4 : _}
    {a5 : _} (h : P s) :
    P (State.dumpEntry s a2 a3 a4 a5) := by
  have c80000000000001 : Closed 0x80000000000001 P := c.mono rfl
  have c81f0100000200073 : Closed 0x81f0100000200073 P := c.mono rfl
  unfold State.dumpEntry
  dsimp only
  refine State.writeEntry_keeps c81f0100000200073 ?_
  refine State.setCellar_keeps c80000000000001 ?_
  assumption

theorem State.dumpTaken_keeps {P : State → Prop} (c : Closed 0x40000000000003 P) {s : State} {a2 : _} (h : P s) :
    P (State.dumpTaken s a2) := by
  have c1 : Closed 0x1 P := c.mono rfl
  have c2 : Closed 0x2 P := c.mono rfl
  have c40000000000000 : Closed 0x40000000000000 P := c.mono rfl
  unfold State.dumpTaken
  dsimp only
  refine keeps_else ?_ ?_
  · refine keeps_rcv c40000000000000 ?_
    assumption
  · intro x40
    refine keeps_rcv c40000000000000 ?_
    refine keeps_foldl ?_ _ ?_
    · intro x60 x61 x62
      refine keeps_ite ?_ ?_
      · refine State.putN_keeps c1 ?_
        refine State.setContent_keeps c2 ?_
        assumption
      · assumption
    · assumption

theorem State.writeDump_keeps {P : State → Prop} (c : Closed 0x81f0100000200073 P) {s : State} {a2 : _} {a3 : _} {a4 : _}
    {a5 : _} (h : P s) :
    P (State.writeDump s a2 a3 a4 a5) := by
  have c1 : Closed 0x1 P := c.mono rfl
  have c40000000000002 : Closed 0x40000000000002 P := c.mono rfl
  have c40000000000003 : Closed 0x40000000000003 P := c.mono rfl
  have c80000000000001 : Closed 0x80000000000001 P := c.mono rfl
  have c81f0100000200073 : Closed 0x81f0100000200073 P := c.mono rfl
  unfold State.writeDump
  dsimp only
  refine keeps_ite ?_ ?_
  · refine State.dumpTaken_keeps c40000000000003 ?_
    refine State.dropDump_keeps c40000000000002 ?_
    assumption
  · refine State.dumpTaken_keeps c40000000000003 ?_
    refine State.putN_keeps c1 ?_
    refine State.dumpEntry_keeps c81f0100000200073 ?_
    refine keeps_foldl ?_ _ ?_
    · intro x60 x61 x62
      refine State.dumpEntry_keeps c81f0100000200073 ?_
      assumption
    · refine State.dumpEntry_keeps c81f0100000200073 ?_
      refine State.setCellar_keeps c80000000000001 ?_
      assumption

theorem State.cutFreezeDump_keeps {P : State → Prop} (c : Closed 0x81f0100000200073 P) {s : State} (h : P s) :
    P (State.cutFreezeDump s) := by
  have c40 : Closed 0x40 P := c.mono rfl
  have c10000000000000 : Closed 0x10000000000000 P := c.mono rfl
  have c10000000000002 : Closed 0x10000000000002 P := c.mono rfl
  have c81f0100000200073 : Closed 0x81f0100000200073 P := c.mono rfl
  unfold State.cutFreezeDump
  dsimp only
  split
  · assumption
  · split
    · assumption
    · refine keeps_frz c10000000000000 ?_
      refine State.setFreezeRecord_keeps c10000000000002 ?_
      refine State.writeDump_keeps c81f0100000200073 ?_
      refine State.sectionsCut_keeps c40 ?_
      assumption

theorem State.dropSlices_keeps {P : State → Prop} (c : Closed 0x400000000010 P) {s : State} {a2 : _} (h : P s) :
    P (State.dropSlices s a2) := by
  have c400000000010 : Closed 0x400000000010 P := c.mono rfl
  unfold State.dropSlices
  refine keeps_foldl ?_ _ ?_
  · intro x40 x41 x42
    refine State.dropUnit_keeps c400000000010 ?_
    assumption
  · assumption

theorem State.dumpEnds_keeps {P : State → Prop} (c : Closed 0x24160000000001071 P) {s : State} {a2 : _} (h : P s) :
    P (State.dumpEnds s a2) := by
  have c24160000000001071 : Closed 0x24160000000001071 P := c.mono rfl
  unfold State.dumpEnds
  split
  · refine keeps_ite ?_ ?_
    · refine State.assertReset_keeps c24160000000001071 ?_
      assumption
    · assumption
  · assumption

theorem State.endStoppedTest_keeps {P : State → Prop} (c : Closed 0x120406000000073 P) {s : State} {a2 : _} (h : P s) :
    P (State.endStoppedTest s a2) := by
  have c10 : Closed 0x10 P := c.mono rfl
  have c20 : Closed 0x20 P := c.mono rfl
  have c400000000000 : Closed 0x400000000000 P := c.mono rfl
  have c120406000000073 : Closed 0x120406000000073 P := c.mono rfl
  unfold State.endStoppedTest
  dsimp only
  refine keeps_ite ?_ ?_
  · assumption
  · refine keeps_ite ?_ ?_
    · refine keeps_foldl ?_ _ ?_
      · intro x80 x81 x82
        refine State.arm_keeps c10 ?_
        refine State.send_keeps c20 ?_
        assumption
      · refine keeps_test c400000000000 ?_
        assumption
    · refine State.abortTest_keeps c120406000000073 ?_
      assumption

theorem State.engineBack_keeps {P : State → Prop} (c : Closed 0x1 P) {s : State} {a2 : _} {a3 : _} (h : P s) :
    P (State.engineBack s a2 a3) := by
  have c1 : Closed 0x1 P := c.mono rfl
  unfold State.engineBack
  refine State.bump_keeps c1 ?_
  refine State.putN_keeps c1 ?_
  assumption

theorem State.enginesBack_keeps {P : State → Prop} (c : Closed 0x81f0108103fe70f7 P) {s : State} {a2 : _} (h : P s) :
    P (State.enginesBack s a2) := by
  have cc0000000c02033 : Closed 0xc0000000c02033 P := c.mono rfl
  have c100000000000000 : Closed 0x100000000000000 P := c.mono rfl
  have c8080100000000011 : Closed 0x8080100000000011 P := c.mono rfl
  have c81f0108103fe70f7 : Closed 0x81f0108103fe70f7 P := c.mono rfl
  unfold State.enginesBack
  dsimp only
  split
  · refine keeps_ite ?_ ?_
    · refine State.contextComplete_keeps c81f0108103fe70f7 ?_
      refine keeps_foldl ?_ _ ?_
      · intro x80 x81 x82
        refine State.upProbe_keeps c100000000000000 ?_
        assumption
      · refine State.arrives_keeps c8080100000000011 ?_
        assumption
    · refine State.completeReset_keeps cc0000000c02033 ?_
      refine State.arrives_keeps c8080100000000011 ?_
      assumption
  · refine State.completeReset_keeps cc0000000c02033 ?_
    refine State.arrives_keeps c8080100000000011 ?_
    assumption

theorem State.foldWatches_keeps {P : State → Prop} (c : Closed 0x20000000002041 P) {s : State} {a2 : _} {a3 : _} {a4 : _}
    {a5 : _} {a6 : _} {a7 : _} (h : P s) :
    P (State.foldWatches s a2 a3 a4 a5 a6 a7) := by
  have c2000 : Closed 0x2000 P := c.mono rfl
  have c20000000000000 : Closed 0x20000000000000 P := c.mono rfl
  have c20000000000041 : Closed 0x20000000000041 P := c.mono rfl
  unfold State.foldWatches
  dsimp only
  refine keeps_foldl ?_ _ ?_
  · intro x40 x41 x42
    refine keeps_ite ?_ ?_
    · refine keeps_then ?_ ?_
      · refine keeps_obs c20000000000000 ?_
        refine keeps_ite ?_ ?_
        · assumption
        · refine keeps_obs c20000000000000 ?_
          refine State.upStep_keeps c2000 ?_
          assumption
      · intro x80
        refine State.ringEvent_keeps c20000000000041 ?_
        assumption
    · assumption
  · assumption

theorem State.setCounters_keeps {P : State → Prop} (c : Closed 0x20000000000000 P) {s : State} {a2 : _} {a3 : _} (h : P s) :
    P (State.setCounters s a2 a3) := by
  have c20000000000000 : Closed 0x20000000000000 P := c.mono rfl
  unfold State.setCounters
  dsimp only
  refine keeps_obs c20000000000000 ?_
  assumption

theorem requestAbort_keeps {P : State → Prop} (c : Closed 0x120406000000073 P) {a1 : _} {s : State} (h : P s) :
    P (requestAbort a1 s).1 := by
  have c120406000000073 : Closed 0x120406000000073 P := c.mono rfl
  unfold requestAbort
  dsimp only
  split
  · split
    · dsimp only
      assumption
    · dsimp only
      refine State.abortTest_keeps c120406000000073 ?_
      assumption
  · dsimp only
    assumption

theorem refuseTest_keeps {P : State → Prop} (c : Closed 0x1 P) {s : State} {a2 : _} {a3 : _} (h : P s) :
    P (refuseTest s a2 a3).1 := by
  have c1 : Closed 0x1 P := c.mono rfl
  unfold refuseTest
  dsimp only
  refine State.putN_keeps c1 ?_
  assumption

theorem requestStack_keeps {P : State → Prop} (c : Closed 0x404000000031 P) {a1 : _} {s : State} (h : P s) :
    P (requestStack a1 s).1 := by
  have c1 : Closed 0x1 P := c.mono rfl
  have c4000000001 : Closed 0x4000000001 P := c.mono rfl
  have c400000000000 : Closed 0x400000000000 P := c.mono rfl
  have c400000000030 : Closed 0x400000000030 P := c.mono rfl
  unfold requestStack
  dsimp only
  split
  · split
    · refine refuseTest_keeps c1 ?_
      assumption
    · split
      · refine refuseTest_keeps c1 ?_
        assumption
      · split
        · refine refuseTest_keeps c1 ?_
          assumption
        · split
          · dsimp only
            assumption
          · dsimp only
            refine State.showTests_keeps c1 ?_
            refine keeps_foldl ?_ _ ?_
            · intro x140 x141 x142
              refine State.startUnit_keeps c400000000030 ?_
              refine State.putN_keeps c1 ?_
              refine State.abortScans_keeps c4000000001 ?_
              assumption
            · refine State.startUnit_keeps c400000000030 ?_
              refine State.putN_keeps c1 ?_
              refine keeps_test c400000000000 ?_
              assumption
  · dsimp only
    assumption

theorem requestTest_keeps {P : State → Prop} (c : Closed 0x81f0504103706073 P) {a1 : _} {s : State} (h : P s) :
    P (requestTest a1 s).1 := by
  have c1 : Closed 0x1 P := c.mono rfl
  have c81f0504103706073 : Closed 0x81f0504103706073 P := c.mono rfl
  unfold requestTest
  dsimp only
  split
  · split
    · dsimp only
      assumption
    · split
      · refine refuseTest_keeps c1 ?_
        assumption
      · split
        · refine refuseTest_keeps c1 ?_
          assumption
        · split
          · refine refuseTest_keeps c1 ?_
            assumption
          · split
            · refine refuseTest_keeps c1 ?_
              assumption
            · split
              · refine refuseTest_keeps c1 ?_
                assumption
              · split
                · refine refuseTest_keeps c1 ?_
                  assumption
                · dsimp only
                  refine State.showTests_keeps c1 ?_
                  refine State.startCore_keeps c81f0504103706073 ?_
                  refine State.putN_keeps c1 ?_
                  assumption
  · dsimp only
    assumption

theorem startKeyClear_keeps {P : State → Prop} (c : Closed 0x800000000000 P) {s : State} (h : P s) :
    P (startKeyClear s).1 := by
  have c800000000000 : Closed 0x800000000000 P := c.mono rfl
  unfold startKeyClear
  split
  · dsimp only
    assumption
  · split
    · dsimp only
      assumption
    · dsimp only
      refine keeps_keyClearing c800000000000 ?_
      assumption

theorem State.pinHolds_keeps {P : State → Prop} (c : Closed 0x40 P) {s : State} (h : P s) :
    P (State.pinHolds s).1 := by
  have c40 : Closed 0x40 P := c.mono rfl
  unfold State.pinHolds
  dsimp only
  split
  · dsimp only
    refine State.fresh_keeps c40 ?_
    assumption
  · dsimp only
    assumption

theorem State.resumeChipReset_keeps {P : State → Prop} (c : Closed 0x24160000000001071 P) {s : State} (h : P s) :
    P (State.resumeChipReset s) := by
  have c24160000000001071 : Closed 0x24160000000001071 P := c.mono rfl
  unfold State.resumeChipReset
  split
  · refine keeps_ite ?_ ?_
    · refine State.assertReset_keeps c24160000000001071 ?_
      assumption
    · assumption
  · assumption

theorem State.releaseFreeze_keeps {P : State → Prop} (c : Closed 0x2c1f07f7d0bfa7077 P) {s : State} (h : P s) :
    P (State.releaseFreeze s) := by
  have c1 : Closed 0x1 P := c.mono rfl
  have c2 : Closed 0x2 P := c.mono rfl
  have c10 : Closed 0x10 P := c.mono rfl
  have c20 : Closed 0x20 P := c.mono rfl
  have c2000 : Closed 0x2000 P := c.mono rfl
  have c10000000000002 : Closed 0x10000000000002 P := c.mono rfl
  have c10200000000000 : Closed 0x10200000000000 P := c.mono rfl
  have c120000000000041 : Closed 0x120000000000041 P := c.mono rfl
  have c120406000000073 : Closed 0x120406000000073 P := c.mono rfl
  have c81f0100000200073 : Closed 0x81f0100000200073 P := c.mono rfl
  have c81f0104503707073 : Closed 0x81f0104503707073 P := c.mono rfl
  have c81f07f7d0bfa7077 : Closed 0x81f07f7d0bfa7077 P := c.mono rfl
  have c24160000000001071 : Closed 0x24160000000001071 P := c.mono rfl
  unfold State.releaseFreeze
  dsimp only
  refine keeps_then ?_ ?_
  · refine State.resumeChipReset_keeps c24160000000001071 ?_
    refine keeps_foldl ?_ _ ?_
    · intro x60 x61 x62
      refine keeps_ite ?_ ?_
      · assumption
      · refine State.resumeSparing_keeps c81f0104503707073 ?_
        assumption
    · refine keeps_foldl ?_ _ ?_
      · intro x80 x81 x82
        refine State.endStoppedTest_keeps c120406000000073 ?_
        assumption
      · refine keeps_ite ?_ ?_
        · refine State.putN_keeps c1 ?_
          refine State.toSteward_keeps c20 ?_
          refine keeps_then ?_ ?_
          · refine State.send_keeps c20 ?_
            refine State.disarm_keeps c10 ?_
            refine State.resumeTimers_keeps c10 ?_
            refine keeps_foldl ?_ _ ?_
            · intro x140 x141 x142
              refine State.disturb_keeps c2000 ?_
              refine State.setHold_keeps c1 ?_
              assumption
            · refine keeps_foldl ?_ _ ?_
              · intro x160 x161 x162
                refine keeps_then ?_ ?_
                · refine State.putN_keeps c1 ?_
                  refine State.applyAsked_keeps c120000000000041 ?_
                  assumption
                · intro x180
                  refine State.setContent_keeps c2 ?_
                  assumption
              · refine keeps_bring_frz c10200000000000 ?_
                refine State.setFreezeRecord_keeps c10000000000002 ?_
                refine State.cutFreezeDump_keeps c81f0100000200073 ?_
                assumption
          · intro x120
            refine State.send_keeps c20 ?_
            assumption
        · refine State.arm_keeps c10 ?_
          refine State.putN_keeps c1 ?_
          refine State.toSteward_keeps c20 ?_
          refine keeps_then ?_ ?_
          · refine State.send_keeps c20 ?_
            refine State.disarm_keeps c10 ?_
            refine State.resumeTimers_keeps c10 ?_
            refine keeps_foldl ?_ _ ?_
            · intro x140 x141 x142
              refine State.disturb_keeps c2000 ?_
              refine State.setHold_keeps c1 ?_
              assumption
            · refine keeps_foldl ?_ _ ?_
              · intro x160 x161 x162
                refine keeps_then ?_ ?_
                · refine State.putN_keeps c1 ?_
                  refine State.applyAsked_keeps c120000000000041 ?_
                  assumption
                · intro x180
                  refine State.setContent_keeps c2 ?_
                  assumption
              · refine keeps_bring_frz c10200000000000 ?_
                refine State.setFreezeRecord_keeps c10000000000002 ?_
                refine State.cutFreezeDump_keeps c81f0100000200073 ?_
                assumption
          · intro x120
            refine State.send_keeps c20 ?_
            assumption
  · intro x40
    refine State.stageNext_keeps c81f07f7d0bfa7077 ?_
    assumption

theorem orderRelease_keeps {P : State → Prop} (c : Closed 0x2c1f07f7d0bfa7077 P) {s : State} (h : P s) :
    P (orderRelease s).1 := by
  have c40 : Closed 0x40 P := c.mono rfl
  have c2c1f07f7d0bfa7077 : Closed 0x2c1f07f7d0bfa7077 P := c.mono rfl
  unfold orderRelease
  dsimp only
  split
  · dsimp only
    assumption
  · split
    · dsimp only
      refine State.pinHolds_keeps c40 ?_
      assumption
    · dsimp only
      refine State.releaseFreeze_keeps c2c1f07f7d0bfa7077 ?_
      refine State.pinHolds_keeps c40 ?_
      assumption

theorem orderContext_keeps {P : State → Prop} (c : Closed 0x81e01000003a6073 P) {a1 : _} {a2 : _} {a3 : _} {a4 : _} {a5 : _}
    {a6 : _} {s : State} (h : P s) :
    P (orderContext a1 a2 a3 a4 a5 a6 s).1 := by
  have c1 : Closed 0x1 P := c.mono rfl
  have c81e01000003a6073 : Closed 0x81e01000003a6073 P := c.mono rfl
  unfold orderContext
  dsimp only
  split
  · dsimp only
    assumption
  · split
    · dsimp only
      assumption
    · dsimp only
      refine State.beginContext_keeps c81e01000003a6073 ?_
      refine keeps_ite ?_ ?_
      · refine State.putN_keeps c1 ?_
        assumption
      · assumption

theorem orderLevel1_keeps {P : State → Prop} (c : Closed 0x81e01000003a6073 P) {a1 : _} {a2 : _} {a3 : _} {s : State}
    (h : P s) :
    P (orderLevel1 a1 a2 a3 s).1 := by
  have c81e01000003a6073 : Closed 0x81e01000003a6073 P := c.mono rfl
  unfold orderLevel1
  split
  · dsimp only
    assumption
  · split
    · dsimp only
      assumption
    · refine orderContext_keeps c81e01000003a6073 ?_
      assumption

theorem orderLevel2_keeps {P : State → Prop} (c : Closed 0x81f01000037e6073 P) {a1 : _} {a2 : _} {a3 : _} {a4 : _}
    {s : State} (h : P s) :
    P (orderLevel2 a1 a2 a3 a4 s).1 := by
  have c81e01000003a6073 : Closed 0x81e01000003a6073 P := c.mono rfl
  have c81f01000037c6073 : Closed 0x81f01000037c6073 P := c.mono rfl
  unfold orderLevel2
  dsimp only
  split
  · dsimp only
    assumption
  · split
    · dsimp only
      assumption
    · split
      · refine orderContext_keeps c81e01000003a6073 ?_
        assumption
      · dsimp only
        refine State.beginEngine_keeps c81f01000037c6073 ?_
        assumption

theorem orderLevel3_keeps {P : State → Prop} (c : Closed 0x81f050e1037a70f7 P) {a1 : _} {a2 : _} {s : State} (h : P s) :
    P (orderLevel3 a1 a2 s).1 := by
  have c81f050e1037a70f7 : Closed 0x81f050e1037a70f7 P := c.mono rfl
  unfold orderLevel3
  split
  · dsimp only
    assumption
  · split
    · dsimp only
      assumption
    · dsimp only
      refine State.beginPartition_keeps c81f050e1037a70f7 ?_
      assumption

theorem orderLevel45_keeps {P : State → Prop} (c : Closed 0x81f050e1037a70f7 P) {a1 : _} {a2 : _} {s : State} (h : P s) :
    P (orderLevel45 a1 a2 s).1 := by
  have c10 : Closed 0x10 P := c.mono rfl
  have c40000000000013 : Closed 0x40000000000013 P := c.mono rfl
  have c81f050e1037a70f7 : Closed 0x81f050e1037a70f7 P := c.mono rfl
  unfold orderLevel45
  dsimp only
  split
  · dsimp only
    assumption
  · dsimp only
    refine State.beginChip_keeps c81f050e1037a70f7 ?_
    split
    · refine State.disarm_keeps c10 ?_
      refine State.supersedeReset_keeps c40000000000013 ?_
      assumption
    · assumption

theorem orderReset_keeps {P : State → Prop} (c : Closed 0x81f050e1037e70f7 P) {a1 : _} {a2 : _} {s : State} (h : P s) :
    P (orderReset a1 a2 s).1 := by
  have c81e01000003a6073 : Closed 0x81e01000003a6073 P := c.mono rfl
  have c81f01000037e6073 : Closed 0x81f01000037e6073 P := c.mono rfl
  have c81f050e1037a70f7 : Closed 0x81f050e1037a70f7 P := c.mono rfl
  unfold orderReset
  dsimp only
  split
  · dsimp only
    assumption
  · split
    · split
      · refine orderLevel1_keeps c81e01000003a6073 ?_
        assumption
      · dsimp only
        assumption
    · split
      · split
        · refine orderLevel2_keeps c81f01000037e6073 ?_
          assumption
        · dsimp only
          assumption
      · split
        · split
          · refine orderLevel3_keeps c81f050e1037a70f7 ?_
            assumption
          · dsimp only
            assumption
        · refine orderLevel45_keeps c81f050e1037a70f7 ?_
          assumption

theorem State.matchBp_keeps {P : State → Prop} (c : Closed 0x120000000000051 P) {s : State} {a2 : _} {a3 : _} {a4 : _}
    {a5 : _} (h : P s) :
    P (State.matchBp s a2 a3 a4 a5) := by
  have c20000000000000 : Closed 0x20000000000000 P := c.mono rfl
  have c120000000000051 : Closed 0x120000000000051 P := c.mono rfl
  unfold State.matchBp
  dsimp only
  refine keeps_ite ?_ ?_
  · assumption
  · split
    · assumption
    · refine keeps_ite ?_ ?_
      · refine keeps_obs c20000000000000 ?_
        assumption
      · refine State.beginBp_keeps c120000000000051 ?_
        assumption

theorem State.nextBp_keeps {P : State → Prop} (c : Closed 0x120000000000051 P) {s : State} (h : P s) :
    P (State.nextBp s) := by
  have c20000000000000 : Closed 0x20000000000000 P := c.mono rfl
  have c120000000000051 : Closed 0x120000000000051 P := c.mono rfl
  unfold State.nextBp
  dsimp only
  split
  · assumption
  · refine State.matchBp_keeps c120000000000051 ?_
    refine keeps_obs c20000000000000 ?_
    assumption

theorem State.resumeBp_keeps {P : State → Prop} (c : Closed 0x120000000000051 P) {s : State} {a2 : _} (h : P s) :
    P (State.resumeBp s a2) := by
  have c1 : Closed 0x1 P := c.mono rfl
  have c10 : Closed 0x10 P := c.mono rfl
  have c20000000000000 : Closed 0x20000000000000 P := c.mono rfl
  have c120000000000041 : Closed 0x120000000000041 P := c.mono rfl
  have c120000000000051 : Closed 0x120000000000051 P := c.mono rfl
  unfold State.resumeBp
  dsimp only
  refine State.nextBp_keeps c120000000000051 ?_
  refine State.putN_keeps c1 ?_
  refine keeps_foldl ?_ _ ?_
  · intro x40 x41 x42
    refine State.undrainCore_keeps c120000000000041 ?_
    assumption
  · refine keeps_foldl ?_ _ ?_
    · intro x60 x61 x62
      refine State.setHold_keeps c1 ?_
      assumption
    · refine State.arm_keeps c10 ?_
      refine State.putN_keeps c1 ?_
      refine keeps_obs c20000000000000 ?_
      assumption

theorem orderResume_keeps {P : State → Prop} (c : Closed 0x81a0100000000051 P) {s : State} (h : P s) :
    P (orderResume s).1 := by
  have c120000000000051 : Closed 0x120000000000051 P := c.mono rfl
  have c8080100000000011 : Closed 0x8080100000000011 P := c.mono rfl
  unfold orderResume
  split
  · split
    · dsimp only
      refine State.resumeBp_keeps c120000000000051 ?_
      refine State.arrives_keeps c8080100000000011 ?_
      assumption
    · dsimp only
      assumption
  · dsimp only
    assumption

theorem State.haltPc_keeps {P : State → Prop} (c : Closed 0x120000101606073 P) {s : State} {a2 : _} (h : P s) :
    P (State.haltPc s a2) := by
  have c1 : Closed 0x1 P := c.mono rfl
  have c2 : Closed 0x2 P := c.mono rfl
  have c10 : Closed 0x10 P := c.mono rfl
  have c2000 : Closed 0x2000 P := c.mono rfl
  have c20000000000000 : Closed 0x20000000000000 P := c.mono rfl
  have c100000101606071 : Closed 0x100000101606071 P := c.mono rfl
  unfold State.haltPc
  dsimp only
  refine keeps_then ?_ ?_
  · refine State.arm_keeps c10 ?_
    refine State.bump_keeps c1 ?_
    refine State.putN_keeps c1 ?_
    refine State.setContent_keeps c2 ?_
    refine keeps_foldl ?_ _ ?_
    · intro x60 x61 x62
      refine State.disturb_keeps c2000 ?_
      refine State.setHold_keeps c1 ?_
      assumption
    · refine State.disarm_keeps c10 ?_
      refine State.putN_keeps c1 ?_
      refine keeps_obs c20000000000000 ?_
      assumption
  · intro x40
    refine keeps_foldl ?_ _ ?_
    · intro x60 x61 x62
      refine State.endProbe_keeps c100000101606071 ?_
      assumption
    · assumption

theorem State.issueCommand_keeps {P : State → Prop} (c : Closed 0x2040 P) {s : State} {a2 : _} {a3 : _} {a4 : _} {a5 : _}
    {a6 : _} {a7 : _} (h : P s) :
    P (State.issueCommand s a2 a3 a4 a5 a6 a7) := by
  have c40 : Closed 0x40 P := c.mono rfl
  have c2000 : Closed 0x2000 P := c.mono rfl
  unfold State.issueCommand
  dsimp only
  refine State.upStep_keeps c2000 ?_
  refine State.fresh_keeps c40 ?_
  assumption

theorem State.issueWork_keeps {P : State → Prop} (c : Closed 0x2000 P) {s : State} {a2 : _} (h : P s) :
    P (State.issueWork s a2) := by
  have c2000 : Closed 0x2000 P := c.mono rfl
  unfold State.issueWork
  split
  · refine keeps_ite ?_ ?_
    · refine State.upStep_keeps c2000 ?_
      assumption
    · assumption
  · assumption

theorem State.judge_keeps {P : State → Prop} (c : Closed 0x80002000000001 P) {s : State} {a2 : _} {a3 : _} (h : P s) :
    P (State.judge s a2 a3).1 := by
  have c2000000001 : Closed 0x2000000001 P := c.mono rfl
  have c80002000000001 : Closed 0x80002000000001 P := c.mono rfl
  unfold State.judge
  dsimp only
  split
  · dsimp only
    assumption
  · dsimp only
    refine keeps_else ?_ ?_
    · refine State.judgeSlice_keeps c80002000000001 ?_
      assumption
    · intro x60
      refine State.filled_keeps c2000000001 ?_
      refine State.applyRepairs_keeps c2000000001 ?_
      assumption
  · dsimp only
    assumption
  · dsimp only
    assumption

theorem State.noteLate_keeps {P : State → Prop} (c : Closed 0x40000000000000 P) {s : State} {a2 : _} {a3 : _} (h : P s) :
    P (State.noteLate s a2 a3) := by
  have c40000000000000 : Closed 0x40000000000000 P := c.mono rfl
  unfold State.noteLate
  dsimp only
  refine keeps_rcv c40000000000000 ?_
  assumption

theorem State.recordWork_keeps {P : State → Prop} (c : Closed 0x200000 P) {s : State} {a2 : _} {a3 : _} {a4 : _} {a5 : _}
    (h : P s) :
    P (State.recordWork s a2 a3 a4 a5) := by
  have c200000 : Closed 0x200000 P := c.mono rfl
  unfold State.recordWork
  split
  · split
    · refine keeps_ite ?_ ?_
      · refine State.upJob_keeps c200000 ?_
        assumption
      · assumption
    · assumption
  · assumption

theorem State.writeWord_keeps {P : State → Prop} (c : Closed 0x2000000021 P) {s : State} {a2 : _} {a3 : _} {a4 : _} {a5 : _}
    (h : P s) :
    P (State.writeWord s a2 a3 a4 a5) := by
  have c1 : Closed 0x1 P := c.mono rfl
  have c2000000000 : Closed 0x2000000000 P := c.mono rfl
  have c2000000021 : Closed 0x2000000021 P := c.mono rfl
  unfold State.writeWord
  dsimp only
  refine keeps_ite ?_ ?_
  · assumption
  · refine keeps_ite ?_ ?_
    · refine State.poisonWords_keeps c2000000021 ?_
      refine keeps_ite ?_ ?_
      · refine State.bump_keeps c1 ?_
        assumption
      · assumption
    · refine keeps_else ?_ ?_
      · refine keeps_ite ?_ ?_
        · refine State.bump_keeps c1 ?_
          assumption
        · assumption
      · intro x80
        refine State.clearPoison_keeps c2000000000 ?_
        assumption

theorem State.writeUnit_keeps {P : State → Prop} (c : Closed 0x2000000021 P) {s : State} {a2 : _} {a3 : _} (h : P s) :
    P (State.writeUnit s a2 a3) := by
  have c2000000021 : Closed 0x2000000021 P := c.mono rfl
  unfold State.writeUnit
  dsimp only
  split
  · assumption
  · refine keeps_ite ?_ ?_
    · assumption
    · refine State.writeWord_keeps c2000000021 ?_
      refine State.writeWord_keeps c2000000021 ?_
      assumption

theorem State.outputUnit_keeps {P : State → Prop} (c : Closed 0x20002000202061 P) {s : State} {a2 : _} {a3 : _} {a4 : _}
    {a5 : _} (h : P s) :
    P (State.outputUnit s a2 a3 a4 a5) := by
  have c2000 : Closed 0x2000 P := c.mono rfl
  have c200000 : Closed 0x200000 P := c.mono rfl
  have c2000000021 : Closed 0x2000000021 P := c.mono rfl
  have c20000000002041 : Closed 0x20000000002041 P := c.mono rfl
  unfold State.outputUnit
  dsimp only
  split
  · assumption
  · split
    · assumption
    · refine State.upStep_keeps c2000 ?_
      refine State.writeUnit_keeps c2000000021 ?_
      refine State.recordWork_keeps c200000 ?_
      refine State.foldWatches_keeps c20000000002041 ?_
      assumption

theorem State.probeTakes_keeps {P : State → Prop} (c : Closed 0x120002000202071 P) {s : State} {a2 : _} {a3 : _} {a4 : _}
    (h : P s) :
    P (State.probeTakes s a2 a3 a4) := by
  have c11 : Closed 0x11 P := c.mono rfl
  have c2000 : Closed 0x2000 P := c.mono rfl
  have c2040 : Closed 0x2040 P := c.mono rfl
  have c20000000000000 : Closed 0x20000000000000 P := c.mono rfl
  have c20002000202061 : Closed 0x20002000202061 P := c.mono rfl
  have c100000000000000 : Closed 0x100000000000000 P := c.mono rfl
  have c120000000000051 : Closed 0x120000000000051 P := c.mono rfl
  unfold State.probeTakes
  dsimp only
  split
  · refine State.coreEvent_keeps c120000000000051 ?_
    assumption
  · refine State.issueCommand_keeps c2040 ?_
    assumption
  · refine State.issueWork_keeps c2000 ?_
    assumption
  · refine State.completeWork_keeps c11 ?_
    assumption
  · refine State.outputUnit_keeps c20002000202061 ?_
    assumption
  · refine State.coreReceived_keeps c2000 ?_
    assumption
  · refine State.coreArrives_keeps c2000 ?_
    assumption
  · refine keeps_ite ?_ ?_
    · refine State.setCounters_keeps c20000000000000 ?_
      assumption
    · assumption
  · refine State.upProbe_keeps c100000000000000 ?_
    assumption

theorem State.resetOrder_keeps {P : State → Prop} (c : Closed 0x87f050fd037e71f7 P) {s : State} {a2 : _} {a3 : _} (h : P s) :
    P (State.resetOrder s a2 a3) := by
  have c20 : Closed 0x20 P := c.mono rfl
  have c100000000005 : Closed 0x100000000005 P := c.mono rfl
  have c81f050e1037e70f7 : Closed 0x81f050e1037e70f7 P := c.mono rfl
  have c87f010dd037a71f7 : Closed 0x87f010dd037a71f7 P := c.mono rfl
  unfold State.resetOrder
  refine State.settleAll_keeps c87f010dd037a71f7 ?_
  refine State.granted_keeps c100000000005 ?_ ?_
  · refine State.begin_keeps c20 ?_
    assumption
  · intro x40 x41
    refine orderReset_keeps c81f050e1037e70f7 ?_
    assumption

theorem State.spreadFreeze_keeps {P : State → Prop} (c : Closed 0x1f0100000000073 P) {s : State} {a2 : _} {a3 : _} (h : P s) :
    P (State.spreadFreeze s a2 a3) := by
  have c20 : Closed 0x20 P := c.mono rfl
  have c10000000000011 : Closed 0x10000000000011 P := c.mono rfl
  have c1f0100000000073 : Closed 0x1f0100000000073 P := c.mono rfl
  unfold State.spreadFreeze
  dsimp only
  refine keeps_ite ?_ ?_
  · refine State.armFreeze_keeps c10000000000011 ?_
    refine State.toWorkers_keeps c20 ?_
    assumption
  · refine State.freezeTrigger_keeps c1f0100000000073 ?_
    refine State.toWorkers_keeps c20 ?_
    assumption

theorem State.stamped_keeps {P : State → Prop} (c : Closed 0x48 P) {s : State} {f2 : State → State} (h : P s)
    (hf2 : ∀ (x0 : State), P x0 → P (f2 x0)) :
    P (State.stamped s f2) := by
  have c8 : Closed 0x8 P := c.mono rfl
  have c40 : Closed 0x40 P := c.mono rfl
  unfold State.stamped
  dsimp only
  refine keeps_now c8 ?_
  refine hf2 _ ?_
  refine keeps_now c8 ?_
  refine State.fresh_keeps c40 ?_
  assumption

theorem State.testNext_keeps {P : State → Prop} (c : Closed 0x81f07f7d0bfa7077 P) {s : State} (h : P s) :
    P (State.testNext s) := by
  have c81f07f7d0bfa7077 : Closed 0x81f07f7d0bfa7077 P := c.mono rfl
  unfold State.testNext
  refine keeps_ite ?_ ?_
  · refine State.stageNext_keeps c81f07f7d0bfa7077 ?_
    assumption
  · assumption

theorem execBpHaltTimeout_keeps {P : State → Prop} (c : Closed 0x87f010dd037a71f7 P) {s : State} (h : P s) :
    NextHas P (execBpHaltTimeout s) := by
  have c1 : Closed 0x1 P := c.mono rfl
  have c2 : Closed 0x2 P := c.mono rfl
  have c20 : Closed 0x20 P := c.mono rfl
  have c100000000010 : Closed 0x100000000010 P := c.mono rfl
  have c120000000000051 : Closed 0x120000000000051 P := c.mono rfl
  have c87f010dd037a71f7 : Closed 0x87f010dd037a71f7 P := c.mono rfl
  unfold execBpHaltTimeout
  dsimp only
  refine has_ite ?_ ?_
  · refine nextHas ?_
    refine State.begin_keeps c20 ?_
    assumption
  · split
    · refine nextHas ?_
      refine State.settleAll_keeps c87f010dd037a71f7 ?_
      refine State.resumeBp_keeps c120000000000051 ?_
      refine State.putN_keeps c1 ?_
      refine State.setContent_keeps c2 ?_
      refine State.expire_keeps c100000000010 ?_
      refine State.begin_keeps c20 ?_
      assumption
    · refine nextHas ?_
      refine State.expire_keeps c100000000010 ?_
      refine State.begin_keeps c20 ?_
      assumption

theorem execBpResume_keeps {P : State → Prop} (c : Closed 0x87f010dd037a71f7 P) {a1 : _} {s : State} (h : P s) :
    NextHas P (execBpResume a1 s) := by
  have c20 : Closed 0x20 P := c.mono rfl
  have c100000000005 : Closed 0x100000000005 P := c.mono rfl
  have c81a0100000000051 : Closed 0x81a0100000000051 P := c.mono rfl
  have c87f010dd037a71f7 : Closed 0x87f010dd037a71f7 P := c.mono rfl
  unfold execBpResume
  refine nextHas ?_
  refine State.settleAll_keeps c87f010dd037a71f7 ?_
  refine State.granted_keeps c100000000005 ?_ ?_
  · refine State.begin_keeps c20 ?_
    assumption
  · intro x40 x41
    refine orderResume_keeps c81a0100000000051 ?_
    assumption

theorem execBreakpointDrainTimeout_keeps {P : State → Prop} (c : Closed 0x87f010dd037a71f7 P) {s : State} (h : P s) :
    NextHas P (execBreakpointDrainTimeout s) := by
  have c20 : Closed 0x20 P := c.mono rfl
  have c100000000010 : Closed 0x100000000010 P := c.mono rfl
  have c120000101606073 : Closed 0x120000101606073 P := c.mono rfl
  have c87f010dd037a71f7 : Closed 0x87f010dd037a71f7 P := c.mono rfl
  unfold execBreakpointDrainTimeout
  dsimp only
  refine has_ite ?_ ?_
  · refine nextHas ?_
    refine State.begin_keeps c20 ?_
    assumption
  · split
    · refine nextHas ?_
      refine State.settleAll_keeps c87f010dd037a71f7 ?_
      refine keeps_else ?_ ?_
      · refine State.expire_keeps c100000000010 ?_
        refine State.begin_keeps c20 ?_
        assumption
      · intro x80
        refine State.haltPc_keeps c120000101606073 ?_
        assumption
    · refine nextHas ?_
      refine State.expire_keeps c100000000010 ?_
      refine State.begin_keeps c20 ?_
      assumption

theorem execBreakpointDrained_keeps {P : State → Prop} (c : Closed 0x87f010dd037a71f7 P) {s : State} (h : P s) :
    NextHas P (execBreakpointDrained s) := by
  have c1 : Closed 0x1 P := c.mono rfl
  have c20 : Closed 0x20 P := c.mono rfl
  have c100000000000000 : Closed 0x100000000000000 P := c.mono rfl
  have c120000101606073 : Closed 0x120000101606073 P := c.mono rfl
  have c8080100000000011 : Closed 0x8080100000000011 P := c.mono rfl
  have c87f010dd037a71f7 : Closed 0x87f010dd037a71f7 P := c.mono rfl
  unfold execBreakpointDrained
  dsimp only
  split
  · refine nextHas ?_
    refine State.late_keeps c1 ?_
    refine State.begin_keeps c20 ?_
    assumption
  · refine has_ite ?_ ?_
    · refine nextHas ?_
      refine State.late_keeps c1 ?_
      refine State.begin_keeps c20 ?_
      assumption
    · refine nextHas ?_
      refine State.settleAll_keeps c87f010dd037a71f7 ?_
      refine State.haltPc_keeps c120000101606073 ?_
      refine keeps_foldl ?_ _ ?_
      · intro x80 x81 x82
        refine State.upProbe_keeps c100000000000000 ?_
        assumption
      · refine State.arrives_keeps c8080100000000011 ?_
        refine State.begin_keeps c20 ?_
        assumption

theorem execBreakpointMatch_keeps {P : State → Prop} (c : Closed 0x87f010dd037a71f7 P) {a1 : _} {a2 : _} {a3 : _} {a4 : _}
    {s : State} (h : P s) :
    NextHas P (execBreakpointMatch a1 a2 a3 a4 s) := by
  have c20 : Closed 0x20 P := c.mono rfl
  have c120000000000051 : Closed 0x120000000000051 P := c.mono rfl
  have c87f010dd037a71f7 : Closed 0x87f010dd037a71f7 P := c.mono rfl
  unfold execBreakpointMatch
  refine nextHas ?_
  refine State.settleAll_keeps c87f010dd037a71f7 ?_
  refine State.matchBp_keeps c120000000000051 ?_
  refine State.begin_keeps c20 ?_
  assumption

theorem execBrownOut_keeps {P : State → Prop} (c : Closed 0x22000000000000020 P) {s : State} (h : P s) :
    NextHas P (execBrownOut s) := by
  have c20 : Closed 0x20 P := c.mono rfl
  have c2000000000000000 : Closed 0x2000000000000000 P := c.mono rfl
  unfold execBrownOut
  dsimp only
  refine has_ite ?_ ?_
  · refine nextHas ?_
    refine State.begin_keeps c20 ?_
    assumption
  · refine nextHas ?_
    refine keeps_brownOut c2000000000000000 ?_
    refine c .reinit_ rfl _ _ _ ?_
    refine State.begin_keeps c20 ?_
    assumption

theorem execBrownOutEnd_keeps {P : State → Prop} (c : Closed 0xa7f8fffd0bfa71ff P) {s : State} (h : P s) :
    NextHas P (execBrownOutEnd s) := by
  have c20 : Closed 0x20 P := c.mono rfl
  have c2000000000000000 : Closed 0x2000000000000000 P := c.mono rfl
  have c81f8ff7d0bfa707f : Closed 0x81f8ff7d0bfa707f P := c.mono rfl
  have c87f010dd037a71f7 : Closed 0x87f010dd037a71f7 P := c.mono rfl
  unfold execBrownOutEnd
  dsimp only
  refine has_ite ?_ ?_
  · refine nextHas ?_
    refine State.begin_keeps c20 ?_
    assumption
  · refine nextHas ?_
    refine keeps_then ?_ ?_
    · refine keeps_brownOut c2000000000000000 ?_
      refine State.begin_keeps c20 ?_
      assumption
    · intro x60
      refine State.settleAll_keeps c87f010dd037a71f7 ?_
      refine State.coldStart_keeps c81f8ff7d0bfa707f ?_
      assumption

theorem execCaptureTimeout_keeps {P : State → Prop} (c : Closed 0x40100000000033 P) {a1 : _} {s : State} (h : P s) :
    NextHas P (execCaptureTimeout a1 s) := by
  have c1 : Closed 0x1 P := c.mono rfl
  have c2 : Closed 0x2 P := c.mono rfl
  have c20 : Closed 0x20 P := c.mono rfl
  have c100000000010 : Closed 0x100000000010 P := c.mono rfl
  have c40000000000000 : Closed 0x40000000000000 P := c.mono rfl
  unfold execCaptureTimeout
  dsimp only
  refine has_ite ?_ ?_
  · refine nextHas ?_
    refine State.begin_keeps c20 ?_
    assumption
  · refine nextHas ?_
    refine keeps_rcv c40000000000000 ?_
    refine State.putN_keeps c1 ?_
    refine State.setContent_keeps c2 ?_
    refine State.expire_keeps c100000000010 ?_
    refine State.begin_keeps c20 ?_
    assumption

theorem execChipReset_keeps {P : State → Prop} (c : Closed 0x87f050fd037e71f7 P) {a1 : _} {s : State} (h : P s) :
    NextHas P (execChipReset a1 s) := by
  have c87f050fd037e71f7 : Closed 0x87f050fd037e71f7 P := c.mono rfl
  unfold execChipReset
  refine nextHas ?_
  refine State.resetOrder_keeps c87f050fd037e71f7 ?_
  assumption

theorem execChipResetSequenceDone_keeps {P : State → Prop} (c : Closed 0x87f030dd037a71f7 P) {s : State} (h : P s) :
    NextHas P (execChipResetSequenceDone s) := by
  have c1 : Closed 0x1 P := c.mono rfl
  have c20 : Closed 0x20 P := c.mono rfl
  have c40000000000000 : Closed 0x40000000000000 P := c.mono rfl
  have c81e0300000200073 : Closed 0x81e0300000200073 P := c.mono rfl
  have c87f010dd037a71f7 : Closed 0x87f010dd037a71f7 P := c.mono rfl
  unfold execChipResetSequenceDone
  dsimp only
  split
  · refine nextHas ?_
    refine State.late_keeps c1 ?_
    refine State.begin_keeps c20 ?_
    assumption
  · refine has_ite ?_ ?_
    · refine nextHas ?_
      refine State.begin_keeps c20 ?_
      assumption
    · refine nextHas ?_
      refine State.settleAll_keeps c87f010dd037a71f7 ?_
      refine keeps_then ?_ ?_
      · refine State.beginBringup_keeps c81e0300000200073 ?_
        refine State.upReset_keeps c40000000000000 ?_
        refine State.begin_keeps c20 ?_
        assumption
      · intro x80
        refine State.putN_keeps c1 ?_
        assumption

theorem execClearAllCounters_keeps {P : State → Prop} (c : Closed 0x20100000000025 P) {a1 : _} {s : State} (h : P s) :
    NextHas P (execClearAllCounters a1 s) := by
  have c20 : Closed 0x20 P := c.mono rfl
  have c100000000005 : Closed 0x100000000005 P := c.mono rfl
  have c20000000000000 : Closed 0x20000000000000 P := c.mono rfl
  unfold execClearAllCounters
  dsimp only
  refine nextHas ?_
  refine State.granted_keeps c100000000005 ?_ ?_
  · refine State.begin_keeps c20 ?_
    assumption
  · intro x40 x41
    dsimp only
    refine keeps_obs c20000000000000 ?_
    assumption

theorem execContextDrained_keeps {P : State → Prop} (c : Closed 0x87f010dd03fe71f7 P) {a1 : _} {s : State} (h : P s) :
    NextHas P (execContextDrained a1 s) := by
  have c1 : Closed 0x1 P := c.mono rfl
  have c20 : Closed 0x20 P := c.mono rfl
  have c100000000000000 : Closed 0x100000000000000 P := c.mono rfl
  have c8080100000000011 : Closed 0x8080100000000011 P := c.mono rfl
  have c81f0108103fe70f7 : Closed 0x81f0108103fe70f7 P := c.mono rfl
  have c87f010dd037a71f7 : Closed 0x87f010dd037a71f7 P := c.mono rfl
  unfold execContextDrained
  dsimp only
  split
  · refine nextHas ?_
    refine State.late_keeps c1 ?_
    refine State.begin_keeps c20 ?_
    assumption
  · refine has_ite ?_ ?_
    · refine nextHas ?_
      refine State.late_keeps c1 ?_
      refine State.begin_keeps c20 ?_
      assumption
    · refine has_ite ?_ ?_
      · refine nextHas ?_
        refine State.begin_keeps c20 ?_
        assumption
      · refine nextHas ?_
        refine State.settleAll_keeps c87f010dd037a71f7 ?_
        refine State.contextComplete_keeps c81f0108103fe70f7 ?_
        refine State.arrives_keeps c8080100000000011 ?_
        refine keeps_foldl ?_ _ ?_
        · intro x100 x101 x102
          refine State.upProbe_keeps c100000000000000 ?_
          assumption
        · refine State.begin_keeps c20 ?_
          assumption

theorem execContextResetEnd_keeps {P : State → Prop} (c : Closed 0x87f050fd037e71f7 P) {a1 : _} {a2 : _} {s : State}
    (h : P s) :
    NextHas P (execContextResetEnd a1 a2 s) := by
  have c87f050fd037e71f7 : Closed 0x87f050fd037e71f7 P := c.mono rfl
  unfold execContextResetEnd
  refine nextHas ?_
  refine State.resetOrder_keeps c87f050fd037e71f7 ?_
  assumption

theorem execContextResetRollback_keeps {P : State → Prop} (c : Closed 0x87f050fd037e71f7 P) {a1 : _} {a2 : _} {s : State}
    (h : P s) :
    NextHas P (execContextResetRollback a1 a2 s) := by
  have c87f050fd037e71f7 : Closed 0x87f050fd037e71f7 P := c.mono rfl
  unfold execContextResetRollback
  refine nextHas ?_
  refine State.resetOrder_keeps c87f050fd037e71f7 ?_
  assumption

theorem execCoreScanRead_keeps {P : State → Prop} (c : Closed 0x10000000000023 P) {a1 : _} {a2 : _} {a3 : _} {s : State}
    (h : P s) :
    NextHas P (execCoreScanRead a1 a2 a3 s) := by
  have c1 : Closed 0x1 P := c.mono rfl
  have c2 : Closed 0x2 P := c.mono rfl
  have c20 : Closed 0x20 P := c.mono rfl
  have c10000000000002 : Closed 0x10000000000002 P := c.mono rfl
  unfold execCoreScanRead
  dsimp only
  refine has_ite ?_ ?_
  · refine nextHas ?_
    refine State.begin_keeps c20 ?_
    assumption
  · refine has_ite ?_ ?_
    · refine nextHas ?_
      refine State.setContent_keeps c2 ?_
      refine State.noteReadOut_keeps c10000000000002 ?_
      refine State.countAccess_keeps c1 ?_
      refine State.begin_keeps c20 ?_
      assumption
    · refine nextHas ?_
      refine State.countAccess_keeps c1 ?_
      refine State.begin_keeps c20 ?_
      assumption

theorem execCountersClear_keeps {P : State → Prop} (c : Closed 0x20100000000025 P) {a1 : _} {a2 : _} {a3 : _} {s : State}
    (h : P s) :
    NextHas P (execCountersClear a1 a2 a3 s) := by
  have c20 : Closed 0x20 P := c.mono rfl
  have c100000000005 : Closed 0x100000000005 P := c.mono rfl
  have c20000000000000 : Closed 0x20000000000000 P := c.mono rfl
  unfold execCountersClear
  refine nextHas ?_
  refine State.granted_keeps c100000000005 ?_ ?_
  · refine State.begin_keeps c20 ?_
    assumption
  · intro x40 x41
    dsimp only
    refine State.setCounters_keeps c20000000000000 ?_
    assumption

theorem execDumpBudgetTimeout_keeps {P : State → Prop} (c : Closed 0x2c7f010dd037a71f7 P) {s : State} (h : P s) :
    NextHas P (execDumpBudgetTimeout s) := by
  have c20 : Closed 0x20 P := c.mono rfl
  have c40 : Closed 0x40 P := c.mono rfl
  have c100000000010 : Closed 0x100000000010 P := c.mono rfl
  have c81f0100000200073 : Closed 0x81f0100000200073 P := c.mono rfl
  have c87f010dd037a71f7 : Closed 0x87f010dd037a71f7 P := c.mono rfl
  have c24160000000001071 : Closed 0x24160000000001071 P := c.mono rfl
  unfold execDumpBudgetTimeout
  dsimp only
  refine has_ite ?_ ?_
  · refine nextHas ?_
    refine State.begin_keeps c20 ?_
    assumption
  · split
    · refine nextHas ?_
      refine State.expire_keeps c100000000010 ?_
      refine State.begin_keeps c20 ?_
      assumption
    · split
      · refine nextHas ?_
        refine State.expire_keeps c100000000010 ?_
        refine State.begin_keeps c20 ?_
        assumption
      · refine nextHas ?_
        refine State.settleAll_keeps c87f010dd037a71f7 ?_
        refine State.dumpEnds_keeps c24160000000001071 ?_
        refine State.writeDump_keeps c81f0100000200073 ?_
        refine State.sectionsCut_keeps c40 ?_
        refine State.expire_keeps c100000000010 ?_
        refine State.begin_keeps c20 ?_
        assumption

theorem execDumpWritten_keeps {P : State → Prop} (c : Closed 0x2c7f010dd037a71f7 P) {a1 : _} {s : State} (h : P s) :
    NextHas P (execDumpWritten a1 s) := by
  have c20 : Closed 0x20 P := c.mono rfl
  have c8080100000000011 : Closed 0x8080100000000011 P := c.mono rfl
  have c81f0100000200073 : Closed 0x81f0100000200073 P := c.mono rfl
  have c87f010dd037a71f7 : Closed 0x87f010dd037a71f7 P := c.mono rfl
  have c24160000000001071 : Closed 0x24160000000001071 P := c.mono rfl
  unfold execDumpWritten
  dsimp only
  split
  · refine nextHas ?_
    refine State.begin_keeps c20 ?_
    assumption
  · refine has_ite ?_ ?_
    · refine nextHas ?_
      refine State.begin_keeps c20 ?_
      assumption
    · refine nextHas ?_
      refine State.settleAll_keeps c87f010dd037a71f7 ?_
      refine State.dumpEnds_keeps c24160000000001071 ?_
      refine State.writeDump_keeps c81f0100000200073 ?_
      refine keeps_then ?_ ?_
      · refine State.begin_keeps c20 ?_
        assumption
      · intro x80
        refine State.arrives_keeps c8080100000000011 ?_
        assumption

theorem execEngineReset_keeps {P : State → Prop} (c : Closed 0x87f050fd037e71f7 P) {a1 : _} {a2 : _} {a3 : _} {s : State}
    (h : P s) :
    NextHas P (execEngineReset a1 a2 a3 s) := by
  have c87f050fd037e71f7 : Closed 0x87f050fd037e71f7 P := c.mono rfl
  unfold execEngineReset
  refine nextHas ?_
  refine State.resetOrder_keeps c87f050fd037e71f7 ?_
  assumption

theorem execEngineResetDone_keeps {P : State → Prop} (c : Closed 0x87f010dd03fe71f7 P) {a1 : _} {a2 : _} {s : State}
    (h : P s) :
    NextHas P (execEngineResetDone a1 a2 s) := by
  have c1 : Closed 0x1 P := c.mono rfl
  have c20 : Closed 0x20 P := c.mono rfl
  have c40000000000000 : Closed 0x40000000000000 P := c.mono rfl
  have c81f0108103fe70f7 : Closed 0x81f0108103fe70f7 P := c.mono rfl
  have c87f010dd037a71f7 : Closed 0x87f010dd037a71f7 P := c.mono rfl
  unfold execEngineResetDone
  dsimp only
  split
  · refine nextHas ?_
    refine State.late_keeps c1 ?_
    refine State.begin_keeps c20 ?_
    assumption
  · refine has_ite ?_ ?_
    · refine nextHas ?_
      refine State.begin_keeps c20 ?_
      assumption
    · refine nextHas ?_
      refine State.settleAll_keeps c87f010dd037a71f7 ?_
      refine keeps_then ?_ ?_
      · refine State.upReset_keeps c40000000000000 ?_
        refine State.engineBack_keeps c1 ?_
        refine State.begin_keeps c20 ?_
        assumption
      · intro x80
        refine State.enginesBack_keeps c81f0108103fe70f7 ?_
        assumption

theorem execFreezeDumpDone_keeps {P : State → Prop} (c : Closed 0x87f010dd037a71f7 P) {s : State} (h : P s) :
    NextHas P (execFreezeDumpDone s) := by
  have c20 : Closed 0x20 P := c.mono rfl
  have c10000000000000 : Closed 0x10000000000000 P := c.mono rfl
  have c10000000000002 : Closed 0x10000000000002 P := c.mono rfl
  have c81f0100000200073 : Closed 0x81f0100000200073 P := c.mono rfl
  have c87f010dd037a71f7 : Closed 0x87f010dd037a71f7 P := c.mono rfl
  unfold execFreezeDumpDone
  dsimp only
  split
  · refine nextHas ?_
    refine State.begin_keeps c20 ?_
    assumption
  · split
    · refine nextHas ?_
      refine State.begin_keeps c20 ?_
      assumption
    · refine nextHas ?_
      refine State.settleAll_keeps c87f010dd037a71f7 ?_
      refine keeps_then ?_ ?_
      · refine keeps_frz c10000000000000 ?_
        refine State.writeDump_keeps c81f0100000200073 ?_
        refine State.begin_keeps c20 ?_
        assumption
      · intro x80
        refine State.setFreezeRecord_keeps c10000000000002 ?_
        assumption

theorem execFreezeFrame_keeps {P : State → Prop} (c : Closed 0x87f010dd037a71f7 P) {a1 : _} {a2 : _} {s : State} (h : P s) :
    NextHas P (execFreezeFrame a1 a2 s) := by
  have c10000000000011 : Closed 0x10000000000011 P := c.mono rfl
  have c1f0100000000073 : Closed 0x1f0100000000073 P := c.mono rfl
  have c87f010dd037a71f7 : Closed 0x87f010dd037a71f7 P := c.mono rfl
  unfold execFreezeFrame
  refine has_ite ?_ ?_
  · refine nextHas ?_
    refine State.framed_keeps c87f010dd037a71f7 ?_ ?_
    · assumption
    · intro x60 x61
      refine State.spreadFreeze_keeps c1f0100000000073 ?_
      assumption
  · refine nextHas ?_
    refine State.framed_keeps c87f010dd037a71f7 ?_ ?_
    · assumption
    · intro x60 x61
      split
      · refine State.freezeTrigger_keeps c1f0100000000073 ?_
        assumption
      · refine State.armFreeze_keeps c10000000000011 ?_
        assumption

theorem execFreezeNow_keeps {P : State → Prop} (c : Closed 0x87f010dd037a71f7 P) {a1 : _} {s : State} (h : P s) :
    NextHas P (execFreezeNow a1 s) := by
  have c20 : Closed 0x20 P := c.mono rfl
  have c100000000005 : Closed 0x100000000005 P := c.mono rfl
  have c1f0100000000073 : Closed 0x1f0100000000073 P := c.mono rfl
  have c87f010dd037a71f7 : Closed 0x87f010dd037a71f7 P := c.mono rfl
  unfold execFreezeNow
  refine nextHas ?_
  refine State.settleAll_keeps c87f010dd037a71f7 ?_
  refine State.granted_keeps c100000000005 ?_ ?_
  · refine State.begin_keeps c20 ?_
    assumption
  · intro x40 x41
    dsimp only
    refine State.freezeTrigger_keeps c1f0100000000073 ?_
    assumption

theorem execFreezePinLow_keeps {P : State → Prop} (c : Closed 0x87f010dd037a71f7 P) {a1 : _} {s : State} (h : P s) :
    NextHas P (execFreezePinLow a1 s) := by
  have c20 : Closed 0x20 P := c.mono rfl
  have c1f0100000000073 : Closed 0x1f0100000000073 P := c.mono rfl
  have c87f010dd037a71f7 : Closed 0x87f010dd037a71f7 P := c.mono rfl
  unfold execFreezePinLow
  dsimp only
  refine has_ite ?_ ?_
  · refine nextHas ?_
    refine State.begin_keeps c20 ?_
    assumption
  · refine nextHas ?_
    refine State.settleAll_keeps c87f010dd037a71f7 ?_
    refine State.freezeTrigger_keeps c1f0100000000073 ?_
    refine State.begin_keeps c20 ?_
    assumption

theorem execFreezeReleaseTimeout_keeps {P : State → Prop} (c : Closed 0x87f010dd037a71f7 P) {s : State} (h : P s) :
    NextHas P (execFreezeReleaseTimeout s) := by
  have c1 : Closed 0x1 P := c.mono rfl
  have c20 : Closed 0x20 P := c.mono rfl
  have c100000000010 : Closed 0x100000000010 P := c.mono rfl
  have c10000000000000 : Closed 0x10000000000000 P := c.mono rfl
  have c81f0100000200073 : Closed 0x81f0100000200073 P := c.mono rfl
  have c87f010dd037a71f7 : Closed 0x87f010dd037a71f7 P := c.mono rfl
  unfold execFreezeReleaseTimeout
  dsimp only
  refine has_ite ?_ ?_
  · refine nextHas ?_
    refine State.begin_keeps c20 ?_
    assumption
  · refine has_ite ?_ ?_
    · refine nextHas ?_
      refine State.expire_keeps c100000000010 ?_
      refine State.begin_keeps c20 ?_
      assumption
    · refine nextHas ?_
      refine State.settleAll_keeps c87f010dd037a71f7 ?_
      refine State.raise_keeps c81f0100000200073 ?_
      refine State.putN_keeps c1 ?_
      refine keeps_frz c10000000000000 ?_
      refine State.expire_keeps c100000000010 ?_
      refine State.begin_keeps c20 ?_
      assumption

theorem execHostMarker_keeps {P : State → Prop} (c : Closed 0x20100000000065 P) {a1 : _} {a2 : _} {a3 : _} {s : State}
    (h : P s) :
    NextHas P (execHostMarker a1 a2 a3 s) := by
  have c20 : Closed 0x20 P := c.mono rfl
  have c100000000005 : Closed 0x100000000005 P := c.mono rfl
  have c20000000000041 : Closed 0x20000000000041 P := c.mono rfl
  unfold execHostMarker
  refine nextHas ?_
  refine State.granted_keeps c100000000005 ?_ ?_
  · refine State.begin_keeps c20 ?_
    assumption
  · intro x40 x41
    dsimp only
    refine State.ringEvent_keeps c20000000000041 ?_
    assumption

theorem execKeyClear_keeps {P : State → Prop} (c : Closed 0x900000000025 P) {a1 : _} {s : State} (h : P s) :
    NextHas P (execKeyClear a1 s) := by
  have c20 : Closed 0x20 P := c.mono rfl
  have c100000000005 : Closed 0x100000000005 P := c.mono rfl
  have c800000000000 : Closed 0x800000000000 P := c.mono rfl
  unfold execKeyClear
  refine nextHas ?_
  refine State.granted_keeps c100000000005 ?_ ?_
  · refine State.begin_keeps c20 ?_
    assumption
  · intro x40 x41
    refine startKeyClear_keeps c800000000000 ?_
    assumption

theorem execKeyClearDone_keeps {P : State → Prop} (c : Closed 0x1800000000025 P) {a1 : _} {s : State} (h : P s) :
    NextHas P (execKeyClearDone a1 s) := by
  have c1 : Closed 0x1 P := c.mono rfl
  have c4 : Closed 0x4 P := c.mono rfl
  have c20 : Closed 0x20 P := c.mono rfl
  have c1800000000000 : Closed 0x1800000000000 P := c.mono rfl
  unfold execKeyClearDone
  dsimp only
  refine has_ite ?_ ?_
  · refine nextHas ?_
    refine State.begin_keeps c20 ?_
    assumption
  · refine nextHas ?_
    refine keeps_then ?_ ?_
    · refine keeps_then ?_ ?_
      · refine keeps_keyCleared_keyClearing c1800000000000 ?_
        refine State.begin_keeps c20 ?_
        assumption
      · intro x80
        refine State.put_keeps c1 ?_
        assumption
    · intro x60
      refine State.endWrite_keeps c4 ?_
      assumption

theorem execLatePacketDiscarded_keeps {P : State → Prop} (c : Closed 0x87f010dd037a71f7 P) {a1 : _} {a2 : _} {a3 : _}
    {a4 : _} {a5 : _} {s : State} (h : P s) :
    NextHas P (execLatePacketDiscarded a1 a2 a3 a4 a5 s) := by
  have c1 : Closed 0x1 P := c.mono rfl
  have c20 : Closed 0x20 P := c.mono rfl
  have c40000000000000 : Closed 0x40000000000000 P := c.mono rfl
  have c81f0100000200073 : Closed 0x81f0100000200073 P := c.mono rfl
  have c87f010dd037a71f7 : Closed 0x87f010dd037a71f7 P := c.mono rfl
  unfold execLatePacketDiscarded
  dsimp only
  refine has_ite ?_ ?_
  · refine nextHas ?_
    refine State.begin_keeps c20 ?_
    assumption
  · refine nextHas ?_
    refine State.settleAll_keeps c87f010dd037a71f7 ?_
    refine State.raiseRecord_keeps c81f0100000200073 ?_
    refine State.noteLate_keeps c40000000000000 ?_
    refine State.bump_keeps c1 ?_
    refine State.bump_keeps c1 ?_
    refine State.begin_keeps c20 ?_
    assumption

theorem execLateWriteDropped_keeps {P : State → Prop} (c : Closed 0x87f010dd037a71f7 P) {a1 : _} {a2 : _} {a3 : _} {a4 : _}
    {a5 : _} {s : State} (h : P s) :
    NextHas P (execLateWriteDropped a1 a2 a3 a4 a5 s) := by
  have c1 : Closed 0x1 P := c.mono rfl
  have c20 : Closed 0x20 P := c.mono rfl
  have c40000000000000 : Closed 0x40000000000000 P := c.mono rfl
  have c81f0100000200073 : Closed 0x81f0100000200073 P := c.mono rfl
  have c87f010dd037a71f7 : Closed 0x87f010dd037a71f7 P := c.mono rfl
  unfold execLateWriteDropped
  dsimp only
  refine has_ite ?_ ?_
  · refine nextHas ?_
    refine State.begin_keeps c20 ?_
    assumption
  · refine nextHas ?_
    refine State.settleAll_keeps c87f010dd037a71f7 ?_
    refine State.raiseRecord_keeps c81f0100000200073 ?_
    refine State.noteLate_keeps c40000000000000 ?_
    refine State.bump_keeps c1 ?_
    refine State.bump_keeps c1 ?_
    refine State.begin_keeps c20 ?_
    assumption

theorem execPartitionReset_keeps {P : State → Prop} (c : Closed 0x87f050fd037e71f7 P) {a1 : _} {a2 : _} {s : State} (h : P s) :
    NextHas P (execPartitionReset a1 a2 s) := by
  have c87f050fd037e71f7 : Closed 0x87f050fd037e71f7 P := c.mono rfl
  unfold execPartitionReset
  refine nextHas ?_
  refine State.resetOrder_keeps c87f050fd037e71f7 ?_
  assumption

theorem execPartitionResetDone_keeps {P : State → Prop} (c : Closed 0x87f010dd03fa71f7 P) {a1 : _} {s : State} (h : P s) :
    NextHas P (execPartitionResetDone a1 s) := by
  have c1 : Closed 0x1 P := c.mono rfl
  have c20 : Closed 0x20 P := c.mono rfl
  have c1c0000000c02033 : Closed 0x1c0000000c02033 P := c.mono rfl
  have c8080100000000011 : Closed 0x8080100000000011 P := c.mono rfl
  have c87f010dd037a71f7 : Closed 0x87f010dd037a71f7 P := c.mono rfl
  unfold execPartitionResetDone
  dsimp only
  split
  · refine nextHas ?_
    refine State.late_keeps c1 ?_
    refine State.begin_keeps c20 ?_
    assumption
  · refine has_ite ?_ ?_
    · refine nextHas ?_
      refine State.begin_keeps c20 ?_
      assumption
    · refine nextHas ?_
      refine State.settleAll_keeps c87f010dd037a71f7 ?_
      refine State.completePartition_keeps c1c0000000c02033 ?_
      refine State.arrives_keeps c8080100000000011 ?_
      refine State.begin_keeps c20 ?_
      assumption

theorem execPauseIndicationPeriod_keeps {P : State → Prop} (c : Closed 0x30 P) {s : State} (h : P s) :
    NextHas P (execPauseIndicationPeriod s) := by
  have c10 : Closed 0x10 P := c.mono rfl
  have c20 : Closed 0x20 P := c.mono rfl
  unfold execPauseIndicationPeriod
  dsimp only
  refine has_ite ?_ ?_
  · refine nextHas ?_
    refine State.begin_keeps c20 ?_
    assumption
  · refine has_ite ?_ ?_
    · refine nextHas ?_
      refine State.disarm_keeps c10 ?_
      refine State.begin_keeps c20 ?_
      assumption
    · refine nextHas ?_
      refine State.arm_keeps c10 ?_
      refine State.sendAll_keeps c20 ?_
      refine State.begin_keeps c20 ?_
      assumption

theorem execPauseIndicationReceived_keeps {P : State → Prop} (c : Closed 0x10000000000030 P) {a1 : _} {s : State} (h : P s) :
    NextHas P (execPauseIndicationReceived a1 s) := by
  have c10 : Closed 0x10 P := c.mono rfl
  have c20 : Closed 0x20 P := c.mono rfl
  have c10000000000000 : Closed 0x10000000000000 P := c.mono rfl
  unfold execPauseIndicationReceived
  dsimp only
  refine has_ite ?_ ?_
  · refine nextHas ?_
    refine State.begin_keeps c20 ?_
    assumption
  · refine nextHas ?_
    refine keeps_frz c10000000000000 ?_
    refine keeps_else ?_ ?_
    · refine State.begin_keeps c20 ?_
      assumption
    · intro x60
      refine State.arm_keeps c10 ?_
      assumption

theorem execPauseLimitTimeout_keeps {P : State → Prop} (c : Closed 0x87f010dd037a71f7 P) {a1 : _} {a2 : _} {s : State}
    (h : P s) :
    NextHas P (execPauseLimitTimeout a1 a2 s) := by
  have c10 : Closed 0x10 P := c.mono rfl
  have c20 : Closed 0x20 P := c.mono rfl
  have c10000000000000 : Closed 0x10000000000000 P := c.mono rfl
  have c81f01000003a7073 : Closed 0x81f01000003a7073 P := c.mono rfl
  have c87f010dd037a71f7 : Closed 0x87f010dd037a71f7 P := c.mono rfl
  unfold execPauseLimitTimeout
  dsimp only
  refine has_ite ?_ ?_
  · refine nextHas ?_
    refine State.begin_keeps c20 ?_
    assumption
  · refine nextHas ?_
    refine State.settleAll_keeps c87f010dd037a71f7 ?_
    refine keeps_then ?_ ?_
    · refine keeps_frz c10000000000000 ?_
      refine State.disarm_keeps c10 ?_
      refine State.begin_keeps c20 ?_
      assumption
    · intro x60
      refine State.portFails_keeps c81f01000003a7073 ?_
      assumption

theorem execPorstAssert_keeps {P : State → Prop} (c : Closed 0x21000000000000060 P) {a1 : _} {s : State} (h : P s) :
    NextHas P (execPorstAssert a1 s) := by
  have c20 : Closed 0x20 P := c.mono rfl
  have c40 : Closed 0x40 P := c.mono rfl
  have c21000000000000000 : Closed 0x21000000000000000 P := c.mono rfl
  unfold execPorstAssert
  dsimp only
  refine has_ite ?_ ?_
  · refine nextHas ?_
    refine State.begin_keeps c20 ?_
    assumption
  · refine has_ite ?_ ?_
    · refine nextHas ?_
      refine State.assertPorst_keeps c21000000000000000 ?_
      refine State.begin_keeps c20 ?_
      assumption
    · refine nextHas ?_
      refine keeps_then ?_ ?_
      · refine State.fresh_keeps c40 ?_
        refine State.begin_keeps c20 ?_
        assumption
      · intro x80
        refine State.assertPorst_keeps c21000000000000000 ?_
        assumption

theorem execPorstRelease_keeps {P : State → Prop} (c : Closed 0x97f8fffd0bfa71ff P) {a1 : _} {s : State} (h : P s) :
    NextHas P (execPorstRelease a1 s) := by
  have c20 : Closed 0x20 P := c.mono rfl
  have c1000000000001000 : Closed 0x1000000000001000 P := c.mono rfl
  have c81f8ff7d0bfa707f : Closed 0x81f8ff7d0bfa707f P := c.mono rfl
  have c87f010dd037a71f7 : Closed 0x87f010dd037a71f7 P := c.mono rfl
  unfold execPorstRelease
  dsimp only
  refine has_ite ?_ ?_
  · refine nextHas ?_
    refine State.begin_keeps c20 ?_
    assumption
  · refine nextHas ?_
    refine keeps_else ?_ ?_
    · refine keeps_porst_tb c1000000000001000 ?_
      refine State.begin_keeps c20 ?_
      assumption
    · intro x60
      refine State.settleAll_keeps c87f010dd037a71f7 ?_
      refine State.coldStart_keeps c81f8ff7d0bfa707f ?_
      assumption

theorem execPowerCycleOrder_keeps {P : State → Prop} (c : Closed 0x87f050fd037e71f7 P) {a1 : _} {s : State} (h : P s) :
    NextHas P (execPowerCycleOrder a1 s) := by
  have c87f050fd037e71f7 : Closed 0x87f050fd037e71f7 P := c.mono rfl
  unfold execPowerCycleOrder
  refine nextHas ?_
  refine State.resetOrder_keeps c87f050fd037e71f7 ?_
  assumption

theorem execPowerLoss_keeps {P : State → Prop} (c : Closed 0x23880000000000020 P) {a1 : _} {s : State} (h : P s) :
    NextHas P (execPowerLoss a1 s) := by
  have c20 : Closed 0x20 P := c.mono rfl
  have c80000000000000 : Closed 0x80000000000000 P := c.mono rfl
  have c3800000000000000 : Closed 0x3800000000000000 P := c.mono rfl
  unfold execPowerLoss
  dsimp only
  refine has_ite ?_ ?_
  · refine nextHas ?_
    refine State.begin_keeps c20 ?_
    assumption
  · refine nextHas ?_
    refine keeps_brownOut_porst_powered c3800000000000000 ?_
    refine c .reinit_ rfl _ _ _ ?_
    refine keeps_then ?_ ?_
    · refine State.begin_keeps c20 ?_
      assumption
    · intro x60
      refine keeps_cel c80000000000000 ?_
      assumption

theorem execPowerUp_keeps {P : State → Prop} (c : Closed 0x1800000000000020 P) {s : State} (h : P s) :
    NextHas P (execPowerUp s) := by
  have c20 : Closed 0x20 P := c.mono rfl
  have c1800000000000000 : Closed 0x1800000000000000 P := c.mono rfl
  unfold execPowerUp
  dsimp only
  refine nextHas ?_
  refine keeps_else ?_ ?_
  · refine State.begin_keeps c20 ?_
    assumption
  · intro x40
    refine keeps_porst_powered c1800000000000000 ?_
    assumption

theorem execProbeEvent_keeps {P : State → Prop} (c : Closed 0x87f010fd037a71ff P) {a1 : _} {a2 : _} {a3 : _} {a4 : _}
    {s : State} (h : P s) :
    NextHas P (execProbeEvent a1 a2 a3 a4 s) := by
  have c20 : Closed 0x20 P := c.mono rfl
  have c48 : Closed 0x48 P := c.mono rfl
  have c20000000000000 : Closed 0x20000000000000 P := c.mono rfl
  have c120002000202071 : Closed 0x120002000202071 P := c.mono rfl
  have c87f010dd037a71f7 : Closed 0x87f010dd037a71f7 P := c.mono rfl
  unfold execProbeEvent
  dsimp only
  refine has_ite ?_ ?_
  · refine nextHas ?_
    refine State.begin_keeps c20 ?_
    assumption
  · refine nextHas ?_
    refine State.settleAll_keeps c87f010dd037a71f7 ?_
    refine State.stamped_keeps c48 ?_ ?_
    · refine State.begin_keeps c20 ?_
      assumption
    · intro x60 x61
      refine State.probeTakes_keeps c120002000202071 ?_
      refine State.addEdges_keeps c20000000000000 ?_
      assumption

theorem execReleaseNow_keeps {P : State → Prop} (c : Closed 0x2c7f07ffd0bfa71f7 P) {a1 : _} {s : State} (h : P s) :
    NextHas P (execReleaseNow a1 s) := by
  have c20 : Closed 0x20 P := c.mono rfl
  have c100000000005 : Closed 0x100000000005 P := c.mono rfl
  have c87f010dd037a71f7 : Closed 0x87f010dd037a71f7 P := c.mono rfl
  have c2c1f07f7d0bfa7077 : Closed 0x2c1f07f7d0bfa7077 P := c.mono rfl
  unfold execReleaseNow
  refine nextHas ?_
  refine State.settleAll_keeps c87f010dd037a71f7 ?_
  refine State.granted_keeps c100000000005 ?_ ?_
  · refine State.begin_keeps c20 ?_
    assumption
  · intro x40 x41
    refine orderRelease_keeps c2c1f07f7d0bfa7077 ?_
    assumption

theorem execResetTimeout_keeps {P : State → Prop} (c : Closed 0x87f050fd03fe71f7 P) {a1 : _} {s : State} (h : P s) :
    NextHas P (execResetTimeout a1 s) := by
  have c20 : Closed 0x20 P := c.mono rfl
  have c100000000010 : Closed 0x100000000010 P := c.mono rfl
  have c81f050e103fe70f7 : Closed 0x81f050e103fe70f7 P := c.mono rfl
  have c87f010dd037a71f7 : Closed 0x87f010dd037a71f7 P := c.mono rfl
  unfold execResetTimeout
  dsimp only
  refine has_ite ?_ ?_
  · refine nextHas ?_
    refine State.begin_keeps c20 ?_
    assumption
  · split
    · refine nextHas ?_
      refine State.settleAll_keeps c87f010dd037a71f7 ?_
      refine State.resetHangs_keeps c81f050e103fe70f7 ?_
      refine State.expire_keeps c100000000010 ?_
      refine State.begin_keeps c20 ?_
      assumption
    · refine nextHas ?_
      refine State.expire_keeps c100000000010 ?_
      refine State.begin_keeps c20 ?_
      assumption

theorem execRingRestart_keeps {P : State → Prop} (c : Closed 0x100000000025 P) {a1 : _} {a2 : _} {s : State} (h : P s) :
    NextHas P (execRingRestart a1 a2 s) := by
  have c1 : Closed 0x1 P := c.mono rfl
  have c20 : Closed 0x20 P := c.mono rfl
  have c100000000005 : Closed 0x100000000005 P := c.mono rfl
  unfold execRingRestart
  refine nextHas ?_
  refine State.granted_keeps c100000000005 ?_ ?_
  · refine State.begin_keeps c20 ?_
    assumption
  · intro x40 x41
    dsimp only
    refine State.putN_keeps c1 ?_
    assumption

theorem execSelftestAbort_keeps {P : State → Prop} (c : Closed 0x87f050fd037a71f7 P) {a1 : _} {a2 : _} {s : State} (h : P s) :
    NextHas P (execSelftestAbort a1 a2 s) := by
  have c20 : Closed 0x20 P := c.mono rfl
  have c100000000005 : Closed 0x100000000005 P := c.mono rfl
  have c120406000000073 : Closed 0x120406000000073 P := c.mono rfl
  have c87f010dd037a71f7 : Closed 0x87f010dd037a71f7 P := c.mono rfl
  unfold execSelftestAbort
  refine nextHas ?_
  refine State.settleAll_keeps c87f010dd037a71f7 ?_
  refine State.granted_keeps c100000000005 ?_ ?_
  · refine State.begin_keeps c20 ?_
    assumption
  · intro x40 x41
    refine requestAbort_keeps c120406000000073 ?_
    assumption

theorem execSelftestDone_keeps {P : State → Prop} (c : Closed 0x87f07ffd0bfa71f7 P) {a1 : _} {a2 : _} {s : State} (h : P s) :
    NextHas P (execSelftestDone a1 a2 s) := by
  have c1 : Closed 0x1 P := c.mono rfl
  have c20 : Closed 0x20 P := c.mono rfl
  have c400000000010 : Closed 0x400000000010 P := c.mono rfl
  have c80002000000001 : Closed 0x80002000000001 P := c.mono rfl
  have c8080100000000011 : Closed 0x8080100000000011 P := c.mono rfl
  have c81f07f5d03fa7073 : Closed 0x81f07f5d03fa7073 P := c.mono rfl
  have c81f07f7d0bfa7077 : Closed 0x81f07f7d0bfa7077 P := c.mono rfl
  have c87f010dd037a71f7 : Closed 0x87f010dd037a71f7 P := c.mono rfl
  unfold execSelftestDone
  dsimp only
  split
  · refine nextHas ?_
    refine State.late_keeps c1 ?_
    refine State.begin_keeps c20 ?_
    assumption
  · refine nextHas ?_
    refine State.settleAll_keeps c87f010dd037a71f7 ?_
    refine State.testNext_keeps c81f07f7d0bfa7077 ?_
    refine State.endUnit_keeps c81f07f5d03fa7073 ?_
    split
    · refine keeps_else ?_ ?_
      · refine State.judge_keeps c80002000000001 ?_
        refine State.arrives_keeps c8080100000000011 ?_
        refine State.begin_keeps c20 ?_
        assumption
      · intro x80
        refine State.dropSlices_keeps c400000000010 ?_
        assumption
    · refine State.judge_keeps c80002000000001 ?_
      refine State.arrives_keeps c8080100000000011 ?_
      refine State.begin_keeps c20 ?_
      assumption

theorem execSelftestRequest_keeps {P : State → Prop} (c : Closed 0x87f050dd037a71f7 P) {a1 : _} {a2 : _} {s : State}
    (h : P s) :
    NextHas P (execSelftestRequest a1 a2 s) := by
  have c20 : Closed 0x20 P := c.mono rfl
  have c100000000005 : Closed 0x100000000005 P := c.mono rfl
  have c81f0504103706073 : Closed 0x81f0504103706073 P := c.mono rfl
  have c87f010dd037a71f7 : Closed 0x87f010dd037a71f7 P := c.mono rfl
  unfold execSelftestRequest
  refine nextHas ?_
  refine State.settleAll_keeps c87f010dd037a71f7 ?_
  refine State.granted_keeps c100000000005 ?_ ?_
  · refine State.begin_keeps c20 ?_
    assumption
  · intro x40 x41
    refine requestTest_keeps c81f0504103706073 ?_
    assumption

theorem execSelftestTimeout_keeps {P : State → Prop} (c : Closed 0x87f07ffd0bfa71f7 P) {a1 : _} {s : State} (h : P s) :
    NextHas P (execSelftestTimeout a1 s) := by
  have c10 : Closed 0x10 P := c.mono rfl
  have c20 : Closed 0x20 P := c.mono rfl
  have c100000000010 : Closed 0x100000000010 P := c.mono rfl
  have c81f07f5d03fa7073 : Closed 0x81f07f5d03fa7073 P := c.mono rfl
  have c81f07f7d0bfa7077 : Closed 0x81f07f7d0bfa7077 P := c.mono rfl
  have c87f010dd037a71f7 : Closed 0x87f010dd037a71f7 P := c.mono rfl
  unfold execSelftestTimeout
  dsimp only
  refine has_ite ?_ ?_
  · refine nextHas ?_
    refine State.begin_keeps c20 ?_
    assumption
  · split
    · refine nextHas ?_
      refine State.disarm_keeps c10 ?_
      refine State.begin_keeps c20 ?_
      assumption
    · refine nextHas ?_
      refine State.settleAll_keeps c87f010dd037a71f7 ?_
      refine State.testNext_keeps c81f07f7d0bfa7077 ?_
      refine State.endUnit_keeps c81f07f5d03fa7073 ?_
      refine State.expire_keeps c100000000010 ?_
      refine State.begin_keeps c20 ?_
      assumption

theorem execStackRequest_keeps {P : State → Prop} (c : Closed 0x87f050dd037a71f7 P) {a1 : _} {a2 : _} {s : State} (h : P s) :
    NextHas P (execStackRequest a1 a2 s) := by
  have c20 : Closed 0x20 P := c.mono rfl
  have c100000000005 : Closed 0x100000000005 P := c.mono rfl
  have c404000000031 : Closed 0x404000000031 P := c.mono rfl
  have c87f010dd037a71f7 : Closed 0x87f010dd037a71f7 P := c.mono rfl
  unfold execStackRequest
  refine nextHas ?_
  refine State.settleAll_keeps c87f010dd037a71f7 ?_
  refine State.granted_keeps c100000000005 ?_ ?_
  · refine State.begin_keeps c20 ?_
    assumption
  · intro x40 x41
    refine requestStack_keeps c404000000031 ?_
    assumption

theorem execSupplyExcursion_keeps {P : State → Prop} (c : Closed 0x87f010dd037a71f7 P) {a1 : _} {a2 : _} {a3 : _} {s : State}
    (h : P s) :
    NextHas P (execSupplyExcursion a1 a2 a3 s) := by
  have c20 : Closed 0x20 P := c.mono rfl
  have c81f0100000200073 : Closed 0x81f0100000200073 P := c.mono rfl
  have c87f010dd037a71f7 : Closed 0x87f010dd037a71f7 P := c.mono rfl
  unfold execSupplyExcursion
  dsimp only
  refine has_ite ?_ ?_
  · refine nextHas ?_
    refine State.begin_keeps c20 ?_
    assumption
  · refine nextHas ?_
    refine State.settleAll_keeps c87f010dd037a71f7 ?_
    refine State.raise_keeps c81f0100000200073 ?_
    refine State.begin_keeps c20 ?_
    assumption

theorem execSyncWaitEnd_keeps {P : State → Prop} (c : Closed 0x87f010dd037a71f7 P) {a1 : _} {a2 : _} {s : State} (h : P s) :
    NextHas P (execSyncWaitEnd a1 a2 s) := by
  have c20 : Closed 0x20 P := c.mono rfl
  have c2000 : Closed 0x2000 P := c.mono rfl
  have c20000000000021 : Closed 0x20000000000021 P := c.mono rfl
  have c81f0100000200073 : Closed 0x81f0100000200073 P := c.mono rfl
  have c87f010dd037a71f7 : Closed 0x87f010dd037a71f7 P := c.mono rfl
  unfold execSyncWaitEnd
  dsimp only
  refine has_ite ?_ ?_
  · refine nextHas ?_
    refine State.begin_keeps c20 ?_
    assumption
  · refine nextHas ?_
    refine State.settleAll_keeps c87f010dd037a71f7 ?_
    refine keeps_then ?_ ?_
    · refine State.traceQueue_keeps c20000000000021 ?_
      refine State.disturb_keeps c2000 ?_
      refine State.begin_keeps c20 ?_
      assumption
    · intro x60
      refine State.raise_keeps c81f0100000200073 ?_
      assumption

theorem execTimedFreeze_keeps {P : State → Prop} (c : Closed 0x87f010dd037a71f7 P) {s : State} (h : P s) :
    NextHas P (execTimedFreeze s) := by
  have c1 : Closed 0x1 P := c.mono rfl
  have c10 : Closed 0x10 P := c.mono rfl
  have c20 : Closed 0x20 P := c.mono rfl
  have c10000000000000 : Closed 0x10000000000000 P := c.mono rfl
  have c1f0100000000073 : Closed 0x1f0100000000073 P := c.mono rfl
  have c87f010dd037a71f7 : Closed 0x87f010dd037a71f7 P := c.mono rfl
  unfold execTimedFreeze
  dsimp only
  refine has_ite ?_ ?_
  · refine nextHas ?_
    refine State.begin_keeps c20 ?_
    assumption
  · refine nextHas ?_
    refine State.settleAll_keeps c87f010dd037a71f7 ?_
    split
    · refine State.freezeTrigger_keeps c1f0100000000073 ?_
      refine keeps_frz c10000000000000 ?_
      refine State.putN_keeps c1 ?_
      refine State.disarm_keeps c10 ?_
      refine State.begin_keeps c20 ?_
      assumption
    · refine State.freezeTrigger_keeps c1f0100000000073 ?_
      refine keeps_frz c10000000000000 ?_
      refine State.putN_keeps c1 ?_
      refine State.disarm_keeps c10 ?_
      refine State.begin_keeps c20 ?_
      assumption

theorem execTimedRelease_keeps {P : State → Prop} (c : Closed 0x2c7f07ffd0bfa71f7 P) {s : State} (h : P s) :
    NextHas P (execTimedRelease s) := by
  have c1 : Closed 0x1 P := c.mono rfl
  have c10 : Closed 0x10 P := c.mono rfl
  have c20 : Closed 0x20 P := c.mono rfl
  have c87f010dd037a71f7 : Closed 0x87f010dd037a71f7 P := c.mono rfl
  have c2c1f07f7d0bfa7077 : Closed 0x2c1f07f7d0bfa7077 P := c.mono rfl
  unfold execTimedRelease
  dsimp only
  refine has_ite ?_ ?_
  · refine nextHas ?_
    refine State.begin_keeps c20 ?_
    assumption
  · refine nextHas ?_
    refine State.settleAll_keeps c87f010dd037a71f7 ?_
    refine orderRelease_keeps c2c1f07f7d0bfa7077 ?_
    refine State.putN_keeps c1 ?_
    refine State.disarm_keeps c10 ?_
    refine State.begin_keeps c20 ?_
    assumption

end Sys2Proof.Machine
end

