-- ==== Sys2Proof/Laws/KeepsChecks.lean ====
section
/-! SUPPORT. What each operation keeps (see Laws/Keeps.lean): the Cellar, the management buses, error commands, screening and margins. -/

namespace Sys2Proof.Machine

theorem State.onBus_keeps {P : State → Prop} (c : Closed 0x20 P) {s : State} {f2 : State → State} (h : P s)
    (hf2 : ∀ (x0 : State), P x0 → P (f2 x0)) :
    P (State.onBus s f2) := by
  have c20 : Closed 0x20 P := c.mono rfl
  unfold State.onBus
  dsimp only
  refine keeps_then ?_ ?_
  · refine State.begin_keeps c20 ?_
    assumption
  · intro x40
    refine hf2 _ ?_
    assumption

theorem State.addressed_keeps {P : State → Prop} (c : Closed 0x20 P) {s : State} {f2 : State → State} (h : P s)
    (hf2 : ∀ (x0 : State), P x0 → P (f2 x0)) :
    P (State.addressed s f2) := by
  have c20 : Closed 0x20 P := c.mono rfl
  unfold State.addressed
  refine State.onBus_keeps c20 ?_ ?_
  · assumption
  · intro x40 x41
    refine keeps_ite ?_ ?_
    · assumption
    · refine hf2 _ ?_
      assumption

theorem State.letIn_keeps {P : State → Prop} (c : Closed 0x120000000000041 P) {s : State} {a2 : _} (h : P s) :
    P (State.letIn s a2) := by
  have c120000000000041 : Closed 0x120000000000041 P := c.mono rfl
  unfold State.letIn
  refine keeps_ite ?_ ?_
  · refine State.unisolateCore_keeps c120000000000041 ?_
    assumption
  · assumption

theorem State.command_keeps {P : State → Prop} (c : Closed 0x100000101404030 P) {s : State} {a2 : _} {a3 : _} {a4 : _}
    (h : P s) :
    P (State.command s a2 a3 a4) := by
  have c10 : Closed 0x10 P := c.mono rfl
  have c20 : Closed 0x20 P := c.mono rfl
  have c1404000 : Closed 0x1404000 P := c.mono rfl
  have c100000000 : Closed 0x100000000 P := c.mono rfl
  have c100000000000000 : Closed 0x100000000000000 P := c.mono rfl
  unfold State.command
  dsimp only
  refine State.arm_keeps c10 ?_
  refine State.send_keeps c20 ?_
  refine State.upProbe_keeps c100000000000000 ?_
  refine keeps_then ?_ ?_
  · refine State.upProbing_keeps c100000000 ?_
    assumption
  · intro x40
    refine State.markUnder_keeps c1404000 ?_
    assumption

theorem State.applyTarget_keeps {P : State → Prop} (c : Closed 0x120000101404071 P) {s : State} {a2 : _} {a3 : _} (h : P s) :
    P (State.applyTarget s a2 a3) := by
  have c120000101404071 : Closed 0x120000101404071 P := c.mono rfl
  unfold State.applyTarget
  refine keeps_ite ?_ ?_
  · refine State.changeTrim_keeps c120000101404071 ?_
    assumption
  · assumption

theorem State.showWeak_keeps {P : State → Prop} (c : Closed 0x1 P) {s : State} (h : P s) :
    P (State.showWeak s) := by
  have c1 : Closed 0x1 P := c.mono rfl
  unfold State.showWeak
  refine State.putN_keeps c1 ?_
  assumption

theorem State.marginWeak_keeps {P : State → Prop} (c : Closed 0x81f05f5d037a7073 P) {s : State} {a2 : _} {a3 : _} (h : P s) :
    P (State.marginWeak s a2 a3) := by
  have c1 : Closed 0x1 P := c.mono rfl
  have c100000000000000 : Closed 0x100000000000000 P := c.mono rfl
  have c81f0100000200073 : Closed 0x81f0100000200073 P := c.mono rfl
  have c81f05f5d037a7073 : Closed 0x81f05f5d037a7073 P := c.mono rfl
  unfold State.marginWeak
  dsimp only
  refine keeps_else ?_ ?_
  · refine State.fenceIfOn_keeps c81f05f5d037a7073 ?_
    refine State.screen_keeps c81f0100000200073 ?_
    refine keeps_then ?_ ?_
    · refine State.showWeak_keeps c1 ?_
      refine State.upProbe_keeps c100000000000000 ?_
      assumption
    · intro x60
      refine State.putN_keeps c1 ?_
      assumption
  · intro x40
    refine keeps_foldl ?_ _ ?_
    · intro x60 x61 x62
      refine State.setGalley_keeps c1 ?_
      assumption
    · assumption

theorem State.recordMap_keeps {P : State → Prop} (c : Closed 0x81f05f5d037a7073 P) {s : State} {a2 : _} {a3 : _} {a4 : _}
    {a5 : _} {a6 : _} (h : P s) :
    P (State.recordMap s a2 a3 a4 a5 a6) := by
  have c1 : Closed 0x1 P := c.mono rfl
  have c3 : Closed 0x3 P := c.mono rfl
  have c10 : Closed 0x10 P := c.mono rfl
  have c100000000 : Closed 0x100000000 P := c.mono rfl
  have c100000000000000 : Closed 0x100000000000000 P := c.mono rfl
  have c100000101404030 : Closed 0x100000101404030 P := c.mono rfl
  have c120000101404071 : Closed 0x120000101404071 P := c.mono rfl
  have c81f05f5d037a7073 : Closed 0x81f05f5d037a7073 P := c.mono rfl
  unfold State.recordMap
  dsimp only
  refine keeps_then ?_ ?_
  · refine State.command_keeps c100000101404030 ?_
    refine State.upProbing_keeps c100000000 ?_
    refine keeps_else ?_ ?_
    · refine keeps_then ?_ ?_
      · refine State.arm_keeps c10 ?_
        refine State.showWeak_keeps c1 ?_
        refine State.bump_keeps c1 ?_
        refine State.putN_keeps c1 ?_
        refine State.putN_keeps c1 ?_
        refine State.put_keeps c1 ?_
        refine State.putN_keeps c1 ?_
        refine State.putN_keeps c1 ?_
        refine State.upProbe_keeps c100000000000000 ?_
        assumption
      · intro x80
        refine State.keepScreen_keeps c3 ?_
        assumption
    · intro x60
      refine State.applyTarget_keeps c120000101404071 ?_
      assumption
  · intro x40
    refine State.marginWeak_keeps c81f05f5d037a7073 ?_
    assumption

theorem State.stepDown_keeps {P : State → Prop} (c : Closed 0x81f05f5d037a7073 P) {s : State} {a2 : _} {a3 : _} {a4 : _}
    {a5 : _} (h : P s) :
    P (State.stepDown s a2 a3 a4 a5) := by
  have c100000101404030 : Closed 0x100000101404030 P := c.mono rfl
  have c81f05f5d037a7073 : Closed 0x81f05f5d037a7073 P := c.mono rfl
  unfold State.stepDown
  refine keeps_ite ?_ ?_
  · refine State.command_keeps c100000101404030 ?_
    assumption
  · refine State.recordMap_keeps c81f05f5d037a7073 ?_
    assumption

theorem State.afterDwell_keeps {P : State → Prop} (c : Closed 0x81f05f5d037a7073 P) {s : State} {a2 : _} {a3 : _} {a4 : _}
    (h : P s) :
    P (State.afterDwell s a2 a3 a4) := by
  have c1 : Closed 0x1 P := c.mono rfl
  have c100000000 : Closed 0x100000000 P := c.mono rfl
  have c100000101404030 : Closed 0x100000101404030 P := c.mono rfl
  have c81f05f5d037a7073 : Closed 0x81f05f5d037a7073 P := c.mono rfl
  unfold State.afterDwell
  dsimp only
  refine keeps_ite ?_ ?_
  · refine keeps_ite ?_ ?_
    · refine State.stepDown_keeps c81f05f5d037a7073 ?_
      refine State.upProbing_keeps c100000000 ?_
      assumption
    · refine State.command_keeps c100000101404030 ?_
      refine State.upProbing_keeps c100000000 ?_
      assumption
  · refine keeps_ite ?_ ?_
    · refine State.command_keeps c100000101404030 ?_
      assumption
    · refine keeps_ite ?_ ?_
      · refine State.stepDown_keeps c81f05f5d037a7073 ?_
        refine State.upProbing_keeps c100000000 ?_
        refine State.bump_keeps c1 ?_
        assumption
      · refine State.recordMap_keeps c81f05f5d037a7073 ?_
        assumption

theorem State.afterFailure_keeps {P : State → Prop} (c : Closed 0x81f07f5d037a7077 P) {s : State} {a2 : _} {a3 : _} (h : P s) :
    P (State.afterFailure s a2 a3) := by
  have c4 : Closed 0x4 P := c.mono rfl
  have c200000000000 : Closed 0x200000000000 P := c.mono rfl
  have c400000000000 : Closed 0x400000000000 P := c.mono rfl
  have c81f05e1903706073 : Closed 0x81f05e1903706073 P := c.mono rfl
  have c81f05f5d037a7073 : Closed 0x81f05f5d037a7073 P := c.mono rfl
  unfold State.afterFailure
  dsimp only
  refine keeps_ite ?_ ?_
  · refine State.fenceSteps_keeps c81f05e1903706073 ?_
    refine keeps_bring c200000000000 ?_
    assumption
  · split
    · refine State.replacementFailed_keeps c81f05f5d037a7073 ?_
      refine keeps_test c400000000000 ?_
      refine keeps_ite ?_ ?_
      · refine State.endWrite_keeps c4 ?_
        assumption
      · assumption
    · refine keeps_foldl ?_ _ ?_
      · intro x80 x81 x82
        split
        · refine State.fenceEngine_keeps c81f05f5d037a7073 ?_
          assumption
        · assumption
      · refine keeps_test c400000000000 ?_
        refine keeps_ite ?_ ?_
        · refine State.endWrite_keeps c4 ?_
          assumption
        · assumption

theorem State.afterPass_keeps {P : State → Prop} (c : Closed 0x81f0704503707077 P) {s : State} {a2 : _} (h : P s) :
    P (State.afterPass s a2) := by
  have c1 : Closed 0x1 P := c.mono rfl
  have c4 : Closed 0x4 P := c.mono rfl
  have c400000000 : Closed 0x400000000 P := c.mono rfl
  have c200000000000 : Closed 0x200000000000 P := c.mono rfl
  have c400000000000 : Closed 0x400000000000 P := c.mono rfl
  have c40000000000000 : Closed 0x40000000000000 P := c.mono rfl
  have c120000000000041 : Closed 0x120000000000041 P := c.mono rfl
  have c81f0104503707073 : Closed 0x81f0104503707073 P := c.mono rfl
  unfold State.afterPass
  dsimp only
  refine keeps_ite ?_ ?_
  · refine State.countStage_keeps c200000000000 ?_
    refine keeps_bring c200000000000 ?_
    refine State.letIn_keeps c120000000000041 ?_
    assumption
  · refine keeps_ite ?_ ?_
    · split
      · refine State.refillStep_keeps c81f0104503707073 ?_
        assumption
      · assumption
    · refine keeps_ite ?_ ?_
      · refine keeps_foldl ?_ _ ?_
        · intro x100 x101 x102
          refine keeps_ite ?_ ?_
          · refine State.sparingNext_keeps c81f0104503707073 ?_
            assumption
          · assumption
        · refine State.endWrite_keeps c4 ?_
          refine State.setCoreStates_keeps c1 ?_
          refine State.setFp_keeps c1 ?_
          refine State.unisolateCore_keeps c120000000000041 ?_
          refine keeps_idleMoves c400000000 ?_
          assumption
      · refine keeps_ite ?_ ?_
        · refine State.letIn_keeps c120000000000041 ?_
          assumption
        · refine keeps_ite ?_ ?_
          · split
            · refine State.returnCore_keeps c120000000000041 ?_
              refine keeps_test c400000000000 ?_
              assumption
            · assumption
          · refine keeps_ite ?_ ?_
            · refine State.showResets_keeps c1 ?_
              refine State.letIn_keeps c120000000000041 ?_
              refine keeps_rcv c40000000000000 ?_
              assumption
            · assumption

theorem State.chargeCross_keeps {P : State → Prop} (c : Closed 0x81f05f5d037af073 P) {s : State} {a2 : _} {a3 : _} {a4 : _}
    {a5 : _} {a6 : _} {a7 : _} (h : P s) :
    P (State.chargeCross s a2 a3 a4 a5 a6 a7) := by
  have c1 : Closed 0x1 P := c.mono rfl
  have c100000000 : Closed 0x100000000 P := c.mono rfl
  have c81f0100000200073 : Closed 0x81f0100000200073 P := c.mono rfl
  have c81f0100101604073 : Closed 0x81f0100101604073 P := c.mono rfl
  have c81f05f5d037af073 : Closed 0x81f05f5d037af073 P := c.mono rfl
  unfold State.chargeCross
  dsimp only
  refine keeps_ite ?_ ?_
  · refine State.chargeMap_keeps c100000000 ?_
    assumption
  · refine keeps_foldl ?_ _ ?_
    · intro x60 x61 x62
      refine State.chargeEngine_keeps c81f05f5d037af073 ?_
      assumption
    · refine State.revertTrim_keeps c81f0100101604073 ?_
      refine State.screen_keeps c81f0100000200073 ?_
      refine keeps_else ?_ ?_
      · refine keeps_foldl ?_ _ ?_
        · intro x100 x101 x102
          refine State.bump_keeps c1 ?_
          assumption
        · assumption
      · intro x80
        refine State.bump_keeps c1 ?_
        refine State.bump_keeps c1 ?_
        assumption

theorem State.commitAround_keeps {P : State → Prop} (c : Closed 0x81f0100000200073 P) {s : State} {a2 : _} {a3 : _} (h : P s) :
    P (State.commitAround s a2 a3) := by
  have c2 : Closed 0x2 P := c.mono rfl
  have c81f0100000200073 : Closed 0x81f0100000200073 P := c.mono rfl
  unfold State.commitAround
  dsimp only
  refine State.setContent_keeps c2 ?_
  refine State.setContent_keeps c2 ?_
  refine State.writeEntry_keeps c81f0100000200073 ?_
  assumption

theorem State.sendControl_keeps {P : State → Prop} (c : Closed 0x100000000020 P) {s : State} {a2 : _} {a3 : _} (h : P s) :
    P (State.sendControl s a2 a3) := by
  have c20 : Closed 0x20 P := c.mono rfl
  have c100000000020 : Closed 0x100000000020 P := c.mono rfl
  unfold State.sendControl
  split
  · refine State.send_keeps c20 ?_
    assumption
  · refine keeps_ite ?_ ?_
    · refine State.signalIbi_keeps c100000000020 ?_
      refine State.send_keeps c20 ?_
      assumption
    · assumption

theorem State.control_keeps {P : State → Prop} (c : Closed 0x100000000020 P) {s : State} {a2 : _} {a3 : _} (h : P s) :
    P (State.control s a2 a3) := by
  have c20 : Closed 0x20 P := c.mono rfl
  have c100000000020 : Closed 0x100000000020 P := c.mono rfl
  unfold State.control
  dsimp only
  refine keeps_then ?_ ?_
  · refine State.begin_keeps c20 ?_
    assumption
  · intro x40
    refine State.sendControl_keeps c100000000020 ?_
    assumption

theorem State.crossEnded_keeps {P : State → Prop} (c : Closed 0x103002030 P) {s : State} {a2 : _} (h : P s) :
    P (State.crossEnded s a2) := by
  have c3002030 : Closed 0x3002030 P := c.mono rfl
  have c100000000 : Closed 0x100000000 P := c.mono rfl
  unfold State.crossEnded
  dsimp only
  split
  · refine State.probeRun_keeps c3002030 ?_
    refine keeps_probings c100000000 ?_
    assumption
  · assumption

theorem State.requestCycle_keeps {P : State → Prop} (c : Closed 0x4000000000000031 P) {s : State} (h : P s) :
    P (State.requestCycle s) := by
  have c1 : Closed 0x1 P := c.mono rfl
  have c10 : Closed 0x10 P := c.mono rfl
  have c20 : Closed 0x20 P := c.mono rfl
  have c4000000000000000 : Closed 0x4000000000000000 P := c.mono rfl
  unfold State.requestCycle
  dsimp only
  refine State.send_keeps c20 ?_
  refine State.putN_keeps c1 ?_
  refine keeps_pwrcyc c4000000000000000 ?_
  refine State.disarm_keeps c10 ?_
  assumption

theorem State.cycleOrWait_keeps {P : State → Prop} (c : Closed 0x4000000000000031 P) {s : State} (h : P s) :
    P (State.cycleOrWait s) := by
  have c10 : Closed 0x10 P := c.mono rfl
  have c4000000000000031 : Closed 0x4000000000000031 P := c.mono rfl
  unfold State.cycleOrWait
  refine keeps_ite ?_ ?_
  · refine State.holdTimers_keeps c10 ?_
    refine State.arm_keeps c10 ?_
    assumption
  · refine State.requestCycle_keeps c4000000000000031 ?_
    assumption

theorem State.dropCross_keeps {P : State → Prop} (c : Closed 0x1000010 P) {s : State} {a2 : _} (h : P s) :
    P (State.dropCross s a2) := by
  have c10 : Closed 0x10 P := c.mono rfl
  have c1000000 : Closed 0x1000000 P := c.mono rfl
  unfold State.dropCross
  refine keeps_foldl ?_ _ ?_
  · intro x40 x41 x42
    refine State.disarm_keeps c10 ?_
    assumption
  · refine keeps_crosses c1000000 ?_
    assumption

theorem State.dropIbis_keeps {P : State → Prop} (c : Closed 0x100000000000 P) {s : State} (h : P s) :
    P (State.dropIbis s) := by
  have c100000000000 : Closed 0x100000000000 P := c.mono rfl
  unfold State.dropIbis
  dsimp only
  refine keeps_err c100000000000 ?_
  assumption

theorem State.engineFailed_keeps {P : State → Prop} (c : Closed 0x81f0100000200073 P) {s : State} {a2 : _} {a3 : _} {a4 : _}
    {a5 : _} (h : P s) :
    P (State.engineFailed s a2 a3 a4 a5) := by
  have c1 : Closed 0x1 P := c.mono rfl
  have c81f0100000200073 : Closed 0x81f0100000200073 P := c.mono rfl
  unfold State.engineFailed
  dsimp only
  refine State.screen_keeps c81f0100000200073 ?_
  refine keeps_ite ?_ ?_
  · refine State.bump_keeps c1 ?_
    assumption
  · refine State.bump_keeps c1 ?_
    assumption

theorem writeTrim_keeps {P : State → Prop} (c : Closed 0x120000101404071 P) {a1 : _} {a2 : _} {s : State} (h : P s) :
    P (writeTrim a1 a2 s).1 := by
  have c120000101404071 : Closed 0x120000101404071 P := c.mono rfl
  unfold writeTrim
  dsimp only
  split
  · dsimp only
    assumption
  · split
    · dsimp only
      assumption
    · split
      · dsimp only
        assumption
      · dsimp only
        refine State.changeTrim_keeps c120000101404071 ?_
        assumption

theorem wordFits_keeps {P : State → Prop} (c : Closed 0x0 P) {a1 : _} {a2 : _} {f3 : State → State × WEnd} {s : State}
    (hf3 : ∀ (x0 : State), P x0 → P (f3 x0).1) (h : P s) :
    P (wordFits a1 a2 f3 s).1 := by
  unfold wordFits
  split
  · refine hf3 _ ?_
    assumption
  · dsimp only
    assumption

theorem clearSticky_keeps {P : State → Prop} (c : Closed 0x1 P) {a1 : _} {a2 : _} {a3 : _} {s : State} (h : P s) :
    P (clearSticky a1 a2 a3 s).1 := by
  have c0 : Closed 0x0 P := c.mono rfl
  have c1 : Closed 0x1 P := c.mono rfl
  unfold clearSticky
  refine wordFits_keeps c0 ?_ ?_
  · intro x40 x41
    dsimp only
    refine State.put_keeps c1 ?_
    assumption
  · assumption

theorem cycleNow_keeps {P : State → Prop} (c : Closed 0x4000000000000031 P) {s : State} (h : P s) :
    P (cycleNow s).1 := by
  have c4000000000000031 : Closed 0x4000000000000031 P := c.mono rfl
  unfold cycleNow
  split
  · dsimp only
    assumption
  · dsimp only
    refine State.cycleOrWait_keeps c4000000000000031 ?_
    assumption

theorem releaseHold_keeps {P : State → Prop} (c : Closed 0x100000000000 P) {s : State} (h : P s) :
    P (releaseHold s).1 := by
  have c100000000000 : Closed 0x100000000000 P := c.mono rfl
  unfold releaseHold
  dsimp only
  split
  · dsimp only
    assumption
  · dsimp only
    refine keeps_err c100000000000 ?_
    assumption

theorem State.unmask_keeps {P : State → Prop} (c : Closed 0x100000000070 P) {s : State} {a2 : _} {a3 : _} {a4 : _} (h : P s) :
    P (State.unmask s a2 a3 a4) := by
  have c40 : Closed 0x40 P := c.mono rfl
  have c100000000030 : Closed 0x100000000030 P := c.mono rfl
  unfold State.unmask
  dsimp only
  refine keeps_ite ?_ ?_
  · refine State.signal_keeps c100000000030 ?_
    refine State.fresh_keeps c40 ?_
    assumption
  · assumption

theorem writeMask_keeps {P : State → Prop} (c : Closed 0x100000000071 P) {a1 : _} {a2 : _} {a3 : _} {s : State} (h : P s) :
    P (writeMask a1 a2 a3 s).1 := by
  have c0 : Closed 0x0 P := c.mono rfl
  have c1 : Closed 0x1 P := c.mono rfl
  have c100000000070 : Closed 0x100000000070 P := c.mono rfl
  unfold writeMask
  dsimp only
  refine wordFits_keeps c0 ?_ ?_
  · intro x40 x41
    split
    · dsimp only
      assumption
    · split
      · dsimp only
        assumption
      · dsimp only
        refine keeps_foldl ?_ _ ?_
        · intro x100 x101 x102
          refine keeps_ite ?_ ?_
          · refine State.unmask_keeps c100000000070 ?_
            assumption
          · assumption
        · refine State.put_keeps c1 ?_
          assumption
  · assumption

theorem eraseCellar_keeps {P : State → Prop} (c : Closed 0x80000000000001 P) {s : State} (h : P s) :
    P (eraseCellar s).1 := by
  have c80000000000001 : Closed 0x80000000000001 P := c.mono rfl
  unfold eraseCellar
  dsimp only
  refine State.setCellar_keeps c80000000000001 ?_
  assumption

theorem writeTransition_keeps {P : State → Prop} (c : Closed 0x4000000000000 P) {a1 : _} {s : State} (h : P s) :
    P (writeTransition a1 s).1 := by
  have c4000000000000 : Closed 0x4000000000000 P := c.mono rfl
  unfold writeTransition
  split
  · dsimp only
    assumption
  · split
    · dsimp only
      assumption
    · split
      · dsimp only
        assumption
      · split
        · split
          · dsimp only
            assumption
          · dsimp only
            refine keeps_lcProgramming c4000000000000 ?_
            assumption
        · split
          · dsimp only
            assumption
          · dsimp only
            refine keeps_lcProgramming c4000000000000 ?_
            assumption

theorem State.handOver_keeps {P : State → Prop} (c : Closed 0x5800002021 P) {s : State} {a2 : _} (h : P s) :
    P (State.handOver s a2) := by
  have c1000000000 : Closed 0x1000000000 P := c.mono rfl
  have c4000002021 : Closed 0x4000002021 P := c.mono rfl
  have c4800000021 : Closed 0x4800000021 P := c.mono rfl
  unfold State.handOver
  refine keeps_ite ?_ ?_
  · refine State.fillIdle_keeps c4800000021 ?_
    refine keeps_idleWaits c1000000000 ?_
    assumption
  · split
    · refine keeps_ite ?_ ?_
      · refine State.beginFill_keeps c4000002021 ?_
        assumption
      · assumption
    · assumption

theorem State.judgePair_keeps {P : State → Prop} (c : Closed 0x81f05f5d037af073 P) {s : State} {a2 : _} {a3 : _} {a4 : _}
    {a5 : _} {a6 : _} (h : P s) :
    P (State.judgePair s a2 a3 a4 a5 a6) := by
  have c1 : Closed 0x1 P := c.mono rfl
  have c2030 : Closed 0x2030 P := c.mono rfl
  have c1000000 : Closed 0x1000000 P := c.mono rfl
  have c1000010 : Closed 0x1000010 P := c.mono rfl
  have c100000000 : Closed 0x100000000 P := c.mono rfl
  have c81f05f5d037af073 : Closed 0x81f05f5d037af073 P := c.mono rfl
  unfold State.judgePair
  dsimp only
  refine keeps_else ?_ ?_
  · refine State.bump_keeps c1 ?_
    refine State.dropCross_keeps c1000010 ?_
    assumption
  · intro x40
    refine keeps_ite ?_ ?_
    · refine keeps_then ?_ ?_
      · refine keeps_then ?_ ?_
        · assumption
        · intro x100
          refine State.chargeMap_keeps c100000000 ?_
          assumption
      · intro x80
        refine State.chargeMap_keeps c100000000 ?_
        assumption
    · split
      · refine State.issueCross_keeps c2030 ?_
        refine keeps_crosses c1000000 ?_
        assumption
      · refine keeps_ite ?_ ?_
        · refine State.bump_keeps c1 ?_
          assumption
        · refine State.chargeCross_keeps c81f05f5d037af073 ?_
          refine State.chargeCross_keeps c81f05f5d037af073 ?_
          refine State.bump_keeps c1 ?_
          assumption

theorem State.judgeThree_keeps {P : State → Prop} (c : Closed 0x81f05f5d037af073 P) {s : State} {a2 : _} {a3 : _} {a4 : _}
    {a5 : _} {a6 : _} {a7 : _} {a8 : _} (h : P s) :
    P (State.judgeThree s a2 a3 a4 a5 a6 a7 a8) := by
  have c1 : Closed 0x1 P := c.mono rfl
  have c1000010 : Closed 0x1000010 P := c.mono rfl
  have c81f05f5d037af073 : Closed 0x81f05f5d037af073 P := c.mono rfl
  unfold State.judgeThree
  dsimp only
  refine keeps_else ?_ ?_
  · refine keeps_else ?_ ?_
    · refine keeps_else ?_ ?_
      · refine keeps_else ?_ ?_
        · refine State.bump_keeps c1 ?_
          refine State.dropCross_keeps c1000010 ?_
          assumption
        · intro x100
          refine State.chargeCross_keeps c81f05f5d037af073 ?_
          assumption
      · intro x80
        refine State.chargeCross_keeps c81f05f5d037af073 ?_
        assumption
    · intro x60
      refine State.chargeCross_keeps c81f05f5d037af073 ?_
      assumption
  · intro x40
    refine State.chargeCross_keeps c81f05f5d037af073 ?_
    refine State.chargeCross_keeps c81f05f5d037af073 ?_
    refine State.chargeCross_keeps c81f05f5d037af073 ?_
    refine State.bump_keeps c1 ?_
    assumption

theorem State.judgeCross_keeps {P : State → Prop} (c : Closed 0x81f05f5d037af073 P) {s : State} {a2 : _} (h : P s) :
    P (State.judgeCross s a2) := by
  have c1 : Closed 0x1 P := c.mono rfl
  have c1000010 : Closed 0x1000010 P := c.mono rfl
  have c103002030 : Closed 0x103002030 P := c.mono rfl
  have c81f05f5d037af073 : Closed 0x81f05f5d037af073 P := c.mono rfl
  unfold State.judgeCross
  dsimp only
  refine keeps_ite ?_ ?_
  · assumption
  · split
    · split
      · refine keeps_else ?_ ?_
        · refine State.judgePair_keeps c81f05f5d037af073 ?_
          assumption
        · intro x100
          refine State.crossEnded_keeps c103002030 ?_
          assumption
      · refine State.crossEnded_keeps c103002030 ?_
        refine State.dropCross_keeps c1000010 ?_
        assumption
    · split
      · refine State.crossEnded_keeps c103002030 ?_
        refine State.judgeThree_keeps c81f05f5d037af073 ?_
        assumption
      · refine State.crossEnded_keeps c103002030 ?_
        refine State.chargeCross_keeps c81f05f5d037af073 ?_
        refine State.chargeCross_keeps c81f05f5d037af073 ?_
        refine State.bump_keeps c1 ?_
        refine State.bump_keeps c1 ?_
        refine State.dropCross_keeps c1000010 ?_
        assumption
      · refine State.crossEnded_keeps c103002030 ?_
        refine State.dropCross_keeps c1000010 ?_
        assumption
    · refine State.crossEnded_keeps c103002030 ?_
      refine State.dropCross_keeps c1000010 ?_
      assumption

theorem State.marginEvent_keeps {P : State → Prop} (c : Closed 0x80000000000001 P) {s : State} {a2 : _} {a3 : _} {a4 : _}
    (h : P s) :
    P (State.marginEvent s a2 a3 a4) := by
  have c80000000000001 : Closed 0x80000000000001 P := c.mono rfl
  unfold State.marginEvent
  refine keeps_ite ?_ ?_
  · assumption
  · refine State.event_keeps c80000000000001 ?_
    assumption

theorem State.nextIbi_keeps {P : State → Prop} (c : Closed 0x100000000020 P) {s : State} (h : P s) :
    P (State.nextIbi s) := by
  have c20 : Closed 0x20 P := c.mono rfl
  have c100000000000 : Closed 0x100000000000 P := c.mono rfl
  unfold State.nextIbi
  dsimp only
  split
  · refine keeps_err c100000000000 ?_
    assumption
  · refine State.send_keeps c20 ?_
    refine keeps_err c100000000000 ?_
    assumption

theorem State.patrolEntry_keeps {P : State → Prop} (c : Closed 0x81f0100000200073 P) {s : State} {a2 : _} {a3 : _} (h : P s) :
    P (State.patrolEntry s a2 a3) := by
  have c1 : Closed 0x1 P := c.mono rfl
  have c80000000000001 : Closed 0x80000000000001 P := c.mono rfl
  have c81f0100000200073 : Closed 0x81f0100000200073 P := c.mono rfl
  unfold State.patrolEntry
  dsimp only
  refine State.raise_keeps c81f0100000200073 ?_
  refine State.bump_keeps c1 ?_
  refine State.setCellar_keeps c80000000000001 ?_
  assumption

theorem State.regulatorFails_keeps {P : State → Prop} (c : Closed 0x81f0100200200073 P) {s : State} {a2 : _} (h : P s) :
    P (State.regulatorFails s a2) := by
  have c1 : Closed 0x1 P := c.mono rfl
  have c200000000 : Closed 0x200000000 P := c.mono rfl
  have c81f0100000200073 : Closed 0x81f0100000200073 P := c.mono rfl
  unfold State.regulatorFails
  dsimp only
  refine State.screen_keeps c81f0100000200073 ?_
  refine keeps_badRegulators c200000000 ?_
  refine State.bump_keeps c1 ?_
  assumption

theorem State.restoreFailed_keeps {P : State → Prop} (c : Closed 0x81f05f5d037a7073 P) {s : State} {a2 : _} (h : P s) :
    P (State.restoreFailed s a2) := by
  have c1 : Closed 0x1 P := c.mono rfl
  have c100000011 : Closed 0x100000011 P := c.mono rfl
  have c1000000000 : Closed 0x1000000000 P := c.mono rfl
  have c1400000000 : Closed 0x1400000000 P := c.mono rfl
  have c100000000000000 : Closed 0x100000000000000 P := c.mono rfl
  have c81f05f5d037a7073 : Closed 0x81f05f5d037a7073 P := c.mono rfl
  unfold State.restoreFailed
  dsimp only
  refine keeps_else ?_ ?_
  · refine State.fenceIfOn_keeps c81f05f5d037a7073 ?_
    refine State.upProbe_keeps c100000000000000 ?_
    refine keeps_ite ?_ ?_
    · refine State.dropProbing_keeps c100000011 ?_
      assumption
    · assumption
  · intro x40
    refine keeps_ite ?_ ?_
    · split
      · split
        · refine keeps_idleMoves_idleWaits c1400000000 ?_
          refine keeps_foldl ?_ _ ?_
          · intro x120 x121 x122
            refine State.setGalley_keeps c1 ?_
            assumption
          · refine State.fenceIfOn_keeps c81f05f5d037a7073 ?_
            refine State.upProbe_keeps c100000000000000 ?_
            refine State.dropProbing_keeps c100000011 ?_
            assumption
        · refine keeps_idleWaits c1000000000 ?_
          refine keeps_foldl ?_ _ ?_
          · intro x120 x121 x122
            refine State.setGalley_keeps c1 ?_
            assumption
          · refine State.fenceIfOn_keeps c81f05f5d037a7073 ?_
            refine State.upProbe_keeps c100000000000000 ?_
            refine State.dropProbing_keeps c100000011 ?_
            assumption
      · split
        · refine keeps_idleMoves_idleWaits c1400000000 ?_
          refine keeps_foldl ?_ _ ?_
          · intro x120 x121 x122
            refine State.setGalley_keeps c1 ?_
            assumption
          · refine State.fenceIfOn_keeps c81f05f5d037a7073 ?_
            refine State.upProbe_keeps c100000000000000 ?_
            assumption
        · refine keeps_idleWaits c1000000000 ?_
          refine keeps_foldl ?_ _ ?_
          · intro x120 x121 x122
            refine State.setGalley_keeps c1 ?_
            assumption
          · refine State.fenceIfOn_keeps c81f05f5d037a7073 ?_
            refine State.upProbe_keeps c100000000000000 ?_
            assumption
    · split
      · refine keeps_then ?_ ?_
        · refine keeps_foldl ?_ _ ?_
          · intro x120 x121 x122
            refine State.setGalley_keeps c1 ?_
            assumption
          · assumption
        · intro x100
          refine State.replacementFailed_keeps c81f05f5d037a7073 ?_
          assumption
      · refine keeps_foldl ?_ _ ?_
        · intro x100 x101 x102
          refine State.setGalley_keeps c1 ?_
          assumption
        · assumption

theorem State.startPairs_keeps {P : State → Prop} (c : Closed 0x3002030 P) {s : State} {a2 : _} {a3 : _} (h : P s) :
    P (State.startPairs s a2 a3) := by
  have c3002030 : Closed 0x3002030 P := c.mono rfl
  unfold State.startPairs
  refine keeps_foldl ?_ _ ?_
  · intro x40 x41 x42
    split
    · refine State.startPair_keeps c3002030 ?_
      assumption
    · assumption
  · assumption

theorem State.resumeScreening_keeps {P : State → Prop} (c : Closed 0x81f05f5de3faf073 P) {s : State} (h : P s) :
    P (State.resumeScreening s) := by
  have cc02030 : Closed 0xc02030 P := c.mono rfl
  have c3002030 : Closed 0x3002030 P := c.mono rfl
  have c20000000 : Closed 0x20000000 P := c.mono rfl
  have cc0000000 : Closed 0xc0000000 P := c.mono rfl
  have c81f05f5d037af073 : Closed 0x81f05f5d037af073 P := c.mono rfl
  unfold State.resumeScreening
  dsimp only
  refine keeps_foldl ?_ _ ?_
  · intro x40 x41 x42
    refine State.probeRun_keeps c3002030 ?_
    assumption
  · refine State.startPairs_keeps c3002030 ?_
    refine keeps_foldl ?_ _ ?_
    · intro x60 x61 x62
      refine keeps_ite ?_ ?_
      · refine State.judgeCross_keeps c81f05f5d037af073 ?_
        assumption
      · assumption
    · refine keeps_foldl ?_ _ ?_
      · intro x80 x81 x82
        refine State.issueSpecimen_keeps cc02030 ?_
        refine keeps_deferred c20000000 ?_
        assumption
      · refine keeps_waitingCross_waitingRuns cc0000000 ?_
        assumption

theorem State.runFails_keeps {P : State → Prop} (c : Closed 0x81f07f5d03fa7077 P) {s : State} {a2 : _} {a3 : _} {a4 : _}
    {a5 : _} (h : P s) :
    P (State.runFails s a2 a3 a4 a5) := by
  have c1 : Closed 0x1 P := c.mono rfl
  have c400010 : Closed 0x400010 P := c.mono rfl
  have cc02030 : Closed 0xc02030 P := c.mono rfl
  have c81f0100000200073 : Closed 0x81f0100000200073 P := c.mono rfl
  have c81f0100101604073 : Closed 0x81f0100101604073 P := c.mono rfl
  have c81f07f5d037a7077 : Closed 0x81f07f5d037a7077 P := c.mono rfl
  unfold State.runFails
  dsimp only
  refine keeps_ite ?_ ?_
  · refine State.issueRun_keeps cc02030 ?_
    refine State.bump_keeps c1 ?_
    refine State.endSpecimen_keeps c400010 ?_
    assumption
  · refine State.afterFailure_keeps c81f07f5d037a7077 ?_
    refine State.revertTrim_keeps c81f0100101604073 ?_
    refine keeps_foldl ?_ _ ?_
    · intro x60 x61 x62
      refine State.engineFailed_keeps c81f0100000200073 ?_
      assumption
    · refine State.bump_keeps c1 ?_
      refine State.endSpecimen_keeps c400010 ?_
      assumption

theorem State.transient_keeps {P : State → Prop} (c : Closed 0x81f0300000200073 P) {s : State} {a2 : _} (h : P s) :
    P (State.transient s a2) := by
  have c1 : Closed 0x1 P := c.mono rfl
  have c10 : Closed 0x10 P := c.mono rfl
  have c200000000000 : Closed 0x200000000000 P := c.mono rfl
  have c81f0100000200073 : Closed 0x81f0100000200073 P := c.mono rfl
  unfold State.transient
  dsimp only
  refine State.arm_keeps c10 ?_
  refine keeps_then ?_ ?_
  · refine keeps_foldl ?_ _ ?_
    · intro x60 x61 x62
      refine State.screen_keeps c81f0100000200073 ?_
      assumption
    · refine State.bump_keeps c1 ?_
      assumption
  · intro x40
    refine State.countStage_keeps c200000000000 ?_
    assumption

theorem State.runPasses_keeps {P : State → Prop} (c : Closed 0x81f0704503707077 P) {s : State} {a2 : _} (h : P s) :
    P (State.runPasses s a2) := by
  have c1 : Closed 0x1 P := c.mono rfl
  have c400010 : Closed 0x400010 P := c.mono rfl
  have c100000000000000 : Closed 0x100000000000000 P := c.mono rfl
  have c81f0300000200073 : Closed 0x81f0300000200073 P := c.mono rfl
  have c81f0704503707077 : Closed 0x81f0704503707077 P := c.mono rfl
  unfold State.runPasses
  dsimp only
  refine State.afterPass_keeps c81f0704503707077 ?_
  refine keeps_then ?_ ?_
  · refine State.upProbe_keeps c100000000000000 ?_
    refine State.put_keeps c1 ?_
    refine State.endSpecimen_keeps c400010 ?_
    assumption
  · intro x40
    refine State.transient_keeps c81f0300000200073 ?_
    assumption

theorem State.sampleDram_keeps {P : State → Prop} (c : Closed 0x81f0100000200073 P) {s : State} {a2 : _} {a3 : _} {a4 : _}
    (h : P s) :
    P (State.sampleDram s a2 a3 a4) := by
  have c1 : Closed 0x1 P := c.mono rfl
  have c80000000000001 : Closed 0x80000000000001 P := c.mono rfl
  have c81f0100000200073 : Closed 0x81f0100000200073 P := c.mono rfl
  unfold State.sampleDram
  dsimp only
  refine keeps_else ?_ ?_
  · refine State.putN_keeps c1 ?_
    refine State.putN_keeps c1 ?_
    assumption
  · intro x40
    refine State.raiseWith_keeps c81f0100000200073 ?_
    refine State.marginEvent_keeps c80000000000001 ?_
    refine State.bumpBy_keeps c1 ?_
    assumption

theorem State.sampleLink_keeps {P : State → Prop} (c : Closed 0x81f0100000200073 P) {s : State} {a2 : _} {a3 : _} {a4 : _}
    (h : P s) :
    P (State.sampleLink s a2 a3 a4) := by
  have c1 : Closed 0x1 P := c.mono rfl
  have c80000000000001 : Closed 0x80000000000001 P := c.mono rfl
  have c81f0100000200073 : Closed 0x81f0100000200073 P := c.mono rfl
  unfold State.sampleLink
  dsimp only
  refine keeps_ite ?_ ?_
  · assumption
  · refine keeps_else ?_ ?_
    · refine State.putN_keeps c1 ?_
      refine State.put_keeps c1 ?_
      refine State.putN_keeps c1 ?_
      refine State.putN_keeps c1 ?_
      refine State.putN_keeps c1 ?_
      refine State.putN_keeps c1 ?_
      assumption
    · intro x60
      refine State.raise_keeps c81f0100000200073 ?_
      refine State.marginEvent_keeps c80000000000001 ?_
      refine State.bumpBy_keeps c1 ?_
      refine State.bumpBy_keeps c1 ?_
      assumption

theorem State.scheduledRun_keeps {P : State → Prop} (c : Closed 0x60c02031 P) {s : State} {a2 : _} (h : P s) :
    P (State.scheduledRun s a2) := by
  unfold State.scheduledRun
  dsimp only
  refine keeps_ite h ?_
  refine keeps_ite ?_ ?_
  · obtain ⟨v, hv⟩ := bumpBy_put s (key 0x2201 8) 1
    have e : (s.bump (key 0x2201 8)).deferred = s.deferred := by rw [State.bump, hv]; rfl
    rw [← e]
    exact keeps_deferred_waitingRuns (c.mono rfl) (State.bump_keeps (c.mono rfl) h)
  · exact State.issueSpecimen_keeps (c.mono rfl) (keeps_deferred_waitingRuns (c.mono rfl) h)

theorem State.startProbe_keeps {P : State → Prop} (c : Closed 0x81f05f5d037a7073 P) {s : State} {a2 : _} (h : P s) :
    P (State.startProbe s a2) := by
  have c1 : Closed 0x1 P := c.mono rfl
  have c40 : Closed 0x40 P := c.mono rfl
  have c100000000 : Closed 0x100000000 P := c.mono rfl
  have c81f05f5d037a7073 : Closed 0x81f05f5d037a7073 P := c.mono rfl
  unfold State.startProbe
  dsimp only
  refine State.stepDown_keeps c81f05f5d037a7073 ?_
  refine State.planChanged_keeps c1 ?_
  refine State.putN_keeps c1 ?_
  refine keeps_probings c100000000 ?_
  refine State.fresh_keeps c40 ?_
  refine State.fresh_keeps c40 ?_
  assumption

theorem State.tryProbe_keeps {P : State → Prop} (c : Closed 0x81f05f5d037a7073 P) {s : State} {a2 : _} (h : P s) :
    P (State.tryProbe s a2) := by
  have c81f05f5d037a7073 : Closed 0x81f05f5d037a7073 P := c.mono rfl
  unfold State.tryProbe
  refine keeps_ite ?_ ?_
  · refine State.startProbe_keeps c81f05f5d037a7073 ?_
    assumption
  · assumption

theorem execBudgetWindowEnd_keeps {P : State → Prop} (c : Closed 0x87f05fddfbfaf1f7 P) {a1 : _} {a2 : _} {a3 : _} {a4 : _}
    {s : State} (h : P s) :
    NextHas P (execBudgetWindowEnd a1 a2 a3 a4 s) := by
  have c1 : Closed 0x1 P := c.mono rfl
  have c20 : Closed 0x20 P := c.mono rfl
  have c8000010 : Closed 0x8000010 P := c.mono rfl
  have c10000000 : Closed 0x10000000 P := c.mono rfl
  have c81f0100000200073 : Closed 0x81f0100000200073 P := c.mono rfl
  have c81f05f5de3faf073 : Closed 0x81f05f5de3faf073 P := c.mono rfl
  have c87f010dd037a71f7 : Closed 0x87f010dd037a71f7 P := c.mono rfl
  unfold execBudgetWindowEnd
  dsimp only
  refine has_ite ?_ ?_
  · refine nextHas ?_
    refine State.begin_keeps c20 ?_
    assumption
  · refine nextHas ?_
    refine State.settleAll_keeps c87f010dd037a71f7 ?_
    refine keeps_ite ?_ ?_
    · refine State.raise_keeps c81f0100000200073 ?_
      refine State.bump_keeps c1 ?_
      refine keeps_overBudget c10000000 ?_
      refine State.putN_keeps c1 ?_
      refine State.putN_keeps c1 ?_
      refine State.putN_keeps c1 ?_
      refine State.putN_keeps c1 ?_
      refine State.armBudget_keeps c8000010 ?_
      refine State.begin_keeps c20 ?_
      assumption
    · refine State.resumeScreening_keeps c81f05f5de3faf073 ?_
      refine keeps_overBudget c10000000 ?_
      refine State.putN_keeps c1 ?_
      refine State.putN_keeps c1 ?_
      refine State.putN_keeps c1 ?_
      refine State.putN_keeps c1 ?_
      refine State.armBudget_keeps c8000010 ?_
      refine State.begin_keeps c20 ?_
      assumption

theorem execCellarErase_keeps {P : State → Prop} (c : Closed 0x80100000000025 P) {a1 : _} {s : State} (h : P s) :
    NextHas P (execCellarErase a1 s) := by
  have c20 : Closed 0x20 P := c.mono rfl
  have c100000000005 : Closed 0x100000000005 P := c.mono rfl
  have c80000000000001 : Closed 0x80000000000001 P := c.mono rfl
  unfold execCellarErase
  refine nextHas ?_
  refine State.granted_keeps c100000000005 ?_ ?_
  · refine State.begin_keeps c20 ?_
    assumption
  · intro x40 x41
    refine eraseCellar_keeps c80000000000001 ?_
    assumption

theorem execCellarPatrol_keeps {P : State → Prop} (c : Closed 0x87f010dd037a71f7 P) {a1 : _} {s : State} (h : P s) :
    NextHas P (execCellarPatrol a1 s) := by
  have c1 : Closed 0x1 P := c.mono rfl
  have c10 : Closed 0x10 P := c.mono rfl
  have c20 : Closed 0x20 P := c.mono rfl
  have c81f0100000200073 : Closed 0x81f0100000200073 P := c.mono rfl
  have c87f010dd037a71f7 : Closed 0x87f010dd037a71f7 P := c.mono rfl
  unfold execCellarPatrol
  dsimp only
  refine has_ite ?_ ?_
  · refine nextHas ?_
    refine State.begin_keeps c20 ?_
    assumption
  · refine has_ite ?_ ?_
    · refine nextHas ?_
      refine State.arm_keeps c10 ?_
      refine State.begin_keeps c20 ?_
      assumption
    · refine nextHas ?_
      refine State.settleAll_keeps c87f010dd037a71f7 ?_
      refine State.put_keeps c1 ?_
      refine keeps_foldl ?_ _ ?_
      · intro x80 x81 x82
        refine State.patrolEntry_keeps c81f0100000200073 ?_
        assumption
      · refine State.arm_keeps c10 ?_
        refine State.begin_keeps c20 ?_
        assumption

theorem execCrosscoreInterval_keeps {P : State → Prop} (c : Closed 0x87f010dd877a71f7 P) {s : State} (h : P s) :
    NextHas P (execCrosscoreInterval s) := by
  have c1 : Closed 0x1 P := c.mono rfl
  have c10 : Closed 0x10 P := c.mono rfl
  have c20 : Closed 0x20 P := c.mono rfl
  have c3002030 : Closed 0x3002030 P := c.mono rfl
  have c84000000 : Closed 0x84000000 P := c.mono rfl
  have c87f010dd037a71f7 : Closed 0x87f010dd037a71f7 P := c.mono rfl
  unfold execCrosscoreInterval
  dsimp only
  refine has_ite ?_ ?_
  · refine nextHas ?_
    refine State.begin_keeps c20 ?_
    assumption
  · refine has_ite ?_ ?_
    · refine nextHas ?_
      refine State.arm_keeps c10 ?_
      refine State.begin_keeps c20 ?_
      assumption
    · refine nextHas ?_
      refine State.settleAll_keeps c87f010dd037a71f7 ?_
      refine State.startPairs_keeps c3002030 ?_
      refine State.bumpBy_keeps c1 ?_
      refine keeps_crossPass_waitingCross c84000000 ?_
      refine State.arm_keeps c10 ?_
      refine State.begin_keeps c20 ?_
      assumption

theorem execCrosscoreRunDone_keeps {P : State → Prop} (c : Closed 0x87f05fdd037af1f7 P) {a1 : _} {a2 : _} {a3 : _}
    {s : State} (h : P s) :
    NextHas P (execCrosscoreRunDone a1 a2 a3 s) := by
  have c1 : Closed 0x1 P := c.mono rfl
  have c20 : Closed 0x20 P := c.mono rfl
  have c1000000 : Closed 0x1000000 P := c.mono rfl
  have c8080100000000011 : Closed 0x8080100000000011 P := c.mono rfl
  have c81f05f5d037af073 : Closed 0x81f05f5d037af073 P := c.mono rfl
  have c87f010dd037a71f7 : Closed 0x87f010dd037a71f7 P := c.mono rfl
  unfold execCrosscoreRunDone
  dsimp only
  split
  · refine nextHas ?_
    refine State.late_keeps c1 ?_
    refine State.begin_keeps c20 ?_
    assumption
  · refine nextHas ?_
    refine State.settleAll_keeps c87f010dd037a71f7 ?_
    refine State.judgeCross_keeps c81f05f5d037af073 ?_
    refine keeps_crosses c1000000 ?_
    refine State.bump_keeps c1 ?_
    refine State.arrives_keeps c8080100000000011 ?_
    refine State.begin_keeps c20 ?_
    assumption

theorem execCrosscoreTimeout_keeps {P : State → Prop} (c : Closed 0x87f05fdd037af1f7 P) {a1 : _} {a2 : _} {s : State}
    (h : P s) :
    NextHas P (execCrosscoreTimeout a1 a2 s) := by
  have c1 : Closed 0x1 P := c.mono rfl
  have c20 : Closed 0x20 P := c.mono rfl
  have c1000000 : Closed 0x1000000 P := c.mono rfl
  have c100000000010 : Closed 0x100000000010 P := c.mono rfl
  have c81f05f5d037af073 : Closed 0x81f05f5d037af073 P := c.mono rfl
  have c87f010dd037a71f7 : Closed 0x87f010dd037a71f7 P := c.mono rfl
  unfold execCrosscoreTimeout
  dsimp only
  refine has_ite ?_ ?_
  · refine nextHas ?_
    refine State.begin_keeps c20 ?_
    assumption
  · split
    · refine nextHas ?_
      refine State.expire_keeps c100000000010 ?_
      refine State.begin_keeps c20 ?_
      assumption
    · refine nextHas ?_
      refine State.settleAll_keeps c87f010dd037a71f7 ?_
      refine State.judgeCross_keeps c81f05f5d037af073 ?_
      refine State.chargeCross_keeps c81f05f5d037af073 ?_
      refine keeps_crosses c1000000 ?_
      refine State.bump_keeps c1 ?_
      refine State.expire_keeps c100000000010 ?_
      refine State.begin_keeps c20 ?_
      assumption

theorem execDisec_keeps {P : State → Prop} (c : Closed 0x100000000020 P) {s : State} (h : P s) :
    NextHas P (execDisec s) := by
  have c20 : Closed 0x20 P := c.mono rfl
  have c100000000000 : Closed 0x100000000000 P := c.mono rfl
  unfold execDisec
  dsimp only
  refine nextHas ?_
  refine State.onBus_keeps c20 ?_ ?_
  · assumption
  · intro x40 x41
    refine State.dropIbis_keeps c100000000000 ?_
    refine keeps_err c100000000000 ?_
    assumption

theorem execDwellDone_keeps {P : State → Prop} (c : Closed 0x87f05fdd037a71f7 P) {a1 : _} {a2 : _} {a3 : _} {s : State}
    (h : P s) :
    NextHas P (execDwellDone a1 a2 a3 s) := by
  have c20 : Closed 0x20 P := c.mono rfl
  have c81f05f5d037a7073 : Closed 0x81f05f5d037a7073 P := c.mono rfl
  have c87f010dd037a71f7 : Closed 0x87f010dd037a71f7 P := c.mono rfl
  unfold execDwellDone
  dsimp only
  split
  · refine nextHas ?_
    refine State.begin_keeps c20 ?_
    assumption
  · refine has_ite ?_ ?_
    · refine nextHas ?_
      refine State.settleAll_keeps c87f010dd037a71f7 ?_
      refine State.afterDwell_keeps c81f05f5d037a7073 ?_
      refine State.begin_keeps c20 ?_
      assumption
    · refine nextHas ?_
      refine State.begin_keeps c20 ?_
      assumption

theorem execEnec_keeps {P : State → Prop} (c : Closed 0x100000000020 P) {s : State} (h : P s) :
    NextHas P (execEnec s) := by
  have c20 : Closed 0x20 P := c.mono rfl
  have c100000000000 : Closed 0x100000000000 P := c.mono rfl
  unfold execEnec
  dsimp only
  refine nextHas ?_
  refine State.onBus_keeps c20 ?_ ?_
  · assumption
  · intro x40 x41
    refine keeps_err c100000000000 ?_
    assumption

theorem execEntdaa_keeps {P : State → Prop} (c : Closed 0x21 P) {a1 : _} {s : State} (h : P s) :
    NextHas P (execEntdaa a1 s) := by
  have c1 : Closed 0x1 P := c.mono rfl
  have c20 : Closed 0x20 P := c.mono rfl
  unfold execEntdaa
  refine nextHas ?_
  refine State.onBus_keeps c20 ?_ ?_
  · assumption
  · intro x40 x41
    refine keeps_ite ?_ ?_
    · refine State.putN_keeps c1 ?_
      assumption
    · assumption

theorem execErrPulseEnd_keeps {P : State → Prop} (c : Closed 0x100000000030 P) {s : State} (h : P s) :
    NextHas P (execErrPulseEnd s) := by
  have c10 : Closed 0x10 P := c.mono rfl
  have c20 : Closed 0x20 P := c.mono rfl
  have c100000000000 : Closed 0x100000000000 P := c.mono rfl
  unfold execErrPulseEnd
  dsimp only
  refine has_ite ?_ ?_
  · refine nextHas ?_
    refine State.begin_keeps c20 ?_
    assumption
  · refine nextHas ?_
    refine keeps_err c100000000000 ?_
    refine State.disarm_keeps c10 ?_
    refine State.begin_keeps c20 ?_
    assumption

theorem execErrorRecordCommit_keeps {P : State → Prop} (c : Closed 0x87f010dd037a71f7 P) {a1 : _} {s : State} (h : P s) :
    NextHas P (execErrorRecordCommit a1 s) := by
  have c20 : Closed 0x20 P := c.mono rfl
  have c100000000000 : Closed 0x100000000000 P := c.mono rfl
  have c8080100000000011 : Closed 0x8080100000000011 P := c.mono rfl
  have c81f0100000200073 : Closed 0x81f0100000200073 P := c.mono rfl
  have c87f010dd037a71f7 : Closed 0x87f010dd037a71f7 P := c.mono rfl
  unfold execErrorRecordCommit
  dsimp only
  refine has_ite ?_ ?_
  · refine nextHas ?_
    refine State.begin_keeps c20 ?_
    assumption
  · split
    · refine nextHas ?_
      refine State.settleAll_keeps c87f010dd037a71f7 ?_
      refine State.commitAround_keeps c81f0100000200073 ?_
      refine keeps_err c100000000000 ?_
      refine State.begin_keeps c20 ?_
      assumption
    · split
      · refine nextHas ?_
        refine State.begin_keeps c20 ?_
        assumption
      · refine nextHas ?_
        refine State.settleAll_keeps c87f010dd037a71f7 ?_
        refine keeps_err c100000000000 ?_
        refine State.commitAround_keeps c81f0100000200073 ?_
        refine State.arrives_keeps c8080100000000011 ?_
        refine State.begin_keeps c20 ?_
        assumption

theorem execGetEndpointId_keeps {P : State → Prop} (c : Closed 0x100000000020 P) {a1 : _} {s : State} (h : P s) :
    NextHas P (execGetEndpointId a1 s) := by
  have c100000000020 : Closed 0x100000000020 P := c.mono rfl
  unfold execGetEndpointId
  refine nextHas ?_
  refine State.control_keeps c100000000020 ?_
  assumption

theorem execGetEndpointUuid_keeps {P : State → Prop} (c : Closed 0x100000000020 P) {a1 : _} {s : State} (h : P s) :
    NextHas P (execGetEndpointUuid a1 s) := by
  have c100000000020 : Closed 0x100000000020 P := c.mono rfl
  unfold execGetEndpointUuid
  refine nextHas ?_
  refine State.control_keeps c100000000020 ?_
  assumption

theorem execGetMctpVersionSupport_keeps {P : State → Prop} (c : Closed 0x100000000060 P) {a1 : _} {a2 : _} {s : State}
    (h : P s) :
    NextHas P (execGetMctpVersionSupport a1 a2 s) := by
  have c40 : Closed 0x40 P := c.mono rfl
  have c100000000020 : Closed 0x100000000020 P := c.mono rfl
  unfold execGetMctpVersionSupport
  dsimp only
  refine nextHas ?_
  refine State.control_keeps c100000000020 ?_
  refine State.fresh_keeps c40 ?_
  assumption

theorem execGetMessageTypeSupport_keeps {P : State → Prop} (c : Closed 0x100000000020 P) {a1 : _} {s : State} (h : P s) :
    NextHas P (execGetMessageTypeSupport a1 s) := by
  have c100000000020 : Closed 0x100000000020 P := c.mono rfl
  unfold execGetMessageTypeSupport
  refine nextHas ?_
  refine State.control_keeps c100000000020 ?_
  assumption

theorem execGetVendorDefinedMessageSupport_keeps {P : State → Prop} (c : Closed 0x100000000020 P) {a1 : _} {a2 : _}
    {s : State} (h : P s) :
    NextHas P (execGetVendorDefinedMessageSupport a1 a2 s) := by
  have c100000000020 : Closed 0x100000000020 P := c.mono rfl
  unfold execGetVendorDefinedMessageSupport
  refine nextHas ?_
  refine State.control_keeps c100000000020 ?_
  assumption

theorem execGetbcr_keeps {P : State → Prop} (c : Closed 0x20 P) {s : State} (h : P s) :
    NextHas P (execGetbcr s) := by
  have c20 : Closed 0x20 P := c.mono rfl
  unfold execGetbcr
  refine nextHas ?_
  refine State.addressed_keeps c20 ?_ ?_
  · assumption
  · intro x40 x41
    refine State.send_keeps c20 ?_
    assumption

theorem execGetdcr_keeps {P : State → Prop} (c : Closed 0x20 P) {s : State} (h : P s) :
    NextHas P (execGetdcr s) := by
  have c20 : Closed 0x20 P := c.mono rfl
  unfold execGetdcr
  refine nextHas ?_
  refine State.addressed_keeps c20 ?_ ?_
  · assumption
  · intro x40 x41
    refine State.send_keeps c20 ?_
    assumption

theorem execGetmrl_keeps {P : State → Prop} (c : Closed 0x20 P) {s : State} (h : P s) :
    NextHas P (execGetmrl s) := by
  have c20 : Closed 0x20 P := c.mono rfl
  unfold execGetmrl
  refine nextHas ?_
  refine State.addressed_keeps c20 ?_ ?_
  · assumption
  · intro x40 x41
    refine State.send_keeps c20 ?_
    assumption

theorem execGetmwl_keeps {P : State → Prop} (c : Closed 0x20 P) {s : State} (h : P s) :
    NextHas P (execGetmwl s) := by
  have c20 : Closed 0x20 P := c.mono rfl
  unfold execGetmwl
  refine nextHas ?_
  refine State.addressed_keeps c20 ?_ ?_
  · assumption
  · intro x40 x41
    refine State.send_keeps c20 ?_
    assumption

theorem execGetpid_keeps {P : State → Prop} (c : Closed 0x20 P) {s : State} (h : P s) :
    NextHas P (execGetpid s) := by
  have c20 : Closed 0x20 P := c.mono rfl
  unfold execGetpid
  refine nextHas ?_
  refine State.addressed_keeps c20 ?_ ?_
  · assumption
  · intro x40 x41
    refine State.send_keeps c20 ?_
    assumption

theorem execGetstatus_keeps {P : State → Prop} (c : Closed 0x60 P) {s : State} (h : P s) :
    NextHas P (execGetstatus s) := by
  have c20 : Closed 0x20 P := c.mono rfl
  have c40 : Closed 0x40 P := c.mono rfl
  unfold execGetstatus
  dsimp only
  refine nextHas ?_
  refine State.addressed_keeps c20 ?_ ?_
  · assumption
  · intro x40 x41
    refine State.send_keeps c20 ?_
    refine State.fresh_keeps c40 ?_
    assumption

theorem execHandlingStart_keeps {P : State → Prop} (c : Closed 0x100000000031 P) {s : State} (h : P s) :
    NextHas P (execHandlingStart s) := by
  have c20 : Closed 0x20 P := c.mono rfl
  have c100000000011 : Closed 0x100000000011 P := c.mono rfl
  unfold execHandlingStart
  refine nextHas ?_
  refine State.takeCapture_keeps c100000000011 ?_
  refine State.begin_keeps c20 ?_
  assumption

theorem execHandlingTimeout_keeps {P : State → Prop} (c : Closed 0x100000000031 P) {s : State} (h : P s) :
    NextHas P (execHandlingTimeout s) := by
  have c1 : Closed 0x1 P := c.mono rfl
  have c20 : Closed 0x20 P := c.mono rfl
  have c100000000000 : Closed 0x100000000000 P := c.mono rfl
  have c100000000010 : Closed 0x100000000010 P := c.mono rfl
  unfold execHandlingTimeout
  dsimp only
  refine has_ite ?_ ?_
  · refine nextHas ?_
    refine State.begin_keeps c20 ?_
    assumption
  · split
    · refine nextHas ?_
      refine State.expire_keeps c100000000010 ?_
      refine State.begin_keeps c20 ?_
      assumption
    · refine nextHas ?_
      refine keeps_err c100000000000 ?_
      refine State.bump_keeps c1 ?_
      refine State.expire_keeps c100000000010 ?_
      refine State.begin_keeps c20 ?_
      assumption

theorem execHoldRelease_keeps {P : State → Prop} (c : Closed 0x87f010dd037a71f7 P) {a1 : _} {s : State} (h : P s) :
    NextHas P (execHoldRelease a1 s) := by
  have c20 : Closed 0x20 P := c.mono rfl
  have c100000000000 : Closed 0x100000000000 P := c.mono rfl
  have c100000000005 : Closed 0x100000000005 P := c.mono rfl
  have c87f010dd037a71f7 : Closed 0x87f010dd037a71f7 P := c.mono rfl
  unfold execHoldRelease
  refine nextHas ?_
  refine State.settleAll_keeps c87f010dd037a71f7 ?_
  refine State.granted_keeps c100000000005 ?_ ?_
  · refine State.begin_keeps c20 ?_
    assumption
  · intro x40 x41
    refine releaseHold_keeps c100000000000 ?_
    assumption

theorem execIbiBusFree_keeps {P : State → Prop} (c : Closed 0x100000000020 P) {a1 : _} {s : State} (h : P s) :
    NextHas P (execIbiBusFree a1 s) := by
  have c20 : Closed 0x20 P := c.mono rfl
  have c100000000000 : Closed 0x100000000000 P := c.mono rfl
  have c100000000020 : Closed 0x100000000020 P := c.mono rfl
  unfold execIbiBusFree
  dsimp only
  refine has_ite ?_ ?_
  · refine nextHas ?_
    refine State.begin_keeps c20 ?_
    assumption
  · split
    · refine nextHas ?_
      refine State.nextIbi_keeps c100000000020 ?_
      refine State.begin_keeps c20 ?_
      assumption
    · refine has_ite ?_ ?_
      · refine nextHas ?_
        refine State.nextIbi_keeps c100000000020 ?_
        refine State.begin_keeps c20 ?_
        assumption
      · refine nextHas ?_
        refine State.send_keeps c20 ?_
        refine keeps_err c100000000000 ?_
        refine State.begin_keeps c20 ?_
        assumption

theorem execLcFusesProgrammed_keeps {P : State → Prop} (c : Closed 0x4000000000025 P) {s : State} (h : P s) :
    NextHas P (execLcFusesProgrammed s) := by
  have c1 : Closed 0x1 P := c.mono rfl
  have c4 : Closed 0x4 P := c.mono rfl
  have c20 : Closed 0x20 P := c.mono rfl
  have c4000000000000 : Closed 0x4000000000000 P := c.mono rfl
  unfold execLcFusesProgrammed
  dsimp only
  split
  · refine nextHas ?_
    refine State.begin_keeps c20 ?_
    assumption
  · refine nextHas ?_
    refine State.send_keeps c20 ?_
    refine State.endWrite_keeps c4 ?_
    refine State.bump_keeps c1 ?_
    refine State.putN_keeps c1 ?_
    refine keeps_lcProgramming c4000000000000 ?_
    refine State.begin_keeps c20 ?_
    assumption

theorem execLcTransition_keeps {P : State → Prop} (c : Closed 0x87f410dd037a71f7 P) {a1 : _} {a2 : _} {s : State} (h : P s) :
    NextHas P (execLcTransition a1 a2 s) := by
  have c20 : Closed 0x20 P := c.mono rfl
  have c100000000005 : Closed 0x100000000005 P := c.mono rfl
  have c4000000000000 : Closed 0x4000000000000 P := c.mono rfl
  have c87f010dd037a71f7 : Closed 0x87f010dd037a71f7 P := c.mono rfl
  unfold execLcTransition
  refine nextHas ?_
  refine State.settleAll_keeps c87f010dd037a71f7 ?_
  refine State.granted_keeps c100000000005 ?_ ?_
  · refine State.begin_keeps c20 ?_
    assumption
  · intro x40 x41
    refine writeTransition_keeps c4000000000000 ?_
    assumption

theorem execMapEntryAged_keeps {P : State → Prop} (c : Closed 0x87f05fdd037a71f7 P) {a1 : _} {s : State} (h : P s) :
    NextHas P (execMapEntryAged a1 s) := by
  have c10 : Closed 0x10 P := c.mono rfl
  have c20 : Closed 0x20 P := c.mono rfl
  have c100000000000001 : Closed 0x100000000000001 P := c.mono rfl
  have c81f05f5d037a7073 : Closed 0x81f05f5d037a7073 P := c.mono rfl
  have c87f010dd037a71f7 : Closed 0x87f010dd037a71f7 P := c.mono rfl
  unfold execMapEntryAged
  dsimp only
  refine has_ite ?_ ?_
  · refine nextHas ?_
    refine State.begin_keeps c20 ?_
    assumption
  · refine has_ite ?_ ?_
    · refine nextHas ?_
      refine State.armAt_keeps c10 ?_
      refine State.begin_keeps c20 ?_
      assumption
    · refine nextHas ?_
      refine State.settleAll_keeps c87f010dd037a71f7 ?_
      refine State.tryProbe_keeps c81f05f5d037a7073 ?_
      refine State.staleMap_keeps c100000000000001 ?_
      refine State.disarm_keeps c10 ?_
      refine State.begin_keeps c20 ?_
      assumption

theorem execMapTemperatureStale_keeps {P : State → Prop} (c : Closed 0x87f05fdd037a71f7 P) {a1 : _} {a2 : _} {s : State}
    (h : P s) :
    NextHas P (execMapTemperatureStale a1 a2 s) := by
  have c20 : Closed 0x20 P := c.mono rfl
  have c100000000000001 : Closed 0x100000000000001 P := c.mono rfl
  have c81f05f5d037a7073 : Closed 0x81f05f5d037a7073 P := c.mono rfl
  have c87f010dd037a71f7 : Closed 0x87f010dd037a71f7 P := c.mono rfl
  unfold execMapTemperatureStale
  dsimp only
  refine has_ite ?_ ?_
  · refine nextHas ?_
    refine State.settleAll_keeps c87f010dd037a71f7 ?_
    refine State.tryProbe_keeps c81f05f5d037a7073 ?_
    refine State.staleMap_keeps c100000000000001 ?_
    refine State.begin_keeps c20 ?_
    assumption
  · refine nextHas ?_
    refine State.begin_keeps c20 ?_
    assumption

theorem execMarginProbeStart_keeps {P : State → Prop} (c : Closed 0x87f05fdd037a71f7 P) {a1 : _} {s : State} (h : P s) :
    NextHas P (execMarginProbeStart a1 s) := by
  have c20 : Closed 0x20 P := c.mono rfl
  have c81f05f5d037a7073 : Closed 0x81f05f5d037a7073 P := c.mono rfl
  have c87f010dd037a71f7 : Closed 0x87f010dd037a71f7 P := c.mono rfl
  unfold execMarginProbeStart
  refine nextHas ?_
  refine State.settleAll_keeps c87f010dd037a71f7 ?_
  refine State.tryProbe_keeps c81f05f5d037a7073 ?_
  refine State.begin_keeps c20 ?_
  assumption

theorem execMaskWrite_keeps {P : State → Prop} (c : Closed 0x87f010dd037a71f7 P) {a1 : _} {a2 : _} {a3 : _} {a4 : _}
    {s : State} (h : P s) :
    NextHas P (execMaskWrite a1 a2 a3 a4 s) := by
  have c20 : Closed 0x20 P := c.mono rfl
  have c100000000005 : Closed 0x100000000005 P := c.mono rfl
  have c100000000071 : Closed 0x100000000071 P := c.mono rfl
  have c87f010dd037a71f7 : Closed 0x87f010dd037a71f7 P := c.mono rfl
  unfold execMaskWrite
  refine nextHas ?_
  refine State.settleAll_keeps c87f010dd037a71f7 ?_
  refine State.granted_keeps c100000000005 ?_ ?_
  · refine State.begin_keeps c20 ?_
    assumption
  · intro x40 x41
    refine writeMask_keeps c100000000071 ?_
    assumption

theorem execMsixVectorUnmask_keeps {P : State → Prop} (c : Closed 0x100000000020 P) {a1 : _} {s : State} (h : P s) :
    NextHas P (execMsixVectorUnmask a1 s) := by
  have c20 : Closed 0x20 P := c.mono rfl
  have c100000000000 : Closed 0x100000000000 P := c.mono rfl
  unfold execMsixVectorUnmask
  dsimp only
  refine nextHas ?_
  refine keeps_then ?_ ?_
  · refine keeps_err c100000000000 ?_
    refine State.begin_keeps c20 ?_
    assumption
  · intro x40
    refine State.send_keeps c20 ?_
    assumption

theorem execPowerCycleDelay_keeps {P : State → Prop} (c : Closed 0x4000000000000031 P) {s : State} (h : P s) :
    NextHas P (execPowerCycleDelay s) := by
  have c20 : Closed 0x20 P := c.mono rfl
  have c4000000000000031 : Closed 0x4000000000000031 P := c.mono rfl
  unfold execPowerCycleDelay
  dsimp only
  refine has_ite ?_ ?_
  · refine nextHas ?_
    refine State.begin_keeps c20 ?_
    assumption
  · refine nextHas ?_
    refine State.cycleOrWait_keeps c4000000000000031 ?_
    refine State.begin_keeps c20 ?_
    assumption

theorem execPowerCycleNow_keeps {P : State → Prop} (c : Closed 0x4000100000000035 P) {a1 : _} {s : State} (h : P s) :
    NextHas P (execPowerCycleNow a1 s) := by
  have c20 : Closed 0x20 P := c.mono rfl
  have c100000000005 : Closed 0x100000000005 P := c.mono rfl
  have c4000000000000031 : Closed 0x4000000000000031 P := c.mono rfl
  unfold execPowerCycleNow
  refine nextHas ?_
  refine State.granted_keeps c100000000005 ?_ ?_
  · refine State.begin_keeps c20 ?_
    assumption
  · intro x40 x41
    refine cycleNow_keeps c4000000000000031 ?_
    assumption

theorem execRegulatorSettled_keeps {P : State → Prop} (c : Closed 0x87f010dd037a71f7 P) {a1 : _} {s : State} (h : P s) :
    NextHas P (execRegulatorSettled a1 s) := by
  have c1 : Closed 0x1 P := c.mono rfl
  have c20 : Closed 0x20 P := c.mono rfl
  have c3002030 : Closed 0x3002030 P := c.mono rfl
  have c100000000 : Closed 0x100000000 P := c.mono rfl
  have c100000011 : Closed 0x100000011 P := c.mono rfl
  have c5800002021 : Closed 0x5800002021 P := c.mono rfl
  have c100000000000000 : Closed 0x100000000000000 P := c.mono rfl
  have c8080100000000011 : Closed 0x8080100000000011 P := c.mono rfl
  have c87f010dd037a71f7 : Closed 0x87f010dd037a71f7 P := c.mono rfl
  unfold execRegulatorSettled
  dsimp only
  refine has_ite ?_ ?_
  · refine nextHas ?_
    refine State.late_keeps c1 ?_
    refine State.begin_keeps c20 ?_
    assumption
  · split
    · refine nextHas ?_
      refine State.settleAll_keeps c87f010dd037a71f7 ?_
      refine State.upProbe_keeps c100000000000000 ?_
      refine State.arrives_keeps c8080100000000011 ?_
      refine State.begin_keeps c20 ?_
      assumption
    · refine has_ite ?_ ?_
      · refine nextHas ?_
        refine State.settleAll_keeps c87f010dd037a71f7 ?_
        refine State.handOver_keeps c5800002021 ?_
        refine State.dropProbing_keeps c100000011 ?_
        refine State.arrives_keeps c8080100000000011 ?_
        refine State.begin_keeps c20 ?_
        assumption
      · refine nextHas ?_
        refine State.settleAll_keeps c87f010dd037a71f7 ?_
        refine State.probeRun_keeps c3002030 ?_
        refine State.upProbing_keeps c100000000 ?_
        refine State.arrives_keeps c8080100000000011 ?_
        refine State.begin_keeps c20 ?_
        assumption

theorem execReprobeInterval_keeps {P : State → Prop} (c : Closed 0x87f05fdd037a71f7 P) {s : State} (h : P s) :
    NextHas P (execReprobeInterval s) := by
  have c10 : Closed 0x10 P := c.mono rfl
  have c20 : Closed 0x20 P := c.mono rfl
  have c100000000000000 : Closed 0x100000000000000 P := c.mono rfl
  have c81f05f5d037a7073 : Closed 0x81f05f5d037a7073 P := c.mono rfl
  have c87f010dd037a71f7 : Closed 0x87f010dd037a71f7 P := c.mono rfl
  unfold execReprobeInterval
  dsimp only
  refine has_ite ?_ ?_
  · refine nextHas ?_
    refine State.begin_keeps c20 ?_
    assumption
  · refine nextHas ?_
    refine State.settleAll_keeps c87f010dd037a71f7 ?_
    refine keeps_foldl ?_ _ ?_
    · intro x60 x61 x62
      refine State.tryProbe_keeps c81f05f5d037a7073 ?_
      assumption
    · refine keeps_foldl ?_ _ ?_
      · intro x80 x81 x82
        refine State.upProbe_keeps c100000000000000 ?_
        assumption
      · refine State.arm_keeps c10 ?_
        refine State.begin_keeps c20 ?_
        assumption

theorem execRstdaa_keeps {P : State → Prop} (c : Closed 0x100000000021 P) {s : State} (h : P s) :
    NextHas P (execRstdaa s) := by
  have c1 : Closed 0x1 P := c.mono rfl
  have c20 : Closed 0x20 P := c.mono rfl
  have c100000000000 : Closed 0x100000000000 P := c.mono rfl
  unfold execRstdaa
  refine nextHas ?_
  refine State.onBus_keeps c20 ?_ ?_
  · assumption
  · intro x40 x41
    refine State.dropIbis_keeps c100000000000 ?_
    refine State.putN_keeps c1 ?_
    assumption

theorem execSetEndpointId_keeps {P : State → Prop} (c : Closed 0x100000000021 P) {a1 : _} {a2 : _} {s : State} (h : P s) :
    NextHas P (execSetEndpointId a1 a2 s) := by
  have c1 : Closed 0x1 P := c.mono rfl
  have c20 : Closed 0x20 P := c.mono rfl
  have c100000000020 : Closed 0x100000000020 P := c.mono rfl
  unfold execSetEndpointId
  dsimp only
  refine has_ite ?_ ?_
  · refine nextHas ?_
    refine State.begin_keeps c20 ?_
    assumption
  · refine has_ite ?_ ?_
    · refine nextHas ?_
      refine State.sendControl_keeps c100000000020 ?_
      refine State.begin_keeps c20 ?_
      assumption
    · refine nextHas ?_
      refine State.sendControl_keeps c100000000020 ?_
      refine State.putN_keeps c1 ?_
      refine State.begin_keeps c20 ?_
      assumption

theorem execSetmrl_keeps {P : State → Prop} (c : Closed 0x100000000020 P) {a1 : _} {s : State} (h : P s) :
    NextHas P (execSetmrl a1 s) := by
  have c20 : Closed 0x20 P := c.mono rfl
  have c100000000000 : Closed 0x100000000000 P := c.mono rfl
  unfold execSetmrl
  dsimp only
  refine nextHas ?_
  refine State.onBus_keeps c20 ?_ ?_
  · assumption
  · intro x40 x41
    refine keeps_err c100000000000 ?_
    assumption

theorem execSetmwl_keeps {P : State → Prop} (c : Closed 0x100000000020 P) {a1 : _} {s : State} (h : P s) :
    NextHas P (execSetmwl a1 s) := by
  have c20 : Closed 0x20 P := c.mono rfl
  have c100000000000 : Closed 0x100000000000 P := c.mono rfl
  unfold execSetmwl
  dsimp only
  refine nextHas ?_
  refine State.onBus_keeps c20 ?_ ?_
  · assumption
  · intro x40 x41
    refine keeps_err c100000000000 ?_
    assumption

theorem execSetnewda_keeps {P : State → Prop} (c : Closed 0x21 P) {a1 : _} {s : State} (h : P s) :
    NextHas P (execSetnewda a1 s) := by
  have c1 : Closed 0x1 P := c.mono rfl
  have c20 : Closed 0x20 P := c.mono rfl
  unfold execSetnewda
  refine nextHas ?_
  refine State.addressed_keeps c20 ?_ ?_
  · assumption
  · intro x40 x41
    refine State.putN_keeps c1 ?_
    assumption

theorem execSettleTimeout_keeps {P : State → Prop} (c : Closed 0x87f05fdf037a71f7 P) {a1 : _} {s : State} (h : P s) :
    NextHas P (execSettleTimeout a1 s) := by
  have c20 : Closed 0x20 P := c.mono rfl
  have c100000000 : Closed 0x100000000 P := c.mono rfl
  have c100000000010 : Closed 0x100000000010 P := c.mono rfl
  have c100000000000000 : Closed 0x100000000000000 P := c.mono rfl
  have c100000101404030 : Closed 0x100000101404030 P := c.mono rfl
  have c81f0100200200073 : Closed 0x81f0100200200073 P := c.mono rfl
  have c81f05f5d037a7073 : Closed 0x81f05f5d037a7073 P := c.mono rfl
  have c87f010dd037a71f7 : Closed 0x87f010dd037a71f7 P := c.mono rfl
  unfold execSettleTimeout
  dsimp only
  refine has_ite ?_ ?_
  · refine nextHas ?_
    refine State.begin_keeps c20 ?_
    assumption
  · split
    · refine has_ite ?_ ?_
      · refine nextHas ?_
        refine State.settleAll_keeps c87f010dd037a71f7 ?_
        refine State.restoreFailed_keeps c81f05f5d037a7073 ?_
        refine State.regulatorFails_keeps c81f0100200200073 ?_
        refine State.expire_keeps c100000000010 ?_
        refine State.begin_keeps c20 ?_
        assumption
      · refine nextHas ?_
        refine State.settleAll_keeps c87f010dd037a71f7 ?_
        refine State.upProbe_keeps c100000000000000 ?_
        refine State.commandTrim_keeps c100000101404030 ?_
        refine State.regulatorFails_keeps c81f0100200200073 ?_
        refine State.expire_keeps c100000000010 ?_
        refine State.begin_keeps c20 ?_
        assumption
    · refine has_ite ?_ ?_
      · refine nextHas ?_
        refine State.settleAll_keeps c87f010dd037a71f7 ?_
        refine State.restoreFailed_keeps c81f05f5d037a7073 ?_
        refine State.regulatorFails_keeps c81f0100200200073 ?_
        refine State.expire_keeps c100000000010 ?_
        refine State.begin_keeps c20 ?_
        assumption
      · refine nextHas ?_
        refine State.settleAll_keeps c87f010dd037a71f7 ?_
        refine State.command_keeps c100000101404030 ?_
        refine State.upProbing_keeps c100000000 ?_
        refine State.regulatorFails_keeps c81f0100200200073 ?_
        refine State.expire_keeps c100000000010 ?_
        refine State.begin_keeps c20 ?_
        assumption

theorem execSpecimenInterval_keeps {P : State → Prop} (c : Closed 0x87f010dd63fa71f7 P) {s : State} (h : P s) :
    NextHas P (execSpecimenInterval s) := by
  have c10 : Closed 0x10 P := c.mono rfl
  have c20 : Closed 0x20 P := c.mono rfl
  have c60c02031 : Closed 0x60c02031 P := c.mono rfl
  have c87f010dd037a71f7 : Closed 0x87f010dd037a71f7 P := c.mono rfl
  unfold execSpecimenInterval
  dsimp only
  refine has_ite ?_ ?_
  · refine nextHas ?_
    refine State.begin_keeps c20 ?_
    assumption
  · refine nextHas ?_
    refine State.settleAll_keeps c87f010dd037a71f7 ?_
    refine keeps_foldl ?_ _ ?_
    · intro x60 x61 x62
      refine State.scheduledRun_keeps c60c02031 ?_
      assumption
    · refine State.arm_keeps c10 ?_
      refine State.begin_keeps c20 ?_
      assumption

theorem execSpecimenRetest_keeps {P : State → Prop} (c : Closed 0x87f010dd43fa71f7 P) {a1 : _} {s : State} (h : P s) :
    NextHas P (execSpecimenRetest a1 s) := by
  have c1 : Closed 0x1 P := c.mono rfl
  have c10 : Closed 0x10 P := c.mono rfl
  have c20 : Closed 0x20 P := c.mono rfl
  have cc02030 : Closed 0xc02030 P := c.mono rfl
  have c40000000 : Closed 0x40000000 P := c.mono rfl
  have c87f010dd037a71f7 : Closed 0x87f010dd037a71f7 P := c.mono rfl
  unfold execSpecimenRetest
  dsimp only
  refine has_ite ?_ ?_
  · refine nextHas ?_
    refine State.begin_keeps c20 ?_
    assumption
  · refine has_ite ?_ ?_
    · refine nextHas ?_
      refine State.disarm_keeps c10 ?_
      refine State.begin_keeps c20 ?_
      assumption
    · refine has_ite ?_ ?_
      · refine nextHas ?_
        refine State.settleAll_keeps c87f010dd037a71f7 ?_
        refine State.issueSpecimen_keeps cc02030 ?_
        refine State.disarm_keeps c10 ?_
        refine State.begin_keeps c20 ?_
        assumption
      · refine nextHas ?_
        refine keeps_waitingRuns c40000000 ?_
        refine State.bump_keeps c1 ?_
        refine State.disarm_keeps c10 ?_
        refine State.begin_keeps c20 ?_
        assumption

theorem execSpecimenRunDone_keeps {P : State → Prop} (c : Closed 0x87f07ffd0bfa71f7 P) {a1 : _} {a2 : _} {a3 : _}
    {s : State} (h : P s) :
    NextHas P (execSpecimenRunDone a1 a2 a3 s) := by
  have c1 : Closed 0x1 P := c.mono rfl
  have c20 : Closed 0x20 P := c.mono rfl
  have c8080100000000011 : Closed 0x8080100000000011 P := c.mono rfl
  have c81f0704503707077 : Closed 0x81f0704503707077 P := c.mono rfl
  have c81f07f5d03fa7077 : Closed 0x81f07f5d03fa7077 P := c.mono rfl
  have c81f07f7d0bfa7077 : Closed 0x81f07f7d0bfa7077 P := c.mono rfl
  have c87f010dd037a71f7 : Closed 0x87f010dd037a71f7 P := c.mono rfl
  unfold execSpecimenRunDone
  dsimp only
  split
  · refine nextHas ?_
    refine State.late_keeps c1 ?_
    refine State.begin_keeps c20 ?_
    assumption
  · refine nextHas ?_
    refine State.settleAll_keeps c87f010dd037a71f7 ?_
    refine State.stageNext_keeps c81f07f7d0bfa7077 ?_
    refine keeps_ite ?_ ?_
    · refine State.runPasses_keeps c81f0704503707077 ?_
      refine State.bump_keeps c1 ?_
      refine State.arrives_keeps c8080100000000011 ?_
      refine State.begin_keeps c20 ?_
      assumption
    · refine State.runFails_keeps c81f07f5d03fa7077 ?_
      refine State.bump_keeps c1 ?_
      refine State.arrives_keeps c8080100000000011 ?_
      refine State.begin_keeps c20 ?_
      assumption

theorem execSpecimenTimeout_keeps {P : State → Prop} (c : Closed 0x87f07ffd0bfa71f7 P) {a1 : _} {a2 : _} {s : State}
    (h : P s) :
    NextHas P (execSpecimenTimeout a1 a2 s) := by
  have c1 : Closed 0x1 P := c.mono rfl
  have c20 : Closed 0x20 P := c.mono rfl
  have c100000000010 : Closed 0x100000000010 P := c.mono rfl
  have c81f07f5d03fa7077 : Closed 0x81f07f5d03fa7077 P := c.mono rfl
  have c81f07f7d0bfa7077 : Closed 0x81f07f7d0bfa7077 P := c.mono rfl
  have c87f010dd037a71f7 : Closed 0x87f010dd037a71f7 P := c.mono rfl
  unfold execSpecimenTimeout
  dsimp only
  refine has_ite ?_ ?_
  · refine nextHas ?_
    refine State.begin_keeps c20 ?_
    assumption
  · split
    · refine nextHas ?_
      refine State.expire_keeps c100000000010 ?_
      refine State.begin_keeps c20 ?_
      assumption
    · refine nextHas ?_
      refine State.settleAll_keeps c87f010dd037a71f7 ?_
      refine State.stageNext_keeps c81f07f7d0bfa7077 ?_
      refine State.runFails_keeps c81f07f5d03fa7077 ?_
      refine State.bump_keeps c1 ?_
      refine State.expire_keeps c100000000010 ?_
      refine State.begin_keeps c20 ?_
      assumption

theorem execStickyClear_keeps {P : State → Prop} (c : Closed 0x87f010dd037a71f7 P) {a1 : _} {a2 : _} {a3 : _} {a4 : _}
    {s : State} (h : P s) :
    NextHas P (execStickyClear a1 a2 a3 a4 s) := by
  have c1 : Closed 0x1 P := c.mono rfl
  have c20 : Closed 0x20 P := c.mono rfl
  have c100000000005 : Closed 0x100000000005 P := c.mono rfl
  have c87f010dd037a71f7 : Closed 0x87f010dd037a71f7 P := c.mono rfl
  unfold execStickyClear
  refine nextHas ?_
  refine State.settleAll_keeps c87f010dd037a71f7 ?_
  refine State.granted_keeps c100000000005 ?_ ?_
  · refine State.begin_keeps c20 ?_
    assumption
  · intro x40 x41
    refine clearSticky_keeps c1 ?_
    assumption

theorem execSupervisorSample_keeps {P : State → Prop} (c : Closed 0x87f010dd037a71f7 P) {a1 : _} {s : State} (h : P s) :
    NextHas P (execSupervisorSample a1 s) := by
  have c10 : Closed 0x10 P := c.mono rfl
  have c20 : Closed 0x20 P := c.mono rfl
  have c81f0100000200073 : Closed 0x81f0100000200073 P := c.mono rfl
  have c87f010dd037a71f7 : Closed 0x87f010dd037a71f7 P := c.mono rfl
  unfold execSupervisorSample
  dsimp only
  refine has_ite ?_ ?_
  · refine nextHas ?_
    refine State.begin_keeps c20 ?_
    assumption
  · refine nextHas ?_
    refine State.settleAll_keeps c87f010dd037a71f7 ?_
    refine keeps_foldl ?_ _ ?_
    · intro x60 x61 x62
      split
      · refine State.sampleLink_keeps c81f0100000200073 ?_
        assumption
      · refine State.sampleDram_keeps c81f0100000200073 ?_
        assumption
    · refine State.arm_keeps c10 ?_
      refine State.begin_keeps c20 ?_
      assumption

theorem execTrimWrite_keeps {P : State → Prop} (c : Closed 0x87f010dd037a71f7 P) {a1 : _} {a2 : _} {a3 : _} {s : State}
    (h : P s) :
    NextHas P (execTrimWrite a1 a2 a3 s) := by
  have c20 : Closed 0x20 P := c.mono rfl
  have c100000000005 : Closed 0x100000000005 P := c.mono rfl
  have c120000101404071 : Closed 0x120000101404071 P := c.mono rfl
  have c87f010dd037a71f7 : Closed 0x87f010dd037a71f7 P := c.mono rfl
  unfold execTrimWrite
  refine nextHas ?_
  refine State.settleAll_keeps c87f010dd037a71f7 ?_
  refine State.granted_keeps c100000000005 ?_ ?_
  · refine State.begin_keeps c20 ?_
    assumption
  · intro x40 x41
    refine writeTrim_keeps c120000101404071 ?_
    assumption

end Sys2Proof.Machine
end

