-- ==== Sys2Proof/Laws/KeepsStorage.lean ====
section
/-! SUPPORT. What each operation keeps (see Laws/Keeps.lean): proofs, stored data, the floor commands, the galley, starts and forced errors. -/

namespace Sys2Proof.Machine

theorem State.actOnDigest_keeps {P : State → Prop} (c : Closed 0x81f0102000202073 P) {s : State} {a2 : _} (h : P s) :
    P (State.actOnDigest s a2) := by
  have c2000000021 : Closed 0x2000000021 P := c.mono rfl
  have c81f0100000202073 : Closed 0x81f0100000202073 P := c.mono rfl
  unfold State.actOnDigest
  dsimp only
  refine keeps_ite ?_ ?_
  · assumption
  · split
    · refine keeps_then ?_ ?_
      · refine State.poisonWords_keeps c2000000021 ?_
        assumption
      · intro x80
        refine State.consume_keeps c81f0100000202073 ?_
        assumption
    · assumption

theorem State.takeJob_keeps {P : State → Prop} (c : Closed 0x200000 P) {s : State} {a2 : _} (h : P s) :
    P (State.takeJob s a2) := by
  have c200000 : Closed 0x200000 P := c.mono rfl
  unfold State.takeJob
  refine keeps_ite ?_ ?_
  · refine State.upJob_keeps c200000 ?_
    assumption
  · assumption

theorem State.activate_keeps {P : State → Prop} (c : Closed 0x100000101607071 P) {s : State} {a2 : _} {a3 : _} (h : P s) :
    P (State.activate s a2 a3) := by
  have c1 : Closed 0x1 P := c.mono rfl
  have c2000 : Closed 0x2000 P := c.mono rfl
  have c200000 : Closed 0x200000 P := c.mono rfl
  have c201071 : Closed 0x201071 P := c.mono rfl
  have c100000101606071 : Closed 0x100000101606071 P := c.mono rfl
  unfold State.activate
  dsimp only
  refine keeps_then ?_ ?_
  · refine keeps_then ?_ ?_
    · refine keeps_foldl ?_ _ ?_
      · intro x80 x81 x82
        refine State.endProbe_keeps c100000101606071 ?_
        assumption
      · refine State.planChanged_keeps c1 ?_
        refine State.takeJob_keeps c200000 ?_
        refine State.putN_keeps c1 ?_
        refine State.put_keeps c1 ?_
        refine State.put_keeps c1 ?_
        refine State.setIncarnation_keeps c1 ?_
        refine State.putN_keeps c1 ?_
        refine State.putN_keeps c1 ?_
        refine State.setDom_keeps c2000 ?_
        assumption
    · intro x60
      refine State.putN_keeps c1 ?_
      assumption
  · intro x40
    refine State.stewardArm_keeps c201071 ?_
    assumption

theorem State.afterFill_keeps {P : State → Prop} (c : Closed 0x81f07f7d0bfa7077 P) {s : State} {a2 : _} (h : P s) :
    P (State.afterFill s a2) := by
  have c1 : Closed 0x1 P := c.mono rfl
  have c2000 : Closed 0x2000 P := c.mono rfl
  have cc02030 : Closed 0xc02030 P := c.mono rfl
  have c800000000 : Closed 0x800000000 P := c.mono rfl
  have c200000000000 : Closed 0x200000000000 P := c.mono rfl
  have c81f07f7d0bfa7077 : Closed 0x81f07f7d0bfa7077 P := c.mono rfl
  unfold State.afterFill
  dsimp only
  refine keeps_ite ?_ ?_
  · refine State.stageNext_keeps c81f07f7d0bfa7077 ?_
    refine keeps_bring c200000000000 ?_
    assumption
  · split
    · refine keeps_ite ?_ ?_
      · refine State.showSparing_keeps c1 ?_
        refine State.issueSpecimen_keeps cc02030 ?_
        refine State.upSparing_keeps c2000 ?_
        assumption
      · assumption
    · refine keeps_ite ?_ ?_
      · refine keeps_ite ?_ ?_
        · refine State.issueSpecimen_keeps cc02030 ?_
          assumption
        · assumption
      · refine keeps_ite ?_ ?_
        · refine State.issueSpecimen_keeps cc02030 ?_
          refine keeps_idleFills c800000000 ?_
          assumption
        · assumption

theorem State.afterRead_keeps {P : State → Prop} (c : Closed 0x81f0100000200073 P) {s : State} {a2 : _} (h : P s) :
    P (State.afterRead s a2) := by
  have c1 : Closed 0x1 P := c.mono rfl
  have c10000000000002 : Closed 0x10000000000002 P := c.mono rfl
  have c81f0100000200073 : Closed 0x81f0100000200073 P := c.mono rfl
  unfold State.afterRead
  dsimp only
  refine keeps_foldl ?_ _ ?_
  · intro x40 x41 x42
    refine State.raise_keeps c81f0100000200073 ?_
    refine State.bump_keeps c1 ?_
    assumption
  · refine keeps_ite ?_ ?_
    · refine State.noteReadOut_keeps c10000000000002 ?_
      assumption
    · assumption

theorem State.afterWalk_keeps {P : State → Prop} (c : Closed 0x81f0104503707073 P) {s : State} {a2 : _} (h : P s) :
    P (State.afterWalk s a2) := by
  have c1011 : Closed 0x1011 P := c.mono rfl
  have c81f0104503707073 : Closed 0x81f0104503707073 P := c.mono rfl
  unfold State.afterWalk
  refine keeps_ite ?_ ?_
  · refine State.sparingNext_keeps c81f0104503707073 ?_
    assumption
  · refine keeps_ite ?_ ?_
    · assumption
    · refine State.phoryArm_keeps c1011 ?_
      assumption

theorem State.answerProof_keeps {P : State → Prop} (c : Closed 0x6031 P) {s : State} {a2 : _} {a3 : _} {a4 : _} (h : P s) :
    P (State.answerProof s a2 a3 a4) := by
  have c1 : Closed 0x1 P := c.mono rfl
  have c20 : Closed 0x20 P := c.mono rfl
  have c6030 : Closed 0x6030 P := c.mono rfl
  unfold State.answerProof
  refine State.dropProof_keeps c6030 ?_
  refine State.send_keeps c20 ?_
  refine State.served_keeps c1 ?_
  assumption

theorem State.armStale_keeps {P : State → Prop} (c : Closed 0x10 P) {s : State} {a2 : _} (h : P s) :
    P (State.armStale s a2) := by
  have c10 : Closed 0x10 P := c.mono rfl
  unfold State.armStale
  refine State.arm_keeps c10 ?_
  assumption

theorem State.ceFlag_keeps {P : State → Prop} (c : Closed 0x2000000000 P) {s : State} {a2 : _} {a3 : _} {a4 : _} (h : P s) :
    P (State.ceFlag s a2 a3 a4) := by
  have c2000000000 : Closed 0x2000000000 P := c.mono rfl
  unfold State.ceFlag
  dsimp only
  refine State.setSlice_keeps c2000000000 ?_
  assumption

theorem State.candidate_keeps {P : State → Prop} (c : Closed 0x81f05f7d037a7073 P) {s : State} {a2 : _} {a3 : _} {a4 : _}
    (h : P s) :
    P (State.candidate s a2 a3 a4) := by
  have c2000000000 : Closed 0x2000000000 P := c.mono rfl
  have c80002000000001 : Closed 0x80002000000001 P := c.mono rfl
  have c81f0100000200073 : Closed 0x81f0100000200073 P := c.mono rfl
  have c81f05f5d037a7073 : Closed 0x81f05f5d037a7073 P := c.mono rfl
  unfold State.candidate
  dsimp only
  refine keeps_else ?_ ?_
  · refine State.raiseWith_keeps c81f0100000200073 ?_
    refine State.ceFlag_keeps c2000000000 ?_
    assumption
  · intro x40
    refine keeps_ite ?_ ?_
    · refine State.addRow_keeps c80002000000001 ?_
      assumption
    · refine State.sparesExhausted_keeps c81f05f5d037a7073 ?_
      assumption

theorem State.carryPoison_keeps {P : State → Prop} (c : Closed 0x2000000021 P) {s : State} {a2 : _} {a3 : _} (h : P s) :
    P (State.carryPoison s a2 a3) := by
  have c2000000000 : Closed 0x2000000000 P := c.mono rfl
  have c2000000021 : Closed 0x2000000021 P := c.mono rfl
  unfold State.carryPoison
  dsimp only
  split
  · assumption
  · split
    · refine State.clearPoison_keeps c2000000000 ?_
      assumption
    · refine keeps_foldl ?_ _ ?_
      · intro x80 x81 x82
        refine State.poisonWords_keeps c2000000021 ?_
        assumption
      · refine State.clearPoison_keeps c2000000000 ?_
        assumption

theorem State.closeWork_keeps {P : State → Prop} (c : Closed 0x82000 P) {s : State} {a2 : _} (h : P s) :
    P (State.closeWork s a2) := by
  have c2000 : Closed 0x2000 P := c.mono rfl
  have c80000 : Closed 0x80000 P := c.mono rfl
  unfold State.closeWork
  dsimp only
  split
  · refine State.upStep_keeps c2000 ?_
    refine keeps_oldWork c80000 ?_
    assumption
  · refine keeps_oldWork c80000 ?_
    assumption

theorem State.conclude_keeps {P : State → Prop} (c : Closed 0x81f05f5d037bf073 P) {s : State} {a2 : _} {a3 : _} (h : P s) :
    P (State.conclude s a2 a3) := by
  have c82000 : Closed 0x82000 P := c.mono rfl
  have c81f05f5d037bf073 : Closed 0x81f05f5d037bf073 P := c.mono rfl
  unfold State.conclude
  dsimp only
  split
  · refine State.closeWork_keeps c82000 ?_
    assumption
  · refine State.mismatch_keeps c81f05f5d037bf073 ?_
    refine State.closeWork_keeps c82000 ?_
    assumption

theorem State.concludeAll_keeps {P : State → Prop} (c : Closed 0x81f05f5d037bf073 P) {s : State} {a2 : _} {a3 : _} (h : P s) :
    P (State.concludeAll s a2 a3) := by
  have c82000 : Closed 0x82000 P := c.mono rfl
  have c81f05f5d037bf073 : Closed 0x81f05f5d037bf073 P := c.mono rfl
  unfold State.concludeAll
  refine keeps_foldl ?_ _ ?_
  · intro x40 x41 x42
    refine State.conclude_keeps c81f05f5d037bf073 ?_
    assumption
  · refine State.closeWork_keeps c82000 ?_
    assumption

theorem State.repeatSpecimen_keeps {P : State → Prop} (c : Closed 0xc02030 P) {s : State} {a2 : _} (h : P s) :
    P (State.repeatSpecimen s a2) := by
  have c400010 : Closed 0x400010 P := c.mono rfl
  have cc02030 : Closed 0xc02030 P := c.mono rfl
  unfold State.repeatSpecimen
  split
  · refine keeps_else ?_ ?_
    · refine State.endSpecimen_keeps c400010 ?_
      assumption
    · intro x60
      refine State.issueSpecimen_keeps cc02030 ?_
      assumption
  · assumption

theorem State.consumeElsewhere_keeps {P : State → Prop} (c : Closed 0x81f05f5d03fb7073 P) {s : State} {a2 : _} (h : P s) :
    P (State.consumeElsewhere s a2) := by
  have c1 : Closed 0x1 P := c.mono rfl
  have c106031 : Closed 0x106031 P := c.mono rfl
  have cc02030 : Closed 0xc02030 P := c.mono rfl
  have c3002030 : Closed 0x3002030 P := c.mono rfl
  have c81f0100000206073 : Closed 0x81f0100000206073 P := c.mono rfl
  have c81f05f5d037b7073 : Closed 0x81f05f5d037b7073 P := c.mono rfl
  unfold State.consumeElsewhere
  dsimp only
  split
  · split
    · refine keeps_ite ?_ ?_
      · refine State.loseRevise_keeps c81f05f5d037b7073 ?_
        refine State.bump_keeps c1 ?_
        assumption
      · refine State.loseProof_keeps c81f0100000206073 ?_
        refine State.bump_keeps c1 ?_
        assumption
    · refine State.bump_keeps c1 ?_
      assumption
  · refine State.repeatSpecimen_keeps cc02030 ?_
    refine State.bump_keeps c1 ?_
    assumption
  · refine State.probeRun_keeps c3002030 ?_
    refine State.endCrosses_keeps c3002030 ?_
    refine State.bump_keeps c1 ?_
    assumption
  · refine State.endRegen_keeps c106031 ?_
    refine State.bump_keeps c1 ?_
    assumption
  · refine State.bump_keeps c1 ?_
    assumption

theorem digestWrite_keeps {P : State → Prop} (c : Closed 0x4000000093 P) {a1 : _} {a2 : _} {s : State} (h : P s) :
    P (digestWrite a1 a2 s).1 := by
  have c10 : Closed 0x10 P := c.mono rfl
  have c82 : Closed 0x82 P := c.mono rfl
  have c4000000001 : Closed 0x4000000001 P := c.mono rfl
  unfold digestWrite
  dsimp only
  split
  · dsimp only
    assumption
  · split
    · dsimp only
      assumption
    · split
      · dsimp only
        assumption
      · split
        · dsimp only
          refine State.disarm_keeps c10 ?_
          refine State.disarm_keeps c10 ?_
          refine State.abandonPass_keeps c4000000001 ?_
          refine State.writeContentB_keeps c82 ?_
          assumption
        · dsimp only
          refine State.arm_keeps c10 ?_
          refine State.arm_keeps c10 ?_
          refine State.abandonPass_keeps c4000000001 ?_
          refine State.writeContentB_keeps c82 ?_
          assumption

theorem State.corrected_keeps {P : State → Prop} (c : Closed 0x81f0102000202073 P) {s : State} {a2 : _} {a3 : _} {a4 : _}
    {a5 : _} {a6 : _} {a7 : _} (h : P s) :
    P (State.corrected s a2 a3 a4 a5 a6 a7) := by
  have c1 : Closed 0x1 P := c.mono rfl
  have c20 : Closed 0x20 P := c.mono rfl
  have c2000 : Closed 0x2000 P := c.mono rfl
  have c2000000000 : Closed 0x2000000000 P := c.mono rfl
  have c81f0100000200073 : Closed 0x81f0100000200073 P := c.mono rfl
  unfold State.corrected
  dsimp only
  refine State.raiseWith_keeps c81f0100000200073 ?_
  refine State.disturbCore_keeps c2000 ?_
  refine keeps_then ?_ ?_
  · refine keeps_ite ?_ ?_
    · refine State.setSlice_keeps c2000000000 ?_
      refine State.bump_keeps c1 ?_
      refine State.bump_keeps c1 ?_
      assumption
    · refine State.bump_keeps c1 ?_
      refine State.setSlice_keeps c2000000000 ?_
      refine State.bump_keeps c1 ?_
      refine State.bump_keeps c1 ?_
      assumption
  · intro x40
    refine keeps_ite ?_ ?_
    · refine State.bump_keeps c1 ?_
      assumption
    · refine State.send_keeps c20 ?_
      refine State.bump_keeps c1 ?_
      assumption

theorem State.countCheck_keeps {P : State → Prop} (c : Closed 0x1 P) {s : State} {a2 : _} {a3 : _} (h : P s) :
    P (State.countCheck s a2 a3) := by
  have c1 : Closed 0x1 P := c.mono rfl
  unfold State.countCheck
  refine State.bump_keeps c1 ?_
  refine State.bump_keeps c1 ?_
  assumption

theorem State.writeDigest_keeps {P : State → Prop} (c : Closed 0x82 P) {s : State} {a2 : _} {a3 : _} {a4 : _} (h : P s) :
    P (State.writeDigest s a2 a3 a4) := by
  have c2 : Closed 0x2 P := c.mono rfl
  have c80 : Closed 0x80 P := c.mono rfl
  unfold State.writeDigest
  dsimp only
  refine State.setContent_keeps c2 ?_
  refine keeps_staged c80 ?_
  assumption

theorem State.matchFields_keeps {P : State → Prop} (c : Closed 0x82 P) {s : State} {a2 : _} (h : P s) :
    P (State.matchFields s a2) := by
  have c82 : Closed 0x82 P := c.mono rfl
  unfold State.matchFields
  dsimp only
  refine State.writeDigest_keeps c82 ?_
  assumption

theorem State.passFields_keeps {P : State → Prop} (c : Closed 0x82 P) {s : State} {a2 : _} {a3 : _} {a4 : _} (h : P s) :
    P (State.passFields s a2 a3 a4) := by
  have c82 : Closed 0x82 P := c.mono rfl
  unfold State.passFields
  dsimp only
  refine State.writeDigest_keeps c82 ?_
  refine State.writeDigest_keeps c82 ?_
  refine State.writeDigest_keeps c82 ?_
  assumption

theorem State.digestDone_keeps {P : State → Prop} (c : Closed 0x81f01060002020f3 P) {s : State} {a2 : _} {a3 : _} {a4 : _}
    {a5 : _} (h : P s) :
    P (State.digestDone s a2 a3 a4 a5) := by
  have c1 : Closed 0x1 P := c.mono rfl
  have c10 : Closed 0x10 P := c.mono rfl
  have c82 : Closed 0x82 P := c.mono rfl
  have c4000000000 : Closed 0x4000000000 P := c.mono rfl
  have c4000002061 : Closed 0x4000002061 P := c.mono rfl
  have c81f0100000200073 : Closed 0x81f0100000200073 P := c.mono rfl
  have c81f0102000202073 : Closed 0x81f0102000202073 P := c.mono rfl
  unfold State.digestDone
  dsimp only
  refine keeps_ite ?_ ?_
  · refine State.upDigest_keeps c4000000000 ?_
    refine State.passFields_keeps c82 ?_
    refine State.armStale_keeps c10 ?_
    refine State.bump_keeps c1 ?_
    assumption
  · refine keeps_ite ?_ ?_
    · refine State.upDigest_keeps c4000000000 ?_
      refine State.passFields_keeps c82 ?_
      refine State.armStale_keeps c10 ?_
      refine State.bump_keeps c1 ?_
      assumption
    · refine keeps_ite ?_ ?_
      · refine State.upDigest_keeps c4000000000 ?_
        refine State.writeDigest_keeps c82 ?_
        refine State.writeDigest_keeps c82 ?_
        refine State.passFields_keeps c82 ?_
        refine State.armStale_keeps c10 ?_
        refine State.bump_keeps c1 ?_
        assumption
      · refine keeps_ite ?_ ?_
        · refine State.upDigest_keeps c4000000000 ?_
          refine keeps_then ?_ ?_
          · refine State.matchFields_keeps c82 ?_
            refine State.passFields_keeps c82 ?_
            refine State.armStale_keeps c10 ?_
            refine State.bump_keeps c1 ?_
            assumption
          · intro x120
            refine State.raise_keeps c81f0100000200073 ?_
            refine State.bump_keeps c1 ?_
            assumption
        · refine keeps_ite ?_ ?_
          · refine State.schedulePasses_keeps c4000002061 ?_
            refine State.upDigest_keeps c4000000000 ?_
            refine State.passFields_keeps c82 ?_
            refine State.armStale_keeps c10 ?_
            refine State.bump_keeps c1 ?_
            assumption
          · refine State.actOnDigest_keeps c81f0102000202073 ?_
            refine State.raise_keeps c81f0100000200073 ?_
            refine State.putN_keeps c1 ?_
            refine State.bump_keeps c1 ?_
            refine State.upDigest_keeps c4000000000 ?_
            refine State.passFields_keeps c82 ?_
            refine State.armStale_keeps c10 ?_
            refine State.bump_keeps c1 ?_
            assumption

theorem State.dwellUnit_keeps {P : State → Prop} (c : Closed 0x100000000 P) {s : State} {a2 : _} (h : P s) :
    P (State.dwellUnit s a2) := by
  have c100000000 : Closed 0x100000000 P := c.mono rfl
  unfold State.dwellUnit
  split
  · refine keeps_probings c100000000 ?_
    assumption
  · assumption

theorem State.endPart_keeps {P : State → Prop} (c : Closed 0x81f05f5d037bf073 P) {s : State} {a2 : _} {a3 : _} {a4 : _}
    {a5 : _} (h : P s) :
    P (State.endPart s a2 a3 a4 a5) := by
  have c1 : Closed 0x1 P := c.mono rfl
  have c20000 : Closed 0x20000 P := c.mono rfl
  have c82000 : Closed 0x82000 P := c.mono rfl
  have c81f05f5d037bf073 : Closed 0x81f05f5d037bf073 P := c.mono rfl
  unfold State.endPart
  dsimp only
  refine keeps_ite ?_ ?_
  · refine State.closeWork_keeps c82000 ?_
    refine State.bump_keeps c1 ?_
    refine keeps_rows c20000 ?_
    assumption
  · refine State.conclude_keeps c81f05f5d037bf073 ?_
    refine State.bump_keeps c1 ?_
    refine keeps_rows c20000 ?_
    assumption

theorem State.endRow_keeps {P : State → Prop} (c : Closed 0x81f05f5d037bf073 P) {s : State} {a2 : _} {a3 : _} {a4 : _}
    {a5 : _} {a6 : _} {a7 : _} {a8 : _} (h : P s) :
    P (State.endRow s a2 a3 a4 a5 a6 a7 a8) := by
  have c1 : Closed 0x1 P := c.mono rfl
  have c20000 : Closed 0x20000 P := c.mono rfl
  have c82000 : Closed 0x82000 P := c.mono rfl
  have c81f05f5d037bf073 : Closed 0x81f05f5d037bf073 P := c.mono rfl
  unfold State.endRow
  dsimp only
  refine keeps_ite ?_ ?_
  · refine State.closeWork_keeps c82000 ?_
    refine State.countCheck_keeps c1 ?_
    refine keeps_rows c20000 ?_
    assumption
  · refine State.conclude_keeps c81f05f5d037bf073 ?_
    refine keeps_then ?_ ?_
    · refine State.countCheck_keeps c1 ?_
      refine keeps_rows c20000 ?_
      assumption
    · intro x60
      refine State.bump_keeps c1 ?_
      assumption

theorem State.endScan_keeps {P : State → Prop} (c : Closed 0x1 P) {s : State} {a2 : _} {a3 : _} {a4 : _} (h : P s) :
    P (State.endScan s a2 a3 a4) := by
  have c1 : Closed 0x1 P := c.mono rfl
  unfold State.endScan
  dsimp only
  refine State.putN_keeps c1 ?_
  refine State.putN_keeps c1 ?_
  refine State.put_keeps c1 ?_
  refine State.putN_keeps c1 ?_
  refine State.bumpBy_keeps c1 ?_
  assumption

theorem State.exceeded_keeps {P : State → Prop} (c : Closed 0x81f0100000200073 P) {s : State} {a2 : _} {a3 : _} {a4 : _}
    (h : P s) :
    P (State.exceeded s a2 a3 a4) := by
  have c81f0100000200073 : Closed 0x81f0100000200073 P := c.mono rfl
  unfold State.exceeded
  dsimp only
  refine State.windowExceeded_keeps c81f0100000200073 ?_
  assumption

theorem State.forcedRaise_keeps {P : State → Prop} (c : Closed 0x81f0100000200073 P) {s : State} {a2 : _} {a3 : _} {a4 : _}
    (h : P s) :
    P (State.forcedRaise s a2 a3 a4) := by
  have c81f0100000200073 : Closed 0x81f0100000200073 P := c.mono rfl
  unfold State.forcedRaise
  refine State.raiseWith_keeps c81f0100000200073 ?_
  assumption

theorem State.forceDomain_keeps {P : State → Prop} (c : Closed 0x81f0102000202073 P) {s : State} {a2 : _} (h : P s) :
    P (State.forceDomain s a2) := by
  have c1 : Closed 0x1 P := c.mono rfl
  have c2000000021 : Closed 0x2000000021 P := c.mono rfl
  have c81f0100000200073 : Closed 0x81f0100000200073 P := c.mono rfl
  have c81f0100000202073 : Closed 0x81f0100000202073 P := c.mono rfl
  unfold State.forceDomain
  dsimp only
  refine keeps_ite ?_ ?_
  · refine keeps_ite ?_ ?_
    · refine State.consume_keeps c81f0100000202073 ?_
      assumption
    · refine State.raiseRecord_keeps c81f0100000200073 ?_
      assumption
  · refine keeps_ite ?_ ?_
    · refine State.raiseRecord_keeps c81f0100000200073 ?_
      refine keeps_ite ?_ ?_
      · refine State.poisonWords_keeps c2000000021 ?_
        refine State.bump_keeps c1 ?_
        refine State.bump_keeps c1 ?_
        assumption
      · assumption
    · refine State.forcedRaise_keeps c81f0100000200073 ?_
      assumption

theorem State.forceGalley_keeps {P : State → Prop} (c : Closed 0x81f05f5d037bf073 P) {s : State} {a2 : _} {a3 : _} (h : P s) :
    P (State.forceGalley s a2 a3) := by
  have c81f0100000200073 : Closed 0x81f0100000200073 P := c.mono rfl
  have c81f05f5d037bf073 : Closed 0x81f05f5d037bf073 P := c.mono rfl
  unfold State.forceGalley
  dsimp only
  split
  · assumption
  · refine keeps_ite ?_ ?_
    · refine State.windowExceeded_keeps c81f0100000200073 ?_
      assumption
    · refine State.mismatch_keeps c81f05f5d037bf073 ?_
      assumption

theorem State.forceProof_keeps {P : State → Prop} (c : Closed 0x81f05f5d037b7073 P) {s : State} (h : P s) :
    P (State.forceProof s) := by
  have c1 : Closed 0x1 P := c.mono rfl
  have c81f0100000200073 : Closed 0x81f0100000200073 P := c.mono rfl
  have c81f05f5d037b7073 : Closed 0x81f05f5d037b7073 P := c.mono rfl
  unfold State.forceProof
  dsimp only
  refine keeps_ite ?_ ?_
  · refine State.proofFailure_keeps c81f05f5d037b7073 ?_
    refine keeps_foldl ?_ _ ?_
    · intro x60 x61 x62
      refine State.bump_keeps c1 ?_
      assumption
    · refine State.bump_keeps c1 ?_
      assumption
  · refine State.forcedRaise_keeps c81f0100000200073 ?_
    assumption

theorem State.forceScreen_keeps {P : State → Prop} (c : Closed 0x81f05f5f137af073 P) {s : State} {a2 : _} (h : P s) :
    P (State.forceScreen s a2) := by
  have c1 : Closed 0x1 P := c.mono rfl
  have c10 : Closed 0x10 P := c.mono rfl
  have c10000000 : Closed 0x10000000 P := c.mono rfl
  have c200000000 : Closed 0x200000000 P := c.mono rfl
  have c80000000000001 : Closed 0x80000000000001 P := c.mono rfl
  have c100000000000000 : Closed 0x100000000000000 P := c.mono rfl
  have c100000000000001 : Closed 0x100000000000001 P := c.mono rfl
  have c100000101606071 : Closed 0x100000101606071 P := c.mono rfl
  have c120000101404071 : Closed 0x120000101404071 P := c.mono rfl
  have c81f0100000200073 : Closed 0x81f0100000200073 P := c.mono rfl
  have c81f0100101604073 : Closed 0x81f0100101604073 P := c.mono rfl
  have c81f05f5d037a7073 : Closed 0x81f05f5d037a7073 P := c.mono rfl
  have c81f05f5d037af073 : Closed 0x81f05f5d037af073 P := c.mono rfl
  unfold State.forceScreen
  dsimp only
  refine keeps_ite ?_ ?_
  · refine State.fenceEngine_keeps c81f05f5d037a7073 ?_
    refine State.revertTrim_keeps c81f0100101604073 ?_
    refine State.engineFailed_keeps c81f0100000200073 ?_
    assumption
  · refine keeps_ite ?_ ?_
    · refine State.arm_keeps c10 ?_
      refine State.screen_keeps c81f0100000200073 ?_
      refine State.bump_keeps c1 ?_
      assumption
    · refine keeps_ite ?_ ?_
      · refine State.fenceEngine_keeps c81f05f5d037a7073 ?_
        refine State.revertTrim_keeps c81f0100101604073 ?_
        refine State.engineFailed_keeps c81f0100000200073 ?_
        assumption
      · refine keeps_ite ?_ ?_
        · refine State.chargeEngine_keeps c81f05f5d037af073 ?_
          refine State.revertTrim_keeps c81f0100101604073 ?_
          refine State.screen_keeps c81f0100000200073 ?_
          refine State.bump_keeps c1 ?_
          refine State.bump_keeps c1 ?_
          assumption
        · refine keeps_ite ?_ ?_
          · refine State.marginWeak_keeps c81f05f5d037a7073 ?_
            assumption
          · refine keeps_ite ?_ ?_
            · refine State.endProbe_keeps c100000101606071 ?_
              refine State.screen_keeps c81f0100000200073 ?_
              refine keeps_badRegulators c200000000 ?_
              refine State.bump_keeps c1 ?_
              assumption
            · refine keeps_ite ?_ ?_
              · refine State.screen_keeps c81f0100000200073 ?_
                refine State.bump_keeps c1 ?_
                refine State.bump_keeps c1 ?_
                refine State.staleMap_keeps c100000000000001 ?_
                refine State.setTrim_keeps c120000101404071 ?_
                refine State.upProbe_keeps c100000000000000 ?_
                assumption
              · refine keeps_ite ?_ ?_
                · refine State.forcedRaise_keeps c81f0100000200073 ?_
                  refine State.bump_keeps c1 ?_
                  refine keeps_overBudget c10000000 ?_
                  assumption
                · refine keeps_ite ?_ ?_
                  · refine State.forcedRaise_keeps c81f0100000200073 ?_
                    refine State.event_keeps c80000000000001 ?_
                    refine State.bump_keeps c1 ?_
                    refine State.bump_keeps c1 ?_
                    assumption
                  · refine State.raiseWith_keeps c81f0100000200073 ?_
                    refine State.event_keeps c80000000000001 ?_
                    refine State.bump_keeps c1 ?_
                    assumption

theorem State.uncorrectable_keeps {P : State → Prop} (c : Closed 0x81f0102000200073 P) {s : State} {a2 : _} {a3 : _} {a4 : _}
    {a5 : _} {a6 : _} {a7 : _} (h : P s) :
    P (State.uncorrectable s a2 a3 a4 a5 a6 a7) := by
  have c1 : Closed 0x1 P := c.mono rfl
  have c2 : Closed 0x2 P := c.mono rfl
  have c2000000021 : Closed 0x2000000021 P := c.mono rfl
  have c81f0100000200073 : Closed 0x81f0100000200073 P := c.mono rfl
  unfold State.uncorrectable
  dsimp only
  refine keeps_then ?_ ?_
  · refine State.raiseWith_keeps c81f0100000200073 ?_
    refine State.bump_keeps c1 ?_
    refine State.bump_keeps c1 ?_
    refine State.poisonWords_keeps c2000000021 ?_
    assumption
  · intro x40
    refine State.setContent_keeps c2 ?_
    refine State.setContent_keeps c2 ?_
    assumption

theorem State.forceSlice_keeps {P : State → Prop} (c : Closed 0x81f05f7d037a70f3 P) {s : State} {a2 : _} (h : P s) :
    P (State.forceSlice s a2) := by
  have c1 : Closed 0x1 P := c.mono rfl
  have c82 : Closed 0x82 P := c.mono rfl
  have c81f0100000200073 : Closed 0x81f0100000200073 P := c.mono rfl
  have c81f0102000200073 : Closed 0x81f0102000200073 P := c.mono rfl
  have c81f0102000202073 : Closed 0x81f0102000202073 P := c.mono rfl
  have c81f05f5d037a7073 : Closed 0x81f05f5d037a7073 P := c.mono rfl
  have c81f05f7d037a7073 : Closed 0x81f05f7d037a7073 P := c.mono rfl
  unfold State.forceSlice
  dsimp only
  refine keeps_ite ?_ ?_
  · refine State.corrected_keeps c81f0102000202073 ?_
    assumption
  · refine keeps_ite ?_ ?_
    · refine State.raiseWith_keeps c81f0100000200073 ?_
      assumption
    · refine keeps_ite ?_ ?_
      · refine State.candidate_keeps c81f05f7d037a7073 ?_
        assumption
      · refine keeps_ite ?_ ?_
        · refine State.uncorrectable_keeps c81f0102000200073 ?_
          assumption
        · refine keeps_ite ?_ ?_
          · refine State.sparesExhausted_keeps c81f05f5d037a7073 ?_
            assumption
          · refine keeps_ite ?_ ?_
            · refine State.actOnDigest_keeps c81f0102000202073 ?_
              refine State.forcedRaise_keeps c81f0100000200073 ?_
              refine State.putN_keeps c1 ?_
              refine State.bump_keeps c1 ?_
              refine State.writeDigest_keeps c82 ?_
              assumption
            · refine keeps_ite ?_ ?_
              · refine State.forcedRaise_keeps c81f0100000200073 ?_
                refine State.bump_keeps c1 ?_
                refine State.writeDigest_keeps c82 ?_
                assumption
              · refine State.forcedRaise_keeps c81f0100000200073 ?_
                refine State.bump_keeps c1 ?_
                assumption

theorem State.force_keeps {P : State → Prop} (c : Closed 0x81f05f7f137bf0f3 P) {s : State} {a2 : _} {a3 : _} {a4 : _}
    (h : P s) :
    P (State.force s a2 a3 a4) := by
  have c1 : Closed 0x1 P := c.mono rfl
  have c2 : Closed 0x2 P := c.mono rfl
  have c81f0100000200073 : Closed 0x81f0100000200073 P := c.mono rfl
  have c81f0102000202073 : Closed 0x81f0102000202073 P := c.mono rfl
  have c81f05f5d037b7073 : Closed 0x81f05f5d037b7073 P := c.mono rfl
  have c81f05f5d037bf073 : Closed 0x81f05f5d037bf073 P := c.mono rfl
  have c81f05f5f137af073 : Closed 0x81f05f5f137af073 P := c.mono rfl
  have c81f05f7d037a70f3 : Closed 0x81f05f7d037a70f3 P := c.mono rfl
  unfold State.force
  dsimp only
  refine keeps_ite ?_ ?_
  · refine State.forcedRaise_keeps c81f0100000200073 ?_
    assumption
  · refine keeps_ite ?_ ?_
    · refine State.forceGalley_keeps c81f05f5d037bf073 ?_
      assumption
    · refine keeps_ite ?_ ?_
      · refine State.forceProof_keeps c81f05f5d037b7073 ?_
        assumption
      · refine keeps_ite ?_ ?_
        · refine State.forceScreen_keeps c81f05f5f137af073 ?_
          assumption
        · refine keeps_ite ?_ ?_
          · refine State.forceDomain_keeps c81f0102000202073 ?_
            assumption
          · refine keeps_ite ?_ ?_
            · refine State.forceSlice_keeps c81f05f7d037a70f3 ?_
              assumption
            · refine keeps_ite ?_ ?_
              · refine State.forcedRaise_keeps c81f0100000200073 ?_
                refine State.setContent_keeps c2 ?_
                assumption
              · refine keeps_ite ?_ ?_
                · refine State.forcedRaise_keeps c81f0100000200073 ?_
                  assumption
                · refine keeps_ite ?_ ?_
                  · refine State.forcedRaise_keeps c81f0100000200073 ?_
                    assumption
                  · refine keeps_ite ?_ ?_
                    · refine State.forcedRaise_keeps c81f0100000200073 ?_
                      refine State.setContent_keeps c2 ?_
                      assumption
                    · refine keeps_ite ?_ ?_
                      · refine State.forcedRaise_keeps c81f0100000200073 ?_
                        refine State.setContent_keeps c2 ?_
                        assumption
                      · refine keeps_ite ?_ ?_
                        · refine State.forcedRaise_keeps c81f0100000200073 ?_
                          assumption
                        · refine keeps_ite ?_ ?_
                          · refine State.forcedRaise_keeps c81f0100000200073 ?_
                            assumption
                          · refine keeps_ite ?_ ?_
                            · refine State.forcedRaise_keeps c81f0100000200073 ?_
                              assumption
                            · refine keeps_ite ?_ ?_
                              · refine State.forcedRaise_keeps c81f0100000200073 ?_
                                assumption
                              · refine keeps_ite ?_ ?_
                                · refine State.forcedRaise_keeps c81f0100000200073 ?_
                                  assumption
                                · refine keeps_ite ?_ ?_
                                  · refine State.forcedRaise_keeps c81f0100000200073 ?_
                                    assumption
                                  · refine keeps_ite ?_ ?_
                                    · refine State.forcedRaise_keeps c81f0100000200073 ?_
                                      assumption
                                    · refine keeps_ite ?_ ?_
                                      · refine State.forcedRaise_keeps c81f0100000200073 ?_
                                        assumption
                                      · refine keeps_ite ?_ ?_
                                        · refine State.forcedRaise_keeps c81f0100000200073 ?_
                                          assumption
                                        · refine keeps_ite ?_ ?_
                                          · refine State.forcedRaise_keeps c81f0100000200073 ?_
                                            assumption
                                          · refine keeps_ite ?_ ?_
                                            · refine State.forcedRaise_keeps c81f0100000200073 ?_
                                              assumption
                                            · refine keeps_ite ?_ ?_
                                              · refine State.forcedRaise_keeps c81f0100000200073 ?_
                                                assumption
                                              · refine keeps_ite ?_ ?_
                                                · refine State.forcedRaise_keeps c81f0100000200073 ?_
                                                  assumption
                                                · refine keeps_ite ?_ ?_
                                                  · refine State.forcedRaise_keeps c81f0100000200073 ?_
                                                    refine State.bump_keeps c1 ?_
                                                    assumption
                                                  · refine State.forcedRaise_keeps c81f0100000200073 ?_
                                                    assumption

theorem ifStopped_keeps {P : State → Prop} (c : Closed 0x0 P) {a1 : _} {f2 : State → State × WEnd} {s : State}
    (hf2 : ∀ (x0 : State), P x0 → P (f2 x0).1) (h : P s) :
    P (ifStopped a1 f2 s).1 := by
  unfold ifStopped
  split
  · dsimp only
    assumption
  · refine hf2 _ ?_
    assumption

theorem poisonEnd_keeps {P : State → Prop} (c : Closed 0x81e01000003a6073 P) {a1 : _} {a2 : _} {s : State} (h : P s) :
    P (poisonEnd a1 a2 s).1 := by
  have c1 : Closed 0x1 P := c.mono rfl
  have c81e01000003a6073 : Closed 0x81e01000003a6073 P := c.mono rfl
  unfold poisonEnd
  dsimp only
  refine State.endJob_keeps c81e01000003a6073 ?_
  refine State.putN_keeps c1 ?_
  assumption

theorem poisonResume_keeps {P : State → Prop} (c : Closed 0x81f01045037a7073 P) {a1 : _} {s : State} (h : P s) :
    P (poisonResume a1 s).1 := by
  have c1 : Closed 0x1 P := c.mono rfl
  have c20 : Closed 0x20 P := c.mono rfl
  have c2000 : Closed 0x2000 P := c.mono rfl
  have c200000003a6033 : Closed 0x200000003a6033 P := c.mono rfl
  have c81f01000003a7073 : Closed 0x81f01000003a7073 P := c.mono rfl
  have c81f0104503707073 : Closed 0x81f0104503707073 P := c.mono rfl
  unfold poisonResume
  dsimp only
  split
  · dsimp only
    refine keeps_else ?_ ?_
    · refine State.upDom_keeps c2000 ?_
      refine State.rollbackHere_keeps c200000003a6033 ?_
      refine State.putN_keeps c1 ?_
      assumption
    · intro x60
      refine State.afterWalk_keeps c81f0104503707073 ?_
      assumption
  · split
    · dsimp only
      refine State.stewardFailure_keeps c81f01000003a7073 ?_
      refine State.putN_keeps c1 ?_
      assumption
    · dsimp only
      refine State.toSteward_keeps c20 ?_
      refine State.putN_keeps c1 ?_
      assumption

theorem State.runScan_keeps {P : State → Prop} (c : Closed 0x2021 P) {s : State} {a2 : _} (h : P s) :
    P (State.runScan s a2).1 := by
  have c1 : Closed 0x1 P := c.mono rfl
  have c20 : Closed 0x20 P := c.mono rfl
  have c2000 : Closed 0x2000 P := c.mono rfl
  unfold State.runScan
  dsimp only
  split
  · split
    · dsimp only
      assumption
    · split
      · dsimp only
        assumption
      · split
        · dsimp only
          refine State.send_keeps c20 ?_
          refine State.putN_keeps c1 ?_
          refine State.bump_keeps c1 ?_
          assumption
        · dsimp only
          refine State.scanDisturbs_keeps c2000 ?_
          refine State.send_keeps c20 ?_
          refine State.putN_keeps c1 ?_
          refine State.putN_keeps c1 ?_
          assumption
  · dsimp only
    assumption

theorem State.stopScan_keeps {P : State → Prop} (c : Closed 0x41 P) {s : State} {a2 : _} {a3 : _} (h : P s) :
    P (State.stopScan s a2 a3) := by
  have c1 : Closed 0x1 P := c.mono rfl
  have c40 : Closed 0x40 P := c.mono rfl
  unfold State.stopScan
  dsimp only
  refine State.putN_keeps c1 ?_
  refine State.bumpBy_keeps c1 ?_
  refine State.put_keeps c1 ?_
  refine State.putN_keeps c1 ?_
  refine State.fresh_keeps c40 ?_
  refine State.fresh_keeps c40 ?_
  assumption

theorem scanControl_keeps {P : State → Prop} (c : Closed 0x2061 P) {a1 : _} {a2 : _} {s : State} (h : P s) :
    P (scanControl a1 a2 s).1 := by
  have c1 : Closed 0x1 P := c.mono rfl
  have c41 : Closed 0x41 P := c.mono rfl
  have c2021 : Closed 0x2021 P := c.mono rfl
  unfold scanControl
  split
  · dsimp only
    assumption
  · split
    · dsimp only
      assumption
    · split
      · split
        · dsimp only
          assumption
        · refine State.runScan_keeps c2021 ?_
          assumption
      · split
        · split
          · dsimp only
            refine State.stopScan_keeps c41 ?_
            assumption
          · dsimp only
            assumption
        · split
          · split
            · refine State.runScan_keeps c2021 ?_
              assumption
            · dsimp only
              assumption
          · split
            · split
              · dsimp only
                refine State.stopScan_keeps c41 ?_
                assumption
              · split
                · dsimp only
                  refine State.putN_keeps c1 ?_
                  assumption
                · dsimp only
                  assumption
            · dsimp only
              assumption

theorem writeForce_keeps {P : State → Prop} (c : Closed 0x81f05f7f137bf0f3 P) {a1 : _} {a2 : _} {a3 : _} {a4 : _} {s : State}
    (h : P s) :
    P (writeForce a1 a2 a3 a4 s).1 := by
  have c81f05f7f137bf0f3 : Closed 0x81f05f7f137bf0f3 P := c.mono rfl
  unfold writeForce
  split
  · dsimp only
    assumption
  · dsimp only
    refine keeps_foldl ?_ _ ?_
    · intro x60 x61 x62
      refine State.force_keeps c81f05f7f137bf0f3 ?_
      assumption
    · assumption

theorem endRefill_keeps {P : State → Prop} (c : Closed 0x81f01000003a6073 P) {a1 : _} {a2 : _} {s : State} (h : P s) :
    P (endRefill a1 a2 s).1 := by
  have c81e01000003a6073 : Closed 0x81e01000003a6073 P := c.mono rfl
  have c81f0100000202073 : Closed 0x81f0100000202073 P := c.mono rfl
  unfold endRefill
  split
  · dsimp only
    refine State.endJob_keeps c81e01000003a6073 ?_
    refine State.outcomes_keeps c81f0100000202073 ?_
    assumption
  · dsimp only
    assumption

theorem fenceByHost_keeps {P : State → Prop} (c : Closed 0x81f05e7d037a7073 P) {a1 : _} {s : State} (h : P s) :
    P (fenceByHost a1 s).1 := by
  have c120406000000073 : Closed 0x120406000000073 P := c.mono rfl
  have c81f05e5d037a7073 : Closed 0x81f05e5d037a7073 P := c.mono rfl
  unfold fenceByHost
  dsimp only
  split
  · split
    · dsimp only
      assumption
    · dsimp only
      refine State.fence_keeps c81f05e5d037a7073 ?_
      refine State.abortTest_keeps c120406000000073 ?_
      assumption
  · dsimp only
    assumption

theorem hostRefilled_keeps {P : State → Prop} (c : Closed 0x81f0104503707073 P) {a1 : _} {s : State} (h : P s) :
    P (hostRefilled a1 s).1 := by
  have c2000 : Closed 0x2000 P := c.mono rfl
  have c8080100000000011 : Closed 0x8080100000000011 P := c.mono rfl
  have c81f0104503707073 : Closed 0x81f0104503707073 P := c.mono rfl
  unfold hostRefilled
  dsimp only
  split
  · split
    · dsimp only
      assumption
    · dsimp only
      refine State.refillStep_keeps c81f0104503707073 ?_
      refine State.upSparing_keeps c2000 ?_
      refine State.arrives_keeps c8080100000000011 ?_
      assumption
  · dsimp only
    assumption

theorem releaseEntry_keeps {P : State → Prop} (c : Closed 0x80040000000001 P) {a1 : _} {s : State} (h : P s) :
    P (releaseEntry a1 s).1 := by
  have c1 : Closed 0x1 P := c.mono rfl
  have c40000000000 : Closed 0x40000000000 P := c.mono rfl
  have c80000000000001 : Closed 0x80000000000001 P := c.mono rfl
  unfold releaseEntry
  dsimp only
  split
  · dsimp only
    assumption
  · dsimp only
    refine State.putN_keeps c1 ?_
    refine State.configItem_keeps c80000000000001 ?_
    refine State.setAttic_keeps c40000000000 ?_
    assumption

theorem repeatRefill_keeps {P : State → Prop} (c : Closed 0x4000002021 P) {a1 : _} {s : State} (h : P s) :
    P (repeatRefill a1 s).1 := by
  have c4000002021 : Closed 0x4000002021 P := c.mono rfl
  unfold repeatRefill
  split
  · split
    · dsimp only
      refine State.beginFill_keeps c4000002021 ?_
      assumption
    · dsimp only
      assumption
  · dsimp only
    assumption

theorem unfenceByHost_keeps {P : State → Prop} (c : Closed 0xc02030 P) {a1 : _} {s : State} (h : P s) :
    P (unfenceByHost a1 s).1 := by
  have cc02030 : Closed 0xc02030 P := c.mono rfl
  unfold unfenceByHost
  dsimp only
  split
  · split
    · dsimp only
      assumption
    · split
      · dsimp only
        assumption
      · dsimp only
        refine State.issueSpecimen_keeps cc02030 ?_
        assumption
  · dsimp only
    assumption

theorem activateDomain_keeps {P : State → Prop} (c : Closed 0x100000101607071 P) {a1 : _} {s : State} (h : P s) :
    P (activateDomain a1 s).1 := by
  have c100000101607071 : Closed 0x100000101607071 P := c.mono rfl
  unfold activateDomain
  dsimp only
  split
  · dsimp only
    assumption
  · split
    · dsimp only
      assumption
    · split
      · dsimp only
        assumption
      · dsimp only
        refine State.activate_keeps c100000101607071 ?_
        assumption

theorem State.reportArm_keeps {P : State → Prop} (c : Closed 0x20 P) {s : State} {a2 : _} {a3 : _} (h : P s) :
    P (State.reportArm s a2 a3) := by
  have c20 : Closed 0x20 P := c.mono rfl
  unfold State.reportArm
  refine keeps_ite ?_ ?_
  · refine State.toSteward_keeps c20 ?_
    assumption
  · assumption

theorem armStart_keeps {P : State → Prop} (c : Closed 0x71 P) {a1 : _} {a2 : _} {s : State} (h : P s) :
    P (armStart a1 a2 s).1 := by
  have c1 : Closed 0x1 P := c.mono rfl
  have c11 : Closed 0x11 P := c.mono rfl
  have c20 : Closed 0x20 P := c.mono rfl
  have c41 : Closed 0x41 P := c.mono rfl
  unfold armStart
  dsimp only
  split
  · dsimp only
    assumption
  · split
    · dsimp only
      assumption
    · split
      · split
        · split
          · dsimp only
            refine State.reportArm_keeps c20 ?_
            refine State.putN_keeps c1 ?_
            refine keeps_foldl_snd ?_ _ ?_
            · intro x140 x141 x142
              dsimp only
              refine State.settingsDiffer_keeps c41 ?_
              assumption
            · dsimp only
              assumption
          · dsimp only
            refine State.reportArm_keeps c20 ?_
            refine keeps_foldl ?_ _ ?_
            · intro x140 x141 x142
              refine State.armDomain_keeps c11 ?_
              assumption
            · refine State.put_keeps c1 ?_
              refine State.putN_keeps c1 ?_
              refine keeps_foldl_snd ?_ _ ?_
              · intro x160 x161 x162
                dsimp only
                refine State.settingsDiffer_keeps c41 ?_
                assumption
              · dsimp only
                assumption
        · split
          · dsimp only
            refine State.reportArm_keeps c20 ?_
            refine State.putN_keeps c1 ?_
            refine keeps_foldl_snd ?_ _ ?_
            · intro x140 x141 x142
              dsimp only
              refine State.settingsDiffer_keeps c41 ?_
              assumption
            · dsimp only
              assumption
          · dsimp only
            refine State.reportArm_keeps c20 ?_
            refine keeps_foldl ?_ _ ?_
            · intro x140 x141 x142
              refine State.armDomain_keeps c11 ?_
              assumption
            · refine State.put_keeps c1 ?_
              refine State.putN_keeps c1 ?_
              refine keeps_foldl_snd ?_ _ ?_
              · intro x160 x161 x162
                dsimp only
                refine State.settingsDiffer_keeps c41 ?_
                assumption
              · dsimp only
                assumption
      · split
        · split
          · dsimp only
            refine State.reportArm_keeps c20 ?_
            refine State.putN_keeps c1 ?_
            assumption
          · dsimp only
            refine State.reportArm_keeps c20 ?_
            refine keeps_foldl ?_ _ ?_
            · intro x140 x141 x142
              refine State.armDomain_keeps c11 ?_
              assumption
            · refine State.put_keeps c1 ?_
              refine State.putN_keeps c1 ?_
              assumption
        · dsimp only
          refine State.reportArm_keeps c20 ?_
          refine State.putN_keeps c1 ?_
          assumption

theorem cancelStart_keeps {P : State → Prop} (c : Closed 0x8080100000000011 P) {s : State} (h : P s) :
    P (cancelStart s).1 := by
  have c1 : Closed 0x1 P := c.mono rfl
  have c11 : Closed 0x11 P := c.mono rfl
  have c8080100000000001 : Closed 0x8080100000000001 P := c.mono rfl
  unfold cancelStart
  dsimp only
  split
  · dsimp only
    refine keeps_ite ?_ ?_
    · refine State.late_keeps c1 ?_
      assumption
    · assumption
  · dsimp only
    refine State.putN_keeps c1 ?_
    refine keeps_foldl ?_ _ ?_
    · intro x60 x61 x62
      refine State.dropArm_keeps c11 ?_
      refine keeps_ite ?_ ?_
      · refine State.nearMiss_keeps c8080100000000001 ?_
        assumption
      · assumption
    · assumption

theorem closeDomain_keeps {P : State → Prop} (c : Closed 0x81f01081017a70f7 P) {a1 : _} {s : State} (h : P s) :
    P (closeDomain a1 s).1 := by
  have c11 : Closed 0x11 P := c.mono rfl
  have c2000 : Closed 0x2000 P := c.mono rfl
  have c81f01081017a70f7 : Closed 0x81f01081017a70f7 P := c.mono rfl
  unfold closeDomain
  dsimp only
  split
  · dsimp only
    assumption
  · split
    · dsimp only
      refine State.upDom_keeps c2000 ?_
      assumption
    · split
      · dsimp only
        refine State.deactivate_keeps c81f01081017a70f7 ?_
        assumption
      · dsimp only
        refine State.upDom_keeps c2000 ?_
        refine State.dropArm_keeps c11 ?_
        assumption

theorem State.lateProof_keeps {P : State → Prop} (c : Closed 0x1 P) {s : State} (h : P s) :
    P (State.lateProof s) := by
  have c1 : Closed 0x1 P := c.mono rfl
  unfold State.lateProof
  refine State.bump_keeps c1 ?_
  assumption

theorem State.resultWins_keeps {P : State → Prop} (c : Closed 0x8080100000000011 P) {s : State} {a2 : _} {a3 : _} (h : P s) :
    P (State.resultWins s a2 a3) := by
  have c8080100000000011 : Closed 0x8080100000000011 P := c.mono rfl
  unfold State.resultWins
  refine keeps_ite ?_ ?_
  · refine State.arrives_keeps c8080100000000011 ?_
    assumption
  · assumption

theorem State.proofDiffers_keeps {P : State → Prop} (c : Closed 0x8080100100206071 P) {s : State} {a2 : _} {a3 : _} (h : P s) :
    P (State.proofDiffers s a2 a3) := by
  have c1 : Closed 0x1 P := c.mono rfl
  have c4000 : Closed 0x4000 P := c.mono rfl
  have c6020 : Closed 0x6020 P := c.mono rfl
  have c206071 : Closed 0x206071 P := c.mono rfl
  have c100000000 : Closed 0x100000000 P := c.mono rfl
  have c8080100000000011 : Closed 0x8080100000000011 P := c.mono rfl
  unfold State.proofDiffers
  dsimp only
  refine keeps_ite ?_ ?_
  · refine State.unsettledProof_keeps c206071 ?_
    split
    · refine State.chargeMap_keeps c100000000 ?_
      refine State.bump_keeps c1 ?_
      refine State.resultWins_keeps c8080100000000011 ?_
      assumption
    · refine State.bump_keeps c1 ?_
      refine State.resultWins_keeps c8080100000000011 ?_
      assumption
  · refine State.placeWaiting_keeps c6020 ?_
    refine keeps_proofs c4000 ?_
    refine State.resultWins_keeps c8080100000000011 ?_
    assumption

theorem State.proofPasses_keeps {P : State → Prop} (c : Closed 0x80a01000003a7073 P) {s : State} {a2 : _} (h : P s) :
    P (State.proofPasses s a2) := by
  have c2003 : Closed 0x2003 P := c.mono rfl
  have c6030 : Closed 0x6030 P := c.mono rfl
  have c200000003a7073 : Closed 0x200000003a7073 P := c.mono rfl
  have c8080100000000011 : Closed 0x8080100000000011 P := c.mono rfl
  unfold State.proofPasses
  refine State.narrowingEnd_keeps c200000003a7073 ?_
  refine State.dropProof_keeps c6030 ?_
  refine State.passProof_keeps c2003 ?_
  refine State.resultWins_keeps c8080100000000011 ?_
  assumption

theorem State.putPage_keeps {P : State → Prop} (c : Closed 0x2001 P) {s : State} {a2 : _} {a3 : _} (h : P s) :
    P (State.putPage s a2 a3) := by
  have c2000 : Closed 0x2000 P := c.mono rfl
  have c2001 : Closed 0x2001 P := c.mono rfl
  unfold State.putPage
  refine State.showLedger_keeps c2001 ?_
  refine State.upDom_keeps c2000 ?_
  assumption

theorem State.rateCheck_keeps {P : State → Prop} (c : Closed 0x81f0102000200073 P) {s : State} {a2 : _} (h : P s) :
    P (State.rateCheck s a2) := by
  have c2000000000 : Closed 0x2000000000 P := c.mono rfl
  have c81f0100000200073 : Closed 0x81f0100000200073 P := c.mono rfl
  unfold State.rateCheck
  dsimp only
  refine keeps_then ?_ ?_
  · refine State.setSlice_keeps c2000000000 ?_
    assumption
  · intro x40
    refine State.raiseWith_keeps c81f0100000200073 ?_
    assumption

theorem State.refilled_keeps {P : State → Prop} (c : Closed 0x2000 P) {s : State} {a2 : _} {a3 : _} {a4 : _} {a5 : _}
    (h : P s) :
    P (State.refilled s a2 a3 a4 a5) := by
  have c2000 : Closed 0x2000 P := c.mono rfl
  unfold State.refilled
  refine State.upSparing_keeps c2000 ?_
  assumption

theorem State.setRow_keeps {P : State → Prop} (c : Closed 0x20000 P) {s : State} {a2 : _} (h : P s) :
    P (State.setRow s a2) := by
  have c20000 : Closed 0x20000 P := c.mono rfl
  unfold State.setRow
  refine keeps_rows c20000 ?_
  assumption

theorem State.startDomain_keeps {P : State → Prop} (c : Closed 0x81f0100000203073 P) {s : State} {a2 : _} {a3 : _} (h : P s) :
    P (State.startDomain s a2 a3) := by
  have c1 : Closed 0x1 P := c.mono rfl
  have c20 : Closed 0x20 P := c.mono rfl
  have c1000 : Closed 0x1000 P := c.mono rfl
  have c2000 : Closed 0x2000 P := c.mono rfl
  have c2011 : Closed 0x2011 P := c.mono rfl
  have c81f0100000202073 : Closed 0x81f0100000202073 P := c.mono rfl
  unfold State.startDomain
  dsimp only
  refine keeps_else ?_ ?_
  · refine State.putN_keeps c1 ?_
    assumption
  · intro x40
    refine State.send_keeps c20 ?_
    refine keeps_else ?_ ?_
    · refine keeps_then ?_ ?_
      · refine State.openStep_keeps c2000 ?_
        refine State.upDom_keeps c2000 ?_
        refine keeps_tb c1000 ?_
        assumption
      · intro x80
        refine State.putN_keeps c1 ?_
        assumption
    · intro x60
      refine State.endSparing_keeps c2011 ?_
      refine State.outcomes_keeps c81f0100000202073 ?_
      refine State.bump_keeps c1 ?_
      assumption

theorem State.starts_keeps {P : State → Prop} (c : Closed 0x1041 P) {s : State} {a2 : _} {a3 : _} (h : P s) :
    P (State.starts s a2 a3) := by
  have c1 : Closed 0x1 P := c.mono rfl
  have c40 : Closed 0x40 P := c.mono rfl
  have c1000 : Closed 0x1000 P := c.mono rfl
  unfold State.starts
  dsimp only
  refine keeps_else ?_ ?_
  · refine State.upTb_keeps c1000 ?_
    assumption
  · intro x40
    refine State.putN_keeps c1 ?_
    refine State.putN_keeps c1 ?_
    refine State.fresh_keeps c40 ?_
    refine State.fresh_keeps c40 ?_
    assumption

theorem State.sweep_keeps {P : State → Prop} (c : Closed 0x18001 P) {s : State} (h : P s) :
    P (State.sweep s) := by
  have c1 : Closed 0x1 P := c.mono rfl
  have c18000 : Closed 0x18000 P := c.mono rfl
  unfold State.sweep
  dsimp only
  refine keeps_foldl ?_ _ ?_
  · intro x40 x41 x42
    split
    · refine keeps_ite ?_ ?_
      · refine State.putN_keeps c1 ?_
        assumption
      · assumption
    · assumption
  · refine keeps_foldl ?_ _ ?_
    · intro x60 x61 x62
      split
      · refine keeps_ite ?_ ?_
        · refine State.putN_keeps c1 ?_
          assumption
        · assumption
      · assumption
    · refine keeps_proofSuspects_suspects c18000 ?_
      assumption

theorem State.takeResult_keeps {P : State → Prop} (c : Closed 0x80a0100000040011 P) {s : State} {a2 : _} {a3 : _} (h : P s) :
    P (State.takeResult s a2 a3).1 := by
  have c1 : Closed 0x1 P := c.mono rfl
  have c40000 : Closed 0x40000 P := c.mono rfl
  have c20000000000000 : Closed 0x20000000000000 P := c.mono rfl
  have c8080100000000011 : Closed 0x8080100000000011 P := c.mono rfl
  unfold State.takeResult
  dsimp only
  split
  · dsimp only
    refine keeps_checkLate c40000 ?_
    refine State.bump_keeps c1 ?_
    refine State.addEdges_keeps c20000000000000 ?_
    assumption
  · dsimp only
    split
    · refine State.arrives_keeps c8080100000000011 ?_
      refine State.addEdges_keeps c20000000000000 ?_
      assumption
    · refine State.addEdges_keeps c20000000000000 ?_
      assumption

theorem State.vectorCheck_keeps {P : State → Prop} (c : Closed 0x81f05f5d037bf073 P) {s : State} {a2 : _} {a3 : _} (h : P s) :
    P (State.vectorCheck s a2 a3) := by
  have c1 : Closed 0x1 P := c.mono rfl
  have c20000 : Closed 0x20000 P := c.mono rfl
  have c82000 : Closed 0x82000 P := c.mono rfl
  have c81f05f5d037bf073 : Closed 0x81f05f5d037bf073 P := c.mono rfl
  unfold State.vectorCheck
  dsimp only
  split
  · refine State.conclude_keeps c81f05f5d037bf073 ?_
    refine State.countCheck_keeps c1 ?_
    assumption
  · refine State.conclude_keeps c81f05f5d037bf073 ?_
    refine State.countCheck_keeps c1 ?_
    assumption
  · refine State.conclude_keeps c81f05f5d037bf073 ?_
    refine State.countCheck_keeps c1 ?_
    assumption
  · refine State.closeWork_keeps c82000 ?_
    assumption
  · refine State.setRow_keeps c20000 ?_
    assumption
  · refine State.endPart_keeps c81f05f5d037bf073 ?_
    assumption
  · refine State.setRow_keeps c20000 ?_
    assumption
  · refine State.endRow_keeps c81f05f5d037bf073 ?_
    assumption

theorem execAtticRelease_keeps {P : State → Prop} (c : Closed 0x87f014dd037a71f7 P) {a1 : _} {a2 : _} {s : State} (h : P s) :
    NextHas P (execAtticRelease a1 a2 s) := by
  have c20 : Closed 0x20 P := c.mono rfl
  have c100000000005 : Closed 0x100000000005 P := c.mono rfl
  have c80040000000001 : Closed 0x80040000000001 P := c.mono rfl
  have c87f010dd037a71f7 : Closed 0x87f010dd037a71f7 P := c.mono rfl
  unfold execAtticRelease
  refine nextHas ?_
  refine State.settleAll_keeps c87f010dd037a71f7 ?_
  refine State.granted_keeps c100000000005 ?_ ?_
  · refine State.begin_keeps c20 ?_
    assumption
  · intro x40 x41
    refine releaseEntry_keeps c80040000000001 ?_
    assumption

theorem execCeReportDequeue_keeps {P : State → Prop} (c : Closed 0x87f05ffd037a71f7 P) {a1 : _} {s : State} (h : P s) :
    NextHas P (execCeReportDequeue a1 s) := by
  have c1 : Closed 0x1 P := c.mono rfl
  have c20 : Closed 0x20 P := c.mono rfl
  have c2000000000 : Closed 0x2000000000 P := c.mono rfl
  have c81f0102000200073 : Closed 0x81f0102000200073 P := c.mono rfl
  have c81f05f7d037a7073 : Closed 0x81f05f7d037a7073 P := c.mono rfl
  have c87f010dd037a71f7 : Closed 0x87f010dd037a71f7 P := c.mono rfl
  unfold execCeReportDequeue
  dsimp only
  split
  · refine nextHas ?_
    refine State.begin_keeps c20 ?_
    assumption
  · refine nextHas ?_
    refine State.settleAll_keeps c87f010dd037a71f7 ?_
    refine State.rateCheck_keeps c81f0102000200073 ?_
    split
    · refine keeps_then ?_ ?_
      · refine keeps_then ?_ ?_
        · refine State.setSlice_keeps c2000000000 ?_
          refine State.begin_keeps c20 ?_
          assumption
        · intro x100
          refine State.bump_keeps c1 ?_
          assumption
      · intro x80
        refine State.candidate_keeps c81f05f7d037a7073 ?_
        assumption
    · refine keeps_then ?_ ?_
      · refine State.setSlice_keeps c2000000000 ?_
        refine State.begin_keeps c20 ?_
        assumption
      · intro x80
        refine State.bump_keeps c1 ?_
        assumption

theorem execCheckTimeout_keeps {P : State → Prop} (c : Closed 0x87f05fdd037ff1f7 P) {a1 : _} {s : State} (h : P s) :
    NextHas P (execCheckTimeout a1 s) := by
  have c20 : Closed 0x20 P := c.mono rfl
  have c40040 : Closed 0x40040 P := c.mono rfl
  have c100000000010 : Closed 0x100000000010 P := c.mono rfl
  have c81f05f5d037bf073 : Closed 0x81f05f5d037bf073 P := c.mono rfl
  have c87f010dd037a71f7 : Closed 0x87f010dd037a71f7 P := c.mono rfl
  unfold execCheckTimeout
  dsimp only
  refine has_ite ?_ ?_
  · refine nextHas ?_
    refine State.begin_keeps c20 ?_
    assumption
  · refine nextHas ?_
    refine State.settleAll_keeps c87f010dd037a71f7 ?_
    refine State.conclude_keeps c81f05f5d037bf073 ?_
    refine keeps_checkLate_free c40040 ?_
    refine State.expire_keeps c100000000010 ?_
    refine State.begin_keeps c20 ?_
    assumption

theorem execCorrectedErrorReport_keeps {P : State → Prop} (c : Closed 0x87f010fd037a71f7 P) {a1 : _} {a2 : _} {a3 : _}
    {a4 : _} {a5 : _} {s : State} (h : P s) :
    NextHas P (execCorrectedErrorReport a1 a2 a3 a4 a5 s) := by
  have c20 : Closed 0x20 P := c.mono rfl
  have c81f0102000202073 : Closed 0x81f0102000202073 P := c.mono rfl
  have c87f010dd037a71f7 : Closed 0x87f010dd037a71f7 P := c.mono rfl
  unfold execCorrectedErrorReport
  refine nextHas ?_
  refine State.settleAll_keeps c87f010dd037a71f7 ?_
  refine State.corrected_keeps c81f0102000202073 ?_
  refine State.begin_keeps c20 ?_
  assumption

theorem execDigestPeriod_keeps {P : State → Prop} (c : Closed 0x87f010dd037a71f7 P) {a1 : _} {s : State} (h : P s) :
    NextHas P (execDigestPeriod a1 s) := by
  have c10 : Closed 0x10 P := c.mono rfl
  have c20 : Closed 0x20 P := c.mono rfl
  have c4000000000 : Closed 0x4000000000 P := c.mono rfl
  have c4000002061 : Closed 0x4000002061 P := c.mono rfl
  have c87f010dd037a71f7 : Closed 0x87f010dd037a71f7 P := c.mono rfl
  unfold execDigestPeriod
  dsimp only
  refine has_ite ?_ ?_
  · refine nextHas ?_
    refine State.begin_keeps c20 ?_
    assumption
  · refine has_ite ?_ ?_
    · refine nextHas ?_
      refine State.disarm_keeps c10 ?_
      refine State.begin_keeps c20 ?_
      assumption
    · refine nextHas ?_
      refine State.settleAll_keeps c87f010dd037a71f7 ?_
      refine State.schedulePasses_keeps c4000002061 ?_
      refine State.upDigest_keeps c4000000000 ?_
      refine State.arm_keeps c10 ?_
      refine State.begin_keeps c20 ?_
      assumption

theorem execDigestRecordWrite_keeps {P : State → Prop} (c : Closed 0x87f010dd037a71f7 P) {a1 : _} {a2 : _} {a3 : _}
    {s : State} (h : P s) :
    NextHas P (execDigestRecordWrite a1 a2 a3 s) := by
  have c20 : Closed 0x20 P := c.mono rfl
  have c4000000093 : Closed 0x4000000093 P := c.mono rfl
  have c100000000005 : Closed 0x100000000005 P := c.mono rfl
  have c87f010dd037a71f7 : Closed 0x87f010dd037a71f7 P := c.mono rfl
  unfold execDigestRecordWrite
  refine nextHas ?_
  refine State.settleAll_keeps c87f010dd037a71f7 ?_
  refine State.granted_keeps c100000000005 ?_ ?_
  · refine State.begin_keeps c20 ?_
    assumption
  · intro x40 x41
    refine digestWrite_keeps c4000000093 ?_
    assumption

theorem execDigestStale_keeps {P : State → Prop} (c : Closed 0x87f010dd037a71f7 P) {a1 : _} {s : State} (h : P s) :
    NextHas P (execDigestStale a1 s) := by
  have c1 : Closed 0x1 P := c.mono rfl
  have c10 : Closed 0x10 P := c.mono rfl
  have c20 : Closed 0x20 P := c.mono rfl
  have c81f0100000200073 : Closed 0x81f0100000200073 P := c.mono rfl
  have c87f010dd037a71f7 : Closed 0x87f010dd037a71f7 P := c.mono rfl
  unfold execDigestStale
  dsimp only
  refine has_ite ?_ ?_
  · refine nextHas ?_
    refine State.begin_keeps c20 ?_
    assumption
  · refine has_ite ?_ ?_
    · refine nextHas ?_
      refine State.disarm_keeps c10 ?_
      refine State.begin_keeps c20 ?_
      assumption
    · refine nextHas ?_
      refine State.settleAll_keeps c87f010dd037a71f7 ?_
      refine State.raise_keeps c81f0100000200073 ?_
      refine State.bump_keeps c1 ?_
      refine State.armStale_keeps c10 ?_
      refine State.begin_keeps c20 ?_
      assumption

theorem execDomainActivate_keeps {P : State → Prop} (c : Closed 0x87f010dd037a71f7 P) {a1 : _} {a2 : _} {s : State} (h : P s) :
    NextHas P (execDomainActivate a1 a2 s) := by
  have c20 : Closed 0x20 P := c.mono rfl
  have c100000000005 : Closed 0x100000000005 P := c.mono rfl
  have c100000101607071 : Closed 0x100000101607071 P := c.mono rfl
  have c87f010dd037a71f7 : Closed 0x87f010dd037a71f7 P := c.mono rfl
  unfold execDomainActivate
  refine nextHas ?_
  refine State.settleAll_keeps c87f010dd037a71f7 ?_
  refine State.granted_keeps c100000000005 ?_ ?_
  · refine State.begin_keeps c20 ?_
    assumption
  · intro x40 x41
    refine activateDomain_keeps c100000101607071 ?_
    assumption

theorem execDomainClose_keeps {P : State → Prop} (c : Closed 0x87f010dd037a71f7 P) {a1 : _} {a2 : _} {s : State} (h : P s) :
    NextHas P (execDomainClose a1 a2 s) := by
  have c20 : Closed 0x20 P := c.mono rfl
  have c100000000005 : Closed 0x100000000005 P := c.mono rfl
  have c81f01081017a70f7 : Closed 0x81f01081017a70f7 P := c.mono rfl
  have c87f010dd037a71f7 : Closed 0x87f010dd037a71f7 P := c.mono rfl
  unfold execDomainClose
  refine nextHas ?_
  refine State.settleAll_keeps c87f010dd037a71f7 ?_
  refine State.granted_keeps c100000000005 ?_ ?_
  · refine State.begin_keeps c20 ?_
    assumption
  · intro x40 x41
    refine closeDomain_keeps c81f01081017a70f7 ?_
    assumption

theorem execFenceOrder_keeps {P : State → Prop} (c : Closed 0x87f05efd037a71f7 P) {a1 : _} {a2 : _} {s : State} (h : P s) :
    NextHas P (execFenceOrder a1 a2 s) := by
  have c20 : Closed 0x20 P := c.mono rfl
  have c100000000005 : Closed 0x100000000005 P := c.mono rfl
  have c81f05e7d037a7073 : Closed 0x81f05e7d037a7073 P := c.mono rfl
  have c87f010dd037a71f7 : Closed 0x87f010dd037a71f7 P := c.mono rfl
  unfold execFenceOrder
  refine nextHas ?_
  refine State.settleAll_keeps c87f010dd037a71f7 ?_
  refine State.granted_keeps c100000000005 ?_ ?_
  · refine State.begin_keeps c20 ?_
    assumption
  · intro x40 x41
    refine fenceByHost_keeps c81f05e7d037a7073 ?_
    assumption

theorem execFillRefusal_keeps {P : State → Prop} (c : Closed 0x21 P) {a1 : _} {s : State} (h : P s) :
    NextHas P (execFillRefusal a1 s) := by
  have c1 : Closed 0x1 P := c.mono rfl
  have c20 : Closed 0x20 P := c.mono rfl
  unfold execFillRefusal
  dsimp only
  refine has_ite ?_ ?_
  · refine nextHas ?_
    refine State.begin_keeps c20 ?_
    assumption
  · refine nextHas ?_
    refine State.send_keeps c20 ?_
    refine State.bump_keeps c1 ?_
    refine State.begin_keeps c20 ?_
    assumption

theorem execForceWrite_keeps {P : State → Prop} (c : Closed 0x87f05fff137bf1f7 P) {a1 : _} {a2 : _} {a3 : _} {a4 : _}
    {s : State} (h : P s) :
    NextHas P (execForceWrite a1 a2 a3 a4 s) := by
  have c20 : Closed 0x20 P := c.mono rfl
  have c100000000005 : Closed 0x100000000005 P := c.mono rfl
  have c81f05f7f137bf0f3 : Closed 0x81f05f7f137bf0f3 P := c.mono rfl
  have c87f010dd037a71f7 : Closed 0x87f010dd037a71f7 P := c.mono rfl
  unfold execForceWrite
  refine nextHas ?_
  refine State.settleAll_keeps c87f010dd037a71f7 ?_
  refine State.granted_keeps c100000000005 ?_ ?_
  · refine State.begin_keeps c20 ?_
    assumption
  · intro x40 x41
    refine writeForce_keeps c81f05f7f137bf0f3 ?_
    assumption

theorem execHardwareFillDone_keeps {P : State → Prop} (c : Closed 0x87f07ffd0bfa71f7 P) {a1 : _} {s : State} (h : P s) :
    NextHas P (execHardwareFillDone a1 s) := by
  have c20 : Closed 0x20 P := c.mono rfl
  have c2000000001 : Closed 0x2000000001 P := c.mono rfl
  have c4000002061 : Closed 0x4000002061 P := c.mono rfl
  have c8080100000000011 : Closed 0x8080100000000011 P := c.mono rfl
  have c81f07f7d0bfa7077 : Closed 0x81f07f7d0bfa7077 P := c.mono rfl
  have c87f010dd037a71f7 : Closed 0x87f010dd037a71f7 P := c.mono rfl
  unfold execHardwareFillDone
  dsimp only
  refine has_ite ?_ ?_
  · refine nextHas ?_
    refine State.begin_keeps c20 ?_
    assumption
  · refine nextHas ?_
    refine State.settleAll_keeps c87f010dd037a71f7 ?_
    refine State.schedulePasses_keeps c4000002061 ?_
    refine State.afterFill_keeps c81f07f7d0bfa7077 ?_
    refine State.filled_keeps c2000000001 ?_
    refine State.arrives_keeps c8080100000000011 ?_
    refine State.begin_keeps c20 ?_
    assumption

theorem execHostRefillDone_keeps {P : State → Prop} (c : Closed 0x87f010dd037a71f7 P) {a1 : _} {a2 : _} {s : State} (h : P s) :
    NextHas P (execHostRefillDone a1 a2 s) := by
  have c20 : Closed 0x20 P := c.mono rfl
  have c100000000005 : Closed 0x100000000005 P := c.mono rfl
  have c81f0104503707073 : Closed 0x81f0104503707073 P := c.mono rfl
  have c87f010dd037a71f7 : Closed 0x87f010dd037a71f7 P := c.mono rfl
  unfold execHostRefillDone
  refine nextHas ?_
  refine State.settleAll_keeps c87f010dd037a71f7 ?_
  refine State.granted_keeps c100000000005 ?_ ?_
  · refine State.begin_keeps c20 ?_
    assumption
  · intro x40 x41
    refine hostRefilled_keeps c81f0104503707073 ?_
    assumption

theorem execHostRefillTimeout_keeps {P : State → Prop} (c : Closed 0x87f010dd037a71f7 P) {a1 : _} {s : State} (h : P s) :
    NextHas P (execHostRefillTimeout a1 s) := by
  have c20 : Closed 0x20 P := c.mono rfl
  have c100000000010 : Closed 0x100000000010 P := c.mono rfl
  have c81f0100000202073 : Closed 0x81f0100000202073 P := c.mono rfl
  have c87f010dd037a71f7 : Closed 0x87f010dd037a71f7 P := c.mono rfl
  unfold execHostRefillTimeout
  dsimp only
  refine has_ite ?_ ?_
  · refine nextHas ?_
    refine State.begin_keeps c20 ?_
    assumption
  · split
    · refine nextHas ?_
      refine State.expire_keeps c100000000010 ?_
      refine State.begin_keeps c20 ?_
      assumption
    · refine nextHas ?_
      refine State.settleAll_keeps c87f010dd037a71f7 ?_
      refine State.refillFailed_keeps c81f0100000202073 ?_
      refine State.expire_keeps c100000000010 ?_
      refine State.begin_keeps c20 ?_
      assumption

theorem execKvFill_keeps {P : State → Prop} (c : Closed 0x87f010fd037a71f7 P) {a1 : _} {a2 : _} {a3 : _} {a4 : _} {a5 : _}
    {a6 : _} {a7 : _} {a8 : _} {s : State} (h : P s) :
    NextHas P (execKvFill a1 a2 a3 a4 a5 a6 a7 a8 s) := by
  have c1 : Closed 0x1 P := c.mono rfl
  have c20 : Closed 0x20 P := c.mono rfl
  have c2000000000 : Closed 0x2000000000 P := c.mono rfl
  have c2000000021 : Closed 0x2000000021 P := c.mono rfl
  have c8000000000 : Closed 0x8000000000 P := c.mono rfl
  have c81f0100000200073 : Closed 0x81f0100000200073 P := c.mono rfl
  have c87f010dd037a71f7 : Closed 0x87f010dd037a71f7 P := c.mono rfl
  unfold execKvFill
  dsimp only
  refine has_ite ?_ ?_
  · refine nextHas ?_
    refine State.settleAll_keeps c87f010dd037a71f7 ?_
    refine keeps_then ?_ ?_
    · refine State.send_keeps c20 ?_
      refine State.bump_keeps c1 ?_
      refine State.clearPoison_keeps c2000000000 ?_
      refine keeps_kv c8000000000 ?_
      refine State.begin_keeps c20 ?_
      assumption
    · intro x60
      refine State.raise_keeps c81f0100000200073 ?_
      assumption
  · refine has_ite ?_ ?_
    · refine nextHas ?_
      refine keeps_kv c8000000000 ?_
      refine State.begin_keeps c20 ?_
      assumption
    · refine nextHas ?_
      refine State.settleAll_keeps c87f010dd037a71f7 ?_
      refine State.raiseRecord_keeps c81f0100000200073 ?_
      refine State.send_keeps c20 ?_
      refine State.poisonWords_keeps c2000000021 ?_
      refine State.bump_keeps c1 ?_
      refine State.bump_keeps c1 ?_
      refine keeps_kv c8000000000 ?_
      refine State.begin_keeps c20 ?_
      assumption

theorem execKvPageWrite_keeps {P : State → Prop} (c : Closed 0x87f010dd037a71f7 P) {a1 : _} {a2 : _} {a3 : _} {a4 : _}
    {a5 : _} {s : State} (h : P s) :
    NextHas P (execKvPageWrite a1 a2 a3 a4 a5 s) := by
  have c20 : Closed 0x20 P := c.mono rfl
  have c2001 : Closed 0x2001 P := c.mono rfl
  have c81f0100000200073 : Closed 0x81f0100000200073 P := c.mono rfl
  have c87f010dd037a71f7 : Closed 0x87f010dd037a71f7 P := c.mono rfl
  unfold execKvPageWrite
  dsimp only
  refine has_ite ?_ ?_
  · refine nextHas ?_
    refine State.begin_keeps c20 ?_
    assumption
  · split
    · refine has_ite ?_ ?_
      · refine nextHas ?_
        refine State.settleAll_keeps c87f010dd037a71f7 ?_
        refine State.raise_keeps c81f0100000200073 ?_
        refine State.begin_keeps c20 ?_
        assumption
      · refine nextHas ?_
        refine State.settleAll_keeps c87f010dd037a71f7 ?_
        refine State.putPage_keeps c2001 ?_
        refine State.begin_keeps c20 ?_
        assumption
    · refine nextHas ?_
      refine State.settleAll_keeps c87f010dd037a71f7 ?_
      refine State.putPage_keeps c2001 ?_
      refine State.begin_keeps c20 ?_
      assumption

theorem execKvSpill_keeps {P : State → Prop} (c : Closed 0x87f010dd037a71f7 P) {a1 : _} {a2 : _} {a3 : _} {a4 : _} {a5 : _}
    {a6 : _} {s : State} (h : P s) :
    NextHas P (execKvSpill a1 a2 a3 a4 a5 a6 s) := by
  have c1 : Closed 0x1 P := c.mono rfl
  have c20 : Closed 0x20 P := c.mono rfl
  have c2000 : Closed 0x2000 P := c.mono rfl
  have c81f0100000202073 : Closed 0x81f0100000202073 P := c.mono rfl
  have c87f010dd037a71f7 : Closed 0x87f010dd037a71f7 P := c.mono rfl
  unfold execKvSpill
  dsimp only
  refine has_ite ?_ ?_
  · refine nextHas ?_
    refine State.begin_keeps c20 ?_
    assumption
  · refine has_ite ?_ ?_
    · refine nextHas ?_
      refine State.settleAll_keeps c87f010dd037a71f7 ?_
      refine State.upDom_keeps c2000 ?_
      refine State.bump_keeps c1 ?_
      refine State.begin_keeps c20 ?_
      assumption
    · refine nextHas ?_
      refine State.settleAll_keeps c87f010dd037a71f7 ?_
      refine State.spill_keeps c81f0100000202073 ?_
      refine State.begin_keeps c20 ?_
      assumption

theorem execLedgerWalkDone_keeps {P : State → Prop} (c : Closed 0x87f010dd037a71f7 P) {a1 : _} {s : State} (h : P s) :
    NextHas P (execLedgerWalkDone a1 s) := by
  have c20 : Closed 0x20 P := c.mono rfl
  have c2000 : Closed 0x2000 P := c.mono rfl
  have c81f0104503707073 : Closed 0x81f0104503707073 P := c.mono rfl
  have c87f010dd037a71f7 : Closed 0x87f010dd037a71f7 P := c.mono rfl
  unfold execLedgerWalkDone
  dsimp only
  refine has_ite ?_ ?_
  · refine nextHas ?_
    refine State.begin_keeps c20 ?_
    assumption
  · refine nextHas ?_
    refine State.settleAll_keeps c87f010dd037a71f7 ?_
    refine State.afterWalk_keeps c81f0104503707073 ?_
    refine State.upDom_keeps c2000 ?_
    refine State.begin_keeps c20 ?_
    assumption

theorem execPoisonConsumed_keeps {P : State → Prop} (c : Closed 0x87f05fdd03fb71f7 P) {a1 : _} {a2 : _} {a3 : _} {s : State}
    (h : P s) :
    NextHas P (execPoisonConsumed a1 a2 a3 s) := by
  have c1 : Closed 0x1 P := c.mono rfl
  have c20 : Closed 0x20 P := c.mono rfl
  have c20000000000000 : Closed 0x20000000000000 P := c.mono rfl
  have c81f0100000202073 : Closed 0x81f0100000202073 P := c.mono rfl
  have c81f05f5d03fb7073 : Closed 0x81f05f5d03fb7073 P := c.mono rfl
  have c87f010dd037a71f7 : Closed 0x87f010dd037a71f7 P := c.mono rfl
  unfold execPoisonConsumed
  dsimp only
  split
  · refine has_ite ?_ ?_
    · refine nextHas ?_
      refine State.settleAll_keeps c87f010dd037a71f7 ?_
      refine State.consume_keeps c81f0100000202073 ?_
      refine State.addEdges_keeps c20000000000000 ?_
      refine State.begin_keeps c20 ?_
      assumption
    · refine nextHas ?_
      refine State.settleAll_keeps c87f010dd037a71f7 ?_
      refine State.bump_keeps c1 ?_
      refine State.addEdges_keeps c20000000000000 ?_
      refine State.begin_keeps c20 ?_
      assumption
  · refine nextHas ?_
    refine State.settleAll_keeps c87f010dd037a71f7 ?_
    refine State.consumeElsewhere_keeps c81f05f5d03fb7073 ?_
    refine State.addEdges_keeps c20000000000000 ?_
    refine State.begin_keeps c20 ?_
    assumption

theorem execPoisonEndJob_keeps {P : State → Prop} (c : Closed 0x87f010dd037a71f7 P) {a1 : _} {a2 : _} {s : State} (h : P s) :
    NextHas P (execPoisonEndJob a1 a2 s) := by
  have c0 : Closed 0x0 P := c.mono rfl
  have c20 : Closed 0x20 P := c.mono rfl
  have c100000000005 : Closed 0x100000000005 P := c.mono rfl
  have c81e01000003a6073 : Closed 0x81e01000003a6073 P := c.mono rfl
  have c87f010dd037a71f7 : Closed 0x87f010dd037a71f7 P := c.mono rfl
  unfold execPoisonEndJob
  refine nextHas ?_
  refine State.settleAll_keeps c87f010dd037a71f7 ?_
  refine State.granted_keeps c100000000005 ?_ ?_
  · refine State.begin_keeps c20 ?_
    assumption
  · intro x40 x41
    refine ifStopped_keeps c0 ?_ ?_
    · intro x60 x61
      refine poisonEnd_keeps c81e01000003a6073 ?_
      assumption
    · assumption

theorem execPoisonRollbackResume_keeps {P : State → Prop} (c : Closed 0x87f010dd037a71f7 P) {a1 : _} {a2 : _} {s : State}
    (h : P s) :
    NextHas P (execPoisonRollbackResume a1 a2 s) := by
  have c0 : Closed 0x0 P := c.mono rfl
  have c20 : Closed 0x20 P := c.mono rfl
  have c100000000005 : Closed 0x100000000005 P := c.mono rfl
  have c81f01045037a7073 : Closed 0x81f01045037a7073 P := c.mono rfl
  have c87f010dd037a71f7 : Closed 0x87f010dd037a71f7 P := c.mono rfl
  unfold execPoisonRollbackResume
  refine nextHas ?_
  refine State.settleAll_keeps c87f010dd037a71f7 ?_
  refine State.granted_keeps c100000000005 ?_ ?_
  · refine State.begin_keeps c20 ?_
    assumption
  · intro x40 x41
    refine ifStopped_keeps c0 ?_ ?_
    · intro x60 x61
      refine poisonResume_keeps c81f01045037a7073 ?_
      assumption
    · assumption

theorem execProofNotProofable_keeps {P : State → Prop} (c : Closed 0x87f010dd037a71f7 P) {a1 : _} {a2 : _} {a3 : _} {a4 : _}
    {s : State} (h : P s) :
    NextHas P (execProofNotProofable a1 a2 a3 a4 s) := by
  have c1 : Closed 0x1 P := c.mono rfl
  have c20 : Closed 0x20 P := c.mono rfl
  have c6030 : Closed 0x6030 P := c.mono rfl
  have c6031 : Closed 0x6031 P := c.mono rfl
  have c6071 : Closed 0x6071 P := c.mono rfl
  have c200000003a7073 : Closed 0x200000003a7073 P := c.mono rfl
  have c8080100000000011 : Closed 0x8080100000000011 P := c.mono rfl
  have c81f0100000200073 : Closed 0x81f0100000200073 P := c.mono rfl
  have c87f010dd037a71f7 : Closed 0x87f010dd037a71f7 P := c.mono rfl
  unfold execProofNotProofable
  dsimp only
  split
  · refine nextHas ?_
    refine State.settleAll_keeps c87f010dd037a71f7 ?_
    refine State.lateProof_keeps c1 ?_
    refine State.begin_keeps c20 ?_
    assumption
  · split
    · refine nextHas ?_
      refine State.settleAll_keeps c87f010dd037a71f7 ?_
      refine State.answerProof_keeps c6031 ?_
      refine State.begin_keeps c20 ?_
      assumption
    · refine nextHas ?_
      refine State.settleAll_keeps c87f010dd037a71f7 ?_
      refine State.narrowingEnd_keeps c200000003a7073 ?_
      refine State.reproof_keeps c6071 ?_
      refine State.dropProof_keeps c6030 ?_
      refine State.raise_keeps c81f0100000200073 ?_
      refine State.bump_keeps c1 ?_
      refine State.resultWins_keeps c8080100000000011 ?_
      refine State.begin_keeps c20 ?_
      assumption

theorem execProofResult_keeps {P : State → Prop} (c : Closed 0x87f010dd037a71f7 P) {a1 : _} {a2 : _} {a3 : _} {a4 : _}
    {a5 : _} {a6 : _} {s : State} (h : P s) :
    NextHas P (execProofResult a1 a2 a3 a4 a5 a6 s) := by
  have c1 : Closed 0x1 P := c.mono rfl
  have c20 : Closed 0x20 P := c.mono rfl
  have c6030 : Closed 0x6030 P := c.mono rfl
  have c6031 : Closed 0x6031 P := c.mono rfl
  have c100000000 : Closed 0x100000000 P := c.mono rfl
  have c8080100100206071 : Closed 0x8080100100206071 P := c.mono rfl
  have c80a01000003a7073 : Closed 0x80a01000003a7073 P := c.mono rfl
  have c87f010dd037a71f7 : Closed 0x87f010dd037a71f7 P := c.mono rfl
  unfold execProofResult
  dsimp only
  split
  · refine nextHas ?_
    refine State.settleAll_keeps c87f010dd037a71f7 ?_
    refine State.lateProof_keeps c1 ?_
    refine State.begin_keeps c20 ?_
    assumption
  · split
    · refine nextHas ?_
      refine State.settleAll_keeps c87f010dd037a71f7 ?_
      refine State.answerProof_keeps c6031 ?_
      refine State.begin_keeps c20 ?_
      assumption
    · split
      · refine nextHas ?_
        refine State.settleAll_keeps c87f010dd037a71f7 ?_
        refine keeps_ite ?_ ?_
        · refine State.proofPasses_keeps c80a01000003a7073 ?_
          refine State.dwellUnit_keeps c100000000 ?_
          refine State.served_keeps c1 ?_
          refine State.begin_keeps c20 ?_
          assumption
        · refine State.proofDiffers_keeps c8080100100206071 ?_
          refine State.dwellUnit_keeps c100000000 ?_
          refine State.served_keeps c1 ?_
          refine State.begin_keeps c20 ?_
          assumption
      · refine nextHas ?_
        refine State.settleAll_keeps c87f010dd037a71f7 ?_
        refine State.dropProof_keeps c6030 ?_
        refine State.dwellUnit_keeps c100000000 ?_
        refine State.served_keeps c1 ?_
        refine State.begin_keeps c20 ?_
        assumption

theorem execProofTimeout_keeps {P : State → Prop} (c : Closed 0x87f010dd037a71f7 P) {a1 : _} {a2 : _} {a3 : _}
    {s : State} (h : P s) :
    NextHas P (execProofTimeout a1 a2 a3 s) := by
  have c20 : Closed 0x20 P := c.mono rfl
  have c100000000010 : Closed 0x100000000010 P := c.mono rfl
  have c81f0100000206073 : Closed 0x81f0100000206073 P := c.mono rfl
  have c87f010dd037a71f7 : Closed 0x87f010dd037a71f7 P := c.mono rfl
  unfold execProofTimeout
  dsimp only
  refine has_ite ?_ ?_
  · refine nextHas ?_
    refine State.begin_keeps c20 ?_
    assumption
  · refine nextHas ?_
    refine State.settleAll_keeps c87f010dd037a71f7 ?_
    refine keeps_foldl ?_ _ ?_
    · intro x60 x61 x62
      refine State.loseProof_keeps c81f0100000206073 ?_
      assumption
    · refine State.expire_keeps c100000000010 ?_
      refine State.begin_keeps c20 ?_
      assumption

theorem execRearmOnCauseGone_keeps {P : State → Prop} (c : Closed 0x87f010dd037a71f7 P) {a1 : _} {s : State} (h : P s) :
    NextHas P (execRearmOnCauseGone a1 s) := by
  have c10 : Closed 0x10 P := c.mono rfl
  have c20 : Closed 0x20 P := c.mono rfl
  have c1011 : Closed 0x1011 P := c.mono rfl
  have c201071 : Closed 0x201071 P := c.mono rfl
  have c87f010dd037a71f7 : Closed 0x87f010dd037a71f7 P := c.mono rfl
  unfold execRearmOnCauseGone
  dsimp only
  split
  · refine nextHas ?_
    refine State.disarm_keeps c10 ?_
    refine State.begin_keeps c20 ?_
    assumption
  · refine has_ite ?_ ?_
    · refine nextHas ?_
      refine State.disarm_keeps c10 ?_
      refine State.begin_keeps c20 ?_
      assumption
    · refine has_ite ?_ ?_
      · refine nextHas ?_
        refine State.settleAll_keeps c87f010dd037a71f7 ?_
        refine State.stewardArm_keeps c201071 ?_
        refine State.disarm_keeps c10 ?_
        refine State.begin_keeps c20 ?_
        assumption
      · refine nextHas ?_
        refine State.settleAll_keeps c87f010dd037a71f7 ?_
        refine State.phoryArm_keeps c1011 ?_
        refine State.disarm_keeps c10 ?_
        refine State.begin_keeps c20 ?_
        assumption

theorem execRefillEntryDone_keeps {P : State → Prop} (c : Closed 0x87f010fd037a71f7 P) {a1 : _} {a2 : _} {s : State}
    (h : P s) :
    NextHas P (execRefillEntryDone a1 a2 s) := by
  have c1 : Closed 0x1 P := c.mono rfl
  have c20 : Closed 0x20 P := c.mono rfl
  have c2000 : Closed 0x2000 P := c.mono rfl
  have c2000000021 : Closed 0x2000000021 P := c.mono rfl
  have c8080100000000011 : Closed 0x8080100000000011 P := c.mono rfl
  have c81f0104503707073 : Closed 0x81f0104503707073 P := c.mono rfl
  have c87f010dd037a71f7 : Closed 0x87f010dd037a71f7 P := c.mono rfl
  unfold execRefillEntryDone
  dsimp only
  split
  · refine nextHas ?_
    refine State.late_keeps c1 ?_
    refine State.begin_keeps c20 ?_
    assumption
  · refine has_ite ?_ ?_
    · refine nextHas ?_
      refine State.late_keeps c1 ?_
      refine State.begin_keeps c20 ?_
      assumption
    · refine nextHas ?_
      refine State.settleAll_keeps c87f010dd037a71f7 ?_
      refine State.refillStep_keeps c81f0104503707073 ?_
      refine State.refilled_keeps c2000 ?_
      refine State.carryPoison_keeps c2000000021 ?_
      refine State.arrives_keeps c8080100000000011 ?_
      refine State.begin_keeps c20 ?_
      assumption

theorem execRefillTimeout_keeps {P : State → Prop} (c : Closed 0x87f010dd037a71f7 P) {a1 : _} {s : State} (h : P s) :
    NextHas P (execRefillTimeout a1 s) := by
  have c20 : Closed 0x20 P := c.mono rfl
  have c100000000010 : Closed 0x100000000010 P := c.mono rfl
  have c81f0100000202073 : Closed 0x81f0100000202073 P := c.mono rfl
  have c87f010dd037a71f7 : Closed 0x87f010dd037a71f7 P := c.mono rfl
  unfold execRefillTimeout
  dsimp only
  refine has_ite ?_ ?_
  · refine nextHas ?_
    refine State.begin_keeps c20 ?_
    assumption
  · split
    · refine nextHas ?_
      refine State.expire_keeps c100000000010 ?_
      refine State.begin_keeps c20 ?_
      assumption
    · refine nextHas ?_
      refine State.settleAll_keeps c87f010dd037a71f7 ?_
      refine State.refillFailed_keeps c81f0100000202073 ?_
      refine State.expire_keeps c100000000010 ?_
      refine State.begin_keeps c20 ?_
      assumption

theorem execRescaleRecord_keeps {P : State → Prop} (c : Closed 0x87f05fdd037bf1f7 P) {a1 : _} {a2 : _} {a3 : _} {a4 : _}
    {a5 : _} {a6 : _} {s : State} (h : P s) :
    NextHas P (execRescaleRecord a1 a2 a3 a4 a5 a6 s) := by
  have c20 : Closed 0x20 P := c.mono rfl
  have c20000 : Closed 0x20000 P := c.mono rfl
  have c20000000000000 : Closed 0x20000000000000 P := c.mono rfl
  have c81f05f5d037bf073 : Closed 0x81f05f5d037bf073 P := c.mono rfl
  have c87f010dd037a71f7 : Closed 0x87f010dd037a71f7 P := c.mono rfl
  unfold execRescaleRecord
  dsimp only
  refine has_ite ?_ ?_
  · refine nextHas ?_
    refine State.addEdges_keeps c20000000000000 ?_
    refine State.begin_keeps c20 ?_
    assumption
  · refine has_ite ?_ ?_
    · refine nextHas ?_
      refine State.settleAll_keeps c87f010dd037a71f7 ?_
      refine State.setRow_keeps c20000 ?_
      refine State.addEdges_keeps c20000000000000 ?_
      refine State.begin_keeps c20 ?_
      assumption
    · refine nextHas ?_
      refine State.settleAll_keeps c87f010dd037a71f7 ?_
      refine State.mismatch_keeps c81f05f5d037bf073 ?_
      refine State.setRow_keeps c20000 ?_
      refine State.addEdges_keeps c20000000000000 ?_
      refine State.begin_keeps c20 ?_
      assumption

theorem execReservedRangeRefusal_keeps {P : State → Prop} (c : Closed 0x21 P) {a1 : _} {s : State} (h : P s) :
    NextHas P (execReservedRangeRefusal a1 s) := by
  have c1 : Closed 0x1 P := c.mono rfl
  have c20 : Closed 0x20 P := c.mono rfl
  unfold execReservedRangeRefusal
  dsimp only
  refine has_ite ?_ ?_
  · refine nextHas ?_
    refine State.begin_keeps c20 ?_
    assumption
  · refine nextHas ?_
    refine State.send_keeps c20 ?_
    refine State.bump_keeps c1 ?_
    refine State.begin_keeps c20 ?_
    assumption

theorem execReviseResult_keeps {P : State → Prop} (c : Closed 0x87f05fdd037b71f7 P) {a1 : _} {a2 : _} {a3 : _} {a4 : _}
    {s : State} (h : P s) :
    NextHas P (execReviseResult a1 a2 a3 a4 s) := by
  have c1 : Closed 0x1 P := c.mono rfl
  have c20 : Closed 0x20 P := c.mono rfl
  have c8080100000000011 : Closed 0x8080100000000011 P := c.mono rfl
  have c81f05f5d037b7073 : Closed 0x81f05f5d037b7073 P := c.mono rfl
  have c87f010dd037a71f7 : Closed 0x87f010dd037a71f7 P := c.mono rfl
  unfold execReviseResult
  dsimp only
  split
  · refine nextHas ?_
    refine State.settleAll_keeps c87f010dd037a71f7 ?_
    refine State.lateProof_keeps c1 ?_
    refine State.begin_keeps c20 ?_
    assumption
  · split
    · refine nextHas ?_
      refine State.settleAll_keeps c87f010dd037a71f7 ?_
      refine State.loseRevise_keeps c81f05f5d037b7073 ?_
      refine State.begin_keeps c20 ?_
      assumption
    · refine nextHas ?_
      refine State.settleAll_keeps c87f010dd037a71f7 ?_
      refine keeps_ite ?_ ?_
      · refine State.proofCoreWrong_keeps c81f05f5d037b7073 ?_
        refine State.resultWins_keeps c8080100000000011 ?_
        refine State.served_keeps c1 ?_
        refine State.begin_keeps c20 ?_
        assumption
      · refine keeps_ite ?_ ?_
        · refine State.failProof_keeps c81f05f5d037b7073 ?_
          refine State.resultWins_keeps c8080100000000011 ?_
          refine State.served_keeps c1 ?_
          refine State.begin_keeps c20 ?_
          assumption
        · refine State.failProof_keeps c81f05f5d037b7073 ?_
          refine State.resultWins_keeps c8080100000000011 ?_
          refine State.served_keeps c1 ?_
          refine State.begin_keeps c20 ?_
          assumption

theorem execScanAbort_keeps {P : State → Prop} (c : Closed 0x87f010dd037a71f7 P) {a1 : _} {a2 : _} {s : State} (h : P s) :
    NextHas P (execScanAbort a1 a2 s) := by
  have c20 : Closed 0x20 P := c.mono rfl
  have c2061 : Closed 0x2061 P := c.mono rfl
  have c100000000005 : Closed 0x100000000005 P := c.mono rfl
  have c87f010dd037a71f7 : Closed 0x87f010dd037a71f7 P := c.mono rfl
  unfold execScanAbort
  refine nextHas ?_
  refine State.settleAll_keeps c87f010dd037a71f7 ?_
  refine State.granted_keeps c100000000005 ?_ ?_
  · refine State.begin_keeps c20 ?_
    assumption
  · intro x40 x41
    refine scanControl_keeps c2061 ?_
    assumption

theorem execScanPassDone_keeps {P : State → Prop} (c : Closed 0x87f010fd037a71f7 P) {a1 : _} {a2 : _} {a3 : _} {s : State}
    (h : P s) :
    NextHas P (execScanPassDone a1 a2 a3 s) := by
  have c1 : Closed 0x1 P := c.mono rfl
  have c20 : Closed 0x20 P := c.mono rfl
  have c4000002061 : Closed 0x4000002061 P := c.mono rfl
  have c81f01060002020f3 : Closed 0x81f01060002020f3 P := c.mono rfl
  have c87f010dd037a71f7 : Closed 0x87f010dd037a71f7 P := c.mono rfl
  unfold execScanPassDone
  dsimp only
  refine has_ite ?_ ?_
  · refine nextHas ?_
    refine State.begin_keeps c20 ?_
    assumption
  · refine nextHas ?_
    refine State.settleAll_keeps c87f010dd037a71f7 ?_
    refine State.schedulePasses_keeps c4000002061 ?_
    split
    · refine State.digestDone_keeps c81f01060002020f3 ?_
      refine State.endScan_keeps c1 ?_
      refine State.begin_keeps c20 ?_
      assumption
    · refine State.endScan_keeps c1 ?_
      refine State.begin_keeps c20 ?_
      assumption

theorem execScanPause_keeps {P : State → Prop} (c : Closed 0x87f010dd037a71f7 P) {a1 : _} {a2 : _} {s : State} (h : P s) :
    NextHas P (execScanPause a1 a2 s) := by
  have c20 : Closed 0x20 P := c.mono rfl
  have c2061 : Closed 0x2061 P := c.mono rfl
  have c100000000005 : Closed 0x100000000005 P := c.mono rfl
  have c87f010dd037a71f7 : Closed 0x87f010dd037a71f7 P := c.mono rfl
  unfold execScanPause
  refine nextHas ?_
  refine State.settleAll_keeps c87f010dd037a71f7 ?_
  refine State.granted_keeps c100000000005 ?_ ?_
  · refine State.begin_keeps c20 ?_
    assumption
  · intro x40 x41
    refine scanControl_keeps c2061 ?_
    assumption

theorem execScanResume_keeps {P : State → Prop} (c : Closed 0x87f010dd037a71f7 P) {a1 : _} {a2 : _} {s : State} (h : P s) :
    NextHas P (execScanResume a1 a2 s) := by
  have c20 : Closed 0x20 P := c.mono rfl
  have c2061 : Closed 0x2061 P := c.mono rfl
  have c100000000005 : Closed 0x100000000005 P := c.mono rfl
  have c87f010dd037a71f7 : Closed 0x87f010dd037a71f7 P := c.mono rfl
  unfold execScanResume
  refine nextHas ?_
  refine State.settleAll_keeps c87f010dd037a71f7 ?_
  refine State.granted_keeps c100000000005 ?_ ?_
  · refine State.begin_keeps c20 ?_
    assumption
  · intro x40 x41
    refine scanControl_keeps c2061 ?_
    assumption

theorem execScanStart_keeps {P : State → Prop} (c : Closed 0x87f010dd037a71f7 P) {a1 : _} {a2 : _} {s : State} (h : P s) :
    NextHas P (execScanStart a1 a2 s) := by
  have c20 : Closed 0x20 P := c.mono rfl
  have c2061 : Closed 0x2061 P := c.mono rfl
  have c100000000005 : Closed 0x100000000005 P := c.mono rfl
  have c87f010dd037a71f7 : Closed 0x87f010dd037a71f7 P := c.mono rfl
  unfold execScanStart
  refine nextHas ?_
  refine State.settleAll_keeps c87f010dd037a71f7 ?_
  refine State.granted_keeps c100000000005 ?_ ?_
  · refine State.begin_keeps c20 ?_
    assumption
  · intro x40 x41
    refine scanControl_keeps c2061 ?_
    assumption

theorem execSparingEndJob_keeps {P : State → Prop} (c : Closed 0x87f010dd037a71f7 P) {a1 : _} {a2 : _} {s : State} (h : P s) :
    NextHas P (execSparingEndJob a1 a2 s) := by
  have c20 : Closed 0x20 P := c.mono rfl
  have c100000000005 : Closed 0x100000000005 P := c.mono rfl
  have c81f01000003a6073 : Closed 0x81f01000003a6073 P := c.mono rfl
  have c87f010dd037a71f7 : Closed 0x87f010dd037a71f7 P := c.mono rfl
  unfold execSparingEndJob
  refine nextHas ?_
  refine State.settleAll_keeps c87f010dd037a71f7 ?_
  refine State.granted_keeps c100000000005 ?_ ?_
  · refine State.begin_keeps c20 ?_
    assumption
  · intro x40 x41
    refine endRefill_keeps c81f01000003a6073 ?_
    assumption

theorem execSparingRepeatRefill_keeps {P : State → Prop} (c : Closed 0x87f010dd037a71f7 P) {a1 : _} {a2 : _} {s : State}
    (h : P s) :
    NextHas P (execSparingRepeatRefill a1 a2 s) := by
  have c20 : Closed 0x20 P := c.mono rfl
  have c4000002021 : Closed 0x4000002021 P := c.mono rfl
  have c100000000005 : Closed 0x100000000005 P := c.mono rfl
  have c87f010dd037a71f7 : Closed 0x87f010dd037a71f7 P := c.mono rfl
  unfold execSparingRepeatRefill
  refine nextHas ?_
  refine State.settleAll_keeps c87f010dd037a71f7 ?_
  refine State.granted_keeps c100000000005 ?_ ?_
  · refine State.begin_keeps c20 ?_
    assumption
  · intro x40 x41
    refine repeatRefill_keeps c4000002021 ?_
    assumption

theorem execStartArm_keeps {P : State → Prop} (c : Closed 0x87f010dd037a71f7 P) {a1 : _} {a2 : _} {s : State} (h : P s) :
    NextHas P (execStartArm a1 a2 s) := by
  have c20 : Closed 0x20 P := c.mono rfl
  have c71 : Closed 0x71 P := c.mono rfl
  have c100000000005 : Closed 0x100000000005 P := c.mono rfl
  have c87f010dd037a71f7 : Closed 0x87f010dd037a71f7 P := c.mono rfl
  unfold execStartArm
  refine nextHas ?_
  refine State.settleAll_keeps c87f010dd037a71f7 ?_
  refine State.granted_keeps c100000000005 ?_ ?_
  · refine State.begin_keeps c20 ?_
    assumption
  · intro x40 x41
    refine armStart_keeps c71 ?_
    assumption

theorem execStartCancel_keeps {P : State → Prop} (c : Closed 0x87f010dd037a71f7 P) {a1 : _} {s : State} (h : P s) :
    NextHas P (execStartCancel a1 s) := by
  have c20 : Closed 0x20 P := c.mono rfl
  have c100000000005 : Closed 0x100000000005 P := c.mono rfl
  have c8080100000000011 : Closed 0x8080100000000011 P := c.mono rfl
  have c87f010dd037a71f7 : Closed 0x87f010dd037a71f7 P := c.mono rfl
  unfold execStartCancel
  refine nextHas ?_
  refine State.settleAll_keeps c87f010dd037a71f7 ?_
  refine State.granted_keeps c100000000005 ?_ ?_
  · refine State.begin_keeps c20 ?_
    assumption
  · intro x40 x41
    refine cancelStart_keeps c8080100000000011 ?_
    assumption

theorem execStartTimeReached_keeps {P : State → Prop} (c : Closed 0x87f010dd037a71f7 P) {a1 : _} {s : State} (h : P s) :
    NextHas P (execStartTimeReached a1 s) := by
  have c1 : Closed 0x1 P := c.mono rfl
  have c20 : Closed 0x20 P := c.mono rfl
  have c1041 : Closed 0x1041 P := c.mono rfl
  have c100000000010 : Closed 0x100000000010 P := c.mono rfl
  have c81f0100000203073 : Closed 0x81f0100000203073 P := c.mono rfl
  have c87f010dd037a71f7 : Closed 0x87f010dd037a71f7 P := c.mono rfl
  unfold execStartTimeReached
  dsimp only
  refine has_ite ?_ ?_
  · refine nextHas ?_
    refine State.begin_keeps c20 ?_
    assumption
  · refine nextHas ?_
    refine State.settleAll_keeps c87f010dd037a71f7 ?_
    refine State.starts_keeps c1041 ?_
    refine State.putN_keeps c1 ?_
    refine keeps_foldl ?_ _ ?_
    · intro x60 x61 x62
      refine State.startDomain_keeps c81f0100000203073 ?_
      assumption
    · refine State.expire_keeps c100000000010 ?_
      refine State.begin_keeps c20 ?_
      assumption

theorem execStepBoundary_keeps {P : State → Prop} (c : Closed 0x87f010dd037a71f7 P) {a1 : _} {a2 : _} {a3 : _} {s : State}
    (h : P s) :
    NextHas P (execStepBoundary a1 a2 a3 s) := by
  have c20 : Closed 0x20 P := c.mono rfl
  have c2000 : Closed 0x2000 P := c.mono rfl
  have c83f01001017a60f7 : Closed 0x83f01001017a60f7 P := c.mono rfl
  have c87f010dd037a71f7 : Closed 0x87f010dd037a71f7 P := c.mono rfl
  unfold execStepBoundary
  dsimp only
  refine has_ite ?_ ?_
  · refine nextHas ?_
    refine State.settleAll_keeps c87f010dd037a71f7 ?_
    refine State.tryBarrier_keeps c83f01001017a60f7 ?_
    refine State.arriveAll_keeps c2000 ?_
    refine State.begin_keeps c20 ?_
    assumption
  · refine nextHas ?_
    refine State.settleAll_keeps c87f010dd037a71f7 ?_
    refine State.begin_keeps c20 ?_
    assumption

theorem execSuspectSweep_keeps {P : State → Prop} (c : Closed 0x18031 P) {s : State} (h : P s) :
    NextHas P (execSuspectSweep s) := by
  have c10 : Closed 0x10 P := c.mono rfl
  have c20 : Closed 0x20 P := c.mono rfl
  have c18001 : Closed 0x18001 P := c.mono rfl
  unfold execSuspectSweep
  dsimp only
  refine has_ite ?_ ?_
  · refine nextHas ?_
    refine State.begin_keeps c20 ?_
    assumption
  · refine nextHas ?_
    refine keeps_else ?_ ?_
    · refine State.sweep_keeps c18001 ?_
      refine State.disarm_keeps c10 ?_
      refine State.begin_keeps c20 ?_
      assumption
    · intro x60
      refine State.armSweep_keeps c10 ?_
      assumption

theorem execTileCheck_keeps {P : State → Prop} (c : Closed 0x87f05fdd037ff1f7 P) {a1 : _} {a2 : _} {s : State} (h : P s) :
    NextHas P (execTileCheck a1 a2 s) := by
  have c1 : Closed 0x1 P := c.mono rfl
  have c20 : Closed 0x20 P := c.mono rfl
  have c40 : Closed 0x40 P := c.mono rfl
  have c82000 : Closed 0x82000 P := c.mono rfl
  have c80a0100000040011 : Closed 0x80a0100000040011 P := c.mono rfl
  have c81f0100000200073 : Closed 0x81f0100000200073 P := c.mono rfl
  have c81f05f5d037bf073 : Closed 0x81f05f5d037bf073 P := c.mono rfl
  have c87f010dd037a71f7 : Closed 0x87f010dd037a71f7 P := c.mono rfl
  unfold execTileCheck
  dsimp only
  refine has_ite ?_ ?_
  · refine nextHas ?_
    refine State.settleAll_keeps c87f010dd037a71f7 ?_
    refine State.closeWork_keeps c82000 ?_
    refine State.takeResult_keeps c80a0100000040011 ?_
    refine State.begin_keeps c20 ?_
    assumption
  · refine nextHas ?_
    refine State.settleAll_keeps c87f010dd037a71f7 ?_
    refine State.concludeAll_keeps c81f05f5d037bf073 ?_
    refine keeps_else ?_ ?_
    · refine keeps_free c40 ?_
      split
      · refine keeps_else ?_ ?_
        · refine keeps_ite ?_ ?_
          · refine State.bump_keeps c1 ?_
            refine State.takeResult_keeps c80a0100000040011 ?_
            refine State.begin_keeps c20 ?_
            assumption
          · refine State.countCheck_keeps c1 ?_
            refine State.takeResult_keeps c80a0100000040011 ?_
            refine State.begin_keeps c20 ?_
            assumption
        · intro x100
          refine State.exceeded_keeps c81f0100000200073 ?_
          assumption
      · refine keeps_ite ?_ ?_
        · refine State.bump_keeps c1 ?_
          refine State.takeResult_keeps c80a0100000040011 ?_
          refine State.begin_keeps c20 ?_
          assumption
        · refine State.countCheck_keeps c1 ?_
          refine State.takeResult_keeps c80a0100000040011 ?_
          refine State.begin_keeps c20 ?_
          assumption
    · intro x60
      refine State.bumpBy_keeps c1 ?_
      assumption

theorem execTransferCheck_keeps {P : State → Prop} (c : Closed 0x87f05fdd037ff1f7 P) {a1 : _} {a2 : _} {s : State} (h : P s) :
    NextHas P (execTransferCheck a1 a2 s) := by
  have c1 : Closed 0x1 P := c.mono rfl
  have c20 : Closed 0x20 P := c.mono rfl
  have c82000 : Closed 0x82000 P := c.mono rfl
  have c80a0100000040011 : Closed 0x80a0100000040011 P := c.mono rfl
  have c81f05f5d037bf073 : Closed 0x81f05f5d037bf073 P := c.mono rfl
  have c87f010dd037a71f7 : Closed 0x87f010dd037a71f7 P := c.mono rfl
  unfold execTransferCheck
  dsimp only
  refine has_ite ?_ ?_
  · refine nextHas ?_
    refine State.settleAll_keeps c87f010dd037a71f7 ?_
    refine State.closeWork_keeps c82000 ?_
    refine State.takeResult_keeps c80a0100000040011 ?_
    refine State.begin_keeps c20 ?_
    assumption
  · refine nextHas ?_
    refine State.settleAll_keeps c87f010dd037a71f7 ?_
    refine State.conclude_keeps c81f05f5d037bf073 ?_
    refine State.countCheck_keeps c1 ?_
    refine State.takeResult_keeps c80a0100000040011 ?_
    refine State.begin_keeps c20 ?_
    assumption

theorem execUncorrectableError_keeps {P : State → Prop} (c : Closed 0x87f010fd037a71f7 P) {a1 : _} {a2 : _} {a3 : _} {a4 : _}
    {s : State} (h : P s) :
    NextHas P (execUncorrectableError a1 a2 a3 a4 s) := by
  have c1 : Closed 0x1 P := c.mono rfl
  have c20 : Closed 0x20 P := c.mono rfl
  have c81f0102000200073 : Closed 0x81f0102000200073 P := c.mono rfl
  have c87f010dd037a71f7 : Closed 0x87f010dd037a71f7 P := c.mono rfl
  unfold execUncorrectableError
  dsimp only
  refine nextHas ?_
  refine State.settleAll_keeps c87f010dd037a71f7 ?_
  refine State.uncorrectable_keeps c81f0102000200073 ?_
  refine keeps_then ?_ ?_
  · refine State.begin_keeps c20 ?_
    assumption
  · intro x40
    refine State.bump_keeps c1 ?_
    assumption

theorem execUnfence_keeps {P : State → Prop} (c : Closed 0x87f010dd03fa71f7 P) {a1 : _} {a2 : _} {s : State} (h : P s) :
    NextHas P (execUnfence a1 a2 s) := by
  have c20 : Closed 0x20 P := c.mono rfl
  have cc02030 : Closed 0xc02030 P := c.mono rfl
  have c100000000005 : Closed 0x100000000005 P := c.mono rfl
  have c87f010dd037a71f7 : Closed 0x87f010dd037a71f7 P := c.mono rfl
  unfold execUnfence
  refine nextHas ?_
  refine State.settleAll_keeps c87f010dd037a71f7 ?_
  refine State.granted_keeps c100000000005 ?_ ?_
  · refine State.begin_keeps c20 ?_
    assumption
  · intro x40 x41
    refine unfenceByHost_keeps cc02030 ?_
    assumption

theorem execVectorOpCheck_keeps {P : State → Prop} (c : Closed 0x87f05fdd037ff1f7 P) {a1 : _} {a2 : _} {s : State} (h : P s) :
    NextHas P (execVectorOpCheck a1 a2 s) := by
  have c20 : Closed 0x20 P := c.mono rfl
  have c82000 : Closed 0x82000 P := c.mono rfl
  have c20000000000000 : Closed 0x20000000000000 P := c.mono rfl
  have c80a0100000040011 : Closed 0x80a0100000040011 P := c.mono rfl
  have c81f05f5d037bf073 : Closed 0x81f05f5d037bf073 P := c.mono rfl
  have c87f010dd037a71f7 : Closed 0x87f010dd037a71f7 P := c.mono rfl
  unfold execVectorOpCheck
  dsimp only
  refine has_ite ?_ ?_
  · refine nextHas ?_
    refine State.settleAll_keeps c87f010dd037a71f7 ?_
    refine keeps_ite ?_ ?_
    · refine State.vectorCheck_keeps c81f05f5d037bf073 ?_
      refine State.takeResult_keeps c80a0100000040011 ?_
      refine State.begin_keeps c20 ?_
      assumption
    · refine State.closeWork_keeps c82000 ?_
      refine State.takeResult_keeps c80a0100000040011 ?_
      refine State.begin_keeps c20 ?_
      assumption
  · refine nextHas ?_
    refine State.settleAll_keeps c87f010dd037a71f7 ?_
    refine keeps_then ?_ ?_
    · refine State.addEdges_keeps c20000000000000 ?_
      refine State.begin_keeps c20 ?_
      assumption
    · intro x60
      refine State.vectorCheck_keeps c81f05f5d037bf073 ?_
      assumption

end Sys2Proof.Machine
end

