-- ==== Sys2Proof/Laws/KeepsDictionary.lean ====
section
/-! SUPPORT. What each operation keeps (see Laws/Keeps.lean): the writes of the dictionary, channels and messages. -/

namespace Sys2Proof.Machine

theorem State.dropImage_keeps {P : State → Prop} (c : Closed 0x400000000000001 P) {s : State} {a2 : _} (h : P s) :
    P (State.dropImage s a2) := by
  have c1 : Closed 0x1 P := c.mono rfl
  have c400000000000000 : Closed 0x400000000000000 P := c.mono rfl
  unfold State.dropImage
  dsimp only
  refine State.putN_keeps c1 ?_
  refine keeps_img c400000000000000 ?_
  assumption

theorem State.setChan_keeps {P : State → Prop} (c : Closed 0x200 P) {s : State} {a2 : _} {a3 : _} (h : P s) :
    P (State.setChan s a2 a3) := by
  exact c .chans_ rfl _ _ _  h

theorem State.freeChan_keeps {P : State → Prop} (c : Closed 0x211 P) {s : State} {a2 : _} {a3 : _} (h : P s) :
    P (State.freeChan s a2 a3) := by
  have c1 : Closed 0x1 P := c.mono rfl
  have c10 : Closed 0x10 P := c.mono rfl
  have c200 : Closed 0x200 P := c.mono rfl
  unfold State.freeChan
  refine State.disarm_keeps c10 ?_
  refine State.putN_keeps c1 ?_
  refine State.putN_keeps c1 ?_
  refine State.setChan_keeps c200 ?_
  assumption

theorem State.abortChan_keeps {P : State → Prop} (c : Closed 0x400000000000211 P) {s : State} {a2 : _} {a3 : _} (h : P s) :
    P (State.abortChan s a2 a3) := by
  have c211 : Closed 0x211 P := c.mono rfl
  have c400000000000001 : Closed 0x400000000000001 P := c.mono rfl
  unfold State.abortChan
  dsimp only
  refine State.freeChan_keeps c211 ?_
  refine keeps_ite ?_ ?_
  · refine State.dropImage_keeps c400000000000001 ?_
    assumption
  · assumption

theorem State.frameError_keeps {P : State → Prop} (c : Closed 0x81f0100000200073 P) {s : State} {a2 : _} {a3 : _} {a4 : _}
    {a5 : _} {a6 : _} {a7 : _} (h : P s) :
    P (State.frameError s a2 a3 a4 a5 a6 a7) := by
  have c1 : Closed 0x1 P := c.mono rfl
  have c81f0100000200073 : Closed 0x81f0100000200073 P := c.mono rfl
  unfold State.frameError
  refine State.raise_keeps c81f0100000200073 ?_
  refine State.bump_keeps c1 ?_
  assumption

theorem State.adpIn_keeps {P : State → Prop} (c : Closed 0x81f0100000200073 P) {s : State} {a2 : _} {f3 : State → State}
    (h : P s) (hf3 : ∀ (x0 : State), P x0 → P (f3 x0)) :
    P (State.adpIn s a2 f3) := by
  have c1 : Closed 0x1 P := c.mono rfl
  have c81f0100000200073 : Closed 0x81f0100000200073 P := c.mono rfl
  unfold State.adpIn
  refine keeps_ite ?_ ?_
  · assumption
  · refine keeps_ite ?_ ?_
    · refine State.foreign_keeps c1 ?_
      assumption
    · refine keeps_ite ?_ ?_
      · refine State.frameError_keeps c81f0100000200073 ?_
        assumption
      · refine hf3 _ ?_
        assumption

theorem State.ageMaps_keeps {P : State → Prop} (c : Closed 0x10 P) {s : State} (h : P s) :
    P (State.ageMaps s) := by
  have c10 : Closed 0x10 P := c.mono rfl
  unfold State.ageMaps
  refine keeps_foldl ?_ _ ?_
  · intro x40 x41 x42
    refine State.armAt_keeps c10 ?_
    assumption
  · assumption

theorem State.keepSetting_keeps {P : State → Prop} (c : Closed 0x80000000000001 P) {s : State} {a2 : _} (h : P s) :
    P (State.keepSetting s a2) := by
  have c80000000000001 : Closed 0x80000000000001 P := c.mono rfl
  unfold State.keepSetting
  refine keeps_ite ?_ ?_
  · refine State.configItem_keeps c80000000000001 ?_
    assumption
  · refine keeps_ite ?_ ?_
    · refine State.configItem_keeps c80000000000001 ?_
      assumption
    · refine keeps_ite ?_ ?_
      · refine State.configItem_keeps c80000000000001 ?_
        assumption
      · refine keeps_ite ?_ ?_
        · refine State.configItem_keeps c80000000000001 ?_
          assumption
        · refine keeps_ite ?_ ?_
          · refine State.configItem_keeps c80000000000001 ?_
            assumption
          · assumption

theorem State.newAssignment_keeps {P : State → Prop} (c : Closed 0x200001 P) {s : State} (h : P s) :
    P (State.newAssignment s) := by
  have c1 : Closed 0x1 P := c.mono rfl
  have c200000 : Closed 0x200000 P := c.mono rfl
  unfold State.newAssignment
  refine State.putN_keeps c1 ?_
  refine State.upJob_keeps c200000 ?_
  assumption

theorem State.newCycleDelay_keeps {P : State → Prop} (c : Closed 0x10 P) {s : State} {a2 : _} (h : P s) :
    P (State.newCycleDelay s a2) := by
  have c10 : Closed 0x10 P := c.mono rfl
  unfold State.newCycleDelay
  refine keeps_ite ?_ ?_
  · assumption
  · refine keeps_ite ?_ ?_
    · refine State.disarm_keeps c10 ?_
      assumption
    · refine State.armAt_keeps c10 ?_
      assumption

theorem State.setTrace_keeps {P : State → Prop} (c : Closed 0x20000000000001 P) {s : State} {a2 : _} (h : P s) :
    P (State.setTrace s a2) := by
  have c1 : Closed 0x1 P := c.mono rfl
  have c20000000000000 : Closed 0x20000000000000 P := c.mono rfl
  unfold State.setTrace
  dsimp only
  refine keeps_ite ?_ ?_
  · refine State.putN_keeps c1 ?_
    refine State.putN_keeps c1 ?_
    refine State.putN_keeps c1 ?_
    refine keeps_obs c20000000000000 ?_
    assumption
  · refine keeps_ite ?_ ?_
    · refine keeps_ite ?_ ?_
      · refine State.putN_keeps c1 ?_
        assumption
      · refine keeps_ite ?_ ?_
        · refine State.putN_keeps c1 ?_
          assumption
        · assumption
    · assumption

theorem State.stopTrims_keeps {P : State → Prop} (c : Closed 0x100000000000000 P) {s : State} (h : P s) :
    P (State.stopTrims s) := by
  have c100000000000000 : Closed 0x100000000000000 P := c.mono rfl
  unfold State.stopTrims
  refine keeps_foldl ?_ _ ?_
  · intro x40 x41 x42
    refine State.upProbe_keeps c100000000000000 ?_
    assumption
  · assumption

theorem State.timeMode_keeps {P : State → Prop} (c : Closed 0x1011 P) {s : State} {a2 : _} (h : P s) :
    P (State.timeMode s a2) := by
  have c10 : Closed 0x10 P := c.mono rfl
  have c1011 : Closed 0x1011 P := c.mono rfl
  unfold State.timeMode
  refine State.followBeacon_keeps c1011 ?_
  refine keeps_ite ?_ ?_
  · refine keeps_ite ?_ ?_
    · refine State.armWatch_keeps c10 ?_
      assumption
    · assumption
  · refine State.disarm_keeps c10 ?_
    assumption

theorem State.afterWrite_keeps {P : State → Prop} (c : Closed 0x1a0000000201011 P) {s : State} {a2 : _} {a3 : _} (h : P s) :
    P (State.afterWrite s a2 a3) := by
  have c1 : Closed 0x1 P := c.mono rfl
  have c10 : Closed 0x10 P := c.mono rfl
  have c1011 : Closed 0x1011 P := c.mono rfl
  have c200001 : Closed 0x200001 P := c.mono rfl
  have c20000000000001 : Closed 0x20000000000001 P := c.mono rfl
  have c80000000000001 : Closed 0x80000000000001 P := c.mono rfl
  have c100000000000000 : Closed 0x100000000000000 P := c.mono rfl
  unfold State.afterWrite
  dsimp only
  refine keeps_ite ?_ ?_
  · refine State.timeMode_keeps c1011 ?_
    refine State.keepSetting_keeps c80000000000001 ?_
    assumption
  · refine keeps_ite ?_ ?_
    · refine State.followBeacon_keeps c1011 ?_
      refine State.bump_keeps c1 ?_
      refine State.keepSetting_keeps c80000000000001 ?_
      assumption
    · refine keeps_ite ?_ ?_
      · refine State.followBeacon_keeps c1011 ?_
        refine State.keepSetting_keeps c80000000000001 ?_
        assumption
      · refine keeps_ite ?_ ?_
        · refine State.rearm_keeps c10 ?_
          refine State.keepSetting_keeps c80000000000001 ?_
          assumption
        · refine keeps_ite ?_ ?_
          · refine keeps_then ?_ ?_
            · refine State.keepSetting_keeps c80000000000001 ?_
              assumption
            · intro x140
              refine State.stopTrims_keeps c100000000000000 ?_
              assumption
          · refine keeps_ite ?_ ?_
            · refine State.ageMaps_keeps c10 ?_
              refine State.keepSetting_keeps c80000000000001 ?_
              assumption
            · refine keeps_ite ?_ ?_
              · refine State.newCycleDelay_keeps c10 ?_
                refine State.keepSetting_keeps c80000000000001 ?_
                assumption
              · refine keeps_ite ?_ ?_
                · refine State.setTrace_keeps c20000000000001 ?_
                  refine State.keepSetting_keeps c80000000000001 ?_
                  assumption
                · refine keeps_then ?_ ?_
                  · refine State.keepSetting_keeps c80000000000001 ?_
                    assumption
                  · intro x200
                    refine State.newAssignment_keeps c200001 ?_
                    assumption

theorem State.armIdle_keeps {P : State → Prop} (c : Closed 0x10 P) {s : State} {a2 : _} (h : P s) :
    P (State.armIdle s a2) := by
  have c10 : Closed 0x10 P := c.mono rfl
  unfold State.armIdle
  refine State.arm_keeps c10 ?_
  assumption

theorem State.openChan_keeps {P : State → Prop} (c : Closed 0x85f0100000200273 P) {s : State} {a2 : _} {a3 : _} {a4 : _}
    {a5 : _} {a6 : _} {a7 : _} {a8 : _} (h : P s) :
    P (State.openChan s a2 a3 a4 a5 a6 a7 a8) := by
  have c1 : Closed 0x1 P := c.mono rfl
  have c10 : Closed 0x10 P := c.mono rfl
  have c200 : Closed 0x200 P := c.mono rfl
  have c400000000000001 : Closed 0x400000000000001 P := c.mono rfl
  have c81f0100000200073 : Closed 0x81f0100000200073 P := c.mono rfl
  unfold State.openChan
  dsimp only
  refine State.armIdle_keeps c10 ?_
  refine State.putN_keeps c1 ?_
  refine State.putN_keeps c1 ?_
  refine State.putN_keeps c1 ?_
  refine State.setChan_keeps c200 ?_
  refine keeps_ite ?_ ?_
  · refine State.afterRead_keeps c81f0100000200073 ?_
    assumption
  · refine keeps_ite ?_ ?_
    · refine State.dropImage_keeps c400000000000001 ?_
      assumption
    · assumption

theorem State.claim_keeps {P : State → Prop} (c : Closed 0x85f0100000200273 P) {s : State} {a2 : _} {a3 : _} {a4 : _}
    (h : P s) :
    P (State.claim s a2 a3 a4).1 := by
  have c85f0100000200273 : Closed 0x85f0100000200273 P := c.mono rfl
  unfold State.claim
  split
  · dsimp only
    assumption
  · split
    · dsimp only
      assumption
    · dsimp only
      refine State.openChan_keeps c85f0100000200273 ?_
      assumption

theorem contentWrite_keeps {P : State → Prop} (c : Closed 0x82004000000093 P) {a1 : _} {a2 : _} {a3 : _} {s : State}
    (h : P s) :
    P (contentWrite a1 a2 a3 s).1 := by
  have c82 : Closed 0x82 P := c.mono rfl
  have c4000000093 : Closed 0x4000000093 P := c.mono rfl
  have c2000000000000 : Closed 0x2000000000000 P := c.mono rfl
  have c80000000000001 : Closed 0x80000000000001 P := c.mono rfl
  unfold contentWrite
  dsimp only
  split
  · refine digestWrite_keeps c4000000093 ?_
    assumption
  · split
    · dsimp only
      assumption
    · split
      · dsimp only
        refine keeps_lcToken c2000000000000 ?_
        assumption
      · split
        · dsimp only
          refine State.keepSetting_keeps c80000000000001 ?_
          refine State.writeContent_keeps c82 ?_
          assumption
        · dsimp only
          refine State.keepSetting_keeps c80000000000001 ?_
          refine State.writeContent_keeps c82 ?_
          assumption
        · dsimp only
          refine State.writeContent_keeps c82 ?_
          assumption

theorem endPush_keeps {P : State → Prop} (c : Closed 0x400000000000001 P) {s : State} (h : P s) :
    P (endPush s).1 := by
  have c400000000000001 : Closed 0x400000000000001 P := c.mono rfl
  unfold endPush
  split
  · dsimp only
    refine State.dropImage_keeps c400000000000001 ?_
    assumption
  · dsimp only
    assumption

theorem State.contentGrant_keeps {P : State → Prop} (c : Closed 0x482004000000097 P) {s : State} {a2 : _} {a3 : _} {a4 : _}
    (h : P s) :
    P (State.contentGrant s a2 a3 a4).1 := by
  have c4 : Closed 0x4 P := c.mono rfl
  have c82004000000093 : Closed 0x82004000000093 P := c.mono rfl
  have c400000000000001 : Closed 0x400000000000001 P := c.mono rfl
  unfold State.contentGrant
  dsimp only
  split
  · dsimp only
    refine State.endGrant_keeps c4 ?_
    refine keeps_ite ?_ ?_
    · refine State.dropImage_keeps c400000000000001 ?_
      assumption
    · assumption
  · dsimp only
    refine State.endGrant_keeps c4 ?_
    split
    · refine endPush_keeps c400000000000001 ?_
      assumption
    · split
      · refine contentWrite_keeps c82004000000093 ?_
        assumption
      · dsimp only
        assumption

theorem State.endDownload_keeps {P : State → Prop} (c : Closed 0x482004000000297 P) {s : State} {a2 : _} {a3 : _} {a4 : _}
    (h : P s) :
    P (State.endDownload s a2 a3 a4).1 := by
  have c211 : Closed 0x211 P := c.mono rfl
  have c400000000000211 : Closed 0x400000000000211 P := c.mono rfl
  have c482004000000097 : Closed 0x482004000000097 P := c.mono rfl
  unfold State.endDownload
  dsimp only
  split
  · dsimp only
    assumption
  · split
    · dsimp only
      refine State.abortChan_keeps c400000000000211 ?_
      assumption
    · dsimp only
      refine State.contentGrant_keeps c482004000000097 ?_
      refine State.freeChan_keeps c211 ?_
      assumption

theorem State.quietItem_keeps {P : State → Prop} (c : Closed 0x1a0000000201091 P) {s : State} {a2 : _} {a3 : _} (h : P s) :
    P (State.quietItem s a2 a3).1 := by
  have c81 : Closed 0x81 P := c.mono rfl
  have c1a0000000201011 : Closed 0x1a0000000201011 P := c.mono rfl
  unfold State.quietItem
  dsimp only
  split
  · dsimp only
    assumption
  · split
    · dsimp only
      assumption
    · dsimp only
      refine State.afterWrite_keeps c1a0000000201011 ?_
      refine State.stage_keeps c81 ?_
      assumption

theorem State.segmentOp_keeps {P : State → Prop} (c : Closed 0x8080100000000011 P) {s : State} {a2 : _} (h : P s) :
    P (State.segmentOp s a2) := by
  have c10 : Closed 0x10 P := c.mono rfl
  have c8080100000000011 : Closed 0x8080100000000011 P := c.mono rfl
  unfold State.segmentOp
  refine State.armIdle_keeps c10 ?_
  refine State.arrives_keeps c8080100000000011 ?_
  assumption

theorem onTransfer_keeps {P : State → Prop} (c : Closed 0x8080100000000011 P) {a1 : _} {a2 : _}
    {f3 : Chan → State → State × WEnd} {s : State} (hf3 : ∀ (x0 : Chan) (x1 : State), P x1 → P (f3 x0 x1).1) (h : P s) :
    P (onTransfer a1 a2 f3 s).1 := by
  have c8080100000000011 : Closed 0x8080100000000011 P := c.mono rfl
  unfold onTransfer
  split
  · dsimp only
    assumption
  · split
    · dsimp only
      assumption
    · refine hf3 _ _ ?_
      refine State.segmentOp_keeps c8080100000000011 ?_
      assumption

theorem abortCommand_keeps {P : State → Prop} (c : Closed 0x8480100000000211 P) {a1 : _} {a2 : _} {s : State} (h : P s) :
    P (abortCommand a1 a2 s).1 := by
  have c400000000000211 : Closed 0x400000000000211 P := c.mono rfl
  have c8080100000000011 : Closed 0x8080100000000011 P := c.mono rfl
  unfold abortCommand
  refine onTransfer_keeps c8080100000000011 ?_ ?_
  · intro x40 x41 x42
    dsimp only
    refine State.abortChan_keeps c400000000000211 ?_
    assumption
  · assumption

theorem endCommand_keeps {P : State → Prop} (c : Closed 0x8482104000000297 P) {a1 : _} {a2 : _} {s : State} (h : P s) :
    P (endCommand a1 a2 s).1 := by
  have c482004000000297 : Closed 0x482004000000297 P := c.mono rfl
  have c8080100000000011 : Closed 0x8080100000000011 P := c.mono rfl
  unfold endCommand
  dsimp only
  refine onTransfer_keeps c8080100000000011 ?_ ?_
  · intro x40 x41 x42
    dsimp only
    refine State.endDownload_keeps c482004000000297 ?_
    assumption
  · assumption

theorem State.setArea_keeps {P : State → Prop} (c : Closed 0x800 P) {s : State} {a2 : _} {a3 : _} {a4 : _} (h : P s) :
    P (State.setArea s a2 a3 a4) := by
  exact c .data_ rfl _ _ _ _  h

theorem fetchCommand_keeps {P : State → Prop} (c : Closed 0x8080100000000811 P) {a1 : _} {a2 : _} {s : State} (h : P s) :
    P (fetchCommand a1 a2 s).1 := by
  have c800 : Closed 0x800 P := c.mono rfl
  have c8080100000000011 : Closed 0x8080100000000011 P := c.mono rfl
  unfold fetchCommand
  dsimp only
  refine onTransfer_keeps c8080100000000011 ?_ ?_
  · intro x40 x41 x42
    split
    · dsimp only
      assumption
    · dsimp only
      refine keeps_ite ?_ ?_
      · refine State.setArea_keeps c800 ?_
        assumption
      · assumption
  · assumption

theorem storeSegment_keeps {P : State → Prop} (c : Closed 0x400000000000211 P) {a1 : _} {a2 : _} {a3 : _} {a4 : _}
    {s : State} (h : P s) :
    P (storeSegment a1 a2 a3 a4 s).1 := by
  have c200 : Closed 0x200 P := c.mono rfl
  have c400000000000000 : Closed 0x400000000000000 P := c.mono rfl
  have c400000000000211 : Closed 0x400000000000211 P := c.mono rfl
  unfold storeSegment
  dsimp only
  split
  · dsimp only
    refine State.abortChan_keeps c400000000000211 ?_
    assumption
  · split
    · dsimp only
      refine State.setChan_keeps c200 ?_
      refine keeps_img c400000000000000 ?_
      assumption
    · dsimp only
      refine State.setChan_keeps c200 ?_
      assumption

theorem storeCommand_keeps {P : State → Prop} (c : Closed 0x8480100000000211 P) {a1 : _} {a2 : _} {s : State} (h : P s) :
    P (storeCommand a1 a2 s).1 := by
  have c400000000000211 : Closed 0x400000000000211 P := c.mono rfl
  have c8080100000000011 : Closed 0x8080100000000011 P := c.mono rfl
  unfold storeCommand
  refine onTransfer_keeps c8080100000000011 ?_ ?_
  · intro x40 x41 x42
    split
    · dsimp only
      assumption
    · refine storeSegment_keeps c400000000000211 ?_
      assumption
  · assumption

theorem channelCommand_keeps {P : State → Prop} (c : Closed 0x8482104000000a97 P) {a1 : _} {a2 : _} {a3 : _} {s : State}
    (h : P s) :
    P (channelCommand a1 a2 a3 s).1 := by
  have c8080100000000811 : Closed 0x8080100000000811 P := c.mono rfl
  have c8480100000000211 : Closed 0x8480100000000211 P := c.mono rfl
  have c8482104000000297 : Closed 0x8482104000000297 P := c.mono rfl
  unfold channelCommand
  split
  · refine fetchCommand_keeps c8080100000000811 ?_
    assumption
  · split
    · refine storeCommand_keeps c8480100000000211 ?_
      assumption
    · split
      · refine endCommand_keeps c8482104000000297 ?_
        assumption
      · refine abortCommand_keeps c8480100000000211 ?_
        assumption

theorem openByWrite_keeps {P : State → Prop} (c : Closed 0x85f0100000200273 P) {a1 : _} {a2 : _} {a3 : _} {a4 : _} {a5 : _}
    {s : State} (h : P s) :
    P (openByWrite a1 a2 a3 a4 a5 s).1 := by
  have c85f0100000200273 : Closed 0x85f0100000200273 P := c.mono rfl
  unfold openByWrite
  dsimp only
  split
  · dsimp only
    assumption
  · split
    · dsimp only
      assumption
    · split
      · dsimp only
        assumption
      · dsimp only
        refine State.openChan_keeps c85f0100000200273 ?_
        assumption

theorem channelBody_keeps {P : State → Prop} (c : Closed 0x85f2104000200af7 P) {a1 : _} {a2 : _} {a3 : _} {a4 : _} {a5 : _}
    {a6 : _} :
    BodyHas P (channelBody a1 a2 a3 a4 a5 a6) := by
  have c8482104000000a97 : Closed 0x8482104000000a97 P := c.mono rfl
  have c85f0100000200273 : Closed 0x85f0100000200273 P := c.mono rfl
  unfold channelBody
  refine has_ite ?_ ?_
  · refine bodyHas_some ?_
    intro x40 x41
    refine openByWrite_keeps c85f0100000200273 ?_
    assumption
  · refine has_ite ?_ ?_
    · refine bodyHas_some ?_
      intro x60 x61
      refine channelCommand_keeps c8482104000000a97 ?_
      assumption
    · exact bodyHas_none

theorem checkBody_keeps {P : State → Prop} (c : Closed 0x81f01045037a7073 P) {a1 : _} {a2 : _} {a3 : _} :
    BodyHas P (checkBody a1 a2 a3) := by
  have c0 : Closed 0x0 P := c.mono rfl
  have c2061 : Closed 0x2061 P := c.mono rfl
  have c102031 : Closed 0x102031 P := c.mono rfl
  have c106031 : Closed 0x106031 P := c.mono rfl
  have c201071 : Closed 0x201071 P := c.mono rfl
  have c81e01000003a6073 : Closed 0x81e01000003a6073 P := c.mono rfl
  have c81f01045037a7073 : Closed 0x81f01045037a7073 P := c.mono rfl
  unfold checkBody
  dsimp only
  refine has_ite ?_ ?_
  · refine bodyHas_some ?_
    intro x40 x41
    refine requestRegen_keeps c102031 ?_
    assumption
  · refine has_ite ?_ ?_
    · refine bodyHas_some ?_
      intro x60 x61
      refine releaseRegen_keeps c106031 ?_
      assumption
    · refine has_ite ?_ ?_
      · refine bodyHas_some ?_
        intro x80 x81
        refine ifUnattributed_keeps c0 ?_ ?_
        · intro x100 x101 x102
          split
          · refine restartPair_keeps c201071 ?_
            assumption
          · refine endPair_keeps c81e01000003a6073 ?_
            assumption
        · assumption
      · refine has_ite ?_ ?_
        · refine bodyHas_some ?_
          intro x100 x101
          refine ifStopped_keeps c0 ?_ ?_
          · intro x120 x121
            split
            · refine poisonEnd_keeps c81e01000003a6073 ?_
              assumption
            · refine poisonResume_keeps c81f01045037a7073 ?_
              assumption
          · assumption
        · split
          · refine bodyHas_some ?_
            intro x120 x121
            refine scanControl_keeps c2061 ?_
            assumption
          · exact bodyHas_none

theorem coreBody_keeps {P : State → Prop} (c : Closed 0x120000101404071 P) {a1 : _} {a2 : _} {a3 : _} :
    BodyHas P (coreBody a1 a2 a3) := by
  have c1 : Closed 0x1 P := c.mono rfl
  have c20000000000000 : Closed 0x20000000000000 P := c.mono rfl
  have c20000000000041 : Closed 0x20000000000041 P := c.mono rfl
  have c120000101404071 : Closed 0x120000101404071 P := c.mono rfl
  unfold coreBody
  refine has_ite ?_ ?_
  · refine bodyHas_some ?_
    intro x40 x41
    refine writeTrim_keeps c120000101404071 ?_
    assumption
  · refine has_ite ?_ ?_
    · refine bodyHas_some ?_
      intro x60 x61
      dsimp only
      refine State.putN_keeps c1 ?_
      assumption
    · refine has_ite ?_ ?_
      · refine bodyHas_some ?_
        intro x80 x81
        dsimp only
        refine State.ringEvent_keeps c20000000000041 ?_
        assumption
      · refine has_ite ?_ ?_
        · refine bodyHas_some ?_
          intro x100 x101
          dsimp only
          refine State.setCounters_keeps c20000000000000 ?_
          assumption
        · exact bodyHas_none

theorem errorBody_keeps {P : State → Prop} (c : Closed 0xc1f05f7f137bf0f3 P) {a1 : _} {a2 : _} {a3 : _} :
    BodyHas P (errorBody a1 a2 a3) := by
  have c1 : Closed 0x1 P := c.mono rfl
  have c100000000000 : Closed 0x100000000000 P := c.mono rfl
  have c100000000071 : Closed 0x100000000071 P := c.mono rfl
  have c4000000000000031 : Closed 0x4000000000000031 P := c.mono rfl
  have c81f05f7f137bf0f3 : Closed 0x81f05f7f137bf0f3 P := c.mono rfl
  unfold errorBody
  dsimp only
  refine has_ite ?_ ?_
  · refine bodyHas_some ?_
    intro x40 x41
    refine releaseHold_keeps c100000000000 ?_
    assumption
  · refine has_ite ?_ ?_
    · refine bodyHas_some ?_
      intro x60 x61
      refine cycleNow_keeps c4000000000000031 ?_
      assumption
    · refine has_ite ?_ ?_
      · refine has_ite ?_ ?_
        · refine bodyHas_some ?_
          intro x100 x101
          refine clearSticky_keeps c1 ?_
          assumption
        · refine has_ite ?_ ?_
          · refine bodyHas_some ?_
            intro x120 x121
            refine writeMask_keeps c100000000071 ?_
            assumption
          · refine has_ite ?_ ?_
            · refine bodyHas_some ?_
              intro x140 x141
              refine writeForce_keeps c81f05f7f137bf0f3 ?_
              assumption
            · exact bodyHas_none
      · exact bodyHas_none

theorem floorBody_keeps {P : State → Prop} (c : Closed 0x81f05e7d03fa7073 P) {a1 : _} {a2 : _} {a3 : _} :
    BodyHas P (floorBody a1 a2 a3) := by
  have c203071 : Closed 0x203071 P := c.mono rfl
  have cc02030 : Closed 0xc02030 P := c.mono rfl
  have c4000002021 : Closed 0x4000002021 P := c.mono rfl
  have c200000003a7073 : Closed 0x200000003a7073 P := c.mono rfl
  have c80040000000001 : Closed 0x80040000000001 P := c.mono rfl
  have c81f01000003a6073 : Closed 0x81f01000003a6073 P := c.mono rfl
  have c81f0104503707073 : Closed 0x81f0104503707073 P := c.mono rfl
  have c81f05e7d037a7073 : Closed 0x81f05e7d037a7073 P := c.mono rfl
  unfold floorBody
  dsimp only
  refine has_ite ?_ ?_
  · refine bodyHas_some ?_
    intro x40 x41
    refine fenceByHost_keeps c81f05e7d037a7073 ?_
    assumption
  · refine has_ite ?_ ?_
    · refine bodyHas_some ?_
      intro x60 x61
      refine unfenceByHost_keeps cc02030 ?_
      assumption
    · refine has_ite ?_ ?_
      · refine bodyHas_some ?_
        intro x80 x81
        refine hostRefilled_keeps c81f0104503707073 ?_
        assumption
      · refine has_ite ?_ ?_
        · refine has_ite ?_ ?_
          · refine bodyHas_some ?_
            intro x120 x121
            refine repeatRefill_keeps c4000002021 ?_
            assumption
          · refine has_ite ?_ ?_
            · refine bodyHas_some ?_
              intro x140 x141
              refine endRefill_keeps c81f01000003a6073 ?_
              assumption
            · refine bodyHas_some ?_
              intro x140 x141
              dsimp only
              assumption
        · refine has_ite ?_ ?_
          · refine bodyHas_some ?_
            intro x120 x121
            refine releaseEntry_keeps c80040000000001 ?_
            assumption
          · refine has_ite ?_ ?_
            · refine bodyHas_some ?_
              intro x140 x141
              refine replaceRank_keeps c200000003a7073 ?_
              assumption
            · refine has_ite ?_ ?_
              · refine bodyHas_some ?_
                intro x160 x161
                refine writeRoute_keeps c203071 ?_
                assumption
              · exact bodyHas_none

theorem serviceBody_keeps {P : State → Prop} (c : Closed 0x85f4ff7d0bfa7077 P) {a1 : _} {a2 : _} :
    BodyHas P (serviceBody a1 a2) := by
  have c404000000031 : Closed 0x404000000031 P := c.mono rfl
  have c800000000000 : Closed 0x800000000000 P := c.mono rfl
  have c4000000000000 : Closed 0x4000000000000 P := c.mono rfl
  have c80000000000001 : Closed 0x80000000000001 P := c.mono rfl
  have c80000000000003 : Closed 0x80000000000003 P := c.mono rfl
  have c120406000000073 : Closed 0x120406000000073 P := c.mono rfl
  have c400000000000031 : Closed 0x400000000000031 P := c.mono rfl
  have c81f0300000200077 : Closed 0x81f0300000200077 P := c.mono rfl
  have c81f0504103706073 : Closed 0x81f0504103706073 P := c.mono rfl
  have c81f07f7d0bfa7077 : Closed 0x81f07f7d0bfa7077 P := c.mono rfl
  unfold serviceBody
  refine has_ite ?_ ?_
  · refine bodyHas_some ?_
    intro x40 x41
    refine activateImage_keeps c400000000000031 ?_
    assumption
  · refine has_ite ?_ ?_
    · refine bodyHas_some ?_
      intro x60 x61
      refine writeTransition_keeps c4000000000000 ?_
      assumption
    · refine has_ite ?_ ?_
      · refine bodyHas_some ?_
        intro x80 x81
        refine continueBringup_keeps c81f07f7d0bfa7077 ?_
        assumption
      · refine has_ite ?_ ?_
        · refine bodyHas_some ?_
          intro x100 x101
          refine recheckPorts_keeps c81f0300000200077 ?_
          assumption
        · refine has_ite ?_ ?_
          · refine bodyHas_some ?_
            intro x120 x121
            refine requestTest_keeps c81f0504103706073 ?_
            assumption
          · refine has_ite ?_ ?_
            · refine bodyHas_some ?_
              intro x140 x141
              refine requestAbort_keeps c120406000000073 ?_
              assumption
            · refine has_ite ?_ ?_
              · refine bodyHas_some ?_
                intro x160 x161
                refine requestStack_keeps c404000000031 ?_
                assumption
              · refine has_ite ?_ ?_
                · refine bodyHas_some ?_
                  intro x180 x181
                  refine startKeyClear_keeps c800000000000 ?_
                  assumption
                · refine has_ite ?_ ?_
                  · refine bodyHas_some ?_
                    intro x200 x201
                    refine eraseCellar_keeps c80000000000001 ?_
                    assumption
                  · split
                    · refine has_ite ?_ ?_
                      · refine bodyHas_some ?_
                        intro x240 x241
                        refine acceptPort_keeps c80000000000003 ?_
                        assumption
                      · exact bodyHas_none
                    · exact bodyHas_none

theorem timeBody_keeps {P : State → Prop} (c : Closed 0x481f07ffd0bfa70f7 P) {a1 : _} {a2 : _} {a3 : _} :
    BodyHas P (timeBody a1 a2 a3) := by
  have c71 : Closed 0x71 P := c.mono rfl
  have c100000101607071 : Closed 0x100000101607071 P := c.mono rfl
  have c8080100000000011 : Closed 0x8080100000000011 P := c.mono rfl
  have c81f01081017a70f7 : Closed 0x81f01081017a70f7 P := c.mono rfl
  have c481f07f7d0bfa7077 : Closed 0x481f07f7d0bfa7077 P := c.mono rfl
  unfold timeBody
  dsimp only
  refine has_ite ?_ ?_
  · refine bodyHas_some ?_
    intro x40 x41
    refine writeLoad_keeps c481f07f7d0bfa7077 ?_
    assumption
  · refine has_ite ?_ ?_
    · refine bodyHas_some ?_
      intro x60 x61
      split
      · refine activateDomain_keeps c100000101607071 ?_
        assumption
      · refine closeDomain_keeps c81f01081017a70f7 ?_
        assumption
    · refine has_ite ?_ ?_
      · refine bodyHas_some ?_
        intro x80 x81
        refine armStart_keeps c71 ?_
        assumption
      · refine has_ite ?_ ?_
        · refine bodyHas_some ?_
          intro x100 x101
          refine cancelStart_keeps c8080100000000011 ?_
          assumption
        · exact bodyHas_none

theorem watchBody_keeps {P : State → Prop} (c : Closed 0x2c1f07ffd0bfe70f7 P) {a1 : _} {a2 : _} {a3 : _} :
    BodyHas P (watchBody a1 a2 a3) := by
  have c20000000000000 : Closed 0x20000000000000 P := c.mono rfl
  have c1f0100000000073 : Closed 0x1f0100000000073 P := c.mono rfl
  have c81a0100000000051 : Closed 0x81a0100000000051 P := c.mono rfl
  have c81f050e1037e70f7 : Closed 0x81f050e1037e70f7 P := c.mono rfl
  have c2c1f07f7d0bfa7077 : Closed 0x2c1f07f7d0bfa7077 P := c.mono rfl
  unfold watchBody
  dsimp only
  refine has_ite ?_ ?_
  · refine bodyHas_some ?_
    intro x40 x41
    dsimp only
    refine keeps_obs c20000000000000 ?_
    assumption
  · refine has_ite ?_ ?_
    · refine bodyHas_some ?_
      intro x60 x61
      refine orderResume_keeps c81a0100000000051 ?_
      assumption
    · refine has_ite ?_ ?_
      · refine bodyHas_some ?_
        intro x80 x81
        dsimp only
        refine State.freezeTrigger_keeps c1f0100000000073 ?_
        assumption
      · refine has_ite ?_ ?_
        · refine bodyHas_some ?_
          intro x100 x101
          refine orderRelease_keeps c2c1f07f7d0bfa7077 ?_
          assumption
        · refine has_ite ?_ ?_
          · refine bodyHas_some ?_
            intro x120 x121
            refine orderReset_keeps c81f050e1037e70f7 ?_
            assumption
          · exact bodyHas_none

theorem ownBody_keeps {P : State → Prop} (c : Closed 0x6c5f6ffff1bfffaf7 P) {a1 : _} {a2 : _} {a3 : _} {a4 : _} {a5 : _} :
    BodyHas P (ownBody a1 a2 a3 a4 a5) := by
  have c120000101404071 : Closed 0x120000101404071 P := c.mono rfl
  have c81f01045037a7073 : Closed 0x81f01045037a7073 P := c.mono rfl
  have c81f05e7d03fa7073 : Closed 0x81f05e7d03fa7073 P := c.mono rfl
  have c85f2104000200af7 : Closed 0x85f2104000200af7 P := c.mono rfl
  have c85f4ff7d0bfa7077 : Closed 0x85f4ff7d0bfa7077 P := c.mono rfl
  have cc1f05f7f137bf0f3 : Closed 0xc1f05f7f137bf0f3 P := c.mono rfl
  have c2c1f07ffd0bfe70f7 : Closed 0x2c1f07ffd0bfe70f7 P := c.mono rfl
  have c481f07ffd0bfa70f7 : Closed 0x481f07ffd0bfa70f7 P := c.mono rfl
  unfold ownBody
  split
  · refine channelBody_keeps c85f2104000200af7
  · split
    · refine coreBody_keeps c120000101404071
    · refine bodyHas_or ?_ ?_
      · refine timeBody_keeps c481f07ffd0bfa70f7
      · refine bodyHas_or ?_ ?_
        · refine floorBody_keeps c81f05e7d03fa7073
        · refine bodyHas_or ?_ ?_
          · refine checkBody_keeps c81f01045037a7073
          · refine bodyHas_or ?_ ?_
            · refine errorBody_keeps cc1f05f7f137bf0f3
            · refine bodyHas_or ?_ ?_
              · refine serviceBody_keeps c85f4ff7d0bfa7077
              · refine watchBody_keeps c2c1f07ffd0bfe70f7

theorem writeFreezeAt_keeps {P : State → Prop} (c : Closed 0x10000000000011 P) {a1 : _} {s : State} (h : P s) :
    P (writeFreezeAt a1 s).1 := by
  have c1 : Closed 0x1 P := c.mono rfl
  have c10 : Closed 0x10 P := c.mono rfl
  have c10000000000000 : Closed 0x10000000000000 P := c.mono rfl
  unfold writeFreezeAt
  dsimp only
  split
  · dsimp only
    refine State.disarm_keeps c10 ?_
    refine State.put_keeps c1 ?_
    assumption
  · split
    · dsimp only
      refine State.putN_keeps c1 ?_
      assumption
    · dsimp only
      refine State.armAt_keeps c10 ?_
      refine keeps_frz c10000000000000 ?_
      refine State.put_keeps c1 ?_
      assumption

theorem writeReleaseAt_keeps {P : State → Prop} (c : Closed 0x11 P) {a1 : _} {s : State} (h : P s) :
    P (writeReleaseAt a1 s).1 := by
  have c1 : Closed 0x1 P := c.mono rfl
  have c10 : Closed 0x10 P := c.mono rfl
  unfold writeReleaseAt
  dsimp only
  split
  · dsimp only
    refine State.disarm_keeps c10 ?_
    refine State.put_keeps c1 ?_
    assumption
  · dsimp only
    refine State.armAt_keeps c10 ?_
    refine State.put_keeps c1 ?_
    assumption

theorem plainWrite_keeps {P : State → Prop} (c : Closed 0x1b0000000201191 P) {a1 : _} {a2 : _} {a3 : _} {a4 : _} {a5 : _}
    {a6 : _} {s : State} (h : P s) :
    P (plainWrite a1 a2 a3 a4 a5 a6 s).1 := by
  have c1 : Closed 0x1 P := c.mono rfl
  have c11 : Closed 0x11 P := c.mono rfl
  have c80 : Closed 0x80 P := c.mono rfl
  have c191 : Closed 0x191 P := c.mono rfl
  have c10000000000011 : Closed 0x10000000000011 P := c.mono rfl
  have c1a0000000201011 : Closed 0x1a0000000201011 P := c.mono rfl
  unfold plainWrite
  dsimp only
  split
  · refine writeFreezeAt_keeps c10000000000011 ?_
    assumption
  · split
    · refine writeReleaseAt_keeps c11 ?_
      assumption
    · split
      · dsimp only
        assumption
      · split
        · dsimp only
          refine State.afterWrite_keeps c1a0000000201011 ?_
          split
          · dsimp only
            refine State.put_keeps c1 ?_
            refine keeps_staged c80 ?_
            assumption
          · refine State.writeValue_keeps c191 ?_
            assumption
        · dsimp only
          refine State.afterWrite_keeps c1a0000000201011 ?_
          split
          · dsimp only
            refine State.put_keeps c1 ?_
            refine keeps_staged c80 ?_
            assumption
          · refine State.writeValue_keeps c191 ?_
            assumption
        · dsimp only
          split
          · dsimp only
            refine State.put_keeps c1 ?_
            refine keeps_staged c80 ?_
            assumption
          · refine State.writeValue_keeps c191 ?_
            assumption

theorem State.groupItem_keeps {P : State → Prop} (c : Closed 0x6c5f6ffff1bfffbf7 P) {s : State} {a2 : _} {a3 : _} (h : P s) :
    P (State.groupItem s a2 a3).1 := by
  have c1a0000000201091 : Closed 0x1a0000000201091 P := c.mono rfl
  have c1b0000000201191 : Closed 0x1b0000000201191 P := c.mono rfl
  have c6c5f6ffff1bfffaf7 : Closed 0x6c5f6ffff1bfffaf7 P := c.mono rfl
  unfold State.groupItem
  dsimp only
  split
  · dsimp only
    assumption
  · split
    · dsimp only
      assumption
    · split
      · refine (?_ : BodyHas P _) _ (by assumption) _ ?_
        · refine ownBody_keeps c6c5f6ffff1bfffaf7
        · assumption
      · dsimp only
        assumption
      · split
        · refine State.quietItem_keeps c1a0000000201091 ?_
          assumption
        · refine plainWrite_keeps c1b0000000201191 ?_
          assumption

theorem State.reply_keeps {P : State → Prop} (c : Closed 0x100000000020 P) {s : State} {a2 : _} {a3 : _} {a4 : _} {a5 : _}
    {a6 : _} {a7 : _} (h : P s) :
    P (State.reply s a2 a3 a4 a5 a6 a7) := by
  have c100000000020 : Closed 0x100000000020 P := c.mono rfl
  unfold State.reply
  refine State.sendAdp_keeps c100000000020 ?_
  assumption

theorem State.replyEnd_keeps {P : State → Prop} (c : Closed 0x100000000020 P) {s : State} {a2 : _} {a3 : _} {a4 : _}
    (h : P s) :
    P (State.replyEnd s a2 a3 a4) := by
  have c100000000020 : Closed 0x100000000020 P := c.mono rfl
  unfold State.replyEnd
  refine State.reply_keeps c100000000020 ?_
  assumption

theorem State.replyWrite_keeps {P : State → Prop} (c : Closed 0x100000000430 P) {s : State} {a2 : _} {a3 : _} {a4 : _}
    (h : P s) :
    P (State.replyWrite s a2 a3 a4) := by
  have c10 : Closed 0x10 P := c.mono rfl
  have c400 : Closed 0x400 P := c.mono rfl
  have c100000000020 : Closed 0x100000000020 P := c.mono rfl
  unfold State.replyWrite
  dsimp only
  refine keeps_ite ?_ ?_
  · refine State.arm_keeps c10 ?_
    refine keeps_adp c400 ?_
    assumption
  · refine State.writeResponse_keeps c100000000020 ?_
    assumption

theorem runGroup_keeps {P : State → Prop} (c : Closed 0x6c5f6ffff1bfffbf7 P) {a1 : _} {a2 : _} {a3 : _} {s : State} (h : P s) :
    P (runGroup a1 a2 a3 s).1 := by
  have c4 : Closed 0x4 P := c.mono rfl
  have c6c5f6ffff1bfffbf7 : Closed 0x6c5f6ffff1bfffbf7 P := c.mono rfl
  unfold runGroup
  dsimp only
  split
  · dsimp only
    assumption
  · split
    · refine runGroup_keeps c6c5f6ffff1bfffbf7 ?_
      refine State.endGrant_keeps c4 ?_
      refine State.groupItem_keeps c6c5f6ffff1bfffbf7 ?_
      assumption
    · dsimp only
      assumption

theorem State.runItems_keeps {P : State → Prop} (c : Closed 0x6c5f6ffff1bfffbf7 P) {s : State} {a2 : _} {a3 : _} (h : P s) :
    P (State.runItems s a2 a3).1 := by
  have c191 : Closed 0x191 P := c.mono rfl
  have c6c5f6ffff1bfffbf7 : Closed 0x6c5f6ffff1bfffbf7 P := c.mono rfl
  unfold State.runItems
  dsimp only
  split
  · dsimp only
    assumption
  · split
    · dsimp only
      assumption
    · split
      · dsimp only
        assumption
      · split
        · dsimp only
          assumption
        · split
          · dsimp only
            assumption
          · split
            · split
              · dsimp only
                refine keeps_fst (by assumption) ?_
                refine State.beginDrain_keeps c191 ?_
                refine keeps_fst (by assumption) ?_
                refine runGroup_keeps c6c5f6ffff1bfffbf7 ?_
                assumption
              · dsimp only
                assumption
            · dsimp only
              refine keeps_fst (by assumption) ?_
              refine runGroup_keeps c6c5f6ffff1bfffbf7 ?_
              assumption

theorem State.windowData_keeps {P : State → Prop} (c : Closed 0x801 P) {s : State} {a2 : _} {a3 : _} {a4 : _} (h : P s) :
    P (State.windowData s a2 a3 a4) := by
  have c1 : Closed 0x1 P := c.mono rfl
  have c800 : Closed 0x800 P := c.mono rfl
  unfold State.windowData
  dsimp only
  split
  · assumption
  · refine keeps_ite ?_ ?_
    · assumption
    · refine keeps_else ?_ ?_
      · refine State.countAccess_keeps c1 ?_
        assumption
      · intro x80
        refine keeps_ite ?_ ?_
        · assumption
        · refine State.setArea_keeps c800 ?_
          assumption

theorem valueBody_keeps {P : State → Prop} (c : Closed 0x6c5f6ffff1bfffbf7 P) {a1 : _} {a2 : _} {a3 : _} {a4 : _} {a5 : _}
    {a6 : _} {s : State} (h : P s) :
    P (valueBody a1 a2 a3 a4 a5 a6 s).1 := by
  have hb := ownBody_keeps (c.mono rfl) (a1 := a1) (a2 := a2) (a3 := a3) (a4 := a5) (a5 := a6)
  unfold valueBody
  cases e : ownBody a1 a2 a3 a5 a6 with
  | some b => exact hb b e s h
  | none =>
    dsimp only
    split
    · exact plainWrite_keeps (c.mono rfl) h
    · exact h

theorem State.writeAccess_keeps {P : State → Prop} (c : Closed 0x6c5f6ffff1bfffbf7 P) {s : State} {a2 : _} {a3 : _} {a4 : _}
    {a5 : _} {a6 : _} {a7 : _} (h : P s) :
    P (State.writeAccess s a2 a3 a4 a5 a6 a7) := by
  have c100000000005 : Closed 0x100000000005 P := c.mono rfl
  have c6c5f6ffff1bfffbf7 : Closed 0x6c5f6ffff1bfffbf7 P := c.mono rfl
  unfold State.writeAccess
  refine State.granted_keeps c100000000005 ?_ ?_
  · assumption
  · intro x40 x41
    split
    · dsimp only
      assumption
    · refine valueBody_keeps c6c5f6ffff1bfffbf7 ?_
      assumption

theorem execAdpAbort_keeps {P : State → Prop} (c : Closed 0x87f010dd037a73f7 P) {a1 : _} {a2 : _} {s : State} (h : P s) :
    NextHas P (execAdpAbort a1 a2 s) := by
  have c1 : Closed 0x1 P := c.mono rfl
  have c20 : Closed 0x20 P := c.mono rfl
  have c100000000020 : Closed 0x100000000020 P := c.mono rfl
  have c81f0100000200073 : Closed 0x81f0100000200073 P := c.mono rfl
  have c8480100000000211 : Closed 0x8480100000000211 P := c.mono rfl
  have c87f010dd037a71f7 : Closed 0x87f010dd037a71f7 P := c.mono rfl
  unfold execAdpAbort
  dsimp only
  refine nextHas ?_
  refine State.settleAll_keeps c87f010dd037a71f7 ?_
  refine State.adpIn_keeps c81f0100000200073 ?_ ?_
  · refine State.begin_keeps c20 ?_
    assumption
  · intro x40 x41
    refine keeps_ite ?_ ?_
    · refine State.replyEnd_keeps c100000000020 ?_
      refine State.countAccess_keeps c1 ?_
      assumption
    · split
      · refine State.replyEnd_keeps c100000000020 ?_
        refine abortCommand_keeps c8480100000000211 ?_
        refine State.countAccess_keeps c1 ?_
        assumption
      · refine State.replyEnd_keeps c100000000020 ?_
        refine State.countAccess_keeps c1 ?_
        assumption

theorem execAdpDownloadEnd_keeps {P : State → Prop} (c : Closed 0x87f210dd037a77f7 P) {a1 : _} {s : State} (h : P s) :
    NextHas P (execAdpDownloadEnd a1 s) := by
  have c1 : Closed 0x1 P := c.mono rfl
  have c20 : Closed 0x20 P := c.mono rfl
  have c100000000020 : Closed 0x100000000020 P := c.mono rfl
  have c100000000430 : Closed 0x100000000430 P := c.mono rfl
  have c482004000000297 : Closed 0x482004000000297 P := c.mono rfl
  have c8080100000000011 : Closed 0x8080100000000011 P := c.mono rfl
  have c81f0100000200073 : Closed 0x81f0100000200073 P := c.mono rfl
  have c87f010dd037a71f7 : Closed 0x87f010dd037a71f7 P := c.mono rfl
  unfold execAdpDownloadEnd
  dsimp only
  refine nextHas ?_
  refine State.settleAll_keeps c87f010dd037a71f7 ?_
  refine State.adpIn_keeps c81f0100000200073 ?_ ?_
  · refine State.begin_keeps c20 ?_
    assumption
  · intro x40 x41
    refine keeps_ite ?_ ?_
    · refine State.replyEnd_keeps c100000000020 ?_
      refine State.countAccess_keeps c1 ?_
      assumption
    · split
      · refine State.replyEnd_keeps c100000000020 ?_
        refine State.countAccess_keeps c1 ?_
        assumption
      · refine keeps_ite ?_ ?_
        · refine State.replyWrite_keeps c100000000430 ?_
          refine State.endDownload_keeps c482004000000297 ?_
          refine State.segmentOp_keeps c8080100000000011 ?_
          refine State.countAccess_keeps c1 ?_
          assumption
        · refine State.replyEnd_keeps c100000000020 ?_
          refine State.endDownload_keeps c482004000000297 ?_
          refine State.segmentOp_keeps c8080100000000011 ?_
          refine State.countAccess_keeps c1 ?_
          assumption

theorem execAdpDownloadInit_keeps {P : State → Prop} (c : Closed 0x87f010dd037a73f7 P) {a1 : _} {a2 : _} {s : State}
    (h : P s) :
    NextHas P (execAdpDownloadInit a1 a2 s) := by
  have c1 : Closed 0x1 P := c.mono rfl
  have c20 : Closed 0x20 P := c.mono rfl
  have c100000000020 : Closed 0x100000000020 P := c.mono rfl
  have c81f0100000200073 : Closed 0x81f0100000200073 P := c.mono rfl
  have c85f0100000200273 : Closed 0x85f0100000200273 P := c.mono rfl
  have c87f010dd037a71f7 : Closed 0x87f010dd037a71f7 P := c.mono rfl
  unfold execAdpDownloadInit
  dsimp only
  refine nextHas ?_
  refine State.settleAll_keeps c87f010dd037a71f7 ?_
  refine State.adpIn_keeps c81f0100000200073 ?_ ?_
  · refine State.begin_keeps c20 ?_
    assumption
  · intro x40 x41
    refine keeps_ite ?_ ?_
    · refine State.reply_keeps c100000000020 ?_
      refine State.claim_keeps c85f0100000200273 ?_
      refine State.countAccess_keeps c1 ?_
      assumption
    · refine State.replyEnd_keeps c100000000020 ?_
      refine State.claim_keeps c85f0100000200273 ?_
      refine State.countAccess_keeps c1 ?_
      assumption

theorem execAdpDownloadSegment_keeps {P : State → Prop} (c : Closed 0x87f010dd037a73f7 P) {a1 : _} {a2 : _} {a3 : _}
    {s : State} (h : P s) :
    NextHas P (execAdpDownloadSegment a1 a2 a3 s) := by
  have c1 : Closed 0x1 P := c.mono rfl
  have c20 : Closed 0x20 P := c.mono rfl
  have c100000000020 : Closed 0x100000000020 P := c.mono rfl
  have c400000000000211 : Closed 0x400000000000211 P := c.mono rfl
  have c8080100000000011 : Closed 0x8080100000000011 P := c.mono rfl
  have c81f0100000200073 : Closed 0x81f0100000200073 P := c.mono rfl
  have c87f010dd037a71f7 : Closed 0x87f010dd037a71f7 P := c.mono rfl
  unfold execAdpDownloadSegment
  dsimp only
  refine nextHas ?_
  refine State.settleAll_keeps c87f010dd037a71f7 ?_
  refine State.adpIn_keeps c81f0100000200073 ?_ ?_
  · refine State.begin_keeps c20 ?_
    assumption
  · intro x40 x41
    refine keeps_ite ?_ ?_
    · refine State.replyEnd_keeps c100000000020 ?_
      refine State.countAccess_keeps c1 ?_
      assumption
    · split
      · refine State.replyEnd_keeps c100000000020 ?_
        refine State.countAccess_keeps c1 ?_
        assumption
      · refine State.reply_keeps c100000000020 ?_
        refine storeSegment_keeps c400000000000211 ?_
        refine State.segmentOp_keeps c8080100000000011 ?_
        refine State.countAccess_keeps c1 ?_
        assumption

theorem execAdpGroupWrite_keeps {P : State → Prop} (c : Closed 0x6c7f6ffff1bfffff7 P) {a1 : _} {a2 : _} {s : State} (h : P s) :
    NextHas P (execAdpGroupWrite a1 a2 s) := by
  have c1 : Closed 0x1 P := c.mono rfl
  have c4 : Closed 0x4 P := c.mono rfl
  have c20 : Closed 0x20 P := c.mono rfl
  have c100000000020 : Closed 0x100000000020 P := c.mono rfl
  have c100000000430 : Closed 0x100000000430 P := c.mono rfl
  have c81f0100000200073 : Closed 0x81f0100000200073 P := c.mono rfl
  have c87f010dd037a71f7 : Closed 0x87f010dd037a71f7 P := c.mono rfl
  have c6c5f6ffff1bfffbf7 : Closed 0x6c5f6ffff1bfffbf7 P := c.mono rfl
  unfold execAdpGroupWrite
  dsimp only
  refine nextHas ?_
  refine State.settleAll_keeps c87f010dd037a71f7 ?_
  refine State.adpIn_keeps c81f0100000200073 ?_ ?_
  · refine State.begin_keeps c20 ?_
    assumption
  · intro x40 x41
    split
    · refine State.replyWrite_keeps c100000000430 ?_
      refine keeps_fst (by assumption) ?_
      refine State.runItems_keeps c6c5f6ffff1bfffbf7 ?_
      refine State.countAccess_keeps c1 ?_
      assumption
    · split
      · refine State.reply_keeps c100000000020 ?_
        refine keeps_fst (by assumption) ?_
        refine State.runItems_keeps c6c5f6ffff1bfffbf7 ?_
        refine State.countAccess_keeps c1 ?_
        assumption
      · refine State.reply_keeps c100000000020 ?_
        refine State.endGrant_keeps c4 ?_
        refine keeps_fst (by assumption) ?_
        refine State.runItems_keeps c6c5f6ffff1bfffbf7 ?_
        refine State.countAccess_keeps c1 ?_
        assumption

theorem execAdpMalformedMessage_keeps {P : State → Prop} (c : Closed 0x87f010dd037a71f7 P) {a1 : _} {a2 : _} {a3 : _}
    {a4 : _} {s : State} (h : P s) :
    NextHas P (execAdpMalformedMessage a1 a2 a3 a4 s) := by
  have c20 : Closed 0x20 P := c.mono rfl
  have c100000000020 : Closed 0x100000000020 P := c.mono rfl
  have c81f0100000200073 : Closed 0x81f0100000200073 P := c.mono rfl
  have c87f010dd037a71f7 : Closed 0x87f010dd037a71f7 P := c.mono rfl
  unfold execAdpMalformedMessage
  dsimp only
  refine has_ite ?_ ?_
  · refine nextHas ?_
    refine State.begin_keeps c20 ?_
    assumption
  · refine has_ite ?_ ?_
    · refine nextHas ?_
      refine State.settleAll_keeps c87f010dd037a71f7 ?_
      refine State.frameError_keeps c81f0100000200073 ?_
      refine State.begin_keeps c20 ?_
      assumption
    · split
      · refine nextHas ?_
        refine State.settleAll_keeps c87f010dd037a71f7 ?_
        refine State.frameError_keeps c81f0100000200073 ?_
        refine State.begin_keeps c20 ?_
        assumption
      · refine nextHas ?_
        refine State.settleAll_keeps c87f010dd037a71f7 ?_
        refine State.frameError_keeps c81f0100000200073 ?_
        refine State.begin_keeps c20 ?_
        assumption
      · refine has_ite ?_ ?_
        · refine nextHas ?_
          refine State.begin_keeps c20 ?_
          assumption
        · refine nextHas ?_
          refine State.settleAll_keeps c87f010dd037a71f7 ?_
          refine State.sendAdp_keeps c100000000020 ?_
          refine State.begin_keeps c20 ?_
          assumption

theorem execAdpRead_keeps {P : State → Prop} (c : Closed 0x87f010dd037a71f7 P) {a1 : _} {s : State} (h : P s) :
    NextHas P (execAdpRead a1 s) := by
  have c1 : Closed 0x1 P := c.mono rfl
  have c20 : Closed 0x20 P := c.mono rfl
  have c100000000020 : Closed 0x100000000020 P := c.mono rfl
  have c81f0100000200073 : Closed 0x81f0100000200073 P := c.mono rfl
  have c87f010dd037a71f7 : Closed 0x87f010dd037a71f7 P := c.mono rfl
  unfold execAdpRead
  dsimp only
  refine nextHas ?_
  refine State.settleAll_keeps c87f010dd037a71f7 ?_
  refine State.adpIn_keeps c81f0100000200073 ?_ ?_
  · refine State.begin_keeps c20 ?_
    assumption
  · intro x40 x41
    refine State.reply_keeps c100000000020 ?_
    refine State.countAccess_keeps c1 ?_
    assumption

theorem execAdpStatus_keeps {P : State → Prop} (c : Closed 0x87f010dd037a71f7 P) {a1 : _} {s : State} (h : P s) :
    NextHas P (execAdpStatus a1 s) := by
  have c1 : Closed 0x1 P := c.mono rfl
  have c20 : Closed 0x20 P := c.mono rfl
  have c100000000020 : Closed 0x100000000020 P := c.mono rfl
  have c81f0100000200073 : Closed 0x81f0100000200073 P := c.mono rfl
  have c87f010dd037a71f7 : Closed 0x87f010dd037a71f7 P := c.mono rfl
  unfold execAdpStatus
  dsimp only
  refine nextHas ?_
  refine State.settleAll_keeps c87f010dd037a71f7 ?_
  refine State.adpIn_keeps c81f0100000200073 ?_ ?_
  · refine State.begin_keeps c20 ?_
    assumption
  · intro x40 x41
    refine keeps_ite ?_ ?_
    · refine State.replyEnd_keeps c100000000020 ?_
      refine State.countAccess_keeps c1 ?_
      assumption
    · refine State.reply_keeps c100000000020 ?_
      refine State.countAccess_keeps c1 ?_
      assumption

theorem execAdpUploadInit_keeps {P : State → Prop} (c : Closed 0x87f010dd037a73f7 P) {a1 : _} {s : State} (h : P s) :
    NextHas P (execAdpUploadInit a1 s) := by
  have c1 : Closed 0x1 P := c.mono rfl
  have c20 : Closed 0x20 P := c.mono rfl
  have c100000000020 : Closed 0x100000000020 P := c.mono rfl
  have c81f0100000200073 : Closed 0x81f0100000200073 P := c.mono rfl
  have c85f0100000200273 : Closed 0x85f0100000200273 P := c.mono rfl
  have c87f010dd037a71f7 : Closed 0x87f010dd037a71f7 P := c.mono rfl
  unfold execAdpUploadInit
  dsimp only
  refine nextHas ?_
  refine State.settleAll_keeps c87f010dd037a71f7 ?_
  refine State.adpIn_keeps c81f0100000200073 ?_ ?_
  · refine State.begin_keeps c20 ?_
    assumption
  · intro x40 x41
    refine keeps_ite ?_ ?_
    · refine State.reply_keeps c100000000020 ?_
      refine State.claim_keeps c85f0100000200273 ?_
      refine State.countAccess_keeps c1 ?_
      assumption
    · refine State.replyEnd_keeps c100000000020 ?_
      refine State.claim_keeps c85f0100000200273 ?_
      refine State.countAccess_keeps c1 ?_
      assumption

theorem execAdpUploadSegment_keeps {P : State → Prop} (c : Closed 0x87f010dd037a71f7 P) {a1 : _} {a2 : _} {a3 : _}
    {s : State} (h : P s) :
    NextHas P (execAdpUploadSegment a1 a2 a3 s) := by
  have c1 : Closed 0x1 P := c.mono rfl
  have c20 : Closed 0x20 P := c.mono rfl
  have c100000000020 : Closed 0x100000000020 P := c.mono rfl
  have c8080100000000011 : Closed 0x8080100000000011 P := c.mono rfl
  have c81f0100000200073 : Closed 0x81f0100000200073 P := c.mono rfl
  have c87f010dd037a71f7 : Closed 0x87f010dd037a71f7 P := c.mono rfl
  unfold execAdpUploadSegment
  dsimp only
  refine nextHas ?_
  refine State.settleAll_keeps c87f010dd037a71f7 ?_
  refine State.adpIn_keeps c81f0100000200073 ?_ ?_
  · refine State.begin_keeps c20 ?_
    assumption
  · intro x40 x41
    refine keeps_ite ?_ ?_
    · refine State.replyEnd_keeps c100000000020 ?_
      refine State.countAccess_keeps c1 ?_
      assumption
    · split
      · refine State.replyEnd_keeps c100000000020 ?_
        refine State.countAccess_keeps c1 ?_
        assumption
      · refine State.reply_keeps c100000000020 ?_
        refine State.segmentOp_keeps c8080100000000011 ?_
        refine State.countAccess_keeps c1 ?_
        assumption

theorem execAdpWaitTimeout_keeps {P : State → Prop} (c : Closed 0x100000000430 P) {a1 : _} {a2 : _} {a3 : _} {a4 : _}
    {s : State} (h : P s) :
    NextHas P (execAdpWaitTimeout a1 a2 a3 a4 s) := by
  have c10 : Closed 0x10 P := c.mono rfl
  have c20 : Closed 0x20 P := c.mono rfl
  have c100000000430 : Closed 0x100000000430 P := c.mono rfl
  unfold execAdpWaitTimeout
  dsimp only
  refine has_ite ?_ ?_
  · refine nextHas ?_
    refine State.begin_keeps c20 ?_
    assumption
  · split
    · refine nextHas ?_
      refine State.disarm_keeps c10 ?_
      refine State.begin_keeps c20 ?_
      assumption
    · refine nextHas ?_
      refine State.answerWait_keeps c100000000430 ?_
      refine State.begin_keeps c20 ?_
      assumption

theorem execAdpWrite_keeps {P : State → Prop} (c : Closed 0x6c7f6ffff1bfffff7 P) {a1 : _} {a2 : _} {s : State} (h : P s) :
    NextHas P (execAdpWrite a1 a2 s) := by
  have c20 : Closed 0x20 P := c.mono rfl
  have c100000000430 : Closed 0x100000000430 P := c.mono rfl
  have c81f0100000200073 : Closed 0x81f0100000200073 P := c.mono rfl
  have c87f010dd037a71f7 : Closed 0x87f010dd037a71f7 P := c.mono rfl
  have c6c5f6ffff1bfffbf7 : Closed 0x6c5f6ffff1bfffbf7 P := c.mono rfl
  unfold execAdpWrite
  dsimp only
  refine nextHas ?_
  refine State.settleAll_keeps c87f010dd037a71f7 ?_
  refine State.adpIn_keeps c81f0100000200073 ?_ ?_
  · refine State.begin_keeps c20 ?_
    assumption
  · intro x40 x41
    refine State.replyWrite_keeps c100000000430 ?_
    refine State.writeAccess_keeps c6c5f6ffff1bfffbf7 ?_
    assumption

theorem execChAbort_keeps {P : State → Prop} (c : Closed 0x87f010dd037a73f7 P) {a1 : _} {s : State} (h : P s) :
    NextHas P (execChAbort a1 s) := by
  have c20 : Closed 0x20 P := c.mono rfl
  have c100000000005 : Closed 0x100000000005 P := c.mono rfl
  have c8480100000000211 : Closed 0x8480100000000211 P := c.mono rfl
  have c87f010dd037a71f7 : Closed 0x87f010dd037a71f7 P := c.mono rfl
  unfold execChAbort
  refine nextHas ?_
  refine State.settleAll_keeps c87f010dd037a71f7 ?_
  refine State.granted_keeps c100000000005 ?_ ?_
  · refine State.begin_keeps c20 ?_
    assumption
  · intro x40 x41
    refine abortCommand_keeps c8480100000000211 ?_
    assumption

theorem execChEndDownload_keeps {P : State → Prop} (c : Closed 0x87f210dd037a73f7 P) {a1 : _} {s : State} (h : P s) :
    NextHas P (execChEndDownload a1 s) := by
  have c20 : Closed 0x20 P := c.mono rfl
  have c100000000005 : Closed 0x100000000005 P := c.mono rfl
  have c8482104000000297 : Closed 0x8482104000000297 P := c.mono rfl
  have c87f010dd037a71f7 : Closed 0x87f010dd037a71f7 P := c.mono rfl
  unfold execChEndDownload
  refine nextHas ?_
  refine State.settleAll_keeps c87f010dd037a71f7 ?_
  refine State.granted_keeps c100000000005 ?_ ?_
  · refine State.begin_keeps c20 ?_
    assumption
  · intro x40 x41
    refine endCommand_keeps c8482104000000297 ?_
    assumption

theorem execChFetch_keeps {P : State → Prop} (c : Closed 0x87f010dd037a79f7 P) {a1 : _} {s : State} (h : P s) :
    NextHas P (execChFetch a1 s) := by
  have c20 : Closed 0x20 P := c.mono rfl
  have c100000000005 : Closed 0x100000000005 P := c.mono rfl
  have c8080100000000811 : Closed 0x8080100000000811 P := c.mono rfl
  have c87f010dd037a71f7 : Closed 0x87f010dd037a71f7 P := c.mono rfl
  unfold execChFetch
  refine nextHas ?_
  refine State.settleAll_keeps c87f010dd037a71f7 ?_
  refine State.granted_keeps c100000000005 ?_ ?_
  · refine State.begin_keeps c20 ?_
    assumption
  · intro x40 x41
    refine fetchCommand_keeps c8080100000000811 ?_
    assumption

theorem execChOpen_keeps {P : State → Prop} (c : Closed 0x87f010dd037a73f7 P) {a1 : _} {a2 : _} {s : State} (h : P s) :
    NextHas P (execChOpen a1 a2 s) := by
  have c20 : Closed 0x20 P := c.mono rfl
  have c100000000005 : Closed 0x100000000005 P := c.mono rfl
  have c85f0100000200273 : Closed 0x85f0100000200273 P := c.mono rfl
  have c87f010dd037a71f7 : Closed 0x87f010dd037a71f7 P := c.mono rfl
  unfold execChOpen
  refine nextHas ?_
  refine State.settleAll_keeps c87f010dd037a71f7 ?_
  refine State.granted_keeps c100000000005 ?_ ?_
  · refine State.begin_keeps c20 ?_
    assumption
  · intro x40 x41
    refine openByWrite_keeps c85f0100000200273 ?_
    assumption

theorem execChStore_keeps {P : State → Prop} (c : Closed 0x87f010dd037a73f7 P) {a1 : _} {s : State} (h : P s) :
    NextHas P (execChStore a1 s) := by
  have c20 : Closed 0x20 P := c.mono rfl
  have c100000000005 : Closed 0x100000000005 P := c.mono rfl
  have c8480100000000211 : Closed 0x8480100000000211 P := c.mono rfl
  have c87f010dd037a71f7 : Closed 0x87f010dd037a71f7 P := c.mono rfl
  unfold execChStore
  refine nextHas ?_
  refine State.settleAll_keeps c87f010dd037a71f7 ?_
  refine State.granted_keeps c100000000005 ?_ ?_
  · refine State.begin_keeps c20 ?_
    assumption
  · intro x40 x41
    refine storeCommand_keeps c8480100000000211 ?_
    assumption

theorem execChannelIdleTimeout_keeps {P : State → Prop} (c : Closed 0x87f010dd037a73f7 P) {a1 : _} {s : State} (h : P s) :
    NextHas P (execChannelIdleTimeout a1 s) := by
  have c10 : Closed 0x10 P := c.mono rfl
  have c20 : Closed 0x20 P := c.mono rfl
  have c100000000010 : Closed 0x100000000010 P := c.mono rfl
  have c400000000000211 : Closed 0x400000000000211 P := c.mono rfl
  have c81f0100000200073 : Closed 0x81f0100000200073 P := c.mono rfl
  have c87f010dd037a71f7 : Closed 0x87f010dd037a71f7 P := c.mono rfl
  unfold execChannelIdleTimeout
  dsimp only
  refine has_ite ?_ ?_
  · refine nextHas ?_
    refine State.begin_keeps c20 ?_
    assumption
  · split
    · refine nextHas ?_
      refine State.disarm_keeps c10 ?_
      refine State.begin_keeps c20 ?_
      assumption
    · refine nextHas ?_
      refine State.settleAll_keeps c87f010dd037a71f7 ?_
      refine State.frameError_keeps c81f0100000200073 ?_
      refine State.abortChan_keeps c400000000000211 ?_
      refine State.expire_keeps c100000000010 ?_
      refine State.begin_keeps c20 ?_
      assumption

theorem execDrainTimeout_keeps {P : State → Prop} (c : Closed 0x87f010dd037a71f7 P) {s : State} (h : P s) :
    NextHas P (execDrainTimeout s) := by
  have c10 : Closed 0x10 P := c.mono rfl
  have c20 : Closed 0x20 P := c.mono rfl
  have c195 : Closed 0x195 P := c.mono rfl
  have c100000000010 : Closed 0x100000000010 P := c.mono rfl
  have c87f010dd037a71f7 : Closed 0x87f010dd037a71f7 P := c.mono rfl
  unfold execDrainTimeout
  dsimp only
  refine has_ite ?_ ?_
  · refine nextHas ?_
    refine State.begin_keeps c20 ?_
    assumption
  · split
    · refine nextHas ?_
      refine State.disarm_keeps c10 ?_
      refine State.begin_keeps c20 ?_
      assumption
    · refine nextHas ?_
      refine State.settleAll_keeps c87f010dd037a71f7 ?_
      refine State.dropDrain_keeps c195 ?_
      refine State.expire_keeps c100000000010 ?_
      refine State.begin_keeps c20 ?_
      assumption

theorem execRegisterWrite_keeps {P : State → Prop} (c : Closed 0x6c7f6ffff1bfffbf7 P) {a1 : _} {a2 : _} {a3 : _} {a4 : _}
    {s : State} (h : P s) :
    NextHas P (execRegisterWrite a1 a2 a3 a4 s) := by
  have c20 : Closed 0x20 P := c.mono rfl
  have c801 : Closed 0x801 P := c.mono rfl
  have c87f010dd037a71f7 : Closed 0x87f010dd037a71f7 P := c.mono rfl
  have c6c5f6ffff1bfffbf7 : Closed 0x6c5f6ffff1bfffbf7 P := c.mono rfl
  unfold execRegisterWrite
  dsimp only
  split
  · refine nextHas ?_
    refine State.settleAll_keeps c87f010dd037a71f7 ?_
    refine keeps_then ?_ ?_
    · refine State.begin_keeps c20 ?_
      assumption
    · intro x60
      refine State.windowData_keeps c801 ?_
      assumption
  · refine has_ite ?_ ?_
    · refine nextHas ?_
      refine State.settleAll_keeps c87f010dd037a71f7 ?_
      refine State.windowData_keeps c801 ?_
      refine State.begin_keeps c20 ?_
      assumption
    · refine nextHas ?_
      refine State.settleAll_keeps c87f010dd037a71f7 ?_
      refine State.writeAccess_keeps c6c5f6ffff1bfffbf7 ?_
      refine State.begin_keeps c20 ?_
      assumption

theorem execWindowMalformedAccess_keeps {P : State → Prop} (c : Closed 0x87f010dd037a71f7 P) {a1 : _} {a2 : _} {a3 : _}
    {s : State} (h : P s) :
    NextHas P (execWindowMalformedAccess a1 a2 a3 s) := by
  have c1 : Closed 0x1 P := c.mono rfl
  have c20 : Closed 0x20 P := c.mono rfl
  have c81f0100000200073 : Closed 0x81f0100000200073 P := c.mono rfl
  have c87f010dd037a71f7 : Closed 0x87f010dd037a71f7 P := c.mono rfl
  unfold execWindowMalformedAccess
  dsimp only
  refine has_ite ?_ ?_
  · refine nextHas ?_
    refine State.begin_keeps c20 ?_
    assumption
  · refine has_ite ?_ ?_
    · refine nextHas ?_
      refine keeps_else ?_ ?_
      · refine State.begin_keeps c20 ?_
        assumption
      · intro x80
        refine State.send_keeps c20 ?_
        refine State.countAccess_keeps c1 ?_
        assumption
    · refine nextHas ?_
      refine State.settleAll_keeps c87f010dd037a71f7 ?_
      refine State.frameError_keeps c81f0100000200073 ?_
      refine keeps_else ?_ ?_
      · refine State.begin_keeps c20 ?_
        assumption
      · intro x80
        refine State.send_keeps c20 ?_
        assumption

end Sys2Proof.Machine
end

