-- ==== Sys2Proof/Laws/KeepsExec.lean ====
section
/-! SUPPORT. What a command writes: a mask of the fields for each command, what it keeps otherwise, and that the equality of a field is kept
by everything that does not write it. -/

namespace Sys2Proof.Machine

/-- The fields that a command may write. -/
def cmask : Instr → Nat
  | .pcHeartbeat _ => 0x8080100000000031
  | .pcSilent _ => 0x87f01edd037a71f7
  | .pcReady _ => 0x87f010dd037a71f7
  | .probeEvent _ _ _ _ => 0x87f010fd037a71ff
  | .tileCheck _ _ => 0x87f05fdd037ff1f7
  | .vectorOpCheck _ _ => 0x87f05fdd037ff1f7
  | .rescaleRecord _ _ _ _ _ _ => 0x87f05fdd037bf1f7
  | .transferCheck _ _ => 0x87f05fdd037ff1f7
  | .checkTimeout _ => 0x87f05fdd037ff1f7
  | .suspectSweep => 0x18031
  | .stepBoundary _ _ _ => 0x87f010dd037a71f7
  | .proofResult _ _ _ _ _ _ => 0x87f010dd037a71f7
  | .proofTimeout _ _ _ => 0x87f010dd037a71f7
  | .proofNotProofable _ _ _ _ => 0x87f010dd037a71f7
  | .reviseResult _ _ _ _ => 0x87f05fdd037b71f7
  | .ledgerWalkDone _ => 0x87f010dd037a71f7
  | .rearmOnCauseGone _ => 0x87f010dd037a71f7
  | .domainActivate _ _ => 0x87f010dd037a71f7
  | .domainClose _ _ => 0x87f010dd037a71f7
  | .startArm _ _ => 0x87f010dd037a71f7
  | .startTimeReached _ => 0x87f010dd037a71f7
  | .startCancel _ => 0x87f010dd037a71f7
  | .stewardHeartbeatSend => 0x87f010dd037a71f7
  | .stewardHeartbeat _ => 0x87f010dd037a71f7
  | .stewardTimeout => 0x87f010dd037a71f7
  | .imageVerified _ => 0x87f07ffd0bfa71f7
  | .activateWhenIdle _ => 0x87f010dd037a71f7
  | .drainAndActivate _ => 0x87f010dd037a71f7
  | .imageActivationDone => 0x87f07ffd0bfa71f7
  | .loadAtPulse _ _ => 0x487f07ffd0bfa71f7
  | .tpulseEdge _ => 0x487f07ffd0bfa71f7
  | .tpulseWatchTimeout => 0x87f07ffd0bfa71f7
  | .beaconPeriod => 0x87f010dd037a71f7
  | .beaconExchange _ _ _ _ _ => 0x487f07ffd0bfa71f7
  | .beaconLossHoldover => 0x87f07ffd0bfa71f7
  | .refclkLoss => 0x87f010dd037a71f7
  | .backupChangeover => 0x87f07ffd0bfa71f7
  | .refclkReturn => 0x487f07ffd0bfa71f7
  | .clockResumed _ _ _ => 0x87f010dd037a71f7
  | .workerStepReport _ _ _ _ _ => 0x87f010dd037a71f7
  | .jobGalleyClear _ _ _ _ => 0x87f010dd037a71f7
  | .failureReport _ _ _ => 0x87f010dd037a71f7
  | .remoteTaint _ _ _ => 0x87f010dd037a71f7
  | .stewardRollbackOrder _ _ _ _ => 0x87f010dd037a71f7
  | .startStatusReport _ _ => 0x87f010dd037a71f7
  | .startReportDeadline => 0x87f010dd037a71f7
  | .stepDiscardOrder _ _ => 0x87f010dd037a71f7
  | .crossChipProofRequest _ _ _ _ _ => 0x87f010dd037a71f7
  | .linkPortFailure _ _ => 0x87f010dd037a71f7
  | .linkLossReport _ _ _ _ => 0x87f010dd037a71f7
  | .routeGenerationWrite _ _ => 0x87f010dd037a71f7
  | .sparingCompleteReport _ _ => 0x87f010dd037a71f7
  | .rankReplaced _ _ => 0x87f010dd037a71f7
  | .faultFrame _ => 0x87f010dd037a71f7
  | .kvPageWrite _ _ _ _ _ => 0x87f010dd037a71f7
  | .kvSpill _ _ _ _ _ _ => 0x87f010dd037a71f7
  | .kvFill _ _ _ _ _ _ _ _ => 0x87f010fd037a71f7
  | .specimenInterval => 0x87f010dd63fa71f7
  | .specimenRunDone _ _ _ => 0x87f07ffd0bfa71f7
  | .specimenTimeout _ _ => 0x87f07ffd0bfa71f7
  | .specimenRetest _ => 0x87f010dd43fa71f7
  | .crosscoreInterval => 0x87f010dd877a71f7
  | .crosscoreRunDone _ _ _ => 0x87f05fdd037af1f7
  | .crosscoreTimeout _ _ => 0x87f05fdd037af1f7
  | .marginProbeStart _ => 0x87f05fdd037a71f7
  | .regulatorSettled _ => 0x87f010dd037a71f7
  | .settleTimeout _ => 0x87f05fdf037a71f7
  | .dwellDone _ _ _ => 0x87f05fdd037a71f7
  | .mapEntryAged _ => 0x87f05fdd037a71f7
  | .reprobeInterval => 0x87f05fdd037a71f7
  | .trimWrite _ _ _ => 0x87f010dd037a71f7
  | .supervisorSample _ => 0x87f010dd037a71f7
  | .budgetWindowEnd _ _ _ _ => 0x87f05fddfbfaf1f7
  | .correctedErrorReport _ _ _ _ _ => 0x87f010fd037a71f7
  | .ceReportDequeue _ => 0x87f05ffd037a71f7
  | .uncorrectableError _ _ _ _ => 0x87f010fd037a71f7
  | .poisonConsumed _ _ _ => 0x87f05fdd03fb71f7
  | .poisonEndJob _ _ => 0x87f010dd037a71f7
  | .poisonRollbackResume _ _ => 0x87f010dd037a71f7
  | .hardwareFillDone _ => 0x87f07ffd0bfa71f7
  | .scanStart _ _ => 0x87f010dd037a71f7
  | .scanPause _ _ => 0x87f010dd037a71f7
  | .scanResume _ _ => 0x87f010dd037a71f7
  | .scanAbort _ _ => 0x87f010dd037a71f7
  | .scanPassDone _ _ _ => 0x87f010fd037a71f7
  | .digestPeriod _ => 0x87f010dd037a71f7
  | .digestStale _ => 0x87f010dd037a71f7
  | .digestRecordWrite _ _ _ => 0x87f010dd037a71f7
  | .fenceOrder _ _ => 0x87f05efd037a71f7
  | .unfence _ _ => 0x87f010dd03fa71f7
  | .refillEntryDone _ _ => 0x87f010fd037a71f7
  | .refillTimeout _ => 0x87f010dd037a71f7
  | .hostRefillDone _ _ => 0x87f010dd037a71f7
  | .hostRefillTimeout _ => 0x87f010dd037a71f7
  | .sparingRepeatRefill _ _ => 0x87f010dd037a71f7
  | .sparingEndJob _ _ => 0x87f010dd037a71f7
  | .atticRelease _ _ => 0x87f014dd037a71f7
  | .regenRequest _ _ => 0x87f010dd037a71f7
  | .regenRunDone _ _ _ => 0x87f010dd037a71f7
  | .regenTimeout => 0x87f010dd037a71f7
  | .regenRelease _ => 0x87f010dd037a71f7
  | .compareTimeout _ => 0x87f010dd037a71f7
  | .narrowingFetchResponse _ _ => 0x87f010dd037a71f7
  | .workDigestReport _ _ => 0x87f010dd037a71f7
  | .divergenceRestartPair _ => 0x87f010dd037a71f7
  | .divergenceEndJob _ => 0x87f010dd037a71f7
  | .stickyClear _ _ _ _ => 0x87f010dd037a71f7
  | .maskWrite _ _ _ _ => 0x87f010dd037a71f7
  | .forceWrite _ _ _ _ => 0x87f05fff137bf1f7
  | .handlingStart => 0x100000000031
  | .errorRecordCommit _ => 0x87f010dd037a71f7
  | .handlingTimeout => 0x100000000031
  | .errPulseEnd => 0x100000000030
  | .holdRelease _ => 0x87f010dd037a71f7
  | .msixVectorUnmask _ => 0x100000000020
  | .ibiBusFree _ => 0x100000000020
  | .powerCycleDelay => 0x4000000000000031
  | .powerCycleNow _ => 0x4000100000000035
  | .powerUp => 0x1800000000000020
  | .porstRelease _ => 0x97f8fffd0bfa71ff
  | .porstAssert _ => 0x21000000000000060
  | .cellarConfigReadDone _ _ => 0x187f07ffd0bfa71f7
  | .fuseReadDone _ => 0x87f07ffd0bfa71f7
  | .fillTimeout _ => 0x87f010dd037a71f7
  | .memoryTrainingDone _ _ => 0x87f07ffd0bfa71f7
  | .memoryTrainingTimeout _ => 0x87f030dd037a71f7
  | .linkTrainingDone _ _ _ _ _ => 0x87f07ffd0bfa71f7
  | .linkTrainingTimeout _ => 0x87f07ffd0bfa71f7
  | .selftestDone _ _ => 0x87f07ffd0bfa71f7
  | .specimenStageTimeout => 0x87f07ffd0bfa71f7
  | .identityRequest _ => 0x20
  | .identityAnswer _ _ => 0x87f07ffd0bfa71f7
  | .identityTimeout _ => 0x87f07ffd0bfa71f7
  | .identityRecheckTimer => 0x87f030dd037a71f7
  | .timeLockTimeout => 0x87f07ffd0bfa71f7
  | .bringupContinue _ => 0x87f07ffd0bfa71f7
  | .recheck _ => 0x87f030dd037a71f7
  | .planAccept _ _ => 0x87f010dd037a71f7
  | .selftestRequest _ _ => 0x87f050dd037a71f7
  | .selftestTimeout _ => 0x87f07ffd0bfa71f7
  | .selftestAbort _ _ => 0x87f050fd037a71f7
  | .stackRequest _ _ => 0x87f050dd037a71f7
  | .keyClear _ => 0x900000000025
  | .keyClearDone _ => 0x1800000000025
  | .freezeNow _ => 0x87f010dd037a71f7
  | .timedFreeze => 0x87f010dd037a71f7
  | .freezePinLow _ => 0x87f010dd037a71f7
  | .freezeFrame _ _ => 0x87f010dd037a71f7
  | .releaseNow _ => 0x2c7f07ffd0bfa71f7
  | .timedRelease => 0x2c7f07ffd0bfa71f7
  | .freezeReleaseTimeout => 0x87f010dd037a71f7
  | .pauseIndicationPeriod => 0x30
  | .pauseIndicationReceived _ => 0x10000000000030
  | .pauseLimitTimeout _ _ => 0x87f010dd037a71f7
  | .freezeDumpDone => 0x87f010dd037a71f7
  | .coreScanRead _ _ _ => 0x10000000000023
  | .ringRestart _ _ => 0x100000000025
  | .hostMarker _ _ _ => 0x20100000000065
  | .syncWaitEnd _ _ => 0x87f010dd037a71f7
  | .countersClear _ _ _ => 0x20100000000025
  | .clearAllCounters _ => 0x20100000000025
  | .breakpointMatch _ _ _ _ => 0x87f010dd037a71f7
  | .breakpointDrained => 0x87f010dd037a71f7
  | .breakpointDrainTimeout => 0x87f010dd037a71f7
  | .bpResume _ => 0x87f010dd037a71f7
  | .bpHaltTimeout => 0x87f010dd037a71f7
  | .contextResetRollback _ _ => 0x87f050fd037e71f7
  | .contextResetEnd _ _ => 0x87f050fd037e71f7
  | .engineReset _ _ _ => 0x87f050fd037e71f7
  | .partitionReset _ _ => 0x87f050fd037e71f7
  | .chipReset _ => 0x87f050fd037e71f7
  | .powerCycleOrder _ => 0x87f050fd037e71f7
  | .contextDrained _ => 0x87f010dd03fe71f7
  | .engineResetDone _ _ => 0x87f010dd03fe71f7
  | .partitionResetDone _ => 0x87f010dd03fa71f7
  | .chipResetSequenceDone => 0x87f030dd037a71f7
  | .resetTimeout _ => 0x87f050fd03fe71f7
  | .captureTimeout _ => 0x40100000000033
  | .dumpWritten _ => 0x2c7f010dd037a71f7
  | .dumpBudgetTimeout => 0x2c7f010dd037a71f7
  | .lateWriteDropped _ _ _ _ _ => 0x87f010dd037a71f7
  | .latePacketDiscarded _ _ _ _ _ => 0x87f010dd037a71f7
  | .cellarPatrol _ => 0x87f010dd037a71f7
  | .cellarErase _ => 0x80100000000025
  | .registerWrite _ _ _ _ => 0x6c7f6ffff1bfffbf7
  | .windowMalformedAccess _ _ _ => 0x87f010dd037a71f7
  | .adpRead _ => 0x87f010dd037a71f7
  | .adpWrite _ _ => 0x6c7f6ffff1bfffff7
  | .adpStatus _ => 0x87f010dd037a71f7
  | .adpGroupWrite _ _ => 0x6c7f6ffff1bfffff7
  | .adpUploadInit _ => 0x87f010dd037a73f7
  | .adpUploadSegment _ _ _ => 0x87f010dd037a71f7
  | .adpDownloadInit _ _ => 0x87f010dd037a73f7
  | .adpDownloadSegment _ _ _ => 0x87f010dd037a73f7
  | .adpDownloadEnd _ => 0x87f210dd037a77f7
  | .adpAbort _ _ => 0x87f010dd037a73f7
  | .adpMalformedMessage _ _ _ _ => 0x87f010dd037a71f7
  | .adpWaitTimeout _ _ _ _ => 0x100000000430
  | .chOpen _ _ => 0x87f010dd037a73f7
  | .chFetch _ => 0x87f010dd037a79f7
  | .chStore _ => 0x87f010dd037a73f7
  | .chEndDownload _ => 0x87f210dd037a73f7
  | .chAbort _ => 0x87f010dd037a73f7
  | .channelIdleTimeout _ => 0x87f010dd037a73f7
  | .drainTimeout => 0x87f010dd037a71f7
  | .setEndpointId _ _ => 0x100000000021
  | .getEndpointId _ => 0x100000000020
  | .getEndpointUuid _ => 0x100000000020
  | .getMctpVersionSupport _ _ => 0x100000000060
  | .getMessageTypeSupport _ => 0x100000000020
  | .getVendorDefinedMessageSupport _ _ => 0x100000000020
  | .entdaa _ => 0x21
  | .setnewda _ => 0x21
  | .rstdaa => 0x100000000021
  | .getpid => 0x20
  | .getbcr => 0x20
  | .getdcr => 0x20
  | .getstatus => 0x60
  | .getmrl => 0x20
  | .getmwl => 0x20
  | .setmrl _ => 0x100000000020
  | .setmwl _ => 0x100000000020
  | .enec => 0x100000000020
  | .disec => 0x100000000020
  | .lcTransition _ _ => 0x87f410dd037a71f7
  | .lcFusesProgrammed => 0x4000000000025
  | .supplyExcursion _ _ _ => 0x87f010dd037a71f7
  | .brownOut => 0x22000000000000020
  | .brownOutEnd => 0xa7f8fffd0bfa71ff
  | .powerLoss _ => 0x23880000000000020
  | .reservedRangeRefusal _ => 0x21
  | .fillRefusal _ => 0x21
  | .mapTemperatureStale _ _ => 0x87f05fdd037a71f7
  | .beaconAtTimeRoot _ _ => 0x20
  | .stewardHoldOrder _ _ _ => 0x87f010dd037a71f7
  | .crossChipProofIssue _ _ _ _ _ => 0x87f010dd037a71f7
  | .freezeReport _ _ => 0x87f010dd037a71f7

/-- A command answers a next state, which has every property that the fields it writes keep. -/
theorem exec_keeps {P : State → Prop} (c : Instr) (cl : Closed (cmask c) P) {s : State} (hp : P s) : NextHas P (exec c s) := by
  cases c with
  | pcHeartbeat pc => exact (show NextHas P (execPcHeartbeat pc s) from execPcHeartbeat_keeps cl hp)
  | pcSilent pc => exact (show NextHas P (execPcSilent pc s) from execPcSilent_keeps cl hp)
  | pcReady pc => exact (show NextHas P (execPcReady pc s) from execPcReady_keeps cl hp)
  | probeEvent core unit edges ev => exact (show NextHas P (execProbeEvent core unit edges ev s) from execProbeEvent_keeps cl hp)
  | tileCheck w t => exact (show NextHas P (execTileCheck w t s) from execTileCheck_keeps cl hp)
  | vectorOpCheck w v => exact (show NextHas P (execVectorOpCheck w v s) from execVectorOpCheck_keeps cl hp)
  | rescaleRecord w row block mBefore mAfter alpha => exact (show NextHas P (execRescaleRecord w row block mBefore mAfter alpha s) from execRescaleRecord_keeps cl hp)
  | transferCheck w t => exact (show NextHas P (execTransferCheck w t s) from execTransferCheck_keeps cl hp)
  | checkTimeout w => exact (show NextHas P (execCheckTimeout w s) from execCheckTimeout_keeps cl hp)
  | suspectSweep => exact (show NextHas P (execSuspectSweep s) from execSuspectSweep_keeps cl hp)
  | stepBoundary d cycles disturbed => exact (show NextHas P (execStepBoundary d cycles disturbed s) from execStepBoundary_keeps cl hp)
  | proofResult d k step rank colophon units => exact (show NextHas P (execProofResult d k step rank colophon units s) from execProofResult_keeps cl hp)
  | proofTimeout d k proof => exact (show NextHas P (execProofTimeout d k proof s) from execProofTimeout_keeps cl hp)
  | proofNotProofable d k step rank => exact (show NextHas P (execProofNotProofable d k step rank s) from execProofNotProofable_keeps cl hp)
  | reviseResult d k step result => exact (show NextHas P (execReviseResult d k step result s) from execReviseResult_keeps cl hp)
  | ledgerWalkDone d => exact (show NextHas P (execLedgerWalkDone d s) from execLedgerWalkDone_keeps cl hp)
  | rearmOnCauseGone d => exact (show NextHas P (execRearmOnCauseGone d s) from execRearmOnCauseGone_keeps cl hp)
  | domainActivate path d => exact (show NextHas P (execDomainActivate path d s) from execDomainActivate_keeps cl hp)
  | domainClose path d => exact (show NextHas P (execDomainClose path d s) from execDomainClose_keeps cl hp)
  | startArm path t => exact (show NextHas P (execStartArm path t s) from execStartArm_keeps cl hp)
  | startTimeReached t => exact (show NextHas P (execStartTimeReached t s) from execStartTimeReached_keeps cl hp)
  | startCancel path => exact (show NextHas P (execStartCancel path s) from execStartCancel_keeps cl hp)
  | stewardHeartbeatSend => exact (show NextHas P (execStewardHeartbeatSend s) from execStewardHeartbeatSend_keeps cl hp)
  | stewardHeartbeat env => exact (show NextHas P (execStewardHeartbeat env s) from execStewardHeartbeat_keeps cl hp)
  | stewardTimeout => exact (show NextHas P (execStewardTimeout s) from execStewardTimeout_keeps cl hp)
  | imageVerified source => exact (show NextHas P (execImageVerified source s) from execImageVerified_keeps cl hp)
  | activateWhenIdle path => exact (show NextHas P (execActivateWhenIdle path s) from execActivateWhenIdle_keeps cl hp)
  | drainAndActivate path => exact (show NextHas P (execDrainAndActivate path s) from execDrainAndActivate_keeps cl hp)
  | imageActivationDone => exact (show NextHas P (execImageActivationDone s) from execImageActivationDone_keeps cl hp)
  | loadAtPulse path value => exact (show NextHas P (execLoadAtPulse path value s) from execLoadAtPulse_keeps cl hp)
  | tpulseEdge within => exact (show NextHas P (execTpulseEdge within s) from execTpulseEdge_keeps cl hp)
  | tpulseWatchTimeout => exact (show NextHas P (execTpulseWatchTimeout s) from execTpulseWatchTimeout_keeps cl hp)
  | beaconPeriod => exact (show NextHas P (execBeaconPeriod s) from execBeaconPeriod_keeps cl hp)
  | beaconExchange t1 t2 t3 t4 residence => exact (show NextHas P (execBeaconExchange t1 t2 t3 t4 residence s) from execBeaconExchange_keeps cl hp)
  | beaconLossHoldover => exact (show NextHas P (execBeaconLossHoldover s) from execBeaconLossHoldover_keeps cl hp)
  | refclkLoss => exact (show NextHas P (execRefclkLoss s) from execRefclkLoss_keeps cl hp)
  | backupChangeover => exact (show NextHas P (execBackupChangeover s) from execBackupChangeover_keeps cl hp)
  | refclkReturn => exact (show NextHas P (execRefclkReturn s) from execRefclkReturn_keeps cl hp)
  | clockResumed core lastEdge reason => exact (show NextHas P (execClockResumed core lastEdge reason s) from execClockResumed_keeps cl hp)
  | workerStepReport env d step proven colophon => exact (show NextHas P (execWorkerStepReport env d step proven colophon s) from execWorkerStepReport_keeps cl hp)
  | jobGalleyClear env d step proven => exact (show NextHas P (execJobGalleyClear env d step proven s) from execJobGalleyClear_keeps cl hp)
  | failureReport env d kind => exact (show NextHas P (execFailureReport env d kind s) from execFailureReport_keeps cl hp)
  | remoteTaint env d step => exact (show NextHas P (execRemoteTaint env d step s) from execRemoteTaint_keeps cl hp)
  | stewardRollbackOrder env d target incarnation => exact (show NextHas P (execStewardRollbackOrder env d target incarnation s) from execStewardRollbackOrder_keeps cl hp)
  | startStatusReport env status => exact (show NextHas P (execStartStatusReport env status s) from execStartStatusReport_keeps cl hp)
  | startReportDeadline => exact (show NextHas P (execStartReportDeadline s) from execStartReportDeadline_keeps cl hp)
  | stepDiscardOrder env d => exact (show NextHas P (execStepDiscardOrder env d s) from execStepDiscardOrder_keeps cl hp)
  | crossChipProofRequest env d k step index => exact (show NextHas P (execCrossChipProofRequest env d k step index s) from execCrossChipProofRequest_keeps cl hp)
  | linkPortFailure p packets => exact (show NextHas P (execLinkPortFailure p packets s) from execLinkPortFailure_keeps cl hp)
  | linkLossReport env d abandoned p => exact (show NextHas P (execLinkLossReport env d abandoned p s) from execLinkLossReport_keeps cl hp)
  | routeGenerationWrite path value => exact (show NextHas P (execRouteGenerationWrite path value s) from execRouteGenerationWrite_keeps cl hp)
  | sparingCompleteReport env d => exact (show NextHas P (execSparingCompleteReport env d s) from execSparingCompleteReport_keeps cl hp)
  | rankReplaced path rank => exact (show NextHas P (execRankReplaced path rank s) from execRankReplaced_keeps cl hp)
  | faultFrame env => exact (show NextHas P (execFaultFrame env s) from execFaultFrame_keeps cl hp)
  | kvPageWrite d k step page a => exact (show NextHas P (execKvPageWrite d k step page a s) from execKvPageWrite_keeps cl hp)
  | kvSpill d core page data tokens marked => exact (show NextHas P (execKvSpill d core page data tokens marked s) from execKvSpill_keeps cl hp)
  | kvFill d core offset page units tokens data tag => exact (show NextHas P (execKvFill d core offset page units tokens data tag s) from execKvFill_keeps cl hp)
  | specimenInterval => exact (show NextHas P (execSpecimenInterval s) from execSpecimenInterval_keeps cl hp)
  | specimenRunDone core run results => exact (show NextHas P (execSpecimenRunDone core run results s) from execSpecimenRunDone_keeps cl hp)
  | specimenTimeout core unfinished => exact (show NextHas P (execSpecimenTimeout core unfinished s) from execSpecimenTimeout_keeps cl hp)
  | specimenRetest core => exact (show NextHas P (execSpecimenRetest core s) from execSpecimenRetest_keeps cl hp)
  | crosscoreInterval => exact (show NextHas P (execCrosscoreInterval s) from execCrosscoreInterval_keeps cl hp)
  | crosscoreRunDone core run digests => exact (show NextHas P (execCrosscoreRunDone core run digests s) from execCrosscoreRunDone_keeps cl hp)
  | crosscoreTimeout core run => exact (show NextHas P (execCrosscoreTimeout core run s) from execCrosscoreTimeout_keeps cl hp)
  | marginProbeStart core => exact (show NextHas P (execMarginProbeStart core s) from execMarginProbeStart_keeps cl hp)
  | regulatorSettled core => exact (show NextHas P (execRegulatorSettled core s) from execRegulatorSettled_keeps cl hp)
  | settleTimeout core => exact (show NextHas P (execSettleTimeout core s) from execSettleTimeout_keeps cl hp)
  | dwellDone core temperature clock => exact (show NextHas P (execDwellDone core temperature clock s) from execDwellDone_keeps cl hp)
  | mapEntryAged core => exact (show NextHas P (execMapEntryAged core s) from execMapEntryAged_keeps cl hp)
  | reprobeInterval => exact (show NextHas P (execReprobeInterval s) from execReprobeInterval_keeps cl hp)
  | trimWrite path core value => exact (show NextHas P (execTrimWrite path core value s) from execTrimWrite_keeps cl hp)
  | supervisorSample samples => exact (show NextHas P (execSupervisorSample samples s) from execSupervisorSample_keeps cl hp)
  | budgetWindowEnd jobCycles allCycles proofTime screenTime => exact (show NextHas P (execBudgetWindowEnd jobCycles allCycles proofTime screenTime s) from execBudgetWindowEnd_keeps cl hp)
  | correctedErrorReport core word symbol scan newer => exact (show NextHas P (execCorrectedErrorReport core word symbol scan newer s) from execCorrectedErrorReport_keeps cl hp)
  | ceReportDequeue core => exact (show NextHas P (execCeReportDequeue core s) from execCeReportDequeue_keeps cl hp)
  | uncorrectableError core word by_ requester => exact (show NextHas P (execUncorrectableError core word by_ requester s) from execUncorrectableError_keeps cl hp)
  | poisonConsumed w cause source => exact (show NextHas P (execPoisonConsumed w cause source s) from execPoisonConsumed_keeps cl hp)
  | poisonEndJob path d => exact (show NextHas P (execPoisonEndJob path d s) from execPoisonEndJob_keeps cl hp)
  | poisonRollbackResume path d => exact (show NextHas P (execPoisonRollbackResume path d s) from execPoisonRollbackResume_keeps cl hp)
  | hardwareFillDone core => exact (show NextHas P (execHardwareFillDone core s) from execHardwareFillDone_keeps cl hp)
  | scanStart path m => exact (show NextHas P (execScanStart path m s) from execScanStart_keeps cl hp)
  | scanPause path m => exact (show NextHas P (execScanPause path m s) from execScanPause_keeps cl hp)
  | scanResume path m => exact (show NextHas P (execScanResume path m s) from execScanResume_keeps cl hp)
  | scanAbort path m => exact (show NextHas P (execScanAbort path m s) from execScanAbort_keeps cl hp)
  | scanPassDone m crc poison => exact (show NextHas P (execScanPassDone m crc poison s) from execScanPassDone_keeps cl hp)
  | digestPeriod r => exact (show NextHas P (execDigestPeriod r s) from execDigestPeriod_keeps cl hp)
  | digestStale r => exact (show NextHas P (execDigestStale r s) from execDigestStale_keeps cl hp)
  | digestRecordWrite path r content => exact (show NextHas P (execDigestRecordWrite path r content s) from execDigestRecordWrite_keeps cl hp)
  | fenceOrder path value => exact (show NextHas P (execFenceOrder path value s) from execFenceOrder_keeps cl hp)
  | unfence path value => exact (show NextHas P (execUnfence path value s) from execUnfence_keeps cl hp)
  | refillEntryDone d bytes => exact (show NextHas P (execRefillEntryDone d bytes s) from execRefillEntryDone_keeps cl hp)
  | refillTimeout d => exact (show NextHas P (execRefillTimeout d s) from execRefillTimeout_keeps cl hp)
  | hostRefillDone path value => exact (show NextHas P (execHostRefillDone path value s) from execHostRefillDone_keeps cl hp)
  | hostRefillTimeout d => exact (show NextHas P (execHostRefillTimeout d s) from execHostRefillTimeout_keeps cl hp)
  | sparingRepeatRefill path d => exact (show NextHas P (execSparingRepeatRefill path d s) from execSparingRepeatRefill_keeps cl hp)
  | sparingEndJob path d => exact (show NextHas P (execSparingEndJob path d s) from execSparingEndJob_keeps cl hp)
  | atticRelease path value => exact (show NextHas P (execAtticRelease path value s) from execAtticRelease_keeps cl hp)
  | regenRequest path value => exact (show NextHas P (execRegenRequest path value s) from execRegenRequest_keeps cl hp)
  | regenRunDone core units exceeded => exact (show NextHas P (execRegenRunDone core units exceeded s) from execRegenRunDone_keeps cl hp)
  | regenTimeout => exact (show NextHas P (execRegenTimeout s) from execRegenTimeout_keeps cl hp)
  | regenRelease path => exact (show NextHas P (execRegenRelease path s) from execRegenRelease_keeps cl hp)
  | compareTimeout step => exact (show NextHas P (execCompareTimeout step s) from execCompareTimeout_keeps cl hp)
  | narrowingFetchResponse env fetch => exact (show NextHas P (execNarrowingFetchResponse env fetch s) from execNarrowingFetchResponse_keeps cl hp)
  | workDigestReport env digests => exact (show NextHas P (execWorkDigestReport env digests s) from execWorkDigestReport_keeps cl hp)
  | divergenceRestartPair path => exact (show NextHas P (execDivergenceRestartPair path s) from execDivergenceRestartPair_keeps cl hp)
  | divergenceEndJob path => exact (show NextHas P (execDivergenceEndJob path s) from execDivergenceEndJob_keeps cl hp)
  | stickyClear path source word value => exact (show NextHas P (execStickyClear path source word value s) from execStickyClear_keeps cl hp)
  | maskWrite path source word value => exact (show NextHas P (execMaskWrite path source word value s) from execMaskWrite_keeps cl hp)
  | forceWrite path source word value => exact (show NextHas P (execForceWrite path source word value s) from execForceWrite_keeps cl hp)
  | handlingStart => exact (show NextHas P (execHandlingStart s) from execHandlingStart_keeps cl hp)
  | errorRecordCommit bad => exact (show NextHas P (execErrorRecordCommit bad s) from execErrorRecordCommit_keeps cl hp)
  | handlingTimeout => exact (show NextHas P (execHandlingTimeout s) from execHandlingTimeout_keeps cl hp)
  | errPulseEnd => exact (show NextHas P (execErrPulseEnd s) from execErrPulseEnd_keeps cl hp)
  | holdRelease path => exact (show NextHas P (execHoldRelease path s) from execHoldRelease_keeps cl hp)
  | msixVectorUnmask vector => exact (show NextHas P (execMsixVectorUnmask vector s) from execMsixVectorUnmask_keeps cl hp)
  | ibiBusFree acknowledged => exact (show NextHas P (execIbiBusFree acknowledged s) from execIbiBusFree_keeps cl hp)
  | powerCycleDelay => exact (show NextHas P (execPowerCycleDelay s) from execPowerCycleDelay_keeps cl hp)
  | powerCycleNow path => exact (show NextHas P (execPowerCycleNow path s) from execPowerCycleNow_keeps cl hp)
  | powerUp => exact (show NextHas P (execPowerUp s) from execPowerUp_keeps cl hp)
  | porstRelease reference => exact (show NextHas P (execPorstRelease reference s) from execPorstRelease_keeps cl hp)
  | porstAssert ns => exact (show NextHas P (execPorstAssert ns s) from execPorstAssert_keeps cl hp)
  | cellarConfigReadDone readable failedPcs => exact (show NextHas P (execCellarConfigReadDone readable failedPcs s) from execCellarConfigReadDone_keeps cl hp)
  | fuseReadDone fuses => exact (show NextHas P (execFuseReadDone fuses s) from execFuseReadDone_keeps cl hp)
  | fillTimeout core => exact (show NextHas P (execFillTimeout core s) from execFillTimeout_keeps cl hp)
  | memoryTrainingDone n trained => exact (show NextHas P (execMemoryTrainingDone n trained s) from execMemoryTrainingDone_keeps cl hp)
  | memoryTrainingTimeout n => exact (show NextHas P (execMemoryTrainingTimeout n s) from execMemoryTrainingTimeout_keeps cl hp)
  | linkTrainingDone p lanes failures reach time_us => exact (show NextHas P (execLinkTrainingDone p lanes failures reach time_us s) from execLinkTrainingDone_keeps cl hp)
  | linkTrainingTimeout p => exact (show NextHas P (execLinkTrainingTimeout p s) from execLinkTrainingTimeout_keeps cl hp)
  | selftestDone u r => exact (show NextHas P (execSelftestDone u r s) from execSelftestDone_keeps cl hp)
  | specimenStageTimeout => exact (show NextHas P (execSpecimenStageTimeout s) from execSpecimenStageTimeout_keeps cl hp)
  | identityRequest p => exact (show NextHas P (execIdentityRequest p s) from execIdentityRequest_keeps cl hp)
  | identityAnswer p answer => exact (show NextHas P (execIdentityAnswer p answer s) from execIdentityAnswer_keeps cl hp)
  | identityTimeout p => exact (show NextHas P (execIdentityTimeout p s) from execIdentityTimeout_keeps cl hp)
  | identityRecheckTimer => exact (show NextHas P (execIdentityRecheckTimer s) from execIdentityRecheckTimer_keeps cl hp)
  | timeLockTimeout => exact (show NextHas P (execTimeLockTimeout s) from execTimeLockTimeout_keeps cl hp)
  | bringupContinue path => exact (show NextHas P (execBringupContinue path s) from execBringupContinue_keeps cl hp)
  | recheck path => exact (show NextHas P (execRecheck path s) from execRecheck_keeps cl hp)
  | planAccept path p => exact (show NextHas P (execPlanAccept path p s) from execPlanAccept_keeps cl hp)
  | selftestRequest path value => exact (show NextHas P (execSelftestRequest path value s) from execSelftestRequest_keeps cl hp)
  | selftestTimeout u => exact (show NextHas P (execSelftestTimeout u s) from execSelftestTimeout_keeps cl hp)
  | selftestAbort path value => exact (show NextHas P (execSelftestAbort path value s) from execSelftestAbort_keeps cl hp)
  | stackRequest path value => exact (show NextHas P (execStackRequest path value s) from execStackRequest_keeps cl hp)
  | keyClear path => exact (show NextHas P (execKeyClear path s) from execKeyClear_keeps cl hp)
  | keyClearDone allZero => exact (show NextHas P (execKeyClearDone allZero s) from execKeyClearDone_keeps cl hp)
  | freezeNow path => exact (show NextHas P (execFreezeNow path s) from execFreezeNow_keeps cl hp)
  | timedFreeze => exact (show NextHas P (execTimedFreeze s) from execTimedFreeze_keeps cl hp)
  | freezePinLow ns => exact (show NextHas P (execFreezePinLow ns s) from execFreezePinLow_keeps cl hp)
  | freezeFrame env at_ => exact (show NextHas P (execFreezeFrame env at_ s) from execFreezeFrame_keeps cl hp)
  | releaseNow path => exact (show NextHas P (execReleaseNow path s) from execReleaseNow_keeps cl hp)
  | timedRelease => exact (show NextHas P (execTimedRelease s) from execTimedRelease_keeps cl hp)
  | freezeReleaseTimeout => exact (show NextHas P (execFreezeReleaseTimeout s) from execFreezeReleaseTimeout_keeps cl hp)
  | pauseIndicationPeriod => exact (show NextHas P (execPauseIndicationPeriod s) from execPauseIndicationPeriod_keeps cl hp)
  | pauseIndicationReceived p => exact (show NextHas P (execPauseIndicationReceived p s) from execPauseIndicationReceived_keeps cl hp)
  | pauseLimitTimeout p packets => exact (show NextHas P (execPauseLimitTimeout p packets s) from execPauseLimitTimeout_keeps cl hp)
  | freezeDumpDone => exact (show NextHas P (execFreezeDumpDone s) from execFreezeDumpDone_keeps cl hp)
  | coreScanRead path core image => exact (show NextHas P (execCoreScanRead path core image s) from execCoreScanRead_keeps cl hp)
  | ringRestart path core => exact (show NextHas P (execRingRestart path core s) from execRingRestart_keeps cl hp)
  | hostMarker path core value => exact (show NextHas P (execHostMarker path core value s) from execHostMarker_keeps cl hp)
  | syncWaitEnd d w => exact (show NextHas P (execSyncWaitEnd d w s) from execSyncWaitEnd_keeps cl hp)
  | countersClear path core engine => exact (show NextHas P (execCountersClear path core engine s) from execCountersClear_keeps cl hp)
  | clearAllCounters path => exact (show NextHas P (execClearAllCounters path s) from execClearAllCounters_keeps cl hp)
  | breakpointMatch pc event filter d => exact (show NextHas P (execBreakpointMatch pc event filter d s) from execBreakpointMatch_keeps cl hp)
  | breakpointDrained => exact (show NextHas P (execBreakpointDrained s) from execBreakpointDrained_keeps cl hp)
  | breakpointDrainTimeout => exact (show NextHas P (execBreakpointDrainTimeout s) from execBreakpointDrainTimeout_keeps cl hp)
  | bpResume path => exact (show NextHas P (execBpResume path s) from execBpResume_keeps cl hp)
  | bpHaltTimeout => exact (show NextHas P (execBpHaltTimeout s) from execBpHaltTimeout_keeps cl hp)
  | contextResetRollback path d => exact (show NextHas P (execContextResetRollback path d s) from execContextResetRollback_keeps cl hp)
  | contextResetEnd path d => exact (show NextHas P (execContextResetEnd path d s) from execContextResetEnd_keeps cl hp)
  | engineReset path mode unit => exact (show NextHas P (execEngineReset path mode unit s) from execEngineReset_keeps cl hp)
  | partitionReset path unit => exact (show NextHas P (execPartitionReset path unit s) from execPartitionReset_keeps cl hp)
  | chipReset path => exact (show NextHas P (execChipReset path s) from execChipReset_keeps cl hp)
  | powerCycleOrder path => exact (show NextHas P (execPowerCycleOrder path s) from execPowerCycleOrder_keeps cl hp)
  | contextDrained d => exact (show NextHas P (execContextDrained d s) from execContextDrained_keeps cl hp)
  | engineResetDone core engine => exact (show NextHas P (execEngineResetDone core engine s) from execEngineResetDone_keeps cl hp)
  | partitionResetDone n => exact (show NextHas P (execPartitionResetDone n s) from execPartitionResetDone_keeps cl hp)
  | chipResetSequenceDone => exact (show NextHas P (execChipResetSequenceDone s) from execChipResetSequenceDone_keeps cl hp)
  | resetTimeout r => exact (show NextHas P (execResetTimeout r s) from execResetTimeout_keeps cl hp)
  | captureTimeout core => exact (show NextHas P (execCaptureTimeout core s) from execCaptureTimeout_keeps cl hp)
  | dumpWritten bad => exact (show NextHas P (execDumpWritten bad s) from execDumpWritten_keeps cl hp)
  | dumpBudgetTimeout => exact (show NextHas P (execDumpBudgetTimeout s) from execDumpBudgetTimeout_keeps cl hp)
  | lateWriteDropped slice writer rank tag word => exact (show NextHas P (execLateWriteDropped slice writer rank tag word s) from execLateWriteDropped_keeps cl hp)
  | latePacketDiscarded p rank tag sequence step => exact (show NextHas P (execLatePacketDiscarded p rank tag sequence step s) from execLatePacketDiscarded_keeps cl hp)
  | cellarPatrol damaged => exact (show NextHas P (execCellarPatrol damaged s) from execCellarPatrol_keeps cl hp)
  | cellarErase path => exact (show NextHas P (execCellarErase path s) from execCellarErase_keeps cl hp)
  | registerWrite path index sub written => exact (show NextHas P (execRegisterWrite path index sub written s) from execRegisterWrite_keeps cl hp)
  | windowMalformedAccess offset size write => exact (show NextHas P (execWindowMalformedAccess offset size write s) from execWindowMalformedAccess_keeps cl hp)
  | adpRead h => exact (show NextHas P (execAdpRead h s) from execAdpRead_keeps cl hp)
  | adpWrite h value => exact (show NextHas P (execAdpWrite h value s) from execAdpWrite_keeps cl hp)
  | adpStatus h => exact (show NextHas P (execAdpStatus h s) from execAdpStatus_keeps cl hp)
  | adpGroupWrite h items => exact (show NextHas P (execAdpGroupWrite h items s) from execAdpGroupWrite_keeps cl hp)
  | adpUploadInit h => exact (show NextHas P (execAdpUploadInit h s) from execAdpUploadInit_keeps cl hp)
  | adpUploadSegment h offset length => exact (show NextHas P (execAdpUploadSegment h offset length s) from execAdpUploadSegment_keeps cl hp)
  | adpDownloadInit h total => exact (show NextHas P (execAdpDownloadInit h total s) from execAdpDownloadInit_keeps cl hp)
  | adpDownloadSegment h offset data => exact (show NextHas P (execAdpDownloadSegment h offset data s) from execAdpDownloadSegment_keeps cl hp)
  | adpDownloadEnd h => exact (show NextHas P (execAdpDownloadEnd h s) from execAdpDownloadEnd_keeps cl hp)
  | adpAbort h channel => exact (show NextHas P (execAdpAbort h channel s) from execAdpAbort_keeps cl hp)
  | adpMalformedMessage path eid assembled raw => exact (show NextHas P (execAdpMalformedMessage path eid assembled raw s) from execAdpMalformedMessage_keeps cl hp)
  | adpWaitTimeout path msg tag rank => exact (show NextHas P (execAdpWaitTimeout path msg tag rank s) from execAdpWaitTimeout_keeps cl hp)
  | chOpen c value => exact (show NextHas P (execChOpen c value s) from execChOpen_keeps cl hp)
  | chFetch c => exact (show NextHas P (execChFetch c s) from execChFetch_keeps cl hp)
  | chStore c => exact (show NextHas P (execChStore c s) from execChStore_keeps cl hp)
  | chEndDownload c => exact (show NextHas P (execChEndDownload c s) from execChEndDownload_keeps cl hp)
  | chAbort c => exact (show NextHas P (execChAbort c s) from execChAbort_keeps cl hp)
  | channelIdleTimeout c => exact (show NextHas P (execChannelIdleTimeout c s) from execChannelIdleTimeout_keeps cl hp)
  | drainTimeout => exact (show NextHas P (execDrainTimeout s) from execDrainTimeout_keeps cl hp)
  | setEndpointId b eid => exact (show NextHas P (execSetEndpointId b eid s) from execSetEndpointId_keeps cl hp)
  | getEndpointId b => exact (show NextHas P (execGetEndpointId b s) from execGetEndpointId_keeps cl hp)
  | getEndpointUuid b => exact (show NextHas P (execGetEndpointUuid b s) from execGetEndpointUuid_keeps cl hp)
  | getMctpVersionSupport b type_ => exact (show NextHas P (execGetMctpVersionSupport b type_ s) from execGetMctpVersionSupport_keeps cl hp)
  | getMessageTypeSupport b => exact (show NextHas P (execGetMessageTypeSupport b s) from execGetMessageTypeSupport_keeps cl hp)
  | getVendorDefinedMessageSupport b selector => exact (show NextHas P (execGetVendorDefinedMessageSupport b selector s) from execGetVendorDefinedMessageSupport_keeps cl hp)
  | entdaa address => exact (show NextHas P (execEntdaa address s) from execEntdaa_keeps cl hp)
  | setnewda address => exact (show NextHas P (execSetnewda address s) from execSetnewda_keeps cl hp)
  | rstdaa => exact (show NextHas P (execRstdaa s) from execRstdaa_keeps cl hp)
  | getpid => exact (show NextHas P (execGetpid s) from execGetpid_keeps cl hp)
  | getbcr => exact (show NextHas P (execGetbcr s) from execGetbcr_keeps cl hp)
  | getdcr => exact (show NextHas P (execGetdcr s) from execGetdcr_keeps cl hp)
  | getstatus => exact (show NextHas P (execGetstatus s) from execGetstatus_keeps cl hp)
  | getmrl => exact (show NextHas P (execGetmrl s) from execGetmrl_keeps cl hp)
  | getmwl => exact (show NextHas P (execGetmwl s) from execGetmwl_keeps cl hp)
  | setmrl length => exact (show NextHas P (execSetmrl length s) from execSetmrl_keeps cl hp)
  | setmwl length => exact (show NextHas P (execSetmwl length s) from execSetmwl_keeps cl hp)
  | enec => exact (show NextHas P (execEnec s) from execEnec_keeps cl hp)
  | disec => exact (show NextHas P (execDisec s) from execDisec_keeps cl hp)
  | lcTransition path value => exact (show NextHas P (execLcTransition path value s) from execLcTransition_keeps cl hp)
  | lcFusesProgrammed => exact (show NextHas P (execLcFusesProgrammed s) from execLcFusesProgrammed_keeps cl hp)
  | supplyExcursion extreme_mV above ns => exact (show NextHas P (execSupplyExcursion extreme_mV above ns s) from execSupplyExcursion_keeps cl hp)
  | brownOut => exact (show NextHas P (execBrownOut s) from execBrownOut_keeps cl hp)
  | brownOutEnd => exact (show NextHas P (execBrownOutEnd s) from execBrownOutEnd_keeps cl hp)
  | powerLoss tornEntry => exact (show NextHas P (execPowerLoss tornEntry s) from execPowerLoss_keeps cl hp)
  | reservedRangeRefusal slice => exact (show NextHas P (execReservedRangeRefusal slice s) from execReservedRangeRefusal_keeps cl hp)
  | fillRefusal slice => exact (show NextHas P (execFillRefusal slice s) from execFillRefusal_keeps cl hp)
  | mapTemperatureStale core average => exact (show NextHas P (execMapTemperatureStale core average s) from execMapTemperatureStale_keeps cl hp)
  | beaconAtTimeRoot worker t1 => exact (show NextHas P (execBeaconAtTimeRoot worker t1 s) from execBeaconAtTimeRoot_keeps cl hp)
  | stewardHoldOrder env d divergence => exact (show NextHas P (execStewardHoldOrder env d divergence s) from execStewardHoldOrder_keeps cl hp)
  | crossChipProofIssue env d k step place => exact (show NextHas P (execCrossChipProofIssue env d k step place s) from execCrossChipProofIssue_keeps cl hp)
  | freezeReport env frozen => exact (show NextHas P (execFreezeReport env frozen s) from execFreezeReport_keeps cl hp)

theorem closed_all {P : State → Prop} (h : ∀ f : Fld, f.Closes P) (m : Nat) : Closed m P := fun f _ => h f

/-- A property that every field keeps but those of k is kept by a mask that has none of k. -/
theorem closed_but {m k : Nat} {P : State → Prop} (h : ∀ f : Fld, k.testBit f.bit = false → f.Closes P) (d : m &&& k = 0) :
    Closed m P := by
  intro f hf
  refine h f ?_
  cases e : k.testBit f.bit with
  | false => rfl
  | true =>
    have := congrArg (fun n => n.testBit f.bit) d
    simp [Nat.testBit_and, hf, e] at this

theorem pending_closed (v : List Instr) {m : Nat} (d : m &&& 0x0 = 0) : Closed m (fun s => s.pending = v) := by
  refine closed_but (fun f _ => ?_) d
  cases f <;> simp only [Fld.Closes] <;> intros <;> (rename_i h; exact h)

theorem dict_closed (v : Tab Word) {m : Nat} (d : m &&& 0x20000000000000001 = 0) : Closed m (fun s => s.dict = v) := by
  refine closed_but (fun f hf => ?_) d
  cases f <;> simp only [Fld.Closes] <;> intros <;> first | (rename_i h; exact h) | (exfalso; revert hf; decide)

theorem cont_closed (v : Tab Bytes) {m : Nat} (d : m &&& 0x20000000000000002 = 0) : Closed m (fun s => s.cont = v) := by
  refine closed_but (fun f hf => ?_) d
  cases f <;> simp only [Fld.Closes] <;> intros <;> first | (rename_i h; exact h) | (exfalso; revert hf; decide)

theorem stat_closed (v : Tab Stat) {m : Nat} (d : m &&& 0x20000000000000004 = 0) : Closed m (fun s => s.stat = v) := by
  refine closed_but (fun f hf => ?_) d
  cases f <;> simp only [Fld.Closes] <;> intros <;> first | (rename_i h; exact h) | (exfalso; revert hf; decide)

theorem now_closed (v : Word) {m : Nat} (d : m &&& 0x40000000000000008 = 0) : Closed m (fun s => s.now = v) := by
  refine closed_but (fun f hf => ?_) d
  cases f <;> simp only [Fld.Closes] <;> intros <;> first | (rename_i h; exact h) | (exfalso; revert hf; decide)

theorem timers_closed (v : List Timer) {m : Nat} (d : m &&& 0x60000000000000010 = 0) : Closed m (fun s => s.timers = v) := by
  refine closed_but (fun f hf => ?_) d
  cases f <;> simp only [Fld.Closes] <;> intros <;> first | (rename_i h; exact h) | (exfalso; revert hf; decide)

theorem out_closed (v : List Out) {m : Nat} (d : m &&& 0x20 = 0) : Closed m (fun s => s.out = v) := by
  refine closed_but (fun f hf => ?_) d
  cases f <;> simp only [Fld.Closes] <;> intros <;> first | (rename_i h; exact h) | (exfalso; revert hf; decide)

theorem free_closed (v : Nat) {m : Nat} (d : m &&& 0x40 = 0) : Closed m (fun s => s.free = v) := by
  refine closed_but (fun f hf => ?_) d
  cases f <;> simp only [Fld.Closes] <;> intros <;> first | (rename_i h; exact h) | (exfalso; revert hf; decide)

theorem staged_closed (v : List Staged) {m : Nat} (d : m &&& 0x20000000000000080 = 0) : Closed m (fun s => s.staged = v) := by
  refine closed_but (fun f hf => ?_) d
  cases f <;> simp only [Fld.Closes] <;> intros <;> first | (rename_i h; exact h) | (exfalso; revert hf; decide)

theorem drain_closed (v : Option Drain) {m : Nat} (d : m &&& 0x20000000000000100 = 0) : Closed m (fun s => s.drain = v) := by
  refine closed_but (fun f hf => ?_) d
  cases f <;> simp only [Fld.Closes] <;> intros <;> first | (rename_i h; exact h) | (exfalso; revert hf; decide)

theorem chans_closed (v : Tab (Option Chan)) {m : Nat} (d : m &&& 0x20000000000000200 = 0) : Closed m (fun s => s.chans = v) := by
  refine closed_but (fun f hf => ?_) d
  cases f <;> simp only [Fld.Closes] <;> intros <;> first | (rename_i h; exact h) | (exfalso; revert hf; decide)

theorem adp_closed (v : List AdpWait) {m : Nat} (d : m &&& 0x20000000000000400 = 0) : Closed m (fun s => s.adp = v) := by
  refine closed_but (fun f hf => ?_) d
  cases f <;> simp only [Fld.Closes] <;> intros <;> first | (rename_i h; exact h) | (exfalso; revert hf; decide)

theorem data_closed (v : Tab Bytes) {m : Nat} (d : m &&& 0x20000000000000800 = 0) : Closed m (fun s => s.data = v) := by
  refine closed_but (fun f hf => ?_) d
  cases f <;> simp only [Fld.Closes] <;> intros <;> first | (rename_i h; exact h) | (exfalso; revert hf; decide)

theorem tb_closed (v : TimeBase) {m : Nat} (d : m &&& 0x20000000000001000 = 0) : Closed m (fun s => s.tb = v) := by
  refine closed_but (fun f hf => ?_) d
  cases f <;> simp only [Fld.Closes] <;> intros <;> first | (rename_i h; exact h) | (exfalso; revert hf; decide)

theorem doms_closed (v : List DomSt) {m : Nat} (d : m &&& 0x20000000000002000 = 0) : Closed m (fun s => s.doms = v) := by
  refine closed_but (fun f hf => ?_) d
  cases f <;> simp only [Fld.Closes] <;> intros <;> first | (rename_i h; exact h) | (exfalso; revert hf; decide)

theorem proofs_closed (v : List Proof) {m : Nat} (d : m &&& 0x20000000000004000 = 0) : Closed m (fun s => s.proofs = v) := by
  refine closed_but (fun f hf => ?_) d
  cases f <;> simp only [Fld.Closes] <;> intros <;> first | (rename_i h; exact h) | (exfalso; revert hf; decide)

theorem suspects_closed (v : List (Nat × Nat × Nat)) {m : Nat} (d : m &&& 0x20000000000008000 = 0) : Closed m (fun s => s.suspects = v) := by
  refine closed_but (fun f hf => ?_) d
  cases f <;> simp only [Fld.Closes] <;> intros <;> first | (rename_i h; exact h) | (exfalso; revert hf; decide)

theorem proofSuspects_closed (v : List (Nat × Nat × Nat)) {m : Nat} (d : m &&& 0x20000000000010000 = 0) : Closed m (fun s => s.proofSuspects = v) := by
  refine closed_but (fun f hf => ?_) d
  cases f <;> simp only [Fld.Closes] <;> intros <;> first | (rename_i h; exact h) | (exfalso; revert hf; decide)

theorem rows_closed (v : List Row) {m : Nat} (d : m &&& 0x20000000000020000 = 0) : Closed m (fun s => s.rows = v) := by
  refine closed_but (fun f hf => ?_) d
  cases f <;> simp only [Fld.Closes] <;> intros <;> first | (rename_i h; exact h) | (exfalso; revert hf; decide)

theorem checkLate_closed (v : List (PCore × EngineNo × Nat)) {m : Nat} (d : m &&& 0x20000000000040000 = 0) : Closed m (fun s => s.checkLate = v) := by
  refine closed_but (fun f hf => ?_) d
  cases f <;> simp only [Fld.Closes] <;> intros <;> first | (rename_i h; exact h) | (exfalso; revert hf; decide)

theorem oldWork_closed (v : List (PCore × EngineNo × Nat)) {m : Nat} (d : m &&& 0x20000000000080000 = 0) : Closed m (fun s => s.oldWork = v) := by
  refine closed_but (fun f hf => ?_) d
  cases f <;> simp only [Fld.Closes] <;> intros <;> first | (rename_i h; exact h) | (exfalso; revert hf; decide)

theorem regen_closed (v : Option Regen) {m : Nat} (d : m &&& 0x20000000000100000 = 0) : Closed m (fun s => s.regen = v) := by
  refine closed_but (fun f hf => ?_) d
  cases f <;> simp only [Fld.Closes] <;> intros <;> first | (rename_i h; exact h) | (exfalso; revert hf; decide)

theorem job_closed (v : Steward) {m : Nat} (d : m &&& 0x20000000000200000 = 0) : Closed m (fun s => s.job = v) := by
  refine closed_but (fun f hf => ?_) d
  cases f <;> simp only [Fld.Closes] <;> intros <;> first | (rename_i h; exact h) | (exfalso; revert hf; decide)

theorem runs_closed (v : List Run) {m : Nat} (d : m &&& 0x20000000000400000 = 0) : Closed m (fun s => s.runs = v) := by
  refine closed_but (fun f hf => ?_) d
  cases f <;> simp only [Fld.Closes] <;> intros <;> first | (rename_i h; exact h) | (exfalso; revert hf; decide)

theorem nextRun_closed (v : Nat) {m : Nat} (d : m &&& 0x20000000000800000 = 0) : Closed m (fun s => s.nextRun = v) := by
  refine closed_but (fun f hf => ?_) d
  cases f <;> simp only [Fld.Closes] <;> intros <;> first | (rename_i h; exact h) | (exfalso; revert hf; decide)

theorem crosses_closed (v : List Cross) {m : Nat} (d : m &&& 0x20000000001000000 = 0) : Closed m (fun s => s.crosses = v) := by
  refine closed_but (fun f hf => ?_) d
  cases f <;> simp only [Fld.Closes] <;> intros <;> first | (rename_i h; exact h) | (exfalso; revert hf; decide)

theorem nextCross_closed (v : Nat) {m : Nat} (d : m &&& 0x20000000002000000 = 0) : Closed m (fun s => s.nextCross = v) := by
  refine closed_but (fun f hf => ?_) d
  cases f <;> simp only [Fld.Closes] <;> intros <;> first | (rename_i h; exact h) | (exfalso; revert hf; decide)

theorem crossPass_closed (v : Nat) {m : Nat} (d : m &&& 0x20000000004000000 = 0) : Closed m (fun s => s.crossPass = v) := by
  refine closed_but (fun f hf => ?_) d
  cases f <;> simp only [Fld.Closes] <;> intros <;> first | (rename_i h; exact h) | (exfalso; revert hf; decide)

theorem budgetWindow_closed (v : Nat) {m : Nat} (d : m &&& 0x20000000008000000 = 0) : Closed m (fun s => s.budgetWindow = v) := by
  refine closed_but (fun f hf => ?_) d
  cases f <;> simp only [Fld.Closes] <;> intros <;> first | (rename_i h; exact h) | (exfalso; revert hf; decide)

theorem overBudget_closed (v : Bool) {m : Nat} (d : m &&& 0x20000000010000000 = 0) : Closed m (fun s => s.overBudget = v) := by
  refine closed_but (fun f hf => ?_) d
  cases f <;> simp only [Fld.Closes] <;> intros <;> first | (rename_i h; exact h) | (exfalso; revert hf; decide)

theorem deferred_closed (v : Tab Nat) {m : Nat} (d : m &&& 0x20000000020000000 = 0) : Closed m (fun s => s.deferred = v) := by
  refine closed_but (fun f hf => ?_) d
  cases f <;> simp only [Fld.Closes] <;> intros <;> first | (rename_i h; exact h) | (exfalso; revert hf; decide)

theorem waitingRuns_closed (v : List PCore) {m : Nat} (d : m &&& 0x20000000040000000 = 0) : Closed m (fun s => s.waitingRuns = v) := by
  refine closed_but (fun f hf => ?_) d
  cases f <;> simp only [Fld.Closes] <;> intros <;> first | (rename_i h; exact h) | (exfalso; revert hf; decide)

theorem waitingCross_closed (v : List PCore) {m : Nat} (d : m &&& 0x20000000080000000 = 0) : Closed m (fun s => s.waitingCross = v) := by
  refine closed_but (fun f hf => ?_) d
  cases f <;> simp only [Fld.Closes] <;> intros <;> first | (rename_i h; exact h) | (exfalso; revert hf; decide)

theorem probings_closed (v : List Probing) {m : Nat} (d : m &&& 0x20000000100000000 = 0) : Closed m (fun s => s.probings = v) := by
  refine closed_but (fun f hf => ?_) d
  cases f <;> simp only [Fld.Closes] <;> intros <;> first | (rename_i h; exact h) | (exfalso; revert hf; decide)

theorem badRegulators_closed (v : List PCore) {m : Nat} (d : m &&& 0x20000000200000000 = 0) : Closed m (fun s => s.badRegulators = v) := by
  refine closed_but (fun f hf => ?_) d
  cases f <;> simp only [Fld.Closes] <;> intros <;> first | (rename_i h; exact h) | (exfalso; revert hf; decide)

theorem idleMoves_closed (v : List LCore) {m : Nat} (d : m &&& 0x20000000400000000 = 0) : Closed m (fun s => s.idleMoves = v) := by
  refine closed_but (fun f hf => ?_) d
  cases f <;> simp only [Fld.Closes] <;> intros <;> first | (rename_i h; exact h) | (exfalso; revert hf; decide)

theorem idleFills_closed (v : List PCore) {m : Nat} (d : m &&& 0x20000000800000000 = 0) : Closed m (fun s => s.idleFills = v) := by
  refine closed_but (fun f hf => ?_) d
  cases f <;> simp only [Fld.Closes] <;> intros <;> first | (rename_i h; exact h) | (exfalso; revert hf; decide)

theorem idleWaits_closed (v : List PCore) {m : Nat} (d : m &&& 0x20000001000000000 = 0) : Closed m (fun s => s.idleWaits = v) := by
  refine closed_but (fun f hf => ?_) d
  cases f <;> simp only [Fld.Closes] <;> intros <;> first | (rename_i h; exact h) | (exfalso; revert hf; decide)

theorem slices_closed (v : Tab Slice) {m : Nat} (d : m &&& 0x20000002000000000 = 0) : Closed m (fun s => s.slices = v) := by
  refine closed_but (fun f hf => ?_) d
  cases f <;> simp only [Fld.Closes] <;> intros <;> first | (rename_i h; exact h) | (exfalso; revert hf; decide)

theorem digests_closed (v : Tab Digest) {m : Nat} (d : m &&& 0x20000004000000000 = 0) : Closed m (fun s => s.digests = v) := by
  refine closed_but (fun f hf => ?_) d
  cases f <;> simp only [Fld.Closes] <;> intros <;> first | (rename_i h; exact h) | (exfalso; revert hf; decide)

theorem kv_closed (v : List Kv) {m : Nat} (d : m &&& 0x20000008000000000 = 0) : Closed m (fun s => s.kv = v) := by
  refine closed_but (fun f hf => ?_) d
  cases f <;> simp only [Fld.Closes] <;> intros <;> first | (rename_i h; exact h) | (exfalso; revert hf; decide)

theorem fences_closed (v : List Nat) {m : Nat} (d : m &&& 0x20000010000000000 = 0) : Closed m (fun s => s.fences = v) := by
  refine closed_but (fun f hf => ?_) d
  cases f <;> simp only [Fld.Closes] <;> intros <;> first | (rename_i h; exact h) | (exfalso; revert hf; decide)

theorem fenceCounts_closed (v : Tab Nat) {m : Nat} (d : m &&& 0x20000000000 = 0) : Closed m (fun s => s.fenceCounts = v) := by
  refine closed_but (fun f hf => ?_) d
  cases f <;> simp only [Fld.Closes] <;> intros <;> first | (rename_i h; exact h) | (exfalso; revert hf; decide)

theorem attic_closed (v : List Bytes) {m : Nat} (d : m &&& 0x40000000000 = 0) : Closed m (fun s => s.attic = v) := by
  refine closed_but (fun f hf => ?_) d
  cases f <;> simp only [Fld.Closes] <;> intros <;> first | (rename_i h; exact h) | (exfalso; revert hf; decide)

theorem holes_closed (v : List (Nat × Nat)) {m : Nat} (d : m &&& 0x20000080000000000 = 0) : Closed m (fun s => s.holes = v) := by
  refine closed_but (fun f hf => ?_) d
  cases f <;> simp only [Fld.Closes] <;> intros <;> first | (rename_i h; exact h) | (exfalso; revert hf; decide)

theorem err_closed (v : ErrSt) {m : Nat} (d : m &&& 0x20000100000000000 = 0) : Closed m (fun s => s.err = v) := by
  refine closed_but (fun f hf => ?_) d
  cases f <;> simp only [Fld.Closes] <;> intros <;> first | (rename_i h; exact h) | (exfalso; revert hf; decide)

theorem bring_closed (v : Bring) {m : Nat} (d : m &&& 0x60000200000000000 = 0) : Closed m (fun s => s.bring = v) := by
  refine closed_but (fun f hf => ?_) d
  cases f <;> simp only [Fld.Closes] <;> intros <;> first | (rename_i h; exact h) | (exfalso; revert hf; decide)

theorem test_closed (v : SelfTest) {m : Nat} (d : m &&& 0x20000400000000000 = 0) : Closed m (fun s => s.test = v) := by
  refine closed_but (fun f hf => ?_) d
  cases f <;> simp only [Fld.Closes] <;> intros <;> first | (rename_i h; exact h) | (exfalso; revert hf; decide)

theorem keyClearing_closed (v : Bool) {m : Nat} (d : m &&& 0x20000800000000000 = 0) : Closed m (fun s => s.keyClearing = v) := by
  refine closed_but (fun f hf => ?_) d
  cases f <;> simp only [Fld.Closes] <;> intros <;> first | (rename_i h; exact h) | (exfalso; revert hf; decide)

theorem keyCleared_closed (v : Bool) {m : Nat} (d : m &&& 0x20001000000000000 = 0) : Closed m (fun s => s.keyCleared = v) := by
  refine closed_but (fun f hf => ?_) d
  cases f <;> simp only [Fld.Closes] <;> intros <;> first | (rename_i h; exact h) | (exfalso; revert hf; decide)

theorem lcToken_closed (v : Option Bytes) {m : Nat} (d : m &&& 0x20002000000000000 = 0) : Closed m (fun s => s.lcToken = v) := by
  refine closed_but (fun f hf => ?_) d
  cases f <;> simp only [Fld.Closes] <;> intros <;> first | (rename_i h; exact h) | (exfalso; revert hf; decide)

theorem lcProgramming_closed (v : Option Nat) {m : Nat} (d : m &&& 0x20004000000000000 = 0) : Closed m (fun s => s.lcProgramming = v) := by
  refine closed_but (fun f hf => ?_) d
  cases f <;> simp only [Fld.Closes] <;> intros <;> first | (rename_i h; exact h) | (exfalso; revert hf; decide)

theorem coldStarts_closed (v : Nat) {m : Nat} (d : m &&& 0x8000000000000 = 0) : Closed m (fun s => s.coldStarts = v) := by
  refine closed_but (fun f hf => ?_) d
  cases f <;> simp only [Fld.Closes] <;> intros <;> first | (rename_i h; exact h) | (exfalso; revert hf; decide)

theorem frz_closed (v : FreezeSt) {m : Nat} (d : m &&& 0x20010000000000000 = 0) : Closed m (fun s => s.frz = v) := by
  refine closed_but (fun f hf => ?_) d
  cases f <;> simp only [Fld.Closes] <;> intros <;> first | (rename_i h; exact h) | (exfalso; revert hf; decide)

theorem obs_closed (v : ObsSt) {m : Nat} (d : m &&& 0x20020000000000000 = 0) : Closed m (fun s => s.obs = v) := by
  refine closed_but (fun f hf => ?_) d
  cases f <;> simp only [Fld.Closes] <;> intros <;> first | (rename_i h; exact h) | (exfalso; revert hf; decide)

theorem rcv_closed (v : RecSt) {m : Nat} (d : m &&& 0x20040000000000000 = 0) : Closed m (fun s => s.rcv = v) := by
  refine closed_but (fun f hf => ?_) d
  cases f <;> simp only [Fld.Closes] <;> intros <;> first | (rename_i h; exact h) | (exfalso; revert hf; decide)

theorem cel_closed (v : CellarSt) {m : Nat} (d : m &&& 0x80000000000000 = 0) : Closed m (fun s => s.cel = v) := by
  refine closed_but (fun f hf => ?_) d
  cases f <;> simp only [Fld.Closes] <;> intros <;> first | (rename_i h; exact h) | (exfalso; revert hf; decide)

theorem probes_closed (v : Tab Probe) {m : Nat} (d : m &&& 0x20100000000000000 = 0) : Closed m (fun s => s.probes = v) := by
  refine closed_but (fun f hf => ?_) d
  cases f <;> simp only [Fld.Closes] <;> intros <;> first | (rename_i h; exact h) | (exfalso; revert hf; decide)

theorem pcs_closed (v : List PcSt) {m : Nat} (d : m &&& 0x20200000000000000 = 0) : Closed m (fun s => s.pcs = v) := by
  refine closed_but (fun f hf => ?_) d
  cases f <;> simp only [Fld.Closes] <;> intros <;> first | (rename_i h; exact h) | (exfalso; revert hf; decide)

theorem img_closed (v : Images) {m : Nat} (d : m &&& 0x20400000000000000 = 0) : Closed m (fun s => s.img = v) := by
  refine closed_but (fun f hf => ?_) d
  cases f <;> simp only [Fld.Closes] <;> intros <;> first | (rename_i h; exact h) | (exfalso; revert hf; decide)

theorem powered_closed (v : Bool) {m : Nat} (d : m &&& 0x800000000000000 = 0) : Closed m (fun s => s.powered = v) := by
  refine closed_but (fun f hf => ?_) d
  cases f <;> simp only [Fld.Closes] <;> intros <;> first | (rename_i h; exact h) | (exfalso; revert hf; decide)

theorem porst_closed (v : Bool) {m : Nat} (d : m &&& 0x1000000000000000 = 0) : Closed m (fun s => s.porst = v) := by
  refine closed_but (fun f hf => ?_) d
  cases f <;> simp only [Fld.Closes] <;> intros <;> first | (rename_i h; exact h) | (exfalso; revert hf; decide)

theorem brownOut_closed (v : Bool) {m : Nat} (d : m &&& 0x2000000000000000 = 0) : Closed m (fun s => s.brownOut = v) := by
  refine closed_but (fun f hf => ?_) d
  cases f <;> simp only [Fld.Closes] <;> intros <;> first | (rename_i h; exact h) | (exfalso; revert hf; decide)

theorem pwrcyc_closed (v : Bool) {m : Nat} (d : m &&& 0x24000000000000000 = 0) : Closed m (fun s => s.pwrcyc = v) := by
  refine closed_but (fun f hf => ?_) d
  cases f <;> simp only [Fld.Closes] <;> intros <;> first | (rename_i h; exact h) | (exfalso; revert hf; decide)

theorem nearSecs_closed (v : Tab Nat) {m : Nat} (d : m &&& 0x28000000000000000 = 0) : Closed m (fun s => s.nearSecs = v) := by
  refine closed_but (fun f hf => ?_) d
  cases f <;> simp only [Fld.Closes] <;> intros <;> first | (rename_i h; exact h) | (exfalso; revert hf; decide)

theorem coldMap_closed (v : Nat × Bytes) {m : Nat} (d : m &&& 0x10000000000000000 = 0) : Closed m (fun s => s.coldMap = v) := by
  refine closed_but (fun f hf => ?_) d
  cases f <;> simp only [Fld.Closes] <;> intros <;> first | (rename_i h; exact h) | (exfalso; revert hf; decide)

end Sys2Proof.Machine
end

