-- ==== Sys2Proof/WellFormed.lean ====
section
/-! DEFINITION. Well-formed commands: the operands have the shapes that the rules give what arrives. A command that is not well-formed
stands for no event of the block. -/

namespace Sys2Proof

/-- A step number is at most 2^48 − 1: the step counter of a domain has 48 bits (02_time_and_steps.md, Steps). -/
def stepOk (s : Nat) : Bool := decide (s < 2 ^ 48)

/-- Work of a step, a proof or a revise names a step number (R94). -/
def Origin.wf : Origin → Bool
  | .step _ s => stepOk s
  | .proof _ _ s => stepOk s
  | .specimen | .cross _ | .regen => true

def Work.wf (w : Work) : Bool := w.origin.wf

/-- The contraction length is a multiple of 32 up to 65,536 (R56); rows, 64 columns and 4,096 outputs fit it and each other
(R57, R64). -/
def Tile.wf (t : Tile) : Bool :=
  decide (32 ≤ t.k) && decide (t.k ≤ 65536) && t.k % 32 == 0 && t.aRow.length == t.k && t.aAbs.length == t.k &&
    t.b.length == 64 && t.b.all (fun c => c.length == t.k) && t.z.length == 64 && t.rounded.length == 4096 &&
    t.roundedCopy.length == 4096

/-- An output unit is a block of 64 bytes (R100). -/
def OutUnit.wf (u : OutUnit) : Bool := u.data.length == 64

/-- What a core hands its probe: work, units and steps in their shapes, and one count for each of the eight reasons of a stall (R301). -/
def ProbeEv.wf : ProbeEv → Bool
  | .issued w | .completed w => w.wf
  | .command _ s _ _ _ => stepOk s
  | .output _ s u => stepOk s && u.wf
  | .received _ s | .barrier _ s => stepOk s
  | .cycles _ _ stalled => stalled.length == 8
  | .ring _ _ | .drained => true

/-- A report's first tainted steps are step numbers (R119, R125). -/
def FailureKind.wf : FailureKind → Bool
  | .proofFailure ranks many | .taint ranks many => ranks.all (fun x => stepOk x.2) && many.all stepOk
  | .galley s => stepOk s
  | .poison | .rollback | .rankEnded | .sparing | .narrowingProof _ => true

/-- A message of the debug protocol comes over MCTP or the steward path, and has an envelope on the latter alone (R346, R357). -/
def AdpHead.wf (h : AdpHead) : Bool := h.path != .window && (h.path == .steward) == h.env.isSome

/-- The operands of a command are in the shapes in which they arrive. -/
def Instr.wf : Instr → Bool
  | .probeEvent _ _ _ ev => ev.wf
  | .tileCheck w t => w.wf && t.wf
  | .vectorOpCheck w _ => w.wf
  | .rescaleRecord w _ _ _ _ _ => w.wf
  | .transferCheck w t => w.wf && decide (1 ≤ t.copies)
  | .checkTimeout w => w.wf
  | .proofResult _ _ s _ _ _ => stepOk s
  | .proofTimeout _ _ proof => stepOk proof.1
  | .proofNotProofable _ _ s _ => stepOk s
  | .reviseResult _ _ s _ => stepOk s
  | .workerStepReport _ _ s proven _ => stepOk s && proven.all stepOk
  | .jobGalleyClear _ _ s proven => stepOk s && proven.all stepOk
  | .failureReport _ _ kind => kind.wf
  | .remoteTaint _ _ s => stepOk s
  | .stewardRollbackOrder _ _ target _ => stepOk target
  | .crossChipProofRequest _ _ _ s _ => stepOk s
  | .linkPortFailure _ packets => packets.all (fun x => stepOk x.2)
  | .linkLossReport _ _ abandoned _ => stepOk abandoned
  | .kvPageWrite _ _ s _ _ => stepOk s
  | .specimenRunDone _ _ results => results.1.length == 7 && results.2.length == 7
  | .regenRunDone _ units _ => units.all (fun u => u.wf)
  | .crosscoreRunDone _ _ digests => digests.length == 7
  | .poisonConsumed w _ _ => w.wf
  | .compareTimeout s => stepOk s
  | .pauseLimitTimeout _ packets => packets.all (fun x => stepOk x.2)
  | .latePacketDiscarded _ _ _ _ s => stepOk s
  | .adpRead h => h.wf
  | .adpWrite h _ => h.wf
  | .adpStatus h => h.wf
  | .adpGroupWrite h _ => h.wf
  | .adpUploadInit h => h.wf
  | .adpUploadSegment h _ _ => h.wf
  | .adpDownloadInit h _ => h.wf
  | .adpDownloadSegment h _ _ => h.wf
  | .adpDownloadEnd h => h.wf
  | .adpAbort h _ => h.wf
  | .stewardHoldOrder _ _ divergence => divergence.all (fun x => stepOk x.1)
  | .crossChipProofIssue _ _ _ s _ => stepOk s
  | .pcHeartbeat .. | .pcSilent .. | .pcReady .. | .suspectSweep | .stepBoundary .. | .ledgerWalkDone .. | .rearmOnCauseGone ..
  | .domainActivate .. | .domainClose .. | .startArm .. | .startTimeReached .. | .startCancel .. | .stewardHeartbeatSend
  | .stewardHeartbeat .. | .stewardTimeout | .imageVerified .. | .activateWhenIdle .. | .drainAndActivate ..
  | .imageActivationDone | .loadAtPulse .. | .tpulseEdge .. | .tpulseWatchTimeout | .beaconPeriod | .beaconExchange ..
  | .beaconLossHoldover | .refclkLoss | .backupChangeover | .refclkReturn | .clockResumed .. | .startStatusReport ..
  | .startReportDeadline | .stepDiscardOrder .. | .routeGenerationWrite .. | .sparingCompleteReport .. | .rankReplaced ..
  | .faultFrame .. | .kvSpill .. | .kvFill .. | .specimenInterval | .specimenTimeout .. | .specimenRetest .. | .crosscoreInterval
  | .crosscoreTimeout .. | .marginProbeStart .. | .regulatorSettled .. | .settleTimeout .. | .dwellDone .. | .mapEntryAged ..
  | .reprobeInterval | .trimWrite .. | .supervisorSample .. | .budgetWindowEnd .. | .correctedErrorReport ..
  | .ceReportDequeue .. | .uncorrectableError .. | .poisonEndJob .. | .poisonRollbackResume .. | .hardwareFillDone ..
  | .scanStart .. | .scanPause .. | .scanResume .. | .scanAbort .. | .scanPassDone .. | .digestPeriod .. | .digestStale ..
  | .digestRecordWrite .. | .fenceOrder .. | .unfence .. | .refillEntryDone .. | .refillTimeout .. | .hostRefillDone ..
  | .hostRefillTimeout .. | .sparingRepeatRefill .. | .sparingEndJob .. | .atticRelease .. | .regenRequest .. | .regenTimeout | .regenRelease .. | .narrowingFetchResponse .. | .workDigestReport .. | .divergenceRestartPair ..
  | .divergenceEndJob .. | .stickyClear .. | .maskWrite .. | .forceWrite .. | .handlingStart | .errorRecordCommit ..
  | .handlingTimeout | .errPulseEnd | .holdRelease .. | .msixVectorUnmask .. | .ibiBusFree .. | .powerCycleDelay
  | .powerCycleNow .. | .powerUp | .porstRelease .. | .porstAssert .. | .cellarConfigReadDone .. | .fuseReadDone ..
  | .fillTimeout .. | .memoryTrainingDone .. | .memoryTrainingTimeout .. | .linkTrainingDone .. | .linkTrainingTimeout ..
  | .selftestDone .. | .specimenStageTimeout | .identityRequest .. | .identityAnswer .. | .identityTimeout ..
  | .identityRecheckTimer | .timeLockTimeout | .bringupContinue .. | .recheck .. | .planAccept .. | .selftestRequest ..
  | .selftestTimeout .. | .selftestAbort .. | .stackRequest .. | .keyClear .. | .keyClearDone .. | .freezeNow .. | .timedFreeze
  | .freezePinLow .. | .freezeFrame .. | .releaseNow .. | .timedRelease | .freezeReleaseTimeout | .pauseIndicationPeriod
  | .pauseIndicationReceived .. | .freezeDumpDone | .coreScanRead .. | .ringRestart .. | .hostMarker .. | .syncWaitEnd ..
  | .countersClear .. | .clearAllCounters .. | .breakpointMatch .. | .breakpointDrained | .breakpointDrainTimeout | .bpResume ..
  | .bpHaltTimeout | .contextResetRollback .. | .contextResetEnd .. | .engineReset .. | .partitionReset .. | .chipReset ..
  | .powerCycleOrder .. | .contextDrained .. | .engineResetDone .. | .partitionResetDone .. | .chipResetSequenceDone
  | .resetTimeout .. | .captureTimeout .. | .dumpWritten .. | .dumpBudgetTimeout | .lateWriteDropped .. | .cellarPatrol ..
  | .cellarErase .. | .registerWrite .. | .windowMalformedAccess .. | .adpMalformedMessage .. | .adpWaitTimeout .. | .chOpen ..
  | .chFetch .. | .chStore .. | .chEndDownload .. | .chAbort .. | .channelIdleTimeout .. | .drainTimeout | .setEndpointId ..
  | .getEndpointId .. | .getEndpointUuid .. | .getMctpVersionSupport .. | .getMessageTypeSupport ..
  | .getVendorDefinedMessageSupport .. | .entdaa .. | .setnewda .. | .rstdaa | .getpid | .getbcr | .getdcr | .getstatus | .getmrl
  | .getmwl | .setmrl .. | .setmwl .. | .enec | .disec | .lcTransition .. | .lcFusesProgrammed | .supplyExcursion .. | .brownOut
  | .brownOutEnd | .powerLoss .. | .reservedRangeRefusal .. | .fillRefusal .. | .mapTemperatureStale .. | .beaconAtTimeRoot ..
  | .freezeReport .. => true

end Sys2Proof
end

