-- ==== Sys2Proof/Tests/Slice0.lean ====
section
/-! SUPPORT. Tests of the model on small states: terms that are not well-formed, a state and operands that meet the hypotheses of each
clause of each statement, and single steps whose results the rules of spec/ give. -/

namespace Sys2Proof.Tests

set_option Elab.async false

open Sys2Proof Sys2Proof.Machine

/-! ### Small states -/

/-- An entry put into its place by rising key. -/
def ins {α : Type} (k : Nat) (v : α) : Tab α → Tab α
  | [] => [(k, v)]
  | (j, w) :: t => if k < j then (k, v) :: (j, w) :: t else if k = j then (k, v) :: t else (j, w) :: ins k v t

/-- A chip in stage 9 that runs an image from the boot flash, in life-cycle state 0, with the entries listed. -/
def ready (l : Tab Word) : State :=
  { State.reset with dict := l.foldl (fun t e => ins e.1 e.2 t) [(key 0x1010 3, 1), (key 0x1100 1, 0), (key 0x2500 1, 9)] }

/-- The timeout of a command has come. -/
def timed (c : Instr) (s : State) : State := { s with timers := [{ cmd := c, due := 0, fired := some 0, held := none }] }

/-- Domain D0 is as given. -/
def inDom (x : DomSt) (s : State) : State := { s with doms := x :: List.replicate 7 DomSt.idle }

/-- An active domain of logical core L000. -/
def activeDom : DomSt := { DomSt.idle with active := true, cores := [0] }

/-- A chip with an endpoint ID on PCIe. -/
def onBus (l : Tab Word) : State := ready ((key 0x1000 0xA, 8) :: l)

/-- A request over MCTP on PCIe. -/
def head (index : BitVec 16) (sub : Byte) : AdpHead :=
  { path := .adpPcie, eid := 8, msg := 0, tag := 0, index := index, sub := sub, flags := 0, env := none }

/-- A frame of rank 1. -/
def env : Env := { job := 5, epoch := 6, src := 1, dst := 0 }

/-- A chip with a role in job 5, with rank 1 its steward where it is a worker. -/
def inJob (role : Word) (l : Tab Word) : State :=
  inDom activeDom (ready ([(key 0x2C00 1, role), (key 0x2C00 2, 5), (key 0x2C00 3, 6), (key 0x2C00 4, 1)] ++ l))

def work (o : Origin) : Work :=
  { core := 0, engine := 0, item := 0, origin := o, layer := 0, oper := 0, format := 0, place := 0, attn := false, edges := 0 }

def capture : Capture :=
  { src := 0x10, inst := 0, time := 0, lcc := 0, seq := 0, forced := false, masked := false, late := false, payload := [], num := 0,
    lost := 0 }

def coreRec : CoreRec :=
  { k := 0, phys := 0, seed := 0, work := [], arrived := false, clear := false, blocked := false, acc := 0, units := 0, reach := [],
    sentOther := false, recvOther := false, egress := 0, clearTime := 0, proofed := false, passed := false, ops := [],
    marked := false, gate := false }

def stepRec : StepRec :=
  { n := 0, cores := [coreRec], keys := (0, 0, 0), checks := 0xF, coefs := [], ended := false, clear := false, reported := false, jobClear := false,
    equal := false, dispatched := false, released := false, committed := false, onAge := false, discarded := false, ranks := [],
    many := false, dist := 0 }

/-- A chip without power, whose supplies then come. -/
def off : State := { State.reset with powered := false, porst := false, pending := [.powerUp] }

theorem off_canon : off.Canon :=
  { dict := by decide +kernel, cont := rfl, stat := rfl, chans := rfl, data := rfl, probes := rfl, slices := rfl, digests := rfl,
    fenceCounts := rfl, deferred := rfl, nearSecs := rfl, doms := rfl, pcs := rfl }

theorem ready_resting : (ready []).Resting :=
  { idle := by decide +kernel, role := by decide +kernel, lost := by decide +kernel, beacon := by decide +kernel,
    beats := by decide +kernel, narrow := rfl, narrowLost := rfl,
    healthy := by decide +kernel, runs := rfl, drain := rfl, image := rfl, whole := by decide +kernel, moves := rfl, thawed := rfl }

/-- A response that waits. -/
def waits : AdpWait := { path := .adpPcie, eid := 8, msg := 0, tag := 0, rank := 0, op := 2, keys := [] }

/-- A download of a domain's core mask over PCIe. -/
def transfer : Chan :=
  { entry := key 0x1303 1, upload := false, path := .adpPcie, eid := 8, rank := 0, snapshot := [], live := false, total := 72,
    got := [] }

def windowTransfer : Chan := { transfer with path := .window, eid := 0xFF }

/-- Channel C0 holds a transfer. -/
def holding (x : Chan) (l : Tab Word) : State := { onBus ((chanKey 0 3, 72) :: l) with chans := [(0, some x)] }

def opened (x : Chan) (l : Tab Word) : State := { ready ((chanKey 0 3, 72) :: l) with chans := [(0, some x)] }

/-- The entry of a domain's core mask. -/
def maskEntry : Entry := (entryOf (key 0x1303 1)).getD { ty := .u64, acc := .ro }

def ibi : Ibi := { cls := 0, src := 0, inst := 0, num := 0, mctp := true }

/-- A chip from its reset with the entries listed and no others. -/
def at_ (l : Tab Word) : State := { State.reset with dict := l }

/-- A chip on the I3C bus whose reads and writes carry a packet. -/
def longReads : State :=
  { ready [(key 0x1000 0xC, 0x11)] with err := { State.reset.err with maxRead := 69, maxWrite := 69 } }

def groupWay : GroupWay := { path := .adpPcie, eid := 8, rank := 0, drain := false, quiet := false }

theorem ends {e : Entry} {k : Nat} {b : Bytes} {u : State} (h : (contentWrite e k b u).2 = .done) :
    contentWrite e k b u = ((contentWrite e k b u).1, .done) := Prod.ext rfl h

theorem with_snd {α β : Type} {p : α × β} {b : β} (h : p.2 = b) : p = (p.1, b) := Prod.ext rfl h

def narrow : Narrow :=
  { d := 0, step := 0, at_ := 0, stage := 1, differing := [], fetched := [], found := [], first := none, digests := [],
    waiting := [], own := [], work := none, proofs := [] }

/-- A word moved here from the scratch memory of core P000. -/
def copied : Transfer := { source := .here 0 6 [1], words := [1], copies := 1 }

/-- A tile of contraction length 1 with one column. -/
def tile : Tile :=
  { fmt := .bf16, k := 1, aScales := [], bScales := [], aRow := [some Dy.zero], aAbs := [some Dy.zero], b := [[some Dy.zero]],
    z := [some Dy.zero], rounded := [0], roundedCopy := [0] }

/-- A tile of an exact format whose scales span more than its window. -/
def wideTile : Tile := { tile with fmt := .mxfp4, aScales := [[0xFE], [0]], bScales := [[0x7F]] }

def exactTile : Tile := { tile with fmt := .mxfp4, aScales := [[0x7F]], bScales := [[0x7F]] }

/-- A proof of core L000 in step 0, on P001. -/
def proof : Proof :=
  { d := 0, k := 0, s := 0, index := 0, core := some 1, priority := false, remote := false, served := none, result := none,
    rcore := none, lost := 0, avoid := [], narrowing := false, id := 0, under := false, runder := false }

/-- The same, whose result differs and whose revise runs on P002. -/
def revised : Proof := { proof with result := some (1, 1), rcore := some 2 }

/-- A page of four committed positions. -/
def openPage : Page := { page := 5, stored := true, opened := false, freed := none, committedLen := 4, lengths := [] }

/-- What the tag of page 5 says of it, after the CRC: two tokens in one unit, of no job. -/
def kvFields : Bytes := le 8 5 ++ le 8 0 ++ le 4 1 ++ le 2 2 ++ [1, 0]

def run : Run := { core := 0, id := 0, again := false, timedOut := false, failed := [], missed := [], under := false, why := 0 }

def cross : Cross :=
  { id := 0, work := ⟨.bf16, 32, ⟨0, 0, 0, 0⟩⟩, cores := [0, 1], probed := none, digests := [], late := [], under := [] }

def probing : Probing :=
  { core := 0, mv := 0, phase := 0, fails := 0, units := 0, lastPass := none, firstFail := none, ending := false,
    below := true }

/-- A digest record of mode 1 over the first 64 bytes of P000's slice, each second. -/
def digestRecord : Bytes := List.replicate 9 0 ++ [1, 0, 0, 1, 0, 0, 0] ++ le 4 0 ++ le 4 64 ++ List.replicate 40 0

def digestEntry : Entry := (entryOf (digestKey 0)).getD { ty := .u64, acc := .ro }

def sparing : Sparing :=
  { fenced := 0, of_ := none, k := 0, repl := some 1, at_ := 0, cause := 0, attic := none, raised := false, phase := 4, entry := 0,
    bytes := 0, sources := 0 }

def regen : Regen := { d := 0, k := 0, s := 0, core := 1, seed := 0, done := false, scratch := [] }

def testResult : TestResult := { samples := [], final := 0, sram := [], cells := [], verifyClean := true, responds := true }

def coreTest : CoreTest := { core := 0, mask := 1, prior := 0, failed := false }

def dump : Dump :=
  { num := 1, origin := 1, level := 1, flags := 0, cores := [], doms := [], stackNos := [], chip := false, time := 0, cause := 0,
    record := [] }

def syncWait : SyncWait :=
  { core := 0, engine := 0, start := 0, cycles := 64, kind := 0, releaser := 0, releaserEngine := 0, object := 0, layer := 0,
    oper := 0 }

def breakpoint : Bp :=
  { pc := 1, number := 1, event := 1, filter := 0, d := none, at_ := 0, halted := false, notDrained := false }

/-- A context reset of D0 that drains. -/
def reset : Reset :=
  { id := .context 0, level := 1, atLevel := 1, mode := 1, origin := 0, grant := 0, d := some 0, unit := 0, cores := [0], engines := [],
    record := [], escalated := false, phase := 0, notCaptured := 0, dump := none, tag := 0, lateWrites := 0, latePackets := 0,
    thenEngines := [] }

def chipReset : Reset := { reset with id := .chip, level := 4, atLevel := 4, d := none, dump := some 1 }

/-- Time is locked and the start mask names D0. -/
def startable : State := ready [(key 0x1200 3, 2), (key 0x1220 2, 1)]

theorem startable_single : ∀ d : Dom, (startable.taking .window (key 0x1220 1)).lockstep d = 0 := by decide +kernel

/-! ### Terms that are not well-formed -/

def badTile (t : Tile) : Bool := !(Instr.tileCheck (work .specimen) t).wf

/-- A step number has 48 bits. -/
theorem test_wf_step : (Instr.proofTimeout 0 0 (2 ^ 48, 0)).wf = false ∧ (Instr.proofTimeout 0 0 (2 ^ 48 - 1, 0)).wf = true ∧
    (Instr.transferCheck (work (.step 0 (2 ^ 48))) copied).wf = false ∧
    (Instr.transferCheck (work (.proof 0 0 (2 ^ 48))) copied).wf = false ∧
    (Instr.failureReport env 0 (.galley (2 ^ 48))).wf = false ∧ (Instr.failureReport env 0 (.taint [(1, 2 ^ 48)] none)).wf = false ∧
    (Instr.failureReport env 0 (.proofFailure [] (some (2 ^ 48)))).wf = false ∧
    (Instr.workerStepReport env 0 0 (some (2 ^ 48)) 0).wf = false ∧ (Instr.linkPortFailure 0 [(0, 2 ^ 48)]).wf = false := by decide +kernel

/-- A tile of the least contraction length, with 64 columns and 4,096 outputs. -/
def wholeTile : Tile :=
  { fmt := .bf16, k := 32, aScales := [], bScales := [], aRow := List.replicate 32 (some Dy.zero),
    aAbs := List.replicate 32 (some Dy.zero), b := List.replicate 64 (List.replicate 32 (some Dy.zero)),
    z := List.replicate 64 (some Dy.zero), rounded := List.replicate 4096 0, roundedCopy := List.replicate 4096 0 }

/-- The parts of a tile fit its contraction length and each other, and a contraction length is a multiple of 32. -/
theorem test_wf_tile : badTile wholeTile = false ∧ badTile tile = true ∧ badTile { wholeTile with aRow := [] } = true ∧
    badTile { wholeTile with aAbs := [] } = true ∧ badTile { wholeTile with b := [[]] } = true ∧
    badTile { wholeTile with z := [] } = true ∧ badTile { wholeTile with rounded := [] } = true ∧
    badTile { wholeTile with roundedCopy := [] } = true := by decide +kernel

def shortUnit : OutUnit :=
  { kind := 0, dest := 0, offset := 0, mask := 0, data := [], cmd := 0, layer := 0, oper := 0, engine := 0, item := 0, place := 0,
    marked := false }

/-- An output unit has 64 bytes, a core hands its probe eight counts of stalls. -/
theorem test_wf_probe : (Instr.probeEvent 0 0 0 (.output 0 0 shortUnit)).wf = false ∧
    (Instr.probeEvent 0 0 0 (.cycles 0 0 [])).wf = false ∧ (Instr.probeEvent 0 0 0 (.cycles 0 0 (List.replicate 8 0))).wf = true ∧
    (Instr.probeEvent 0 0 0 (.issued (work (.step 0 (2 ^ 48))))).wf = false ∧
    (Instr.probeEvent 0 0 0 (.received 0 (2 ^ 48))).wf = false := by decide +kernel

/-- A core has seven engines, a transfer at least one copy. -/
theorem test_wf_engines : (Instr.specimenRunDone 0 0 ([], [])).wf = false ∧
    (Instr.specimenRunDone 0 0 (List.replicate 7 0, List.replicate 6 true)).wf = false ∧
    (Instr.crosscoreRunDone 0 0 [0]).wf = false ∧
    (Instr.transferCheck (work .specimen) { copied with copies := 0 }).wf = false := by decide +kernel

/-- A message of the debug protocol is none of the window's, and has an envelope on the steward path alone. -/
theorem test_wf_message : (Instr.adpRead { head 0 0 with path := .window }).wf = false ∧
    (Instr.adpRead { head 0 0 with path := .steward }).wf = false ∧ (Instr.adpRead { head 0 0 with env := some env }).wf = false ∧
    (Instr.adpRead { head 0 0 with path := .steward, env := some env }).wf = true := by decide +kernel

/-! ### Values that the spec gives -/

/-- The nine ASCII bytes 123456789. -/
def nine : Bytes := [0x31, 0x32, 0x33, 0x34, 0x35, 0x36, 0x37, 0x38, 0x39]

/-- R168: the CRC of memory scans, of 123456789. -/
theorem test_crc64 : crc64 0 nine = 0x6C40DF5F0B497347 := by decide +kernel

/-- R332: the CRC of records, of 123456789. -/
theorem test_crc32c : crc32c nine = 0xE3069283 := by decide +kernel

/-- The example of R59 to R61: L = −71 and the tile is exact; with padding scales of 0 it is window exceeded, with the same L. -/
theorem test_tile_window :
    tileWindow { tile with k := 8192, aScales := [[118], [133]], bScales := [[120], [126]] } (-2) 8 = (-71, false) ∧
    tileWindow { tile with k := 8192, aScales := [[118], [133], [0]], bScales := [[120], [126]] } (-2) 8 = (-71, true) := by
  decide +kernel

/-- The example of 09: the force word of P137.ME2's matrix mismatch is object 0x2420.B3, its sticky word 0x2420.2F. -/
theorem test_force_word : srcKey 0x20 (0xA4 + 15) = key 0x2420 0xB3 ∧ srcKey 0x20 (0x20 + 15) = key 0x2420 0x2F ∧
    forcedInstances 15 2 = [961] := by decide +kernel

/-- The example of 13: level 1, mode 1, domain 2 is the order 0x1102_0000. -/
theorem test_order_word : orderWord 1 1 2 0 = 0x11020000 := by decide +kernel

/-- The example of 11: P588 lies in stack 2. -/
theorem test_stack : stackOf 588 = 2 := by decide +kernel

/-- The examples of 14: 80 body bytes take 2 records, 1,536 take 39. -/
theorem test_records : recordsFor 80 = 2 ∧ recordsFor 1536 = 39 := by decide +kernel

/-- The example of 02: 500 µs are 8,000,000 units. -/
theorem test_units : us 500 = 8000000 := by decide +kernel

/-- No row of the table has bits. -/
theorem test_decode : decodeTableWord 16 0 = none := by decide +kernel

/-! ### Single steps -/

/-- What one command leaves. -/
def after (c : Instr) (s : State) : State :=
  match exec c s with
  | .next t => t
  | _ => s

/-- R34: a tick adds 6.4 units. -/
theorem test_tick : (match step State.reset with | .next t => (t.now, t.tb.frac) | _ => (0, 0)) = (6, 1717986918) := by decide +kernel

/-- R17: a silent PC1 sets its bit of source 0x10. -/
theorem test_silent : (after (.pcSilent 1) (timed (.pcSilent 1) (ready []))).get (srcKey 0x10 0x20) = 2 ∧
    (after (.pcSilent 1) (timed (.pcSilent 1) (ready []))).pcRunning 1 = false := by decide +kernel

/-- R355: ENTDAA gives an address, and not twice. -/
theorem test_entdaa : (after (.entdaa 0x22) (ready [])).get (key 0x1000 0xC) = 0x22 ∧
    (after (.entdaa 0x22) (ready [(key 0x1000 0xC, 0x11)])).get (key 0x1000 0xC) = 0x11 := by decide +kernel

/-- R349: a write to a read-only entry is refused with reason 2. -/
theorem test_read_only : ((after (.registerWrite .window 0x1200 1 (.value 5)) (ready [])).status (key 0x1200 1)).st = .refused ∧
    ((after (.registerWrite .window 0x1200 1 (.value 5)) (ready [])).status (key 0x1200 1)).reason = 2 := by decide +kernel

/-- R235: a pending vector is sent when it is unmasked. -/
theorem test_msix : (after (.msixVectorUnmask 3) { ready [] with err := { State.reset.err with msixPending := 8 } }).out = [.msix 3] := by
  decide +kernel

/-- R110, R111: an append to a committed position is refused and raises source 0x34 of its domain. -/
theorem test_ledger : (after (.kvPageWrite 0 0 0 5 (.append 3 1))
    (inDom { activeDom with steps := [stepRec], pages := [openPage] } (ready []))).get (srcKey 0x34 0x20) = 1 := by decide +kernel

/-- R374: without its supplies the chip has nothing armed and no domain. -/
theorem test_power_loss : (after (.powerLoss false) (inDom activeDom (ready []))).powered = false ∧
    ((after (.powerLoss false) (inDom activeDom (ready []))).dom 0).active = false := by decide +kernel

/-- R284: a clear that read back as zeros is told with its time. -/
theorem test_key_clear : (after (.keyClearDone true) { ready [] with keyClearing := true, now := 9 }).get (key 0x2601 4) = 9 ∧
    (after (.keyClearDone true) { ready [] with keyClearing := true }).keyCleared = true := by decide +kernel

/-! ### States that meet the hypotheses of each clause of each statement -/

theorem test_meets_StepRunsTheFrontCommand :
    ∃ (s : State) (c : Instr) (rest : List Instr), s.pending = c :: rest :=
  ⟨off, .powerUp, [], by decide +kernel⟩

theorem test_meets_EmptyQueueTicks :
    ∃ s : State, s.pending = [] :=
  ⟨State.reset, by decide +kernel⟩

theorem test_meets_ResetStartsStageOne :
    ∃ k, k ≠ key 0x2500 1 ∧ k ≠ key 0x2500 6 :=
  ⟨0, by decide +kernel, by decide +kernel⟩

theorem test_meets_EveryStepKeepsCanon :
    ∃ s t : State, s.Canon ∧ step s = .next t :=
  ⟨off, _, off_canon, rfl⟩

theorem test_meets_GlobalTimeNeverDecreases :
    (∃ s t : State, (∀ c ∈ s.pending.head?, startsCold c = false) ∧ step s = .next t) ∧
    (∃ (c : Instr) (s t : State), movesTime c = false ∧ exec c s = .next t) :=
  ⟨⟨off, _, by decide +kernel, rfl⟩,
    ⟨.powerUp, off, _, by decide +kernel, rfl⟩⟩

theorem test_meets_AtticIsHistory :
    (∃ (c : Instr) (s t : State), s.Canon ∧ exec c s = .next t) ∧
    (∃ (c : Instr) (s t : State), s.Canon ∧ exec c s = .next t ∧ s.attic.length ≤ 1024) ∧
    (∃ (c : Instr) (s t : State), ∃ _n : Nat, s.Canon ∧ exec c s = .next t) :=
  ⟨⟨.powerUp, off, _, off_canon, rfl⟩,
    ⟨.powerUp, off, _, off_canon, rfl, by decide +kernel⟩,
    ⟨.powerUp, off, _, 0, off_canon, rfl⟩⟩

theorem test_meets_GuardedStateHasFewWriters :
    (∃ (c : Instr) (s t : State), exec c s = .next t ∧ switchesPower c = false) ∧
    (∃ (c : Instr) (s t : State), exec c s = .next t ∧ startsCold c = false) ∧
    (∃ (c : Instr) (s t : State), exec c s = .next t ∧ movesTransfers c = false) ∧
    (∃ (c : Instr) (s t : State), exec c s = .next t ∧ touchesKeys c = false) ∧
    (∃ (c : Instr) (s t : State), exec c s = .next t ∧ cyclesPower c = false) :=
  ⟨⟨.errPulseEnd, State.reset, _, rfl, by decide +kernel⟩,
    ⟨.errPulseEnd, State.reset, _, rfl, by decide +kernel⟩,
    ⟨.errPulseEnd, State.reset, _, rfl, by decide +kernel⟩,
    ⟨.errPulseEnd, State.reset, _, rfl, by decide +kernel⟩,
    ⟨.errPulseEnd, State.reset, _, rfl, by decide +kernel⟩⟩

theorem test_meets_ExpiriesNotDueDoNothing :
    ∃ (c x : Instr) (s : State), timeoutOf c = some x ∧ s.expired x = false :=
  ⟨.errPulseEnd, .errPulseEnd, State.reset, by decide +kernel, by decide +kernel⟩

theorem test_meets_ReservedIndicesAreNoObject :
    (∃ (s : State) (index : BitVec 16), ∃ (x : State) (h : AdpHead), (∀ sub : Byte, entryOf (key index.toNat sub.toNat) = none) ∧
      s.romService = false ∧ h.index = index ∧ s.TakesRequest h ∧ x = s.counted h.path) ∧
    (∃ (s : State) (index : BitVec 16), ∃ (x : State) (h : AdpHead), ∃ (y : State) (_v : Word), (∀ sub : Byte, entryOf (key
      index.toNat sub.toNat) = none) ∧ s.romService = false ∧ h.index = index ∧ s.TakesRequest h ∧ x = s.counted h.path ∧ y =
      s.taking h.path (headKey h) ∧ y.status (headKey h) = Stat.none) ∧
    (∃ (s : State) (index : BitVec 16), ∃ (path : Path) (_sub : Byte) (_v : Word), (∀ sub : Byte, entryOf (key index.toNat sub.toNat)
      = none) ∧ s.romService = false ∧ s.pathServed path = true) :=
  ⟨⟨onBus [], 0x1001, _, head 0x1001 0, by decide +kernel, by decide +kernel, by decide +kernel, ⟨by decide +kernel,
    by decide +kernel, by decide +kernel⟩, rfl⟩,
    ⟨onBus [], 0x1001, _, head 0x1001 0, _, 0, by decide +kernel, by decide +kernel, by decide +kernel, ⟨by decide +kernel,
      by decide +kernel, by decide +kernel⟩, rfl, rfl, by decide +kernel⟩,
    ⟨ready [], 0x1001, .window, 0, 0, by decide +kernel, by decide +kernel, by decide +kernel⟩⟩

theorem test_meets_LostProofreaderCoresAreRaised :
    (∃ (s u : State) (pc : PcNo), s.expired (.pcSilent pc) = true ∧ s.pcRunning pc = true ∧ u = ((s.begin.expire (.pcSilent
      pc)).stopPc pc).moveDuties pc ∧ (u.pcsLost = 1 ∨ u.pcsLost = 2)) ∧
    (∃ (s u : State) (pc : PcNo), s.expired (.pcSilent pc) = true ∧ s.pcRunning pc = true ∧ u = ((s.begin.expire (.pcSilent
      pc)).stopPc pc).moveDuties pc ∧ 3 ≤ u.pcsLost) :=
  ⟨⟨timed (.pcSilent 1) (ready []), _, 1, by decide +kernel, by decide +kernel, rfl, by decide +kernel⟩,
    ⟨timed (.pcSilent 1) (ready [(pcKey 2, 1), (pcKey 3, 3)]), _, 1, by decide +kernel, by decide +kernel, rfl, by decide +kernel⟩⟩

theorem test_meets_CellarErasureKeepsConfiguration :
    (∃ (s x : State) (path : Path), x = s.taking path (key 0x2A00 0xD) ∧ s.Takes path (key 0x2A00 0xD) 1 false) ∧
    (∃ (s t : State) (path : Path), s.lc ≠ 0 ∧ s.lc ≠ 3 ∧ exec (.cellarErase path) s = .next t) :=
  ⟨⟨ready [], _, .window, rfl, ⟨by decide +kernel, by decide +kernel⟩⟩,
    ⟨{ ready [(key 0x1100 1, 2)] with porst := false }, _, .window, by decide +kernel, by decide +kernel, rfl⟩⟩

theorem test_meets_RefusedWritesTouchTheirStatus :
    (∃ (s : State) (path : Path) (_k : Nat) (_v : Word) (_content : Bool) (_body : Body), s.pathServed path = false) ∧
    (∃ (s t : State) (path : Path) (k : Nat) (v : Word) (content : Bool) (body : Body) (e : WEnd), s.pathServed path = true ∧
      (s.taking path k).writeCheck k v content = some e ∧ e ≠ .noObject ∧ t = s.begin.granted path k v content body) ∧
    (∃ (s t : State) (path : Path) (k : Nat) (v : Word) (content : Bool) (body : Body) (e : WEnd), ∃ j, s.pathServed path = true ∧
      (s.taking path k).writeCheck k v content = some e ∧ e ≠ .noObject ∧ t = s.begin.granted path k v content body ∧ j ≠ k) :=
  ⟨⟨{ State.reset with porst := false }, .window, 0, 0, false, fun s => (s, .done), by decide +kernel⟩,
    ⟨ready [], _, .window, key 0x2500 1, 0, false, fun s => (s, .done), .refused 2, by decide +kernel, by decide +kernel,
      by decide +kernel, rfl⟩,
    ⟨ready [], _, .window, key 0x2500 1, 0, false, fun s => (s, .done), .refused 2, 0, by decide +kernel, by decide +kernel,
      by decide +kernel, rfl, by decide +kernel⟩⟩

theorem test_meets_ChipAtRestStaysAsItIs :
    ∃ s : State, s.Resting :=
  ⟨ready [], ready_resting⟩

theorem test_meets_WritesSetTheirEntry :
    (∃ (s x : State) (path : Path) (index : BitVec 16) (sub : Byte) (v : Word) (k : Nat) (e : Entry), k = key index.toNat sub.toNat
      ∧ x = s.taking path k ∧ s.Takes path k v false ∧ entryOf k = some e ∧ e.cls = .i ∧ ownBody path 0xFF 0 k v = none ∧ (chanOf
      k).isSome = false ∧ k ≠ key 0x2800 3 ∧ k ≠ key 0x2800 4 ∧ x.ruleOf k (e.rng.keepBits v).toNat = none ∧ x.lostApplies k
      (e.rng.keepBits v) = false) ∧
    (∃ (s x : State) (index : BitVec 16) (sub : Byte) (off : Nat) (b : Bytes) (c : ChanNo), x = s.counted .window ∧ chanOf (key
      index.toNat sub.toNat) = some c ∧ s.pathServed .window = true ∧ s.dutyRuns 0 = true ∧ s.chanBusy .window (key index.toNat
      sub.toNat) = false ∧ 0x40 ≤ sub.toNat ∧ off % 4 = 0 ∧ b.length % 4 = 0 ∧ 4 ≤ b.length ∧ b.length ≤ 256 ∧ 16 * (sub.toNat -
      0x40) + off + b.length ≤ 3072) :=
  ⟨⟨ready [], _, .window, 0x2002, 1, 0, _, { ty := .u64, acc := .rw, rng := .zero }, rfl, rfl, ⟨by decide +kernel,
    by decide +kernel⟩, by decide +kernel, by decide +kernel, by decide +kernel, by decide +kernel, by decide +kernel,
    by decide +kernel, by decide +kernel, by decide +kernel⟩,
    ⟨ready [], _, 0x6000, 0x40, 0, [0, 0, 0, 0], 0, rfl, by decide +kernel, by decide +kernel, by decide +kernel, by decide +kernel,
      by decide +kernel, by decide +kernel, by decide +kernel, by decide +kernel, by decide +kernel, by decide +kernel⟩⟩

theorem test_meets_MalformedAccessesAreTold :
    (∃ (s : State) (o : BitVec 28) (n : Nat) (w : Bool), s.pathServed .window = true ∧ windowFits o.toNat n w = false) ∧
    (∃ (s : State) (path : Path) (_eid : Byte) (_raw : Bytes), s.adpServed path = true ∧ path ≠ .steward) ∧
    (∃ (s : State) (path : Path) (_eid : Byte) (raw : Bytes), s.adpServed path = true ∧ path ≠ .steward ∧ raw.length < 20) ∧
    (∃ (s : State) (path : Path) (_eid : Byte) (raw : Bytes), s.adpServed path = true ∧ path ≠ .steward ∧ 20 ≤ raw.length ∧ fieldAt
      raw (raw.length - 4) 4 ≠ crc32c (raw.take (raw.length - 4))) ∧
    (∃ (s : State) (path : Path) (_eid : Byte) (raw : Bytes), s.adpServed path = true ∧ messageFault raw = none ∧ fieldAt raw 1 1 ∉
      adpOpcodes) :=
  ⟨⟨ready [], 1, 3, false, by decide +kernel, by decide +kernel⟩,
    ⟨onBus [], .adpPcie, 8, [], by decide +kernel, by decide +kernel⟩,
    ⟨onBus [], .adpPcie, 8, [], by decide +kernel, by decide +kernel, by decide +kernel⟩,
    ⟨onBus [], .adpPcie, 8, List.replicate 20 0, by decide +kernel, by decide +kernel, by decide +kernel, by decide +kernel⟩,
    ⟨onBus [], .adpPcie, 8, 1 :: 0x7F :: List.replicate 14 0 ++ le 4 (crc32c (1 :: 0x7F :: List.replicate 14 0)), by decide +kernel,
      by decide +kernel, by decide +kernel⟩⟩

theorem test_meets_RequestsAreAnswered :
    (∃ (s x : State) (h : AdpHead), s.TakesRequest h ∧ x = s.counted h.path) ∧
    (∃ (s x : State) (h : AdpHead), s.TakesRequest h ∧ x = s.counted h.path ∧ (entryOf (headKey h)).isSome = true ∧ x.romService =
      false) ∧
    (∃ (s x : State) (h : AdpHead) (v : Word) (k : Nat) (e : Entry), s.TakesRequest h ∧ x = s.taking h.path k ∧ k = headKey h ∧
      s.Takes h.path k v false ∧ entryOf k = some e ∧ e.cls = .i ∧ ownBody h.path (headEid h) (headRank h) k v = none ∧ (chanOf
      k).isSome = false ∧ k ≠ key 0x2800 3 ∧ k ≠ key 0x2800 4 ∧ x.ruleOf k (e.rng.keepBits v).toNat = none ∧ x.lostApplies k
      (e.rng.keepBits v) = false) ∧
    (∃ (s x t : State) (h : AdpHead) (items : List GroupItem), s.TakesRequest h ∧ x = s.counted h.path ∧ x.runItems
      { path := h.path, eid := headEid h, rank := headRank h, drain := h.path == .steward || headFlag h 0, quiet := false } items =
      (t, none)) ∧
    (∃ (s : State) (path : Path) (msg : Fin 8) (tag : BitVec 16) (rank : Rank) (w : AdpWait), s.expired (.adpWaitTimeout path msg
      tag rank) = true ∧ s.adp.find? (fun w => w.timeout == .adpWaitTimeout path msg tag rank) = some w) :=
  ⟨⟨onBus [], _, head 0x1000 1, ⟨by decide +kernel, by decide +kernel, by decide +kernel⟩, rfl⟩,
    ⟨onBus [], _, head 0x1000 1, ⟨by decide +kernel, by decide +kernel, by decide +kernel⟩, rfl, by decide +kernel,
      by decide +kernel⟩,
    ⟨onBus [], _, head 0x2002 1, 0, _, { ty := .u64, acc := .rw, rng := .zero }, ⟨by decide +kernel, by decide +kernel,
      by decide +kernel⟩, rfl, rfl, ⟨by decide +kernel, by decide +kernel⟩, by decide +kernel, by decide +kernel, by decide +kernel,
      by decide +kernel, by decide +kernel, by decide +kernel, by decide +kernel, by decide +kernel⟩,
    ⟨onBus [], _, (((onBus []).counted .adpPcie).runItems groupWay [{ index := 0x2002, sub := 1, value := 0 }]).1, head 0 0,
      [{ index := 0x2002, sub := 1, value := 0 }], ⟨by decide +kernel, by decide +kernel, by decide +kernel⟩, rfl, Prod.ext rfl
      (by decide +kernel)⟩,
    ⟨timed (.adpWaitTimeout .adpPcie 0 0 0) { ready [] with adp := [waits] }, .adpPcie, 0, 0, 0, waits, by decide +kernel,
      by decide +kernel⟩⟩

theorem test_meets_SegmentedTransfersMove :
    (∃ (s x u : State) (h : AdpHead) (c : ChanNo), s.TakesRequest h ∧ x = s.counted h.path ∧ x.openRefused (headKey h) true = none ∧
      x.freeChannel = some c ∧ u = x.openChan c h.path (headEid h) (headRank h) (headKey h) true 0) ∧
    (∃ (s x : State) (h : AdpHead) (_total : BitVec 32) (c : ChanNo), s.TakesRequest h ∧ x = s.counted h.path ∧ x.openRefused
      (headKey h) false = none ∧ x.freeChannel = some c) ∧
    (∃ (s x : State) (h : AdpHead) (off : BitVec 32) (_n : BitVec 16) (c : ChanNo) (y : Chan), s.TakesRequest h ∧ x = s.counted
      h.path ∧ x.segmentBusy h true = false ∧ x.transferOf h true = some (c, y) ∧ y.live = false ∧ off.toNat < y.total) ∧
    (∃ (s x u : State) (h : AdpHead) (off : BitVec 32) (b : Bytes) (c : ChanNo) (y : Chan), s.TakesRequest h ∧ x = s.counted h.path
      ∧ x.segmentBusy h false = false ∧ x.transferOf h false = some (c, y) ∧ u = x.segmentOp c ∧ y.entry ≠ imageKey ∧ off.toNat =
      y.got.length ∧ off.toNat + b.length ≤ u.totalOf c y) ∧
    (∃ (s x u t : State) (h : AdpHead) (c : ChanNo) (y : Chan) (e : Entry), s.TakesRequest h ∧ x = s.counted h.path ∧ x.segmentBusy
      h false = false ∧ x.transferOf h false = some (c, y) ∧ y.upload = false ∧ y.entry = headKey h ∧ y.entry ≠ imageKey ∧
      (x.segmentOp c).totalOf c y = y.got.length ∧ u = (x.segmentOp c).freeChan c 0 ∧ entryOf y.entry = some e ∧ u.writeCheck
      y.entry 0 true = none ∧ contentWrite e y.entry y.got u = (t, .done)) ∧
    (∃ (s x : State) (h : AdpHead) (n : Byte) (c : ChanNo) (y : Chan), s.TakesRequest h ∧ x = s.counted h.path ∧ x.dutyRuns 0 = true
      ∧ n.toNat = c.val ∧ x.chan c = some y ∧ y.path = h.path) :=
  ⟨⟨onBus [], _, _, head 0x1303 1, 0, ⟨by decide +kernel, by decide +kernel, by decide +kernel⟩, rfl, by decide +kernel,
    by decide +kernel, rfl⟩,
    ⟨onBus [], _, head 0x1303 1, 72, 0, ⟨by decide +kernel, by decide +kernel, by decide +kernel⟩, rfl, by decide +kernel,
      by decide +kernel⟩,
    ⟨holding { transfer with upload := true, total := 4, snapshot := [1, 2, 3, 4] } [], _, head 0x1303 1, 3, 1, 0,
      { transfer with upload := true, total := 4, snapshot := [1, 2, 3, 4] }, ⟨by decide +kernel, by decide +kernel,
      by decide +kernel⟩, rfl, by decide +kernel, by decide +kernel, by decide +kernel, by decide +kernel⟩,
    ⟨holding transfer [], _, _, head 0x1303 1, 0, List.replicate 72 0, 0, transfer, ⟨by decide +kernel, by decide +kernel,
      by decide +kernel⟩, rfl, by decide +kernel, by decide +kernel, rfl, by decide +kernel, by decide +kernel, by decide +kernel⟩,
    ⟨holding { transfer with got := List.replicate 72 0 } [], _, _, _, head 0x1303 1, 0,
      { transfer with got := List.replicate 72 0 }, maskEntry, ⟨by decide +kernel, by decide +kernel, by decide +kernel⟩, rfl,
      by decide +kernel, by decide +kernel, by decide +kernel, by decide +kernel, by decide +kernel, by decide +kernel, rfl,
      by decide +kernel, by decide +kernel, ends (by decide +kernel)⟩,
    ⟨holding transfer [], _, head 0x1303 1, 0, 0, transfer, ⟨by decide +kernel, by decide +kernel, by decide +kernel⟩, rfl,
      by decide +kernel, by decide +kernel, by decide +kernel, by decide +kernel⟩⟩

theorem test_meets_ChannelCommandsMoveContents :
    (∃ (s x : State) (c : ChanNo) (v : Word) (k : Nat), x = s.taking .window (chanKey c 1) ∧ s.Takes .window (chanKey c 1) v false ∧
      k = key (bits v.toNat 31 16) (bits v.toNat 15 8) ∧ x.chan c = none ∧ (bits v.toNat 1 0 = 1 ∨ bits v.toNat 1 0 = 2) ∧
      x.openRefused k (bits v.toNat 1 0 == 1) = none) ∧
    (∃ (s x u : State) (c : ChanNo) (y : Chan), x = s.taking .window (chanKey c 5) ∧ s.Takes .window (chanKey c 5) 1 false ∧ x.chan
      c = some y ∧ y.path = .window ∧ y.upload = true ∧ y.live = false ∧ u = x.segmentOp c ∧ u.nat (chanKey c 4) < y.total) ∧
    (∃ (s x u : State) (c : ChanNo) (y : Chan), x = s.taking .window (chanKey c 5) ∧ s.Takes .window (chanKey c 5) 2 false ∧ x.chan
      c = some y ∧ y.path = .window ∧ y.upload = false ∧ u = x.segmentOp c ∧ y.entry ≠ imageKey ∧ u.nat (chanKey c 4) = y.got.length
      ∧ u.nat (chanKey c 4) + ((u.area c).take (u.nat (chanKey c 6))).length ≤ u.totalOf c y) ∧
    (∃ (s x u t : State) (c : ChanNo) (y : Chan) (e : Entry), x = s.taking .window (chanKey c 5) ∧ s.Takes .window (chanKey c 5) 3
      false ∧ x.chan c = some y ∧ y.path = .window ∧ y.upload = false ∧ y.entry ≠ imageKey ∧ (x.segmentOp c).totalOf c y =
      y.got.length ∧ u = (x.segmentOp c).freeChan c 0 ∧ entryOf y.entry = some e ∧ u.writeCheck y.entry 0 true = none ∧ contentWrite
      e y.entry y.got u = (t, .done)) ∧
    (∃ (s x : State) (c : ChanNo) (y : Chan), x = s.taking .window (chanKey c 5) ∧ s.Takes .window (chanKey c 5) 4 false ∧ x.chan c
      = some y ∧ y.path = .window) ∧
    (∃ (s : State) (c : ChanNo) (y : Chan), s.expired (.channelIdleTimeout c) = true ∧ s.chan c = some y) ∧
    (∃ (s : State) (w : Drain), s.expired .drainTimeout = true ∧ s.drain = some w) :=
  ⟨⟨ready [], _, 0, 0x13030101, _, rfl, ⟨by decide +kernel, by decide +kernel⟩, rfl, by decide +kernel, by decide +kernel,
    by decide +kernel⟩,
    ⟨opened { transfer with path := .window, eid := 0xFF, upload := true, total := 4, snapshot := [1, 2, 3, 4] } [], _, _, 0,
      { transfer with path := .window, eid := 0xFF, upload := true, total := 4, snapshot := [1, 2, 3, 4] }, rfl, ⟨by decide +kernel,
      by decide +kernel⟩, by decide +kernel, by decide +kernel, by decide +kernel, by decide +kernel, rfl, by decide +kernel⟩,
    ⟨opened windowTransfer [(chanKey 0 6, 72)], _, _, 0, windowTransfer, rfl, ⟨by decide +kernel, by decide +kernel⟩,
      by decide +kernel, by decide +kernel, by decide +kernel, rfl, by decide +kernel, by decide +kernel, by decide +kernel⟩,
    ⟨opened { windowTransfer with got := List.replicate 72 0 } [], _, _, _, 0, { windowTransfer with got := List.replicate 72 0 },
      maskEntry, rfl, ⟨by decide +kernel, by decide +kernel⟩, by decide +kernel, by decide +kernel, by decide +kernel,
      by decide +kernel, by decide +kernel, rfl, by decide +kernel, by decide +kernel, ends (by decide +kernel)⟩,
    ⟨opened windowTransfer [], _, 0, windowTransfer, rfl, ⟨by decide +kernel, by decide +kernel⟩, by decide +kernel,
      by decide +kernel⟩,
    ⟨timed (.channelIdleTimeout 0) (opened windowTransfer []), 0, windowTransfer, by decide +kernel, by decide +kernel⟩,
    ⟨timed .drainTimeout { ready [] with drain := some { items := [(key 0x1200 2, 1)], path := .window, domains := [0] } },
      { items := [(key 0x1200 2, 1)], path := .window, domains := [0] }, by decide +kernel, by decide +kernel⟩⟩

theorem test_meets_I3cBusCommandsAct :
    (∃ s : State, ∃ _a : BitVec 7, s.alive = true ∧ s.get (key 0x1000 0xC) = 0) ∧
    (∃ s : State, ∃ _a : BitVec 7, s.alive = true ∧ s.get (key 0x1000 0xC) ≠ 0) ∧
    (∃ s : State, s.alive = true) ∧
    (∃ s : State, ∃ _n : BitVec 16, s.alive = true) ∧
    (∃ s : State, s.alive = true ∧ s.get (key 0x1000 0xC) ≠ 0) :=
  ⟨⟨ready [], 0x22, by decide +kernel, by decide +kernel⟩,
    ⟨ready [(key 0x1000 0xC, 0x11)], 0x22, by decide +kernel, by decide +kernel⟩,
    ⟨ready [], by decide +kernel⟩,
    ⟨ready [], 69, by decide +kernel⟩,
    ⟨ready [(key 0x1000 0xC, 0x11)], by decide +kernel, by decide +kernel⟩⟩

theorem test_meets_MctpControlRequestsAreAnswered :
    (∃ s : State, ∃ e : Byte, s.controlServed .pcie = true ∧ e ≠ 0 ∧ e ≠ 0xFF) ∧
    (∃ s : State, ∃ e : Byte, s.controlServed .pcie = true ∧ (e = 0 ∨ e = 0xFF)) ∧
    (∃ s : State, s.controlServed .pcie = true) ∧
    (∃ s : State, ∃ _y : Byte, s.controlServed .pcie = true) ∧
    (∃ s : State, ∃ _n : Byte, s.controlServed .pcie = true) ∧
    (∃ s : State, ∃ e : Byte, s.controlServed .i3c = true ∧ s.i3cServes = true ∧ e ≠ 0 ∧ e ≠ 0xFF) ∧
    (∃ s : State, s.controlServed .i3c = true ∧ s.i3cServes = true) :=
  ⟨⟨ready [], 1, by decide +kernel, by decide +kernel, by decide +kernel⟩,
    ⟨ready [], 0xFF, by decide +kernel, by decide +kernel⟩,
    ⟨ready [], by decide +kernel⟩,
    ⟨ready [], 0xFF, by decide +kernel⟩,
    ⟨ready [], 0, by decide +kernel⟩,
    ⟨longReads, 0xFE, by decide +kernel, by decide +kernel, by decide +kernel, by decide +kernel⟩,
    ⟨longReads, by decide +kernel, by decide +kernel⟩⟩

theorem test_meets_InterruptCommandsSendWhatWaits :
    (∃ (s : State) (a : Bool) (i : Ibi) (q : List Ibi), s.err.ibiEnabled = true ∧ s.err.ibiQueue = i :: q ∧ (s.err.ibiOut = none ∨ a
      = true)) ∧
    (∃ (s : State) (a : Bool), s.err.ibiEnabled = true ∧ s.err.ibiQueue = [] ∧ (s.err.ibiOut = none ∨ a = true)) ∧
    (∃ (s : State) (i : Ibi) (n : Nat), s.err.ibiEnabled = true ∧ s.err.ibiOut = some (i, n)) :=
  ⟨⟨{ State.reset with err := { State.reset.err with ibiEnabled := true, ibiQueue := [ibi] } }, false, ibi, [], by decide +kernel,
    by decide +kernel, by decide +kernel⟩,
    ⟨{ State.reset with err := { State.reset.err with ibiEnabled := true, ibiOut := some (ibi, 8) } }, true, by decide +kernel,
      by decide +kernel, by decide +kernel⟩,
    ⟨{ State.reset with err := { State.reset.err with ibiEnabled := true, ibiOut := some (ibi, 8) } }, ibi, 8, by decide +kernel,
      by decide +kernel⟩⟩

theorem test_meets_ErrorRegisterWritesTakeEffect :
    (∃ (s : State) (path : Path) (src : Byte) (w : Fin 66) (v : Word), w.val < wordsOf src.toNat ∧ s.Takes path (srcKey src.toNat
      (0x20 + w.val)) v false) ∧
    (∃ (s : State) (path : Path) (src : Byte) (w : Fin 66) (v : Word) (x : SourceInfo), w.val < wordsOf src.toNat ∧ sourceInfo
      src.toNat = some x ∧ (x.cls = .f → v &&& instanceBits src.toNat w = 0) ∧ s.Takes path (srcKey src.toNat (0x62 + w.val)) v
      false) ∧
    (∃ (s : State) (path : Path) (src : Byte) (w : Fin 66) (v : Word), s.Takes path (srcKey src.toNat (0xA4 + w.val)) v false ∧
      (s.taking path (srcKey src.toNat (0xA4 + w.val))).forceRefused src.toNat w v = none) ∧
    (∃ (s : State) (path : Path), s.Takes path (key 0x2400 5) 1 false ∧ s.faulted = false) :=
  ⟨⟨ready [], .window, 0x10, 0, 15, by decide +kernel, ⟨by decide +kernel, by decide +kernel⟩⟩,
    ⟨ready [], .window, 0x10, 0, 15, { scope := .pc, cls := .u }, by decide +kernel, by decide +kernel, by decide +kernel,
      ⟨by decide +kernel, by decide +kernel⟩⟩,
    ⟨ready [], .window, 0x10, 0, 15, ⟨by decide +kernel, by decide +kernel⟩, by decide +kernel⟩,
    ⟨ready [], .window, ⟨by decide +kernel, by decide +kernel⟩, by decide +kernel⟩⟩

theorem test_meets_ErrorHandlingProceeds :
    (∃ (s : State) (c : Capture) (q : List Capture), s.err.handling = none ∧ s.dutyRuns 0 = true ∧ s.err.queue = c :: q) ∧
    (∃ (s : State) (_bad : List Nat) (c : Capture), s.dutyRuns 0 = true ∧ s.err.lateRecords = [] ∧ s.err.handling = some c) ∧
    (∃ (s : State) (_bad : List Nat) (c : Capture) (l : List Capture), s.dutyRuns 0 = true ∧ s.err.lateRecords = c :: l) ∧
    (∃ (s : State) (c : Capture), s.expired .handlingTimeout = true ∧ s.err.handling = some c) ∧
    (∃ s : State, s.expired .errPulseEnd = true) :=
  ⟨⟨{ ready [] with err := { State.reset.err with queue := [capture] } }, capture, [], by decide +kernel, by decide +kernel,
    by decide +kernel⟩,
    ⟨{ ready [] with err := { State.reset.err with handling := some capture } }, [], capture, by decide +kernel, by decide +kernel,
      by decide +kernel⟩,
    ⟨{ ready [] with err := { State.reset.err with lateRecords := [capture] } }, [], capture, [], by decide +kernel,
      by decide +kernel⟩,
    ⟨timed .handlingTimeout { ready [] with err := { State.reset.err with handling := some capture } }, capture, by decide +kernel,
      by decide +kernel⟩,
    ⟨timed .errPulseEnd (ready []), by decide +kernel⟩⟩

theorem test_meets_PowerCommandsSwitchTheChip :
    (∃ s : State, s.powered = false) ∧
    (∃ (s : State) (_ref : Bool), s.powered = true ∧ s.porst = false ∧ s.brownOut = false) ∧
    (∃ (s : State) (_ref : Bool), s.powered = true ∧ s.porst = false ∧ s.brownOut = true) ∧
    (∃ (s : State) (ns : Nat), s.powered = true ∧ s.porst = true ∧ 10000 ≤ ns) ∧
    (∃ (s : State) (_torn : Bool), s.powered = true) ∧
    (∃ s : State, s.powered = true ∧ s.brownOut = false) ∧
    (∃ s : State, s.brownOut = true ∧ s.porst = true) ∧
    (∃ s : State, s.brownOut = true ∧ s.porst = false) ∧
    (∃ (s : State) (v : BitVec 16) (above : Bool) (ns : Nat), s.alive = true ∧ 1000 ≤ ns ∧ (above = true → 810 < v.toNat) ∧ (above =
      false → 600 ≤ v.toNat ∧ v.toNat < 690)) ∧
    (∃ s : State, s.expired .powerCycleDelay = true ∧ s.get (key 0x2400 3) = 1 ∧ s.frz.on = false) ∧
    (∃ s : State, s.expired .powerCycleDelay = true ∧ s.get (key 0x2400 3) = 1 ∧ s.frz.on = true) ∧
    (∃ (s : State) (path : Path), s.Takes path (key 0x2400 0xA) 1 false ∧ (s.taking path (key 0x2400 0xA)).get (key 0x2400 3) = 1 ∧
      s.frz.on = false) :=
  ⟨⟨off, by decide +kernel⟩,
    ⟨{ State.reset with porst := false }, true, by decide +kernel, by decide +kernel, by decide +kernel⟩,
    ⟨{ State.reset with porst := false, brownOut := true }, false, by decide +kernel, by decide +kernel, by decide +kernel⟩,
    ⟨State.reset, 10000, by decide +kernel, by decide +kernel, by decide +kernel⟩,
    ⟨State.reset, true, by decide +kernel⟩,
    ⟨State.reset, by decide +kernel, by decide +kernel⟩,
    ⟨{ State.reset with brownOut := true }, by decide +kernel, by decide +kernel⟩,
    ⟨{ State.reset with brownOut := true, porst := false }, by decide +kernel, by decide +kernel⟩,
    ⟨State.reset, 811, true, 1000, by decide +kernel, by decide +kernel, by decide +kernel, by decide +kernel⟩,
    ⟨timed .powerCycleDelay (ready [(key 0x2400 3, 1)]), by decide +kernel, by decide +kernel, by decide +kernel⟩,
    ⟨timed .powerCycleDelay { ready [(key 0x2400 3, 1)] with frz := { State.reset.frz with on := true } }, by decide +kernel,
      by decide +kernel, by decide +kernel⟩,
    ⟨ready [(key 0x2400 3, 1)], .window, ⟨by decide +kernel, by decide +kernel⟩, by decide +kernel, by decide +kernel⟩⟩

theorem test_meets_ColdStartBeginsStageOne :
    ∃ (s : State) (_ref : Bool), s.tb.base = 0 ∧ s.tb.holdover = false :=
  ⟨State.reset, true, by decide +kernel, by decide +kernel⟩

theorem test_meets_ProofreaderCoreCommandsAct :
    (∃ (s : State) (pc : PcNo), s.pcRunning pc = true) ∧
    (∃ (s : State) (pc : PcNo), s.expired (.pcSilent pc) = true ∧ s.pcRunning pc = true) ∧
    (∃ (s : State) (pc : PcNo), s.get (pcKey pc) = 1 ∧ s.img.activating = false) :=
  ⟨⟨ready [], 0, by decide +kernel⟩,
    ⟨timed (.pcSilent 0) (ready []), 0, by decide +kernel, by decide +kernel⟩,
    ⟨ready [(pcKey 1, 1)], 1, by decide +kernel, by decide +kernel⟩⟩

theorem test_meets_FirmwareImageCommandsAct :
    (∃ (s : State) (_b : Bytes), s.inStage 2 = true ∧ s.get (key 0x2500 2) = 0 ∧ s.romService = true) ∧
    (∃ s : State, s.inStage 2 = true ∧ s.get (key 0x2500 2) = 1 ∧ s.romService = true) ∧
    (∃ s : State, s.get (key 0x1010 5) = 1 ∧ s.inTransfer (key 0x1010 4) = false) ∧
    (∃ (s x : State) (path : Path), x = s.taking path (key 0x1010 6) ∧ s.Takes path (key 0x1010 6) 1 false ∧ x.get (key 0x1010 5) =
      2 ∧ x.img.activating = false ∧ x.img.waitIdle = false ∧ x.activeDoms = []) ∧
    (∃ (s x : State) (path : Path), x = s.taking path (key 0x1010 6) ∧ s.Takes path (key 0x1010 6) 2 false ∧ x.get (key 0x1010 5) =
      2 ∧ x.img.activating = false ∧ x.img.waitIdle = false ∧ x.activeDoms ≠ []) ∧
    (∃ (s x : State) (path : Path), x = s.taking path (key 0x1010 6) ∧ s.Takes path (key 0x1010 6) 1 false ∧ x.get (key 0x1010 5) =
      2 ∧ x.img.activating = false ∧ x.img.waitIdle = false ∧ x.activeDoms ≠ []) ∧
    (∃ s : State, s.img.activating = true ∧ s.inStage 2 = false ∧ (s.status (key 0x1010 6)).st = .inProgress) :=
  ⟨⟨at_ [(key 0x2500 1, 2)], [], by decide +kernel, by decide +kernel, by decide +kernel⟩,
    ⟨at_ [(key 0x2500 1, 2), (key 0x2500 2, 1)], by decide +kernel, by decide +kernel, by decide +kernel⟩,
    ⟨ready [(key 0x1010 5, 1)], by decide +kernel, by decide +kernel⟩,
    ⟨ready [(key 0x1010 5, 2)], _, .window, rfl, ⟨by decide +kernel, by decide +kernel⟩, by decide +kernel, by decide +kernel,
      by decide +kernel, by decide +kernel⟩,
    ⟨inDom activeDom (ready [(key 0x1010 5, 2)]), _, .window, rfl, ⟨by decide +kernel, by decide +kernel⟩, by decide +kernel,
      by decide +kernel, by decide +kernel, by decide +kernel⟩,
    ⟨inDom activeDom (ready [(key 0x1010 5, 2)]), _, .window, rfl, ⟨by decide +kernel, by decide +kernel⟩, by decide +kernel,
      by decide +kernel, by decide +kernel, by decide +kernel⟩,
    ⟨{ ready [] with img := { State.reset.img with activating := true }, stat := [(key 0x1010 6, { st := .inProgress, path := 0, reason := 0, count := 1 })] },
      by decide +kernel, by decide +kernel, by decide +kernel⟩⟩

theorem test_meets_StartCommandsAct :
    (∃ (s x : State) (path : Path) (d : Dom), x = s.taking path (domKey 0x1210 0x1A d) ∧ s.Takes path (domKey 0x1210 0x1A d) 1 false
      ∧ x.stageNo = 9 ∧ maskCores (x.content (domKey 0x1303 1 d)) ≠ [] ∧ (x.dom d).active = false ∧ x.tagTaken d = false ∧
      x.maskBusy (maskCores (x.content (domKey 0x1303 1 d))) = false) ∧
    (∃ (s x : State) (path : Path) (d : Dom), x = s.taking path (domKey 0x1210 0x1A d) ∧ s.Takes path (domKey 0x1210 0x1A d) 2 false
      ∧ (x.dom d).active = true ∧ (x.dom d).running = true) ∧
    (∃ (s x : State) (path : Path) (d : Dom), x = s.taking path (domKey 0x1210 0x1A d) ∧ s.Takes path (domKey 0x1210 0x1A d) 2 false
      ∧ (x.dom d).active = true ∧ (x.dom d).running = false ∧ x.stepOf d ≤ (x.dom d).base) ∧
    (∃ (s x : State) (path : Path) (t : Word), x = s.taking path (key 0x1220 1) ∧ s.Takes path (key 0x1220 1) t false ∧ x.stageNo =
      9 ∧ x.startMask ≠ [] ∧ x.armOutcomes x.startMask t.toNat = 1 ∧ (∀ d ∈ x.startMask, (x.settingsDiffer d) = (false, x))) ∧
    (∃ (s x : State) (path : Path), x = s.taking path (key 0x1220 9) ∧ s.Takes path (key 0x1220 9) 1 false ∧ x.startMask.filter (fun
      d => decide (x.armOf d ≠ 0)) ≠ []) ∧
    (∃ (s : State) (t : Word), s.expired (.startTimeReached t) = true) ∧
    (∃ (s : State) (d : Dom), s.tb.refusedArms.find? (fun r => r.1 == d) = some (d, false) ∧ s.multi d = false) ∧
    (∃ (s : State) (d : Dom), s.tb.refusedArms.find? (fun r => r.1 == d) = some (d, true) ∧ s.get (key 0x1200 3) = 2 ∧ s.multi d =
      true ∧ s.role = 2) :=
  ⟨⟨{ ready [(coreKey 0 0xA2, 0)] with cont := [(domKey 0x1303 1 0, 1 :: List.replicate 71 0)] }, _, .window, 0, rfl,
    ⟨by decide +kernel, by decide +kernel⟩, by decide +kernel, by decide +kernel, by decide +kernel, by decide +kernel,
    by decide +kernel⟩,
    ⟨inDom { activeDom with running := true } (ready []), _, .window, 0, rfl, ⟨by decide +kernel, by decide +kernel⟩,
      by decide +kernel, by decide +kernel⟩,
    ⟨inDom activeDom (ready []), _, .window, 0, rfl, ⟨by decide +kernel, by decide +kernel⟩, by decide +kernel, by decide +kernel,
      by decide +kernel⟩,
    ⟨startable, _, .window, 320001, rfl, ⟨by decide +kernel, by decide +kernel⟩, by decide +kernel, by decide +kernel,
      by decide +kernel, fun d _ => if_neg (by simp [startable_single d])⟩,
    ⟨ready [(key 0x1220 2, 1), (domKey 0x1220 0xA 0, 1)], _, .window, rfl, ⟨by decide +kernel, by decide +kernel⟩,
      by decide +kernel⟩,
    ⟨timed (.startTimeReached 0) (ready []), 0, by decide +kernel⟩,
    ⟨{ ready [] with tb := { State.reset.tb with refusedArms := [(0, false)] } }, 0, by decide +kernel, by decide +kernel⟩,
    ⟨{ inJob 2 [(key 0x1200 3, 2)] with tb := { State.reset.tb with refusedArms := [(0, true)] } }, 0, by decide +kernel,
      by decide +kernel, by decide +kernel, by decide +kernel⟩⟩

theorem test_meets_StewardLinkAndRecoveryAct :
    (∃ s : State, s.expired .stewardHeartbeatSend = true ∧ s.role = 2) ∧
    (∃ (s : State) (env : Env), s.TakesFrame env 1 ∧ s.get (key 0x2C00 7) = 0) ∧
    (∃ (s : State) (env : Env), s.TakesFrame env 1 ∧ s.get (key 0x2C00 7) ≠ 0) ∧
    (∃ s : State, s.expired .stewardTimeout = true ∧ s.role = 1) ∧
    (∃ (s : State) (d : Dom), s.expired .startReportDeadline = true ∧ s.jobDom = some d) ∧
    (∃ (s : State) (_p : PortNo) (l : List (Dom × Nat)), l.filter (fun x => s.begin.disturbLinks.multi x.1 &&
      (s.begin.disturbLinks.dom x.1).active) = []) ∧
    (∃ (s x : State) (_p : PortNo) (d : Dom) (_n : Nat), x = s.begin.disturbLinks ∧ x.multi d = true ∧ (x.dom d).active = true) ∧
    (∃ (s x : State) (path : Path) (v : Word), x = s.taking path (key 0x2B00 6) ∧ s.Takes path (key 0x2B00 6) v false ∧ x.nat (key
      0x2B00 6) < v.toNat) ∧
    (∃ (s x : State) (path : Path) (v : Word) (d : Dom), x = s.taking path (key 0x1305 3) ∧ s.Takes path (key 0x1305 3) v false ∧
      x.role = 2 ∧ x.jobDom = some d ∧ (x.dom d).active = true) :=
  ⟨⟨timed .stewardHeartbeatSend (inJob 2 []), by decide +kernel, by decide +kernel⟩,
    ⟨inJob 1 [], env, ⟨by decide +kernel, by decide +kernel⟩, by decide +kernel⟩,
    ⟨inJob 1 [(key 0x2C00 7, 1)], env, ⟨by decide +kernel, by decide +kernel⟩, by decide +kernel⟩,
    ⟨timed .stewardTimeout (inJob 1 []), by decide +kernel, by decide +kernel⟩,
    ⟨timed .startReportDeadline (inJob 2 []), 0, by decide +kernel, by decide +kernel⟩,
    ⟨inJob 2 [], 0, [], by decide +kernel⟩,
    ⟨inJob 2 [], _, 0, 0, 0, rfl, by decide +kernel, by decide +kernel⟩,
    ⟨ready [], _, .window, 1, rfl, ⟨by decide +kernel, by decide +kernel⟩, by decide +kernel⟩,
    ⟨inJob 2 [], _, .window, 1, 0, rfl, ⟨by decide +kernel, by decide +kernel⟩, by decide +kernel, by decide +kernel,
      by decide +kernel⟩⟩

theorem test_meets_StewardFramesOfTheJobAct :
    (∃ (s : State) (env : Env) (d : Dom), ∃ (_n : Nat) (_p : Option Nat) (_c : Colophon), s.TakesFor env 2 d) ∧
    (∃ (s : State) (env : Env) (d : Dom), ∃ (_ranks : List (Rank × Nat)) (_many : Option Nat), s.TakesFor env 2 d) ∧
    (∃ (s : State) (env : Env) (d : Dom), s.TakesFor env 2 d) ∧
    (∃ (s : State) (env : Env) (d : Dom), ∃ _k : FailureKind, s.TakesFor env 2 d) ∧
    (∃ (s : State) (env : Env) (d : Dom), ∃ (_k : LCore) (_n _i : Nat), s.TakesFor env 2 d) ∧
    (∃ (s : State) (env : Env) (d : Dom), ∃ (_n : Nat) (_p : PortNo), s.TakesFor env 2 d) ∧
    (∃ (s : State) (env : Env) (d : Dom), ∃ (_n : Nat) (_p : Option Nat), s.TakesFor env 1 d) ∧
    (∃ (s : State) (env : Env) (d : Dom), ∃ _n : Nat, s.TakesFor env 1 d) ∧
    (∃ (s : State) (env : Env) (d : Dom), s.TakesFor env 1 d) ∧
    (∃ (s : State) (env : Env) (d : Dom), ∃ (_k : LCore) (_n : Nat) (_r : Rank) (_i : Nat), s.TakesFor env 1 d) ∧
    (∃ (s : State) (env : Env) (d : Dom), ∃ _n : Nat, s.TakesFor env 1 d ∧ s.lockstep d ≠ 2) ∧
    (∃ (s : State) (env : Env) (d : Dom), ∃ _n : Nat, s.TakesFor env 1 d ∧ s.lockstep d = 2) ∧
    (∃ (s : State) (env : Env) (d : Dom), ∃ (_n : Nat) (_k : LCore), s.TakesFor env 1 d) ∧
    (∃ (s : State) (env : Env) (d : Dom), ∃ (_target : Nat) (_inc : BitVec 4), s.TakesFor env 1 d) :=
  ⟨⟨inJob 2 [], env, 0, 0, none, 0, ⟨⟨by decide +kernel, by decide +kernel⟩, by decide +kernel, by decide +kernel⟩⟩,
    ⟨inJob 2 [], env, 0, [], none, ⟨⟨by decide +kernel, by decide +kernel⟩, by decide +kernel, by decide +kernel⟩⟩,
    ⟨inJob 2 [], env, 0, ⟨⟨by decide +kernel, by decide +kernel⟩, by decide +kernel, by decide +kernel⟩⟩,
    ⟨inJob 2 [], env, 0, .poison, ⟨⟨by decide +kernel, by decide +kernel⟩, by decide +kernel, by decide +kernel⟩⟩,
    ⟨inJob 2 [], env, 0, 0, 0, 0, ⟨⟨by decide +kernel, by decide +kernel⟩, by decide +kernel, by decide +kernel⟩⟩,
    ⟨inJob 2 [], env, 0, 0, 0, ⟨⟨by decide +kernel, by decide +kernel⟩, by decide +kernel, by decide +kernel⟩⟩,
    ⟨inJob 1 [], env, 0, 0, none, ⟨⟨by decide +kernel, by decide +kernel⟩, by decide +kernel, by decide +kernel⟩⟩,
    ⟨inJob 1 [], env, 0, 0, ⟨⟨by decide +kernel, by decide +kernel⟩, by decide +kernel, by decide +kernel⟩⟩,
    ⟨inJob 1 [], env, 0, ⟨⟨by decide +kernel, by decide +kernel⟩, by decide +kernel, by decide +kernel⟩⟩,
    ⟨inJob 1 [], env, 0, 0, 0, 0, 0, ⟨⟨by decide +kernel, by decide +kernel⟩, by decide +kernel, by decide +kernel⟩⟩,
    ⟨inJob 1 [], env, 0, 0, ⟨⟨by decide +kernel, by decide +kernel⟩, by decide +kernel, by decide +kernel⟩, by decide +kernel⟩,
    ⟨inJob 1 [(key 0x2C10 1, 2), (key 0x2C10 3, 0), (key 0x2C10 6, 1)], env, 0, 0, ⟨⟨by decide +kernel, by decide +kernel⟩,
      by decide +kernel, by decide +kernel⟩, by decide +kernel⟩,
    ⟨inJob 1 [], env, 0, 0, 0, ⟨⟨by decide +kernel, by decide +kernel⟩, by decide +kernel, by decide +kernel⟩⟩,
    ⟨inJob 1 [], env, 0, 0, 0, ⟨⟨by decide +kernel, by decide +kernel⟩, by decide +kernel, by decide +kernel⟩⟩⟩

theorem test_meets_StewardFramesOfTheChipAct :
    (∃ (s : State) (env : Env) (_st : Byte) (d : Dom), s.TakesFrame env 2 ∧ s.jobDom = some d ∧ s.job.armT = none) ∧
    (∃ (s : State) (env : Env) (st : Byte) (d : Dom), s.TakesFrame env 2 ∧ s.jobDom = some d ∧ s.job.armT ≠ none ∧ (st = 3 ∨ st =
      4)) ∧
    (∃ (s : State) (env : Env) (st : Byte) (d : Dom), s.TakesFrame env 2 ∧ s.jobDom = some d ∧ s.job.armT ≠ none ∧ st ≠ 3 ∧ st ≠ 4)
      ∧
    (∃ (s : State) (env : Env), s.TakesFrame env 2 ∧ s.jobDom = none) ∧
    (∃ (s : State) (env : Env) (d : Dom), s.TakesFrame env 2 ∧ s.jobDom = some d ∧ s.job.narrow = none) ∧
    (∃ (s : State) (env : Env) (d : Dom), s.TakesFrame env 2 ∧ s.jobDom = some d) ∧
    (∃ (s : State) (env : Env) (_frozen : Bool), s.TakesFrame env 2) ∧
    (∃ (s : State) (env : Env) (_f : NarrowFetch) (n : Narrow), s.TakesFrame env 2 ∧ s.job.narrow = some n ∧ env.src = s.partner) ∧
    (∃ (s : State) (env : Env) (_l : List WorkDigest) (n : Narrow), s.TakesFrame env 2 ∧ s.job.narrow = some n ∧ (n.stage = 3 ∨
      n.stage = 4) ∧ env.src = s.partner) ∧
    (∃ (s : State) (env : Env) (_at_ : Option Word), s.TakesFrame env 2) ∧
    (∃ (s : State) (env : Env), s.TakesFrame env 1) ∧
    (∃ (s : State) (env : Env) (_t : Word), s.TakesFrame env 1) :=
  ⟨⟨inJob 2 [], env, 0, 0, ⟨by decide +kernel, by decide +kernel⟩, by decide +kernel, by decide +kernel⟩,
    ⟨{ inJob 2 [] with job := { State.reset.job with armT := some 0 } }, env, 3, 0, ⟨by decide +kernel, by decide +kernel⟩,
      by decide +kernel, by decide +kernel, by decide +kernel⟩,
    ⟨{ inJob 2 [] with job := { State.reset.job with armT := some 0 } }, env, 0, 0, ⟨by decide +kernel, by decide +kernel⟩,
      by decide +kernel, by decide +kernel, by decide +kernel, by decide +kernel⟩,
    ⟨inDom DomSt.idle (inJob 2 []), env, ⟨by decide +kernel, by decide +kernel⟩, by decide +kernel⟩,
    ⟨inJob 2 [], env, 0, ⟨by decide +kernel, by decide +kernel⟩, by decide +kernel, by decide +kernel⟩,
    ⟨inJob 2 [], env, 0, ⟨by decide +kernel, by decide +kernel⟩, by decide +kernel⟩,
    ⟨inJob 2 [], env, true, ⟨by decide +kernel, by decide +kernel⟩⟩,
    ⟨{ inJob 2 [(key 0x2C10 2, 1)] with job := { State.reset.job with narrow := some narrow } }, env, .cores [], narrow,
      ⟨by decide +kernel, by decide +kernel⟩, by decide +kernel, by decide +kernel⟩,
    ⟨{ inJob 2 [(key 0x2C10 2, 1)] with job := { State.reset.job with narrow := some { narrow with stage := 4 } } }, env, [],
      { narrow with stage := 4 }, ⟨by decide +kernel, by decide +kernel⟩, by decide +kernel, by decide +kernel, by decide +kernel⟩,
    ⟨inJob 2 [], env, none, ⟨by decide +kernel, by decide +kernel⟩⟩,
    ⟨inJob 1 [], env, ⟨by decide +kernel, by decide +kernel⟩⟩,
    ⟨inJob 1 [], env, 0, ⟨by decide +kernel, by decide +kernel⟩⟩⟩

theorem test_meets_GalleyChecksConclude :
    (∃ (s u : State) (w : Work) (_t : Transfer), s.begin.takeResult w 2 = (u, true)) ∧
    (∃ (s u : State) (w : Work) (_t : Transfer), s.begin.takeResult w 2 = (u, false)) ∧
    (∃ (s u : State) (w : Work) (_t : Tile), s.begin.takeResult w 0 = (u, false)) ∧
    (∃ (s u x : State) (w : Work) (t : Tile), s.begin.takeResult w 0 = (u, true) ∧ exactFormat t.fmt = none ∧ x = u.countCheck w 2)
      ∧
    (∃ (s u x : State) (w : Work) (t : Tile) (f : Int × Nat) (l : Int) (wide : Bool), s.begin.takeResult w 0 = (u, true) ∧
      exactFormat t.fmt = some f ∧ tileWindow t f.1 f.2 = (l, wide) ∧ (wide = true → w.origin ≠ .specimen) ∧ x = (if wide then
      (u.countCheck w 2).exceeded w t l else u.countCheck w 1)) ∧
    (∃ (s u x : State) (w : Work) (t : Tile) (f : Int × Nat) (l : Int), s.begin.takeResult w 0 = (u, true) ∧ exactFormat t.fmt =
      some f ∧ tileWindow t f.1 f.2 = (l, true) ∧ w.origin = .specimen ∧ x = u.bump (engKey w.core w.engine 1)) ∧
    (∃ (s u : State) (w : Work) (op : IntOp) (_a _b _c _result _lo _hi : Int) (_wrapped : Bool), op ≠ .shiftRight ∧ op ≠ .shiftLeft
      ∧ s.begin.takeResult w 1 = (u, true)) ∧
    (∃ (s u : State) (w : Work) (_a _b : List Word) (_x _y : Sys2Proof.Num), s.begin.takeResult w 1 = (u, true)) ∧
    (∃ (s u : State) (w : Work) (v : VecOp), vecEnds v = true ∧ s.begin.takeResult w (vecSwitch v) = (u, true)) ∧
    (∃ (s u : State) (w : Work) (v : VecOp), vecEnds v = true ∧ s.begin.takeResult w (vecSwitch v) = (u, false)) ∧
    (∃ (s u : State) (w : Work) (row block n : Nat) (mx : Option Dy) (a b c : Dy), u = s.begin.addEdges w.core w.edges ∧ u.dormant
      w.core = false ∧ (u.checksOf w.origin).getLsbD (vecSwitch (.attnBlock row block mx n a b c)) = true) ∧
    (∃ (s u : State) (w : Work) (row block : Nat) (a b : Dy) (alpha : BitVec 32) (ok : Bool), u = s.begin.addEdges w.core w.edges ∧
      u.dormant w.core = false ∧ (u.checksOf w.origin).getLsbD 3 = true ∧ (u.row w row).bad = false ∧ ok = (decide (block ∉ (u.row w
      row).records) && alphaOk alpha (Config.checkerExp (a.sub b)) (u.coefOf w.origin 5))) ∧
    (∃ (s : State) (w : Work), s.expired (.checkTimeout w) = true) ∧
    (∃ s : State, s.expired .suspectSweep = true) :=
  ⟨⟨ready [], _, work .specimen, copied, with_snd (by decide +kernel)⟩,
    ⟨ready [(coreKey 0 0xA1, 2)], _, work .specimen, copied, with_snd (by decide +kernel)⟩,
    ⟨ready [(coreKey 0 0xA1, 2)], _, work .specimen, tile, with_snd (by decide +kernel)⟩,
    ⟨ready [], _, _, work .specimen, tile, with_snd (by decide +kernel), by decide +kernel, rfl⟩,
    ⟨ready [], _, _, work .specimen, exactTile, (-2, 8), _, false, with_snd (by decide +kernel), by decide +kernel, with_snd
      (by decide +kernel), by decide +kernel, rfl⟩,
    ⟨ready [], _, _, work .specimen, wideTile, (-2, 8), _, with_snd (by decide +kernel), by decide +kernel, with_snd
      (by decide +kernel), by decide +kernel, rfl⟩,
    ⟨ready [], _, work .specimen, .add, 0, 0, 0, 0, 0, 0, false, by decide +kernel, by decide +kernel, with_snd
      (by decide +kernel)⟩,
    ⟨ready [], _, work .specimen, [], [], none, none, with_snd (by decide +kernel)⟩,
    ⟨ready [], _, work .specimen, .elementwise, by decide +kernel, with_snd (by decide +kernel)⟩,
    ⟨ready [(coreKey 0 0xA1, 2)], _, work .specimen, .elementwise, by decide +kernel, with_snd (by decide +kernel)⟩,
    ⟨ready [], _, work .specimen, 0, 0, 1, none, Dy.zero, Dy.zero, Dy.zero, rfl, by decide +kernel, by decide +kernel⟩,
    ⟨ready [], _, work .specimen, 0, 0, Dy.zero, Dy.zero, 0, _, rfl, by decide +kernel, by decide +kernel, by decide +kernel, rfl⟩,
    ⟨timed (.checkTimeout (work .specimen)) (ready []), work .specimen, by decide +kernel⟩,
    ⟨timed .suspectSweep (ready []), by decide +kernel⟩⟩

theorem test_meets_ProbeEventsAndBoundariesAct :
    (∃ (s : State) (c : PCore) (_unit : Fin 8) (_n : Nat) (_ev : ProbeEv), s.fp c ≠ 4) ∧
    (∃ (s : State) (c : PCore) (_unit : Fin 8) (_n : Nat) (_ev : ProbeEv), s.fp c = 4) ∧
    (∃ (x : State) (_c : PCore) (_unit : Fin 8) (w : Work) (d : Dom) (n : Nat), w.origin = .step d n ∧ x.classOn w = true) ∧
    (∃ (x : State) (_c : PCore) (_unit : Fin 8) (w : Work), x.classOn w = true ∧ x.fp w.core ∉ ([2, 3, 4, 5] : List Nat)) ∧
    (∃ (_x : State) (_c : PCore) (unit : Fin 8) (_b _i : Nat) (_l : List Nat), unit.val < 7) ∧
    (∃ (_s : State) (_c : PCore) (_edge : Word) (reason : BitVec 16), reason ≠ 1) ∧
    (∃ (s y : State) (d : Dom) (_n : Nat) (_b : BitVec 13), y = s.begin.arriveAll d ∧ (s.dom d).active = true ∧ (s.dom d).running =
      true ∧ (s.dom d).held = none) ∧
    (∃ (s y : State) (d : Dom) (_n : Nat) (_b : BitVec 13), y = s.begin.arriveAll d ∧ (s.dom d).active = true ∧ (s.dom d).running =
      true ∧ (s.dom d).held = none ∧ (s.dom d).suspended = false ∧ s.doms.length = 8 ∧ s.stepOf d ≠ 2 ^ 48 - 1 ∧ y.barrierHolds d =
      (false, false, false, false) ∧ y.tooDeep d = false) ∧
    (∃ (s y : State) (d : Dom) (_n : Nat) (_b : BitVec 13), y = s.begin.arriveAll d ∧ (s.dom d).active = true ∧ (s.dom d).running =
      true ∧ (s.dom d).held = none ∧ (s.dom d).suspended = false ∧ s.doms.length = 8 ∧ s.stepOf d ≠ 2 ^ 48 - 1 ∧ y.barrierHolds d ≠
      (false, false, false, false)) ∧
    (∃ (s y : State) (d : Dom) (_n : Nat) (_b : BitVec 13), y = s.begin.arriveAll d ∧ (s.dom d).active = true ∧ (s.dom d).running =
      true ∧ (s.dom d).held = none ∧ (s.dom d).suspended = false ∧ s.doms.length = 8 ∧ s.stepOf d = 2 ^ 48 - 1) ∧
    (∃ (s y : State) (d : Dom) (_n : Nat) (_b : BitVec 13), y = s.begin.arriveAll d ∧ ((s.dom d).active = false ∨ (s.dom d).running
      = false ∨ (s.dom d).held ≠ none)) :=
  ⟨⟨ready [], 0, 0, 0, .drained, by decide +kernel⟩,
    ⟨ready [(coreKey 0 0xA1, 4)], 0, 0, 0, .drained, by decide +kernel⟩,
    ⟨inDom { activeDom with steps := [stepRec] } (ready []), 0, 0, work (.step 0 0), 0, 0, by decide +kernel, by decide +kernel⟩,
    ⟨ready [], 0, 0, work .specimen, by decide +kernel, by decide +kernel⟩,
    ⟨ready [], 0, 0, 0, 0, [], by decide +kernel⟩,
    ⟨ready [], 0, 0, 0, by decide +kernel⟩,
    ⟨inDom { activeDom with running := true } (ready []), _, 0, 0, 0, rfl, by decide +kernel, by decide +kernel, by decide +kernel⟩,
    ⟨inDom { activeDom with running := true } (ready []), _, 0, 0, 0, rfl, by decide +kernel, by decide +kernel, by decide +kernel,
      by decide +kernel, by decide +kernel, by decide +kernel, by decide +kernel, by decide +kernel⟩,
    ⟨inDom { activeDom with running := true, jobHeld := some 0 } (ready []), _, 0, 0, 0, rfl, by decide +kernel, by decide +kernel,
      by decide +kernel, by decide +kernel, by decide +kernel, by decide +kernel, by decide +kernel⟩,
    ⟨inDom { activeDom with running := true } (ready [(domKey 0x1210 1 0, 2 ^ 48 - 1)]), _, 0, 0, 0, rfl, by decide +kernel,
      by decide +kernel, by decide +kernel, by decide +kernel, by decide +kernel, by decide +kernel⟩,
    ⟨ready [], _, 0, 0, 0, rfl, by decide +kernel⟩⟩

theorem test_meets_ProofCommandsDecide :
    (∃ (s u : State) (d : Dom) (k : LCore) (n : Nat) (r : Option Rank) (_c : Colophon) (_m : Nat) (p : Proof) (x : CoreRec),
      s.awaitedProof d k n r = some p ∧ p.served = none ∧ u = (s.begin.served p.core).dwellUnit p.core ∧ u.coreRec? d n k = some x)
      ∧
    (∃ (s : State) (d : Dom) (k : LCore) (n : Nat) (q : Rank) (_c : Colophon) (_m : Nat) (p : Proof), s.awaitedProof d k n (some q)
      = some p ∧ p.served = some q) ∧
    (∃ (s : State) (d : Dom) (k : LCore) (n : Nat) (r : Option Rank) (p : Proof), s.awaitedProof d k n r = some p ∧ p.served = none)
      ∧
    (∃ (s : State) (d : Dom) (k : LCore) (n i : Nat), s.expired (.proofTimeout d k (n, i)) = true) ∧
    (∃ (s : State) (d : Dom) (k : LCore) (n : Nat) (p : Proof), s.openRevise d k n = some p) ∧
    (∃ (s u : State) (d : Dom) (k : LCore) (n : Nat) (p : Proof) (_r : Colophon × Nat), s.openRevise d k n = some p ∧ u =
      (s.begin.served p.rcore).resultWins p true) ∧
    (∃ (s : State) (d : Dom) (k : LCore) (n : Nat) (r : Option Rank) (_c : Colophon) (_m : Nat), s.awaitedProof d k n r = none) ∧
    (∃ (s : State) (d : Dom) (k : LCore) (n : Nat) (_r : Option (Colophon × Nat)), s.openRevise d k n = none) :=
  ⟨⟨{ inDom { activeDom with steps := [stepRec] } (ready []) with proofs := [proof] }, _, 0, 0, 0, none, 0, 0, proof, coreRec,
    by decide +kernel, by decide +kernel, rfl, by decide +kernel⟩,
    ⟨{ inDom { activeDom with steps := [stepRec] } (ready []) with proofs := [{ proof with served := some 1 }] }, 0, 0, 0, 1, 0, 0,
      { proof with served := some 1 }, by decide +kernel, by decide +kernel⟩,
    ⟨{ inDom { activeDom with steps := [stepRec] } (ready []) with proofs := [proof] }, 0, 0, 0, none, proof, by decide +kernel,
      by decide +kernel⟩,
    ⟨timed (.proofTimeout 0 0 (0, 0)) { inDom { activeDom with steps := [stepRec] } (ready []) with proofs := [proof] }, 0, 0, 0, 0,
      by decide +kernel⟩,
    ⟨{ inDom { activeDom with steps := [stepRec] } (ready []) with proofs := [revised] }, 0, 0, 0, revised, by decide +kernel⟩,
    ⟨{ inDom { activeDom with steps := [stepRec] } (ready []) with proofs := [revised] }, _, 0, 0, 0, revised, (1, 1),
      by decide +kernel, rfl⟩,
    ⟨ready [], 0, 0, 0, none, 0, 0, by decide +kernel⟩,
    ⟨ready [], 0, 0, 0, none, by decide +kernel⟩⟩

theorem test_meets_LedgerAndKvCommandsAct :
    (∃ (s x : State) (d : Dom), (s.dom d).walk = true ∧ x = s.begin.upDom d (fun y => { y with walk := false })) ∧
    (∃ (s x : State) (d : Dom), (s.dom d).walk = true ∧ x = s.begin.upDom d (fun y => { y with walk := false }) ∧ s.doms.length = 8)
      ∧
    (∃ (s x : State) (d : Dom), (s.dom d).walk = true ∧ x = s.begin.upDom d (fun y => { y with walk := false }) ∧ s.doms.length = 8
      ∧ (s.dom d).sparings ≠ []) ∧
    (∃ (s x : State) (d : Dom), (s.dom d).walk = true ∧ x = s.begin.upDom d (fun y => { y with walk := false }) ∧ s.doms.length = 8
      ∧ (s.dom d).sparings = [] ∧ (s.dom d).poison ≠ none) ∧
    (∃ (s x : State) (d : Dom), (s.dom d).walk = true ∧ x = s.begin.upDom d (fun y => { y with walk := false }) ∧ s.doms.length = 8
      ∧ (s.dom d).sparings = [] ∧ (s.dom d).poison = none ∧ s.faulted = false ∧ (s.dom d).active = true ∧ s.armOutcome (some d)
      (s.leadTime d) = 1 ∧ s.leadTime d < 2 ^ 64) ∧
    (∃ (s : State) (d : Dom) (_k : LCore) (n : Nat) (page : Word) (pos _count : Nat), (s.dom d).active = true ∧ (s.dom d).step? n ≠
      none ∧ ((s.dom d).page page).committedLen ≤ pos) ∧
    (∃ (s : State) (d : Dom) (_k : LCore) (n : Nat) (page : Word) (pos _count : Nat), (s.dom d).active = true ∧ (s.dom d).step? n ≠
      none ∧ pos < ((s.dom d).page page).committedLen) ∧
    (∃ (s : State) (d : Dom) (_k : LCore) (n : Nat) (_page : Word), (s.dom d).active = true ∧ (s.dom d).step? n ≠ none) ∧
    (∃ (s : State) (d : Dom) (_c : PCore) (page : Word) (_data : Bytes) (_n : Nat) (_m : Bool), (s.dom d).active = true ∧ (s.dom
      d).pages.any (fun g => g.page == page) = true) ∧
    (∃ (s : State) (d : Dom) (_c : PCore) (page : Word) (_data : Bytes) (_n : Nat), (s.dom d).active = true ∧ (s.dom d).pages.any
      (fun g => g.page == page) = false) ∧
    (∃ (s x : State) (d : Dom) (c : PCore) (off : BitVec 30) (page : Word) (units n a : Nat) (data tag : Bytes), a = (match
      s.kv.find? (fun k => k.d == d && k.core == c && k.offset == off && k.page == page) with | some k => k.attempts | none => 0) ∧
      x = { s with out := [], kv := s.kv.filter (fun k => !(k.d == d && k.core == c && k.offset == off && k.page == page)) } ∧
      kvCheck data tag page (s.jobId d) units n = 0) ∧
    (∃ (s x : State) (d : Dom) (c : PCore) (off : BitVec 30) (page : Word) (units n a : Nat) (data tag : Bytes), a = (match
      s.kv.find? (fun k => k.d == d && k.core == c && k.offset == off && k.page == page) with | some k => k.attempts | none => 0) ∧
      x = { s with out := [], kv := s.kv.filter (fun k => !(k.d == d && k.core == c && k.offset == off && k.page == page)) } ∧
      kvCheck data tag page (s.jobId d) units n ≠ 0 ∧ a + 1 ≤ s.natFor d (key 0x2300 6)) ∧
    (∃ (s x : State) (d : Dom) (c : PCore) (off : BitVec 30) (page : Word) (units n a : Nat) (data tag : Bytes), a = (match
      s.kv.find? (fun k => k.d == d && k.core == c && k.offset == off && k.page == page) with | some k => k.attempts | none => 0) ∧
      x = { s with out := [], kv := s.kv.filter (fun k => !(k.d == d && k.core == c && k.offset == off && k.page == page)) } ∧
      kvCheck data tag page (s.jobId d) units n ≠ 0 ∧ s.natFor d (key 0x2300 6) < a + 1) :=
  ⟨⟨inDom { DomSt.idle with walk := true } (ready []), _, 0, by decide +kernel, rfl⟩,
    ⟨inDom { DomSt.idle with walk := true } (ready []), _, 0, by decide +kernel, rfl, by decide +kernel⟩,
    ⟨inDom { DomSt.idle with walk := true, sparings := [sparing] } (ready []), _, 0, by decide +kernel, rfl, by decide +kernel,
      by decide +kernel⟩,
    ⟨inDom { DomSt.idle with walk := true, poison := some 0 } (ready []), _, 0, by decide +kernel, rfl, by decide +kernel,
      by decide +kernel, by decide +kernel⟩,
    ⟨inDom { activeDom with walk := true } (ready [(key 0x1200 3, 2)]), _, 0, by decide +kernel, rfl, by decide +kernel,
      by decide +kernel, by decide +kernel, by decide +kernel, by decide +kernel, by decide +kernel, by decide +kernel⟩,
    ⟨inDom { activeDom with steps := [stepRec], pages := [openPage] } (ready []), 0, 0, 0, 5, 4, 1, by decide +kernel,
      by decide +kernel, by decide +kernel⟩,
    ⟨inDom { activeDom with steps := [stepRec], pages := [openPage] } (ready []), 0, 0, 0, 5, 3, 1, by decide +kernel,
      by decide +kernel, by decide +kernel⟩,
    ⟨inDom { activeDom with steps := [stepRec] } (ready []), 0, 0, 0, 5, by decide +kernel, by decide +kernel⟩,
    ⟨inDom { activeDom with steps := [stepRec], pages := [openPage] } (ready []), 0, 0, 5, [], 0, false, by decide +kernel,
      by decide +kernel⟩,
    ⟨inDom activeDom (ready []), 0, 0, 5, [], 0, by decide +kernel, by decide +kernel⟩,
    ⟨ready [], _, 0, 0, 0, 5, 1, 2, _, [], le 8 (crc64 (crc64 0 []) kvFields).toNat ++ kvFields, rfl, rfl, by decide +kernel⟩,
    ⟨ready [], _, 0, 0, 0, 5, 1, 2, _, [], [], rfl, rfl, by decide +kernel, by decide +kernel⟩,
    ⟨ready [(key 0x2300 6, 0)], _, 0, 0, 0, 5, 1, 2, _, [], [], rfl, rfl, by decide +kernel, by decide +kernel⟩⟩

theorem test_meets_PoisonCommandsAct :
    (∃ (s : State) (w : Work) (_cause : Fin 5) (_src : Word) (d : Dom) (n : Nat), w.origin = .step d n ∧ (s.dom d).active = true ∧
      (s.dom d).step? n ≠ none ∧ (w.core, w.engine, w.item) ∉ s.oldWork) ∧
    (∃ (s : State) (w : Work) (_cause : Fin 5) (_src : Word) (d : Dom) (n : Nat), w.origin = .step d n ∧ ((s.dom d).active = false ∨
      (s.dom d).step? n = none ∨ (w.core, w.engine, w.item) ∈ s.oldWork)) ∧
    (∃ (s u : State) (w : Work) (_cause : Fin 5) (_src : Word), u = (s.begin.addEdges w.core w.edges).bump (key 0x2301 0x12) ∧
      w.origin = .specimen) ∧
    (∃ (s u : State) (w : Work) (_cause : Fin 5) (_src : Word), ∃ r, u = (s.begin.addEdges w.core w.edges).bump (key 0x2301 0x12) ∧
      w.origin = .cross r) ∧
    (∃ (s u : State) (w : Work) (_cause : Fin 5) (_src : Word), u = (s.begin.addEdges w.core w.edges).bump (key 0x2301 0x12) ∧
      w.origin = .regen) ∧
    (∃ (s u : State) (w : Work) (_cause : Fin 5) (_src : Word), ∃ d k n p, u = (s.begin.addEdges w.core w.edges).bump (key 0x2301
      0x12) ∧ w.origin = .proof d k n ∧ u.proofOn d k n w.core = some p) ∧
    (∃ (s x : State) (path : Path) (d : Dom), x = s.taking path (domKey 0x2301 9 d) ∧ s.Takes path (domKey 0x2301 9 d) 1 false ∧
      x.get (domKey 0x2301 1 d) = 1) ∧
    (∃ (s x : State) (path : Path) (d : Dom), x = s.taking path (domKey 0x2301 9 d) ∧ s.Takes path (domKey 0x2301 9 d) 2 false ∧
      x.get (domKey 0x2301 1 d) = 1) ∧
    (∃ (s x u _v : State) (path : Path) (d : Dom), x = s.taking path (domKey 0x2301 9 d) ∧ s.Takes path (domKey 0x2301 9 d) 2 false
      ∧ x.get (domKey 0x2301 1 d) = 1 ∧ u = x.putN (domKey 0x2301 1 d) 3) ∧
    (∃ (s x u v : State) (path : Path) (d : Dom), x = s.taking path (domKey 0x2301 9 d) ∧ s.Takes path (domKey 0x2301 9 d) 2 false ∧
      x.get (domKey 0x2301 1 d) = 1 ∧ u = x.putN (domKey 0x2301 1 d) 3 ∧ u.multi d = false ∧ v = (u.rollbackHere d (u.dom
      d).base).upDom d (fun y => { y with poison := none })) ∧
    (∃ (s x u _v : State) (path : Path) (d : Dom), x = s.taking path (domKey 0x2301 9 d) ∧ s.Takes path (domKey 0x2301 9 d) 2 false
      ∧ x.get (domKey 0x2301 1 d) = 1 ∧ u = x.putN (domKey 0x2301 1 d) 3 ∧ u.multi d = true ∧ u.role ≠ 2) :=
  ⟨⟨inDom { activeDom with steps := [stepRec] } (ready []), work (.step 0 0), 0, 0, 0, 0, by decide +kernel, by decide +kernel,
    by decide +kernel, by decide +kernel⟩,
    ⟨ready [], work (.step 0 0), 0, 0, 0, 0, by decide +kernel, by decide +kernel⟩,
    ⟨ready [], _, work .specimen, 0, 0, rfl, by decide +kernel⟩,
    ⟨ready [], _, work (.cross 0), 0, 0, 0, rfl, by decide +kernel⟩,
    ⟨ready [], _, work .regen, 0, 0, rfl, by decide +kernel⟩,
    ⟨{ ready [] with proofs := [{ proof with core := some 0 }] }, _, work (.proof 0 0 0), 0, 0, 0, 0, 0,
      { proof with core := some 0 }, rfl, by decide +kernel, by decide +kernel⟩,
    ⟨ready [(domKey 0x2301 1 0, 1)], _, .window, 0, rfl, ⟨by decide +kernel, by decide +kernel⟩, by decide +kernel⟩,
    ⟨ready [(domKey 0x2301 1 0, 1)], _, .window, 0, rfl, ⟨by decide +kernel, by decide +kernel⟩, by decide +kernel⟩,
    ⟨ready [(domKey 0x2301 1 0, 1)], _, _, ready [], .window, 0, rfl, ⟨by decide +kernel, by decide +kernel⟩, by decide +kernel,
      rfl⟩,
    ⟨ready [(domKey 0x2301 1 0, 1)], _, _, _, .window, 0, rfl, ⟨by decide +kernel, by decide +kernel⟩, by decide +kernel, rfl,
      by decide +kernel, rfl⟩,
    ⟨inJob 1 [(domKey 0x2301 1 0, 1)], _, _, ready [], .window, 0, rfl, ⟨by decide +kernel, by decide +kernel⟩, by decide +kernel,
      rfl, by decide +kernel, by decide +kernel⟩⟩

theorem test_meets_PulseCommandsSetTime :
    (∃ (s x : State) (path : Path) (v : Word), x = s.taking path (key 0x1200 4) ∧ s.Takes path (key 0x1200 4) v false ∧ x.nat (key
      0x1200 2) = 0 ∧ x.t ≤ v.toNat + x.nat (key 0x1200 6)) ∧
    (∃ (s x : State) (path : Path) (v : Word), x = s.taking path (key 0x1200 4) ∧ s.Takes path (key 0x1200 4) v false ∧ x.nat (key
      0x1200 2) = 2 ∧ x.t ≤ v.toNat) ∧
    (∃ (s : State) (w : Fin 7) (v : Word) (p : Path), s.nat (key 0x1200 2) = 0 ∧ s.tb.pendingLoad = some (v, p) ∧ s.t + w.val ≤
      v.toNat + s.nat (key 0x1200 6)) ∧
    (∃ (s : State) (_w : Fin 7), s.nat (key 0x1200 2) = 0 ∧ s.tb.pendingLoad = none ∧ s.tb.timeSet = true) ∧
    (∃ s : State, s.expired .tpulseWatchTimeout = true ∧ s.nat (key 0x1200 2) = 0) :=
  ⟨⟨ready [], _, .window, 0, rfl, ⟨by decide +kernel, by decide +kernel⟩, by decide +kernel, by decide +kernel⟩,
    ⟨ready [(key 0x1200 2, 2)], _, .window, 0, rfl, ⟨by decide +kernel, by decide +kernel⟩, by decide +kernel, by decide +kernel⟩,
    ⟨{ ready [] with tb := { State.reset.tb with pendingLoad := some (6, .window) } }, 6, 6, .window, by decide +kernel,
      by decide +kernel, by decide +kernel⟩,
    ⟨{ ready [] with tb := { State.reset.tb with timeSet := true } }, 0, by decide +kernel, by decide +kernel, by decide +kernel⟩,
    ⟨timed .tpulseWatchTimeout (ready []), by decide +kernel, by decide +kernel⟩⟩

theorem test_meets_BeaconAndReferenceCommandsKeepTime :
    (∃ s : State, s.expired .beaconPeriod = true ∧ s.beacons = true) ∧
    (∃ (s : State) (t1 _t2 _t3 _t4 : Word) (_n : Nat), s.tb.beacon = some t1) ∧
    (∃ (s : State) (t1 _t2 _t3 _t4 : Word) (_n : Nat), s.tb.beacon ≠ some t1) ∧
    (∃ s : State, s.expired .beaconPeriod = true ∧ s.beacons = false) ∧
    (∃ s : State, s.expired .beaconLossHoldover = true ∧ s.beaconMode = true) ∧
    (∃ (s : State) (_r : Rank) (_t1 : Word), s.isRoot = true) ∧
    (∃ s : State, s.tb.refLost = false) ∧
    (∃ s : State, s.tb.refLost = true ∧ s.tb.backup = false) ∧
    (∃ s : State, s.tb.refLost = true ∧ s.nat (key 0x1200 2) = 2) :=
  ⟨⟨timed .beaconPeriod (ready [(key 0x1200 2, 1), (key 0x1201 1, 3), (portKey 0 1, 2)]), by decide +kernel, by decide +kernel⟩,
    ⟨{ ready [] with tb := { State.reset.tb with beacon := some 0 } }, 0, 0, 0, 0, 0, by decide +kernel⟩,
    ⟨ready [], 0, 0, 0, 0, 0, by decide +kernel⟩,
    ⟨timed .beaconPeriod (ready []), by decide +kernel, by decide +kernel⟩,
    ⟨timed .beaconLossHoldover (ready [(key 0x1200 2, 1), (key 0x1201 1, 3), (portKey 0 1, 2)]), by decide +kernel,
      by decide +kernel⟩,
    ⟨ready [(key 0x1201 1, 3), (key 0x1305 1, 3)], 1, 0, by decide +kernel⟩,
    ⟨State.reset, by decide +kernel⟩,
    ⟨{ ready [] with tb := { State.reset.tb with refLost := true } }, by decide +kernel, by decide +kernel⟩,
    ⟨{ ready [(key 0x1200 2, 2)] with tb := { State.reset.tb with refLost := true } }, by decide +kernel, by decide +kernel⟩⟩

theorem test_meets_SpecimenCommandsScreen :
    (∃ s : State, s.expired .specimenInterval = true) ∧
    (∃ (s : State) (c : PCore) (n : Nat) (_ds : List Word) (_oks : List Bool), (∀ r, s.running? c = some r → r.id ≠ n)) ∧
    (∃ (s : State) (c : PCore) (r : Run), s.running? c = some r) ∧
    (∃ (s : State) (c : PCore) (ds : List Word) (oks : List Bool) (r : Run), s.running? c = some r ∧ (∃ e ∈ allEngines, ds[e.val]? ≠
      some (Config.specimenDigest e) ∨ oks[e.val]? ≠ some true)) ∧
    (∃ (s : State) (c : PCore) (_l : List EngineNo) (r : Run), s.expired (.specimenTimeout c []) = true ∧ s.running? c = some r) ∧
    (∃ (s : State) (c : PCore), s.expired (.specimenRetest c) = true ∧ s.screenable c = true ∧ s.running? c = none ∧ s.budgetAllows
      c = true) ∧
    (∃ (s : State) (c : PCore), s.expired (.specimenRetest c) = true ∧ s.screenable c = true ∧ s.running? c = none ∧ s.budgetAllows
      c = false) :=
  ⟨⟨timed .specimenInterval (ready []), by decide +kernel⟩,
    ⟨ready [], 0, 0, [], [], fun _ h => nomatch (show (none : Option Run) = some _ from h)⟩,
    ⟨{ ready [] with runs := [run] }, 0, run, by decide +kernel⟩,
    ⟨{ ready [] with runs := [run] }, 0, [], [], run, by decide +kernel, by decide +kernel⟩,
    ⟨timed (.specimenTimeout 0 []) { ready [] with runs := [run] }, 0, [], run, by decide +kernel, by decide +kernel⟩,
    ⟨timed (.specimenRetest 0) { ready [(coreKey 0 0xA1, 1)] with probes := [(0, { Probe.fresh with reset := false })] }, 0,
      by decide +kernel, by decide +kernel, by decide +kernel, by decide +kernel⟩,
    ⟨timed (.specimenRetest 0)
      { inDom activeDom (ready [(coreKey 0 0xA2, 0), (coreKey 0 0xA1, 0)]) with overBudget := true, probes := [(0, { Probe.fresh with reset := false })] },
      0, by decide +kernel, by decide +kernel, by decide +kernel, by decide +kernel⟩⟩

theorem test_meets_CrossCoreCommandsCompare :
    (∃ s : State, s.expired .crosscoreInterval = true ∧ (s.get (key 0x2200 1)).getLsbD 1 = true) ∧
    (∃ s : State, s.expired .crosscoreInterval = true ∧ (s.get (key 0x2200 1)).getLsbD 1 = false) ∧
    (∃ (s : State) (c : PCore) (n : Nat) (_ds : List Word) (x : Cross), s.awaitedCross c n = some x) ∧
    (∃ (s : State) (c : PCore) (n : Nat) (x : Cross), s.expired (.crosscoreTimeout c n) = true ∧ s.awaitedCross c n = some x) :=
  ⟨⟨timed .crosscoreInterval (ready []), by decide +kernel, by decide +kernel⟩,
    ⟨timed .crosscoreInterval (ready [(key 0x2200 1, 0)]), by decide +kernel, by decide +kernel⟩,
    ⟨{ ready [] with crosses := [cross] }, 0, 0, [], cross, by decide +kernel⟩,
    ⟨timed (.crosscoreTimeout 0 0) { ready [] with crosses := [cross] }, 0, 0, cross, by decide +kernel, by decide +kernel⟩⟩

theorem test_meets_MarginProbeCommandsStep :
    (∃ (s : State) (c : PCore), s.probeRoom = true ∧ s.probeEligible c = true ∧ s.probeDue c = true) ∧
    (∃ (s : State) (c : PCore), s.armed (.settleTimeout c) = false) ∧
    (∃ (s : State) (c : PCore), s.probing? c = none ∧ s.armed (.settleTimeout c) = true) ∧
    (∃ (s : State) (c : PCore) (p : Probing), s.probing? c = some p ∧ s.armed (.settleTimeout c) = true) ∧
    (∃ (s : State) (c : PCore) (p : Probing), s.expired (.settleTimeout c) = true ∧ s.probing? c = some p) ∧
    (∃ (s : State) (c : PCore), s.expired (.settleTimeout c) = true ∧ s.probing? c = none) ∧
    (∃ (s : State) (c : PCore) (_t _k : BitVec 16) (p : Probing), s.probing? c = some p ∧ s.dwellOver p = true ∧ s.frz.on = false) ∧
    (∃ (s : State) (c : PCore) (_t _k : BitVec 16) (p : Probing), s.probing? c = some p ∧ s.dwellOver p = true ∧ s.frz.on = false ∧
      p.core = c ∧ p.phase = 1 ∧ p.fails = 0 ∧ s.floorMv ≤ p.mv - 5) ∧
    (∃ (s : State) (c : PCore) (_t _k : BitVec 16) (p : Probing), s.probing? c = some p ∧ s.dwellOver p = true ∧ s.frz.on = false ∧
      p.core = c ∧ p.phase = 1 ∧ p.fails = 0 ∧ p.mv - 5 < s.floorMv) ∧
    (∃ (s : State) (c : PCore) (_t _k : BitVec 16) (p : Probing), s.probing? c = some p ∧ s.dwellOver p = true ∧ s.frz.on = false ∧
      p.core = c ∧ p.phase = 1 ∧ p.fails ≠ 0) :=
  ⟨⟨{ ready [] with probes := [(0, { Probe.fresh with reset := false })] }, 0, by decide +kernel, by decide +kernel,
    by decide +kernel⟩,
    ⟨ready [], 0, by decide +kernel⟩,
    ⟨timed (.settleTimeout 0) (ready []), 0, by decide +kernel, by decide +kernel⟩,
    ⟨timed (.settleTimeout 0) { ready [] with probings := [probing] }, 0, probing, by decide +kernel, by decide +kernel⟩,
    ⟨timed (.settleTimeout 0) { ready [] with probings := [probing] }, 0, probing, by decide +kernel, by decide +kernel⟩,
    ⟨timed (.settleTimeout 0) (ready []), 0, by decide +kernel, by decide +kernel⟩,
    ⟨{ ready [] with probings := [{ probing with phase := 1, fails := 1 }] }, 0, 0, 0, { probing with phase := 1, fails := 1 },
      by decide +kernel, by decide +kernel, by decide +kernel⟩,
    ⟨{ ready [] with probings := [{ probing with phase := 1, units := 1000000 }] }, 0, 0, 0,
      { probing with phase := 1, units := 1000000 }, by decide +kernel, by decide +kernel, by decide +kernel, by decide +kernel,
      by decide +kernel, by decide +kernel, by decide +kernel⟩,
    ⟨{ ready [] with probings := [{ probing with phase := 1, units := 1000000, mv := -1000 }] }, 0, 0, 0,
      { probing with phase := 1, units := 1000000, mv := -1000 }, by decide +kernel, by decide +kernel, by decide +kernel,
      by decide +kernel, by decide +kernel, by decide +kernel, by decide +kernel⟩,
    ⟨{ ready [] with probings := [{ probing with phase := 1, fails := 1 }] }, 0, 0, 0, { probing with phase := 1, fails := 1 },
      by decide +kernel, by decide +kernel, by decide +kernel, by decide +kernel, by decide +kernel, by decide +kernel⟩⟩

theorem test_meets_GuardBandCommandsAct :
    (∃ (s : State) (c : PCore), s.expired (.mapEntryAged c) = true ∧ s.nat (coreKey c 0x8A) + hour (s.nat (key 0x2203 5)) ≤ s.t) ∧
    (∃ (s : State) (c : PCore), s.expired (.mapEntryAged c) = true ∧ s.t < s.nat (coreKey c 0x8A) + hour (s.nat (key 0x2203 5))) ∧
    (∃ (s : State) (c : PCore) (t : BitVec 16), (s.probe c).mapFlags.getLsbD 0 = true ∧ 10 * s.nat (key 0x2203 6) < (tempOf t.toNat
      - tempOf (s.nat (coreKey c 0x8B))).natAbs) ∧
    (∃ s : State, s.expired .reprobeInterval = true) ∧
    (∃ (s x : State) (path : Path) (c : PCore) (v : Word), x = s.taking path (coreKey c 0x88) ∧ s.Takes path (coreKey c 0x88) v
      false ∧ x.fp c ≠ 2 ∧ x.fp c ≠ 3 ∧ x.get (key 0x2203 1) = 0 ∧ -(x.nat (key 0x2203 2) : Int) ≤ mvOfCode v.toNat ∧ mvOfCode
      v.toNat ≤ (x.nat (key 0x2203 3) : Int)) :=
  ⟨⟨timed (.mapEntryAged 0) { ready [] with now := 41472000000000000 }, 0, by decide +kernel, by decide +kernel⟩,
    ⟨timed (.mapEntryAged 0) { ready [] with now := 41471999999999999 }, 0, by decide +kernel, by decide +kernel⟩,
    ⟨{ ready [] with probes := [(0, { Probe.fresh with mapFlags := 1 })] }, 0, 151, by decide +kernel, by decide +kernel⟩,
    ⟨timed .reprobeInterval (ready []), by decide +kernel⟩,
    ⟨ready [(key 0x2203 1, 0)], _, .window, 0, 4, rfl, ⟨by decide +kernel, by decide +kernel⟩, by decide +kernel, by decide +kernel,
      by decide +kernel, by decide +kernel, by decide +kernel⟩⟩

theorem test_meets_SupervisorsAndBudgetReport :
    (∃ (s : State) (_l : List Sample), s.expired (.supervisorSample []) = true) ∧
    (∃ (s : State) (_a _b _p _q : Nat), s.expired (.budgetWindowEnd 0 0 0 0) = true) :=
  ⟨⟨timed (.supervisorSample []) (ready []), [], by decide +kernel⟩,
    ⟨timed (.budgetWindowEnd 0 0 0 0) (ready []), 0, 0, 0, 0, by decide +kernel⟩⟩

theorem test_meets_StoredDataReportsAreKept :
    (∃ (s : State) (c : PCore) (_w : BitVec 25) (_y : Fin 36) (_b : Bool), (s.slice c).queue.length < 16) ∧
    (∃ (s : State) (c : PCore) (w : BitVec 25) (y : Fin 36) (t : Word) (scan : Bool) (q : List (BitVec 25 × Fin 36 × Word × Bool)),
      (s.slice c).queue = (w, y, t, scan) :: q) ∧
    (∃ (_s : State) (_c : PCore) (_w : BitVec 25) (b : ReadBy) (r : Option PCore), (b ≠ .readModifyWrite ∨ r ≠ none)) ∧
    (∃ (s : State) (c : PCore), s.get (coreKey c 0x97) ≠ 2) ∧
    (∃ (s : State) (c : PCore), s.get (coreKey c 0x97) ≠ 3) :=
  ⟨⟨ready [], 0, 0, 0, false, by decide +kernel⟩,
    ⟨{ ready [] with slices := [(0, { Slice.fresh with queue := [(0, 0, 0, false)] })] }, 0, 0, 0, 0, false, [], by decide +kernel⟩,
    ⟨ready [], 0, 0, .ownCore, none, by decide +kernel⟩,
    ⟨ready [(coreKey 0 0x97, 1)], 0, by decide +kernel⟩,
    ⟨ready [(coreKey 0 0x97, 2)], 0, by decide +kernel⟩⟩

theorem test_meets_ScanAndDigestCommandsAct :
    (∃ (s x : State) (path : Path) (m : MseNo), x = s.taking path (mseKey m 5) ∧ x.scanRetired m = false ∧ x.pcOwned m = false ∧
      s.Takes path (mseKey m 5) 1 false ∧ x.scanState m ≠ 1) ∧
    (∃ (s x : State) (path : Path) (m : MseNo), x = s.taking path (mseKey m 5) ∧ x.scanRetired m = false ∧ x.pcOwned m = false ∧
      s.Takes path (mseKey m 5) 2 false ∧ x.scanState m = 1) ∧
    (∃ (s x : State) (path : Path) (m : MseNo), x = s.taking path (mseKey m 5) ∧ x.scanRetired m = false ∧ x.pcOwned m = false ∧
      s.Takes path (mseKey m 5) 3 false ∧ x.scanState m = 2) ∧
    (∃ (s x : State) (path : Path) (m : MseNo), x = s.taking path (mseKey m 5) ∧ x.scanRetired m = false ∧ x.pcOwned m = false ∧
      s.Takes path (mseKey m 5) 4 false ∧ x.scanState m = 1) ∧
    (∃ (s x : State) (path : Path) (m : MseNo), x = s.taking path (mseKey m 5) ∧ x.scanRetired m = false ∧ x.pcOwned m = false ∧
      s.Takes path (mseKey m 5) 4 false ∧ x.scanState m = 2) ∧
    (∃ (s : State) (m : MseNo) (_crc : Word) (_poison : Bool), s.scanState m = 1 ∧ 2048 ≤ s.nat (mseKey m 7)) ∧
    (∃ (s : State) (m : MseNo) (_crc : Word) (_poison : Bool) (_h : s.nat (mseKey m 7) < 2048), s.scanState m = 1) ∧
    (∃ (s : State) (r : DigestNo), s.expired (.digestPeriod r) = true ∧ recMode (s.digestRec r) ≠ 0 ∧ recPeriod (s.digestRec r) ≠ 0)
      ∧
    (∃ (s : State) (r : DigestNo), s.expired (.digestStale r) = true ∧ recMode (s.digestRec r) ≠ 0 ∧ recPeriod (s.digestRec r) ≠ 0)
      ∧
    (∃ (s x y : State) (path : Path) (r : DigestNo) (b : Bytes) (e : Entry) (w : WEnd), x = s.taking path (digestKey r.val) ∧
      s.Takes path (digestKey r.val) 0 true ∧ digestFits b = true ∧ recMode b ≠ 0 ∧ entryOf (digestKey r.val) = some e ∧
      x.writeContentB e (digestKey r.val) (setBytes (b.take 0x20) 0xE (le 2 0) ++ (x.content (digestKey r.val)).drop 0x20) = (y, w)
      ∧ w ≠ .busy) :=
  ⟨⟨ready [(key 0x2300 8, 24), (mseKey 0 6, 0)], _, .window, 0, rfl, by decide +kernel, by decide +kernel, ⟨by decide +kernel,
    by decide +kernel⟩, by decide +kernel⟩,
    ⟨ready [(key 0x2300 8, 24), (mseKey 0 6, 1)], _, .window, 0, rfl, by decide +kernel, by decide +kernel, ⟨by decide +kernel,
      by decide +kernel⟩, by decide +kernel⟩,
    ⟨ready [(key 0x2300 8, 24), (mseKey 0 6, 2)], _, .window, 0, rfl, by decide +kernel, by decide +kernel, ⟨by decide +kernel,
      by decide +kernel⟩, by decide +kernel⟩,
    ⟨ready [(key 0x2300 8, 24), (mseKey 0 6, 1)], _, .window, 0, rfl, by decide +kernel, by decide +kernel, ⟨by decide +kernel,
      by decide +kernel⟩, by decide +kernel⟩,
    ⟨ready [(key 0x2300 8, 24), (mseKey 0 6, 2)], _, .window, 0, rfl, by decide +kernel, by decide +kernel, ⟨by decide +kernel,
      by decide +kernel⟩, by decide +kernel⟩,
    ⟨ready [(key 0x2300 8, 24), (mseKey 0 6, 1), (mseKey 0 7, 2048)], 0, 0, false, by decide +kernel, by decide +kernel⟩,
    ⟨ready [(key 0x2300 8, 24), (mseKey 0 6, 1), (mseKey 0 7, 2047)], 0, 0, false, by decide +kernel, by decide +kernel⟩,
    ⟨timed (.digestPeriod 0) { ready [] with cont := [(digestKey 0, digestRecord)] }, 0, by decide +kernel, by decide +kernel,
      by decide +kernel⟩,
    ⟨timed (.digestStale 0) { ready [] with cont := [(digestKey 0, digestRecord)] }, 0, by decide +kernel, by decide +kernel,
      by decide +kernel⟩,
    ⟨ready [], _, _, .window, 0, digestRecord, digestEntry, .done, rfl, ⟨by decide +kernel, by decide +kernel⟩, by decide +kernel,
      by decide +kernel, by decide +kernel, with_snd (by decide +kernel), by decide +kernel⟩⟩

theorem test_meets_FenceCommandsAct :
    (∃ (s x : State) (path : Path) (v : Word) (c : PCore), x = s.taking path (key 0x1302 9) ∧ s.Takes path (key 0x1302 9) v false ∧
      v.toNat % 2 ^ 16 = c.val ∧ x.fp c ≠ 2 ∧ x.fp c ≠ 3 ∧ x.fp c ≠ 4 ∧ x.fp c ≠ 5) ∧
    (∃ (s x : State) (path : Path) (v : Word) (c : PCore), x = s.taking path (key 0x1302 0xA) ∧ s.Takes path (key 0x1302 0xA) v
      false ∧ v.toNat = c.val ∧ (x.fp c = 2 ∨ x.fp c ≠ 3 ∧ x.fp c ≠ 4 ∧ x.fp c ≠ 5 ∧ x.awaitsHost c = true)) ∧
    (∃ (s x : State) (path : Path) (v : Word) (e : Bytes), x = s.taking path (key 0x1304 3) ∧ s.Takes path (key 0x1304 3) v false ∧
      x.attic[v.toNat]? = some e) :=
  ⟨⟨ready [], _, .window, 0, 0, rfl, ⟨by decide +kernel, by decide +kernel⟩, by decide +kernel, by decide +kernel,
    by decide +kernel, by decide +kernel, by decide +kernel⟩,
    ⟨ready [(coreKey 0 0xA1, 2)], _, .window, 0, 0, rfl, ⟨by decide +kernel, by decide +kernel⟩, by decide +kernel,
      by decide +kernel⟩,
    ⟨{ ready [] with attic := [List.replicate 64 0] }, _, .window, 0, List.replicate 64 0, rfl, ⟨by decide +kernel,
      by decide +kernel⟩, by decide +kernel⟩⟩

theorem test_meets_RefillCommandsAct :
    (∃ (s : State) (d : Dom) (_n : Nat) (y : Sparing), s.inPhase d 4 = some y ∧ s.armed (.refillTimeout d) = true) ∧
    (∃ (s : State) (d : Dom) (_n : Nat), (∀ y, s.inPhase d 4 = some y → s.armed (.refillTimeout d) = false)) ∧
    (∃ (s : State) (d : Dom) (y : Sparing), s.expired (.refillTimeout d) = true ∧ s.inPhase d 4 = some y) ∧
    (∃ (s : State) (d : Dom) (y : Sparing), s.expired (.hostRefillTimeout d) = true ∧ s.inPhase d 7 = some y) ∧
    (∃ (s x : State) (path : Path) (v : Word) (d : Dom) (y : Sparing), x = s.taking path (key 0x1302 0xB) ∧ s.Takes path (key 0x1302
      0xB) v false ∧ v.toNat = d.val ∧ x.inPhase d 7 = some y) ∧
    (∃ (s x : State) (path : Path) (d : Dom) (y : Sparing) (q : PCore), x = s.taking path (key 0x1302 0xD) ∧ s.Takes path (key
      0x1302 0xD) (sparingAction d 1) false ∧ x.inPhase d 8 = some y ∧ y.repl = some q) ∧
    (∃ (s x : State) (path : Path) (d : Dom) (y : Sparing), x = s.taking path (key 0x1302 0xD) ∧ s.Takes path (key 0x1302 0xD)
      (sparingAction d 2) false ∧ x.inPhase d 8 = some y) ∧
    (∃ (s : State) (c : PCore), s.get (coreKey c 0x97) = 1) :=
  ⟨⟨timed (.refillTimeout 0) (inDom { activeDom with sparings := [{ sparing with phase := 4 }] } (ready [])), 0, 0,
    { sparing with phase := 4 }, by decide +kernel, by decide +kernel⟩,
    ⟨ready [], 0, 0, fun _ h => nomatch (show (none : Option Sparing) = some _ from h)⟩,
    ⟨timed (.refillTimeout 0) (inDom { activeDom with sparings := [{ sparing with phase := 4 }] } (ready [])), 0,
      { sparing with phase := 4 }, by decide +kernel, by decide +kernel⟩,
    ⟨timed (.hostRefillTimeout 0) (inDom { activeDom with sparings := [{ sparing with phase := 7 }] } (ready [])), 0,
      { sparing with phase := 7 }, by decide +kernel, by decide +kernel⟩,
    ⟨inDom { activeDom with sparings := [{ sparing with phase := 7 }] } (ready []), _, .window, 0, 0, { sparing with phase := 7 },
      rfl, ⟨by decide +kernel, by decide +kernel⟩, by decide +kernel, by decide +kernel⟩,
    ⟨inDom { activeDom with sparings := [{ sparing with phase := 8 }] } (ready []), _, .window, 0, { sparing with phase := 8 }, 1,
      rfl, ⟨by decide +kernel, by decide +kernel⟩, by decide +kernel, by decide +kernel⟩,
    ⟨inDom { activeDom with sparings := [{ sparing with phase := 8 }] } (ready []), _, .window, 0, { sparing with phase := 8 }, rfl,
      ⟨by decide +kernel, by decide +kernel⟩, by decide +kernel⟩,
    ⟨ready [(coreKey 0 0x97, 1)], 0, by decide +kernel⟩⟩

theorem test_meets_RegenerationAndLockstepCommandsAct :
    (∃ (s x : State) (path : Path) (v : Word) (d : Dom) (k : LCore) (c : PCore), x = s.taking path (key 0x2108 9) ∧ s.Takes path
      (key 0x2108 9) v false ∧ bits v.toNat 63 61 = d.val ∧ bits v.toNat 60 51 = k.val ∧ x.regenStep d k (bits v.toNat 47 0) = true
      ∧ x.regen = none ∧ x.regenCore d k = some c) ∧
    (∃ (s : State) (c : PCore) (_l : List OutUnit) (_b : Bool), (∀ r, s.regen = some r → r.done = true ∨ r.core ≠ c)) ∧
    (∃ (s : State) (_l : List OutUnit) (r : Regen), s.regen = some r ∧ r.done = false) ∧
    (∃ s : State, s.expired .regenTimeout = true) ∧
    (∃ (s x : State) (path : Path) (r : Regen), x = s.taking path (key 0x2108 0xC) ∧ s.Takes path (key 0x2108 0xC) 1 false ∧ x.regen
      = some r ∧ r.done = true) ∧
    (∃ (s : State) (n : Nat) (d : Dom), s.expired (.compareTimeout n) = true ∧ s.jobDom = some d ∧ s.lockstep d = 1) ∧
    (∃ (s x : State) (path : Path) (w : Narrow), x = s.taking path (key 0x2C10 0xA) ∧ x.job.narrow = some w ∧ w.stage = 6 ∧ x.get
      (key 0x2C10 6) = 3 ∧ s.Takes path (key 0x2C10 0xA) 1 false) ∧
    (∃ (s x : State) (path : Path) (w : Narrow), x = s.taking path (key 0x2C10 0xA) ∧ x.job.narrow = some w ∧ w.stage = 6 ∧ x.get
      (key 0x2C10 6) = 3 ∧ s.Takes path (key 0x2C10 0xA) 2 false) :=
  ⟨⟨inDom { activeDom with steps := [{ stepRec with clear := true }] } (ready [(coreKey 0 0xA2, 0), (coreKey 1 0xA1, 1)]), _,
    .window, 0, 0, 0, 1, rfl, ⟨by decide +kernel, by decide +kernel⟩, by decide +kernel, by decide +kernel, by decide +kernel,
    by decide +kernel, by decide +kernel⟩,
    ⟨ready [], 0, [], false, fun _ h => nomatch (show (none : Option Regen) = some _ from h)⟩,
    ⟨{ ready [] with regen := some regen }, [], regen, by decide +kernel, by decide +kernel⟩,
    ⟨timed .regenTimeout (ready []), by decide +kernel⟩,
    ⟨{ ready [] with regen := some { regen with done := true } }, _, .window, { regen with done := true }, rfl, ⟨by decide +kernel,
      by decide +kernel⟩, by decide +kernel, by decide +kernel⟩,
    ⟨timed (.compareTimeout 0) (inJob 2 [(key 0x2C10 1, 1), (key 0x2C10 3, 0), (key 0x2C10 6, 1)]), 0, 0, by decide +kernel,
      by decide +kernel, by decide +kernel⟩,
    ⟨{ inJob 2 [(key 0x2C10 6, 3)] with job := { State.reset.job with narrow := some { narrow with stage := 6 } } }, _, .window,
      { narrow with stage := 6 }, rfl, by decide +kernel, by decide +kernel, by decide +kernel, ⟨by decide +kernel,
      by decide +kernel⟩⟩,
    ⟨{ inJob 2 [(key 0x2C10 6, 3)] with job := { State.reset.job with narrow := some { narrow with stage := 6 } } }, _, .window,
      { narrow with stage := 6 }, rfl, by decide +kernel, by decide +kernel, by decide +kernel, ⟨by decide +kernel,
      by decide +kernel⟩⟩⟩

theorem test_meets_BringUpStagesProceed :
    (∃ (s : State) (_l : List PcNo), s.inStage 1 = true) ∧
    (∃ s : State, ∃ _f : FuseMap, s.inStage 3 = true) ∧
    (∃ s : State, s.inStage 3 = true) ∧
    (∃ (s : State) (c : PCore), s.expired (.fillTimeout c) = true ∧ s.inStage 4 = true ∧ c ∈ s.bring.fillLeft) ∧
    (∃ (s : State) (n : StackNo), s.inStage 5 = true ∧ n ∈ s.bring.memLeft ∧ s.armed (.memoryTrainingTimeout n) = true) ∧
    (∃ (s : State) (n : StackNo), s.expired (.memoryTrainingTimeout n) = true ∧ s.inStage 5 = true) ∧
    (∃ (s : State) (p : PortNo) (_n : Byte) (_fl : BitVec 32) (_reach : Byte) (_t : BitVec 32), s.inStage 5 = true ∧ p ∈
      s.bring.linkLeft ∧ s.armed (.linkTrainingTimeout p) = true) ∧
    (∃ (s : State) (p : PortNo), s.expired (.linkTrainingTimeout p) = true) ∧
    (∃ s : State, s.expired .specimenStageTimeout = true) ∧
    (∃ s : State, s.expired .timeLockTimeout = true) ∧
    (∃ (s x : State) (path : Path), x = s.taking path (key 0x2500 0x10) ∧ s.Takes path (key 0x2500 0x10) 1 false ∧ x.bring.halted =
      true) :=
  ⟨⟨State.reset, [], by decide +kernel⟩,
    ⟨at_ [(key 0x2500 1, 3)], { cores := [], ports := [], stackNos := [], spareRows := [], spareColumns := [] }, by decide +kernel⟩,
    ⟨at_ [(key 0x2500 1, 3)], by decide +kernel⟩,
    ⟨timed (.fillTimeout 0) { at_ [(key 0x2500 1, 4)] with bring := { State.reset.bring with fillLeft := [0] } }, 0,
      by decide +kernel, by decide +kernel, by decide +kernel⟩,
    ⟨timed (.memoryTrainingTimeout 0) { at_ [(key 0x2500 1, 5)] with bring := { State.reset.bring with memLeft := [0] } }, 0,
      by decide +kernel, by decide +kernel, by decide +kernel⟩,
    ⟨timed (.memoryTrainingTimeout 0) (at_ [(key 0x2500 1, 5)]), 0, by decide +kernel, by decide +kernel⟩,
    ⟨timed (.linkTrainingTimeout 0) { at_ [(key 0x2500 1, 5)] with bring := { State.reset.bring with linkLeft := [0] } }, 0, 0, 0,
      0, 0, by decide +kernel, by decide +kernel, by decide +kernel⟩,
    ⟨timed (.linkTrainingTimeout 0) (at_ [(key 0x2500 1, 5)]), 0, by decide +kernel⟩,
    ⟨timed .specimenStageTimeout (at_ [(key 0x2500 1, 7)]), by decide +kernel⟩,
    ⟨timed .timeLockTimeout (at_ [(key 0x2500 1, 9)]), by decide +kernel⟩,
    ⟨{ ready [] with bring := { State.reset.bring with halted := true } }, _, .window, rfl, ⟨by decide +kernel, by decide +kernel⟩,
      by decide +kernel⟩⟩

theorem test_meets_IdentityCommandsJudgeTheCabling :
    (∃ (s : State) (p : PortNo), s.stewardServed = true ∧ s.portTrained p = true) ∧
    (∃ (s : State) (p : PortNo) (_a : Identity), s.armed (.identityTimeout p) = true) ∧
    (∃ (s : State) (p : PortNo), s.expired (.identityTimeout p) = true) ∧
    (∃ s : State, s.expired .identityRecheckTimer = true ∧ s.stageNo = 9 ∧ s.bring.idLeft = []) ∧
    (∃ (s x : State) (path : Path), x = s.taking path (key 0x2B00 9) ∧ s.Takes path (key 0x2B00 9) 1 false ∧ x.stageNo = 9 ∧
      x.bring.idLeft = [] ∧ x.bring.recheck = false ∧ allPorts.filter x.portTrained ≠ []) ∧
    (∃ (s x : State) (path : Path) (p : PortNo), x = s.taking path (portKey p 0xA) ∧ s.Takes path (portKey p 0xA) 1 false ∧ x.nat
      (portKey p 1) = 4) :=
  ⟨⟨ready [(portKey 0 1, 2), (portKey 0 2, 0xFF)], 0, by decide +kernel, by decide +kernel⟩,
    ⟨timed (.identityTimeout 0) (ready []), 0, { coords := 0, port := 0, revision := 0, kind := 0 }, by decide +kernel⟩,
    ⟨timed (.identityTimeout 0) (ready []), 0, by decide +kernel⟩,
    ⟨timed .identityRecheckTimer (ready []), by decide +kernel, by decide +kernel, by decide +kernel⟩,
    ⟨ready [(portKey 0 1, 2), (portKey 0 2, 0xFF)], _, .window, rfl, ⟨by decide +kernel, by decide +kernel⟩, by decide +kernel,
      by decide +kernel, by decide +kernel, by decide +kernel⟩,
    ⟨ready [(portKey 0 1, 4)], _, .window, 0, rfl, ⟨by decide +kernel, by decide +kernel⟩, by decide +kernel⟩⟩

theorem test_meets_SelfTestCommandsAct :
    (∃ (s u : State) (x : TestUnit) (r : TestResult) (t : Word) (j : Judged), ((∀ n, x ≠ .stack n) ∨ j.outcome = 0) ∧
      s.test.running.find? (fun (y : TestUnit × Word) => y.1 == x) = some (x, t) ∧ (s.begin.arrives (.selftestTimeout x) 6).judge x
      r = (u, j)) ∧
    (∃ (s : State) (x : TestUnit) (t : Word), s.expired (.selftestTimeout x) = true ∧ s.test.running.find? (fun (y : TestUnit ×
      Word) => y.1 == x) = some (x, t)) ∧
    (∃ (s x : State) (path : Path) (v : Word) (c : PCore), x = s.taking path (key 0x2600 7) ∧ s.Takes path (key 0x2600 7) v false ∧
      bits v.toNat 15 0 = c.val ∧ bits v.toNat 18 16 ≠ 0 ∧ x.lc ≠ 4 ∧ x.stageNo = 9 ∧ x.fp c ≠ 4 ∧ x.fp c ≠ 5 ∧ (if x.fp c = 2 ∨
      x.fp c = 3 ∨ (c, 2) ∈ x.test.awaiting then x.lc ≠ 2 else x.testable c = true) ∧ ((bits v.toNat 18 16).testBit 2 = true →
      x.slicePresent c = true ∧ x.stackSt (stackOf c) = 1) ∧ x.testRoom (bits v.toNat 18 16) = true) ∧
    (∃ (s x : State) (path : Path) (v : Word) (c : PCore) (t : CoreTest), x = s.taking path (key 0x2600 0xF) ∧ s.Takes path (key
      0x2600 0xF) v false ∧ v.toNat = c.val ∧ x.stageNo = 9 ∧ x.coreTest? c = some t) ∧
    (∃ (s x : State) (path : Path) (v : Word) (n : StackNo), x = s.taking path (key 0x2600 9) ∧ s.Takes path (key 0x2600 9) v false
      ∧ v.toNat = n.val ∧ x.lc ≠ 4 ∧ (0x80 ≤ x.stageNo ∨ x.stageNo = 9 ∧ x.activeDoms = []) ∧ x.stackSt n ≠ 3 ∧ x.test.stack = none
      ∧ x.test.running = []) :=
  ⟨⟨{ ready [] with test := { State.reset.test with running := [(.core 0, 0)] } }, _, .core 0, testResult, 0, _, Or.inl (fun _ h =>
    nomatch h), by decide +kernel, Prod.mk.eta.symm⟩,
    ⟨timed (.selftestTimeout (.core 0)) { ready [] with test := { State.reset.test with running := [(.core 0, 0)] } }, .core 0, 0,
      by decide +kernel, by decide +kernel⟩,
    ⟨ready [], _, .window, 0x10000, 0, rfl, ⟨by decide +kernel, by decide +kernel⟩, by decide +kernel, by decide +kernel,
      by decide +kernel, by decide +kernel, by decide +kernel, by decide +kernel, by decide +kernel, by decide +kernel,
      by decide +kernel⟩,
    ⟨{ ready [] with test := { State.reset.test with cores := [coreTest] } }, _, .window, 0, 0, coreTest, rfl, ⟨by decide +kernel,
      by decide +kernel⟩, by decide +kernel, by decide +kernel, by decide +kernel⟩,
    ⟨ready [], _, .window, 0, 0, rfl, ⟨by decide +kernel, by decide +kernel⟩, by decide +kernel, by decide +kernel,
      by decide +kernel, by decide +kernel, by decide +kernel, by decide +kernel⟩⟩

theorem test_meets_KeyAndLifeCycleCommandsAct :
    (∃ (s x : State) (path : Path), x = s.taking path (key 0x2601 3) ∧ s.Takes path (key 0x2601 3) 1 false ∧ x.lc = 2 ∧ x.get (key
      0x2601 2) ≠ 0) ∧
    (∃ (s : State) (_zero : Bool), s.keyClearing = true) ∧
    (∃ (s x : State) (path : Path) (v : Word), x = s.taking path (key 0x1100 2) ∧ s.Takes path (key 0x1100 2) v false ∧ lcAllowed
      x.lc v.toNat = true ∧ v.toNat ≠ 3 ∧ x.lcProgramming = none ∧ x.nat (key 0x1100 4) = 0xFF ∧ x.activeDoms = []) ∧
    (∃ (s : State) (n : Nat), s.lcProgramming = some n) :=
  ⟨⟨ready [(key 0x1100 1, 2), (key 0x2601 2, 1)], _, .window, rfl, ⟨by decide +kernel, by decide +kernel⟩, by decide +kernel,
    by decide +kernel⟩,
    ⟨{ ready [] with keyClearing := true }, true, by decide +kernel⟩,
    ⟨ready [], _, .window, 1, rfl, ⟨by decide +kernel, by decide +kernel⟩, by decide +kernel, by decide +kernel, by decide +kernel,
      by decide +kernel, by decide +kernel⟩,
    ⟨{ ready [] with lcProgramming := some 1 }, 1, by decide +kernel⟩⟩

theorem test_meets_FreezeCommandsAct :
    (∃ (s : State) (path : Path), s.Takes path (key 0x2800 1) 1 false) ∧
    (∃ s : State, s.expired .timedFreeze = true) ∧
    (∃ (s : State) (n : Nat), s.alive = true ∧ (s.get (key 0x2800 9)).getLsbD 0 = true ∧ 20 ≤ n ∧ s.frz.driving = false ∧
      s.frz.driveEnd.toNat ≤ s.t) ∧
    (∃ (s : State) (path : Path), s.Takes path (key 0x2800 2) 1 false ∧ (s.taking path (key 0x2800 2)).frz.on = true ∧ (s.taking
      path (key 0x2800 2)).frz.byPin = false) ∧
    (∃ s : State, s.expired .timedRelease = true ∧ s.frz.on = true ∧ s.frz.byPin = false) ∧
    (∃ s : State, s.expired .freezeReleaseTimeout = true ∧ s.frz.releasing ≠ []) ∧
    (∃ s : State, s.expired .pauseIndicationPeriod = true ∧ s.frz.on = true ∧ s.frz.chip = true) ∧
    (∃ (s : State) (_p : PortNo), s.alive = true) ∧
    (∃ (s : State) (p : PortNo) (_l : List (Dom × Nat)), s.expired (.pauseLimitTimeout p []) = true ∧ s.paused p = true) ∧
    (∃ (s : State) (n : Nat) (x : Dump), s.frz.dump = some n ∧ s.rcv.dumps.find? (fun (y : Dump) => y.num == n) = some x) ∧
    (∃ (s x : State) (path : Path) (c : PCore) (_b : Bytes), x = s.counted path ∧ s.pathServed path = true ∧ x.mayReadOut = true ∧ c
      ∈ x.frz.cores ∧ x.dutyRuns 0 = true ∧ x.romService = false) :=
  ⟨⟨ready [], .window, ⟨by decide +kernel, by decide +kernel⟩⟩,
    ⟨timed .timedFreeze (ready []), by decide +kernel⟩,
    ⟨ready [], 20, by decide +kernel, by decide +kernel, by decide +kernel, by decide +kernel, by decide +kernel⟩,
    ⟨{ ready [] with frz := { State.reset.frz with on := true } }, .window, ⟨by decide +kernel, by decide +kernel⟩,
      by decide +kernel, by decide +kernel⟩,
    ⟨timed .timedRelease { ready [] with frz := { State.reset.frz with on := true } }, by decide +kernel, by decide +kernel,
      by decide +kernel⟩,
    ⟨timed .freezeReleaseTimeout { ready [] with frz := { State.reset.frz with releasing := [0] } }, by decide +kernel,
      by decide +kernel⟩,
    ⟨timed .pauseIndicationPeriod { ready [] with frz := { State.reset.frz with on := true, chip := true } }, by decide +kernel,
      by decide +kernel, by decide +kernel⟩,
    ⟨State.reset, 0, by decide +kernel⟩,
    ⟨timed (.pauseLimitTimeout 0 []) { ready [] with frz := { State.reset.frz with pauses := [(0, 0)] } }, 0, [], by decide +kernel,
      by decide +kernel⟩,
    ⟨{ ready [] with frz := { State.reset.frz with dump := some 1 }, rcv := { State.reset.rcv with dumps := [dump] } }, 1, dump,
      by decide +kernel, by decide +kernel⟩,
    ⟨{ ready [] with frz := { State.reset.frz with on := true, cores := [0] } }, _, .window, 0, [], rfl, by decide +kernel,
      by decide +kernel, by decide +kernel, by decide +kernel, by decide +kernel⟩⟩

theorem test_meets_TraceCommandsAct :
    (∃ (s x : State) (path : Path) (c : PCore), x = s.taking path (coreKey c 0xC5) ∧ s.Takes path (coreKey c 0xC5) 1 false) ∧
    (∃ (s x : State) (path : Path) (c : PCore) (v : Word), x = s.taking path (coreKey c 0xC8) ∧ s.Takes path (coreKey c 0xC8) v
      false) ∧
    (∃ (s x : State) (path : Path) (c : PCore) (e : EngineNo), x = s.taking path (engKey c e 7) ∧ s.Takes path (engKey c e 7) 1
      false) ∧
    (∃ (s x : State) (path : Path), x = s.taking path (key 0x2702 1) ∧ s.Takes path (key 0x2702 1) 1 false) ∧
    (∃ (s : State) (d : Dom) (w : SyncWait), (s.valFor d (key 0x2701 1)).getLsbD d.val = true ∧ s.natFor d (key 0x2701 6) ≤ w.cycles
      ∧ s.nat (key 0x2701 8) = 1 ∧ (s.dom d).active = true) :=
  ⟨⟨ready [], _, .window, 0, rfl, ⟨by decide +kernel, by decide +kernel⟩⟩,
    ⟨ready [], _, .window, 0, 0, rfl, ⟨by decide +kernel, by decide +kernel⟩⟩,
    ⟨ready [], _, .window, 0, 0, rfl, ⟨by decide +kernel, by decide +kernel⟩⟩,
    ⟨ready [], _, .window, rfl, ⟨by decide +kernel, by decide +kernel⟩⟩,
    ⟨inDom activeDom (ready [(key 0x2701 1, 1), (key 0x2701 8, 1)]), 0, syncWait, by decide +kernel, by decide +kernel,
      by decide +kernel, by decide +kernel⟩⟩

theorem test_meets_BreakpointCommandsAct :
    (∃ (s : State) (pc : PcNo) (event : Byte) (f : BitVec 16) (_d : Option Dom) (n : Nat), s.bpCarries pc event.toNat = true ∧
      s.bpArmed event.toNat f.toNat = some n ∧ s.obs.bp = none) ∧
    (∃ (s : State) (pc : PcNo) (event : Byte) (f : BitVec 16) (_d : Option Dom) (n : Nat) (b : Bp), s.bpCarries pc event.toNat =
      true ∧ s.bpArmed event.toNat f.toNat = some n ∧ s.obs.bp = some b) ∧
    (∃ (s : State) (b : Bp), s.obs.bp = some b ∧ b.halted = false) ∧
    (∃ (s : State) (b : Bp), s.expired .breakpointDrainTimeout = true ∧ s.obs.bp = some b ∧ b.halted = false) ∧
    (∃ (s x : State) (path : Path) (b : Bp), x = s.taking path (key 0x2750 0xB) ∧ s.Takes path (key 0x2750 0xB) 1 false ∧ x.obs.bp =
      some b ∧ b.halted = true) ∧
    (∃ (s : State) (b : Bp), s.expired .bpHaltTimeout = true ∧ s.obs.bp = some b) :=
  ⟨⟨ready [(key 0x2750 1, 0x0100FFFF)], 1, 1, 0, none, 1, by decide +kernel, by decide +kernel, by decide +kernel⟩,
    ⟨{ ready [(key 0x2750 1, 0x0100FFFF)] with obs := { State.reset.obs with bp := some breakpoint } }, 1, 1, 0, none, 1,
      breakpoint, by decide +kernel, by decide +kernel, by decide +kernel⟩,
    ⟨{ ready [(key 0x2750 1, 0x0100FFFF)] with obs := { State.reset.obs with bp := some breakpoint } }, breakpoint,
      by decide +kernel, by decide +kernel⟩,
    ⟨timed .breakpointDrainTimeout
      { ready [(key 0x2750 1, 0x0100FFFF)] with obs := { State.reset.obs with bp := some breakpoint } }, breakpoint,
      by decide +kernel, by decide +kernel, by decide +kernel⟩,
    ⟨{ ready [(key 0x2750 1, 0x0100FFFF)] with obs := { State.reset.obs with bp := some { breakpoint with halted := true } } }, _,
      .window, { breakpoint with halted := true }, rfl, ⟨by decide +kernel, by decide +kernel⟩, by decide +kernel,
      by decide +kernel⟩,
    ⟨timed .bpHaltTimeout { ready [(key 0x2750 1, 0x0100FFFF)] with obs := { State.reset.obs with bp := some breakpoint } },
      breakpoint, by decide +kernel, by decide +kernel⟩⟩

theorem test_meets_ResetOrdersBegin :
    (∃ (s x : State) (path : Path) (d : Dom), x = s.taking path (key 0x2900 8) ∧ (x.dom d).active = true ∧ x.higherRuns 1 = false ∧
      x.resetRuns d = false ∧ x.special d = false ∧ s.Takes path (key 0x2900 8) (orderWord 1 1 d.val 0) false) ∧
    (∃ (s x : State) (path : Path) (d : Dom), x = s.taking path (key 0x2900 8) ∧ (x.dom d).active = true ∧ x.higherRuns 1 = false ∧
      x.resetRuns d = false ∧ s.Takes path (key 0x2900 8) (orderWord 1 2 d.val 0) false) ∧
    (∃ (s x : State) (path : Path) (c : PCore) (e : EngineNo) (mode : Fin 16), x = s.taking path (key 0x2900 8) ∧ x.domOfCore c =
      none ∧ mode.val ≤ 2 ∧ x.higherRuns 2 = false ∧ x.rcv.resets.filter (fun r => r.level == 2) = [] ∧ s.Takes path (key 0x2900 8)
      (orderWord 2 mode.val 0 (7 * c.val + e.val)) false) ∧
    (∃ (s x : State) (path : Path) (c : PCore) (e : EngineNo) (d : Dom), x = s.taking path (key 0x2900 8) ∧ x.domOfCore c = some d ∧
      x.higherRuns 2 = false ∧ x.rcv.resets.filter (fun r => r.level == 2) = [] ∧ x.resetRuns d = false ∧ x.special d = false ∧
      s.Takes path (key 0x2900 8) (orderWord 2 1 0 (7 * c.val + e.val)) false) ∧
    (∃ (s x : State) (path : Path) (n : StackNo), x = s.taking path (key 0x2900 8) ∧ x.stackSt n ≠ 2 ∧ x.stackSt n ≠ 3 ∧
      x.higherRuns 3 = false ∧ s.Takes path (key 0x2900 8) (orderWord 3 0 0 n.val) false) ∧
    (∃ (s x : State) (path : Path), x = s.taking path (key 0x2900 8) ∧ x.higherRuns 4 = false ∧ x.reset? .chip = none ∧ s.Takes path
      (key 0x2900 8) (orderWord 4 0 0 0) false) ∧
    (∃ (s x : State) (path : Path), x = s.taking path (key 0x2900 8) ∧ x.higherRuns 5 = false ∧ x.reset? .chip = none ∧ s.Takes path
      (key 0x2900 8) (orderWord 5 0 0 0) false) :=
  ⟨⟨inDom activeDom (ready [(coreKey 0 0xA2, 0)]), _, .window, 0, rfl, by decide +kernel, by decide +kernel, by decide +kernel,
    by decide +kernel, ⟨by decide +kernel, by decide +kernel⟩⟩,
    ⟨inDom activeDom (ready [(coreKey 0 0xA2, 0)]), _, .window, 0, rfl, by decide +kernel, by decide +kernel, by decide +kernel,
      ⟨by decide +kernel, by decide +kernel⟩⟩,
    ⟨ready [], _, .window, 0, 0, 2, rfl, by decide +kernel, by decide +kernel, by decide +kernel, by decide +kernel,
      ⟨by decide +kernel, by decide +kernel⟩⟩,
    ⟨inDom activeDom (ready [(coreKey 0 0xA2, 0)]), _, .window, 0, 0, 0, rfl, by decide +kernel, by decide +kernel,
      by decide +kernel, by decide +kernel, by decide +kernel, ⟨by decide +kernel, by decide +kernel⟩⟩,
    ⟨ready [], _, .window, 0, rfl, by decide +kernel, by decide +kernel, by decide +kernel, ⟨by decide +kernel, by decide +kernel⟩⟩,
    ⟨ready [], _, .window, rfl, by decide +kernel, by decide +kernel, ⟨by decide +kernel, by decide +kernel⟩⟩,
    ⟨ready [], _, .window, rfl, by decide +kernel, by decide +kernel, ⟨by decide +kernel, by decide +kernel⟩⟩⟩

theorem test_meets_ResetsProceed :
    (∃ (s : State) (d : Dom) (r : Reset), s.reset? (.context d) = some r ∧ r.phase = 0 ∧ r.atLevel = 1 ∧ s.frz.on = false) ∧
    (∃ (s : State) (c : PCore) (e : EngineNo) (r : Reset), s.rcv.resets.find? (fun r => decide ((c, e) ∈ r.engines)) = some r ∧
      s.frz.on = false) ∧
    (∃ (s : State) (n : StackNo) (r : Reset), s.reset? (.partition n) = some r ∧ r.phase = 6 ∧ s.partitionReady r = true ∧ s.frz.on
      = false) ∧
    (∃ (s : State) (r : Reset), s.reset? .chip = some r ∧ r.phase = 5 ∧ r.atLevel = 4) ∧
    (∃ (s : State) (i : ResetId) (r : Reset), s.expired (.resetTimeout i) = true ∧ s.reset? i = some r) ∧
    (∃ (s : State) (c : PCore), s.expired (.captureTimeout c) = true) :=
  ⟨⟨{ ready [] with rcv := { State.reset.rcv with resets := [reset] } }, 0, reset, by decide +kernel, by decide +kernel,
    by decide +kernel, by decide +kernel⟩,
    ⟨{ ready [] with rcv := { State.reset.rcv with resets := [{ reset with id := .engine 0, level := 2, atLevel := 2, engines := [(0, 0)] }] } },
      0, 0, { reset with id := .engine 0, level := 2, atLevel := 2, engines := [(0, 0)] }, by decide +kernel, by decide +kernel⟩,
    ⟨{ ready [(coreKey 0 0x97, 2)] with rcv := { State.reset.rcv with resets := [{ reset with id := .partition 0, level := 3, atLevel := 3, phase := 6 }] } },
      0, { reset with id := .partition 0, level := 3, atLevel := 3, phase := 6 }, by decide +kernel, by decide +kernel,
      by decide +kernel, by decide +kernel⟩,
    ⟨{ ready [] with rcv := { State.reset.rcv with resets := [{ reset with id := .chip, level := 4, atLevel := 4, phase := 5 }] } },
      { reset with id := .chip, level := 4, atLevel := 4, phase := 5 }, by decide +kernel, by decide +kernel, by decide +kernel⟩,
    ⟨timed (.resetTimeout (.context 0)) { ready [] with rcv := { State.reset.rcv with resets := [reset] } }, .context 0, reset,
      by decide +kernel, by decide +kernel⟩,
    ⟨timed (.captureTimeout 0) (ready []), 0, by decide +kernel⟩⟩

theorem test_meets_DumpsLateTrafficAndCellarAct :
    (∃ (s : State) (_bad : List Nat) (x : Dump), s.rcv.dumps.find? (fun (y : Dump) => decide (y.origin ≠ 2)) = some x ∧ s.dutyRuns 0
      = true) ∧
    (∃ (s : State) (r : Reset) (x : Dump), s.expired .dumpBudgetTimeout = true ∧ s.reset? .chip = some r ∧ s.rcv.dumps.find? (fun (y
      : Dump) => some y.num == r.dump) = some x) ∧
    (∃ (s : State) (_c : PCore) (_w : Option PCore) (_r : Rank) (tag : BitVec 16) (_word : BitVec 25), s.tagCurrent tag = false) ∧
    (∃ (s : State) (_p : PortNo) (_r : Rank) (tag : BitVec 16) (_seq : BitVec 32) (_n : Nat), s.tagCurrent tag = false) ∧
    (∃ (s : State) (_l : List Nat), s.expired (.cellarPatrol []) = true ∧ s.dutyRuns 0 = false) ∧
    (∃ (s : State) (_l : List Nat), s.expired (.cellarPatrol []) = true ∧ s.dutyRuns 0 = true) ∧
    (∃ (s x : State) (path : Path), x = s.taking path (key 0x2A00 0xD) ∧ s.Takes path (key 0x2A00 0xD) 1 false) :=
  ⟨⟨{ ready [] with rcv := { State.reset.rcv with dumps := [dump] } }, [], dump, by decide +kernel, by decide +kernel⟩,
    ⟨timed .dumpBudgetTimeout { ready [] with rcv := { State.reset.rcv with resets := [chipReset], dumps := [dump] } }, chipReset,
      dump, by decide +kernel, by decide +kernel, by decide +kernel⟩,
    ⟨ready [], 0, none, 0, 0, 0, by decide +kernel⟩,
    ⟨ready [], 0, 0, 0, 0, 0, by decide +kernel⟩,
    ⟨timed (.cellarPatrol []) (ready [(key 0x1020 5, 0)]), [], by decide +kernel, by decide +kernel⟩,
    ⟨timed (.cellarPatrol []) (ready []), [], by decide +kernel, by decide +kernel⟩,
    ⟨ready [], _, .window, rfl, ⟨by decide +kernel, by decide +kernel⟩⟩⟩

end Sys2Proof.Tests
end

section
/-! Reserved indices (R11): on a key that names no entry a read ends with "no such object", and a granted write ends at its check,
so that it leaves only its grant and the count of its path. -/

namespace Sys2Proof.Machine

/-! ### ROM service while accesses are counted and granted -/

@[simp] theorem romService_begin (s : State) : s.begin.romService = s.romService := rfl

@[simp] theorem romService_grant (s : State) (a : Nat) (t lcc : Word) : (s.grant a t lcc).2.romService = s.romService := rfl

@[simp] theorem romService_countAccess (s : State) (path : Path) : (s.countAccess path).romService = s.romService := by
  have hne : key 0x1010 3 ≠ key 0x1030 (7 + Path.num path) := by unfold key; omega
  unfold State.romService State.countAccess
  rw [get_bump_ne s hne]

theorem romService_counted (s : State) (path : Path) : (s.counted path).romService = s.romService :=
  romService_countAccess s.begin path

theorem romService_taking (s : State) (path : Path) (k : Nat) : (s.taking path k).romService = s.romService :=
  romService_countAccess _ path

/-! ### Reads of a key without an entry -/

theorem readValue_noObject {s : State} {k : Nat} (hk : entryOf k = none) (hr : s.romService = false) :
    s.readValue k = (0, .noObject, 0) := by
  have href : s.readRefused k = some (.noObject, 0) := by simp [State.readRefused, hr, hk]
  simp [State.readValue, href]

theorem adpValue_noObject {s : State} (path : Path) {k : Nat} (hk : entryOf k = none) (hr : s.romService = false) :
    s.adpValue path k = (0, .noObject) := by
  simp [State.adpValue, readValue_noObject hk hr]

theorem typeCode_noObject {k : Nat} (hk : entryOf k = none) : typeCode k = 0 := by simp [typeCode, hk]

/-- An ADP_READ that is taken answers what its entry reads. -/
theorem execAdpRead_takes {s : State} {h : AdpHead} (ht : s.TakesRequest h) :
    execAdpRead h s = .next (State.settleAll ((s.counted h.path).reply h 1
      ((s.counted h.path).adpValue h.path (headKey h)).2.code (typeCode (headKey h)) 0
      (le 8 ((s.counted h.path).adpValue h.path (headKey h)).1.toNat ++
        le 8 ((s.counted h.path).statusWord (headKey h) ((s.counted h.path).adpValue h.path (headKey h)).2).toNat))) := by
  unfold execAdpRead
  rw [adpIn_takes s h _ ht]
  rfl

/-! ### Writes to a key without an entry -/

theorem writeCheck_noObject {s : State} {k : Nat} (v : Word) (content : Bool) (hk : entryOf k = none)
    (hr : s.romService = false) : s.writeCheck k v content = some .noObject := by
  simp [State.writeCheck, hk, hr]

/-- A served write to no object takes its grant and its path's count, and keeps no status word. -/
theorem writeAccess_noObject {s : State} {path : Path} {k : Nat} (eid : Byte) (rank : Rank) (drain : Bool) (v : Word)
    (hp : s.pathServed path = true) (hk : entryOf k = none) (hr : s.romService = false) :
    s.begin.writeAccess path eid rank drain k v = s.taking path k := by
  have hr' : (s.taking path k).romService = false := (romService_taking s path k).trans hr
  exact granted_refused s path k v false _ .noObject hp (writeCheck_noObject v false hk hr')

theorem State.TakesRequest.pathServed {s : State} {h : AdpHead} (ht : s.TakesRequest h) : s.pathServed h.path = true := by
  obtain ⟨hserved, -, -⟩ := ht
  exact (Bool.and_eq_true_iff.mp hserved).1

/-- An ADP_WRITE that is taken writes and answers. -/
theorem execAdpWrite_takes {s : State} {h : AdpHead} (v : Word) (ht : s.TakesRequest h) :
    execAdpWrite h v s = .next (State.settleAll ((s.begin.writeAccess h.path (headEid h) (headRank h)
      (h.path == .steward || headFlag h 0) (headKey h) v).replyWrite h 2 [headKey h])) := by
  unfold execAdpWrite
  rw [adpIn_takes s h _ ht]

/-- The response is not held: a write to no object neither acts nor waits (R356). -/
theorem replyWrite_noObject {s : State} (h : AdpHead) (op : Nat) {k : Nat} (hk : entryOf k = none)
    (hs : s.status k = Stat.none) :
    s.replyWrite h op [k] = s.sendAdp h.path (headRank h) h.eid h.msg
      (adpMessage op h.tag (k / 256) (k % 256) 2 0x13 0 0 (le 8 (s.statusWord k .completed).toNat)) := by
  have hsettled : s.writeUnsettled k = false := by simp [State.writeUnsettled, hs, Stat.none]
  have hgroup : s.groupKey [k] = k := by simp [State.groupKey, hs, Stat.none]
  simp [State.replyWrite, State.writeResponse, hsettled, hgroup, hk, hs, Stat.none, WSt.code]

/-! ### Writes to a reserved index -/

/-- Every index of a transfer channel names at least its highest subindex. -/
theorem entryOf_channel_ne_none {i : Nat} (hlo : 0x6000 ≤ i) (hhi : i ≤ 0x600F) : entryOf (key i 0) ≠ none := by
  have hi : key i 0 / 256 = i := by unfold key; omega
  have hj : key i 0 % 256 = 0 := by unfold key; omega
  unfold entryOf entryAt
  rw [hi, hj]
  simp only
  rw [if_neg (by omega), if_neg (by omega), if_neg (by omega), if_neg (by omega), if_neg (by omega), if_neg (by omega),
    if_pos ⟨hlo, hhi⟩]
  exact Option.some_ne_none _

theorem chanOf_reserved {i : Nat} {j : Byte} (hres : ∀ sub : Byte, entryOf (key i sub.toNat) = none) :
    chanOf (key i j.toNat) = none := by
  have hi : key i j.toNat / 256 = i := by unfold key; omega
  unfold chanOf
  rw [dif_neg]
  rw [hi]
  rintro ⟨hlo, hhi⟩
  exact entryOf_channel_ne_none hlo hhi (hres 0)

/-- A value written outside the channels is an ordinary write of its entry. -/
theorem execRegisterWrite_value {path : Path} {index : BitVec 16} {sub : Byte} (v : Word) (s : State)
    (hc : chanOf (key index.toNat sub.toNat) = none) :
    execRegisterWrite path index sub (.value v) s = .next (s.begin.writeAccess path 0xFF 0 (s.drainFlag path)
      (key index.toNat sub.toNat) v).settleAll := by
  simp only [execRegisterWrite, hc, Option.isSome_none, Bool.false_eq_true, false_and, if_false]
  rfl

/-! ### The obligation -/

/-- Settles O11: a read finds no entry and answers "no such object"; a write is ended with it by the check of R348. -/
theorem reservedIndicesAreNoObject : Obligations.ReservedIndicesAreNoObject := by
  unfold Obligations.ReservedIndicesAreNoObject
  intro s index hres hrom
  refine ⟨?adp, ?register⟩
  case adp =>
    intro x h hindex ht hx
    have hk : entryOf (headKey h) = none := by
      subst hindex
      exact hres h.sub
    refine ⟨?read, ?write⟩
    case read =>
      subst hx
      have hv := adpValue_noObject h.path hk ((romService_counted s h.path).trans hrom)
      show execAdpRead h s = _
      rw [execAdpRead_takes ht, hv, typeCode_noObject hk]
      rfl
    case write =>
      intro y v hy hstat
      subst hy
      show execAdpWrite h v s = _
      rw [execAdpWrite_takes v ht, writeAccess_noObject _ _ _ v ht.pathServed hk hrom, replyWrite_noObject h 2 hk hstat]
  case register =>
    intro path sub v hp
    show execRegisterWrite path index sub (.value v) s = _
    rw [execRegisterWrite_value v s (chanOf_reserved hres), writeAccess_noObject _ _ _ v hp (hres sub) hrom]

end Sys2Proof.Machine
end

section
/-! Expiries (R20, R23): every command that is a timeout's expiry asks first whether its timeout is due. Before it, what a
command that settles and a granted write answer once their state is known. -/

namespace Sys2Proof.Machine

/-! ### Outcomes -/

theorem next_settleAll_congr {s t : State} (h : s = t) :
    (Host.Outcome.next s.settleAll : Host.Outcome State Fault Refusal) = .next t.settleAll := by rw [h]

/-- A granted write whose body is known ends with what its body left. -/
theorem next_granted_takes {s t : State} {path : Path} {k : Nat} {v : Word} {content : Bool} {body : Body} {e : WEnd}
    (htakes : s.Takes path k v content) (hbody : body (s.taking path k) = (t, e)) :
    (Host.Outcome.next (s.begin.granted path k v content body).settleAll : Host.Outcome State Fault Refusal) =
      .next (t.taken path k e) := by
  rw [granted_takes s path k v content body htakes, hbody]
  rfl

/-! ### A command's beginning changes nothing that a guard asks -/

@[simp] theorem expired_begin (s : State) (c : Instr) : s.begin.expired c = s.expired c := rfl

@[simp] theorem role_begin (s : State) : s.begin.role = s.role := rfl

@[simp] theorem jobDom_begin (s : State) : s.begin.jobDom = s.jobDom := rfl

@[simp] theorem pcRunning_begin (s : State) (pc : PcNo) : s.begin.pcRunning pc = s.pcRunning pc := rfl

@[simp] theorem inStage_begin (s : State) (n : Nat) : s.begin.inStage n = s.inStage n := rfl

@[simp] theorem inTransfer_begin (s : State) (k : Nat) : s.begin.inTransfer k = s.inTransfer k := rfl

/-! ### Expiries that are not due -/

theorem not_expired {s : State} {x : Instr} (h : s.expired x = false) : (!s.begin.expired x) = true := by
  simp [h]

theorem not_expired_or {s : State} {x : Instr} (h : s.expired x = false) (b : Bool) :
    (!s.begin.expired x || b) = true :=
  Bool.or_eq_true_iff.mpr (Or.inl (not_expired h))

/-- Settles O10: every expiry asks first whether its timeout is due, some together with a condition of their own, and
answers the state that the command began with where it is not. -/
theorem expiriesNotDueDoNothing : Obligations.ExpiriesNotDueDoNothing := by
  unfold Obligations.ExpiriesNotDueDoNothing
  intro c x s hx hdue
  cases c
  -- a command that is no expiry has no timeout
  all_goals cases hx
  case pcSilent | stewardHeartbeatSend | stewardTimeout | tpulseWatchTimeout | beaconLossHoldover | powerCycleDelay =>
    exact if_pos (not_expired_or hdue _)
  all_goals exact if_pos (not_expired hdue)

end Sys2Proof.Machine
end

section
/-! The Proofreader cores (R12 to R17): heartbeats, silence, and the return of a core. -/

namespace Sys2Proof.Machine

/-! ### A Proofreader core is lost (R14 to R17) -/

/-- The expiry of a running core's silence stops the core, moves its duties and raises the loss. -/
theorem execPcSilent_running {s : State} {pc : PcNo} (hdue : s.expired (.pcSilent pc) = true) (hrun : s.pcRunning pc = true) :
    exec (.pcSilent pc) s = .next (State.settleAll
      ((((s.begin.expire (.pcSilent pc)).stopPc pc).moveDuties pc).raisePcLost pc)) := by
  exact if_neg (by simp [hdue, hrun])

theorem raisePcLost_few {s : State} (pc : PcNo) (h : s.pcsLost = 1 ∨ s.pcsLost = 2) :
    s.raisePcLost pc = s.raise 0x10 pc.val [] :=
  if_neg (by omega)

theorem raisePcLost_many {s : State} (pc : PcNo) (h : 3 ≤ s.pcsLost) : s.raisePcLost pc = s.raise 0x11 0 [] :=
  if_pos h

/-- Settles O12: the raise is chosen by the count of lost cores once the silent one is stopped. -/
theorem lostProofreaderCoresAreRaised : Obligations.LostProofreaderCoresAreRaised := by
  unfold Obligations.LostProofreaderCoresAreRaised
  refine ⟨by decide, by decide, ?_⟩
  rintro s u pc hdue hrun rfl
  rw [execPcSilent_running hdue hrun]
  exact ⟨fun h => by rw [raisePcLost_few pc h], fun h => by rw [raisePcLost_many pc h]⟩

/-! ### Heartbeats and the return of a core (R14, R16) -/

theorem execPcHeartbeat_running {s : State} {pc : PcNo} (hrun : s.pcRunning pc = true) :
    exec (.pcHeartbeat pc) s =
      .next (((s.begin.arrives (.pcSilent pc) 6).send (.heartbeat pc)).arm (.pcSilent pc) silence) := by
  exact if_neg (by simp [hrun])

/-- A core that came back runs, its silence is watched again, and its duties wait to return. -/
def State.pcComesBack (s : State) (pc : PcNo) : State :=
  ((s.putN (pcKey pc) 0).setPc pc { s.pc pc with returning := true }).arm (.pcSilent pc) silence

theorem execPcReady_reset {s : State} {pc : PcNo} (hreset : s.get (pcKey pc) = 1) (hact : s.img.activating = false) :
    exec (.pcReady pc) s = .next (State.settleAll
      (if (s.begin.pcComesBack pc).activeDoms.isEmpty then (s.begin.pcComesBack pc).returnDuties
        else s.begin.pcComesBack pc)) := by
  exact if_neg (by simp [hreset, hact])

theorem pcRunning_pcComesBack (s : State) (pc : PcNo) : (s.pcComesBack pc).pcRunning pc = true :=
  beq_iff_eq.mpr (get_putN_same s (pcKey pc) 0)

theorem keepsBut_pcComesBack (s : State) (pc : PcNo) : s.KeepsBut (s.pcComesBack pc) [pcKey pc] :=
  fun _ hk => get_putN_ne s 0 (by simpa using hk)

/-- Settles O28: each command's guard holds, and its effect is read off the state that it sets. -/
theorem proofreaderCoreCommandsAct : Obligations.ProofreaderCoreCommandsAct := by
  unfold Obligations.ProofreaderCoreCommandsAct
  refine ⟨?heartbeat, ?silent, ?ready⟩
  case heartbeat =>
    intro s pc hrun
    exact ⟨_, execPcHeartbeat_running hrun, rfl, armed_arm _ _ _, rfl⟩
  case silent => exact fun s pc => execPcSilent_running
  case ready =>
    intro s pc hreset hact
    exact ⟨s.begin.pcComesBack pc, execPcReady_reset hreset hact, pcRunning_pcComesBack _ pc, armed_arm _ _ _, rfl,
      keepsBut_pcComesBack s.begin pc⟩

end Sys2Proof.Machine
end

section
/-! Firmware images (R30 to R32): their verdict, the order to activate a staged one, and the end of its activation. -/

namespace Sys2Proof.Machine

/-! ### Images are judged (R30, R31) -/

/-- The codes of object 0x1010.05 that an image can get (R30). -/
theorem imageStatus_le (image : Bytes) : imageStatus image ≤ 8 := by
  unfold imageStatus
  dsimp only
  split_ifs <;> omega

/-- Stage 2 of a cold start judges the boot flash's image. -/
theorem execImageVerified_bootFlash {s : State} (b : Bytes) (hstage : s.inStage 2 = true) (hkind : s.get (key 0x2500 2) = 0)
    (hrom : s.romService = true) :
    exec (.imageVerified (.bootFlash b)) s = .next (s.begin.judgeImage b 1).settleAll := by
  exact next_settleAll_congr (if_pos (by simp [hstage, hkind, hrom]))

/-- Stage 2 of a warm recovery judges the image store's image. -/
theorem execImageVerified_imageStore {s : State} (hstage : s.inStage 2 = true) (hkind : s.get (key 0x2500 2) = 1)
    (hrom : s.romService = true) :
    exec (.imageVerified .imageStore) s = .next (s.begin.judgeImage s.img.store s.img.source).settleAll := by
  exact next_settleAll_congr (if_pos (by simp [hstage, hkind, hrom]))

/-- A pushed image that waits for its verdict gets it, and only a rejection is raised. -/
theorem execImageVerified_staged {s u : State} (hwait : s.get (key 0x1010 5) = 1) (hopen : s.inTransfer (key 0x1010 4) = false)
    (hu : u = s.begin.putN (key 0x1010 5) (imageStatus s.img.staged)) :
    exec (.imageVerified .staged) s =
      .next (if imageStatus s.img.staged = 2 then u else u.raise 0x16 0 []).settleAll := by
  subst hu
  exact if_neg (by simp [hwait, hopen])

/-! ### An order to activate (R32) -/

theorem activateImage_idle {s : State} {wait : Bool} (hver : s.get (key 0x1010 5) = 2) (hact : s.img.activating = false)
    (hwait : s.img.waitIdle = false) (hidle : s.activeDoms = []) :
    activateImage wait s = (s.beginActivation, .progress) := by
  simp [activateImage, hver, hact, hwait, hidle]

theorem activateImage_busy {s : State} (wait : Bool) (hver : s.get (key 0x1010 5) = 2) (hact : s.img.activating = false)
    (hwait : s.img.waitIdle = false) (hbusy : s.activeDoms ≠ []) :
    activateImage wait s =
      if wait then ({ s with img := { s.img with waitIdle := true } }, .progress) else (s, .deferred) := by
  simp [activateImage, hver, hact, hwait, hbusy]

/-! ### The staged image runs (R32) -/

theorem inStage_put_ne (s : State) {k : Nat} (v : Word) (n : Nat) (hstage : key 0x2500 1 ≠ k) (hfault : key 0x2400 3 ≠ k) :
    (s.put k v).inStage n = s.inStage n := by
  have hno : (s.put k v).stageNo = s.stageNo := congrArg BitVec.toNat (get_put_ne s v hstage)
  have hf : (s.put k v).faulted = s.faulted := by
    unfold State.faulted
    rw [get_put_ne s v hfault]
  unfold State.inStage
  rw [hno, hf]
  rfl

@[simp] theorem inStage_setContent (s : State) (k : Nat) (b : Bytes) (n : Nat) :
    (s.setContent k b).inStage n = s.inStage n := rfl

theorem inStage_putN_ne (s : State) {k : Nat} (m n : Nat) (hstage : key 0x2500 1 ≠ k) (hfault : key 0x2400 3 ≠ k) :
    (s.putN k m).inStage n = s.inStage n :=
  inStage_put_ne s _ n hstage hfault

theorem inStage_putN_pcKey (s : State) (p : PcNo) (m n : Nat) : (s.putN (pcKey p) m).inStage n = s.inStage n :=
  inStage_putN_ne s m n (by unfold pcKey key; omega) (by unfold pcKey key; omega)

theorem inStage_giveDuty (s : State) (q p : PcNo) (n : Nat) : (s.giveDuty q p).inStage n = s.inStage n :=
  inStage_put_ne s _ n (by decide) (by decide)

theorem inStage_returnDuties (s : State) (n : Nat) : s.returnDuties.inStage n = s.inStage n := by
  refine keeps_foldl (P := fun t => t.inStage n = s.inStage n) (fun t p ht => ?_) _ rfl
  exact keeps_ite (P := fun t => t.inStage n = s.inStage n) ((inStage_giveDuty _ p p n).trans ht) ht

theorem inStage_runImage (s : State) (image : Bytes) (source n : Nat) : (s.runImage image source).inStage n = s.inStage n := by
  unfold State.runImage
  refine keeps_foldl (P := fun t => t.inStage n = s.inStage n) (fun t p ht => ?_) _ ?_
  · exact keeps_ite (P := fun t => t.inStage n = s.inStage n) ht ((inStage_putN_pcKey t p 0 n).trans ht)
  · rw [inStage_setContent, inStage_putN_ne (k := key 0x1010 3) _ _ n (by decide) (by decide),
      inStage_putN_ne (k := key 0x1010 2) _ _ n (by decide) (by decide),
      inStage_putN_ne (k := key 0x1010 1) _ _ n (by decide) (by decide)]
    rfl

theorem img_runImage (s : State) (image : Bytes) (source : Nat) :
    (s.runImage image source).img = { s.img with store := image, source := source } := by
  unfold State.runImage
  refine keeps_foldl (P := fun t => t.img = { s.img with store := image, source := source }) (fun t p ht => ?_) _ rfl
  exact keeps_ite (P := fun t => t.img = { s.img with store := image, source := source }) ht ht

/-- The staged image takes the running one's place, and no image is staged. -/
def State.runStaged (s : State) : State :=
  (State.runImage { s with img := { s.img with staged := [], activating := false } } s.img.staged 2).putN (key 0x1010 5) 0

/-- The duties of a core wait to return. -/
def State.awaitDuty (s : State) (p : PcNo) : State := s.setPc p { s.pc p with returning := true }

/-- The duties of the cores that were reset wait for a step boundary, or return at once with no active domain (R16). -/
def State.awaitDuties (s : State) (back : List PcNo) : State :=
  let t := back.foldl State.awaitDuty s
  if t.activeDoms.isEmpty then t.returnDuties else t

/-- What writes of the dictionary and of the cores' standings keep, the return of the cores keeps. -/
theorem awaitDuties_keeps {P : State → Prop} (c : Closed 0x200000000000001 P) {s : State} (back : List PcNo) (h : P s) :
    P (s.awaitDuties back) := by
  have hback : P (back.foldl State.awaitDuty s) :=
    keeps_foldl (fun t p ht => State.setPc_keeps (c.mono rfl) ht) back h
  exact keeps_then hback (fun h => State.returnDuties_keeps c h)

theorem inStage_runStaged (s : State) (n : Nat) : s.runStaged.inStage n = s.inStage n :=
  (inStage_putN_ne _ _ n (by decide) (by decide)).trans (inStage_runImage _ _ _ n)

theorem inStage_awaitDuties (s : State) (back : List PcNo) (n : Nat) : (s.awaitDuties back).inStage n = s.inStage n := by
  have hback : (back.foldl State.awaitDuty s).inStage n = s.inStage n :=
    keeps_foldl (P := fun t => t.inStage n = s.inStage n) (f := State.awaitDuty) (fun _ _ ht => ht) back rfl
  exact keeps_then (P := fun t => t.inStage n = s.inStage n) hback (fun h => (inStage_returnDuties _ n).trans h)

/-- What the restarted cores leave: the staged image runs, and the order to activate has completed. -/
def State.activated (s : State) : State :=
  (s.runStaged.awaitDuties (allPcs.filter (fun p => s.get (pcKey p) == 1))).endWrite (key 0x1010 6) .completed 0

theorem img_runStaged (s : State) :
    s.runStaged.img = { s.img with store := s.img.staged, source := 2, staged := [], activating := false } := by
  unfold State.runStaged
  rw [State.putN_img, img_runImage]

theorem stat_runStaged (s : State) : s.runStaged.stat = s.stat := by
  unfold State.runStaged
  rw [State.putN_stat]
  exact State.runImage_keeps (stat_closed s.stat rfl) rfl

theorem img_activated (s : State) :
    s.activated.img = { s.img with store := s.img.staged, source := 2, staged := [], activating := false } := by
  unfold State.activated
  exact State.endWrite_keeps (img_closed _ rfl) (awaitDuties_keeps (img_closed _ rfl) _ (img_runStaged s))

/-- Outside stage 2 the end of an activation that its order waited for is what follows from it. -/
theorem execImageActivationDone_ordered {s : State} (hact : s.img.activating = true) (hstage : s.inStage 2 = false)
    (hord : (s.status (key 0x1010 6)).st = .inProgress) :
    exec .imageActivationDone s = .next s.begin.activated.settleAll := by
  have hstat : ((s.begin.runStaged.awaitDuties (allPcs.filter (fun p => s.begin.get (pcKey p) == 1))).status
      (key 0x1010 6)).st = .inProgress := by
    have h := awaitDuties_keeps (stat_closed s.stat rfl) (allPcs.filter (fun p => s.begin.get (pcKey p) == 1))
      (stat_runStaged s.begin)
    unfold State.status at hord ⊢
    rw [h]
    exact hord
  have hstage' : s.begin.activated.inStage 2 = false :=
    ((inStage_awaitDuties _ _ 2).trans (inStage_runStaged _ 2)).trans hstage
  show execImageActivationDone s = _
  unfold execImageActivationDone
  rw [if_neg (by simp [hact])]
  -- the order's status ends first, and the stage is asked on the state that this leaves
  exact (if_neg (by
    rw [Bool.not_eq_true]
    exact (congrArg (fun t : State => t.inStage 2) (if_pos hstat)).trans hstage')).trans
      (next_settleAll_congr (if_pos hstat))

/-- Settles O29: an image is judged by its status, an order by whether the chip is idle, and the end of an activation leaves the
staged image as the one that runs. -/
theorem firmwareImageCommandsAct : Obligations.FirmwareImageCommandsAct := by
  unfold Obligations.FirmwareImageCommandsAct
  refine ⟨?flash, ?store, ?staged, ?idle, ?drain, ?defer, ?done⟩
  case flash => exact fun s b hstage hkind hrom => execImageVerified_bootFlash b hstage hkind hrom
  case store => exact fun s hstage hkind hrom => execImageVerified_imageStore hstage hkind hrom
  case staged =>
    intro s hwait hopen
    have hsmall : imageStatus s.img.staged < 2 ^ 64 := by have := imageStatus_le s.img.staged; omega
    refine ⟨_, execImageVerified_staged hwait hopen rfl, rfl, ?_, fun k hk => get_putN_ne _ _ (by simpa using hk)⟩
    unfold State.nat
    rw [get_putN_same, BitVec.toNat_ofNat, Nat.mod_eq_of_lt hsmall]
  case idle =>
    rintro s x path rfl htakes hver hact hwait hidle
    exact next_granted_takes htakes (activateImage_idle hver hact hwait hidle)
  case drain =>
    rintro s x path rfl htakes hver hact hwait hbusy
    exact next_granted_takes htakes (activateImage_busy true hver hact hwait hbusy)
  case defer =>
    rintro s x path rfl htakes hver hact hwait hbusy
    exact next_granted_takes htakes (activateImage_busy false hver hact hwait hbusy)
  case done =>
    intro s hact hstage hord
    have himg := img_activated s.begin
    refine ⟨s.begin.activated, execImageActivationDone_ordered hact hstage hord, ?_, ?_, ?_, ?_⟩
    · rw [himg]; rfl
    · rw [himg]
    · rw [himg]
    · exact congrArg Stat.st (status_setStatus_same _ _ _)

end Sys2Proof.Machine
end

section
/-! The steward's link (R29) and the recovery of a job of several chips (R53, R123, R203). -/

namespace Sys2Proof.Machine

/-! ### The steward's link (R29) -/

@[simp] theorem now_arrives (s : State) (c : Instr) (cls : Nat) : (s.arrives c cls).now = s.now :=
  State.arrives_keeps (now_closed s.now rfl) rfl

@[simp] theorem job_arrives (s : State) (c : Instr) (cls : Nat) : (s.arrives c cls).job = s.job :=
  State.arrives_keeps (job_closed s.job rfl) rfl

theorem resumeJob_eq_self {s : State} (h : s.job.resume = false) : s.resumeJob = s := if_pos (by simp [h])

/-- The steward's heartbeat goes to every other chip of the job, and the next one is armed. -/
def State.sendBeats (s : State) : State :=
  let t := (s.toWorkers .heartbeat).put (key 0x2C00 9) s.now
  t.arm .stewardHeartbeatSend (us (t.roleVal (key 0x2C00 5)))

theorem execStewardHeartbeatSend_steward {s : State} (hdue : s.expired .stewardHeartbeatSend = true) (hrole : s.role = 2) :
    exec .stewardHeartbeatSend s = .next s.begin.sendBeats.resumeJob.settleAll := by
  exact if_neg (by simp [hdue, hrole])

theorem keepsBut_sendBeats (s : State) : s.KeepsBut s.sendBeats [key 0x2C00 9] :=
  fun _ hk => get_put_ne _ _ (by simpa using hk)

/-- A worker that hears its steward notes the time, and the loss timeout begins anew. -/
def State.hearsSteward (s : State) : State :=
  let t := s.arrives .stewardTimeout 4
  (t.put (key 0x2C00 9) t.now).arm .stewardTimeout (us (t.roleVal (key 0x2C00 6)))

theorem execStewardHeartbeat_heard {s : State} {env : Env} (h : s.TakesFrame env 1) (hlost : s.get (key 0x2C00 7) = 0) :
    exec (.stewardHeartbeat env) s = .next s.begin.hearsSteward.resumeJob.settleAll := by
  show Host.Outcome.next (s.framed env 1 _) = _
  rw [framed_takes s env 1 _ h]
  exact next_settleAll_congr (if_neg (not_not_intro hlost))

theorem execStewardHeartbeat_late {s : State} {env : Env} (h : s.TakesFrame env 1) (hlost : s.get (key 0x2C00 7) ≠ 0) :
    exec (.stewardHeartbeat env) s = .next s.begin.late.settleAll := by
  show Host.Outcome.next (s.framed env 1 _) = _
  rw [framed_takes s env 1 _ h]
  exact next_settleAll_congr (if_pos hlost)

/-- The steward is declared lost. -/
def State.losesSteward (s : State) : State := (s.expire .stewardTimeout).putN (key 0x2C00 7) 1

theorem execStewardTimeout_worker {s : State} (hdue : s.expired .stewardTimeout = true) (hrole : s.role = 1) :
    exec .stewardTimeout s = .next (State.settleAll
      (s.begin.losesSteward.raise 0x12 (match s.jobDom with | some d => d.val | none => 0) [])) := by
  exact if_neg (by simp [hdue, hrole])

theorem losesSteward_eq {s : State} (hdue : s.expired .stewardTimeout = true) :
    s.losesSteward = ((s.grant (arbiterOf .stewardTimeout).1 (s.expiryStamp .stewardTimeout) 0).2.disarm
      .stewardTimeout).putN (key 0x2C00 7) 1 := by
  unfold State.losesSteward
  rw [expire_eq hdue]

/-! ### Ports, routes and ranks of the job (R53, R123, R203) -/

theorem execStartReportDeadline_job {s : State} {d : Dom} (hdue : s.expired .startReportDeadline = true)
    (hdom : s.jobDom = some d) :
    exec .startReportDeadline s = .next (State.settleAll
      ((((s.begin.expire .startReportDeadline).endStart.toWorkers (.discard d)).discardStart d).stewardArm d)) := by
  show execStartReportDeadline s = _
  simp only [execStartReportDeadline, expired_begin, jobDom_begin, hdue, hdom, Bool.not_true, Bool.false_eq_true, if_false]
  rfl

@[simp] theorem get_disturbLinks (s : State) (k : Nat) : s.disturbLinks.get k = s.get k := by
  unfold State.disturbLinks
  exact keeps_foldl (P := fun t => t.get k = s.get k) (f := fun t d => t.disturb d 12) (fun _ _ h => h) _ rfl

/-- No packet of the job was in flight at the failed port. -/
theorem portFails_none {s : State} (p : PortNo) {l : List (Dom × Nat)}
    (h : l.filter (fun x => s.disturbLinks.multi x.1 && (s.disturbLinks.dom x.1).active) = []) :
    s.portFails p l = s.disturbLinks := by
  simp only [State.portFails, h]

/-- The packets of one step of the job's domain were in flight: the steward acts on the loss, a worker reports it. -/
theorem portFails_step {s u : State} {p : PortNo} {d : Dom} {n : Nat} (hmulti : s.disturbLinks.multi d = true)
    (hact : (s.disturbLinks.dom d).active = true)
    (hu : u = (((s.disturbLinks.bump (key 0x2109 1)).putN (key 0x2109 2) (d.val * 2 ^ 48 + n)).putN (key 0x2109 3)
      p.val).raise 0x38 0 []) :
    s.portFails p [(d, n)] = if u.role = 2 then u.linkLost d n
      else (u.upDom d (fun y => { y with abandoned := some n })).toSteward (.linkLoss d n p) := by
  subst hu
  have hl : [(d, n)].filter (fun x => s.disturbLinks.multi x.1 && (s.disturbLinks.dom x.1).active) = [(d, n)] := by
    simp [hmulti, hact]
  simp only [State.portFails, hl, List.foldl_nil]
  rfl

theorem writeRoute_higher {s : State} {v : Word} (h : s.nat (key 0x2B00 6) < v.toNat) :
    writeRoute v s =
      (((s.put (key 0x2B00 6) v).disturbLinks.upJob (fun j => { j with waitRoutes := false })).restartJob, .done) := by
  have hlt : ¬ v.toNat < s.nat (key 0x2B00 6) := by omega
  have hne : v.toNat ≠ s.nat (key 0x2B00 6) := by omega
  simp only [writeRoute, hlt, hne, if_false]

theorem replaceRank_active {s u : State} {v : Word} {d : Dom} (hrole : s.role = 2) (hdom : s.jobDom = some d)
    (hact : (s.dom d).active = true)
    (hu : u = { s with job := { s.job with lost := s.job.lost.filter (fun r => decide (r.toNat ≠ v.toNat)) } }) :
    replaceRank v s = (u.jobRollback d (u.restartStep d), .done) := by
  have hjob : s.upJob (fun j => { j with lost := j.lost.filter (fun r => decide (r.toNat ≠ v.toNat)) }) = u := hu.symm
  have hdom' : u.jobDom = some d := by rw [hu]; exact hdom
  have hact' : (u.dom d).active = true := by rw [hu]; exact hact
  simp only [replaceRank, hjob, hrole, hdom', hact', ne_eq, not_true_eq_false, if_false, if_true]

/-- Settles O31: each expiry and frame meets its guard, each write its checks, and what follows is read off the state that the
command leaves before the model settles. -/
theorem stewardLinkAndRecoveryAct : Obligations.StewardLinkAndRecoveryAct := by
  unfold Obligations.StewardLinkAndRecoveryAct
  refine ⟨⟨?beats, ?heard, ?late, ?lost⟩, ?deadline, ?noPacket, ?packet, ?port, ?route, ?rank⟩
  case beats =>
    intro s hdue hrole
    exact ⟨s.begin.sendBeats, execStewardHeartbeatSend_steward hdue hrole, fun hres => resumeJob_eq_self hres,
      get_put_same _ _ _, armed_arm _ _ _, rfl, rfl, keepsBut_sendBeats s.begin⟩
  case heard =>
    intro s env h hlost
    refine ⟨s.begin.hearsSteward, execStewardHeartbeat_heard h hlost, fun hres => resumeJob_eq_self ?_, ?_, armed_arm _ _ _⟩
    · exact (congrArg Steward.resume (job_arrives s.begin .stewardTimeout 4)).trans hres
    · exact (get_put_same _ _ _).trans (now_arrives s.begin _ _)
  case late => exact fun s env h hlost => execStewardHeartbeat_late h hlost
  case lost =>
    intro s hdue hrole
    have heq := losesSteward_eq (s := s.begin) hdue
    refine ⟨s.begin.losesSteward, execStewardTimeout_worker hdue hrole, get_putN_same _ _ _, ?_, ?_, ?_⟩
    · rw [heq]; rfl
    · rw [heq]; exact armed_disarm _ _
    · intro k hk
      rw [heq]; exact get_putN_ne _ _ (by simpa using hk)
  case deadline => exact fun s d hdue hdom => execStartReportDeadline_job hdue hdom
  case noPacket =>
    intro s p l h
    exact next_settleAll_congr (portFails_none p h)
  case packet =>
    rintro s x p d n rfl hmulti hact
    exact ⟨_, next_settleAll_congr (portFails_step hmulti hact rfl), rfl⟩
  case port => exact fun s p l => rfl
  case route =>
    rintro s x path v rfl htakes hlt
    exact ⟨_, next_granted_takes htakes (writeRoute_higher hlt), (get_disturbLinks _ _).trans (get_put_same _ _ _), rfl, rfl⟩
  case rank =>
    rintro s x path v d rfl htakes hrole hdom hact
    exact ⟨_, next_granted_takes htakes (replaceRank_active hrole hdom hact rfl), rfl⟩

end Sys2Proof.Machine
end

section
/-! Global time (R33, R34, R39): what every command leaves of it, and the tick. -/

namespace Sys2Proof.Machine

/-! ### Global time is left alone -/

/-- A probe's event is stamped within the tick, and the tick's time is put back before the model settles. -/
theorem now_stamped_settled (s : State) (act : State → State) : (s.stamped act).settleAll.now = s.now :=
  State.settleAll_keeps (now_closed s.now rfl) rfl

theorem execProbeEvent_now {s t : State} {c : PCore} {unit : Fin 8} {n : Nat} {ev : ProbeEv}
    (h : execProbeEvent c unit n ev s = .next t) : t.now = s.now := by
  unfold execProbeEvent at h
  dsimp only at h
  split at h
  · exact (congrArg State.now (Host.Outcome.next.inj h).symm).trans rfl
  · exact (congrArg State.now (Host.Outcome.next.inj h).symm).trans (now_stamped_settled _ _)

/-- Only the commands of movesTime, and the stamp of a probe's event, write global time. -/
theorem cmask_now {c : Instr} (h : movesTime c = false) (hp : ∀ core unit n ev, c ≠ .probeEvent core unit n ev) :
    cmask c &&& 0x40000000000000008 = 0 := by
  cases c
  case probeEvent core unit n ev => exact absurd rfl (hp core unit n ev)
  case loadAtPulse | tpulseEdge | beaconExchange | refclkReturn | registerWrite | adpWrite | adpGroupWrite | porstRelease
    | brownOutEnd => exact absurd h (by simp [movesTime, startsCold])
  all_goals
    rw [cmask]
    rfl

/-- A command that may not move global time leaves it. -/
theorem exec_now {c : Instr} {s t : State} (h : movesTime c = false) (hs : exec c s = .next t) : t.now = s.now := by
  by_cases hp : ∃ core unit n ev, c = .probeEvent core unit n ev
  · obtain ⟨core, unit, n, ev, rfl⟩ := hp
    exact execProbeEvent_now hs
  · have hm := cmask_now h (fun core unit n ev e => hp ⟨core, unit, n, ev, e⟩)
    obtain ⟨u, hu, hnow⟩ := exec_keeps c (now_closed s.now hm) rfl
    rw [hs] at hu
    exact (congrArg State.now (Host.Outcome.next.inj hu)).trans hnow

/-! ### Global time never decreases (R33) -/

theorem toNat_saturated (n : Nat) : (BitVec.ofNat 64 (min n (2 ^ 64 - 1))).toNat = min n (2 ^ 64 - 1) := by
  rw [BitVec.toNat_ofNat]
  omega

theorem t_le_jump (s : State) (n : Nat) : s.t ≤ (s.jump n).t := by
  have hlt : s.t < 2 ^ 64 := s.now.isLt
  have hj : (s.jump n).t = min (s.t + n) (2 ^ 64 - 1) := toNat_saturated _
  omega

/-- The count of the tick: units and 2^-32 units. -/
def State.tickCount (s : State) : Nat := s.t * 2 ^ 32 + s.tb.frac.toNat + s.nat (key 0x1200 7)

theorem t_addTick (s : State) : s.addTick.t = min (s.tickCount / 2 ^ 32) (2 ^ 64 - 1) := by
  unfold State.t State.addTick
  exact toNat_saturated _

theorem frac_addTick (s : State) : s.addTick.tb.frac.toNat = s.tickCount % 2 ^ 32 := by
  unfold State.addTick
  exact BitVec.toNat_ofNat _ _

theorem t_le_tickCount (s : State) : s.t ≤ s.tickCount / 2 ^ 32 := by
  unfold State.tickCount
  omega

theorem t_le_addTick (s : State) : s.t ≤ s.addTick.t := by
  have hlt : s.t < 2 ^ 64 := s.now.isLt
  have hcount := t_le_tickCount s
  rw [t_addTick]
  omega

/-- Global time has reached n: kept by all that does not set it back. -/
theorem reached_closed (n : Nat) {m : Nat} (d : m &&& 0x8 = 0) : Closed m (fun s => n ≤ s.t) := by
  refine closed_but (fun f hf => ?_) d
  cases f
  case now_ => exact absurd hf (by decide)
  case jump_ => exact fun s k h => h.trans (t_le_jump s k)
  all_goals
    simp only [Fld.Closes]
    intros
    assumption

theorem cmask_reached {c : Instr} (h : startsCold c = false) (hp : ∀ core unit n ev, c ≠ .probeEvent core unit n ev) :
    cmask c &&& 0x8 = 0 := by
  cases c
  case probeEvent core unit n ev => exact absurd rfl (hp core unit n ev)
  case porstRelease | brownOutEnd => exact absurd h (by simp [startsCold])
  all_goals
    rw [cmask]
    rfl

theorem t_le_exec {c : Instr} {s t : State} (h : startsCold c = false) (hs : exec c s = .next t) : s.t ≤ t.t := by
  by_cases hp : ∃ core unit n ev, c = .probeEvent core unit n ev
  · obtain ⟨core, unit, n, ev, rfl⟩ := hp
    exact (congrArg BitVec.toNat (execProbeEvent_now hs)).ge
  · have hm := cmask_reached h (fun core unit n ev e => hp ⟨core, unit, n, ev, e⟩)
    obtain ⟨u, hu, hle⟩ := exec_keeps c (reached_closed s.t hm) (le_refl s.t)
    rw [hs] at hu
    exact hle.trans (congrArg State.t (Host.Outcome.next.inj hu)).ge

/-! ### Timeouts are signalled once (R20) -/

theorem ready_signalled (x : Timer) (now : Nat) (at_ : Word) :
    Timer.ready (if x.ready now then { x with fired := some at_ } else x) now = false := by
  by_cases h : x.ready now = true
  · rw [if_pos h]
    simp [Timer.ready]
  · rw [if_neg h]
    simpa using h

/-- The expiry that is signalled is the expiry of its timeout. -/
theorem timerOf_signalOf (s : State) (c : Instr) (i : Nat) : timerOf (s.signalOf c i) = timerOf c := by
  cases c <;> rfl

/-- What the tick puts at the end of the queue: the expiries of the timeouts that are ready, with their free values. -/
theorem pending_signalAll (s : State) : s.signalAll.pending =
    s.pending ++ (s.timers.filter (fun x => x.ready s.t)).zipIdx.map
      (fun x => s.signalOf x.1.cmd (s.free + 2 ^ 20 * x.2)) := by
  simp only [State.signalAll]

theorem timers_signalAll (s : State) : s.signalAll.timers =
    s.timers.map (fun x => if x.ready s.t then { x with fired := some s.now } else x) := by
  simp only [State.signalAll]

@[simp] theorem now_signalAll (s : State) : s.signalAll.now = s.now := by
  simp only [State.signalAll]

@[simp] theorem tb_signalAll (s : State) : s.signalAll.tb = s.tb := by
  simp only [State.signalAll]

theorem t_signalAll (s : State) : s.signalAll.t = s.t := congrArg BitVec.toNat (now_signalAll s)

/-- A signalled command is the expiry of a timeout that was ready, and that now is marked as signalled. -/
theorem mem_pending_signalAll {s : State} (hp : s.pending = []) {c : Instr} (hc : c ∈ s.signalAll.pending) :
    ∃ x ∈ s.signalAll.timers, timerOf c = timerOf x.cmd ∧ x.fired = some s.signalAll.now ∧ x.due ≤ s.signalAll.t := by
  rw [pending_signalAll, hp, List.nil_append] at hc
  obtain ⟨⟨x, i⟩, hx, rfl⟩ := List.mem_map.mp hc
  obtain ⟨hmem, hready⟩ := List.mem_filter.mp (List.fst_mem_of_mem_zipIdx hx)
  have hdue : x.due ≤ s.t := by
    simp only [Timer.ready, Bool.and_eq_true, decide_eq_true_eq] at hready
    exact hready.2
  rw [timers_signalAll, now_signalAll, t_signalAll]
  exact ⟨{ x with fired := some s.now }, List.mem_map.mpr ⟨x, hmem, if_pos hready⟩, timerOf_signalOf _ _ _, rfl, hdue⟩

/-- After it no timeout is ready. -/
theorem not_ready_signalAll {s : State} {x : Timer} (hx : x ∈ s.signalAll.timers) : x.ready s.signalAll.t = false := by
  rw [timers_signalAll] at hx
  rw [t_signalAll]
  obtain ⟨y, -, rfl⟩ := List.mem_map.mp hx
  exact ready_signalled y _ _

/-! ### The tick (R34) -/

/-- What follows the count of the tick leaves global time and the time base as the count left them. -/
theorem tick_timeBase (s : State) : s.tick.now = s.addTick.now ∧ s.tick.tb = s.addTick.tb := by
  have hdrain : ((s.addTick.traceDrain 4).tickLatches.answerWaits).now = s.addTick.now :=
    State.answerWaits_keeps (now_closed _ rfl) (State.tickLatches_keeps (now_closed _ rfl)
      (State.traceDrain_keeps (now_closed _ rfl) rfl))
  have htb : ((s.addTick.traceDrain 4).tickLatches.answerWaits).tb = s.addTick.tb :=
    State.answerWaits_keeps (tb_closed _ rfl) (State.tickLatches_keeps (tb_closed _ rfl)
      (State.traceDrain_keeps (tb_closed _ rfl) rfl))
  exact ⟨(now_signalAll _).trans hdrain, (tb_signalAll _).trans htb⟩

theorem t_le_tick (s : State) : s.t ≤ s.tick.t := by
  have ht : s.tick.t = s.addTick.t := congrArg BitVec.toNat (tick_timeBase s).1
  rw [ht]
  exact t_le_addTick s

/-- Settles O7: each command writes the fields of its mask, and global time is among them for the listed commands alone; a jump
and the tick go forward. -/
theorem globalTimeNeverDecreases : Obligations.GlobalTimeNeverDecreases := by
  unfold Obligations.GlobalTimeNeverDecreases
  refine ⟨?monotone, fun c s t h hs => exec_now h hs⟩
  intro s t hcold hs
  unfold step at hs
  cases hp : s.pending with
  | nil =>
    rw [hp] at hs
    rw [← Host.Outcome.next.inj hs]
    exact t_le_tick s.begin
  | cons c rest =>
    rw [hp] at hs hcold
    exact t_le_exec (s := { s with pending := rest }) (hcold c rfl) hs

theorem pending_addTick (s : State) : s.addTick.pending = s.pending := by
  rw [addTick_eq]

/-- What follows the count of the tick leaves the queue as it was. -/
theorem pending_tick (s : State) (hp : s.pending = []) :
    ((s.addTick.traceDrain 4).tickLatches.answerWaits).pending = [] :=
  State.answerWaits_keeps (pending_closed _ rfl) (State.tickLatches_keeps (pending_closed _ rfl)
    (State.traceDrain_keeps (pending_closed _ rfl) ((pending_addTick s).trans hp)))

/-- Below the end of the 64 bits the tick adds the addend of object 0x1200.07 to global time and its fraction. -/
theorem addTick_exact {s : State} (h : s.tickCount < 2 ^ 96) :
    s.addTick.t * 2 ^ 32 + s.addTick.tb.frac.toNat = s.tickCount := by
  rw [t_addTick, frac_addTick]
  omega

/-- Settles O2: the tick counts, what follows it leaves the time base, and the last of it signals the timeouts. -/
theorem emptyQueueTicks : Obligations.EmptyQueueTicks := by
  unfold Obligations.EmptyQueueTicks
  refine ⟨by decide +kernel, fun s hp => ⟨s.begin.tick, ?step, ?count, ?signalled, ?once⟩⟩
  case step =>
    unfold step
    rw [hp]
  case count =>
    intro h
    obtain ⟨hnow, htb⟩ := tick_timeBase s.begin
    have ht : s.begin.tick.t = s.begin.addTick.t := congrArg BitVec.toNat hnow
    rw [ht, htb]
    exact addTick_exact (s := s.begin) h
  case signalled =>
    intro c hc
    exact mem_pending_signalAll (pending_tick s.begin hp) hc
  case once => exact fun _ hx => not_ready_signalAll hx

end Sys2Proof.Machine
end

section
/-! Loads of global time and pulses (R37, R246, R379). -/

namespace Sys2Proof.Machine

theorem writeLoad_pulse {s : State} {path : Path} {v : Word} (hmode : s.nat (key 0x1200 2) = 0)
    (hv : s.t ≤ v.toNat + s.nat (key 0x1200 6)) :
    writeLoad path v s =
      (State.showTime { s with tb := { s.tb with pendingLoad := some (v, path), base := max s.tb.base 1 } }, .progress) := by
  have hlt : ¬ v.toNat + s.nat (key 0x1200 6) < s.t := by omega
  simp only [writeLoad, hmode, hlt, if_false, Nat.reduceEqDiff]
  rfl

theorem writeLoad_host {s : State} {path : Path} {v : Word} (hmode : s.nat (key 0x1200 2) = 2) (hv : s.t ≤ v.toNat) :
    writeLoad path v s = (s.load v.toNat 0, .done) := by
  have hlt : ¬ v.toNat < s.t := by omega
  simp only [writeLoad, hmode, hlt, if_true, if_false, Nat.reduceEqDiff]

/-- A pulse that a load waits for loads global time, and the watch for pulses begins. -/
theorem execTpulseEdge_load {s : State} {w : Fin 7} {v : Word} {p : Path} (hmode : s.nat (key 0x1200 2) = 0)
    (hload : s.tb.pendingLoad = some (v, p)) (hv : s.t + w.val ≤ v.toNat + s.nat (key 0x1200 6)) :
    exec (.tpulseEdge w) s = .next (State.settleAll (State.armWatch
      ((s.begin.load (v.toNat + s.nat (key 0x1200 6)) w.val).endWrite (key 0x1200 4) .completed 0))) := by
  have hlt : ¬ v.toNat + s.begin.nat (key 0x1200 6) < s.begin.t + w.val := Nat.not_lt.mpr hv
  have hmode' : ¬ s.begin.nat (key 0x1200 2) ≠ 0 := not_not_intro hmode
  show execTpulseEdge w s = _
  simp only [execTpulseEdge, hmode', State.begin_tb, hload, hlt, if_false]
  rfl

/-- A pulse with no load pending measures the offset, once global time is set. -/
theorem execTpulseEdge_measure {s : State} {w : Fin 7} (hmode : s.nat (key 0x1200 2) = 0)
    (hload : s.tb.pendingLoad = none) (hset : s.tb.timeSet = true) :
    exec (.tpulseEdge w) s = .next (s.begin.pulse (s.t + w.val)).settleAll := by
  have hmode' : ¬ s.begin.nat (key 0x1200 2) ≠ 0 := not_not_intro hmode
  show execTpulseEdge w s = _
  simp only [execTpulseEdge, hmode', State.begin_tb, hload, hset, if_false, if_true]
  rfl

theorem execTpulseWatchTimeout_due {s : State} (hdue : s.expired .tpulseWatchTimeout = true)
    (hmode : s.nat (key 0x1200 2) = 0) :
    exec .tpulseWatchTimeout s = .next ((s.begin.expire .tpulseWatchTimeout).enterHoldover).settleAll := by
  have hmode' : s.begin.nat (key 0x1200 2) = 0 := hmode
  exact if_neg (by simp [hdue, hmode'])

/-- Settles O39: the mode and the pending load choose the branch of each command. -/
theorem pulseCommandsSetTime : Obligations.PulseCommandsSetTime := by
  unfold Obligations.PulseCommandsSetTime
  refine ⟨?waits, ?host, ?load, ?measure, ?missing⟩
  case waits =>
    rintro s x path v rfl htakes hmode hv
    exact next_granted_takes htakes (writeLoad_pulse hmode hv)
  case host =>
    rintro s x path v rfl htakes hmode hv
    exact next_granted_takes htakes (writeLoad_host hmode hv)
  case load => exact fun s w v p hmode hload hv => execTpulseEdge_load hmode hload hv
  case measure => exact fun s w hmode hload hset => execTpulseEdge_measure hmode hload hset
  case missing => exact fun s hdue hmode => execTpulseWatchTimeout_due hdue hmode

end Sys2Proof.Machine
end

section
/-! Beacons (R38 to R40) and the reference clock (R41). -/

namespace Sys2Proof.Machine

@[simp] theorem beacons_begin (s : State) : s.begin.beacons = s.beacons := rfl

@[simp] theorem beaconMode_begin (s : State) : s.begin.beaconMode = s.beaconMode := rfl

@[simp] theorem isRoot_begin (s : State) : s.begin.isRoot = s.isRoot := rfl

/-! ### Beacon periods (R38) -/

/-- An exchange that did not complete is counted. -/
def State.countsOpenExchange (s : State) : State := if s.tb.beacon.isSome then s.bump (key 0x1201 9) else s

/-- The worker asks for the time, and the next period begins. -/
def State.asksTime (s : State) : State :=
  let t := s.countsOpenExchange
  let t := (t.upTb (fun b => { b with beacon := some t.now })).send (.beacon t.now)
  t.arm .beaconPeriod (us (t.nat (key 0x1201 3)))

/-- The count of an exchange that did not complete writes one object. -/
theorem countsOpenExchange_put (s : State) :
    s.countsOpenExchange = s ∨ ∃ v, s.countsOpenExchange = s.put (key 0x1201 9) v := by
  unfold State.countsOpenExchange
  split
  · exact Or.inr (bumpBy_put s (key 0x1201 9) 1)
  · exact Or.inl rfl

theorem asksTime_sends {s : State} (hout : s.out = []) :
    s.asksTime.tb = { s.tb with beacon := some s.now } ∧ s.asksTime.out = [.beacon s.now] ∧
      s.asksTime.armed .beaconPeriod = true ∧
      s.asksTime = { s with out := s.asksTime.out, dict := s.asksTime.dict, tb := s.asksTime.tb, timers := s.asksTime.timers } ∧
      s.KeepsBut s.asksTime [key 0x1201 9] := by
  unfold State.asksTime
  rcases countsOpenExchange_put s with h | ⟨v, h⟩
  · rw [h]
    exact ⟨rfl, congrArg (· ++ [Out.beacon s.now]) hout, armed_arm _ _ _, rfl, fun _ _ => rfl⟩
  · rw [h]
    exact ⟨rfl, congrArg (· ++ [Out.beacon s.now]) hout, armed_arm _ _ _, rfl,
      fun k hk => get_put_ne s v (by simpa using hk)⟩

theorem execBeaconPeriod_asks {s : State} (hdue : s.expired .beaconPeriod = true) (hb : s.beacons = true) :
    exec .beaconPeriod s = .next s.begin.asksTime.settleAll := by
  show execBeaconPeriod s = _
  simp only [execBeaconPeriod, expired_begin, beacons_begin, hdue, hb, Bool.not_true, Bool.false_eq_true, if_false]
  rfl

theorem execBeaconPeriod_stops {s : State} (hdue : s.expired .beaconPeriod = true) (hb : s.beacons = false) :
    exec .beaconPeriod s = .next (s.begin.expire .beaconPeriod) := by
  show execBeaconPeriod s = _
  simp only [execBeaconPeriod, expired_begin, beacons_begin, hdue, hb, Bool.not_true, Bool.not_false, Bool.false_eq_true,
    if_false, if_true]

/-! ### Exchanges (R38 to R40) -/

/-- The round trip of an exchange less its residence where that is reported, and the offset that it measures. -/
def State.roundTrip (s : State) (t1 t2 t3 t4 : Word) (n : Nat) : Int :=
  (t4.toNat : Int) - t1.toNat - ((t3.toNat : Int) - t2.toNat) - (if s.get (key 0x1201 5) = 1 then (n : Int) else 0)

def State.exchangeOffset (s : State) (t1 t2 t3 t4 : Word) (n : Nat) : Int :=
  (t2.toNat : Int) - t1.toNat - (s.roundTrip t1 t2 t3 t4 n / 2 + (s.get (key 0x1201 6)).toInt)

/-- An exchange ends: its time and its round trip are shown, the watch for silence begins anew, and it ends a holdover. -/
def State.endsExchange (s : State) (rt : Int) : State :=
  let t := (s.arrives .beaconLossHoldover 4).armBeaconLoss
  let t := ((t.put (key 0x1201 7) t.now).put (key 0x1201 8) (BitVec.ofInt 64 rt)).fresh
  t.2.upTb (fun b => { b with
    beacon := none, holdover := false
    base := if b.base = 2 ∨ t.1.getLsbD 0 then 2 else 1
    timeSet := b.timeSet || b.base == 2 || t.1.getLsbD 0 })

theorem execBeaconExchange_awaited {s : State} {t1 t2 t3 t4 : Word} {n : Nat} (h : s.tb.beacon = some t1) :
    exec (.beaconExchange t1 t2 t3 t4 n) s =
      .next ((((s.begin.endsExchange (s.roundTrip t1 t2 t3 t4 n)).measure (s.exchangeOffset t1 t2 t3 t4 n)).correct
        (Config.beaconFilter s.tb.offset (s.exchangeOffset t1 t2 t3 t4 n))).showTime).settleAll := by
  show execBeaconExchange t1 t2 t3 t4 n s = _
  exact if_neg (not_not_intro h)

theorem execBeaconExchange_late {s : State} {t1 t2 t3 t4 : Word} {n : Nat} (h : s.tb.beacon ≠ some t1) :
    exec (.beaconExchange t1 t2 t3 t4 n) s = .next s.begin.late := by
  show execBeaconExchange t1 t2 t3 t4 n s = _
  exact if_pos h

theorem execBeaconLossHoldover_due {s : State} (hdue : s.expired .beaconLossHoldover = true) (hmode : s.beaconMode = true) :
    exec .beaconLossHoldover s = .next ((s.begin.expire .beaconLossHoldover).enterHoldover).settleAll := by
  exact if_neg (by simp [hdue, hmode])

theorem execBeaconAtTimeRoot_root {s : State} {r : Rank} {t1 : Word} (h : s.isRoot = true) :
    exec (.beaconAtTimeRoot r t1) s = .next { s with out := [.beaconReply r t1 s.now s.now] } := by
  exact if_neg (by simp [h])

/-! ### The reference clock (R41) -/

theorem execRefclkLoss_first {s : State} (h : s.tb.refLost = false) :
    exec .refclkLoss s = .next (State.settleAll
      (State.raise { s with out := [], tb := { s.tb with refLost := true } } 0x14 0 [])) := by
  exact if_neg (by simp [h])

/-- The tick runs on the backup oscillator from now on, and the changeover is counted. -/
def State.changesOver (s : State) : State :=
  (s.upTb (fun b => { b with backup := true, since := s.now })).bump (key 0x1200 0xD)

theorem execBackupChangeover_lost {s : State} (hlost : s.tb.refLost = true) (hb : s.tb.backup = false) :
    exec .backupChangeover s = .next s.begin.changesOver.showTime.settleAll := by
  exact if_neg (by simp [hlost, hb])

theorem changesOver_eq (s : State) : ∃ v, s.changesOver =
    (s.upTb (fun b => { b with backup := true, since := s.now })).put (key 0x1200 0xD) v :=
  bumpBy_put _ _ _

/-- What stands of the reference's loss once it is back. -/
def State.refReturned (s : State) : State :=
  { s with free := s.free + 1, tb := { s.tb with refLost := false, backup := false } }

/-- In free run, or before a changeover, the reference's return leaves no offset to correct. -/
theorem execRefclkReturn_uncorrected {s : State} (hlost : s.tb.refLost = true)
    (h : (s.tb.backup && s.nat (key 0x1200 2) ≠ 2) = false) :
    exec .refclkReturn s = .next s.begin.refReturned.showTime.settleAll := by
  have hlost' : ¬ (!s.begin.tb.refLost) = true := by simp [hlost]
  show execRefclkReturn s = _
  unfold execRefclkReturn
  rw [if_neg hlost']
  exact next_settleAll_congr (congrArg State.showTime (if_neg (Bool.eq_false_iff.mp h)))

/-- Settles O40: each command's guard is met, and what it leaves before the model settles is read off its branch. -/
theorem beaconAndReferenceCommandsKeepTime : Obligations.BeaconAndReferenceCommandsKeepTime := by
  unfold Obligations.BeaconAndReferenceCommandsKeepTime
  refine ⟨⟨?asks, ?exchange, ?late, ?stops, ?silence, ?root⟩, ?loss, ?changeover, ?freeRun, ?unchanged⟩
  case asks => exact fun s hdue hb => ⟨_, execBeaconPeriod_asks hdue hb, asksTime_sends (s := s.begin) rfl⟩
  case exchange =>
    exact fun s t1 t2 t3 t4 n h => ⟨_, _, execBeaconExchange_awaited h, rfl, rfl, rfl, armed_arm _ _ _⟩
  case late => exact fun s t1 t2 t3 t4 n h => execBeaconExchange_late h
  case stops =>
    intro s hdue hb
    have heq := expire_eq (s := s.begin) hdue
    refine ⟨_, execBeaconPeriod_stops hdue hb, ?_, ?_⟩
    · rw [heq]; exact armed_disarm _ _
    · rw [heq]; rfl
  case silence => exact fun s hdue hmode => execBeaconLossHoldover_due hdue hmode
  case root => exact fun s r t1 h => execBeaconAtTimeRoot_root h
  case loss => exact fun s h => execRefclkLoss_first h
  case changeover =>
    intro s hlost hb
    obtain ⟨v, hv⟩ := changesOver_eq s.begin
    refine ⟨_, execBackupChangeover_lost hlost hb, ?_, ?_, ?_, fun hroom => bump_counts _ _ hroom⟩
    · rw [hv]; rfl
    · rw [hv]; rfl
    · intro k hk
      rw [hv]
      exact get_put_ne _ v (by simpa using hk)
  case freeRun => exact fun s hlost hmode => execRefclkReturn_uncorrected hlost (by simp [hmode])
  case unchanged => exact fun s hlost hb => execRefclkReturn_uncorrected hlost (by simp [hb])

end Sys2Proof.Machine
end

section
/-! Frames of the steward path that name no domain (R53, R220, R221, R239, R289, R291). -/

namespace Sys2Proof.Machine

/-! ### What frames share -/

/-- A frame that is taken in its role acts, and then what follows settles. -/
theorem next_framed_takes {s t : State} {env : Env} {role : Nat} {act : State → State} (h : s.TakesFrame env role)
    (hact : act s.begin = t) :
    (Host.Outcome.next (s.framed env role act) : Host.Outcome State Fault Refusal) = .next t.settleAll := by
  rw [framed_takes s env role act h, hact]

theorem armed_armAt (s : State) (c : Instr) (n : Nat) : (s.armAt c n).armed c = true := by
  simp [State.armed, findTimer, State.armAt, List.find?_append, List.find?_filter]

@[simp] theorem partner_begin (s : State) : s.begin.partner = s.partner := rfl

/-! ### Starts and lost ranks (R53, R239) -/

theorem takeStatus_none {s : State} (d : Dom) (r : Rank) (st : Byte) (h : s.job.armT = none) :
    s.takeStatus d r st = s.late := if_pos (by simp [h])

theorem takeStatus_failed {s : State} (d : Dom) (r : Rank) {st : Byte} (h : s.job.armT ≠ none) (hst : st = 3 ∨ st = 4) :
    s.takeStatus d r st = s.startFailed d :=
  (if_neg (by simpa using h)).trans (if_pos hst)

/-- A start report is kept in place of the rank's earlier one; with the last one in, the deadline is met. -/
theorem job_takeStatus {s : State} (d : Dom) (r : Rank) {st : Byte} (h : s.job.armT ≠ none) (h3 : st ≠ 3) (h4 : st ≠ 4) :
    (s.takeStatus d r st).job =
      { s.job with arms := s.job.arms.filter (fun a => decide (a.1 ≠ r)) ++ [(r, st)] } := by
  have harm : ¬ s.job.armT.isNone = true := by simpa using h
  unfold State.takeStatus
  rw [if_neg harm, if_neg (not_or.mpr ⟨h3, h4⟩)]
  exact keeps_ite (P := fun t => t.job = _) (job_arrives _ _ _) rfl

/-- The steward notes that a rank is lost. -/
def State.losesRank (s : State) (r : Rank) : State :=
  s.upJob (fun j => { j with lost := j.lost.filter (fun q => decide (q ≠ r)) ++ [r] })

theorem supersedeNarrow_none {s : State} (h : s.job.narrow = none) : s.supersedeNarrow = s := by
  simp only [State.supersedeNarrow, h]

theorem stewardFailure_rankEnded {s : State} (d : Dom) (r : Rank) (h : s.job.narrow = none) :
    s.stewardFailure d r .rankEnded = s.losesRank r := by
  simp only [State.stewardFailure, h, Option.any_none, Bool.false_and, Bool.false_eq_true, if_false,
    supersedeNarrow_none h]
  rfl

/-! ### A chip's freeze (R289, R291) -/

/-- The steward notes whether a chip is frozen, and holds or resumes the timeouts that await it. -/
def State.takesFreezeReport (s : State) (r : Rank) (frozen : Bool) : State :=
  let l := s.job.frozen.filter (fun q => decide (q ≠ r))
  if frozen then (s.upJob (fun j => { j with frozen := l ++ [r] })).holdTimers (s.awaitsChip r)
  else
    let t := s.upJob (fun j => { j with frozen := l })
    t.resumeTimers (fun c => t.awaitsChip r c && !l.any (fun q => t.awaitsChip q c) && !t.holdsTimer c)

theorem takesFreezeReport_job (s : State) (r : Rank) (frozen : Bool) :
    (r ∈ (s.takesFreezeReport r frozen).job.frozen ↔ frozen = true) ∧
      s.takesFreezeReport r frozen =
        { s with job := (s.takesFreezeReport r frozen).job, timers := (s.takesFreezeReport r frozen).timers } := by
  cases frozen
  · refine ⟨?_, rfl⟩
    have hfrozen : (s.takesFreezeReport r false).job.frozen = s.job.frozen.filter (fun q => decide (q ≠ r)) := rfl
    rw [hfrozen]
    simp
  · refine ⟨?_, rfl⟩
    have hfrozen : (s.takesFreezeReport r true).job.frozen = s.job.frozen.filter (fun q => decide (q ≠ r)) ++ [r] := rfl
    rw [hfrozen]
    simp

theorem execFreezeFrame_steward {s : State} {env : Env} (at_ : Option Word) (h : s.TakesFrame env 2) :
    exec (.freezeFrame env at_) s = .next (s.begin.spreadFreeze env.src at_.isSome).settleAll := by
  obtain ⟨-, hrole⟩ := id h
  exact (if_pos hrole).trans (next_framed_takes h rfl)

theorem execFreezeFrame_worker {s : State} {env : Env} (at_ : Option Word) (h : s.TakesFrame env 1) :
    exec (.freezeFrame env at_) s = .next (match at_ with
      | none => s.begin.freezeTrigger 5 0 0 env.src
      | some t => s.begin.armFreeze t env.src).settleAll := by
  obtain ⟨-, hrole⟩ := id h
  have hne : ¬ s.role = 2 := by omega
  refine (if_neg hne).trans (next_framed_takes h ?_)
  cases at_ <;> rfl

/-! ### The narrowing of a divergence (R220, R221) -/

theorem takeFetch_some {s : State} {n : Narrow} (f : NarrowFetch) (h : s.job.narrow = some n) :
    s.takeFetch f = if s.narrowHeld n then
      s.upJob (fun j => { j with narrow := some { n with waiting := n.waiting ++ [f] } }) else s.narrowFetched n f := by
  simp only [State.takeFetch, h]

theorem execNarrowingFetchResponse_partner {s : State} {env : Env} {f : NarrowFetch} {n : Narrow} (h : s.TakesFrame env 2)
    (hn : s.job.narrow = some n) (hsrc : env.src = s.partner) :
    exec (.narrowingFetchResponse env f) s = .next (s.begin.takeFetch f).settleAll := by
  show execNarrowingFetchResponse env f s = _
  refine next_framed_takes h ?_
  simp only [State.begin_job, hn, partner_begin, hsrc, if_true]

theorem execWorkDigestReport_partner {s : State} {env : Env} {l : List WorkDigest} {n : Narrow} (h : s.TakesFrame env 2)
    (hn : s.job.narrow = some n) (hstage : n.stage = 3 ∨ n.stage = 4) (hsrc : env.src = s.partner) :
    exec (.workDigestReport env l) s = .next (State.settleAll (State.narrowDigests (s.begin.upJob (fun j => { j with
      narrow := some { n with digests := n.digests.filter (fun x => decide (x.1 ≠ env.src)) ++ [(env.src, l)] } })))) := by
  show execWorkDigestReport env l s = _
  refine next_framed_takes h ?_
  have hguard : (n.stage = 3 ∨ n.stage = 4) ∧ env.src = s.begin.partner := ⟨hstage, hsrc⟩
  simp only [State.begin_job, hn, hguard, and_self, if_true]

/-- Settles O33: each frame is taken in its role, and what it does to the steward's record is the branch that its premises
choose. -/
theorem stewardFramesOfTheChipAct : Obligations.StewardFramesOfTheChipAct := by
  unfold Obligations.StewardFramesOfTheChipAct
  refine ⟨?lateStart, ?failed, ?status, ?faultAlone, ?faultJob, ?fault, ?freezeReport, ?fetch, ?digests, ?spread, ?freeze,
    ?timed⟩
  case lateStart =>
    intro s env st d h hdom hT
    refine next_framed_takes h ?_
    simp only [jobDom_begin, hdom]
    exact takeStatus_none d env.src st hT
  case failed =>
    intro s env st d h hdom hT hst
    refine next_framed_takes h ?_
    simp only [jobDom_begin, hdom]
    exact takeStatus_failed d env.src hT hst
  case status =>
    intro s env st d h hdom hT h3 h4
    have hjob := job_takeStatus (s := s.begin) d env.src hT h3 h4
    refine ⟨s.begin.takeStatus d env.src st, next_framed_takes h ?_, ?_, ?_⟩
    · simp only [jobDom_begin, hdom]
    · rw [hjob]; simp
    · rw [hjob]; rfl
  case faultAlone =>
    intro s env h hdom
    refine next_framed_takes h ?_
    simp only [jobDom_begin, hdom]
    rfl
  case faultJob =>
    intro s env d h hdom hn
    refine next_framed_takes h ?_
    simp only [jobDom_begin, hdom]
    exact stewardFailure_rankEnded (s := s.begin) d env.src hn
  case fault =>
    intro s env d h hdom
    refine next_framed_takes h ?_
    simp only [jobDom_begin, hdom]
  case freezeReport =>
    intro s env frozen h
    exact ⟨s.begin.takesFreezeReport env.src frozen, next_framed_takes h rfl, takesFreezeReport_job s.begin env.src frozen⟩
  case fetch =>
    intro s env f n h hn hsrc
    exact (execNarrowingFetchResponse_partner h hn hsrc).trans (next_settleAll_congr (takeFetch_some (s := s.begin) f hn))
  case digests => exact fun s env l n h hn hstage hsrc => execWorkDigestReport_partner h hn hstage hsrc
  case spread => exact fun s env at_ h => execFreezeFrame_steward at_ h
  case freeze => exact fun s env h => execFreezeFrame_worker none h
  case timed =>
    exact fun s env t h => ⟨s.begin.armFreeze t env.src, execFreezeFrame_worker (some t) h, get_put_same _ _ _, rfl,
      armed_armAt _ _ _⟩

end Sys2Proof.Machine
end

section
/-! Frames of the steward path that name the job's domain (R53, R102, R113, R120, R123, R125, R126, R190, R220). -/

namespace Sys2Proof.Machine

/-- A frame of the job's domain that is taken in its role acts, and then what follows settles. -/
theorem next_framedFor_takes {s t : State} {env : Env} {role : Nat} {d : Dom} {act : State → State}
    (h : s.TakesFor env role d) (hact : act s.begin = t) :
    (Host.Outcome.next (s.framedFor env role d act) : Host.Outcome State Fault Refusal) = .next t.settleAll := by
  rw [framedFor_takes s env role d act h, hact]

/-! ### The job proven step (R125) -/

/-- A chip's job proven step reaches what it is told. -/
theorem proven_jobClearHere (s : State) (d : Dom) (n m : Nat) :
    ∃ q, (s.jobClearHere d n (some m)).job.proven = some q ∧ m ≤ q := by
  unfold State.jobClearHere State.upJob
  dsimp only
  split
  · rename_i a b _ hb
    cases hb
    exact ⟨_, rfl, le_max_right _ _⟩
  · rename_i hb
    cases hb
  · exact ⟨m, rfl, le_refl m⟩

/-! ### A start in step is discarded (R53) -/

theorem armKey_ne_status (d : Dom) : domKey 0x1220 0xA d ≠ key 0x1220 3 := by
  unfold domKey key
  omega

theorem armOf_dropArm_same (s : State) (d : Dom) : (s.dropArm d).armOf d = 0 := by
  have hput : (s.putN (domKey 0x1220 0xA d) 0).armOf d = 0 := congrArg BitVec.toNat (get_putN_same s _ 0)
  unfold State.dropArm
  dsimp only
  split
  · assumption
  · exact keeps_ite (P := fun t => t.armOf d = 0) hput hput

theorem get_dropArm_ne (s : State) (d : Dom) {k : Nat} (h : k ≠ domKey 0x1220 0xA d) : (s.dropArm d).get k = s.get k := by
  unfold State.dropArm
  dsimp only
  split
  · rfl
  · exact keeps_ite (P := fun t => t.get k = s.get k) (get_putN_ne s 0 h) (get_putN_ne s 0 h)

theorem discardStart_running {s : State} {d : Dom} (h : (s.dom d).running = true) :
    s.discardStart d = (s.putN (key 0x1220 3) 6).rollback d ((s.putN (key 0x1220 3) 6).stepOf d) none := if_pos h

theorem discardStart_armed {s : State} {d : Dom} (h : (s.dom d).running = false) :
    s.discardStart d = (s.putN (key 0x1220 3) 6).dropArm d :=
  if_neg (Bool.eq_false_iff.mp h)

theorem discardStart_armed_shows {s : State} {d : Dom} (h : (s.dom d).running = false) :
    (s.discardStart d).armOf d = 0 ∧ (s.discardStart d).get (key 0x1220 3) = 6 := by
  rw [discardStart_armed h]
  exact ⟨armOf_dropArm_same _ d, (get_dropArm_ne _ d (armKey_ne_status d).symm).trans (get_putN_same s _ 6)⟩

/-! ### The steward holds a domain (R165, R220) -/

/-- The barriers after step n are held. -/
def State.heldByJob (s : State) (d : Dom) (n : Nat) : State := s.upDom d (fun x => { x with jobHeld := some (n + 1) })

theorem execStewardHoldOrder_divergence {s : State} {env : Env} {d : Dom} {n : Nat} (h : s.TakesFor env 1 d) :
    exec (.stewardHoldOrder env d (some (n, none))) s = .next (State.settleAll
      (if s.lockstep d = 2 then ((s.begin.heldByJob d n).putN (key 0x2C10 6) 2).upJob (fun j => { j with diverged := some n })
        else s.begin.heldByJob d n)) :=
  next_framedFor_takes h rfl

/-- Settles O32: each frame is taken in its role, and its act is the branch of its operands. -/
theorem stewardFramesOfTheJobAct : Obligations.StewardFramesOfTheJobAct := by
  unfold Obligations.StewardFramesOfTheJobAct
  refine fun s env d => ⟨fun h => ⟨?report, ?proofFailure, ?taint, ?poison, ?failure, ?request, ?link, ?sparing⟩,
    fun h => ⟨?clear, ?remoteTaint, ?discard, ?issue, ?hold, ?diverged, ?mirror, ?priority, ?rollback⟩⟩
  case report => exact fun n p c => next_framedFor_takes h rfl
  case proofFailure => exact fun ranks many => next_framedFor_takes h rfl
  case taint => exact fun ranks many => next_framedFor_takes h rfl
  case poison => exact next_framedFor_takes h rfl
  case failure => exact fun k => next_framedFor_takes h rfl
  case request => exact fun k n i => next_framedFor_takes h rfl
  case link => exact fun n p => next_framedFor_takes h rfl
  case sparing => exact next_framedFor_takes h rfl
  case clear =>
    refine fun n p => ⟨_, next_framedFor_takes h rfl, rfl, ?_⟩
    rintro m rfl
    exact proven_jobClearHere s.begin d n m
  case remoteTaint => exact fun n => next_framedFor_takes h rfl
  case discard =>
    exact ⟨_, next_framedFor_takes h rfl, rfl, fun hrun => discardStart_running (s := s.begin) hrun,
      fun hrun => discardStart_armed_shows (s := s.begin) hrun⟩
  case issue => exact fun k n r i => next_framedFor_takes h rfl
  case hold => exact next_framedFor_takes h rfl
  case diverged =>
    intro n hlock
    exact (execStewardHoldOrder_divergence h).trans (next_settleAll_congr (if_neg hlock))
  case mirror =>
    intro n hlock
    exact ⟨_, (execStewardHoldOrder_divergence h).trans (next_settleAll_congr (if_pos hlock)), get_putN_same _ _ 2, rfl, rfl⟩
  case priority => exact fun n k => next_framedFor_takes h rfl
  case rollback => exact fun target inc => ⟨_, next_framedFor_takes h rfl, rfl⟩

end Sys2Proof.Machine
end

section
/-! What reaches a probe (R4, R35, R36, R77, R78, R118, R296, R301) and the clock that resumes (R50, R55). -/

namespace Sys2Proof.Machine

/-! ### Probe events -/

/-- What a probe takes, after the edges of its core's clock, at the unit of the tick that the interpolator gave. -/
def State.probeTook (s : State) (c : PCore) (unit : Fin 8) (n : Nat) (ev : ProbeEv) : State :=
  (State.addEdges { s with
    out := [], free := s.free + 1
    now := BitVec.ofNat 64 (min (s.t + (Config.freeWord s.free).toNat % 7) (2 ^ 64 - 1)) } c n).probeTakes c unit ev

theorem execProbeEvent_present {s : State} {c : PCore} {unit : Fin 8} {n : Nat} {ev : ProbeEv} (h : s.fp c ≠ 4) :
    exec (.probeEvent c unit n ev) s = .next ({ s.probeTook c unit n ev with now := s.now } : State).settleAll :=
  if_neg h

theorem execProbeEvent_absent {s : State} {c : PCore} {unit : Fin 8} {n : Nat} {ev : ProbeEv} (h : s.fp c = 4) :
    exec (.probeEvent c unit n ev) s = .next { s with out := [] } :=
  if_pos h

theorem issueWork_step {x : State} {w : Work} {d : Dom} {n : Nat} (horigin : w.origin = .step d n)
    (hclass : x.classOn w = true) :
    x.issueWork w = x.upStep d n (fun r => { r with cores := r.cores.map (fun y =>
      if y.phys = w.core then { y with work := y.work ++ [(w.engine, w.item)] } else y) }) := by
  simp only [State.issueWork, horigin, hclass, if_true]

/-- Which work is checked does not hang on an engine's progress. -/
theorem classOn_putProgress (x : State) (c : PCore) (e : EngineNo) (v : Word) (w : Work) :
    (x.put (engKey c e 8) v).classOn w = x.classOn w := by
  have hkey (d : Dom) : domKey 0x2001 1 d ≠ engKey c e 8 := by
    unfold domKey engKey key
    omega
  have hchecks (d : Dom) : (x.put (engKey c e 8) v).checks d = x.checks d := by
    unfold State.checks State.valFor
    rw [State.put_staged, get_put_ne x v (hkey d)]
  unfold State.classOn
  cases w.origin with
  | proof d k n => exact congrArg (fun b : Word => b.getLsbD (switchBit w)) (hchecks d)
  | step d n => rfl
  | _ => rfl

theorem fp_putProgress (x : State) (c q : PCore) (e : EngineNo) (v : Word) : (x.put (engKey c e 8) v).fp q = x.fp q :=
  congrArg BitVec.toNat (get_put_ne x v (by unfold coreKey engKey key; omega))

/-- Work that completes under its check is timed, and the engine's progress is shown. -/
theorem completeWork_timed {x : State} {w : Work} (hclass : x.classOn w = true)
    (hfp : x.fp w.core ∉ ([2, 3, 4, 5] : List Nat)) :
    (x.completeWork w).armed (.checkTimeout w) = true ∧ (x.completeWork w).get (engKey w.core w.engine 8) = x.now := by
  have hguard : ((x.put (engKey w.core w.engine 8) x.now).classOn w &&
      (x.put (engKey w.core w.engine 8) x.now).fp w.core != 2 && (x.put (engKey w.core w.engine 8) x.now).fp w.core != 3 &&
      (x.put (engKey w.core w.engine 8) x.now).fp w.core != 4 &&
      (x.put (engKey w.core w.engine 8) x.now).fp w.core != 5) = true := by
    rw [classOn_putProgress, fp_putProgress, hclass]
    simpa [and_assoc] using hfp
  have heq : x.completeWork w = (x.put (engKey w.core w.engine 8) x.now).arm (.checkTimeout w)
      (ns ((x.put (engKey w.core w.engine 8) x.now).valOf ((stepOfOrigin (some w.origin)).map (·.1)) (key 0x2000 6))) :=
    if_pos hguard
  rw [heq]
  exact ⟨armed_arm _ _ _, get_put_same x _ _⟩

theorem probe_upProbe_same (s : State) (c : PCore) (f : Probe → Probe) : (s.upProbe c f).probe c = f (s.probe c) :=
  tabGet_tabPut_same _ _ _ _

/-! ### Resumed clocks -/

/-- The record of a resumption, its ring event, and the probe's knowledge and check timeouts. -/
def State.clockRuns (s : State) (core : PCore) (lastEdge : Word) (reason : BitVec 16) : State :=
  let t := s.event 0x013 (le 8 lastEdge.toNat ++ le 8 s.t ++ le 8 (s.lccOf core).toNat)
  let t := t.ringEvent core 7 (t.domOfCore core) 0xC reason.toNat
  (t.upProbe core (fun p => { p with stopped := false })).resumeTimers (fun c => match c with
    | .checkTimeout w => w.core == core && !(t.frz.on && core ∈ t.frz.cores)
    | _ => false)

theorem clockRuns_timeBase (s : State) (core : PCore) (lastEdge : Word) (reason : BitVec 16) :
    (s.clockRuns core lastEdge reason).tb = s.tb ∧ (s.clockRuns core lastEdge reason).now = s.now :=
  ⟨State.ringEvent_keeps (tb_closed s.tb rfl) (State.event_keeps (tb_closed s.tb rfl) rfl),
    State.ringEvent_keeps (now_closed s.now rfl) (State.event_keeps (now_closed s.now rfl) rfl)⟩

/-- A late start gets its time in the log. -/
theorem log_startLate (s : State) (c : PCore) : (s.startLate c).tb.log =
    s.tb.log.map (fun e => if e.1 = c.val + 1 ∧ e.2.2 = 0 then (e.1, e.2.1, s.now) else e) := by
  unfold State.startLate
  split <;> rfl

theorem execClockResumed_running {s : State} {c : PCore} {edge : Word} {reason : BitVec 16} (h : reason ≠ 1) :
    exec (.clockResumed c edge reason) s = .next ((s.begin.clockRuns c edge reason).startLate c).settleAll := by
  show execClockResumed c edge reason s = _
  exact next_settleAll_congr (if_neg h)

end Sys2Proof.Machine
end

section
/-! The step boundary (R43, R44, R106, R107, R112). -/

namespace Sys2Proof.Machine

/-! ### Eight step domains -/

/-- The chip has eight step domains, whatever is done. -/
theorem eightDoms_closed (m : Nat) : Closed m (fun s => s.doms.length = 8) := by
  refine closed_all (fun f => ?_) m
  cases f
  case doms_ => exact fun s d x h => (List.length_set ..).trans h
  case reinit_ => exact fun _ _ _ _ => rfl
  all_goals
    simp only [Fld.Closes]
    intros
    assumption

theorem dom_upDom_same {s : State} (d : Dom) (f : DomSt → DomSt) (h : s.doms.length = 8) :
    (s.upDom d f).dom d = f (s.dom d) :=
  dom_setDom_same s d _ h

/-! ### The barrier is tried -/

/-- The arrival at a barrier touches the records of the step alone. -/
theorem dom_arriveAll {s : State} (d : Dom) (h : s.doms.length = 8) : ∃ l, (s.arriveAll d).dom d = { s.dom d with steps := l } :=
  ⟨_, dom_upDom_same d _ h⟩

/-- Whether a barrier can be tried: its domain is active and running, and waits for no start. -/
def DomSt.tries (x : DomSt) : Prop := x.active = true ∧ x.running = true ∧ x.suspended = false

theorem tries_arriveAll {s : State} {d : Dom} (h : (s.dom d).tries) (h8 : s.doms.length = 8) :
    ((s.arriveAll d).dom d).tries ∧ ((s.arriveAll d).dom d).held = (s.dom d).held := by
  obtain ⟨l, hl⟩ := dom_arriveAll d h8
  rw [hl]
  exact ⟨h, rfl⟩

theorem DomSt.tries.guard {x : DomSt} (h : x.tries) : ¬ (!x.active || !x.running || x.suspended) = true := by
  obtain ⟨hact, hrun, hsusp⟩ := h
  simp [hact, hrun, hsusp]

/-- Nothing keeps the barrier: it completes. -/
theorem tryBarrier_free {s : State} {d : Dom} {n : Nat} {b : BitVec 13} (h : (s.dom d).tries) (hheld : (s.dom d).held = none)
    (hstep : s.stepOf d ≠ 2 ^ 48 - 1) (hfree : s.barrierHolds d = (false, false, false, false)) (hdepth : s.tooDeep d = false) :
    s.tryBarrier d n b = s.completeBarrier d n b false := by
  unfold State.tryBarrier
  dsimp only
  rw [if_neg h.guard, if_neg hstep, hfree]
  simp [hdepth, hheld]

/-- At the last step number the job ends. -/
theorem tryBarrier_last {s : State} {d : Dom} {n : Nat} {b : BitVec 13} (h : (s.dom d).tries)
    (hstep : s.stepOf d = 2 ^ 48 - 1) : s.tryBarrier d n b = (s.raise 0x15 d.val []).endJob d 5 := by
  unfold State.tryBarrier
  dsimp only
  rw [if_neg h.guard, if_pos hstep]

/-- The counts and the raise of a barrier that is held now for the first time. -/
def State.holdsFirst (s : State) (p ledger : Bool) : State :=
  let t := if p then s.bump (key 0x2105 8) else s
  if ledger then (t.bump (key 0x2107 3)).raise 0x37 0 [] else t

theorem doms_holdsFirst (s : State) (p ledger : Bool) (h : s.doms.length = 8) : (s.holdsFirst p ledger).doms.length = 8 := by
  have hbump : (if p then s.bump (key 0x2105 8) else s).doms.length = 8 :=
    keeps_then (P := fun t => t.doms.length = 8) h (fun h => State.bump_keeps (eightDoms_closed _) h)
  exact keeps_then (P := fun t => t.doms.length = 8) hbump
    (fun h => State.raise_keeps (eightDoms_closed _) (State.bump_keeps (eightDoms_closed _) h))

/-- What a barrier that is held now for the first time is held by (R106, R107, R112, R367). -/
def State.heldFirst (s : State) (d : Dom) (n : Nat) (b : BitVec 13) : Held :=
  { cycles := n, disturbed := b, since := s.now, proofing := (s.barrierHolds d).1 || s.tooDeep d,
    ledger := (s.barrierHolds d).2.1, drain := (s.barrierHolds d).2.2.1 }

@[simp] theorem now_bump (s : State) (k : Nat) : (s.bump k).now = s.now := by
  obtain ⟨v, hv⟩ := bumpBy_put s k 1
  exact (congrArg State.now hv).trans rfl

/-- What keeps the barrier holds it, with its reasons. -/
theorem tryBarrier_held {s : State} {d : Dom} {n : Nat} {b : BitVec 13} (h : (s.dom d).tries) (hheld : (s.dom d).held = none)
    (hstep : s.stepOf d ≠ 2 ^ 48 - 1) (hholds : s.barrierHolds d ≠ (false, false, false, false)) :
    s.tryBarrier d n b = (s.holdsFirst ((s.barrierHolds d).1 || s.tooDeep d) (s.barrierHolds d).2.1).upDom d
      (fun x => { x with held := some (s.heldFirst d n b) }) := by
  unfold State.tryBarrier State.heldFirst
  dsimp only
  rw [if_neg h.guard, if_neg hstep]
  rcases hr : s.barrierHolds d with ⟨p, l, r, o⟩
  have hfree : (!p && !l && !r && !o) = false := by
    refine Bool.eq_false_iff.mpr (fun hall => hholds ?_)
    simp only [Bool.and_eq_true, Bool.not_eq_true'] at hall
    obtain ⟨⟨⟨rfl, rfl⟩, rfl⟩, rfl⟩ := hall
    exact hr
  have hsince : (if (p || s.tooDeep d) = true then (if (p || s.tooDeep d) = true then s.bump (key 0x2105 8) else s).now
      else s.now) = s.now := by
    split_ifs <;> simp
  simp only [hfree, hheld, Option.getD_none, Bool.false_and, Bool.false_eq_true, if_false, Bool.not_false, Bool.and_true,
    Bool.and_false, hsince]
  rfl

/-! ### The step boundary -/

theorem execStepBoundary_tries {s : State} {d : Dom} {n : Nat} {b : BitVec 13} (hact : (s.dom d).active = true)
    (hrun : (s.dom d).running = true) (hheld : (s.dom d).held = none) :
    exec (.stepBoundary d n b) s = .next ((s.begin.arriveAll d).tryBarrier d n b).settleAll := by
  have hguard : ((s.begin.dom d).active && (s.begin.dom d).running && (s.begin.dom d).held.isNone) = true := by
    show ((s.dom d).active && (s.dom d).running && (s.dom d).held.isNone) = true
    simp [hact, hrun, hheld]
  exact if_pos hguard

theorem execStepBoundary_idle {s : State} {d : Dom} {n : Nat} {b : BitVec 13}
    (h : (s.dom d).active = false ∨ (s.dom d).running = false ∨ (s.dom d).held ≠ none) :
    exec (.stepBoundary d n b) s = .next s.begin.settleAll := by
  have hguard : ¬ ((s.begin.dom d).active && (s.begin.dom d).running && (s.begin.dom d).held.isNone) = true := by
    show ¬ ((s.dom d).active && (s.dom d).running && (s.dom d).held.isNone) = true
    rcases h with h | h | h <;> simp [h]
  exact if_neg hguard

/-- Settles O35: an event is the branch of what reaches the probe; a boundary is tried where its domain runs unheld, and what
keeps its barrier chooses the branch. -/
theorem probeEventsAndBoundariesAct : Obligations.ProbeEventsAndBoundariesAct := by
  unfold Obligations.ProbeEventsAndBoundariesAct
  refine ⟨⟨?present, ?absent, ?issued, ?completed, ?marks, ?cycles, ?drained, ?resumed⟩, ?boundary⟩
  case present => exact fun s c unit n ev h => ⟨_, execProbeEvent_present h, rfl⟩
  case absent => exact fun s c unit n ev h => execProbeEvent_absent h
  case issued => exact fun x c unit w d n horigin hclass => issueWork_step horigin hclass
  case completed => exact fun x c unit w hclass hfp => completeWork_timed hclass hfp
  case marks => exact fun x c unit d n => ⟨rfl, rfl⟩
  case cycles => exact fun x c unit b i l hunit => if_pos hunit
  case drained => exact fun x c unit => congrArg Probe.drained (probe_upProbe_same x c _)
  case resumed =>
    intro s c edge reason hreason
    obtain ⟨htb, hnow⟩ := clockRuns_timeBase s.begin c edge reason
    refine ⟨_, execClockResumed_running hreason, ?_⟩
    rw [log_startLate, htb, hnow]
    rfl
  case boundary =>
    rintro s y d n b rfl
    refine ⟨execStepBoundary_tries, fun hact hrun hheld hsusp h8 => ?_, execStepBoundary_idle⟩
    obtain ⟨htries, hheld'⟩ := tries_arriveAll (s := s.begin) (d := d) ⟨hact, hrun, hsusp⟩ h8
    rw [execStepBoundary_tries hact hrun hheld]
    refine ⟨fun hstep hfree hdepth => ?free, fun hstep hholds => ?held, fun hstep => ?last⟩
    case free => rw [tryBarrier_free htries (hheld'.trans hheld) hstep hfree hdepth]
    case held =>
      have heq := tryBarrier_held (n := n) (b := b) htries (hheld'.trans hheld) hstep hholds
      have h8' : (s.begin.arriveAll d).doms.length = 8 := (List.length_set ..).trans h8
      refine ⟨_, (s.begin.arriveAll d).heldFirst d n b, rfl, ?_, ?_⟩
      · rw [heq]
        exact congrArg DomSt.held (dom_upDom_same d _ (doms_holdsFirst _ _ _ h8'))
      · exact ⟨rfl, rfl, rfl, rfl, rfl⟩
    case last => rw [tryBarrier_last htries hstep]

end Sys2Proof.Machine
end

section
/-! The activation and the close of a step domain (R44, R45, R312). -/

namespace Sys2Proof.Machine

/-! ### The chip's role -/

/-- The role is read from one object, its staged values and the job. -/
theorem role_congr {s t : State} (hget : t.get (key 0x2C00 1) = s.get (key 0x2C00 1)) (hstaged : t.staged = s.staged)
    (hjob : t.job = s.job) : t.role = s.role := by
  unfold State.role State.roleVal State.valOf State.natFor State.valFor State.nat
  rw [hget, hstaged, hjob]

/-! ### Activation (R44, R45) -/

/-- The record of a domain that becomes active: its cores wait for the start of its first step. -/
def DomSt.activated (l : List LCore) (start : Nat) : DomSt :=
  { DomSt.idle with active := true, cores := l, start := start, suspended := true }

/-- The domain's record, its bit, its counter, its incarnation and its released, committed and provisional steps. -/
def State.loadsDomain (s : State) (d : Dom) (l : List LCore) : State :=
  let start := s.nat (domKey 0x1210 0x11 d) % 2 ^ 48
  let t := s.setDom d (DomSt.activated l start)
  let t := t.putN (key 0x1210 0x19) (t.nat (key 0x1210 0x19) ||| 2 ^ d.val)
  let t := (t.putN (domKey 0x1210 1 d) start).setIncarnation d 0
  ((t.put (domKey 0x2104 1 d) ones64).put (domKey 0x2104 9 d) ones64).putN (domKey 0x2104 0x11 d) 0

/-- The objects that the load of a domain's record writes. -/
def loadedKeys (d : Dom) : List Nat :=
  [key 0x1210 0x19, domKey 0x1210 1 d, domKey 0x2902 1 d, domKey 0x2104 1 d, domKey 0x2104 9 d, domKey 0x2104 0x11 d]

theorem keepsBut_loadsDomain (s : State) (d : Dom) (l : List LCore) : s.KeepsBut (s.loadsDomain d l) (loadedKeys d) := by
  intro k hk
  simp only [loadedKeys, List.mem_cons, List.not_mem_nil, or_false, not_or] at hk
  obtain ⟨hbit, hstep, htag, hcommitted, hreleased, hdepth⟩ := hk
  unfold State.loadsDomain State.setIncarnation
  dsimp only
  rw [get_putN_ne _ _ hdepth, get_put_ne _ _ hreleased, get_put_ne _ _ hcommitted, get_putN_ne _ _ htag,
    get_putN_ne _ _ hstep, get_putN_ne _ _ hbit]
  rfl

theorem get_loadsDomain_released (s : State) (d : Dom) (l : List LCore) :
    (s.loadsDomain d l).get (domKey 0x2104 1 d) = ones64 ∧ (s.loadsDomain d l).get (domKey 0x2104 9 d) = ones64 := by
  unfold State.loadsDomain
  dsimp only
  refine ⟨?_, ?_⟩
  · rw [get_putN_ne _ _ (by unfold domKey key; omega), get_put_ne _ _ (by unfold domKey key; omega), get_put_same]
  · rw [get_putN_ne _ _ (by unfold domKey key; omega), get_put_same]

theorem stepOf_loadsDomain (s : State) (d : Dom) (l : List LCore) :
    (s.loadsDomain d l).stepOf d = s.nat (domKey 0x1210 0x11 d) % 2 ^ 48 := by
  unfold State.stepOf State.nat State.loadsDomain State.setIncarnation
  dsimp only
  rw [get_putN_ne _ _ (by unfold domKey key; omega), get_put_ne _ _ (by unfold domKey key; omega),
    get_put_ne _ _ (by unfold domKey key; omega), get_putN_ne _ _ (by unfold domKey key; omega), get_putN_same,
    BitVec.toNat_ofNat]
  exact Nat.mod_eq_of_lt (lt_of_lt_of_le (Nat.mod_lt _ (by decide)) (by decide))

theorem getLsbD_setBit (n : Nat) (d : Dom) : (BitVec.ofNat 64 (n ||| 2 ^ d.val)).getLsbD d.val = true := by
  have hd : d.val < 64 := by omega
  rw [BitVec.getLsbD_ofNat, Nat.testBit_or, Nat.testBit_two_pow_self]
  simp [hd]

theorem activeBit_loadsDomain (s : State) (d : Dom) (l : List LCore) :
    ((s.loadsDomain d l).get (key 0x1210 0x19)).getLsbD d.val = true := by
  unfold State.loadsDomain State.setIncarnation
  dsimp only
  rw [get_putN_ne _ _ (by unfold domKey key; omega), get_put_ne _ _ (by unfold domKey key; omega),
    get_put_ne _ _ (by unfold domKey key; omega), get_putN_ne _ _ (by unfold domKey key; omega),
    get_putN_ne _ _ (by unfold domKey key; omega), get_putN_same]
  exact getLsbD_setBit _ d

theorem role_loadsDomain (s : State) (d : Dom) (l : List LCore) : (s.loadsDomain d l).role = s.role :=
  role_congr (keepsBut_loadsDomain s d l _ (by
    simp only [loadedKeys, List.mem_cons, List.not_mem_nil, or_false, not_or, domKey, key]; omega)) rfl rfl

theorem takeJob_none {s : State} (d : Dom) (h : s.role = 0) : s.takeJob d = s := if_neg (fun hc => hc.1 h)

/-- With no margin probe under way none ends. -/
theorem endProbe_none {s : State} (h : s.probings = []) (c : PCore) : s.endProbe c = s := by
  have hnone : s.probing? c = none := by
    rw [State.probing?, h]
    rfl
  simp only [State.endProbe, hnone]

/-- What follows the load of a domain: the job, the plan's count, the ends of probes, the pair's status and the steward's arm. -/
def State.afterLoad (s old : State) (d : Dom) : State :=
  let t := (s.takeJob d).planChanged (poolChanges old s)
  let t := (t.physCores d).foldl (fun u c => u.endProbe c) t
  let t := if t.nat (key 0x2C10 3) = d.val ∧ t.get (key 0x2C10 1) ≠ 0 then t.putN (key 0x2C10 6) 1 else t
  if t.multi d ∧ t.role = 2 then t.stewardArm d else t

theorem activate_eq (s : State) (d : Dom) (l : List LCore) : s.activate d l = (s.loadsDomain d l).afterLoad s d := rfl

/-- What follows the load of a domain in a chip without a role and without a margin probe: it writes two objects alone. -/
structure State.FollowsLoad (s t : State) : Prop where
  doms : t.doms = s.doms
  staged : t.staged = s.staged
  job : t.job = s.job
  probings : t.probings = s.probings
  keeps : s.KeepsBut t [key 0x1300 7, key 0x2C10 6]

theorem State.FollowsLoad.refl (s : State) : s.FollowsLoad s := ⟨rfl, rfl, rfl, rfl, fun _ _ => rfl⟩

theorem State.FollowsLoad.put {s t : State} (h : s.FollowsLoad t) {k : Nat} (hk : k ∈ [key 0x1300 7, key 0x2C10 6])
    (v : Word) : s.FollowsLoad (t.put k v) :=
  ⟨h.doms, h.staged, h.job, h.probings,
    fun j hj => (get_put_ne t v (fun e : j = k => hj (e.symm ▸ hk))).trans (h.keeps j hj)⟩

theorem State.FollowsLoad.role {s t : State} (h : s.FollowsLoad t) : t.role = s.role :=
  role_congr (h.keeps _ (by decide)) h.staged h.job

theorem State.FollowsLoad.bumpBy {s t : State} (h : s.FollowsLoad t) {k : Nat} (hk : k ∈ [key 0x1300 7, key 0x2C10 6])
    (n : Nat) : s.FollowsLoad (t.bumpBy k n) := by
  obtain ⟨v, hv⟩ := bumpBy_put t k n
  rw [hv]
  exact h.put hk v

/-- What follows the load of a domain writes the floor plan's count of changes and the pair's status alone. -/
theorem followsLoad_activate {s : State} (d : Dom) (l : List LCore) (hrole : s.role = 0) (hprobe : s.probings = []) :
    (s.loadsDomain d l).FollowsLoad (s.activate d l) := by
  have hrole0 : (s.loadsDomain d l).role = 0 := (role_loadsDomain s d l).trans hrole
  have hend (cs : List PCore) (t : State) (ht : (s.loadsDomain d l).FollowsLoad t) :
      (s.loadsDomain d l).FollowsLoad (cs.foldl (fun u c => u.endProbe c) t) :=
    keeps_foldl (fun u c hu => (endProbe_none (hu.probings.trans hprobe) c).symm ▸ hu) cs ht
  have harm (t : State) (ht : (s.loadsDomain d l).FollowsLoad t) :
      (s.loadsDomain d l).FollowsLoad (if t.multi d ∧ t.role = 2 then t.stewardArm d else t) := by
    rw [if_neg (fun hc => by have h0 := ht.role.trans hrole0; omega)]
    exact ht
  have htake : (s.loadsDomain d l).FollowsLoad ((s.loadsDomain d l).takeJob d) := by
    rw [takeJob_none d hrole0]
    exact State.FollowsLoad.refl _
  rw [activate_eq]
  unfold State.afterLoad
  exact harm _ (keeps_then (hend _ _ (htake.bumpBy (by decide) _)) (fun h => h.put (by decide) _))

theorem get_activate {s : State} (d : Dom) (l : List LCore) (hrole : s.role = 0) (hprobe : s.probings = []) {k : Nat}
    (hk : k ∉ [key 0x1300 7, key 0x2C10 6]) : (s.activate d l).get k = (s.loadsDomain d l).get k :=
  (followsLoad_activate d l hrole hprobe).keeps k hk

theorem dom_activate {s : State} (d : Dom) (l : List LCore) (hrole : s.role = 0) (hprobe : s.probings = [])
    (h8 : s.doms.length = 8) :
    (s.activate d l).dom d = DomSt.activated l (s.nat (domKey 0x1210 0x11 d) % 2 ^ 48) := by
  have hload : (s.loadsDomain d l).dom d = DomSt.activated l (s.nat (domKey 0x1210 0x11 d) % 2 ^ 48) :=
    dom_setDom_same s d _ h8
  rw [← hload]
  exact congrArg (fun x : List DomSt => x.getD d.val DomSt.idle) (followsLoad_activate d l hrole hprobe).doms

theorem activateDomain_free {s : State} {d : Dom} (hstage : s.stageNo = 9)
    (hmask : maskCores (s.content (domKey 0x1303 1 d)) ≠ []) (hact : (s.dom d).active = false) (htag : s.tagTaken d = false)
    (hbusy : s.maskBusy (maskCores (s.content (domKey 0x1303 1 d))) = false) :
    activateDomain d s = (s.activate d (maskCores (s.content (domKey 0x1303 1 d))), .done) := by
  have hguard : ((maskCores (s.content (domKey 0x1303 1 d))).isEmpty || (s.dom d).active || s.tagTaken d) = false := by
    simp [hmask, hact, htag]
  simp only [activateDomain, hstage, hguard, hbusy, ne_eq, not_true_eq_false, Bool.false_eq_true, if_false]

/-! ### Close (R45) -/

theorem closeDomain_running {s : State} {d : Dom} (hact : (s.dom d).active = true) (hrun : (s.dom d).running = true) :
    closeDomain d s = (s.upDom d (fun y => { y with closing := some (s.stepOf d) }), .progress) := by
  simp only [closeDomain, hact, hrun, Bool.not_true, Bool.false_eq_true, if_false, if_true]

theorem closeDomain_committed {s : State} {d : Dom} (hact : (s.dom d).active = true) (hrun : (s.dom d).running = false)
    (hbase : s.stepOf d ≤ (s.dom d).base) : closeDomain d s = (s.deactivate d, .done) := by
  simp only [closeDomain, hact, hrun, hbase, Bool.not_true, Bool.false_eq_true, if_false, if_true]

end Sys2Proof.Machine
end

section
/-! Starts in step (R47 to R53, R386). -/

namespace Sys2Proof.Machine

/-! ### A written arm (R47, R48) -/

/-- No domain of the mask has settings that differ from its pair's: none is refused, and the state is left alone. -/
theorem settingsDiffer_all {s : State} (l : List Dom) (h : ∀ d ∈ l, s.settingsDiffer d = (false, s)) :
    l.foldl (fun (a : Bool × State) d => let (b, t) := a.2.settingsDiffer d; (a.1 || b, t)) (false, s) = (false, s) := by
  induction l with
  | nil => rfl
  | cons d l ih =>
    rw [List.foldl_cons, h d List.mem_cons_self]
    exact ih (fun e he => h e (List.mem_cons_of_mem d he))

theorem armStart_armed {s : State} {path : Path} {t : Word} (hstage : s.stageNo = 9) (hmask : s.startMask ≠ [])
    (hout : s.armOutcomes s.startMask t.toNat = 1) (hsame : ∀ d ∈ s.startMask, s.settingsDiffer d = (false, s)) :
    armStart path t s = ((s.startMask.foldl (fun (u : State) d => u.armDomain d t.toNat)
        ((s.putN (key 0x1220 3) 1).put (key 0x1220 1) t)).reportArm path 1, .done) := by
  have hempty : s.startMask.isEmpty = false := by simp [hmask]
  simp only [armStart, hstage, hempty, hout, ne_eq, not_true_eq_false, Bool.false_eq_true, if_false, if_true,
    settingsDiffer_all _ hsame]

/-! ### A cancel (R51) -/

theorem cancelStart_armed {s : State} (h : s.startMask.filter (fun d => decide (s.armOf d ≠ 0)) ≠ []) :
    ∃ u : State, cancelStart s = (u.putN (key 0x1220 3) 5, .done) := by
  have hempty : ¬ (s.startMask.filter (fun d => decide (s.armOf d ≠ 0))).isEmpty = true := by simpa using h
  exact ⟨_, if_neg hempty⟩

/-! ### T is reached (R49, R50) -/

/-- The spread of the starts touches objects 0x1220.07 and .08 alone. -/
theorem get_starts_ne (s : State) (t : Word) (cores : List PCore) {k : Nat} (h7 : k ≠ key 0x1220 7)
    (h8 : k ≠ key 0x1220 8) : (s.starts t cores).get k = s.get k := by
  unfold State.starts
  dsimp only
  split
  · rfl
  · exact (get_putN_ne _ _ h8).trans (get_putN_ne _ _ h7)

theorem execStartTimeReached_due {s : State} {t : Word} (h : s.expired (.startTimeReached t) = true) :
    ∃ (x : State) (n : Nat) (cores : List PCore), exec (.startTimeReached t) s =
        .next ((x.putN (key 0x1220 3) n).starts t cores).settleAll ∧ (n = 7 ∨ n = 8 ∨ n = 2) := by
  have hdue : ¬ (!s.begin.expired (.startTimeReached t)) = true := by simp [h]
  refine ⟨_, _, _, if_neg hdue, ?_⟩
  split_ifs <;> simp

/-! ### Phory arms a refused domain again (R386) -/

theorem armedFor_armDomain (s : State) (d : Dom) {t : Nat} (ht : t < 2 ^ 64) :
    (s.armDomain d t).armOf d = t ∧ (s.armDomain d t).armed (.startTimeReached (BitVec.ofNat 64 t)) = true := by
  have hput : ((s.dropArm d).putN (domKey 0x1220 0xA d) t).armOf d = t := by
    unfold State.armOf State.nat
    rw [get_putN_same, BitVec.toNat_ofNat, Nat.mod_eq_of_lt ht]
  unfold State.armDomain
  dsimp only
  split
  · exact ⟨hput, by assumption⟩
  · exact ⟨hput, armed_armAt _ _ _⟩

theorem get_armDomain_ne (s : State) (d : Dom) (t : Nat) {k : Nat} (h : k ≠ domKey 0x1220 0xA d) :
    (s.armDomain d t).get k = s.get k := by
  have hput : ((s.dropArm d).putN (domKey 0x1220 0xA d) t).get k = s.get k :=
    (get_putN_ne _ _ h).trans (get_dropArm_ne s d h)
  exact keeps_ite (P := fun u => u.get k = s.get k) hput hput

theorem phoryArm_armed {s : State} {d : Dom} (hfault : s.faulted = false) (hact : (s.dom d).active = true)
    (hout : s.armOutcome (some d) (s.leadTime d) = 1) :
    s.phoryArm d = State.armDomain { s.putN (key 0x1220 3) 1 with
      tb := { s.tb with refusedArms := s.tb.refusedArms.filter (fun r => decide (r.1 ≠ d)) } } d (s.leadTime d) := by
  simp only [State.phoryArm, hfault, hact, hout, Bool.not_true, Bool.or_self, Bool.false_eq_true, if_false, if_true]
  rfl

/-- A domain that Phory arms is armed for the lead time, its status shows it, and no refusal of it is left. -/
theorem phoryArm_shows {s : State} {d : Dom} (hfault : s.faulted = false) (hact : (s.dom d).active = true)
    (hout : s.armOutcome (some d) (s.leadTime d) = 1) (hlead : s.leadTime d < 2 ^ 64) :
    (s.phoryArm d).armOf d = s.leadTime d ∧
      (s.phoryArm d).armed (.startTimeReached (BitVec.ofNat 64 (s.leadTime d))) = true ∧
      (s.phoryArm d).get (key 0x1220 3) = 1 ∧ ∀ r ∈ (s.phoryArm d).tb.refusedArms, r.1 ≠ d := by
  rw [phoryArm_armed hfault hact hout]
  obtain ⟨harm, harmed⟩ := armedFor_armDomain { s.putN (key 0x1220 3) 1 with
      tb := { s.tb with refusedArms := s.tb.refusedArms.filter (fun r => decide (r.1 ≠ d)) } } d hlead
  refine ⟨harm, harmed, ?_, ?_⟩
  · exact (get_armDomain_ne _ d _ (armKey_ne_status d).symm).trans (get_putN_same s _ 1)
  · intro r hr
    rw [State.armDomain_keeps (tb_closed { s.tb with refusedArms := s.tb.refusedArms.filter (fun r => decide (r.1 ≠ d)) } rfl)
      rfl] at hr
    simpa using (List.mem_filter.mp hr).2

theorem execRearmOnCauseGone_own {s : State} {d : Dom} (h : s.tb.refusedArms.find? (fun r => r.1 == d) = some (d, false))
    (hmulti : s.multi d = false) :
    exec (.rearmOnCauseGone d) s = .next ((s.begin.disarm (.rearmOnCauseGone d)).phoryArm d).settleAll := by
  have hmulti' : (s.begin.disarm (.rearmOnCauseGone d)).multi d = false := hmulti
  have h' : (s.begin.disarm (.rearmOnCauseGone d)).tb.refusedArms.find? (fun r => r.1 == d) = some (d, false) := h
  show execRearmOnCauseGone d s = _
  simp only [execRearmOnCauseGone, h', hmulti', Bool.false_and, Bool.false_eq_true, if_false]

theorem execRearmOnCauseGone_steward {s : State} {d : Dom}
    (h : s.tb.refusedArms.find? (fun r => r.1 == d) = some (d, true)) (hstatus : s.get (key 0x1200 3) = 2)
    (hmulti : s.multi d = true) (hrole : s.role = 2) :
    exec (.rearmOnCauseGone d) s = .next ((s.begin.disarm (.rearmOnCauseGone d)).stewardArm d).settleAll := by
  have hmulti' : (s.begin.disarm (.rearmOnCauseGone d)).multi d = true := hmulti
  have hrole' : (s.begin.disarm (.rearmOnCauseGone d)).role = 2 := hrole
  have hstatus' : (s.begin.disarm (.rearmOnCauseGone d)).get (key 0x1200 3) = 2 := hstatus
  have h' : (s.begin.disarm (.rearmOnCauseGone d)).tb.refusedArms.find? (fun r => r.1 == d) = some (d, true) := h
  show execRearmOnCauseGone d s = _
  simp only [execRearmOnCauseGone, h', hmulti', hrole', hstatus', bne_self_eq_false, Bool.and_false, Bool.false_eq_true,
    if_false, beq_self_eq_true, Bool.and_self, if_true]

/-- The doors of an access leave the eight domains. -/
theorem eightDoms_taking {s : State} (path : Path) (k : Nat) (h : s.doms.length = 8) : (s.taking path k).doms.length = 8 :=
  State.countAccess_keeps (eightDoms_closed _) h

/-- Settles O30: each write meets its checks and each expiry its guard, and what the command shows is read off the state that it
sets. -/
theorem startCommandsAct : Obligations.StartCommandsAct := by
  unfold Obligations.StartCommandsAct
  refine ⟨?activate, ?closeRunning, ?closeCommitted, ?arm, ?cancel, ?reached, ?own, ?steward⟩
  case activate =>
    rintro s x path d rfl htakes hstage hmask hact htag hbusy
    refine ⟨_, next_granted_takes htakes (activateDomain_free hstage hmask hact htag hbusy), rfl, fun h8 hrole hprobe => ?_⟩
    have hget {k : Nat} (hk : k ∉ [key 0x1300 7, key 0x2C10 6]) := get_activate d
      (maskCores ((s.taking path (domKey 0x1210 0x1A d)).content (domKey 0x1303 1 d))) hrole hprobe hk
    have hkey (i j : Nat) (hi : i ≠ 0x1300) (hi' : i ≠ 0x2C10) (hj : j < 0x100) :
        key i j ∉ [key 0x1300 7, key 0x2C10 6] := by
      simp only [List.mem_cons, List.not_mem_nil, or_false, not_or, key]
      omega
    obtain ⟨hcommitted, hreleased⟩ := get_loadsDomain_released (s.taking path (domKey 0x1210 0x1A d)) d
      (maskCores ((s.taking path (domKey 0x1210 0x1A d)).content (domKey 0x1303 1 d)))
    refine ⟨dom_activate d _ hrole hprobe (eightDoms_taking path _ h8), ?_, ?_, ?_, ?_⟩
    · rw [hget (hkey _ _ (by decide) (by decide) (by decide))]
      exact activeBit_loadsDomain _ d _
    · exact (congrArg BitVec.toNat (hget (hkey _ _ (by decide) (by decide) (by omega)))).trans (stepOf_loadsDomain _ d _)
    · exact (hget (hkey _ _ (by decide) (by decide) (by omega))).trans hcommitted
    · exact (hget (hkey _ _ (by decide) (by decide) (by omega))).trans hreleased
  case closeRunning =>
    rintro s x path d rfl htakes hact hrun
    exact next_granted_takes htakes (closeDomain_running hact hrun)
  case closeCommitted =>
    rintro s x path d rfl htakes hact hrun hbase
    exact next_granted_takes htakes (closeDomain_committed hact hrun hbase)
  case arm =>
    rintro s x path t rfl htakes hstage hmask hout hsame
    exact next_granted_takes htakes (armStart_armed hstage hmask hout hsame)
  case cancel =>
    rintro s x path rfl htakes harmed
    obtain ⟨u, hu⟩ := cancelStart_armed harmed
    exact ⟨_, next_granted_takes htakes hu, get_putN_same u _ 5⟩
  case reached =>
    intro s t hdue
    obtain ⟨x, n, cores, hexec, hn⟩ := execStartTimeReached_due hdue
    refine ⟨_, hexec, ?_⟩
    rw [get_starts_ne _ t cores (by decide) (by decide), get_putN_same]
    rcases hn with rfl | rfl | rfl <;> decide
  case own =>
    intro s d hrefused hmulti
    exact ⟨_, execRearmOnCauseGone_own hrefused hmulti, rfl,
      fun hfault hact hout hlead => phoryArm_shows (s := s.begin.disarm (.rearmOnCauseGone d)) hfault hact hout hlead⟩
  case steward => exact fun s d hrefused hstatus hmulti hrole => execRearmOnCauseGone_steward hrefused hstatus hmulti hrole

end Sys2Proof.Machine
end

section
/-! The galley checks (R57 to R78): a result at the probe is used or not, a check that is used concludes in a pass or a mismatch
of its kind, and a check that gets no result times out. -/

namespace Sys2Proof.Machine

/-! ### What a work item concludes in (R57, R80) -/

/-- A check passes where its test holds, and mismatches with its kind where it does not. -/
theorem conclude_test (s : State) (w : Work) (p : Prop) [Decidable p] (kind field : Nat) :
    s.conclude w (finding (if p then none else some kind) field) =
      if p then s.closeWork w else s.conclude w (finding (some kind) field) := by
  split <;> rfl

/-! ### Transfers (R74, R75) -/

theorem execTransferCheck_unused {s u : State} {w : Work} (t : Transfer) (h : s.begin.takeResult w 2 = (u, false)) :
    exec (.transferCheck w t) s = .next (u.closeWork w).settleAll := by
  show execTransferCheck w t s = _
  unfold execTransferCheck
  rw [h]
  rfl

theorem execTransferCheck_used {s u : State} {w : Work} (t : Transfer) (h : s.begin.takeResult w 2 = (u, true)) :
    exec (.transferCheck w t) s = .next (State.settleAll
      (if residue t.words = (t.copies * sourceResidue t.source) % resMod then (u.countCheck w 6).closeWork w
        else (u.countCheck w 6).conclude w (finding (some 12) (sourceField t.source)))) := by
  show execTransferCheck w t s = _
  unfold execTransferCheck
  simp only [h, beq_iff_eq, conclude_test]
  rfl

/-! ### Matrix tiles (R57 to R65) -/

/-- The checker's own rounding of the 64 columns is drawn, and the unchecked columns are counted (R62, R65). -/
def State.testsColumns (x : State) (cols : List (Option (Bool × Nat × Nat))) : State :=
  { x with free := x.free + 64 }.bumpBy (key 0x2002 4) (cols.filter Option.isNone).length

theorem testsColumns_frame (x : State) (cols : List (Option (Bool × Nat × Nat))) :
    x.testsColumns cols = { x with free := x.free + 64, dict := (x.testsColumns cols).dict } ∧
      x.KeepsBut (x.testsColumns cols) [key 0x2002 4] := by
  refine ⟨?_, fun k hk => get_bumpBy_ne _ _ (by simpa using hk)⟩
  obtain ⟨v, hv⟩ := bumpBy_put { x with free := x.free + 64 } (key 0x2002 4) (cols.filter Option.isNone).length
  unfold State.testsColumns
  rw [hv]
  rfl

theorem execTileCheck_unused {s u : State} {w : Work} (t : Tile) (h : s.begin.takeResult w 0 = (u, false)) :
    exec (.tileCheck w t) s = .next (u.closeWork w).settleAll := by
  show execTileCheck w t s = _
  unfold execTileCheck
  rw [h]
  rfl

/-- A tile of a tolerance format: its columns are tested against γ (R62). -/
theorem execTileCheck_tolerance {s u : State} {w : Work} {t : Tile} (h : s.begin.takeResult w 0 = (u, true))
    (hfmt : exactFormat t.fmt = none) {x : State} (hx : x = u.countCheck w 2)
    {cols : List (Option (Bool × Nat × Nat))} (hcols : cols = tileColumns t none (x.coefOf w.origin (gammaOf t.fmt)) x.free) :
    exec (.tileCheck w t) s =
      .next ((x.testsColumns cols).concludeAll w [columnFinding cols false, rounderFinding t]).settleAll := by
  subst hx hcols
  show execTileCheck w t s = _
  unfold execTileCheck
  simp only [h, hfmt, Option.map_none, Option.any_none, Bool.false_and, Bool.not_true, Bool.false_eq_true, if_false]
  rfl

/-- A tile of an exact format, not absorbed: exact inside its window, and counted and raised where it exceeds it (R60, R61). -/
theorem execTileCheck_exact {s u : State} {w : Work} {t : Tile} {f : Int × Nat} {l : Int} {wide : Bool}
    (h : s.begin.takeResult w 0 = (u, true)) (hfmt : exactFormat t.fmt = some f) (hwin : tileWindow t f.1 f.2 = (l, wide))
    (horigin : wide = true → w.origin ≠ .specimen) {x : State}
    (hx : x = if wide then (u.countCheck w 2).exceeded w t l else u.countCheck w 1)
    {cols : List (Option (Bool × Nat × Nat))}
    (hcols : cols = tileColumns t (some (l, wide)) (x.coefOf w.origin (gammaOf t.fmt)) x.free) :
    exec (.tileCheck w t) s =
      .next ((x.testsColumns cols).concludeAll w [columnFinding cols (!wide), rounderFinding t]).settleAll := by
  have habsorbed : (wide && w.origin == .specimen) = false := by
    cases wide
    · rfl
    · simpa using horigin rfl
  subst hx hcols
  show execTileCheck w t s = _
  unfold execTileCheck
  simp only [h, hfmt, Option.map_some, hwin, Option.any_some, habsorbed, Bool.not_true, Bool.false_eq_true, if_false]
  cases wide <;> rfl

/-- A window-exceeded tile of specimen work is absorbed: neither counted nor raised (R61, R129). -/
theorem execTileCheck_absorbed {s u : State} {w : Work} {t : Tile} {f : Int × Nat} {l : Int}
    (h : s.begin.takeResult w 0 = (u, true)) (hfmt : exactFormat t.fmt = some f) (hwin : tileWindow t f.1 f.2 = (l, true))
    (horigin : w.origin = .specimen) {x : State} (hx : x = u.bump (engKey w.core w.engine 1)) :
    exec (.tileCheck w t) s = .next (State.settleAll (State.concludeAll { x with free := x.free + 64 } w
      [columnFinding (tileColumns t (some (l, true)) (x.coefOf w.origin (gammaOf t.fmt)) x.free) false, rounderFinding t])) := by
  have habsorbed : (true && w.origin == .specimen) = true := by simp [horigin]
  subst hx
  show execTileCheck w t s = _
  unfold execTileCheck
  simp only [h, hfmt, Option.map_some, hwin, Option.any_some, habsorbed, Bool.not_true, Bool.false_eq_true, if_false, if_true]

/-! ### Vector operations and attention rows (R66 to R73) -/

/-- The part of an operation that ends its work item is checked where its result is used. -/
theorem execVectorOpCheck_used {s u : State} {w : Work} {v : VecOp} (hends : vecEnds v = true)
    (h : s.begin.takeResult w (vecSwitch v) = (u, true)) :
    exec (.vectorOpCheck w v) s = .next (u.vectorCheck w v).settleAll := by
  show execVectorOpCheck w v s = _
  unfold execVectorOpCheck
  simp only [hends, if_true, h]

theorem execVectorOpCheck_unused {s u : State} {w : Work} {v : VecOp} (hends : vecEnds v = true)
    (h : s.begin.takeResult w (vecSwitch v) = (u, false)) :
    exec (.vectorOpCheck w v) s = .next (u.closeWork w).settleAll := by
  show execVectorOpCheck w v s = _
  unfold execVectorOpCheck
  simp only [hends, if_true, h, Bool.false_eq_true, if_false]

/-- A part that leaves the item of its row open joins the row when the row is checked. -/
theorem execVectorOpCheck_joins {s u : State} {w : Work} {v : VecOp} (hends : vecEnds v = false)
    (hu : u = s.begin.addEdges w.core w.edges) (hdormant : u.dormant w.core = false)
    (hswitch : (u.checksOf w.origin).getLsbD (vecSwitch v) = true) :
    exec (.vectorOpCheck w v) s = .next (u.vectorCheck w v).settleAll := by
  subst hu
  show execVectorOpCheck w v s = _
  unfold execVectorOpCheck
  simp only [hends, hdormant, hswitch, Bool.not_false, Bool.and_self, Bool.false_eq_true, if_false, if_true]

/-- Of an operation that is no shift, the residues of the operands give the residue of the result. -/
theorem vectorCheck_residue (u : State) (w : Work) {op : IntOp} (a b c result lo hi : Int) (wrapped : Bool)
    (hright : op ≠ .shiftRight) (hleft : op ≠ .shiftLeft) :
    u.vectorCheck w (.residue op a b c result lo hi wrapped) = (u.countCheck w 5).conclude w (finding
      (if intApply op (a % resMod) (b % resMod) (c % resMod) % resMod = result % resMod ∧ wrapped = intWraps op result lo hi
        then none else some 5) 0) := by
  simp only [State.vectorCheck, hright, hleft, or_self, if_false, Bool.and_eq_true, beq_iff_eq]

/-- A reduction passes where its result is the duplicated tree's, bit for bit (R67). -/
theorem vectorCheck_reduction (u : State) (w : Work) (a b : List Word) :
    u.vectorCheck w (.reduction a b) = (u.countCheck w 5).conclude w (finding (if a = b then none else some 6) 0) := rfl

/-- An exponential or reciprocal square root passes where it is close to the checker's own (R67). -/
theorem vectorCheck_unit (u : State) (w : Work) (x y : Num) :
    u.vectorCheck w (.unit x y) = (u.countCheck w 5).conclude w (finding (if unitClose x y then none else some 6) 0) := rfl

/-- A record of a block that has not mismatched: kept, and tested at once (R68). -/
theorem execRescaleRecord_checked {s u : State} {w : Work} {row block : Nat} {a b : Dy} {alpha : BitVec 32} {ok : Bool}
    (hu : u = s.begin.addEdges w.core w.edges) (hdormant : u.dormant w.core = false)
    (hswitch : (u.checksOf w.origin).getLsbD 3 = true) (hbad : (u.row w row).bad = false)
    (hok : ok = (decide (block ∉ (u.row w row).records) &&
      alphaOk alpha (Config.checkerExp (a.sub b)) (u.coefOf w.origin 5)))
    {v : State} (hv : v = u.setRow { u.row w row with records := (u.row w row).records ++ [block], bad := !ok }) :
    exec (.rescaleRecord w row block a b alpha) s =
      .next (if ok then v else v.mismatch ((finding (some 8) 0).mismatch v w 8)).settleAll := by
  subst hu hv
  show execRescaleRecord w row block a b alpha s = _
  unfold execRescaleRecord
  simp only [hdormant, hswitch, hbad, ← hok, Bool.not_true, Bool.false_or, Bool.or_false, Bool.false_eq_true, if_false]
  cases ok <;> rfl

/-! ### Check timeouts and the sweep (R78, R80) -/

/-- A check's timeout wins: a result that comes after it is late, and a free value stands for what never arrived. -/
def State.checkTimesOut (s : State) (w : Work) : State :=
  { s.begin.expire (.checkTimeout w) with checkLate := s.checkLate ++ [workId w], free := s.free + 1 }

theorem checkTimesOut_eq {s : State} {w : Work} (h : s.expired (.checkTimeout w) = true) :
    s.checkTimesOut w = { s with
      out := []
      timers := (s.checkTimesOut w).timers
      checkLate := (s.checkTimesOut w).checkLate
      free := s.free + 1
      err := (s.checkTimesOut w).err } := by
  unfold State.checkTimesOut
  rw [expire_eq (s := s.begin) h]
  rfl

theorem armed_checkTimesOut {s : State} {w : Work} (h : s.expired (.checkTimeout w) = true) :
    (s.checkTimesOut w).armed (.checkTimeout w) = false := by
  unfold State.checkTimesOut
  rw [expire_eq (s := s.begin) h]
  exact armed_disarm _ _

theorem execCheckTimeout_due {s : State} {w : Work} (h : s.expired (.checkTimeout w) = true) :
    exec (.checkTimeout w) s = .next ((s.checkTimesOut w).conclude w (finding (some 13)
      (if w.engine = 6 then (Config.freeWord s.free).toNat else 0))).settleAll := by
  show execCheckTimeout w s = _
  unfold execCheckTimeout State.checkTimesOut
  have hdue : (!s.begin.expired (.checkTimeout w)) = false := by simp [h]
  simp only [hdue, Bool.false_eq_true, if_false]
  rw [expire_eq (s := s.begin) h]
  rfl

theorem execSuspectSweep_due {s : State} (h : s.expired .suspectSweep = true) {u : State}
    (hu : u = (s.begin.disarm .suspectSweep).sweep) :
    exec .suspectSweep s = .next (if u.suspects.isEmpty && u.proofSuspects.isEmpty then u else u.armSweep) := by
  subst hu
  exact if_neg (by simp [h])

/-! ### The obligation -/

/-- Settles O34: each command is read at the result that its probe takes, and its check is the test of its kind. -/
theorem galleyChecksConclude : Obligations.GalleyChecksConclude := by
  unfold Obligations.GalleyChecksConclude
  refine ⟨?transfer, ?transferUnused, ?tileUnused, ?tolerance, ?exact, ?absorbed, ?residue, ?reductionAndUnit, ?vector,
    ?vectorUnused, ?block, ?rescale, ?timeout, ?sweep⟩
  case transfer =>
    intro s u w t h
    rw [execTransferCheck_used t h]
    split <;> rfl
  case transferUnused => exact fun s u w t h => execTransferCheck_unused t h
  case tileUnused => exact fun s u w t h => execTileCheck_unused t h
  case tolerance =>
    intro s u x w t h hfmt hx
    exact ⟨_, execTileCheck_tolerance h hfmt hx rfl, testsColumns_frame x _⟩
  case exact =>
    intro s u x w t f l wide h hfmt hwin horigin hx
    exact ⟨_, execTileCheck_exact h hfmt hwin horigin hx rfl, testsColumns_frame x _⟩
  case absorbed => exact fun s u x w t f l h hfmt hwin horigin hx => execTileCheck_absorbed h hfmt hwin horigin hx
  case residue =>
    intro s u w op a b c result lo hi wrapped hright hleft h
    rw [execVectorOpCheck_used rfl h, vectorCheck_residue u w a b c result lo hi wrapped hright hleft]
  case reductionAndUnit =>
    intro s u w a b x y h
    rw [execVectorOpCheck_used rfl h, execVectorOpCheck_used rfl h, vectorCheck_reduction, vectorCheck_unit]
    exact ⟨rfl, rfl⟩
  case vector => exact fun s u w v hends h => execVectorOpCheck_used hends h
  case vectorUnused => exact fun s u w v hends h => execVectorOpCheck_unused hends h
  case block => exact fun s u w row block n mx a b c hu hdormant hswitch => execVectorOpCheck_joins rfl hu hdormant hswitch
  case rescale =>
    intro s u w row block a b alpha ok hu hdormant hswitch hbad hok
    exact ⟨_, rfl, execRescaleRecord_checked hu hdormant hswitch hbad hok rfl⟩
  case timeout =>
    intro s w h
    exact ⟨s.checkTimesOut w, execCheckTimeout_due h, rfl, armed_checkTimesOut h, checkTimesOut_eq h⟩
  case sweep => exact fun s h => ⟨_, rfl, execSuspectSweep_due h rfl⟩

end Sys2Proof.Machine
end

section
/-! A chip at rest (R103, R367): everything that follows by itself asks for something that a chip at rest does not have. -/

namespace Sys2Proof.Machine

/-! ### Timeouts that are not there, or not held -/

theorem disarm_eq_self {s : State} {c : Instr} (h : ∀ t ∈ s.timers, t.cmd ≠ c) : s.disarm c = s := by
  have hkeep : s.timers.filter (fun t => decide (t.cmd ≠ c)) = s.timers := List.filter_eq_self.mpr (by simpa using h)
  unfold State.disarm
  rw [hkeep]

/-- Where no freeze is on, no timeout is held. -/
theorem holdTimers_thawed {s : State} (h : s.frz.on = false) : s.holdTimers s.holdsTimer = s := by
  have hnone (c : Instr) : s.holdsTimer c = false := by simp [State.holdsTimer, h]
  simp [State.holdTimers, hnone]

/-! ### Nothing to settle -/

theorem settle_inactive {s : State} {d : Dom} (h : (s.dom d).active = false) : s.settle d = s := by
  have honce : s.settleOnce d = s := if_pos (by simp [h])
  unfold State.settle
  rw [honce, honce]
  exact if_pos (by simp [h])

theorem settleDoms_inactive {s : State} (h : ∀ d, (s.dom d).active = false) : s.settleDoms = s :=
  List.foldl_fixed' (fun d => settle_inactive (h d)) allDoms

theorem followNarrow_none {s : State} (hnarrow : s.job.narrow = none) (hlost : s.job.narrowLost = none) :
    s.followNarrow = s := by
  unfold State.followNarrow
  simp only [hnarrow, hlost]

/-- Without a role, object 0x2C00.07 stays 0 and no heartbeat is sent or awaited. -/
theorem followRole_none {s : State} (hrole : s.role = 0) (hlost : s.get (key 0x2C00 7) = 0)
    (hbeats : ∀ t ∈ s.timers, t.cmd ≠ .stewardHeartbeatSend ∧ t.cmd ≠ .stewardTimeout) : s.followRole = s := by
  have hsend : s.disarm .stewardHeartbeatSend = s := disarm_eq_self (fun t ht => (hbeats t ht).1)
  have hawait : s.disarm .stewardTimeout = s := disarm_eq_self (fun t ht => (hbeats t ht).2)
  simp [State.followRole, hrole, hlost, hsend, hawait]

/-- Out of beacon mode no exchange is begun or awaited. -/
theorem followBeacon_none {s : State} (hmode : s.beaconMode = false)
    (hbeats : ∀ t ∈ s.timers, t.cmd ≠ .beaconPeriod ∧ t.cmd ≠ .beaconLossHoldover) : s.followBeacon = s := by
  have hperiod : s.disarm .beaconPeriod = s := disarm_eq_self (fun t ht => (hbeats t ht).1)
  have hloss : s.disarm .beaconLossHoldover = s := disarm_eq_self (fun t ht => (hbeats t ht).2)
  simp [State.followBeacon, State.beacons, hmode, hperiod, hloss]

theorem bringupFault_healthy {s : State} (h : s.faulted = false) : s.bringupFault = s :=
  if_neg (by simp [h])

theorem holdSpecimens_none {s : State} (h : s.runs = []) : s.holdSpecimens = s := by
  unfold State.holdSpecimens
  rw [h]
  rfl

theorem candidatesAppear_none {s : State} (hwhole : ∀ d, s.sparingState d ≠ 6) (hmoves : s.idleMoves = []) :
    s.candidatesAppear = s := by
  have hdoms : allDoms.foldl (fun s d => if s.sparingState d = 6 then s.sparingNext d else s) s = s :=
    List.foldl_fixed' (fun d => if_neg (hwhole d)) allDoms
  simp [State.candidatesAppear, hdoms, hmoves]

/-- Settles O15: each part of what follows by itself leaves a chip at rest as it is. -/
theorem chipAtRestStaysAsItIs : Obligations.ChipAtRestStaysAsItIs := by
  unfold Obligations.ChipAtRestStaysAsItIs
  intro s hrest
  have hdoms := settleDoms_inactive hrest.idle
  have hnarrow := followNarrow_none hrest.narrow hrest.narrowLost
  have hrole := followRole_none hrest.role hrest.lost (fun t ht => ⟨(hrest.beats t ht).1, (hrest.beats t ht).2.1⟩)
  have hbeacon := followBeacon_none hrest.beacon (fun t ht => (hrest.beats t ht).2.2)
  have hfault := bringupFault_healthy hrest.healthy
  have hruns := holdSpecimens_none hrest.runs
  have hmoves := candidatesAppear_none hrest.whole hrest.moves
  have hheld := holdTimers_thawed hrest.thawed
  simp [State.settleAll, hdoms, hnarrow, hrole, hbeacon, hfault, hruns, hrest.drain, hrest.image, hmoves, hheld]

end Sys2Proof.Machine
end

section
/-! The ends of proofs and revises (R90 to R94, R97, R106, R115, R126). -/

namespace Sys2Proof.Machine

/-! ### A counter alone -/

theorem bump_frame (s : State) (k : Nat) : s.bump k = { s with dict := (s.bump k).dict } ∧ s.KeepsBut (s.bump k) [k] := by
  refine ⟨?_, fun j hj => get_bump_ne s (by simpa using hj)⟩
  obtain ⟨v, hv⟩ := bumpBy_put s k 1
  unfold State.bump
  rw [hv]
  rfl

/-- A command that counts and does nothing else. -/
theorem begin_bump (s : State) (k : Nat) : s.begin.bump k = { s with out := [], dict := (s.begin.bump k).dict } ∧
    s.KeepsBut (s.begin.bump k) [k] ∧ s.Counts (s.begin.bump k) k :=
  ⟨(bump_frame s.begin k).1, (bump_frame s.begin k).2, bump_counts s.begin k⟩

/-! ### A result that a proof awaits -/

section
variable {s u : State} {d : Dom} {k : LCore} {n : Nat} {r : Option Rank} {p : Proof}

/-- The result of this chip's own proof is compared with the core's colophon and count of units (R91). -/
theorem execProofResult_own {c : Colophon} {m : Nat} {x : CoreRec} (h : s.awaitedProof d k n r = some p)
    (hown : p.served = none) (hu : u = (s.begin.served p.core).dwellUnit p.core) (hx : u.coreRec? d n k = some x) :
    exec (.proofResult d k n r c m) s =
      .next (if x.acc = c ∧ x.units = m then u.proofPasses p else u.proofDiffers p (c, m)).settleAll := by
  subst hu
  have h' : s.begin.awaitedProof d k n r = some p := h
  show execProofResult d k n r c m s = _
  simp only [execProofResult, h', hown, hx]

/-- The result of a proof run for another chip goes to that chip (R126). -/
theorem execProofResult_served {q : Rank} (c : Colophon) (m : Nat) (h : s.awaitedProof d k n r = some p)
    (hserved : p.served = some q) :
    exec (.proofResult d k n r c m) s = .next (s.begin.answerProof p q (.proofResult d k n c m)).settleAll := by
  have h' : s.begin.awaitedProof d k n r = some p := h
  show execProofResult d k n r c m s = _
  simp only [execProofResult, h', hserved]

theorem execProofNotProofable_served {q : Rank} (h : s.awaitedProof d k n r = some p) (hserved : p.served = some q) :
    exec (.proofNotProofable d k n r) s = .next (s.begin.answerProof p q (.proofNotProofable d k n)).settleAll := by
  have h' : s.begin.awaitedProof d k n r = some p := h
  show execProofNotProofable d k n r s = _
  simp only [execProofNotProofable, h', hserved]

/-- A step that cannot be proofed is told, and its core gets a priority proof (R93, R97). -/
theorem execProofNotProofable_own (h : s.awaitedProof d k n r = some p) (hown : p.served = none) :
    exec (.proofNotProofable d k n r) s = .next (State.settleAll (State.narrowingEnd (State.reproof
      (((((s.begin.resultWins p true).bump (key 0x2105 0xE)).raise 0x36 0 []).dropProof p)) d k) p false)) := by
  have h' : s.begin.awaitedProof d k n r = some p := h
  show execProofNotProofable d k n r s = _
  simp only [execProofNotProofable, h', hown]

/-- A proof whose timeout is due is lost (R106). -/
theorem execProofTimeout_due {i : Nat} (h : s.expired (.proofTimeout d k (n, i)) = true) :
    exec (.proofTimeout d k (n, i)) s = .next (State.settleAll
      ((s.proofs.filter (fun p => p.served.isNone && p.timer == .proofTimeout d k (n, i))).foldl
        (fun (u : State) p => u.loseProof p) (s.begin.expire (.proofTimeout d k (n, i))))) := by
  exact if_neg (by simp [h])

/-! ### A revise (R115) -/

theorem execReviseResult_lost (h : s.openRevise d k n = some p) :
    exec (.reviseResult d k n none) s = .next (s.begin.loseRevise p).settleAll := by
  have h' : s.begin.openRevise d k n = some p := h
  show execReviseResult d k n none s = _
  simp only [execReviseResult, h']

/-- The core that the revise agrees with is right: the core itself, the proof core, or neither. -/
theorem execReviseResult_decides {r : Colophon × Nat} (h : s.openRevise d k n = some p)
    (hu : u = (s.begin.served p.rcore).resultWins p true) :
    exec (.reviseResult d k n (some r)) s = .next
      (if (u.coreRec? d n k).map (fun c => (c.acc, c.units)) = some r then u.proofCoreWrong p
       else if p.result = some r then u.failProof p 1 else u.failProof p 2).settleAll := by
  subst hu
  have h' : s.begin.openRevise d k n = some p := h
  show execReviseResult d k n (some r) s = _
  simp only [execReviseResult, h']

/-! ### A result that nothing awaits (R106) -/

theorem execProofResult_late (c : Colophon) (m : Nat) (h : s.awaitedProof d k n r = none) :
    exec (.proofResult d k n r c m) s = .next s.begin.lateProof.settleAll := by
  have h' : s.begin.awaitedProof d k n r = none := h
  show execProofResult d k n r c m s = _
  simp only [execProofResult, h']

theorem execProofNotProofable_late (h : s.awaitedProof d k n r = none) :
    exec (.proofNotProofable d k n r) s = .next s.begin.lateProof.settleAll := by
  have h' : s.begin.awaitedProof d k n r = none := h
  show execProofNotProofable d k n r s = _
  simp only [execProofNotProofable, h']

theorem execReviseResult_late (r : Option (Colophon × Nat)) (h : s.openRevise d k n = none) :
    exec (.reviseResult d k n r) s = .next s.begin.lateProof.settleAll := by
  have h' : s.begin.openRevise d k n = none := h
  show execReviseResult d k n r s = _
  simp only [execReviseResult, h']

end

/-! ### The obligation -/

/-- Settles O36: an awaited result is read at its proof or revise, any other at the count of late results. -/
theorem proofCommandsDecide : Obligations.ProofCommandsDecide := by
  unfold Obligations.ProofCommandsDecide
  refine ⟨⟨?own, ?served, ?notProofable, ?timeout, ?lost, ?decides⟩, ?lateProof, ?lateRevise⟩
  case own => exact fun s u d k n r c m p x h hown hu hx => execProofResult_own h hown hu hx
  case served =>
    exact fun s d k n q c m p h hserved => ⟨execProofResult_served c m h hserved, execProofNotProofable_served h hserved⟩
  case notProofable => exact fun s d k n r p h hown => execProofNotProofable_own h hown
  case timeout => exact fun s d k n i h => execProofTimeout_due h
  case lost => exact fun s d k n p h => execReviseResult_lost h
  case decides => exact fun s u d k n p r h hu => execReviseResult_decides h hu
  case lateProof =>
    exact fun s d k n r c m h => ⟨_, execProofResult_late c m h, execProofNotProofable_late h, begin_bump s _⟩
  case lateRevise => exact fun s d k n r h => ⟨_, execReviseResult_late r h, begin_bump s _⟩

end Sys2Proof.Machine
end

section
/-! The page ledger (R110 to R113, R190, R386) and the pages of the KV cache (R163, R178 to R181). -/

namespace Sys2Proof.Machine

/-! ### The ledger's walk ends (R113) -/

/-- The walk of the domain's ledger is over. -/
def State.walked (s : State) (d : Dom) : State := s.begin.upDom d (fun y => { y with walk := false })

theorem execLedgerWalkDone_walking {s : State} {d : Dom} (h : (s.dom d).walk = true) :
    exec (.ledgerWalkDone d) s = .next ((s.walked d).afterWalk d).settleAll := by
  have hwalk : (s.begin.dom d).walk = true := h
  exact if_neg (by simp [hwalk])

theorem dom_walked {s : State} (d : Dom) (h : s.doms.length = 8) :
    ((s.walked d).dom d).walk = false ∧ ((s.walked d).dom d).sparings = (s.dom d).sparings ∧
      ((s.walked d).dom d).poison = (s.dom d).poison ∧ ((s.walked d).dom d).active = (s.dom d).active := by
  unfold State.walked
  rw [dom_upDom_same (s := s.begin) d _ h]
  exact ⟨rfl, rfl, rfl, rfl⟩

/-- A domain that lost a core goes on with its sparing (R190). -/
theorem afterWalk_sparing {s : State} {d : Dom} (h : (s.dom d).sparings ≠ []) : s.afterWalk d = s.sparingNext d :=
  if_pos (by simpa using h)

/-- After poison the domain waits for the host (R167). -/
theorem afterWalk_poisoned {s : State} {d : Dom} (hsparings : (s.dom d).sparings = []) (h : (s.dom d).poison ≠ none) :
    s.afterWalk d = s := by
  have hpoison : (s.dom d).poison.isSome = true := Option.isSome_iff_ne_none.mpr h
  simp [State.afterWalk, hsparings, hpoison]

/-- Any other domain is armed anew (R386). -/
theorem afterWalk_rearmed {s : State} {d : Dom} (hsparings : (s.dom d).sparings = []) (h : (s.dom d).poison = none) :
    s.afterWalk d = s.phoryArm d := by
  simp [State.afterWalk, hsparings, h]

/-! ### Writes of pages (R110) -/

section
variable {s : State} {d : Dom} {n : Nat}

/-- A page write is of a step that the domain still holds. -/
theorem not_ignoresPageWrite (hact : (s.dom d).active = true) (hstep : (s.dom d).step? n ≠ none) :
    ¬ (!(s.begin.dom d).active || ((s.begin.dom d).step? n).isNone) = true := by
  have hact' : (s.begin.dom d).active = true := hact
  have hstep' : (s.begin.dom d).step? n ≠ none := hstep
  simp [hact', hstep']

theorem execKvPageWrite_append (k : LCore) {page : Word} {pos : Nat} (count : Nat) (hact : (s.dom d).active = true)
    (hstep : (s.dom d).step? n ≠ none) (hpos : ((s.dom d).page page).committedLen ≤ pos) :
    exec (.kvPageWrite d k n page (.append pos count)) s = .next (State.settleAll (s.begin.putPage d
      (((s.dom d).page page).setLen n (max ((s.dom d).page page).len (pos + count))))) :=
  (if_neg (not_ignoresPageWrite hact hstep)).trans (if_neg (Nat.not_lt.mpr hpos))

theorem execKvPageWrite_overwrite (k : LCore) {page : Word} {pos : Nat} (count : Nat) (hact : (s.dom d).active = true)
    (hstep : (s.dom d).step? n ≠ none) (hpos : pos < ((s.dom d).page page).committedLen) :
    exec (.kvPageWrite d k n page (.append pos count)) s = .next (s.begin.raise 0x34 d.val []).settleAll :=
  (if_neg (not_ignoresPageWrite hact hstep)).trans (if_pos hpos)

theorem execKvPageWrite_free (k : LCore) (page : Word) (hact : (s.dom d).active = true) (hstep : (s.dom d).step? n ≠ none) :
    exec (.kvPageWrite d k n page .free) s = .next (State.settleAll (s.begin.putPage d
      { (s.dom d).page page with freed := some (((s.dom d).page page).freed.getD n) })) :=
  if_neg (not_ignoresPageWrite hact hstep)

end

/-! ### Spills (R111, R178) -/

section
variable {s : State} {d : Dom} {page : Word}

/-- The spill of a page that an uncommitted step wrote waits, and the wait is counted. -/
def State.keepsSpill (s : State) (d : Dom) (p : Spill) : State :=
  (s.bump (key 0x2105 0xC)).upDom d (fun x => { x with spills := x.spills ++ [p] })

theorem execKvSpill_kept (c : PCore) (data : Bytes) (n : Nat) (m : Bool) (hact : (s.dom d).active = true)
    (hpage : (s.dom d).pages.any (fun g => g.page == page) = true) :
    exec (.kvSpill d c page data n m) s = .next (s.begin.keepsSpill d
      { step := s.runningStep d, core := c, page := page, data := data, tokens := n, marked := m }).settleAll := by
  have hact' : (s.begin.dom d).active = true := hact
  exact (if_neg (by simp [hact'])).trans (if_pos hpage)

theorem keepsSpill_eq (s : State) (d : Dom) (p : Spill) : s.keepsSpill d p =
    { s with dict := (s.keepsSpill d p).dict, doms := (s.keepsSpill d p).doms } := by
  unfold State.keepsSpill
  rw [(bump_frame s (key 0x2105 0xC)).1]
  rfl

theorem spills_keepsSpill {s : State} (d : Dom) (p : Spill) (h : s.doms.length = 8) :
    ((s.keepsSpill d p).dom d).spills = (s.dom d).spills ++ [p] := by
  have hdoms : (s.bump (key 0x2105 0xC)).doms = s.doms := by rw [(bump_frame s _).1]
  have hdom : (s.bump (key 0x2105 0xC)).dom d = s.dom d := congrArg (fun l : List DomSt => l.getD d.val DomSt.idle) hdoms
  unfold State.keepsSpill
  rw [dom_upDom_same d _ (hdoms ▸ h), hdom]

/-- A page that no uncommitted step wrote leaves at once. -/
theorem execKvSpill_leaves (c : PCore) (data : Bytes) (n : Nat) (m : Bool) (hact : (s.dom d).active = true)
    (hpage : (s.dom d).pages.any (fun g => g.page == page) = false) :
    exec (.kvSpill d c page data n m) s = .next (s.begin.spill d
      { step := s.runningStep d, core := c, page := page, data := data, tokens := n, marked := m }).settleAll := by
  have hact' : (s.begin.dom d).active = true := hact
  exact (if_neg (by simp [hact'])).trans (if_neg (ne_true_of_eq_false hpage))

/-- A page without the poison mark leaves with its tag, and is counted. -/
theorem spill_unmarked (s : State) (d : Dom) {p : Spill} (h : p.marked = false) :
    s.spill d p = (s.bump (key 0x2302 0xA)).send (.kvSpill p.page (pageTag p.page (s.jobId d) p.data p.tokens)) :=
  if_neg (ne_true_of_eq_false h)

end

/-! ### Fills (R179 to R181) -/

section
variable {s : State} {d : Dom} {c : PCore} {off : BitVec 30} {page : Word}

/-- A fetch of the page into these words of the core. -/
def Kv.isOf (k : Kv) (d : Dom) (c : PCore) (off : BitVec 30) (page : Word) : Bool :=
  k.d == d && k.core == c && k.offset == off && k.page == page

/-- The attempts of the fill that failed before. -/
def State.kvAttempts (s : State) (d : Dom) (c : PCore) (off : BitVec 30) (page : Word) : Nat :=
  match s.kv.find? (fun k => k.isOf d c off page) with
  | some k => k.attempts
  | none => 0

/-- The fill's attempt has arrived: its fetch is no longer awaited. -/
def State.kvArrived (s : State) (d : Dom) (c : PCore) (off : BitVec 30) (page : Word) : State :=
  { s with out := [], kv := s.kv.filter (fun k => !k.isOf d c off page) }

/-- A page that passes its checks is filled: its words' poison is gone, it is counted and reported (R163, R179). -/
def State.kvFilled (s : State) (c : PCore) (off : BitVec 30) (page : Word) (units : Nat) : State :=
  ((s.clearPoison c (off.toNat / 32) (2 * units)).bump (key 0x2302 0xB)).send (.kvDone page true)

/-- A page that failed its last attempt: its words are poisoned, it is counted and reported (R180). -/
def State.kvLost (s : State) (c : PCore) (off : BitVec 30) (page : Word) (units : Nat) : State :=
  (((s.bump (key 0x2302 0xB)).bump (key 0x2302 0xC)).poisonWords c (off.toNat / 32) (2 * units)).send (.kvDone page false)

theorem execKvFill_passes {units n : Nat} {data tag : Bytes} (h : kvCheck data tag page (s.jobId d) units n = 0)
    {u : State} (hu : u = (s.kvArrived d c off page).kvFilled c off page units) :
    exec (.kvFill d c off page units n data tag) s =
      .next (if 0 < s.kvAttempts d c off page then u.raise 0x5A d.val [] else u).settleAll := by
  subst hu
  exact (if_pos h).trans (next_settleAll_congr (if_congr Nat.succ_lt_succ_iff rfl rfl))

theorem execKvFill_again {units n : Nat} {data tag : Bytes} (h : kvCheck data tag page (s.jobId d) units n ≠ 0)
    (hagain : s.kvAttempts d c off page + 1 ≤ s.natFor d (key 0x2300 6)) :
    exec (.kvFill d c off page units n data tag) s = .next { s.kvArrived d c off page with
      kv := (s.kvArrived d c off page).kv ++
        [{ d := d, core := c, offset := off, page := page, attempts := s.kvAttempts d c off page + 1 }] } :=
  (if_neg h).trans (if_pos hagain)

theorem execKvFill_fails {units n : Nat} {data tag : Bytes} (h : kvCheck data tag page (s.jobId d) units n ≠ 0)
    (hlast : s.natFor d (key 0x2300 6) < s.kvAttempts d c off page + 1) {u : State}
    (hu : u = (s.kvArrived d c off page).kvLost c off page units) :
    exec (.kvFill d c off page units n data tag) s = .next (u.raiseRecord 0x59 d.val (kvRecord u.t page (u.jobId d)
      (fieldAt tag 0 8) (crc64 (crc64 0 data) (slice tag 8 24)).toNat c.val d.val (kvCheck data tag page (s.jobId d) units n)
      (s.kvAttempts d c off page + 1)) false (key 0x2303 2)).settleAll := by
  subst hu
  exact (if_neg h).trans (if_neg (Nat.not_le.mpr hlast))

end

/-! ### The obligation -/

/-- Settles O37: each command is read at its page's ledger entry, or at the check that its page meets. -/
theorem ledgerAndKvCommandsAct : Obligations.LedgerAndKvCommandsAct := by
  unfold Obligations.LedgerAndKvCommandsAct
  refine ⟨⟨?walk, ?append, ?overwrite, ?free, ?kept, ?leaves⟩, ?fill⟩
  case walk =>
    rintro s x d hwalk rfl
    have hexec := execLedgerWalkDone_walking hwalk
    refine ⟨hexec, fun h8 => ?_⟩
    obtain ⟨hwalked, hsparings, hpoison, hactive⟩ := dom_walked d h8
    refine ⟨hwalked, ?_, ?_, ?_⟩
    · exact fun h => hexec.trans (next_settleAll_congr (afterWalk_sparing (hsparings ▸ h)))
    · exact fun h hp => hexec.trans (next_settleAll_congr (afterWalk_poisoned (hsparings.trans h) (hpoison ▸ hp)))
    · intro h hp hfault hact hout hlead
      obtain ⟨harm, harmed, hstatus, -⟩ := phoryArm_shows (s := s.walked d) hfault (hactive.trans hact) hout hlead
      exact ⟨_, hexec.trans (next_settleAll_congr (afterWalk_rearmed (hsparings.trans h) (hpoison.trans hp))),
        harm, hstatus, harmed⟩
  case append => exact fun s d k n page pos count hact hstep hpos => execKvPageWrite_append k count hact hstep hpos
  case overwrite => exact fun s d k n page pos count hact hstep hpos => execKvPageWrite_overwrite k count hact hstep hpos
  case free => exact fun s d k n page hact hstep => execKvPageWrite_free k page hact hstep
  case kept =>
    intro s d c page data n m hact hpage
    obtain ⟨-, hkeeps, hcounts⟩ := begin_bump s (key 0x2105 0xC)
    exact ⟨_, execKvSpill_kept c data n m hact hpage, keepsSpill_eq s.begin d _, hkeeps, hcounts,
      spills_keepsSpill (s := s.begin) d _⟩
  case leaves =>
    intro s d c page data n hact hpage
    obtain ⟨hframe, hkeeps, hcounts⟩ := begin_bump s (key 0x2302 0xA)
    refine ⟨⟨_, (execKvSpill_leaves c data n false hact hpage).trans (next_settleAll_congr (spill_unmarked s.begin d rfl)),
      ?_, ?_, hkeeps, hcounts⟩, execKvSpill_leaves c data n true hact hpage⟩
    all_goals
      rw [hframe]
      rfl
  case fill =>
    rintro s x d c off page units n a data tag rfl rfl
    refine ⟨fun h => ⟨_, rfl, execKvFill_passes h rfl⟩, fun h hagain => execKvFill_again h hagain,
      fun h hlast => ⟨_, rfl, execKvFill_fails h hlast rfl⟩⟩

end Sys2Proof.Machine
end

section
/-! Specimen runs (R129 to R133). -/

namespace Sys2Proof.Machine

/-! ### What an expiry leaves -/

/-- An expiry that wins leaves its grant, and its timeout is no longer armed. -/
theorem expire_frame {s : State} {c : Instr} (h : s.expired c = true) :
    s.expire c = { s with timers := (s.expire c).timers, err := (s.expire c).err } ∧ (s.expire c).armed c = false := by
  rw [expire_eq h]
  exact ⟨rfl, armed_disarm _ _⟩

theorem get_expire (s : State) (c : Instr) (k : Nat) : (s.expire c).get k = s.get k := by
  unfold State.expire
  split <;> rfl

/-! ### Scheduled runs (R130) -/

theorem execSpecimenInterval_due {s u : State} (hdue : s.expired .specimenInterval = true)
    (hu : u = s.begin.arm .specimenInterval (sec (s.nat (key 0x2200 2)))) :
    exec .specimenInterval s = .next (State.settleAll
      ((if (s.get (key 0x2200 1)).getLsbD 0 then allCores.filter u.screenable else []).foldl
        (fun (v : State) c => v.scheduledRun c) u)) := by
  subst hu
  exact if_neg (by simp [hdue])

/-! ### The end of a run (R129, R132) -/

@[simp] theorem running?_begin (s : State) (c : PCore) : s.begin.running? c = s.running? c := rfl

/-- The engines whose digest is not that of their specimen program. -/
def digestFailures (ds : List Word) : List EngineNo :=
  allEngines.filter (fun e => ds[e.val]? != some (Config.specimenDigest e))

/-- The engines whose self-check was not flagged. -/
def selfCheckFailures (oks : List Bool) : List EngineNo := allEngines.filter (fun e => oks[e.val]? != some true)

theorem digestFailures_eq_nil (ds : List Word) :
    digestFailures ds = [] ↔ ∀ e ∈ allEngines, ds[e.val]? = some (Config.specimenDigest e) := by
  simp [digestFailures]

theorem selfCheckFailures_eq_nil (oks : List Bool) :
    selfCheckFailures oks = [] ↔ ∀ e ∈ allEngines, oks[e.val]? = some true := by
  simp [selfCheckFailures]

theorem digestFailures_specimen : digestFailures (allEngines.map Config.specimenDigest) = [] := by
  rw [digestFailures_eq_nil]
  intro e _
  simp [allEngines]

theorem selfCheckFailures_flagged : selfCheckFailures (List.replicate 7 true) = [] := by
  rw [selfCheckFailures_eq_nil]
  exact fun e _ => (List.getElem?_replicate_of_lt e.isLt)

/-- The end of a run wins against its timeout and is counted. -/
def State.specimenEnds (s : State) (c : PCore) : State := (s.begin.arrives (.specimenTimeout c []) 6).bump (key 0x2204 1)

section
variable {s : State} {c : PCore} {r : Run}

theorem execSpecimenRunDone_late {n : Nat} (x : List Word × List Bool) (h : ∀ r, s.running? c = some r → r.id ≠ n) :
    exec (.specimenRunDone c n x) s = .next s.begin.late := by
  have hnone : (s.begin.running? c).filter (fun r => r.id == n) = none := by
    simpa [Option.filter_eq_none_iff] using h
  show execSpecimenRunDone c n x s = _
  simp only [execSpecimenRunDone, hnone]

theorem execSpecimenRunDone_awaited (ds : List Word) (oks : List Bool) (h : s.running? c = some r) :
    exec (.specimenRunDone c r.id (ds, oks)) s = .next (State.settleAll (State.stageNext
      (if (digestFailures ds).isEmpty && (selfCheckFailures oks).isEmpty then (s.specimenEnds c).runPasses r
        else (s.specimenEnds c).runFails r (digestFailures ds) (selfCheckFailures oks) false))) := by
  have hrun : (s.begin.running? c).filter (fun x => x.id == r.id) = some r := by
    simp [h]
  show execSpecimenRunDone c r.id (ds, oks) s = _
  simp only [execSpecimenRunDone, hrun]
  rfl

/-- A run whose digests and self-checks are all right passes. -/
theorem execSpecimenRunDone_passes (h : s.running? c = some r) :
    exec (.specimenRunDone c r.id (allEngines.map Config.specimenDigest, List.replicate 7 true)) s =
      .next (State.settleAll (State.stageNext ((s.specimenEnds c).runPasses r))) := by
  rw [execSpecimenRunDone_awaited _ _ h, digestFailures_specimen, selfCheckFailures_flagged]
  rfl

/-- One engine's digest or self-check that is not right makes the run fail. -/
theorem execSpecimenRunDone_fails {ds : List Word} {oks : List Bool} (h : s.running? c = some r)
    (hbad : ∃ e ∈ allEngines, ds[e.val]? ≠ some (Config.specimenDigest e) ∨ oks[e.val]? ≠ some true) :
    exec (.specimenRunDone c r.id (ds, oks)) s = .next (State.settleAll (State.stageNext
      ((s.specimenEnds c).runFails r (digestFailures ds) (selfCheckFailures oks) false))) := by
  have hsome : ¬ ((digestFailures ds).isEmpty && (selfCheckFailures oks).isEmpty) = true := by
    rw [Bool.and_eq_true, List.isEmpty_iff, List.isEmpty_iff, digestFailures_eq_nil, selfCheckFailures_eq_nil]
    rintro ⟨hds, hoks⟩
    obtain ⟨e, he, hd | ho⟩ := hbad
    · exact hd (hds e he)
    · exact ho (hoks e he)
  rw [execSpecimenRunDone_awaited ds oks h, if_neg hsome]

/-- A run that its timeout ends fails on the engines that had not ended (R133). -/
theorem execSpecimenTimeout_due (l : List EngineNo) (hdue : s.expired (.specimenTimeout c []) = true)
    (h : s.running? c = some r) :
    exec (.specimenTimeout c l) s = .next (State.settleAll (State.stageNext
      (((s.begin.expire (.specimenTimeout c [])).bump (key 0x2204 8)).runFails r (if l.isEmpty then allEngines else l)
        [] true))) := by
  have hrun : (s.begin.expire (.specimenTimeout c [])).running? c = some r := by
    rw [(expire_frame (s := s.begin) hdue).1]
    exact h
  refine (if_neg (by simp [hdue])).trans ?_
  simp only [hrun]

end

/-! ### Third runs (R132, R150) -/

@[simp] theorem get_withWaitingRuns (s : State) (l : List PCore) (k : Nat) :
    State.get { s with waitingRuns := l } k = s.get k := rfl

/-- A third run that the budget keeps from its core waits, and is counted. -/
def State.defersRetest (s : State) (c : PCore) : State :=
  { (s.begin.disarm (.specimenRetest c)).bump (key 0x2201 8) with
    waitingRuns := s.waitingRuns.filter (fun x => decide (x ≠ c)) ++ [c] }

theorem execSpecimenRetest_due {s : State} {c : PCore} (hdue : s.expired (.specimenRetest c) = true)
    (hscreen : s.screenable c = true) (hidle : s.running? c = none) :
    exec (.specimenRetest c) s =
      if s.budgetAllows c then .next ((s.begin.disarm (.specimenRetest c)).issueSpecimen c 0).settleAll
      else .next (s.defersRetest c) := by
  have hscreen' : (s.begin.disarm (.specimenRetest c)).screenable c = true := hscreen
  have hidle' : (s.begin.disarm (.specimenRetest c)).running? c = none := hidle
  exact (if_neg (by simp [hdue])).trans (if_neg (by simp [hscreen', hidle']))

theorem defersRetest_frame (s : State) (c : PCore) :
    s.defersRetest c = { s with
      out := []
      dict := (s.defersRetest c).dict
      timers := (s.defersRetest c).timers
      waitingRuns := (s.defersRetest c).waitingRuns } ∧ (s.defersRetest c).armed (.specimenRetest c) = false := by
  unfold State.defersRetest
  rw [(bump_frame _ (key 0x2201 8)).1]
  exact ⟨rfl, armed_disarm s.begin _⟩

theorem get_defersRetest (s : State) (c : PCore) (k : Nat) :
    (s.defersRetest c).get k = ((s.begin.disarm (.specimenRetest c)).bump (key 0x2201 8)).get k := by
  rw [State.defersRetest, get_withWaitingRuns]

/-- Settles O41: each command's guard holds; a run's outcome is read at the engines that failed it. -/
theorem specimenCommandsScreen : Obligations.SpecimenCommandsScreen := by
  unfold Obligations.SpecimenCommandsScreen
  refine ⟨?interval, ?late, ?passes, ?fails, ?timeout, ?retest, ?deferred⟩
  case interval => exact fun s hdue => ⟨_, rfl, execSpecimenInterval_due hdue rfl⟩
  case late => exact fun s c n ds oks h => execSpecimenRunDone_late (ds, oks) h
  case passes => exact fun s c r h => execSpecimenRunDone_passes h
  case fails => exact fun s c ds oks r h hbad => execSpecimenRunDone_fails h hbad
  case timeout => exact fun s c l r hdue h => execSpecimenTimeout_due l hdue h
  case retest =>
    intro s c hdue hscreen hidle hbudget
    rw [execSpecimenRetest_due hdue hscreen hidle, if_pos hbudget]
  case deferred =>
    intro s c hdue hscreen hidle hbudget
    obtain ⟨hframe, hdisarmed⟩ := defersRetest_frame s c
    refine ⟨s.defersRetest c, ?_, rfl, hdisarmed, hframe, ?_, ?_⟩
    · rw [execSpecimenRetest_due hdue hscreen hidle, if_neg (ne_true_of_eq_false hbudget)]
    · exact fun k hk => (get_defersRetest s c k).trans (get_bump_ne _ (by simpa using hk))
    · intro hroom
      exact (congrArg BitVec.toNat (get_defersRetest s c _)).trans
        (bump_counts (s.begin.disarm (.specimenRetest c)) _ hroom)

end Sys2Proof.Machine
end

section
/-! Cross-core runs (R134 to R137). -/

namespace Sys2Proof.Machine

theorem bumpBy_frame (s : State) (k n : Nat) :
    s.bumpBy k n = { s with dict := (s.bumpBy k n).dict } ∧ s.KeepsBut (s.bumpBy k n) [k] := by
  refine ⟨?_, fun j hj => get_bumpBy_ne s n (by simpa using hj)⟩
  obtain ⟨v, hv⟩ := bumpBy_put s k n
  rw [hv]
  rfl

/-! ### A pass begins (R135) -/

@[simp] theorem crossCores_begin_arm (s : State) (c : Instr) (n : Nat) : (s.begin.arm c n).crossCores = s.crossCores := rfl

/-- The next pass begins, and its interval of n units: the cores w, which the budget keeps from it, wait and are counted (R150). -/
def State.passBegins (s : State) (n : Nat) (w : List PCore) : State :=
  State.bumpBy { s.begin.arm .crosscoreInterval n with crossPass := s.crossPass + 1, waitingCross := w } (key 0x2201 8) w.length

theorem passBegins_frame (s : State) (n : Nat) (w : List PCore) :
    s.passBegins n w = { s with
      out := []
      crossPass := s.crossPass + 1
      timers := (s.begin.arm .crosscoreInterval n).timers
      dict := (s.passBegins n w).dict
      waitingCross := w } ∧ s.KeepsBut (s.passBegins n w) [key 0x2201 8] := by
  refine ⟨?_, fun k hk => get_bumpBy_ne _ _ (by simpa using hk)⟩
  unfold State.passBegins
  rw [(bumpBy_frame _ (key 0x2201 8) _).1]
  rfl

theorem armed_passBegins (s : State) (n : Nat) (w : List PCore) : (s.passBegins n w).armed .crosscoreInterval = true := by
  rw [(passBegins_frame s n w).1]
  exact armed_arm s.begin .crosscoreInterval n

section
variable {s : State}

theorem execCrosscoreInterval_on (hdue : s.expired .crosscoreInterval = true)
    (hon : (s.get (key 0x2200 1)).getLsbD 1 = true) :
    exec .crosscoreInterval s = .next
      ((s.passBegins (sec (s.nat (key 0x2200 4))) s.crossCores.2).startPairs s.crossCores.1 s.crossPass).settleAll := by
  refine (if_neg (by simp [hdue])).trans ((if_neg (by simpa using hon)).trans ?_)
  simp only [crossCores_begin_arm]
  rfl

theorem execCrosscoreInterval_off (hdue : s.expired .crosscoreInterval = true)
    (hoff : (s.get (key 0x2200 1)).getLsbD 1 = false) :
    exec .crosscoreInterval s = .next (s.begin.arm .crosscoreInterval (sec (s.nat (key 0x2200 4)))) :=
  (if_neg (by simp [hdue])).trans (if_pos (by simpa using hoff))

end

/-! ### A digest comes, or a core is late (R136, R137) -/

/-- The record of a cross-core run is kept in place of the one that it had. -/
def State.putCross (s : State) (n : Nat) (y : Cross) : State :=
  { s with crosses := s.crosses.map (fun z => if z.id = n then y else z) }

@[simp] theorem get_putCross (s : State) (n : Nat) (y : Cross) (k : Nat) : (s.putCross n y).get k = s.get k := rfl

section
variable {s : State} {c : PCore} {n : Nat} {x : Cross}

theorem crosses_arrives (s : State) (c : Instr) (cls : Nat) : (s.arrives c cls).crosses = s.crosses :=
  State.arrives_keeps (crosses_closed s.crosses rfl) rfl

theorem crosses_bump (s : State) (k : Nat) : (s.bump k).crosses = s.crosses :=
  State.bump_keeps (crosses_closed s.crosses rfl) rfl

/-- A digest that a run awaits wins against the core's timeout, and is kept with the run. -/
def State.takesDigest (s : State) (c : PCore) (n : Nat) (y : Cross) : State :=
  ((s.begin.arrives (.crosscoreTimeout c n) 6).bump (coreKey c 0x83)).putCross n y

theorem crosses_takesDigest (s : State) (c : PCore) (n : Nat) (y : Cross) :
    (s.takesDigest c n y).crosses = s.crosses.map (fun z => if z.id = n then y else z) := by
  unfold State.takesDigest State.putCross
  rw [crosses_bump, crosses_arrives]
  rfl

theorem execCrosscoreRunDone_awaited (ds : List Word) (h : s.awaitedCross c n = some x) :
    exec (.crosscoreRunDone c n ds) s = .next (State.settleAll
      ((s.takesDigest c n { x with digests := x.digests ++ [(c, ds)] }).judgeCross
        { x with digests := x.digests ++ [(c, ds)] })) := by
  have h' : s.begin.awaitedCross c n = some x := h
  show execCrosscoreRunDone c n ds s = _
  simp only [execCrosscoreRunDone, h']
  rfl

/-- A core gave no digest in time: the run keeps it as late, and the timeout is counted. -/
def State.losesDigest (s : State) (c : PCore) (n : Nat) (y : Cross) : State :=
  ((s.begin.expire (.crosscoreTimeout c n)).bump (key 0x2204 8)).putCross n y

theorem losesDigest_frame (y : Cross) (hdue : s.expired (.crosscoreTimeout c n) = true) :
    s.losesDigest c n y = { s with
      out := []
      dict := (s.losesDigest c n y).dict
      timers := (s.losesDigest c n y).timers
      crosses := s.crosses.map (fun z => if z.id = n then y else z)
      err := (s.losesDigest c n y).err } ∧
      (s.losesDigest c n y).armed (.crosscoreTimeout c n) = false ∧ s.KeepsBut (s.losesDigest c n y) [key 0x2204 8] := by
  obtain ⟨hexpire, hdisarmed⟩ := expire_frame (s := s.begin) hdue
  obtain ⟨hbump, hkeeps⟩ := bump_frame (s.begin.expire (.crosscoreTimeout c n)) (key 0x2204 8)
  refine ⟨?_, ?_, ?_⟩
  · unfold State.losesDigest State.putCross
    rw [hbump, hexpire]
    rfl
  · unfold State.losesDigest
    rw [hbump]
    exact hdisarmed
  · exact fun k hk => (get_putCross _ n y k).trans ((hkeeps k hk).trans (get_expire _ _ k))

/-- Another core of a run by its place, 0xFFFF where there is none. -/
def Cross.otherCore (x : Cross) (c : PCore) (i : Nat) : Nat :=
  match (x.cores.filter (fun y => y ≠ c))[i]? with
  | some y => y.val
  | none => 0xFFFF

theorem execCrosscoreTimeout_due (hdue : s.expired (.crosscoreTimeout c n) = true) (h : s.awaitedCross c n = some x) :
    exec (.crosscoreTimeout c n) s = .next (State.settleAll
      (((s.losesDigest c n { x with late := x.late ++ [c] }).chargeCross { x with late := x.late ++ [c] } c allEngines 6
        (x.otherCore c 0) (x.otherCore c 1)).judgeCross { x with late := x.late ++ [c] })) := by
  have hawaited : (s.begin.expire (.crosscoreTimeout c n)).awaitedCross c n = some x := by
    rw [(expire_frame (s := s.begin) hdue).1]
    exact h
  refine (if_neg (by simp [hdue])).trans ?_
  simp only [hawaited]
  rfl

end

/-- Settles O42: the pass's interval is read at its switch, a digest and a timeout at the run that awaits the core. -/
theorem crossCoreCommandsCompare : Obligations.CrossCoreCommandsCompare := by
  unfold Obligations.CrossCoreCommandsCompare
  refine ⟨?on, ?off, ?digest, ?timeout⟩
  case on =>
    intro s hdue hon
    obtain ⟨hframe, hkeeps⟩ := passBegins_frame s (sec (s.nat (key 0x2200 4))) s.crossCores.2
    refine ⟨_, execCrosscoreInterval_on hdue hon, ?_, ?_, armed_passBegins s _ _, ?_, hkeeps⟩
    all_goals rw [hframe]
  case off => exact fun s hdue hoff => execCrosscoreInterval_off hdue hoff
  case digest => exact fun s c n ds x h => ⟨_, execCrosscoreRunDone_awaited ds h, crosses_takesDigest s c n _⟩
  case timeout =>
    intro s c n x hdue h
    obtain ⟨hframe, hdisarmed, hkeeps⟩ := losesDigest_frame { x with late := x.late ++ [c] } hdue
    refine ⟨_, _, _, execCrosscoreTimeout_due hdue h, ?_, hdisarmed, ?_, hkeeps⟩
    all_goals rw [hframe]

end Sys2Proof.Machine
end

section
/-! Margin probes (R138 to R141). -/

namespace Sys2Proof.Machine

/-! ### A probe begins (R138) -/

section
variable (s : State) (c : PCore)

/-- The probe of a core at its trim stands, and its floor plan entry shows it. -/
def State.beginsProbe : State :=
  (State.putN { s with
    free := s.free + 2
    probings := s.probings ++ [⟨c, s.trim c, 0, 0, 0, some (s.trim c), none, false, false⟩] } (coreKey c 0x85) 1).planChanged 1

theorem beginsProbe_frame : s.beginsProbe c = { s with
    dict := (s.beginsProbe c).dict
    free := s.free + 2
    probings := s.probings ++ [⟨c, s.trim c, 0, 0, 0, some (s.trim c), none, false, false⟩] } := by
  unfold State.beginsProbe State.planChanged
  rw [(bumpBy_frame _ (key 0x1300 7) 1).1]
  rfl

theorem get_beginsProbe_ne {k : Nat} (hstate : k ≠ coreKey c 0x85) (hplan : k ≠ key 0x1300 7) :
    (s.beginsProbe c).get k = s.get k :=
  (get_bumpBy_ne _ 1 hplan).trans (get_putN_ne _ 1 hstate)

theorem get_beginsProbe_state : (s.beginsProbe c).get (coreKey c 0x85) = 1 :=
  (get_bumpBy_ne _ 1 (by unfold coreKey key; omega)).trans (get_putN_same _ _ 1)

theorem trim_beginsProbe : (s.beginsProbe c).trim c = s.trim c :=
  congrArg (fun v : Word => mvOfCode v.toNat)
    (get_beginsProbe_ne s c (by unfold coreKey key; omega) (by unfold coreKey key; omega))

/-- The host chip's temperature and clock are the two free values that the probe takes. -/
theorem startProbe_eq : s.startProbe c = (s.beginsProbe c).stepDown c (s.trim c)
    ((Config.freeWord s.free).setWidth 16) ((Config.freeWord (s.free + 1)).setWidth 16) :=
  congrArg (fun v => (s.beginsProbe c).stepDown c v ((Config.freeWord s.free).setWidth 16)
    ((Config.freeWord (s.free + 1)).setWidth 16)) (trim_beginsProbe s c)

end

theorem execMarginProbeStart_due {s : State} {c : PCore} (hroom : s.probeRoom = true) (helig : s.probeEligible c = true)
    (hdue : s.probeDue c = true) :
    exec (.marginProbeStart c) s = .next ((s.begin.beginsProbe c).stepDown c (s.trim c)
      ((Config.freeWord s.free).setWidth 16) ((Config.freeWord (s.free + 1)).setWidth 16)).settleAll := by
  have hguard : (s.begin.probeRoom && s.begin.probeEligible c && s.begin.probeDue c) = true := by
    have hroom' : s.begin.probeRoom = true := hroom
    have helig' : s.begin.probeEligible c = true := helig
    have hdue' : s.begin.probeDue c = true := hdue
    simp [hroom', helig', hdue']
  exact next_settleAll_congr ((if_pos hguard).trans (startProbe_eq s.begin c))

/-! ### The regulator has settled (R140) -/

theorem probing?_of_probings {s t : State} (h : t.probings = s.probings) (c : PCore) : t.probing? c = s.probing? c :=
  congrArg (fun l : List Probing => l.find? (fun p : Probing => p.core == c)) h

theorem probings_arrives (s : State) (c : Instr) (cls : Nat) : (s.arrives c cls).probings = s.probings :=
  State.arrives_keeps (probings_closed s.probings rfl) rfl

section
variable {s : State} {c : PCore}

theorem execRegulatorSettled_late (h : s.armed (.settleTimeout c) = false) :
    exec (.regulatorSettled c) s = .next s.begin.late := by
  have h' : s.begin.armed (.settleTimeout c) = false := h
  exact if_pos (by simp [h'])

/-- A trim commanded outside a probe is reached. -/
theorem execRegulatorSettled_trim (hprobe : s.probing? c = none) (harmed : s.armed (.settleTimeout c) = true) :
    exec (.regulatorSettled c) s = .next (State.settleAll
      ((s.begin.arrives (.settleTimeout c) 2).upProbe c (fun p => { p with settling := 0 }))) := by
  have harmed' : s.begin.armed (.settleTimeout c) = true := harmed
  have hprobe' : (s.begin.arrives (.settleTimeout c) 2).probing? c = none :=
    (probing?_of_probings (probings_arrives _ _ _) c).trans hprobe
  refine (if_neg (by simp [harmed'])).trans ?_
  simp only [hprobe']

/-- The supply of a probe is reached: an ended probe's core is handed over, else the dwell begins. -/
theorem execRegulatorSettled_probe {p : Probing} (hprobe : s.probing? c = some p)
    (harmed : s.armed (.settleTimeout c) = true) {u : State} (hu : u = s.begin.arrives (.settleTimeout c) 2) :
    exec (.regulatorSettled c) s = .next (State.settleAll
      (if p.ending then (u.dropProbing c).handOver c
       else (u.upProbing c (fun q =>
         { q with phase := q.phase + 1, units := 0, fails := 0, below := decide (p.mv < u.trim c) })).probeRun c)) := by
  have harmed' : s.begin.armed (.settleTimeout c) = true := harmed
  have hprobe' : u.probing? c = some p := by
    rw [hu]
    exact (probing?_of_probings (probings_arrives _ _ _) c).trans hprobe
  refine (if_neg (by simp [harmed'])).trans ?_
  subst hu
  simp only [hprobe']
  split <;> rfl

/-! ### The regulator does not settle (R140) -/

/-- The command's timeout is counted, and the core is probed no more until the next cold start. -/
def State.countsRegulator (s : State) (c : PCore) : State :=
  { (s.begin.expire (.settleTimeout c)).bump (key 0x2202 8) with
    badRegulators := s.badRegulators.filter (fun x => x ≠ c) ++ [c] }

theorem countsRegulator_frame (hdue : s.expired (.settleTimeout c) = true) :
    s.countsRegulator c = { s with
      out := []
      dict := (s.countsRegulator c).dict
      timers := (s.countsRegulator c).timers
      badRegulators := (s.countsRegulator c).badRegulators
      err := (s.countsRegulator c).err } ∧ (s.countsRegulator c).armed (.settleTimeout c) = false := by
  obtain ⟨hexpire, hdisarmed⟩ := expire_frame (s := s.begin) hdue
  unfold State.countsRegulator
  rw [(bump_frame _ (key 0x2202 8)).1]
  refine ⟨?_, hdisarmed⟩
  rw [hexpire]
  rfl

@[simp] theorem get_withBadRegulators (s : State) (l : List PCore) (k : Nat) :
    State.get { s with badRegulators := l } k = s.get k := rfl

theorem get_countsRegulator (s : State) (c : PCore) (k : Nat) :
    (s.countsRegulator c).get k = ((s.begin.expire (.settleTimeout c)).bump (key 0x2202 8)).get k := by
  rw [State.countsRegulator, get_withBadRegulators]

theorem keepsBut_countsRegulator (s : State) (c : PCore) : s.KeepsBut (s.countsRegulator c) [key 0x2202 8] := by
  intro k hk
  rw [get_countsRegulator, get_bump_ne _ (by simpa using hk), get_expire]
  rfl

theorem counts_countsRegulator (s : State) (c : PCore) : s.Counts (s.countsRegulator c) (key 0x2202 8) := by
  have hcounts := bump_counts (s.begin.expire (.settleTimeout c)) (key 0x2202 8)
  unfold State.Counts State.nat at hcounts ⊢
  rw [get_expire] at hcounts
  rw [get_countsRegulator]
  exact hcounts

/-- The timeout is counted and raised, source 0x45. -/
def State.raisesRegulator (s : State) (c : PCore) : State :=
  (s.countsRegulator c).screen 0x45 c.val c (screenRecord (s.countsRegulator c) c 0xFF 8 0 0xFFFF 0) false

theorem regulatorFails_expire (hdue : s.expired (.settleTimeout c) = true) :
    (s.begin.expire (.settleTimeout c)).regulatorFails c = s.raisesRegulator c := by
  have hbad : (s.begin.expire (.settleTimeout c)).badRegulators = s.badRegulators := by
    rw [(expire_frame (s := s.begin) hdue).1]
    rfl
  unfold State.regulatorFails State.raisesRegulator State.countsRegulator
  rw [hbad]

theorem probing?_regulatorFails (s : State) (c d : PCore) : (s.regulatorFails c).probing? d = s.probing? d :=
  probing?_of_probings (State.regulatorFails_keeps (probings_closed s.probings rfl) rfl) d

theorem probing?_expire (s : State) (x : Instr) (c : PCore) : (s.expire x).probing? c = s.probing? c :=
  probing?_of_probings (State.expire_keeps (probings_closed s.probings rfl) rfl) c

/-- A probe whose regulator does not settle ends, and the trim is commanded; where the trim did not settle, the core is
given up. -/
theorem execSettleTimeout_probe {p : Probing} (hdue : s.expired (.settleTimeout c) = true) (hprobe : s.probing? c = some p) :
    exec (.settleTimeout c) s = .next (State.settleAll (if p.ending then (s.raisesRegulator c).restoreFailed c
      else ((s.raisesRegulator c).upProbing c (fun q => { q with ending := true })).command c
        ((s.raisesRegulator c).trim c) 6)) := by
  have hprobe' : ((s.begin.expire (.settleTimeout c)).regulatorFails c).probing? c = some p := by
    rw [probing?_regulatorFails, probing?_expire]
    exact hprobe
  rw [← regulatorFails_expire hdue]
  refine (if_neg (by simp [hdue])).trans ?_
  simp only [hprobe']
  split <;> rfl

/-- Outside a probe the trim is commanded once more, then the core is given up. -/
theorem execSettleTimeout_trim (hdue : s.expired (.settleTimeout c) = true) (hprobe : s.probing? c = none) {u : State}
    (hu : u = (s.begin.expire (.settleTimeout c)).regulatorFails c) :
    exec (.settleTimeout c) s = .next (State.settleAll
      (if (u.probe c).settling = 2 then u.restoreFailed c
       else (u.commandTrim c).upProbe c (fun q => { q with settling := 2 }))) := by
  have hprobe' : u.probing? c = none := by
    rw [hu, probing?_regulatorFails, probing?_expire]
    exact hprobe
  refine (if_neg (by simp [hdue])).trans ?_
  subst hu
  simp only [hprobe']
  split <;> rfl

/-! ### A dwell is over (R138) -/

theorem execDwellDone_over {p : Probing} (t k : BitVec 16) (hprobe : s.probing? c = some p) (hover : s.dwellOver p = true)
    (hfrz : s.frz.on = false) :
    exec (.dwellDone c t k) s = .next (s.begin.afterDwell p t k).settleAll := by
  have hprobe' : s.begin.probing? c = some p := hprobe
  have hover' : s.begin.dwellOver p = true := hover
  show execDwellDone c t k s = _
  simp [execDwellDone, hprobe', hover', hfrz]

section
variable {p : Probing} (t k : BitVec 16)

theorem afterDwell_passed (hphase : p.phase = 1) (hfails : p.fails = 0) :
    s.afterDwell p t k = (s.upProbing p.core (fun q => { q with lastPass := some p.mv })).stepDown p.core p.mv t k :=
  (if_pos hphase).trans (if_pos hfails)

/-- A mismatch is re-tested at the trim. -/
theorem afterDwell_failed (hphase : p.phase = 1) (hfails : p.fails ≠ 0) :
    s.afterDwell p t k = (s.upProbing p.core (fun q => { q with firstFail := some p.mv })).command p.core (s.trim p.core) 2 :=
  (if_pos hphase).trans (if_neg hfails)

theorem stepDown_above {v : Int} (h : s.floorMv ≤ v - 5) : s.stepDown c v t k = s.command c (v - 5) 0 := if_pos h

theorem stepDown_floor {v : Int} (h : v - 5 < s.floorMv) : s.stepDown c v t k = s.recordMap c v none t k :=
  if_neg (Int.not_le.mpr h)

end

end

/-- Settles O43: a settled and a timeout are read at the core's probe, and a dwell's end at its phase and mismatches. -/
theorem marginProbeCommandsStep : Obligations.MarginProbeCommandsStep := by
  unfold Obligations.MarginProbeCommandsStep
  refine ⟨?start, ?late, ?settledTrim, ?settled, ?timeout, ?timeoutTrim, ?dwell⟩
  case start =>
    intro s c hroom helig hdue
    have hframe := beginsProbe_frame s.begin c
    refine ⟨_, _, _, execMarginProbeStart_due hroom helig hdue, ?_, get_beginsProbe_state _ c, ?_, ?_⟩
    · rw [hframe]
      rfl
    · rw [hframe]
      rfl
    · intro k hk
      obtain ⟨hstate, hplan⟩ : k ≠ coreKey c 0x85 ∧ k ≠ key 0x1300 7 := by simpa using hk
      exact get_beginsProbe_ne s.begin c hstate hplan
  case late => exact fun s c h => execRegulatorSettled_late h
  case settledTrim => exact fun s c hprobe harmed => execRegulatorSettled_trim hprobe harmed
  case settled => exact fun s c p hprobe harmed => ⟨_, rfl, execRegulatorSettled_probe hprobe harmed rfl⟩
  case timeout =>
    intro s c p hdue hprobe
    obtain ⟨hframe, hdisarmed⟩ := countsRegulator_frame hdue
    exact ⟨s.countsRegulator c, s.raisesRegulator c, execSettleTimeout_probe hdue hprobe, rfl, rfl, hdisarmed, hframe,
      keepsBut_countsRegulator s c, counts_countsRegulator s c⟩
  case timeoutTrim => exact fun s c hdue hprobe => ⟨_, rfl, execSettleTimeout_trim hdue hprobe rfl⟩
  case dwell =>
    intro s c t k p hprobe hover hfrz
    have hexec := execDwellDone_over t k hprobe hover hfrz
    refine ⟨hexec, ?_, ?_, ?_⟩
    · rintro rfl hphase hfails hroom
      rw [hexec, afterDwell_passed t k hphase hfails]
      exact next_settleAll_congr (stepDown_above t k hroom)
    · rintro rfl hphase hfails hfloor
      rw [hexec, afterDwell_passed t k hphase hfails]
      exact next_settleAll_congr (stepDown_floor t k hfloor)
    · rintro rfl hphase hfails
      rw [hexec, afterDwell_failed t k hphase hfails]
      rfl

end Sys2Proof.Machine
end

section
/-! The guard-band map (R141, R142) and the trims that the host writes (R144, R146). -/

namespace Sys2Proof.Machine

section
variable {s : State} {c : PCore}

/-! ### Stale entries (R142) -/

/-- The instant at which the core's map entry is too old. -/
def State.mapAgedAt (s : State) (c : PCore) : Nat := s.nat (coreKey c 0x8A) + hour (s.nat (key 0x2203 5))

theorem execMapEntryAged_old (hdue : s.expired (.mapEntryAged c) = true) (hold : s.mapAgedAt c ≤ s.t) :
    exec (.mapEntryAged c) s =
      .next (State.settleAll (((s.begin.disarm (.mapEntryAged c)).staleMap c).tryProbe c)) :=
  (if_neg (by simp [hdue])).trans (if_neg (Nat.not_lt.mpr hold))

/-- A longer age was set meanwhile: the entry's timeout waits for it (log entry 70). -/
theorem execMapEntryAged_waits (hdue : s.expired (.mapEntryAged c) = true) (hyoung : s.t < s.mapAgedAt c) :
    exec (.mapEntryAged c) s = .next (s.begin.armAt (.mapEntryAged c) (s.mapAgedAt c)) :=
  (if_neg (by simp [hdue])).trans (if_pos hyoung)

theorem execMapTemperatureStale_moved {t : BitVec 16} (hmeasured : (s.probe c).mapFlags.getLsbD 0 = true)
    (hmoved : 10 * s.nat (key 0x2203 6) < (tempOf t.toNat - tempOf (s.nat (coreKey c 0x8B))).natAbs) :
    exec (.mapTemperatureStale c t) s = .next (State.settleAll ((s.begin.staleMap c).tryProbe c)) :=
  if_pos (Bool.and_eq_true_iff.mpr ⟨hmeasured, decide_eq_true hmoved⟩)

/-- Every core that can be probed is marked, then probes start as far as there is room. -/
theorem execReprobeInterval_due {u : State} (hdue : s.expired .reprobeInterval = true)
    (hu : u = s.begin.arm .reprobeInterval (hour (s.nat (key 0x2202 4)))) :
    exec .reprobeInterval s = .next (State.settleAll ((allCores.filter u.probeEligible).foldl
      (fun (v : State) c => v.tryProbe c)
      ((allCores.filter u.probeEligible).foldl (fun (v : State) c => v.upProbe c (fun p => { p with reprobe := true })) u))) := by
  subst hu
  exact if_neg (by simp [hdue])

/-! ### Trims written by the host (R146) -/

theorem writeTrim_within {v : Word} (hfenced : s.fp c ≠ 2) (hretired : s.fp c ≠ 3) (hhost : s.get (key 0x2203 1) = 0)
    (hlow : -(s.nat (key 0x2203 2) : Int) ≤ mvOfCode v.toNat) (hhigh : mvOfCode v.toNat ≤ (s.nat (key 0x2203 3) : Int)) :
    writeTrim c v s = (s.changeTrim c (mvOfCode v.toNat), .done) := by
  have hcore : ¬ (s.fp c = 2 ∨ s.fp c = 3) := not_or.mpr ⟨hfenced, hretired⟩
  have hlimits : ¬ (mvOfCode v.toNat < -(s.nat (key 0x2203 2) : Int) ∨
      (s.nat (key 0x2203 3) : Int) < mvOfCode v.toNat) := by omega
  exact (if_neg hcore).trans ((if_neg (not_not_intro hhost)).trans (if_neg hlimits))

end

/-- Settles O44: an entry's age and temperature are compared with its limits, and a trim meets each of its checks. -/
theorem guardBandCommandsAct : Obligations.GuardBandCommandsAct := by
  unfold Obligations.GuardBandCommandsAct
  refine ⟨?old, ?waits, ?moved, ?reprobe, ?trim⟩
  case old => exact fun s c hdue hold => execMapEntryAged_old hdue hold
  case waits => exact fun s c hdue hyoung => execMapEntryAged_waits hdue hyoung
  case moved => exact fun s c t hmeasured hmoved => execMapTemperatureStale_moved hmeasured hmoved
  case reprobe => exact fun s hdue => ⟨_, rfl, execReprobeInterval_due hdue rfl⟩
  case trim =>
    rintro s x path c v rfl htakes hfenced hretired hhost hlow hhigh
    exact next_granted_takes htakes (writeTrim_within hfenced hretired hhost hlow hhigh)

end Sys2Proof.Machine
end

section
/-! Supervision of live re-centring (R147, R148) and the check budget (R149, R150). -/

namespace Sys2Proof.Machine

/-- What a window counted: matrix-engine cycles with checked job work and in all, the core time of proofs and of screening, and
that of the enabled cores. -/
structure Shares where
  job : Nat
  all : Nat
  proof : Nat
  screen : Nat
  core : Nat

/-- The share of the window as one fraction, galley, then proofs and screening (log entry 66). -/
def Shares.num (x : Shares) : Nat := x.job * x.core + (x.proof + x.screen) * x.all

def Shares.den (x : Shares) : Nat := x.all * x.core

/-- The share in thousandths: the sum of its parts where the fraction has nothing to divide by. -/
def Shares.total (x : Shares) : Nat :=
  if x.den = 0 then thousandths x.job x.all + thousandths (x.proof + x.screen) x.core else thousandths x.num x.den

/-- The share is above a limit in thousandths. -/
def Shares.above (x : Shares) (limit : Nat) : Bool :=
  if x.den = 0 then decide (limit < x.total) else decide (limit * x.den < 1000 * x.num)

theorem Shares.above_fraction {x : Shares} (limit : Nat) (h : x.den ≠ 0) :
    x.above limit = decide (limit * x.den < 1000 * x.num) := if_neg h

theorem putN_dictAlone (s : State) (k n : Nat) : s.putN k n = { s with dict := (s.putN k n).dict } := rfl

/-- What changes the dictionary alone, twice, changes the dictionary alone. -/
theorem dictAlone_trans {s t u : State} (h : t = { s with dict := t.dict }) (h' : u = { t with dict := u.dict }) :
    u = { s with dict := u.dict } := by
  obtain ⟨d, rfl⟩ : ∃ d, t = { s with dict := d } := ⟨_, h⟩
  exact h'

section
variable (s : State) (x : Shares)

/-- Objects 0x2201.03 to .06: the share and its parts, in thousandths. -/
def State.showShares : State :=
  (((s.putN (key 0x2201 3) (min x.total 0xFFFF)).putN (key 0x2201 4) (min (thousandths x.job x.all) 0xFFFF)).putN
    (key 0x2201 5) (min (thousandths x.proof x.core) 0xFFFF)).putN (key 0x2201 6) (min (thousandths x.screen x.core) 0xFFFF)

theorem showShares_frame : s.showShares x = { s with dict := (s.showShares x).dict } :=
  dictAlone_trans (dictAlone_trans (dictAlone_trans (putN_dictAlone s _ _) (putN_dictAlone _ _ _)) (putN_dictAlone _ _ _))
    (putN_dictAlone _ _ _)

theorem keepsBut_showShares : s.KeepsBut (s.showShares x) [key 0x2201 3, key 0x2201 4, key 0x2201 5, key 0x2201 6] := by
  intro k hk
  obtain ⟨h3, h4, h5, h6⟩ : k ≠ key 0x2201 3 ∧ k ≠ key 0x2201 4 ∧ k ≠ key 0x2201 5 ∧ k ≠ key 0x2201 6 := by
    simpa using hk
  unfold State.showShares
  rw [get_putN_ne _ _ h6, get_putN_ne _ _ h5, get_putN_ne _ _ h4, get_putN_ne _ _ h3]

theorem nat_putN_min (k n : Nat) : (s.putN k (min n 0xFFFF)).nat k = min n 0xFFFF := by
  unfold State.nat
  rw [get_putN_same, BitVec.toNat_ofNat]
  omega

theorem nat_showShares_screen : (s.showShares x).nat (key 0x2201 6) = min (thousandths x.screen x.core) 0xFFFF :=
  nat_putN_min _ _ _

theorem nat_showShares_proof : (s.showShares x).nat (key 0x2201 5) = min (thousandths x.proof x.core) 0xFFFF :=
  (congrArg BitVec.toNat (get_putN_ne _ _ (by decide))).trans (nat_putN_min _ _ _)

theorem nat_showShares_limit : (s.showShares x).nat (key 0x2201 1) = s.nat (key 0x2201 1) :=
  congrArg BitVec.toNat (keepsBut_showShares s x _ (by decide))

/-- The next window begins; the shares of the one that ended are shown and compared with the budget. -/
def State.windowEnds : State :=
  { s.begin.armBudget.showShares x with overBudget := x.above (s.nat (key 0x2201 1)) }

/-- The shares of the window that ends, over the core time of the enabled cores. -/
def State.sharesOf (jobCycles allCycles proofTime screenTime : Nat) : Shares :=
  { job := jobCycles, all := 64 * allCycles, proof := proofTime, screen := screenTime,
    core := s.enabledCount * s.budgetWindow }

end

theorem windowEnds_frame (s : State) (x : Shares) : s.windowEnds x = { s with
    out := []
    dict := (s.windowEnds x).dict
    timers := (s.windowEnds x).timers
    overBudget := (s.windowEnds x).overBudget
    budgetWindow := (s.windowEnds x).budgetWindow } := by
  unfold State.windowEnds
  rw [showShares_frame]
  rfl

@[simp] theorem get_withOverBudget (s : State) (b : Bool) (k : Nat) :
    State.get { s with overBudget := b } k = s.get k := rfl

theorem get_windowEnds (s : State) (x : Shares) (k : Nat) :
    (s.windowEnds x).get k = (s.begin.armBudget.showShares x).get k := by
  rw [State.windowEnds, get_withOverBudget]

theorem nat_windowEnds (s : State) (x : Shares) (k : Nat) :
    (s.windowEnds x).nat k = (s.begin.armBudget.showShares x).nat k := congrArg BitVec.toNat (get_windowEnds s x k)

@[simp] theorem enabledCount_begin_armBudget (s : State) : s.begin.armBudget.enabledCount = s.enabledCount := rfl

theorem execBudgetWindowEnd_due {s : State} {a b p q : Nat} {x : Shares} (hx : x = s.sharesOf a b p q)
    (hdue : s.expired (.budgetWindowEnd 0 0 0 0) = true) :
    exec (.budgetWindowEnd a b p q) s = .next (if (s.windowEnds x).overBudget
      then ((s.windowEnds x).bump (key 0x2201 7)).raise 0x47 0 [] else (s.windowEnds x).resumeScreening).settleAll := by
  have hlimit : (s.begin.armBudget.showShares x).nat (key 0x2201 1) = s.nat (key 0x2201 1) :=
    nat_showShares_limit s.begin.armBudget x
  unfold State.windowEnds
  rw [← hlimit]
  subst hx
  refine (if_neg (by simp [hdue])).trans ?_
  rw [enabledCount_begin_armBudget]
  rfl

theorem armed_windowEnds (s : State) (x : Shares) : (s.windowEnds x).armed (.budgetWindowEnd 0 0 0 0) = true :=
  armed_arm { s.begin with budgetWindow := ms (s.nat (key 0x2201 2)) } (.budgetWindowEnd 0 0 0 0) (ms (s.nat (key 0x2201 2)))

/-- Settles O45: a sample is judged by its kind; the window's shares are the fractions of its counts. -/
theorem supervisorsAndBudgetReport : Obligations.SupervisorsAndBudgetReport := by
  unfold Obligations.SupervisorsAndBudgetReport
  refine ⟨?samples, ?window⟩
  case samples =>
    intro s l hdue
    exact if_neg (by simp [hdue])
  case window =>
    intro s a b p q hdue
    refine ⟨s.windowEnds (s.sharesOf a b p q), execBudgetWindowEnd_due rfl hdue, ?proof, ?screen,
      fun hden => Shares.above_fraction _ hden, rfl, armed_windowEnds s _, windowEnds_frame s _, ?keeps⟩
    case proof =>
      rw [nat_windowEnds, nat_showShares_proof]
      rfl
    case screen =>
      rw [nat_windowEnds, nat_showShares_screen]
      rfl
    case keeps =>
      exact fun k hk => (get_windowEnds s _ k).trans (keepsBut_showShares s.begin.armBudget _ k hk)

end Sys2Proof.Machine
end

section
/-! Poison that is consumed (R164 to R166), and the host's action on a domain that it stopped (R167). -/

namespace Sys2Proof.Machine

/-! ### Consumption by a step's work (R165, R167) -/

section
variable {s : State} {w : Work} {d : Dom} {n : Nat}

/-- The work is of a step that its active domain still holds, and was not discarded (R167). -/
def State.stepStands (s : State) (w : Work) (d : Dom) (n : Nat) : Bool :=
  (s.dom d).active && ((s.dom d).step? n).isSome && decide ((w.core, w.engine, w.item) ∉ s.oldWork)

theorem stepStands_iff : s.stepStands w d n = true ↔
    (s.dom d).active = true ∧ (s.dom d).step? n ≠ none ∧ (w.core, w.engine, w.item) ∉ s.oldWork := by
  simp [State.stepStands, Option.isSome_iff_ne_none, and_assoc]

theorem not_stepStands (h : (s.dom d).active = false ∨ (s.dom d).step? n = none ∨ (w.core, w.engine, w.item) ∈ s.oldWork) :
    ¬ s.stepStands w d n = true := by
  rw [stepStands_iff]
  rintro ⟨hactive, hstep, hnew⟩
  rcases h with hidle | hnone | hold
  · exact Bool.false_ne_true (hidle.symm.trans hactive)
  · exact hstep hnone
  · exact hnew hold

/-- Poison in a step's work stops its domain where the step still stands, and is counted only where it does not. -/
theorem execPoisonConsumed_step (cause : Fin 5) (src : Word) (horigin : w.origin = .step d n) :
    exec (.poisonConsumed w cause src) s = if s.stepStands w d n = true then
      .next ((s.begin.addEdges w.core w.edges).consume d n w.core w.engine.val cause.val src).settleAll
    else .next ((s.begin.addEdges w.core w.edges).bump (key 0x2301 0x12)).settleAll := by
  show execPoisonConsumed w cause src s = _
  simp only [execPoisonConsumed, horigin]
  rfl

end

/-! ### Consumption elsewhere (R166): each is counted (log entry 50) -/

section
variable {s : State} {w : Work}

theorem execPoisonConsumed_elsewhere (cause : Fin 5) (src : Word) (h : ∀ d n, w.origin ≠ .step d n) :
    exec (.poisonConsumed w cause src) s = .next ((s.begin.addEdges w.core w.edges).consumeElsewhere w).settleAll := by
  show execPoisonConsumed w cause src s = _
  cases horigin : w.origin with
  | step d n => exact absurd horigin (h d n)
  | _ => simp only [execPoisonConsumed, horigin]

theorem consumeElsewhere_specimen (h : w.origin = .specimen) :
    s.consumeElsewhere w = (s.bump (key 0x2301 0x12)).repeatSpecimen w.core := by
  simp only [State.consumeElsewhere, h]

theorem consumeElsewhere_cross {r : Nat} (h : w.origin = .cross r) :
    s.consumeElsewhere w =
      ((s.bump (key 0x2301 0x12)).endCrosses w.core (fun x => x.id == r)).probeRun w.core := by
  simp only [State.consumeElsewhere, h]

theorem consumeElsewhere_regen (h : w.origin = .regen) :
    s.consumeElsewhere w = (s.bump (key 0x2301 0x12)).endRegen 5 := by
  simp only [State.consumeElsewhere, h]

theorem consumeElsewhere_proof {d : Dom} {k : LCore} {n : Nat} {p : Proof} (h : w.origin = .proof d k n)
    (hp : (s.bump (key 0x2301 0x12)).proofOn d k n w.core = some p) :
    s.consumeElsewhere w = if p.rcore = some w.core then (s.bump (key 0x2301 0x12)).loseRevise p
      else (s.bump (key 0x2301 0x12)).loseProof p := by
  simp only [State.consumeElsewhere, h, hp]

end

/-! ### The host's action on a stopped domain (R167) -/

section
variable {s : State} {d : Dom}

theorem ifStopped_stopped (body : Body) (h : s.get (domKey 0x2301 1 d) = 1) : ifStopped d body s = body s :=
  if_neg (by simp [h])

/-- A rollback that is ordered is done, whoever carries it out. -/
theorem poisonResume_done (d : Dom) (s : State) : poisonResume d s = ((poisonResume d s).1, .done) := by
  have hdone : (poisonResume d s).2 = .done := by
    unfold poisonResume
    simp only [apply_ite Prod.snd, ite_self]
  exact Prod.ext rfl hdone

theorem execPoisonEndJob_takes {path : Path} (htakes : s.Takes path (domKey 0x2301 9 d) 1 false)
    (h : (s.taking path (domKey 0x2301 9 d)).get (domKey 0x2301 1 d) = 1) :
    exec (.poisonEndJob path d) s = .next (State.taken
      (((s.taking path (domKey 0x2301 9 d)).putN (domKey 0x2301 1 d) 2).endJob d (originOf path))
      path (domKey 0x2301 9 d) .done) :=
  next_granted_takes htakes (ifStopped_stopped _ h)

theorem execPoisonRollbackResume_takes {path : Path} (htakes : s.Takes path (domKey 0x2301 9 d) 2 false)
    (h : (s.taking path (domKey 0x2301 9 d)).get (domKey 0x2301 1 d) = 1) :
    exec (.poisonRollbackResume path d) s = .next
      ((poisonResume d (s.taking path (domKey 0x2301 9 d))).1.taken path (domKey 0x2301 9 d) .done) :=
  next_granted_takes htakes ((ifStopped_stopped _ h).trans (poisonResume_done d _))

/-- A chip's own domain is rolled back here, and goes on when its ledger has been walked. -/
theorem poisonResume_single {u v : State} (hu : u = s.putN (domKey 0x2301 1 d) 3) (hsingle : u.multi d = false)
    (hv : v = (u.rollbackHere d (u.dom d).base).upDom d (fun y => { y with poison := none })) :
    (poisonResume d s).1 = if (v.dom d).walk then v else v.afterWalk d := by
  subst hu hv
  exact congrArg Prod.fst (if_pos (by simp [hsingle]))

/-- A worker leaves the rollback of its job to the steward. -/
theorem poisonResume_worker {u : State} (hu : u = s.putN (domKey 0x2301 1 d) 3) (hmulti : u.multi d = true)
    (hrole : u.role ≠ 2) : (poisonResume d s).1 = u.toSteward (.failure d .rollback) := by
  subst hu
  exact congrArg Prod.fst ((if_neg (by simp [hmulti])).trans (if_neg hrole))

end

/-- Settles O38: a consumption is read at the origin of its work, the host's action at the stopped domain. -/
theorem poisonCommandsAct : Obligations.PoisonCommandsAct := by
  unfold Obligations.PoisonCommandsAct
  refine ⟨?step, ?discarded, ?elsewhere, ?endJob, ?resume, ?rollback⟩
  case step =>
    intro s w cause src d n horigin hactive hstep hnew
    rw [execPoisonConsumed_step cause src horigin, if_pos (stepStands_iff.mpr ⟨hactive, hstep, hnew⟩)]
  case discarded =>
    intro s w cause src d n horigin h
    rw [execPoisonConsumed_step cause src horigin, if_neg (not_stepStands h)]
  case elsewhere =>
    rintro s _ w cause src rfl
    have hexec (h : ∀ d n, w.origin ≠ .step d n) := execPoisonConsumed_elsewhere (s := s) cause src h
    refine ⟨fun h => ?_, fun r h => ?_, fun h => ?_, fun d k n p h hp => ?_⟩
    · rw [hexec (by simp [h]), consumeElsewhere_specimen h]
    · rw [hexec (by simp [h]), consumeElsewhere_cross h]
    · rw [hexec (by simp [h]), consumeElsewhere_regen h]
    · rw [hexec (by simp [h]), consumeElsewhere_proof h hp]
  case endJob =>
    rintro s _ path d rfl htakes h
    exact execPoisonEndJob_takes htakes h
  case resume =>
    rintro s _ path d rfl htakes h
    exact execPoisonRollbackResume_takes htakes h
  case rollback =>
    rintro s _ u v path d rfl htakes h hu
    refine ⟨?_, fun hsingle hv => ?_, fun hmulti hrole => ?_⟩
    · rw [hu, get_putN_same]
      rfl
    · rw [execPoisonRollbackResume_takes htakes h, poisonResume_single hu hsingle hv]
    · rw [execPoisonRollbackResume_takes htakes h, poisonResume_worker hu hmulti hrole]

end Sys2Proof.Machine
end

section
/-! Stored data (R155 to R162, R109): corrected errors with their queue and table, uncorrectable words, refused reads. -/

namespace Sys2Proof.Machine

/-! ### Slices -/

theorem slice_setSlice_same (s : State) (c : PCore) (x : Slice) : (s.setSlice c x).slice c = x :=
  tabGet_tabPut_same _ _ _ _

@[simp] theorem get_setSlice (s : State) (c : PCore) (x : Slice) (k : Nat) : (s.setSlice c x).get k = s.get k := rfl

@[simp] theorem slice_bump (s : State) (k : Nat) (c : PCore) : (s.bump k).slice c = s.slice c := by
  rw [(bump_frame s k).1]
  rfl

/-! ### Corrected errors are queued (R155) -/

section
variable (s : State) (c : PCore)

/-- A corrected read is counted for its slice and for the chip. -/
def State.countsCorrected : State := (s.bump (coreKey c 0x91)).bump (key 0x2302 1)

theorem countsCorrected_frame : s.countsCorrected c = { s with dict := (s.countsCorrected c).dict } :=
  dictAlone_trans (bump_frame s _).1 (bump_frame _ _).1

theorem keepsBut_countsCorrected : s.KeepsBut (s.countsCorrected c) [coreKey c 0x91, key 0x2302 1] := by
  intro k hk
  obtain ⟨hcore, hchip⟩ : k ≠ coreKey c 0x91 ∧ k ≠ key 0x2302 1 := by simpa using hk
  exact (get_bump_ne _ hchip).trans (get_bump_ne s hcore)

/-- The report waits in its slice's queue, and its time counts towards the rate of R157. -/
def State.queuesReport (r : BitVec 25 × Fin 36 × Word × Bool) : State :=
  s.setSlice c { s.slice c with
    times := recentTimes (s.slice c).times s.t ++ [s.t]
    queue := (s.slice c).queue ++ [r] }

theorem queuesReport_frame (r : BitVec 25 × Fin 36 × Word × Bool) :
    s.queuesReport c r = { s with slices := (s.queuesReport c r).slices } := rfl

@[simp] theorem get_queuesReport (r : BitVec 25 × Fin 36 × Word × Bool) (k : Nat) : (s.queuesReport c r).get k = s.get k := rfl

theorem queue_queuesReport (r : BitVec 25 × Fin 36 × Word × Bool) :
    ((s.queuesReport c r).slice c).queue = (s.slice c).queue ++ [r] := by
  unfold State.queuesReport
  rw [slice_setSlice_same]

@[simp] theorem slice_countsCorrected : (s.countsCorrected c).slice c = s.slice c := by
  rw [countsCorrected_frame]
  rfl

@[simp] theorem now_countsCorrected : (s.countsCorrected c).now = s.now := by
  rw [countsCorrected_frame]

end

/-- A report that no scan engine made finds room in the queue. -/
theorem corrected_queued {s : State} {c : PCore} (w : BitVec 25) (y : Fin 36) (b f : Bool) (h : (s.slice c).queue.length < 16) :
    s.corrected c w y none b f =
      (((s.countsCorrected c).queuesReport c (w, y, s.now, false)).disturbCore c 4).raiseWith 0x50 c.val [] f := by
  have hroom : ((s.countsCorrected c).slice c).queue.length < 16 := (slice_countsCorrected s c).symm ▸ h
  rw [← now_countsCorrected s c]
  exact congrArg (fun u : State => (u.disturbCore c 4).raiseWith 0x50 c.val [] f) (if_pos hroom)

/-! ### Reports leave the queue for the table (R156, R157) -/

/-- The table's entry of the word becomes a repair candidate when its count has reached object 0x2300.02. -/
def State.repairsFrom (s : State) (c : PCore) (w : BitVec 25) (l : List CeEntry) : State :=
  match l.find? (fun e => e.word == w) with
  | some e => if !e.flags.getLsbD 0 && decide (s.nat (key 0x2300 2) ≤ e.count) then s.candidate c w else s
  | none => s

section
variable (s : State) (c : PCore) (q : List (BitVec 25 × Fin 36 × Word × Bool)) (l : List CeEntry × Bool)

/-- The queue goes on as q and the table becomes l; an entry that another replaced is counted as lost. -/
def State.tablesReport : State :=
  let t := s.setSlice c { s.slice c with queue := q, table := l.1 }
  if l.2 then t.bump (coreKey c 0x94) else t

theorem slice_tablesReport : (s.tablesReport c q l).slice c = { s.slice c with queue := q, table := l.1 } := by
  unfold State.tablesReport
  split
  · rw [slice_bump, slice_setSlice_same]
  · rw [slice_setSlice_same]

theorem tablesReport_frame : s.tablesReport c q l =
    { s with slices := (s.tablesReport c q l).slices, dict := (s.tablesReport c q l).dict } := by
  unfold State.tablesReport
  split
  · rw [(bump_frame _ _).1]
    rfl
  · rfl

theorem keepsBut_tablesReport : s.KeepsBut (s.tablesReport c q l) [coreKey c 0x94] := by
  intro k hk
  unfold State.tablesReport
  split
  · exact get_bump_ne _ (by simpa using hk)
  · rfl

end

theorem execCeReportDequeue_next {s : State} {c : PCore} {w : BitVec 25} {y : Fin 36} {t : Word} {scan : Bool}
    {q : List (BitVec 25 × Fin 36 × Word × Bool)} (h : (s.slice c).queue = (w, y, t, scan) :: q) {v : State}
    (hv : v = s.begin.tablesReport c q (ceUpdate (s.slice c).table w y.val t scan)) :
    exec (.ceReportDequeue c) s =
      .next ((v.repairsFrom c w (ceUpdate (s.slice c).table w y.val t scan).1).rateCheck c).settleAll := by
  have h' : (s.begin.slice c).queue = (w, y, t, scan) :: q := h
  subst hv
  show execCeReportDequeue c s = _
  simp only [execCeReportDequeue, h']
  rfl

/-! ### Uncorrectable words (R162) -/

/-- The word is poisoned, and its error counted for the slice and for the chip. -/
def State.losesWord (s : State) (c : PCore) (w : BitVec 25) : State :=
  ((s.poisonWords c w.toNat 1).bump (coreKey c 0x92)).bump (key 0x2302 2)

/-- The read of a narrow write is counted where it is, but for one that no core requested (R158). -/
theorem execUncorrectableError_read (s : State) (c : PCore) (w : BitVec 25) {b : ReadBy} {r : Option PCore}
    (h : b ≠ .readModifyWrite ∨ r ≠ none) :
    exec (.uncorrectableError c w b r) s =
      .next (s.begin.uncorrectable c w (readByNumber b).1 (readByNumber b).2 false r).settleAll := by
  have hread : ¬ (b = .readModifyWrite ∧ r = none) := not_and_or.mpr h
  show execUncorrectableError c w b r s = _
  simp only [execUncorrectableError, if_neg hread]

/-- The error is raised with its record, which stays in the objects of the last record where the raise is captured. -/
theorem uncorrectable_eq (s : State) (c : PCore) (w : BitVec 25) (by_ scan : Nat) (f : Bool) (r : Option PCore) {u : State}
    {b : Bytes} (hu : u = s.losesWord c w) (hb : b = u.ueRecord c w by_ scan f r) :
    s.uncorrectable c w by_ scan f r = if u.captures 0x53 c.val
      then ((u.raiseWith 0x53 c.val b f).setContent (key 0x2303 1) b).setContent (coreKey c 0x9B) b
      else u.raiseWith 0x53 c.val b f := by
  subst hb hu
  rfl

/-! ### Refused reads (R160, R109) -/

/-- A read of a slice is refused with the fence status, and counted. -/
def State.refusesRead (s : State) (k : Nat) : State := (s.begin.bump k).send .fenceStatus

theorem refusesRead_counts (s : State) (k : Nat) :
    (s.refusesRead k).out = [.fenceStatus] ∧
    s.refusesRead k = { s with out := (s.refusesRead k).out, dict := (s.refusesRead k).dict } ∧
    s.KeepsBut (s.refusesRead k) [k] ∧ s.Counts (s.refusesRead k) k := by
  obtain ⟨hframe, hkeeps, hcounts⟩ := begin_bump s k
  refine ⟨?_, ?_, hkeeps, hcounts⟩
  all_goals
    unfold State.refusesRead
    rw [hframe]
    rfl

theorem execFillRefusal_unfilled {s : State} {c : PCore} (h : s.get (coreKey c 0x97) ≠ 2) :
    exec (.fillRefusal c) s = .next (s.refusesRead (key 0x2302 0xD)) := if_neg h

theorem execReservedRangeRefusal_held {s : State} {c : PCore} (h : s.get (coreKey c 0x97) ≠ 3) :
    exec (.reservedRangeRefusal c) s = .next (s.refusesRead (key 0x2302 0xE)) := if_neg h

/-- Settles O46: a report is read at its slice's queue and table, a refusal at the slice's state. -/
theorem storedDataReportsAreKept : Obligations.StoredDataReportsAreKept := by
  unfold Obligations.StoredDataReportsAreKept
  refine ⟨?corrected, ?queued, ?tabled, ?uncorrectable, ?unfilled, ?reserved⟩
  case corrected => exact fun s c w y m b => rfl
  case queued =>
    intro s c w y b h
    have hkeeps := keepsBut_countsCorrected s.begin c
    refine ⟨(s.begin.countsCorrected c).queuesReport c (w, y, s.now, false),
      next_settleAll_congr (corrected_queued w y b false h), ?_, ?_, fun k hk => (get_queuesReport _ c _ k).trans (hkeeps k hk)⟩
    · rw [queue_queuesReport, slice_countsCorrected]
      rfl
    · rw [queuesReport_frame, countsCorrected_frame]
      rfl
  case tabled =>
    intro s c w y t scan q h
    refine ⟨_, s.begin.tablesReport c q (ceUpdate (s.slice c).table w y.val t scan), execCeReportDequeue_next h rfl, ?_, ?_,
      tablesReport_frame s.begin c q _, keepsBut_tablesReport s.begin c q _, rfl⟩
    all_goals rw [slice_tablesReport]
  case uncorrectable =>
    intro s c w b r h
    refine ⟨_, _, rfl, rfl, ?_⟩
    rw [execUncorrectableError_read s c w h, uncorrectable_eq s.begin c w _ _ false r rfl rfl]
    rfl
  case unfilled => exact fun s c h => ⟨_, execFillRefusal_unfilled h, refusesRead_counts s _⟩
  case reserved => exact fun s c h => ⟨_, execReservedRangeRefusal_held h, refusesRead_counts s _⟩

end Sys2Proof.Machine
end

section
/-! The scan engines (R168 to R172) and the weight digests (R173 to R176). -/

namespace Sys2Proof.Machine

/-! ### The host's controls of a scan engine (R171) -/

section
variable {s : State} {m : MseNo} (hretired : s.scanRetired m = false) (howned : s.pcOwned m = false)
include hretired howned

theorem scanControl_start (h : s.scanState m ≠ 1) : scanControl m 1 s = s.runScan m := by
  simp [scanControl, hretired, howned, h]

theorem scanControl_pause (h : s.scanState m = 1) : scanControl m 2 s = (s.stopScan m 2, .done) := by
  simp [scanControl, hretired, howned, h]

theorem scanControl_resume (h : s.scanState m = 2) : scanControl m 3 s = s.runScan m := by
  simp [scanControl, hretired, howned, h]

theorem scanControl_abortRunning (h : s.scanState m = 1) : scanControl m 4 s = (s.stopScan m 4, .done) := by
  simp [scanControl, hretired, howned, h]

theorem scanControl_abortPaused (h : s.scanState m = 2) : scanControl m 4 s = (s.putN (mseKey m 6) 4, .done) := by
  simp [scanControl, hretired, howned, h]

end

/-! ### A pass is done (R169, R174) -/

theorem mseKey_ne (m : MseNo) {i j : Nat} (h : i ≠ j) : mseKey m i ≠ mseKey m j := by
  unfold mseKey key
  omega

section
variable (s : State) (m : MseNo) (crc : Word) (poison : Bool)

theorem get_endScan_owner : (s.endScan m crc poison).get (mseKey m 7) = 0xFFFF := get_putN_same _ _ 0xFFFF

theorem get_endScan_state : (s.endScan m crc poison).get (mseKey m 6) = if poison then 5 else 3 := by
  have hne : mseKey m 6 ≠ mseKey m 7 := mseKey_ne m (by decide)
  unfold State.endScan
  simp only
  rw [get_putN_ne _ _ hne, get_putN_same]
  split <;> rfl

theorem get_endScan_crc : (s.endScan m crc poison).get (mseKey m 4) = crc := by
  have howner : mseKey m 4 ≠ mseKey m 7 := mseKey_ne m (by decide)
  have hstate : mseKey m 4 ≠ mseKey m 6 := mseKey_ne m (by decide)
  unfold State.endScan
  simp only
  rw [get_putN_ne _ _ howner, get_putN_ne _ _ hstate, get_put_same]

end

section
variable {s : State} {m : MseNo} {crc : Word} {poison : Bool}

theorem scanState_begin_running (h : s.scanState m = 1) : ¬ (s.begin.scanState m != 1) = true := by
  have h' : s.begin.scanState m = 1 := h
  simp [h']

/-- A pass of the host's, which no record owns, changes no record. -/
theorem execScanPassDone_host (h : s.scanState m = 1) (howner : 2048 ≤ s.nat (mseKey m 7)) :
    exec (.scanPassDone m crc poison) s = .next (s.begin.endScan m crc poison).schedulePasses.settleAll :=
  (if_neg (scanState_begin_running h)).trans
    (next_settleAll_congr (congrArg State.schedulePasses (dif_neg (Nat.not_lt.mpr howner))))

/-- A pass of a digest record completes the record's (R174). -/
theorem execScanPassDone_record (h : s.scanState m = 1) (howner : s.nat (mseKey m 7) < 2048) :
    exec (.scanPassDone m crc poison) s = .next (State.settleAll (State.schedulePasses
      ((s.begin.endScan m crc poison).digestDone ⟨s.nat (mseKey m 7), howner⟩ m crc poison))) :=
  (if_neg (scanState_begin_running h)).trans
    (next_settleAll_congr (congrArg State.schedulePasses (dif_pos howner)))

end

/-! ### Digest records (R173 to R175) -/

section
variable {s : State} {r : DigestNo}

@[simp] theorem digestRec_begin (s : State) (r : DigestNo) : s.begin.digestRec r = s.digestRec r := rfl

/-- A record with a mode and a period is scanned period by period. -/
theorem not_unscheduled (hmode : recMode (s.digestRec r) ≠ 0) (hperiod : recPeriod (s.digestRec r) ≠ 0) :
    ¬ (recMode (s.begin.digestRec r) = 0 ∨ recPeriod (s.begin.digestRec r) = 0) := not_or.mpr ⟨hmode, hperiod⟩

theorem execDigestPeriod_due (hdue : s.expired (.digestPeriod r) = true) (hmode : recMode (s.digestRec r) ≠ 0)
    (hperiod : recPeriod (s.digestRec r) ≠ 0) :
    exec (.digestPeriod r) s = .next (State.settleAll (State.schedulePasses
      ((s.begin.arm (.digestPeriod r) (sec (recPeriod (s.digestRec r)))).upDigest r (fun x => { x with due := true })))) :=
  (if_neg (by simp [hdue])).trans (if_neg (not_unscheduled hmode hperiod))

theorem execDigestStale_due (hdue : s.expired (.digestStale r) = true) (hmode : recMode (s.digestRec r) ≠ 0)
    (hperiod : recPeriod (s.digestRec r) ≠ 0) :
    exec (.digestStale r) s = .next (State.settleAll
      (((s.begin.armStale r).bump (key 0x2302 8)).raise 0x58 0 (s.digestRec r))) :=
  (if_neg (by simp [hdue])).trans (if_neg (not_unscheduled hmode hperiod))

/-- The record's period and its staleness are awaited anew (R175), from the write of the record on (log entries 76 and 78). -/
def State.restartsPeriod (s : State) (r : DigestNo) (period : Nat) : State :=
  let t := s.arm (.digestPeriod r) (sec period)
  t.arm (.digestStale r) (sec (t.nat (key 0x2300 5) * period))

/-- What the host writes of a record: bytes 0x20 on stay, reserved ones read zero (R10, R173). -/
def State.hostRecord (s : State) (r : DigestNo) (b : Bytes) : Bytes :=
  setBytes (b.take 0x20) 0xE (le 2 0) ++ (s.content (digestKey r.val)).drop 0x20

/-- A record that is scanned is written: its pass is abandoned, and its period begins. -/
theorem digestWrite_scanned {b : Bytes} {e : Entry} {y : State} {w : WEnd} (hfits : digestFits b = true)
    (hmode : recMode b ≠ 0) (he : entryOf (digestKey r.val) = some e)
    (hwrite : s.writeContentB e (digestKey r.val) (s.hostRecord r b) = (y, w)) (hw : w ≠ .busy) :
    digestWrite r b s = ((y.abandonPass r false).restartsPeriod r (recPeriod b), w) := by
  unfold State.hostRecord at hwrite
  simp only [digestWrite, hfits, he, hwrite, hw, hmode, Bool.not_true, Bool.false_eq_true, if_false]
  rfl

end

/-- Settles O47: a control is read at its engine's state, the end of a pass at its owner, an expiry at its record. -/
theorem scanAndDigestCommandsAct : Obligations.ScanAndDigestCommandsAct := by
  unfold Obligations.ScanAndDigestCommandsAct
  refine ⟨⟨?control, ?hostPass, ?recordPass⟩, ?period, ?stale, ?write⟩
  case control =>
    rintro s _ path m rfl hretired howned
    refine ⟨fun ht h => ?start, fun ht h => ?pause, fun ht h => ?resume, fun ht h => ?abort, fun ht h => ?abortPaused⟩
    case start => exact next_granted_takes ht (scanControl_start hretired howned h)
    case pause => exact next_granted_takes ht (scanControl_pause hretired howned h)
    case resume => exact next_granted_takes ht (scanControl_resume hretired howned h)
    case abort => exact next_granted_takes ht (scanControl_abortRunning hretired howned h)
    case abortPaused => exact next_granted_takes ht (scanControl_abortPaused hretired howned h)
  case hostPass =>
    intro s m crc poison h howner
    refine ⟨_, execScanPassDone_host h howner, rfl, ?_, get_endScan_crc _ m crc poison, ?_⟩
    · unfold State.nat
      rw [get_endScan_state]
      split <;> rfl
    · unfold State.nat
      rw [get_endScan_owner]
      rfl
  case recordPass => exact fun s m crc poison howner h => execScanPassDone_record h howner
  case period => exact fun s r hdue hmode hperiod => execDigestPeriod_due hdue hmode hperiod
  case stale => exact fun s r hdue hmode hperiod => execDigestStale_due hdue hmode hperiod
  case write =>
    rintro s _ y path r b e w rfl htakes hfits hmode he hwrite hw
    exact next_granted_takes htakes (digestWrite_scanned hfits hmode he hwrite hw)

end Sys2Proof.Machine
end

section
/-! The Attic's history (R200, R201, R242): the list grows up to its room, the counts of fences and of cold starts go up alone. -/

namespace Sys2Proof.Machine

/-- What a command leaves has what its fields keep. -/
theorem exec_keeps_next {P : State → Prop} {c : Instr} {s t : State} (cl : Closed (cmask c) P) (hp : P s)
    (hs : exec c s = .next t) : P t := by
  obtain ⟨u, hu, hpu⟩ := exec_keeps c cl hp
  rw [hs] at hu
  rwa [Host.Outcome.next.inj hu]

/-! ### The entries (R200) -/

/-- A list of entries was added to, within the room for 1,024. -/
def AtticGrown (old new : List Bytes) : Prop := old.length ≤ new.length ∧ (old.length ≤ 1024 → new.length ≤ 1024)

theorem AtticGrown.refl (l : List Bytes) : AtticGrown l l := ⟨le_rfl, id⟩

theorem AtticGrown.trans {a b c : List Bytes} (hab : AtticGrown a b) (hbc : AtticGrown b c) : AtticGrown a c := by
  obtain ⟨hle, hroom⟩ := hab
  obtain ⟨hle', hroom'⟩ := hbc
  exact ⟨hle.trans hle', fun h => hroom' (hroom h)⟩

theorem setAttic_listed {s : State} {i : Nat} (e : Bytes) (h : i < s.attic.length) :
    s.setAttic i e = { s with attic := s.attic.set i e } := by
  simp only [State.setAttic, h, if_true]

/-- An entry of the list is set in place; one past it is added while there is room. -/
theorem atticGrown_setAttic (s : State) (i : Nat) (e : Bytes) : AtticGrown s.attic (s.setAttic i e).attic := by
  by_cases hlisted : i < s.attic.length
  · rw [setAttic_listed e hlisted]
    simp [AtticGrown]
  · by_cases hroom : i < 1024
    · simp only [State.setAttic, hlisted, hroom, if_false, if_true, AtticGrown, List.length_append, List.length_singleton]
      omega
    · simp only [State.setAttic, hlisted, hroom, if_false]
      exact AtticGrown.refl _

theorem atticGrown_closed (l : List Bytes) (m : Nat) : Closed m (fun s => AtticGrown l s.attic) := by
  refine closed_all (fun f => ?_) m
  cases f
  case attic_ => exact fun s i e h => h.trans (atticGrown_setAttic s i e)
  all_goals
    simp only [Fld.Closes]
    intros
    assumption

/-! ### The counts of fences (R200, R201) -/

theorem tabGet_le_countFence (s : State) (kind unit n : Nat) :
    tabGet 0 s.fenceCounts n ≤ tabGet 0 (s.countFence kind unit).fenceCounts n := by
  simp only [State.countFence, State.fencesOf]
  by_cases hn : n = unitIndex kind unit
  · subst hn
    rw [tabGet_tabPut_same]
    exact Nat.le_succ _
  · rw [tabGet_tabPut_ne 0 0 _ _ hn]

theorem fencesReached_closed (n k m : Nat) : Closed m (fun s => k ≤ tabGet 0 s.fenceCounts n) := by
  refine closed_all (fun f => ?_) m
  cases f
  case fenceCounts_ => exact fun s kind unit h => h.trans (tabGet_le_countFence s kind unit n)
  all_goals
    simp only [Fld.Closes]
    intros
    assumption

/-! ### The count of cold starts (R242) -/

/-- Nothing that a cold start does after its count was advanced writes the count. -/
theorem coldStarts_coldStart (s : State) (reference : Bool) : (s.coldStart reference).coldStarts = s.coldStarts + 1 := by
  unfold State.coldStart
  exact State.beginBringup_keeps (coldStarts_closed _ rfl) (State.showTime_keeps (coldStarts_closed _ rfl)
    (State.readLifeCycle_keeps (coldStarts_closed _ rfl) rfl))

theorem coldStarts_coldStart_settled (s : State) (reference : Bool) :
    (s.coldStart reference).settleAll.coldStarts = s.coldStarts + 1 :=
  State.settleAll_keeps (coldStarts_closed _ rfl) (coldStarts_coldStart s reference)

theorem coldStarts_le_execPorstRelease {s t : State} {reference : Bool} (h : execPorstRelease reference s = .next t) :
    s.coldStarts ≤ t.coldStarts := by
  unfold execPorstRelease at h
  dsimp only at h
  split at h
  · exact (congrArg State.coldStarts (Host.Outcome.next.inj h)).le
  · rw [← Host.Outcome.next.inj h]
    split
    · exact le_rfl
    · rw [coldStarts_coldStart_settled]
      exact Nat.le_succ _

theorem coldStarts_le_execBrownOutEnd {s t : State} (h : execBrownOutEnd s = .next t) : s.coldStarts ≤ t.coldStarts := by
  unfold execBrownOutEnd at h
  dsimp only at h
  split at h
  · exact (congrArg State.coldStarts (Host.Outcome.next.inj h)).le
  · rw [← Host.Outcome.next.inj h]
    split
    · rw [coldStarts_coldStart_settled]
      exact Nat.le_succ _
    · exact le_rfl

/-- Only the two commands that begin a cold start write the count. -/
theorem cmask_coldStarts {c : Instr} (h : startsCold c = false) : cmask c &&& 0x8000000000000 = 0 := by
  cases c
  case porstRelease | brownOutEnd => exact absurd h (by simp [startsCold])
  all_goals
    rw [cmask]
    rfl

theorem coldStarts_exec {c : Instr} {s t : State} (h : startsCold c = false) (hs : exec c s = .next t) :
    t.coldStarts = s.coldStarts :=
  exec_keeps_next (coldStarts_closed s.coldStarts (cmask_coldStarts h)) rfl hs

theorem coldStarts_le_exec {c : Instr} {s t : State} (hs : exec c s = .next t) : s.coldStarts ≤ t.coldStarts := by
  cases hc : startsCold c with
  | false => exact (coldStarts_exec hc hs).ge
  | true =>
    cases c
    case porstRelease => exact coldStarts_le_execPorstRelease hs
    case brownOutEnd => exact coldStarts_le_execBrownOutEnd hs
    all_goals exact absurd hc (by simp [startsCold])

/-- Settles O8: each elementary update of the Attic and of the counts keeps what they reached, and a cold start adds one. -/
theorem atticIsHistory : Obligations.AtticIsHistory := by
  unfold Obligations.AtticIsHistory
  intro c s t _ hs
  obtain ⟨hle, hroom⟩ := exec_keeps_next (atticGrown_closed s.attic (cmask c)) (AtticGrown.refl _) hs
  exact ⟨hle, hroom, fun n => exec_keeps_next (fencesReached_closed n _ (cmask c)) le_rfl hs, coldStarts_le_exec hs⟩

end Sys2Proof.Machine
end

section
/-! Fences, unfences and the release of Attic entries by the host (R187, R199 to R201). -/

namespace Sys2Proof.Machine

section
variable {s : State} {v : Nat} {c : PCore}

theorem fenceByHost_present (hv : v % 2 ^ 16 = c.val) (hfp : ¬ (s.fp c = 2 ∨ s.fp c = 3 ∨ s.fp c = 4 ∨ s.fp c = 5)) :
    fenceByHost v s = ((s.abortTest c).fence c 8 true (v.testBit 16), .done) := by
  simp only [fenceByHost, hv, c.isLt, dif_pos, Fin.eta, hfp, if_false]

/-- What an unfence may name: a fenced core that is not retired, or one isolated in place of its fence. -/
theorem unfenceByHost_isolated (hv : v = c.val)
    (hfp : s.fp c = 2 ∨ s.fp c ≠ 3 ∧ s.fp c ≠ 4 ∧ s.fp c ≠ 5 ∧ s.awaitsHost c = true) :
    unfenceByHost v s = (s.issueSpecimen c 3, .progress) := by
  subst hv
  have hpresent : ¬ (s.fp c = 3 ∨ s.fp c = 4 ∨ s.fp c = 5) := by
    rcases hfp with hfenced | ⟨h3, h4, h5, -⟩
    · omega
    · simp [h3, h4, h5]
  have hisolated : ¬ (s.fp c ≠ 2 ∧ (!s.awaitsHost c) = true) := by
    rcases hfp with hfenced | ⟨-, -, -, hawaits⟩
    · exact fun ⟨hnot, _⟩ => hnot hfenced
    · simp [hawaits]
  simp only [unfenceByHost, c.isLt, dif_pos, Fin.eta, hpresent, hisolated, if_false]

end

/-- An Attic entry as the release at a time leaves it: its flag and the time (R201). -/
def releasedEntry (e : Bytes) (time : Nat) : Bytes := setBytes (setBytes e 0xD [(e.getD 0xD 0) ||| 4]) 0x28 (le 8 time)

/-- The entry is set in the list, and its new content is written to the Cellar. -/
theorem releaseEntry_listed {s : State} {v : Nat} {e : Bytes} (he : s.attic[v]? = some e) :
    releaseEntry v s = ((State.configItem { s with attic := s.attic.set v (releasedEntry e s.t) } 0x107 v
      (releasedEntry e s.t)).putN (key 0x1304 3) v, .done) := by
  obtain ⟨hlt, -⟩ := List.getElem?_eq_some_iff.mp he
  simp only [releaseEntry, he, setAttic_listed _ hlt]
  rfl

/-- Settles O48: each write meets the checks of its body, and what it leaves is read off the branch. -/
theorem fenceCommandsAct : Obligations.FenceCommandsAct := by
  unfold Obligations.FenceCommandsAct
  refine ⟨?fence, ?unfence, ?release⟩
  case fence =>
    rintro s _ path v c rfl htakes hv h2 h3 h4 h5
    exact next_granted_takes htakes (fenceByHost_present hv (by simp [h2, h3, h4, h5]))
  case unfence =>
    rintro s _ path v c rfl htakes hv hfp
    exact next_granted_takes htakes (unfenceByHost_isolated hv hfp)
  case release =>
    rintro s _ path v e rfl htakes he
    exact ⟨_, next_granted_takes htakes (releaseEntry_listed he), get_putN_same _ _ _, rfl, rfl⟩

end Sys2Proof.Machine
end

section
/-! The refill of a sparing (R192 to R198) and hardware fills (R159, R160). -/

namespace Sys2Proof.Machine

@[simp] theorem inPhase_begin (s : State) (d : Dom) (phase : Nat) : s.begin.inPhase d phase = s.inPhase d phase := rfl

@[simp] theorem armed_begin (s : State) (c : Instr) : s.begin.armed c = s.armed c := rfl

/-- An expiry leaves the domains, and the fences of their sparings with them. -/
@[simp] theorem inPhase_expire (s : State) (c : Instr) (d : Dom) (phase : Nat) :
    (s.expire c).inPhase d phase = s.inPhase d phase := by
  have hdoms : (s.expire c).doms = s.doms := State.expire_keeps (doms_closed s.doms rfl) rfl
  simp only [State.inPhase, State.dom, hdoms]

/-! ### Entries of Phory's own (R191 to R193) -/

section
variable {s : State} {d : Dom} {y : Sparing}

/-- The entry that a refill has under way, of those that Phory refills itself. -/
def State.entryUnderWay (s : State) (d : Dom) (y : Sparing) : Bytes :=
  ((ownEntries (s.refillEntries d y.k))[y.entry]?).getD []

/-- The entry under way is done: what it carried is poisoned as its source was, its source and bytes are noted, and the next
follows. -/
def State.entryRefilled (s : State) (d : Dom) (y : Sparing) (bytes : Nat) : State :=
  let e := s.entryUnderWay d y
  ((s.carryPoison y e).refilled d y.fenced (fieldAt e 2 1) bytes).refillStep d y.fenced

theorem execRefillEntryDone_awaited (n : Nat) (hphase : s.inPhase d 4 = some y) (harmed : s.armed (.refillTimeout d) = true) :
    exec (.refillEntryDone d n) s = .next ((s.begin.arrives (.refillTimeout d) 2).entryRefilled d y n).settleAll := by
  show execRefillEntryDone d n s = _
  simp only [execRefillEntryDone, inPhase_begin, armed_begin, hphase, harmed, Bool.not_true, Bool.false_eq_true, if_false]
  rfl

theorem execRefillEntryDone_late (n : Nat) (h : ∀ y, s.inPhase d 4 = some y → s.armed (.refillTimeout d) = false) :
    exec (.refillEntryDone d n) s = .next s.begin.late := by
  show execRefillEntryDone d n s = _
  cases hphase : s.inPhase d 4 with
  | none => simp only [execRefillEntryDone, inPhase_begin, hphase]
  | some y => simp only [execRefillEntryDone, inPhase_begin, armed_begin, hphase, h y hphase, Bool.not_false, if_true]

theorem execRefillTimeout_due (hdue : s.expired (.refillTimeout d) = true) (hphase : s.inPhase d 4 = some y) :
    exec (.refillTimeout d) s = .next (State.settleAll ((s.begin.expire (.refillTimeout d)).refillFailed d y.fenced)) := by
  show execRefillTimeout d s = _
  simp only [execRefillTimeout, expired_begin, inPhase_expire, inPhase_begin, hdue, hphase, Bool.not_true, Bool.false_eq_true,
    if_false]

/-! ### The host's regions (R193) -/

theorem execHostRefillTimeout_due (hdue : s.expired (.hostRefillTimeout d) = true) (hphase : s.inPhase d 7 = some y) :
    exec (.hostRefillTimeout d) s =
      .next (State.settleAll ((s.begin.expire (.hostRefillTimeout d)).refillFailed d y.fenced)) := by
  show execHostRefillTimeout d s = _
  simp only [execHostRefillTimeout, expired_begin, inPhase_expire, inPhase_begin, hdue, hphase, Bool.not_true,
    Bool.false_eq_true, if_false]

theorem hostRefilled_awaited {v : Nat} (hv : v = d.val) (hphase : s.inPhase d 7 = some y) :
    hostRefilled v s = (((s.arrives (.hostRefillTimeout d) 5).upSparing d y.fenced
      (fun z => { z with sources := z.sources ||| 16 })).refillStep d y.fenced, .done) := by
  subst hv
  simp only [hostRefilled, d.isLt, dif_pos, Fin.eta, hphase]

/-! ### After a failed refill (R194) -/

theorem repeatRefill_failed {q : PCore} (hphase : s.inPhase d 8 = some y) (hrepl : y.repl = some q) :
    repeatRefill d s = (s.beginFill d y.fenced q, .done) := by
  simp only [repeatRefill, hphase, hrepl]

theorem endRefill_failed (path : Path) (hphase : s.inPhase d 8 = some y) :
    endRefill path d s = ((s.outcomes d 4 0 (fun _ => true)).endJob d (originOf path), .done) := by
  simp only [endRefill, hphase]

end

/-- A fill that is under way is done, and what waited for it goes on (R159, R160). -/
theorem execHardwareFillDone_filling {s : State} {c : PCore} (h : s.get (coreKey c 0x97) = 1) :
    exec (.hardwareFillDone c) s = .next (State.settleAll (State.schedulePasses
      (((s.begin.arrives (.fillTimeout c) 3).filled c).afterFill c))) :=
  if_neg (by simp [h])

/-- Settles O49: an entry, the host's regions and a fill are awaited or late, a timeout is due, and the host's action finds the refill
that failed. -/
theorem refillCommandsAct : Obligations.RefillCommandsAct := by
  unfold Obligations.RefillCommandsAct
  refine ⟨?entry, ?late, ?timeout, ?hostTimeout, ?hostDone, ?again, ?ended, ?fill⟩
  case entry => exact fun s d n y hphase harmed => ⟨_, _, rfl, rfl, execRefillEntryDone_awaited n hphase harmed⟩
  case late => exact fun s d n h => execRefillEntryDone_late n h
  case timeout => exact fun s d y hdue hphase => execRefillTimeout_due hdue hphase
  case hostTimeout => exact fun s d y hdue hphase => execHostRefillTimeout_due hdue hphase
  case hostDone =>
    rintro s _ path v d y rfl htakes hv hphase
    exact next_granted_takes htakes (hostRefilled_awaited hv hphase)
  case again =>
    rintro s _ path d y q rfl htakes hphase hrepl
    exact next_granted_takes htakes (repeatRefill_failed hphase hrepl)
  case ended =>
    rintro s _ path d y rfl htakes hphase
    exact next_granted_takes htakes (endRefill_failed path hphase)
  case fill => exact fun s c h => execHardwareFillDone_filling h

end Sys2Proof.Machine
end

section
/-! Regeneration runs (R212 to R214), the pair's loss and the host's word on an unattributed divergence (R218, R221). -/

namespace Sys2Proof.Machine

/-! ### A run is ordered (R212) -/

section
variable (s : State) (d : Dom) (k : LCore) (q : Nat) (c : PCore)

/-- The run of step q of Lk that begins on a pool core. -/
def State.newRegen : Regen := ⟨d, k, q, c, s.seedOf d k q, false, []⟩

/-- The run is the chip's, and object 0x2108.0A reads that it is in progress. -/
def State.beginsRegen : State := { s.putN (key 0x2108 0xA) 1 with regen := some (s.newRegen d k q c) }

/-- The pool core is sent its order, which disturbs what else it does. -/
def State.ordersRegen : State := ((s.beginsRegen d k q c).send (.regen d k q c (s.seedOf d k q))).disturbCore c 6

theorem keepsBut_beginsRegen : s.KeepsBut (s.beginsRegen d k q c) [key 0x2108 0xA] :=
  fun _ hj => get_putN_ne s 1 (List.ne_of_not_mem_cons hj)

theorem get_beginsRegen_status : (s.beginsRegen d k q c).get (key 0x2108 0xA) = 1 := get_putN_same s _ 1

end

/-- A kept step of the core named, no other run, and a pool core with a free proof place: the run is ordered, and its timeout
armed. -/
theorem requestRegen_accepted {s : State} {v : Nat} {d : Dom} {k : LCore} {c : PCore} (hd : bits v 63 61 = d.val)
    (hk : bits v 60 51 = k.val) (hstep : s.regenStep d k (bits v 47 0) = true) (hfree : s.regen = none)
    (hcore : s.regenCore d k = some c) :
    requestRegen v s = ((s.ordersRegen d k (bits v 47 0) c).arm .regenTimeout
      (us ((s.ordersRegen d k (bits v 47 0) c).natFor d (key 0x2102 2))), .done) := by
  simp only [requestRegen, hd, hk, d.isLt, k.isLt, and_self, dif_pos, Fin.eta, hstep, hfree, hcore, Bool.not_true,
    Option.isSome_none, Bool.false_eq_true, if_false]
  rfl

/-! ### A run ends (R213, R214) -/

theorem execRegenRunDone_late {s : State} {c : PCore} (l : List OutUnit) (b : Bool)
    (h : ∀ r, s.regen = some r → r.done = true ∨ r.core ≠ c) : exec (.regenRunDone c l b) s = .next s.begin.late := by
  show execRegenRunDone c l b s = _
  cases hregen : s.regen with
  | none => simp only [execRegenRunDone, State.begin_regen, hregen]
  | some r =>
    have hlate : (r.done || r.core != c) = true := by simpa using h r hregen
    simp only [execRegenRunDone, State.begin_regen, hregen, hlate, if_true]

/-- The keys of the step that a run repeats. -/
def State.regenKeys (s : State) (r : Regen) : Colophon × Colophon × Colophon :=
  (((s.dom r.d).step? r.s).map (·.keys)).getD (0, 0, 0)

/-- The run is finished: its record is shown, and its units stand in the scratch of its core. -/
def State.finishesRegen (s : State) (r : Regen) (l : List OutUnit) : State :=
  { (s.setContent (key 0x2108 0xB) (s.regenRecord r (unitsColophon (s.regenKeys r) l) l.length)).putN (key 0x2108 0xA) 2 with
    regen := some { r with done := true, scratch := l.flatMap unitEntry } }

section
variable {s : State} {r : Regen}

/-- The run that is awaited has come: it went past its scratch, or it is finished. -/
theorem execRegenRunDone_awaited (l : List OutUnit) (exceeded : Bool) (hregen : s.regen = some r) (hopen : r.done = false) :
    exec (.regenRunDone r.core l exceeded) s = .next (State.settleAll
      (if exceeded = true ∨ (s.begin.arrives .regenTimeout 2).nat (key 0x2102 6) * 2 ^ 20 < 80 * l.length then
        (s.begin.arrives .regenTimeout 2).endRegen 6
      else (s.begin.arrives .regenTimeout 2).finishesRegen r l)) := by
  have hawaited : (r.done || r.core != r.core) = false := by simp [hopen]
  show execRegenRunDone r.core l exceeded s = _
  simp only [execRegenRunDone, State.begin_regen, hregen, hawaited, Bool.false_eq_true, if_false, Bool.or_eq_true,
    decide_eq_true_eq]
  split <;> rfl

variable (s r) (l : List OutUnit)

theorem get_finishesRegen_status : (s.finishesRegen r l).get (key 0x2108 0xA) = 2 := get_putN_same _ _ 2

theorem content_finishesRegen_record :
    (s.finishesRegen r l).content (key 0x2108 0xB) = s.regenRecord r (unitsColophon (s.regenKeys r) l) l.length :=
  content_setContent_same s (key 0x2108 0xB) (s.regenRecord r (unitsColophon (s.regenKeys r) l) l.length)

theorem keepsBut_finishesRegen : s.KeepsBut (s.finishesRegen r l) [key 0x2108 0xA] :=
  fun _ hj => get_putN_ne _ 2 (List.ne_of_not_mem_cons hj)

end

theorem execRegenTimeout_due {s : State} (hdue : s.expired .regenTimeout = true) :
    exec .regenTimeout s = .next ((s.begin.expire .regenTimeout).endRegen 5).settleAll :=
  if_neg (by simp [hdue])

theorem releaseRegen_done {s : State} {r : Regen} (hregen : s.regen = some r) (hdone : r.done = true) :
    releaseRegen s = (s.endRegen 0, .done) := by
  simp only [releaseRegen, hregen, hdone, if_true]

/-! ### The pair (R218, R221) -/

/-- An expiry leaves the job and the domains, and the job's domain with them. -/
theorem jobDom_expire {s : State} {x : Instr} (hdue : s.expired x = true) : (s.expire x).jobDom = s.jobDom := by
  rw [(expire_frame hdue).1]
  rfl

/-- An expiry leaves the dictionary, which tells what the chip is to the pair. -/
theorem lockstep_expire {s : State} {x : Instr} (hdue : s.expired x = true) (d : Dom) :
    (s.expire x).lockstep d = s.lockstep d := by
  rw [(expire_frame hdue).1]
  rfl

/-- The primary's compare timeout: the mirror has not reported. -/
theorem execCompareTimeout_primary {s : State} {n : Nat} {d : Dom} (hdue : s.expired (.compareTimeout n) = true)
    (hdom : s.jobDom = some d) (hprimary : s.lockstep d = 1) :
    exec (.compareTimeout n) s = .next ((s.begin.expire (.compareTimeout n)).partnerLost d n).settleAll := by
  have hjob : (s.begin.expire (.compareTimeout n)).jobDom = some d := (jobDom_expire (s := s.begin) hdue).trans hdom
  have hlock : (s.begin.expire (.compareTimeout n)).lockstep d = 1 := (lockstep_expire (s := s.begin) hdue d).trans hprimary
  show execCompareTimeout n s = _
  simp only [execCompareTimeout, expired_begin, hdue, hjob, hlock, Bool.not_true, Bool.false_eq_true, if_false, if_true]

theorem ifUnattributed_narrowed (body : Narrow → Body) {s : State} {n : Narrow} (hn : s.job.narrow = some n)
    (hstage : n.stage = 6) (hstate : s.get (key 0x2C10 6) = 3) : ifUnattributed body s = body n s := by
  simp only [ifUnattributed, hn, hstage, hstate, and_self, if_true]

/-- Settles O50: a run's request, record and release and the host's action on a divergence meet the checks of their bodies; a
result that is awaited ends by its size, and an expiry leaves what its command asks. -/
theorem regenerationAndLockstepCommandsAct : Obligations.RegenerationAndLockstepCommandsAct := by
  unfold Obligations.RegenerationAndLockstepCommandsAct
  refine ⟨⟨?request, ?late, ?done, ?timeout, ?release⟩, ?compare, ?action⟩
  case request =>
    rintro s x path v d k c rfl htakes hd hk hstep hfree hcore
    exact ⟨State.beginsRegen _ d k _ c, State.ordersRegen _ d k _ c, rfl,
      next_granted_takes htakes (requestRegen_accepted hd hk hstep hfree hcore), get_beginsRegen_status _ d k _ c, rfl, rfl,
      keepsBut_beginsRegen _ d k _ c⟩
  case late => exact fun s c l b h => execRegenRunDone_late l b h
  case done =>
    intro s l r hregen hopen
    refine ⟨_, rfl, ?exceeded, fun hover => ?oversized, fun hfits => ?fits⟩
    case exceeded => rw [execRegenRunDone_awaited l true hregen hopen, if_pos (.inl rfl)]
    case oversized => rw [execRegenRunDone_awaited l false hregen hopen, if_pos (.inr hover)]
    case fits =>
      refine ⟨State.finishesRegen _ r l, _, rfl, ?_, get_finishesRegen_status _ r l, content_finishesRegen_record _ r l, rfl, rfl,
        keepsBut_finishesRegen _ r l⟩
      rw [execRegenRunDone_awaited l false hregen hopen, if_neg (by simpa using hfits)]
  case timeout => exact fun s hdue => execRegenTimeout_due hdue
  case release =>
    rintro s _ path r rfl htakes hregen hdone
    exact next_granted_takes htakes (releaseRegen_done hregen hdone)
  case compare => exact fun s n d hdue hdom hprimary => execCompareTimeout_primary hdue hdom hprimary
  case action =>
    rintro s _ path w rfl hn hstage hstate
    exact ⟨fun htakes => next_granted_takes htakes (ifUnattributed_narrowed restartPair hn hstage hstate),
      fun htakes => next_granted_takes htakes (ifUnattributed_narrowed (endPair path) hn hstage hstate)⟩

end Sys2Proof.Machine
end

section
/-! I3C commands (R236, R355): the settings that they make on the bus, and what a target with an address answers. -/

namespace Sys2Proof.Machine

/-! ### An entry put alone -/

theorem nat_putN_same (s : State) (k n : Nat) : (s.putN k n).nat k = n % 2 ^ 64 :=
  (congrArg BitVec.toNat (get_putN_same s k n)).trans (BitVec.toNat_ofNat n 64)

theorem keepsBut_put (s : State) (k : Nat) (v : Word) : s.KeepsBut (s.put k v) [k] :=
  fun _ hj => get_put_ne s v (List.ne_of_not_mem_cons hj)

theorem keepsBut_putN (s : State) (k n : Nat) : s.KeepsBut (s.putN k n) [k] := keepsBut_put s k _

/-! ### The bus and the dynamic address -/

section
variable {s : State} (f : State → State) (halive : s.alive = true)
include halive

theorem onBus_alive : s.onBus f = f s.begin := if_pos halive

theorem next_onBus_alive : (Host.Outcome.next (s.onBus f) : Host.Outcome State Fault Refusal) = .next (f s.begin) :=
  congrArg Host.Outcome.next (onBus_alive f halive)

theorem next_addressed_alive (haddr : s.get (key 0x1000 0xC) ≠ 0) :
    (Host.Outcome.next (s.addressed f) : Host.Outcome State Fault Refusal) = .next (f s.begin) :=
  congrArg Host.Outcome.next ((onBus_alive _ halive).trans (if_neg haddr))

end

/-- The dynamic address is taken: object 0x1000.0C reads it. -/
def State.takesAddress (s : State) (a : BitVec 7) : State := s.begin.putN (key 0x1000 0xC) a.toNat

theorem takesAddress_spec (s : State) (a : BitVec 7) : s.takesAddress a = { s with out := [], dict := (s.takesAddress a).dict } ∧
    (s.takesAddress a).nat (key 0x1000 0xC) = a.toNat ∧ s.KeepsBut (s.takesAddress a) [key 0x1000 0xC] := by
  have hfits : a.toNat % 2 ^ 64 = a.toNat := Nat.mod_eq_of_lt (by omega)
  exact ⟨rfl, (nat_putN_same s.begin _ _).trans hfits, keepsBut_putN s.begin _ _⟩

theorem execEntdaa_free {s : State} (halive : s.alive = true) (a : BitVec 7) (hfree : s.get (key 0x1000 0xC) = 0) :
    exec (.entdaa a) s = .next (s.takesAddress a) :=
  (next_onBus_alive _ halive).trans (congrArg Host.Outcome.next (if_pos hfree))

/-- Settles O21: on a served bus ENTDAA takes a target without an address, SETNEWDA and the answers one that has it; each acts on
the state that the command began with. -/
theorem i3cBusCommandsAct : Obligations.I3cBusCommandsAct := by
  unfold Obligations.I3cBusCommandsAct
  refine ⟨fun s halive => ⟨?entdaa, ?setnewda, ?rstdaa, ?setmrl, ?setmwl, ?enec, ?disec⟩,
    fun s halive haddr => ⟨?getpid, ?getbcr, ?getdcr, ?getstatus, ?getmrl, ?getmwl⟩⟩
  case entdaa => exact fun a hfree => ⟨_, execEntdaa_free halive a hfree, takesAddress_spec s a⟩
  case setnewda => exact fun a haddr => ⟨_, next_addressed_alive _ halive haddr, takesAddress_spec s a⟩
  case rstdaa => exact ⟨_, next_onBus_alive _ halive, rfl, get_putN_same s.begin _ 0, keepsBut_putN s.begin _ 0⟩
  case setmrl | setmwl => exact fun _ => next_onBus_alive _ halive
  case enec | disec => exact next_onBus_alive _ halive
  case getstatus => exact ⟨_, next_addressed_alive _ halive haddr⟩
  case getpid | getbcr | getdcr | getmrl | getmwl => exact next_addressed_alive _ halive haddr

end Sys2Proof.Machine
end

section
/-! Interrupts (R235, R236): the vectors of MSI-X and the queue of in-band interrupts. -/

namespace Sys2Proof.Machine

/-- The vector's mask and pending bit are clear. -/
def State.clearsVector (s : State) (v : Nat) : State :=
  { s with err := { s.err with
    msixMask := s.err.msixMask &&& ~~~((1 : BitVec 2048) <<< v), msixPending := s.err.msixPending &&& ~~~((1 : BitVec 2048) <<< v) } }

theorem execMsixVectorUnmask_pending {s : State} {v : Fin 2048} (h : s.err.msixPending.getLsbD v.val = true) :
    exec (.msixVectorUnmask v) s = .next ((s.begin.clearsVector v.val).send (.msix v.val)) :=
  congrArg Host.Outcome.next (if_pos h)

theorem execMsixVectorUnmask_idle {s : State} {v : Fin 2048} (h : s.err.msixPending.getLsbD v.val = false) :
    exec (.msixVectorUnmask v) s = .next (s.begin.clearsVector v.val) :=
  congrArg Host.Outcome.next (if_neg (Bool.eq_false_iff.mp h))

section
variable {s : State} (henabled : s.err.ibiEnabled = true)
include henabled

/-- With none outstanding, or the outstanding one acknowledged, the next of the queue follows. -/
theorem execIbiBusFree_over {a : Bool} (hover : s.err.ibiOut = none ∨ a = true) :
    exec (.ibiBusFree a) s = .next s.begin.nextIbi := by
  show execIbiBusFree a s = _
  unfold execIbiBusFree
  simp only [State.begin_err, henabled, Bool.not_true, Bool.false_eq_true, if_false]
  split
  · rfl
  · rename_i hout
    obtain rfl : a = true := hover.resolve_left (by simp [hout])
    simp

theorem execIbiBusFree_unacknowledged {i : Ibi} {n : Nat} (hout : s.err.ibiOut = some (i, n)) :
    exec (.ibiBusFree false) s = .next (if 8 ≤ n then s.begin.nextIbi
      else { s with out := [.ibi (s.ibiPayload i)], err := { s.err with ibiOut := some (i, n + 1) } }) := by
  show execIbiBusFree false s = _
  simp only [execIbiBusFree, State.begin_err, henabled, hout, Bool.not_true, Bool.false_eq_true, if_false, Bool.false_or,
    decide_eq_true_eq]
  split <;> rfl

end

theorem nextIbi_queued {s : State} {i : Ibi} {q : List Ibi} (h : s.err.ibiQueue = i :: q) :
    s.begin.nextIbi = { s with out := [.ibi (s.ibiPayload i)], err := { s.err with ibiOut := some (i, 0), ibiQueue := q } } := by
  simp only [State.nextIbi, State.begin_err, h]
  rfl

theorem nextIbi_empty {s : State} (h : s.err.ibiQueue = []) :
    s.begin.nextIbi = { s with out := [], err := { s.err with ibiOut := none } } := by
  simp only [State.nextIbi, State.begin_err, h]
  rfl

/-- Settles O23: a vector is read at its pending bit; a free bus is read at the outstanding interrupt, then at the queue. -/
theorem interruptCommandsSendWhatWaits : Obligations.InterruptCommandsSendWhatWaits := by
  unfold Obligations.InterruptCommandsSendWhatWaits
  refine ⟨?unmask, ?next, ?last, ?retry⟩
  case unmask =>
    intro s v
    cases hpending : s.err.msixPending.getLsbD v.val with
    | true => exact ⟨_, execMsixVectorUnmask_pending hpending, rfl, rfl, rfl, rfl⟩
    | false => exact ⟨_, execMsixVectorUnmask_idle hpending, rfl, rfl, rfl, rfl⟩
  case next =>
    intro s a i q henabled hqueue hover
    rw [execIbiBusFree_over henabled hover, nextIbi_queued hqueue]
  case last =>
    intro s a henabled hqueue hover
    rw [execIbiBusFree_over henabled hover, nextIbi_empty hqueue]
  case retry => exact fun s i n henabled hout => execIbiBusFree_unacknowledged henabled hout

end Sys2Proof.Machine
end

section
/-! Writes of the error registers (R227 to R230, R237): sticky words, masks, forced words and the release of a hold. -/

namespace Sys2Proof.Machine

/-- The fault state is asked of object 0x2400.03, which no count of accesses writes. -/
theorem faulted_taking (s : State) (path : Path) (k : Nat) : (s.taking path k).faulted = s.faulted := by
  have hne : key 0x2400 3 ≠ key 0x1030 (7 + Path.num path) := by cases path <;> decide
  unfold State.faulted State.taking State.countAccess
  rw [get_bump_ne _ hne, get_grant, get_begin]

section
variable {s : State} {n w : Nat}

theorem clearSticky_fits (v : Word) (hw : w < wordsOf n) :
    clearSticky n w v s = (s.put (srcKey n (0x20 + w)) (s.get (srcKey n (0x20 + w)) &&& ~~~v), .done) := if_pos hw

/-- The new mask is taken where it sets no bit of a class F source; each instance that it unmasks is looked at in turn. -/
theorem writeMask_fits {v : Word} {x : SourceInfo} (hw : w < wordsOf n) (hx : sourceInfo n = some x)
    (hfatal : x.cls = .f → v &&& instanceBits n w = 0) :
    writeMask n w v s = ((List.range 64).foldl (fun (u : State) b =>
      if (s.get (srcKey n (0x62 + w))).getLsbD b && !(v &&& instanceBits n w).getLsbD b then u.unmask n (64 * w + b) x.cls else u)
        (s.put (srcKey n (0x62 + w)) (v &&& instanceBits n w)), .done) := by
  have haccepted : ¬ (x.cls = .f ∧ v &&& instanceBits n w ≠ 0) := fun ⟨hcls, hbits⟩ => hbits (hfatal hcls)
  simp only [writeMask, wordFits, hw, hx, haccepted, if_true, if_false]

theorem writeForce_accepted {path : Path} {v : Word} (h : s.forceRefused n w v = none) :
    writeForce path n w v s = ((forcedInstances w v).foldl (fun (u : State) (i : Nat) => u.force path n i) s, .done) := by
  simp only [writeForce, h]

end

theorem releaseHold_healthy {s : State} (h : s.faulted = false) :
    releaseHold s = ({ s with err := { s.err with hold := false } }, .done) := if_neg (by simp [h])

/-- Settles O24: each write is taken, and its body is read where the word fits its source and nothing refuses it. -/
theorem errorRegisterWritesTakeEffect : Obligations.ErrorRegisterWritesTakeEffect := by
  unfold Obligations.ErrorRegisterWritesTakeEffect
  refine ⟨?sticky, ?mask, ?force, ?hold⟩
  case sticky =>
    intro s path src w v hw htakes
    exact ⟨_, next_granted_takes htakes (clearSticky_fits v hw), get_put_same _ _ _, rfl, keepsBut_put _ _ _⟩
  case mask => exact fun s path src w v x hw hx hfatal htakes => next_granted_takes htakes (writeMask_fits hw hx hfatal)
  case force => exact fun s path src w v htakes haccepted => next_granted_takes htakes (writeForce_accepted haccepted)
  case hold =>
    intro s path htakes hhealthy
    exact next_granted_takes htakes (releaseHold_healthy ((faulted_taking s path _).trans hhealthy))

end Sys2Proof.Machine
end

section
/-! The handling of captures (R232, R233, R238) and the end of the pulse on PHY_ERR_N (R237). -/

namespace Sys2Proof.Machine

@[simp] theorem dutyRuns_begin (s : State) (p : PcNo) : s.begin.dutyRuns p = s.dutyRuns p := rfl

/-! ### A capture is taken (R232, R233) -/

/-- The capture is the one in handling, object 0x2400.07 counts the queue that it left, and its timeout runs. -/
def State.handles (s : State) (c : Capture) (q : List Capture) : State :=
  (State.putN { s with err := { s.err with queue := q, handling := some c } } (key 0x2400 7) q.length).arm .handlingTimeout (us 50)

theorem takeCapture_queued {s : State} {c : Capture} {q : List Capture} (hnone : s.err.handling = none)
    (hduty : s.dutyRuns 0 = true) (hqueue : s.err.queue = c :: q) : s.takeCapture = s.handles c q := by
  simp only [State.takeCapture, hnone, hduty, hqueue, Option.isSome_none, Bool.not_true, Bool.or_self, Bool.false_eq_true, if_false]
  rfl

theorem execHandlingStart_queued {s : State} {c : Capture} {q : List Capture} (hnone : s.err.handling = none)
    (hduty : s.dutyRuns 0 = true) (hqueue : s.err.queue = c :: q) : exec .handlingStart s = .next (s.begin.handles c q) :=
  congrArg Host.Outcome.next (takeCapture_queued (s := s.begin) hnone hduty hqueue)

/-! ### A record is committed (R232, R238) -/

section
variable (s : State) (c : Capture) (bad : List Nat)

theorem content_commitAround_last : (s.commitAround c bad).content (key 0x2400 0xB) = c.bytes := content_setContent_same _ _ _

theorem content_commitAround_source : (s.commitAround c bad).content (srcKey c.src 0xA) = c.bytes := by
  by_cases heq : srcKey c.src 0xA = key 0x2400 0xB
  · rw [heq]
    exact content_commitAround_last s c bad
  · exact (content_setContent_ne _ _ heq).trans (content_setContent_same _ _ _)

/-- The commit wins against the timeout of the handling, and ends the handling. -/
def State.endsHandling : State :=
  let t := (s.arrives .handlingTimeout 6).commitAround c bad
  { t with err := { t.err with handling := none } }

theorem content_endsHandling (k : Nat) :
    (s.endsHandling c bad).content k = ((s.arrives .handlingTimeout 6).commitAround c bad).content k := rfl

end

section
variable {s : State} {c : Capture} (bad : List Nat) (hduty : s.dutyRuns 0 = true)
include hduty

theorem execErrorRecordCommit_late {l : List Capture} (hlate : s.err.lateRecords = c :: l) :
    exec (.errorRecordCommit bad) s =
      .next (State.commitAround { s with out := [], err := { s.err with lateRecords := l } } c bad).settleAll := by
  show execErrorRecordCommit bad s = _
  simp only [execErrorRecordCommit, dutyRuns_begin, State.begin_err, hduty, hlate, Bool.not_true, Bool.false_eq_true, if_false]
  rfl

theorem execErrorRecordCommit_handled (hlate : s.err.lateRecords = []) (hhandling : s.err.handling = some c) :
    exec (.errorRecordCommit bad) s = .next (s.begin.endsHandling c bad).settleAll := by
  show execErrorRecordCommit bad s = _
  simp only [execErrorRecordCommit, dutyRuns_begin, State.begin_err, hduty, hlate, hhandling, Bool.not_true, Bool.false_eq_true,
    if_false]
  rfl

end

/-! ### A handling times out (R232) -/

/-- The timeout wins, and object 0x2400.10 counts it. -/
def State.countsHandling (s : State) : State := (s.begin.expire .handlingTimeout).bump (key 0x2400 0x10)

/-- The capture in handling is left to be committed, marked late. -/
def State.leavesLate (s : State) (c : Capture) : State :=
  { s with err := { s.err with handling := none, lateRecords := s.err.lateRecords ++ [{ c with late := true }] } }

theorem countsHandling_frame {s : State} (hdue : s.expired .handlingTimeout = true) : s.countsHandling = { s with
    out := [], dict := s.countsHandling.dict, timers := s.timers.filter (fun x => x.cmd ≠ .handlingTimeout),
    err := { s.err with grants := s.countsHandling.err.grants } } := by
  unfold State.countsHandling
  rw [(bump_frame _ (key 0x2400 0x10)).1, expire_eq (s := s.begin) hdue]
  rfl

theorem keepsBut_countsHandling (s : State) : s.KeepsBut s.countsHandling [key 0x2400 0x10] := by
  intro k hk
  unfold State.countsHandling
  rw [get_bump_ne _ (List.ne_of_not_mem_cons hk), get_expire, get_begin]

theorem counts_countsHandling (s : State) : s.Counts s.countsHandling (key 0x2400 0x10) := by
  have hcounts := bump_counts (s.begin.expire .handlingTimeout) (key 0x2400 0x10)
  unfold State.Counts State.nat at hcounts ⊢
  rwa [get_expire, get_begin] at hcounts

theorem execHandlingTimeout_due {s : State} {c : Capture} (hdue : s.expired .handlingTimeout = true)
    (hhandling : s.err.handling = some c) : exec .handlingTimeout s = .next (s.countsHandling.leavesLate c) := by
  have hstill : (s.begin.expire .handlingTimeout).err.handling = some c := by
    rw [expire_eq (s := s.begin) hdue]
    exact hhandling
  show execHandlingTimeout s = _
  simp only [execHandlingTimeout, expired_begin, hdue, hstill, Bool.not_true, Bool.false_eq_true, if_false]
  rfl

/-! ### The end of a pulse (R237) -/

theorem execErrPulseEnd_due {s : State} (hdue : s.expired .errPulseEnd = true) :
    exec .errPulseEnd s = .next { s with
      out := [], timers := s.timers.filter (fun x => x.cmd ≠ .errPulseEnd),
      err := { s.err with pulse := false, hold := s.err.hold || s.err.holdToCome, holdToCome := false } } :=
  if_neg (by simp [hdue])

/-- Settles O25: a start reads the queue, a commit the late records before the capture in handling, and a timeout leaves that
capture late. -/
theorem errorHandlingProceeds : Obligations.ErrorHandlingProceeds := by
  unfold Obligations.ErrorHandlingProceeds
  refine ⟨?start, ?handled, ?late, ?timeout, fun s hdue => execErrPulseEnd_due hdue⟩
  case start =>
    intro s c q hnone hduty hqueue
    exact ⟨s.begin.handles c q, execHandlingStart_queued hnone hduty hqueue, rfl, nat_putN_same _ _ _, armed_arm _ _ _, rfl,
      keepsBut_putN _ _ _⟩
  case handled =>
    intro s bad c hduty hlate hhandling
    refine ⟨s.begin.endsHandling c bad, execErrorRecordCommit_handled bad hduty hlate hhandling, rfl, ?last, ?source⟩
    case last => rw [content_endsHandling, content_commitAround_last]
    case source => rw [content_endsHandling, content_commitAround_source]
  case late =>
    intro s bad c l hduty hlate
    exact ⟨_, execErrorRecordCommit_late bad hduty hlate, rfl, content_commitAround_last _ c bad,
      content_commitAround_source _ c bad⟩
  case timeout =>
    intro s c hdue hhandling
    refine ⟨s.countsHandling.leavesLate c, execHandlingTimeout_due hdue hhandling, ?err, ?frame, keepsBut_countsHandling s,
      counts_countsHandling s⟩
    case err =>
      rw [countsHandling_frame hdue]
      rfl
    case frame =>
      rw [countsHandling_frame hdue]
      rfl

end Sys2Proof.Machine
end

section
/-! The first state (R242, R245, R247) and the beginning of a cold start (R41, R242, R246). -/

namespace Sys2Proof.Machine

/-! ### The first state -/

/-- Objects 0x2500.01 and .06 alone are listed after reset. -/
theorem get_reset_default {k : Nat} (hstage : k ≠ key 0x2500 1) (hcount : k ≠ key 0x2500 6) : State.reset.get k = dfltOf k :=
  (if_neg hstage.symm).trans (if_neg hcount.symm)

theorem dom_reset (d : Dom) : State.reset.dom d = DomSt.idle := List.getD_replicate DomSt.idle d.isLt

/-- Settles O3: no table lists anything after reset but the stage and the count of bring-ups, so every other read is the default. -/
theorem resetStartsStageOne : Obligations.ResetStartsStageOne := by
  unfold Obligations.ResetStartsStageOne
  refine ⟨rfl, rfl, rfl, rfl, fun k => get_reset_default, fun k => rfl, fun k => rfl, fun d => ?idle, fun c => rfl, fun c => rfl,
    rfl, rfl, rfl, rfl⟩
  case idle => rw [dom_reset]; rfl

/-! ### The life-cycle state that was programmed (R369) -/

section
variable (s : State)

theorem readLifeCycle_frame :
    s.readLifeCycle = { s with dict := s.readLifeCycle.dict, keyClearing := s.readLifeCycle.keyClearing } := by
  unfold State.readLifeCycle
  dsimp only
  split_ifs <;> rfl

/-- The dictionary takes the pending state, where there is one. -/
theorem get_readLifeCycle (k : Nat) : s.readLifeCycle.get k = if s.nat (key 0x1100 4) = 0xFF then s.get k
    else ((s.putN (key 0x1100 1) (s.nat (key 0x1100 4))).putN (key 0x1100 4) 0xFF).get k := by
  unfold State.readLifeCycle
  dsimp only
  split_ifs <;> rfl

theorem nat_readLifeCycle_pending : s.readLifeCycle.nat (key 0x1100 4) = 0xFF := by
  unfold State.nat
  rw [get_readLifeCycle]
  split
  · assumption
  · rw [get_putN_same]
    rfl

theorem keepsBut_readLifeCycle : s.KeepsBut s.readLifeCycle [key 0x1100 1, key 0x1100 4] := by
  intro k hk
  obtain ⟨hstate, hpending⟩ : k ≠ key 0x1100 1 ∧ k ≠ key 0x1100 4 := by simpa using hk
  rw [get_readLifeCycle, get_putN_ne _ _ hpending, get_putN_ne _ _ hstate, ite_self]

end

theorem get_readLifeCycle_state {s : State} (h : s.nat (key 0x1100 4) ≠ 0xFF) :
    s.readLifeCycle.get (key 0x1100 1) = s.get (key 0x1100 4) := by
  have hne : key 0x1100 1 ≠ key 0x1100 4 := by decide
  rw [get_readLifeCycle, if_neg h, get_putN_ne _ _ hne, get_putN_same]
  exact BitVec.ofNat_toNat 64 _

/-! ### The beginning of a cold start (R41, R242, R246) -/

/-- A status of the time base other than locked is shown, and nothing follows from it. -/
theorem showTime_unlocked {s : State} (h : s.timeStatus ≠ 2) : s.showTime = s.putN (key 0x1200 3) s.timeStatus :=
  if_neg (fun hlocked => h hlocked.1)

/-- The count of cold starts, the nonce, the units kept out and the oscillator, before the fuses' life-cycle state is read. -/
def State.countsCold (s : State) (reference : Bool) : State :=
  (State.put { s with now := 0, coldStarts := s.coldStarts + 1, holes := s.atticUnits } (key 0x1100 6)
    (Config.nonce (s.coldStarts + 1))).upTb (fun t => { t with frac := 0, refLost := !reference, backup := !reference })

/-- What bring-up stage 1 begins from. -/
def State.coldBegins (s : State) (reference : Bool) : State :=
  (s.countsCold reference).readLifeCycle.putN (key 0x1200 3) (if reference then 0 else 4)

section
variable {s : State} (reference : Bool)

/-- A time base that has reached nothing yet runs free, or on the backup oscillator where there is no reference. -/
theorem timeStatus_countsCold (hbase : s.tb.base = 0) (hhold : s.tb.holdover = false) :
    (s.countsCold reference).readLifeCycle.timeStatus = if reference then 0 else 4 := by
  have htb : (s.countsCold reference).readLifeCycle.tb = { s.tb with frac := 0, refLost := !reference, backup := !reference } :=
    congrArg State.tb (readLifeCycle_frame _)
  simp only [State.timeStatus, htb, hbase, hhold]
  cases reference <;> rfl

theorem coldStart_unlocked (hbase : s.tb.base = 0) (hhold : s.tb.holdover = false) :
    s.coldStart reference = (s.coldBegins reference).beginBringup 0 := by
  have hstatus := timeStatus_countsCold reference hbase hhold
  have hshown : (s.countsCold reference).readLifeCycle.showTime = s.coldBegins reference := by
    rw [showTime_unlocked (by rw [hstatus]; cases reference <;> decide), hstatus]
    rfl
  show (s.countsCold reference).readLifeCycle.showTime.beginBringup 0 = _
  rw [hshown]

variable (s)

theorem coldBegins_frame : s.coldBegins reference = { s with
    now := 0, coldStarts := s.coldStarts + 1, holes := s.atticUnits, dict := (s.coldBegins reference).dict
    keyClearing := (s.coldBegins reference).keyClearing
    tb := { s.tb with frac := 0, refLost := !reference, backup := !reference } } :=
  congrArg (fun u : State => u.putN (key 0x1200 3) (if reference then 0 else 4)) (readLifeCycle_frame _)

theorem keepsBut_countsCold : s.KeepsBut (s.countsCold reference) [key 0x1100 6] :=
  fun _ hk => get_put_ne _ _ (List.ne_of_not_mem_cons hk)

theorem get_coldBegins_ne {k : Nat} (h : k ≠ key 0x1200 3) :
    (s.coldBegins reference).get k = (s.countsCold reference).readLifeCycle.get k := get_putN_ne _ _ h

theorem get_coldBegins_nonce : (s.coldBegins reference).get (key 0x1100 6) = Config.nonce (s.coldStarts + 1) := by
  rw [get_coldBegins_ne s reference (by decide), keepsBut_readLifeCycle _ _ (by decide)]
  exact get_put_same _ _ _

theorem nat_coldBegins_status : (s.coldBegins reference).nat (key 0x1200 3) = if reference then 0 else 4 := by
  refine (nat_putN_same _ _ _).trans ?_
  cases reference <;> rfl

theorem nat_coldBegins_pending : (s.coldBegins reference).nat (key 0x1100 4) = 0xFF :=
  (congrArg BitVec.toNat (get_coldBegins_ne s reference (by decide))).trans (nat_readLifeCycle_pending _)

theorem get_coldBegins_lifeCycle (h : s.nat (key 0x1100 4) ≠ 0xFF) :
    (s.coldBegins reference).get (key 0x1100 1) = s.get (key 0x1100 4) := by
  have hpending : (s.countsCold reference).get (key 0x1100 4) = s.get (key 0x1100 4) :=
    keepsBut_countsCold s reference _ (by decide)
  rw [get_coldBegins_ne s reference (by decide),
    get_readLifeCycle_state ((congrArg BitVec.toNat hpending).trans_ne h), hpending]

theorem keepsBut_coldBegins :
    s.KeepsBut (s.coldBegins reference) [key 0x1100 1, key 0x1100 4, key 0x1100 6, key 0x1200 3] := by
  intro k hk
  simp only [List.mem_cons, List.not_mem_nil, or_false, not_or] at hk
  obtain ⟨hstate, hpending, hnonce, hstatus⟩ := hk
  rw [get_coldBegins_ne s reference hstatus, keepsBut_readLifeCycle _ k (by simp [hstate, hpending]),
    keepsBut_countsCold s reference k (by simp [hnonce])]

end

/-- Settles O27: the time base has nothing to be locked to, so a cold start shows its status and goes on to stage 1. -/
theorem coldStartBeginsStageOne : Obligations.ColdStartBeginsStageOne := by
  unfold Obligations.ColdStartBeginsStageOne
  intro s ref hbase hhold
  refine ⟨s.coldBegins ref, coldStart_unlocked ref hbase hhold, ?now, ?count, get_coldBegins_nonce s ref, ?holes, ?time,
    nat_coldBegins_status s ref, nat_coldBegins_pending s ref, get_coldBegins_lifeCycle s ref, keepsBut_coldBegins s ref⟩
  all_goals rw [coldBegins_frame]

end Sys2Proof.Machine
end

section
/-! The stages of a bring-up (R243 to R255, R258, R263 to R266). -/

namespace Sys2Proof.Machine

/-! ### Stages 1 and 3 (R250, R252) -/

section
variable {s : State}

theorem execCellarConfigReadDone_read (l : List PcNo) (hstage : s.inStage 1 = true) :
    exec (.cellarConfigReadDone true l) s = .next (State.settleAll
      (if (s.begin.openCellar.latchSettings.checkPcs l).faulted then s.begin.openCellar.latchSettings.checkPcs l
        else (s.begin.openCellar.latchSettings.checkPcs l).endStage
          (bitOf (s.begin.openCellar.latchSettings.checkPcs l).bring.exceptions))) :=
  if_neg (by simp [hstage])

theorem execCellarConfigReadDone_unreadable (l : List PcNo) (hstage : s.inStage 1 = true) :
    exec (.cellarConfigReadDone false l) s = .next (s.begin.failStage 0x80).settleAll :=
  if_neg (by simp [hstage])

theorem execFuseReadDone_read (f : FuseMap) (hstage : s.inStage 3 = true) :
    exec (.fuseReadDone (some f)) s = .next ((s.begin.applyFuses f).endStage 0).settleAll :=
  if_neg (by simp [hstage])

theorem execFuseReadDone_unreadable (hstage : s.inStage 3 = true) :
    exec (.fuseReadDone none) s = .next (s.begin.failStage 0x80).settleAll :=
  if_neg (by simp [hstage])

/-! ### What the end of a timeout leaves for the stage to ask -/

@[simp] theorem bring_expire (s : State) (c : Instr) : (s.expire c).bring = s.bring :=
  State.expire_keeps (bring_closed s.bring rfl) rfl

@[simp] theorem bring_arrives (s : State) (c : Instr) (cls : Nat) : (s.arrives c cls).bring = s.bring :=
  State.arrives_keeps (bring_closed s.bring rfl) rfl

@[simp] theorem inStage_expire (s : State) (c : Instr) (n : Nat) : (s.expire c).inStage n = s.inStage n := by
  unfold State.expire
  split <;> rfl

/-! ### Stages 4 and 5 (R253 to R255) -/

theorem execFillTimeout_left {c : PCore} (hdue : s.expired (.fillTimeout c) = true) (hstage : s.inStage 4 = true)
    (hleft : c ∈ s.bring.fillLeft) :
    exec (.fillTimeout c) s = .next ((s.begin.expire (.fillTimeout c)).failStage 0x80).settleAll :=
  (if_neg (by simp [hdue])).trans (next_settleAll_congr (if_pos (by simp [hstage, hleft])))

section
variable {n : StackNo} (hstage : s.inStage 5 = true)
include hstage

/-- The training's answer is awaited: it is in its stage, its stack is not in yet, and its timeout runs. -/
theorem execMemoryTrainingDone_awaited (trained : Bool) (hleft : n ∈ s.bring.memLeft)
    (harmed : s.armed (.memoryTrainingTimeout n) = true) :
    exec (.memoryTrainingDone n trained) s = .next (State.settleAll
      (if trained then ((s.begin.arrives (.memoryTrainingTimeout n) 3).stackTrained n).stageNext
        else (s.begin.arrives (.memoryTrainingTimeout n) 3).trainingFailed n)) :=
  if_pos (by simp [hstage, hleft, harmed])

theorem execMemoryTrainingTimeout_due (hdue : s.expired (.memoryTrainingTimeout n) = true) :
    exec (.memoryTrainingTimeout n) s = .next ((s.begin.expire (.memoryTrainingTimeout n)).trainingFailed n).settleAll :=
  (if_neg (by simp [hdue])).trans (next_settleAll_congr (if_pos (by simp [hstage])))

/-- A port that trained no lane reads state 6, and one short of lanes leaves the stage with exceptions. -/
theorem execLinkTrainingDone_awaited {p : PortNo} (lanes : Byte) (failures : BitVec 32) (reach : Byte) (time : BitVec 32)
    (hleft : p ∈ s.bring.linkLeft) (harmed : s.armed (.linkTrainingTimeout p) = true) {u : State}
    (hu : u = ((s.begin.arrives (.linkTrainingTimeout p) 4).keepTraining p lanes failures reach time).linkIn p) :
    exec (.linkTrainingDone p lanes failures reach time) s = .next (State.settleAll (State.stageNext
      (if lanes = 0xFF then u else if lanes = 0 then (u.putN (portKey p 1) 6).exceptional else u.exceptional))) := by
  subst hu
  refine (if_pos (by simp [hstage, hleft, harmed])).trans (next_settleAll_congr (congrArg State.stageNext ?_))
  by_cases hfull : lanes = 0xFF
  · subst hfull
    rfl
  · rw [if_neg hfull, if_neg hfull]
    exact apply_ite State.exceptional _ _ _

end

theorem execLinkTrainingTimeout_due {p : PortNo} (hdue : s.expired (.linkTrainingTimeout p) = true) :
    exec (.linkTrainingTimeout p) s = .next (State.settleAll (State.stageNext
      ((((s.begin.expire (.linkTrainingTimeout p)).linkIn p).putN (portKey p 1) 6).exceptional))) :=
  if_neg (by simp [hdue])

/-! ### Stages 7 and 8 (R258, R263) -/

theorem execSpecimenStageTimeout_due (hdue : s.expired .specimenStageTimeout = true) :
    exec .specimenStageTimeout s = .next (State.settleAll (State.stageNext
      (s.bring.specLeft.foldl (fun (u : State) (c : PCore) => (u.fenceSteps c 3 false true).exceptional)
        { s.begin.expire .specimenStageTimeout with bring := { s.bring with specLeft := [] } }))) := by
  have hbring : (s.begin.expire .specimenStageTimeout).bring = s.bring := bring_expire s.begin _
  rw [← hbring]
  exact if_neg (by simp [hdue])

theorem execTimeLockTimeout_due (hdue : s.expired .timeLockTimeout = true) :
    exec .timeLockTimeout s = .next (State.settleAll (State.stageNext (State.exceptional
      { s.begin.expire .timeLockTimeout with bring := { s.bring with timeDone := true } }))) := by
  have hbring : (s.begin.expire .timeLockTimeout).bring = s.bring := bring_expire s.begin _
  rw [← hbring]
  exact if_neg (by simp [hdue])

/-! ### A halt ends (R266) -/

/-- The bring-up is halted no longer, and the time of the halt is not counted. -/
def State.resumesBringup (s : State) : State :=
  { s with bring := { s.bring with halted := false, excluded := s.bring.excluded + (s.t - s.bring.haltAt.toNat) } }

theorem continueBringup_halted (h : s.bring.halted = true) :
    continueBringup s = ((s.resumesBringup.startStage (s.resumesBringup.stageNo + 1)).stageNext, .done) :=
  if_neg (by simp [h])

end

/-- Settles O51: each report and each timeout finds the stage that waits for it, and the host's order the halt. -/
theorem bringUpStagesProceed : Obligations.BringUpStagesProceed := by
  unfold Obligations.BringUpStagesProceed
  refine ⟨?cellar, ?fuses, ?fill, ?memory, ?memoryTimeout, ?link, ?linkTimeout, ?specimens, ?time, ?continues⟩
  case cellar =>
    exact fun s l hstage => ⟨_, rfl, execCellarConfigReadDone_read l hstage, execCellarConfigReadDone_unreadable l hstage⟩
  case fuses => exact fun s hstage => ⟨fun f => execFuseReadDone_read f hstage, execFuseReadDone_unreadable hstage⟩
  case fill => exact fun s c hdue hstage hleft => execFillTimeout_left hdue hstage hleft
  case memory =>
    exact fun s n hstage hleft harmed => ⟨_, rfl, execMemoryTrainingDone_awaited hstage true hleft harmed,
      execMemoryTrainingDone_awaited hstage false hleft harmed⟩
  case memoryTimeout => exact fun s n hdue hstage => execMemoryTrainingTimeout_due hstage hdue
  case link =>
    exact fun s p lanes failures reach time hstage hleft harmed =>
      ⟨_, rfl, execLinkTrainingDone_awaited hstage lanes failures reach time hleft harmed rfl⟩
  case linkTimeout => exact fun s p hdue => execLinkTrainingTimeout_due hdue
  case specimens => exact fun s hdue => execSpecimenStageTimeout_due hdue
  case time => exact fun s hdue => execTimeLockTimeout_due hdue
  case continues =>
    rintro s x path rfl htakes hhalted
    exact ⟨State.resumesBringup _, rfl, next_granted_takes htakes (continueBringup_halted hhalted)⟩

end Sys2Proof.Machine
end

section
/-! The cabling check (R256, R260 to R262, R267): who the neighbours are, and what the host does about it. -/

namespace Sys2Proof.Machine

theorem execIdentityRequest_served {s : State} {p : PortNo} (hserved : s.stewardServed = true)
    (htrained : s.portTrained p = true) : exec (.identityRequest p) s = .next { s with
      out := [.identityAnswer p (s.get (key 0x2B00 1)) (BitVec.ofNat 8 (s.nat (key 0x2B00 0xB))) 1] } :=
  if_pos (Bool.and_eq_true_iff.mpr ⟨hserved, htrained⟩)

/-! ### An answer is kept (R260) -/

section
variable (s : State) (p : PortNo) (a : Identity)

/-- Objects .05 to .08 of the port show who answered. -/
def State.showsIdentity : State :=
  (((s.put (portKey p 5) a.coords).putN (portKey p 6) a.port.toNat).putN (portKey p 7) a.revision.toNat).putN (portKey p 8)
    a.kind.toNat

/-- The port waits to be judged with the others that answered. -/
def State.awaitsJudgement : State := { s with bring := { s.bring with answered := s.bring.answered ++ [p] } }

/-- The port's answer is in: it is shown, and the port waits to be judged. -/
def State.hearsIdentity : State :=
  (((s.arrives (.identityTimeout p) 4).identityIn p).showsIdentity p a).awaitsJudgement p

theorem get_awaitsJudgement (k : Nat) : (s.awaitsJudgement p).get k = s.get k := rfl

theorem portKey_ne {i j : Nat} (h : i ≠ j) : portKey p i ≠ portKey p j := by
  unfold portKey key
  omega

theorem toNat_ofNat_byte (b : Byte) : (BitVec.ofNat 64 b.toNat).toNat = b.toNat :=
  (BitVec.toNat_ofNat _ _).trans (Nat.mod_eq_of_lt (by omega))

theorem get_hearsIdentity_coords : (s.hearsIdentity p a).get (portKey p 5) = a.coords := by
  unfold State.hearsIdentity State.showsIdentity
  rw [get_awaitsJudgement, get_putN_ne _ _ (portKey_ne p (by decide)), get_putN_ne _ _ (portKey_ne p (by decide)),
    get_putN_ne _ _ (portKey_ne p (by decide)), get_put_same]

theorem nat_hearsIdentity_port : (s.hearsIdentity p a).nat (portKey p 6) = a.port.toNat := by
  unfold State.nat State.hearsIdentity State.showsIdentity
  rw [get_awaitsJudgement, get_putN_ne _ _ (portKey_ne p (by decide)), get_putN_ne _ _ (portKey_ne p (by decide)),
    get_putN_same, toNat_ofNat_byte]

theorem nat_hearsIdentity_revision : (s.hearsIdentity p a).nat (portKey p 7) = a.revision.toNat := by
  unfold State.nat State.hearsIdentity State.showsIdentity
  rw [get_awaitsJudgement, get_putN_ne _ _ (portKey_ne p (by decide)), get_putN_same, toNat_ofNat_byte]

theorem nat_hearsIdentity_kind : (s.hearsIdentity p a).nat (portKey p 8) = a.kind.toNat := by
  unfold State.nat State.hearsIdentity State.showsIdentity
  rw [get_awaitsJudgement, get_putN_same, toNat_ofNat_byte]

theorem bring_hearsIdentity : (s.hearsIdentity p a).bring = { s.bring with
    idLeft := s.bring.idLeft.filter (fun q => q ≠ p), answered := s.bring.answered ++ [p] } := by
  unfold State.hearsIdentity State.awaitsJudgement State.showsIdentity State.identityIn
  dsimp only [State.putN_bring, State.put_bring]
  rw [bring_arrives]

end

theorem execIdentityAnswer_awaited {s : State} {p : PortNo} (a : Identity) (harmed : s.armed (.identityTimeout p) = true) :
    exec (.identityAnswer p a) s = .next (s.begin.hearsIdentity p a).identityNext.settleAll :=
  if_neg (by simp [harmed])

/-! ### A port without an answer (R262) -/

theorem execIdentityTimeout_due {s : State} {p : PortNo} (hdue : s.expired (.identityTimeout p) = true) :
    exec (.identityTimeout p) s = .next (State.settleAll (State.identityNext
      (((s.begin.expire (.identityTimeout p)).identityIn p).noAnswer p))) :=
  if_neg (by simp [hdue])

/-- In service, with no check under way, the ports held with no answer are asked again. -/
theorem execIdentityRecheckTimer_due {s : State} (hdue : s.expired .identityRecheckTimer = true) (hready : s.stageNo = 9)
    (hidle : s.bring.idLeft = []) :
    exec .identityRecheckTimer s = .next (State.settleAll
      (((s.begin.disarm .identityRecheckTimer).askPorts
        (allPorts.filter (fun p => s.nat (portKey p 1) == 7)) true).armRecheck)) := by
  have hasks : ¬ (s.stageNo ≠ 9 ∨ (!s.bring.idLeft.isEmpty) = true) := by simp [hready, hidle]
  exact (if_neg (by simp [hdue])).trans (if_neg hasks)

/-! ### The host rechecks and accepts (R262, R267) -/

theorem recheckPorts_trained {s : State} (hready : s.stageNo = 9) (hidle : s.bring.idLeft = []) (hnone : s.bring.recheck = false)
    (hports : allPorts.filter s.portTrained ≠ []) :
    recheckPorts s = (s.askPorts (allPorts.filter s.portTrained) true, .progress) := by
  have hsome : (allPorts.filter s.portTrained).isEmpty = false := List.isEmpty_eq_false_iff.mpr hports
  simp only [recheckPorts, hready, hidle, hnone, hsome]
  rfl

/-- A port held for its cabling is accepted as it shows itself. -/
theorem acceptPort_held {s : State} {p : PortNo} (hheld : s.nat (portKey p 1) = 4) :
    acceptPort p s = ((s.planSeen p).putN (portKey p 1) (if s.lanes p = 0xFF then 2 else 3), .done) := by
  simp [acceptPort, hheld]

/-- Settles O52: a request reads the port, an answer the timeout that awaits it, and the host's orders the state of the ports. -/
theorem identityCommandsJudgeTheCabling : Obligations.IdentityCommandsJudgeTheCabling := by
  unfold Obligations.IdentityCommandsJudgeTheCabling
  refine ⟨?request, ?answer, ?timeout, ?again, ?recheck, ?accept⟩
  case request => exact fun s p hserved htrained => execIdentityRequest_served hserved htrained
  case answer =>
    intro s p a harmed
    refine ⟨_, execIdentityAnswer_awaited a harmed, get_hearsIdentity_coords _ p a, nat_hearsIdentity_port _ p a,
      nat_hearsIdentity_revision _ p a, nat_hearsIdentity_kind _ p a, ?answered, ?left⟩
    case answered => rw [bring_hearsIdentity, State.begin_bring]
    case left =>
      rw [bring_hearsIdentity]
      simp
  case timeout => exact fun s p hdue => execIdentityTimeout_due hdue
  case again => exact fun s hdue hready hidle => execIdentityRecheckTimer_due hdue hready hidle
  case recheck =>
    rintro s x path rfl htakes hready hidle hnone hports
    exact next_granted_takes htakes (recheckPorts_trained hready hidle hnone hports)
  case accept =>
    rintro s x path p rfl htakes hheld
    exact next_granted_takes htakes (acceptPort_held hheld)

end Sys2Proof.Machine
end

section
/-! Power, PHY_PORST_N and brown-outs (R242, R335, R374, R380 to R382), and the request of a power cycle (R239, R240). -/

namespace Sys2Proof.Machine

section
variable {s : State}

/-! ### The supplies and PHY_PORST_N -/

theorem execPowerUp_off (h : s.powered = false) :
    exec .powerUp s = .next { s with out := [], powered := true, porst := false } :=
  congrArg Host.Outcome.next (if_neg (by simp [h]))

/-- The reset is released: a cold start begins unless a brown-out still holds the chip. -/
theorem execPorstRelease_held (reference : Bool) (hpower : s.powered = true) (hporst : s.porst = false) :
    exec (.porstRelease reference) s = .next
      (if s.brownOut then { s with out := [], porst := true, tb := { s.tb with refLost := !reference } }
        else State.settleAll (State.coldStart
          { s with out := [], porst := true, tb := { s.tb with refLost := !reference } } reference)) :=
  if_neg (by simp [hpower, hporst])

/-- An assertion of 10 µs or longer takes effect. -/
theorem execPorstAssert_long {ns : Nat} (hpower : s.powered = true) (hporst : s.porst = true) (hlong : 10000 ≤ ns) :
    exec (.porstAssert ns) s = .next s.begin.assertPorst := by
  have hseen : ¬ ns ≤ 1000 := by omega
  exact (if_neg (by simp [hpower, hporst, hseen])).trans (if_pos hlong)

/-- The Cellar as a loss of power in the middle of a write leaves it, or as it was. -/
def State.losesPower (s : State) (torn : Bool) : State :=
  { State.reinit { s with cel := if torn then s.cel.tear else s.cel } false false with
    powered := false, porst := false, brownOut := false }

theorem execPowerLoss_on (torn : Bool) (hpower : s.powered = true) :
    exec (.powerLoss torn) s = .next (s.begin.losesPower torn) := by
  refine (if_neg (by simp [hpower])).trans ?_
  cases torn <;> rfl

theorem execBrownOut_on (hpower : s.powered = true) (hrange : s.brownOut = false) :
    exec .brownOut s = .next { s.begin.reinit false true with brownOut := true } :=
  if_neg (by simp [hpower, hrange])

/-- A brown-out ends: a cold start begins unless PHY_PORST_N still holds the chip. -/
theorem execBrownOutEnd_low (h : s.brownOut = true) : exec .brownOutEnd s = .next
    (if s.porst then State.settleAll (State.coldStart { s with out := [], brownOut := false } (!s.tb.refLost))
      else { s with out := [], brownOut := false }) :=
  if_neg (by simp [h])

theorem execSupplyExcursion_outside {v : BitVec 16} {above : Bool} {ns : Nat} (halive : s.alive = true) (hlong : 1000 ≤ ns)
    (hhigh : above = true → 810 < v.toNat) (hlow : above = false → 600 ≤ v.toNat ∧ v.toNat < 690) :
    exec (.supplyExcursion v above ns) s = .next (State.settleAll
      (s.begin.raise 0x19 0 (supplyRecord s.t v.toNat (if above then 2 else 1) ns false))) := by
  have houtside : (if above then decide (810 < v.toNat) else decide (v.toNat < 690) && decide (600 ≤ v.toNat)) = true := by
    cases above with
    | true => simpa using hhigh rfl
    | false => simpa using (hlow rfl).symm
  have halive' : s.begin.alive = true := halive
  exact if_neg (by simp [halive', houtside, hlong])

/-! ### The request of a power cycle (R239, R240) -/

theorem cycleOrWait_running (h : s.frz.on = false) : s.cycleOrWait = s.requestCycle := if_neg (by simp [h])

/-- Under a freeze the delay is held, and nothing else is touched. -/
theorem cycleOrWait_frozen (h : s.frz.on = true) : s.cycleOrWait = { s with timers := s.cycleOrWait.timers } := by
  unfold State.cycleOrWait
  rw [if_pos h]
  rfl

theorem execPowerCycleDelay_due (hdue : s.expired .powerCycleDelay = true) (hfault : s.get (key 0x2400 3) = 1) :
    exec .powerCycleDelay s = .next s.begin.cycleOrWait :=
  if_neg (by simp [hdue, hfault])

theorem frz_taking (s : State) (path : Path) (k : Nat) : (s.taking path k).frz = s.frz :=
  State.bump_keeps (frz_closed s.frz rfl) rfl

theorem cycleNow_fault (hfault : s.get (key 0x2400 3) = 1) (hrun : s.frz.on = false) : cycleNow s = (s.requestCycle, .done) := by
  simp only [cycleNow, hfault, cycleOrWait_running hrun]
  rfl

end

/-- Settles O26: each command's guard is met by the chip's power state, and a request of a power cycle asks whether a freeze is
on. -/
theorem powerCommandsSwitchTheChip : Obligations.PowerCommandsSwitchTheChip := by
  unfold Obligations.PowerCommandsSwitchTheChip
  refine ⟨⟨?powerUp, ?release, ?releaseLow, ?assert, ?loss, ?brownOut, ?recovers, ?recoversHeld, ?excursion⟩,
    ?delay, ?frozen, ?now⟩
  case powerUp => exact fun s h => execPowerUp_off h
  case release =>
    intro s ref hpower hporst hrange
    rw [execPorstRelease_held ref hpower hporst, if_neg (by simp [hrange])]
  case releaseLow =>
    intro s ref hpower hporst hlow
    rw [execPorstRelease_held ref hpower hporst, if_pos hlow]
  case assert => exact fun s ns hpower hporst hlong => ⟨_, execPorstAssert_long hpower hporst hlong, rfl, rfl, rfl, rfl⟩
  case loss => exact fun s torn hpower => ⟨_, execPowerLoss_on torn hpower, rfl, rfl, rfl, rfl, rfl, rfl, rfl⟩
  case brownOut =>
    exact fun s hpower hrange => ⟨_, execBrownOut_on hpower hrange, rfl, rfl, hpower, rfl, rfl, rfl⟩
  case recovers =>
    intro s hlow hporst
    rw [execBrownOutEnd_low hlow, if_pos hporst]
  case recoversHeld =>
    intro s hlow hporst
    rw [execBrownOutEnd_low hlow, if_neg (by simp [hporst])]
  case excursion =>
    exact fun s v above ns halive hlong hhigh hlow => execSupplyExcursion_outside halive hlong hhigh hlow
  case delay =>
    intro s hdue hfault hrun
    refine ⟨s.begin.requestCycle, ?exec, rfl, get_putN_same _ _ 2, rfl, rfl, keepsBut_putN _ _ 2⟩
    rw [execPowerCycleDelay_due hdue hfault, cycleOrWait_running (s := s.begin) hrun]
  case frozen => exact fun s hdue hfault hon => ⟨_, execPowerCycleDelay_due hdue hfault, cycleOrWait_frozen (s := s.begin) hon⟩
  case now =>
    intro s path htakes hfault hrun
    have hbody := cycleNow_fault hfault ((congrArg FreezeSt.on (frz_taking s path _)).trans hrun)
    refine congrArg Host.Outcome.next ?_
    rw [granted_takes s path _ _ _ _ htakes, hbody]

end Sys2Proof.Machine
end

section
/-! The canonical form (R346, R350): every elementary update keeps it, so every operation, every command and the tick keep it. -/

namespace Sys2Proof.Machine

/-! ### What writes several fields -/

/-- A re-initialization drops entries of the tables, or builds them anew by writes. -/
theorem canon_reinit {s : State} (warm keepF : Bool) (h : s.Canon) : (s.reinit warm keepF).Canon where
  dict := filter_canon _ _ _ h.dict
  cont := filter_canon _ _ _ h.cont
  stat := has_ite (P := fun l => tabCanon (fun _ => Stat.none) l = true) (foldl_tabPut_canon _ _ _ _ _ rfl) rfl
  chans := rfl
  data := rfl
  probes := has_ite (P := fun l => tabCanon (fun _ => Probe.fresh) l = true) (foldl_tabPut_canon _ _ _ _ _ rfl) rfl
  slices := foldl_tabPut_canon _ _ _ _ _ rfl
  digests := rfl
  fenceCounts := h.fenceCounts
  deferred := rfl
  nearSecs := rfl
  doms := rfl
  pcs := rfl

/-- A state that differs from a canonical one in no table and no array is canonical. -/
theorem State.Canon.of_tables {s t : State} (h : s.Canon)
    (heq : t = { t with dict := s.dict, cont := s.cont, stat := s.stat, chans := s.chans, data := s.data, probes := s.probes,
                        slices := s.slices, digests := s.digests, fenceCounts := s.fenceCounts, deferred := s.deferred,
                        nearSecs := s.nearSecs, doms := s.doms, pcs := s.pcs }) : t.Canon := by
  rw [heq]
  exact ⟨h.dict, h.cont, h.stat, h.chans, h.data, h.probes, h.slices, h.digests, h.fenceCounts, h.deferred, h.nearSecs, h.doms,
    h.pcs⟩

/-! ### Every elementary update keeps the canonical form -/

theorem canon_closed (m : Nat) : Closed m State.Canon := by
  refine closed_all (fun f => ?_) m
  cases f
  case dict_ => exact fun s k v h => { h with dict := tabPut_canon dfltOf s.dict k v h.dict }
  case cont_ => exact fun s k b h => { h with cont := tabPut_canon dfltContent s.cont k b h.cont }
  case stat_ => exact fun s k v h => { h with stat := tabPut_canon_const Stat.none s.stat k v h.stat }
  case chans_ => exact fun s c x h => { h with chans := tabPut_canon_const none s.chans c.val x h.chans }
  case data_ => exact fun s c n b h => { h with data := tabPut_canon_const dataClear s.data c.val _ h.data }
  case probes_ => exact fun s c x h => { h with probes := tabPut_canon_const Probe.fresh s.probes c.val x h.probes }
  case slices_ => exact fun s c x h => { h with slices := tabPut_canon_const Slice.fresh s.slices c.val x h.slices }
  case digests_ => exact fun s r x h => { h with digests := tabPut_canon_const Digest.fresh s.digests r.val x h.digests }
  case fenceCounts_ =>
    exact fun s kind n h => { h with
      fenceCounts := tabPut_canon_const 0 s.fenceCounts (unitIndex kind n) (s.fencesOf kind n + 1) h.fenceCounts }
  case deferred_ => exact fun s k n h => { h with deferred := tabPut_canon_const 0 s.deferred k n h.deferred }
  case nearSecs_ => exact fun s k n h => { h with nearSecs := tabPut_canon_const 0 s.nearSecs k n h.nearSecs }
  case doms_ => exact fun s d x h => { h with doms := (List.length_set ..).trans h.doms }
  case pcs_ => exact fun s p x h => { h with pcs := (List.length_set ..).trans h.pcs }
  case reinit_ => exact fun s warm keepF h => canon_reinit warm keepF h
  case attic_ => exact fun s i e h => h.of_tables rfl
  all_goals exact fun s v h => h.of_tables rfl

/-! ### The tick -/

theorem canon_addTick {s : State} (h : s.Canon) : s.addTick.Canon := by
  rw [addTick_eq]
  exact h.of_tables rfl

theorem canon_signalAll {s : State} (h : s.Canon) : s.signalAll.Canon := h.of_tables rfl

theorem canon_tick {s : State} (h : s.Canon) : s.tick.Canon :=
  canon_signalAll (State.answerWaits_keeps (canon_closed _) (State.tickLatches_keeps (canon_closed _)
    (State.traceDrain_keeps (canon_closed _) (canon_addTick h))))

/-! ### The obligations -/

/-- Settles O1: the step is read at a queue that is not empty. -/
theorem stepRunsTheFrontCommand : Obligations.StepRunsTheFrontCommand := by
  unfold Obligations.StepRunsTheFrontCommand
  intro s c rest hqueue
  unfold step
  rw [hqueue]

/-- Settles O5: a command's operations are made of elementary updates, and so is what a tick does before it signals. -/
theorem everyStepKeepsCanon : Obligations.EveryStepKeepsCanon := by
  unfold Obligations.EveryStepKeepsCanon
  intro s t h hs
  unfold step at hs
  cases hqueue : s.pending with
  | nil =>
    rw [hqueue] at hs
    rw [← Host.Outcome.next.inj hs]
    exact canon_tick (s := s.begin) (h.of_tables rfl)
  | cons c rest =>
    rw [hqueue] at hs
    exact exec_keeps_next (canon_closed _) (h.of_tables rfl) hs

/-- Settles O4: the two entries that reset lists are sorted and off their defaults; the other tables are empty. -/
theorem resetIsCanonical : Obligations.ResetIsCanonical where
  dict := by decide +kernel
  cont := rfl
  stat := rfl
  chans := rfl
  data := rfl
  probes := rfl
  slices := rfl
  digests := rfl
  fenceCounts := rfl
  deferred := rfl
  nearSecs := rfl
  doms := rfl
  pcs := rfl

/-- Settles O6: no operation of a command writes the queue of those that wait. -/
theorem everyCommandIsAnswered : Obligations.EveryCommandIsAnswered := by
  unfold Obligations.EveryCommandIsAnswered
  exact fun c s => exec_keeps c (pending_closed s.pending (Nat.and_zero _)) rfl

/-! ### Fields with few writers (R358, R369, R374, R380) -/

/-- The commands that are not listed have none of the guarded fields in their masks. -/
theorem cmask_supplies {c : Instr} (h : switchesPower c = false) : cmask c &&& 0x3800000000000000 = 0 := by
  cases c
  case powerUp | powerLoss | porstAssert | brownOut | porstRelease | brownOutEnd =>
    exact absurd h (by simp [switchesPower, startsCold])
  all_goals
    rw [cmask]
    rfl

theorem cmask_transfers {c : Instr} (h : movesTransfers c = false) : cmask c &&& 0x20000000000000e00 = 0 := by
  cases c
  case adpAbort | adpDownloadEnd | adpDownloadInit | adpDownloadSegment | adpUploadInit | chAbort | chEndDownload | chOpen
    | chStore | chFetch | channelIdleTimeout | adpWaitTimeout | powerLoss | porstAssert | brownOut | dumpWritten
    | dumpBudgetTimeout | releaseNow | timedRelease | registerWrite | adpWrite | adpGroupWrite =>
    exact absurd h (by simp [movesTransfers, reinitializes])
  all_goals
    rw [cmask]
    rfl

theorem cmask_keys {c : Instr} (h : touchesKeys c = false) : cmask c &&& 0x20007800000000000 = 0 := by
  cases c
  case keyClear | keyClearDone | lcTransition | lcFusesProgrammed | adpDownloadEnd | chEndDownload | powerLoss | porstAssert
    | brownOut | dumpWritten | dumpBudgetTimeout | releaseNow | timedRelease | registerWrite | adpWrite | adpGroupWrite
    | porstRelease | brownOutEnd =>
    exact absurd h (by simp [touchesKeys, reinitializes, startsCold])
  all_goals
    rw [cmask]
    rfl

theorem cmask_pwrcyc {c : Instr} (h : cyclesPower c = false) : cmask c &&& 0x24000000000000000 = 0 := by
  cases c
  case powerCycleDelay | powerCycleNow | powerLoss | porstAssert | brownOut | dumpWritten | dumpBudgetTimeout | releaseNow
    | timedRelease | registerWrite | adpWrite | adpGroupWrite =>
    exact absurd h (by simp [cyclesPower, reinitializes])
  all_goals
    rw [cmask]
    rfl

/-- A mask without the fields of a larger mask has none of its parts. -/
theorem and_eq_zero_of_subset {m k n : Nat} (h : m &&& n = 0) (hk : n &&& k = k) : m &&& k = 0 := by
  rw [← hk, ← Nat.and_assoc, h, Nat.zero_and]

/-- Settles O9: a command writes the fields of its mask alone, and the guarded ones stand in the masks of the listed commands. -/
theorem guardedStateHasFewWriters : Obligations.GuardedStateHasFewWriters := by
  unfold Obligations.GuardedStateHasFewWriters
  intro c s t hs
  refine ⟨fun h => ?supplies, fun h => coldStarts_exec h hs, fun h => ?transfers, fun h => ?keys, fun h => ?cycle⟩
  case supplies =>
    have hm := cmask_supplies h
    exact ⟨exec_keeps_next (powered_closed s.powered (and_eq_zero_of_subset hm rfl)) rfl hs,
      exec_keeps_next (porst_closed s.porst (and_eq_zero_of_subset hm rfl)) rfl hs,
      exec_keeps_next (brownOut_closed s.brownOut (and_eq_zero_of_subset hm rfl)) rfl hs⟩
  case transfers =>
    have hm := cmask_transfers h
    exact ⟨exec_keeps_next (chans_closed s.chans (and_eq_zero_of_subset hm rfl)) rfl hs,
      exec_keeps_next (data_closed s.data (and_eq_zero_of_subset hm rfl)) rfl hs,
      exec_keeps_next (adp_closed s.adp (and_eq_zero_of_subset hm rfl)) rfl hs⟩
  case keys =>
    have hm := cmask_keys h
    exact ⟨exec_keeps_next (keyClearing_closed s.keyClearing (and_eq_zero_of_subset hm rfl)) rfl hs,
      exec_keeps_next (keyCleared_closed s.keyCleared (and_eq_zero_of_subset hm rfl)) rfl hs,
      exec_keeps_next (lcProgramming_closed s.lcProgramming (and_eq_zero_of_subset hm rfl)) rfl hs,
      exec_keeps_next (lcToken_closed s.lcToken (and_eq_zero_of_subset hm rfl)) rfl hs⟩
  case cycle => exact exec_keeps_next (pwrcyc_closed s.pwrcyc (cmask_pwrcyc h)) rfl hs

end Sys2Proof.Machine
end

section
/-! Self-test (R271 to R283): a test's end, the host's requests and aborts, and the test of a stack. -/

namespace Sys2Proof.Machine

/-! ### Ends of tests (R278, R281) -/

section
variable {s u : State} {x : TestUnit} {t : Word}

/-- The slices of a stack are dropped only where the stack did not respond. -/
theorem execSelftestDone_running {r : TestResult} {j : Judged} (hstack : (∀ n, x ≠ .stack n) ∨ j.outcome = 0)
    (hrun : s.test.running.find? (fun (y : TestUnit × Word) => y.1 == x) = some (x, t))
    (hjudge : (s.begin.arrives (.selftestTimeout x) 6).judge x r = (u, j)) :
    exec (.selftestDone x r) s = .next (State.settleAll (State.testNext
      (u.endUnit x t ((s.begin.arrives (.selftestTimeout x) 6).testsOf x) j))) := by
  show execSelftestDone x r s = _
  simp only [execSelftestDone, State.begin_test, hrun, hjudge]
  cases x with
  | stack n =>
    rcases hstack with hno | hpassed
    · exact absurd rfl (hno n)
    · simp only [hpassed, if_true]
  | _ => rfl

theorem execSelftestTimeout_running (hdue : s.expired (.selftestTimeout x) = true)
    (hrun : s.test.running.find? (fun (y : TestUnit × Word) => y.1 == x) = some (x, t)) :
    exec (.selftestTimeout x) s = .next (State.settleAll (State.testNext
      ((s.begin.expire (.selftestTimeout x)).endUnit x t (s.testsOf x) (Judged.plain 6)))) := by
  show execSelftestTimeout x s = _
  simp only [execSelftestTimeout, expired_begin, hdue, State.begin_test, hrun, Bool.not_true, Bool.false_eq_true, if_false]
  rfl

end

/-! ### Requests (R280 to R283) -/

section
variable {s : State} {v : Word}

/-- A core that may be tested passes every refusal of a request. -/
theorem requestTest_testable {c : PCore} (hcore : bits v.toNat 15 0 = c.val) (hmask : bits v.toNat 18 16 ≠ 0) (hlc : s.lc ≠ 4)
    (hready : s.stageNo = 9) (habsent : s.fp c ≠ 4) (hheld : s.fp c ≠ 5)
    (hmay : if s.fp c = 2 ∨ s.fp c = 3 ∨ (c, 2) ∈ s.test.awaiting then s.lc ≠ 2 else s.testable c = true)
    (hslice : (bits v.toNat 18 16).testBit 2 = true → s.slicePresent c = true ∧ s.stackSt (stackOf c) = 1)
    (hroom : s.testRoom (bits v.toNat 18 16) = true) :
    requestTest v s = (((s.putN (key 0x2600 8) 1).startCore c (bits v.toNat 18 16)).showTests, .done) := by
  have hlocked : ¬ (s.lc = 4 ∨ ((s.fp c = 2 ∨ s.fp c = 3 ∨ (c, 2) ∈ s.test.awaiting) ∧ s.lc = 2)) := by
    rintro (h | ⟨hout, h⟩)
    · exact hlc h
    · rw [if_pos hout] at hmay
      exact hmay h
  have hstate : ¬ (s.stageNo ≠ 9 ∨
      (!(decide (s.fp c = 2 ∨ s.fp c = 3 ∨ (c, 2) ∈ s.test.awaiting) || s.testable c)) = true) := by
    rintro (h | h)
    · exact h hready
    · split at hmay
      · next hout => simp [hout] at h
      · simp [hmay] at h
  have hpresent : ¬ ((bits v.toNat 18 16).testBit 2 && !s.slicePresent c) = true := by
    intro h
    obtain ⟨hbit, hgone⟩ := Bool.and_eq_true_iff.mp h
    simp [(hslice hbit).1] at hgone
  have hserves : ¬ ((bits v.toNat 18 16).testBit 2 && s.stackSt (stackOf c) != 1) = true := by
    intro h
    obtain ⟨hbit, hgone⟩ := Bool.and_eq_true_iff.mp h
    simp [(hslice hbit).2] at hgone
  have hunit : ¬ (s.fp c = 4 ∨ s.fp c = 5) := fun h => h.elim habsent hheld
  simp only [requestTest, hcore, c.isLt, dif_pos, Fin.eta]
  rw [if_neg hmask, if_neg hlocked, if_neg hunit, if_neg hstate, if_neg hpresent, if_neg hserves, if_neg (by simp [hroom])]

theorem requestAbort_running {c : PCore} {t : CoreTest} (hv : v.toNat = c.val) (hready : s.stageNo = 9)
    (htest : s.coreTest? c = some t) : requestAbort v s = (s.abortTest c, .done) := by
  simp [requestAbort, hv, c.isLt, hready, htest]

/-- A stack is tested in the safe state, or in service while no domain is active, when no test runs. -/
theorem requestStack_idle {n : StackNo} (hv : v.toNat = n.val) (hlc : s.lc ≠ 4)
    (hwhen : 0x80 ≤ s.stageNo ∨ s.stageNo = 9 ∧ s.activeDoms = []) (hpresent : s.stackSt n ≠ 3) (hstack : s.test.stack = none)
    (hrun : s.test.running = []) :
    requestStack v s = (State.showTests
      ((s.slicesOf n).foldl (fun (u : State) (c : PCore) => ((u.abortScans c).putN (coreKey c 0x97) 0).startUnit (.slice c))
        (((State.putN { s with test := { s.test with stack := some n, stackFailed := false } } (key 0x2600 8) 1)).startUnit
          (.stack n))), .done) := by
  have hidle : (!(decide (0x80 ≤ s.stageNo) || (s.stageNo == 9 && s.activeDoms.isEmpty))) = false := by
    rcases hwhen with hsafe | ⟨hready, hnone⟩
    · simp [hsafe]
    · simp [hready, hnone]
  simp only [requestStack, hv, n.isLt, dif_pos, Fin.eta, hlc, hidle, hpresent, hstack, hrun]
  rfl

end

/-- Settles O53: an end finds the unit's running test, and each order passes the refusals of its body. -/
theorem selfTestCommandsAct : Obligations.SelfTestCommandsAct := by
  unfold Obligations.SelfTestCommandsAct
  refine ⟨?done, ?timeout, ?request, ?abort, ?stack⟩
  case done => exact fun s u x r t j hstack hrun hjudge => execSelftestDone_running hstack hrun hjudge
  case timeout => exact fun s x t hdue hrun => execSelftestTimeout_running hdue hrun
  case request =>
    rintro s x path v c rfl htakes hcore hmask hlc hready habsent hheld hmay hslice hroom
    exact next_granted_takes htakes (requestTest_testable hcore hmask hlc hready habsent hheld hmay hslice hroom)
  case abort =>
    rintro s x path v c t rfl htakes hv hready htest
    exact next_granted_takes htakes (requestAbort_running hv hready htest)
  case stack =>
    rintro s x path v n rfl htakes hv hlc hwhen hpresent hstack hrun
    exact next_granted_takes htakes (requestStack_idle hv hlc hwhen hpresent hstack hrun)

end Sys2Proof.Machine
end

section
/-! The key store (R284) and the life cycle (R369, R370). -/

namespace Sys2Proof.Machine

/-- A granted write after which nothing settles ends with what its body left. -/
theorem next_granted_unsettled {s t : State} {path : Path} {k : Nat} {v : Word} {content : Bool} {body : Body} {e : WEnd}
    (htakes : s.Takes path k v content) (hbody : body (s.taking path k) = (t, e)) :
    (Host.Outcome.next (s.begin.granted path k v content body) : Host.Outcome State Fault Refusal) =
      .next (t.endGrant path k e) := by
  rw [granted_takes s path k v content body htakes, hbody]

/-! ### The key store (R284) -/

section
variable {s : State}

theorem startKeyClear_locked (hlc : s.lc = 2) (hallowed : s.get (key 0x2601 2) ≠ 0) :
    startKeyClear s = ({ s with keyClearing := true }, .progress) := by
  exact (if_neg (by simp [hlc])).trans (if_neg hallowed)

/-- The clearing has ended: whether every store reads zero, and when it did. -/
def State.keysCleared (s : State) (zero : Bool) : State :=
  let s : State := { s with keyClearing := false, keyCleared := s.keyCleared || zero }
  if zero then s.put (key 0x2601 4) s.now else s

/-- The write that ordered it ends as the stores read. -/
def State.endsKeyClear (s : State) (zero : Bool) : State :=
  if (s.status (key 0x2601 3)).st = .inProgress then
    s.endWrite (key 0x2601 3) (if zero then .completed else .refused) (if zero then 0 else 8) else s

theorem execKeyClearDone_clearing (zero : Bool) (h : s.keyClearing = true) :
    exec (.keyClearDone zero) s = .next ((s.begin.keysCleared zero).endsKeyClear zero) :=
  if_neg (by simp [h])

theorem status_keysCleared (zero : Bool) (k : Nat) : (s.keysCleared zero).status k = s.status k := by
  cases zero <;> rfl

theorem keepsBut_keysCleared (zero : Bool) : s.KeepsBut (s.keysCleared zero) [key 0x2601 4] := by
  cases zero with
  | false => exact fun _ _ => rfl
  | true => exact fun _ hk => get_put_ne _ s.now (by simpa using hk)

theorem get_endsKeyClear (zero : Bool) (k : Nat) : (s.endsKeyClear zero).get k = s.get k := by
  unfold State.endsKeyClear
  split <;> rfl

theorem endsKeyClear_frame (zero : Bool) : s.endsKeyClear zero = { s with stat := (s.endsKeyClear zero).stat } := by
  unfold State.endsKeyClear
  split <;> rfl

theorem keysCleared_frame (zero : Bool) : s.keysCleared zero = { s with
    dict := (s.keysCleared zero).dict, keyClearing := false, keyCleared := s.keyCleared || zero } := by
  cases zero <;> rfl

theorem st_endsKeyClear (zero : Bool) (h : (s.status (key 0x2601 3)).st = .inProgress) :
    ((s.endsKeyClear zero).status (key 0x2601 3)).st = if zero then .completed else .refused := by
  unfold State.endsKeyClear
  rw [if_pos h]
  exact congrArg Stat.st (status_setStatus_same s _ _)

end

/-! ### The life cycle (R369, R370) -/

section
variable {s : State}

theorem writeTransition_allowed {target : Nat} (hallowed : lcAllowed s.lc target = true) (hrma : target ≠ 3)
    (hfree : s.lcProgramming = none) (hpending : s.nat (key 0x1100 4) = 0xFF) (hidle : s.activeDoms = []) :
    writeTransition target s = ({ s with lcProgramming := some target }, .progress) := by
  simp [writeTransition, hallowed, hrma, hfree, hpending, hidle]

/-- The fuses show the state to come, and the transition is counted. -/
def State.showsPending (s : State) (n : Nat) : State :=
  ({ s with lcProgramming := none }.putN (key 0x1100 4) n).bump (key 0x1100 5)

/-- The write that ordered the transition is completed, and the fuses are told. -/
def State.endsTransition (s : State) (n : Nat) : State := (s.endWrite (key 0x1100 2) .completed 0).send (.programFuses n)

theorem execLcFusesProgrammed_ordered {n : Nat} (h : s.lcProgramming = some n) :
    exec .lcFusesProgrammed s = .next ((s.begin.showsPending n).endsTransition n) := by
  show execLcFusesProgrammed s = _
  simp only [execLcFusesProgrammed, State.begin_lcProgramming, h]
  rfl

theorem counts_endsTransition {t : State} {n k : Nat} (h : s.begin.Counts t k) : s.Counts (t.endsTransition n) k := h

theorem keepsBut_endsTransition {t : State} {n : Nat} {l : List Nat} (h : s.begin.KeepsBut t l) :
    s.KeepsBut (t.endsTransition n) l := h

theorem get_endsTransition (n k : Nat) : (s.endsTransition n).get k = s.get k := rfl

theorem st_endsTransition (n : Nat) : ((s.endsTransition n).status (key 0x1100 2)).st = .completed :=
  congrArg Stat.st (status_setStatus_same s _ _)

theorem endsTransition_frame (n : Nat) :
    s.endsTransition n = { s with out := s.out ++ [.programFuses n], stat := (s.endsTransition n).stat } := rfl

theorem get_showsPending_state (n : Nat) : (s.showsPending n).get (key 0x1100 4) = BitVec.ofNat 64 n :=
  (get_bump_ne _ (by decide)).trans (get_putN_same _ _ n)

theorem counts_showsPending (n : Nat) : s.Counts (s.showsPending n) (key 0x1100 5) := by
  have hnat : ({ s with lcProgramming := none }.putN (key 0x1100 4) n).nat (key 0x1100 5) = s.nat (key 0x1100 5) :=
    congrArg BitVec.toNat (get_putN_ne _ n (by decide))
  have hcounts := bump_counts ({ s with lcProgramming := none }.putN (key 0x1100 4) n) (key 0x1100 5)
  unfold State.Counts at hcounts ⊢
  rwa [hnat] at hcounts

theorem keepsBut_showsPending (n : Nat) : s.KeepsBut (s.showsPending n) [key 0x1100 4, key 0x1100 5] := by
  intro k hk
  obtain ⟨hstate, hcount⟩ : k ≠ key 0x1100 4 ∧ k ≠ key 0x1100 5 := by simpa using hk
  exact (get_bump_ne _ hcount).trans (get_putN_ne _ n hstate)

theorem showsPending_frame (n : Nat) :
    s.showsPending n = { s with dict := (s.showsPending n).dict, lcProgramming := none } := by
  obtain ⟨v, hv⟩ := bumpBy_put ({ s with lcProgramming := none }.putN (key 0x1100 4) n) (key 0x1100 5) 1
  have hput : s.showsPending n = ({ s with lcProgramming := none }.putN (key 0x1100 4) n).put (key 0x1100 5) v := hv
  rw [hput]
  rfl

end

/-- Settles O54: the orders pass the refusals of their bodies; what ends one is the stores' or the fuses' answer. -/
theorem keyAndLifeCycleCommandsAct : Obligations.KeyAndLifeCycleCommandsAct := by
  unfold Obligations.KeyAndLifeCycleCommandsAct
  refine ⟨?clear, ?cleared, ?transition, ?programmed⟩
  case clear =>
    rintro s x path rfl htakes hlc hallowed
    exact next_granted_unsettled htakes (startKeyClear_locked hlc hallowed)
  case cleared =>
    intro s zero hclearing
    refine ⟨_, execKeyClearDone_clearing zero hclearing, ?clearing, ?kept, ?time, ?ended, ?frame, ?others⟩
    case clearing => rw [endsKeyClear_frame, keysCleared_frame]
    case kept =>
      rw [endsKeyClear_frame, keysCleared_frame]
      rfl
    case time =>
      rintro rfl
      exact (get_endsKeyClear true _).trans (get_put_same _ _ s.now)
    case ended =>
      exact fun hopen => st_endsKeyClear zero ((congrArg Stat.st (status_keysCleared zero _)).trans hopen)
    case frame =>
      rw [endsKeyClear_frame, keysCleared_frame]
      rfl
    case others => exact fun k hk => (get_endsKeyClear zero k).trans (keepsBut_keysCleared (s := s.begin) zero k hk)
  case transition =>
    rintro s x path v rfl htakes hallowed hrma hfree hpending hidle
    exact next_granted_takes htakes (writeTransition_allowed hallowed hrma hfree hpending hidle)
  case programmed =>
    intro s n hordered
    refine ⟨_, execLcFusesProgrammed_ordered hordered, ?state, ?opened, ?told,
      st_endsTransition n, ?counted,
      ?frame, ?others⟩
    case state => rw [get_endsTransition, get_showsPending_state]
    case opened => rw [endsTransition_frame, showsPending_frame]
    case told =>
      rw [endsTransition_frame, showsPending_frame]
      rfl
    case counted => exact counts_endsTransition (counts_showsPending n)
    case frame =>
      rw [endsTransition_frame, showsPending_frame]
      rfl
    case others => exact keepsBut_endsTransition (keepsBut_showsPending n)

end Sys2Proof.Machine
end

section
/-! A freeze (R286 to R295, R377): its triggers, its release, the pauses of the neighbours, and the read-out of frozen state. -/

namespace Sys2Proof.Machine

section
variable {s : State}

/-! ### Triggers (R286, R289, R377) -/

/-- The instant of object 0x2800.03 is reached: it is cleared, and the trigger that it spreads is taken. -/
def State.freezeTimeReached (s : State) : State :=
  { (s.disarm .timedFreeze).putN (key 0x2800 3) 0 with frz := { s.frz with spread := none } }

theorem execTimedFreeze_spread {r : Rank} (hdue : s.expired .timedFreeze = true) (hspread : s.frz.spread = some r) :
    exec .timedFreeze s = .next (s.begin.freezeTimeReached.freezeTrigger 5 0 0 r).settleAll := by
  show execTimedFreeze s = _
  simp only [execTimedFreeze, expired_begin, hdue, State.begin_frz, hspread, Bool.not_true, Bool.false_eq_true, if_false]
  rfl

theorem execTimedFreeze_own (hdue : s.expired .timedFreeze = true) (hspread : s.frz.spread = none) :
    exec .timedFreeze s = .next (s.begin.freezeTimeReached.freezeTrigger 2 0 0 ones32).settleAll := by
  show execTimedFreeze s = _
  simp only [execTimedFreeze, expired_begin, hdue, State.begin_frz, hspread, Bool.not_true, Bool.false_eq_true, if_false]
  rfl

theorem get_freezeTimeReached : s.freezeTimeReached.get (key 0x2800 3) = 0 := get_putN_same _ _ 0

theorem armed_freezeTimeReached : s.freezeTimeReached.armed .timedFreeze = false := armed_disarm s .timedFreeze

theorem keepsBut_freezeTimeReached : s.begin.KeepsBut s.begin.freezeTimeReached [key 0x2800 3] :=
  keepsBut_putN (s.begin.disarm .timedFreeze) (key 0x2800 3) 0

/-- A low of 20 ns that Phory does not drive, and that is not the end of one that it drove. -/
theorem execFreezePinLow_seen {n : Nat} (halive : s.alive = true) (hserves : (s.get (key 0x2800 9)).getLsbD 0 = true)
    (hlong : 20 ≤ n) (hfree : s.frz.driving = false) (hover : s.frz.driveEnd.toNat ≤ s.t) :
    exec (.freezePinLow n) s = .next (s.begin.freezeTrigger 3 0 0 ones32).settleAll := by
  have halive' : s.begin.alive = true := halive
  have hover' : ¬ s.begin.t < s.frz.driveEnd.toNat := Nat.not_lt.mpr hover
  exact if_neg (by simp [halive', hserves, hlong, hfree, hover'])

/-! ### Release (R292, R293) -/

theorem orderRelease_free (hon : s.frz.on = true) (hpin : s.frz.byPin = false) :
    orderRelease s = (s.releaseFreeze, .done) := by
  simp [orderRelease, State.pinHolds, hon, hpin]

/-- The instant of object 0x2800.04 is reached. -/
def State.releaseTimeReached (s : State) : State := (s.disarm .timedRelease).putN (key 0x2800 4) 0

theorem execTimedRelease_due (hdue : s.expired .timedRelease = true) (hon : s.frz.on = true) (hpin : s.frz.byPin = false) :
    exec .timedRelease s = .next (((s.begin.disarm .timedRelease).putN (key 0x2800 4) 0).releaseFreeze).settleAll := by
  have hon' : s.begin.releaseTimeReached.frz.on = true := hon
  have hpin' : s.begin.releaseTimeReached.frz.byPin = false := hpin
  have hrelease := orderRelease_free hon' hpin'
  unfold State.releaseTimeReached at hrelease
  show execTimedRelease s = _
  simp only [execTimedRelease, expired_begin, hdue, hrelease, Bool.not_true, Bool.false_eq_true, if_false]

/-- No domain that did not report is waited for any more. -/
def State.endsReleaseWait (s : State) : State :=
  State.putN { s with frz := { s.frz with releasing := [] } } (key 0x2800 0xB) 0

@[simp] theorem frz_expire (s : State) (c : Instr) : (s.expire c).frz = s.frz :=
  State.expire_keeps (frz_closed s.frz rfl) rfl

theorem execFreezeReleaseTimeout_due (hdue : s.expired .freezeReleaseTimeout = true) (hleft : s.frz.releasing ≠ []) :
    exec .freezeReleaseTimeout s =
      .next ((s.begin.expire .freezeReleaseTimeout).endsReleaseWait.raise 0xA2 0 []).settleAll := by
  have hwait : ¬ (s.begin.expire .freezeReleaseTimeout).frz.releasing.isEmpty = true := by
    rw [frz_expire]
    simpa using hleft
  exact (if_neg (by simp [hdue])).trans (if_neg hwait)

theorem frz_endsReleaseWait : s.endsReleaseWait.frz = { s.frz with releasing := [] } := rfl

theorem keepsBut_endsReleaseWait : s.KeepsBut s.endsReleaseWait [key 0x2800 0xB] :=
  keepsBut_putN { s with frz := { s.frz with releasing := [] } } (key 0x2800 0xB) 0

/-- The domains that did not report are dropped once the timeout has won. -/
theorem endsReleaseWait_expire_frame (hdue : s.expired .freezeReleaseTimeout = true) :
    (s.begin.expire .freezeReleaseTimeout).endsReleaseWait = { s with
      out := [], dict := (s.begin.expire .freezeReleaseTimeout).endsReleaseWait.dict
      timers := (s.begin.expire .freezeReleaseTimeout).endsReleaseWait.timers
      frz := (s.begin.expire .freezeReleaseTimeout).endsReleaseWait.frz
      err := (s.begin.expire .freezeReleaseTimeout).endsReleaseWait.err } := by
  rw [(expire_frame (s := s.begin) hdue).1]
  rfl

/-! ### Pauses (R290) -/

theorem execPauseIndicationPeriod_frozen (hdue : s.expired .pauseIndicationPeriod = true) (hon : s.frz.on = true)
    (hchip : s.frz.chip = true) :
    exec .pauseIndicationPeriod s =
      .next ((s.begin.sendAll ((allPorts.filter s.admitted).map .pause)).arm .pauseIndicationPeriod (us 10)) :=
  (if_neg (by simp [hdue])).trans (if_neg (by simp [hon, hchip]))

/-- The port's pause goes on from now; the first of its indications starts its limit. -/
def State.hearsPause (s : State) (p : PortNo) : State :=
  let s := if s.paused p then s else s.arm (.pauseLimitTimeout p []) (ms (s.nat (key 0x2800 0xA)))
  { s with frz := { s.frz with pauses := s.frz.pauses.filter (fun (x : PortNo × Word) => x.1 ≠ p) ++ [(p, s.now)] } }

theorem execPauseIndicationReceived_alive (p : PortNo) (h : s.alive = true) :
    exec (.pauseIndicationReceived p) s = .next (s.begin.hearsPause p) := by
  have h' : s.begin.alive = true := h
  exact if_neg (by simp [h'])

theorem hearsPause_frame (p : PortNo) : s.hearsPause p = { s with
    timers := (s.hearsPause p).timers
    frz := { s.frz with pauses := s.frz.pauses.filter (fun (x : PortNo × Word) => x.1 ≠ p) ++ [(p, s.now)] } } := by
  unfold State.hearsPause
  split <;> rfl

theorem armed_hearsPause {p : PortNo} (h : s.paused p = false) : (s.hearsPause p).armed (.pauseLimitTimeout p []) = true := by
  unfold State.hearsPause
  rw [if_neg (by simp [h])]
  exact armed_arm s (.pauseLimitTimeout p []) _

/-- The port's pause is over. -/
def State.forgetsPause (s : State) (p : PortNo) : State :=
  { s.disarm (.pauseLimitTimeout p []) with
    frz := { s.frz with pauses := s.frz.pauses.filter (fun (x : PortNo × Word) => x.1 ≠ p) } }

theorem execPauseLimitTimeout_paused {p : PortNo} (l : List (Dom × Nat)) (hdue : s.expired (.pauseLimitTimeout p []) = true)
    (hpaused : s.paused p = true) :
    exec (.pauseLimitTimeout p l) s = .next ((s.begin.forgetsPause p).portFails p l).settleAll := by
  have hpaused' : s.begin.paused p = true := hpaused
  refine (if_neg (by simp [hdue])).trans ?_
  rw [hpaused']
  rfl

/-! ### Read-out (R294, R295) -/

theorem execFreezeDumpDone_open {n : Nat} {x : Dump} (hdump : s.frz.dump = some n)
    (hfind : s.rcv.dumps.find? (fun (y : Dump) => y.num == n) = some x) :
    exec .freezeDumpDone s = .next (State.settleAll (if (s.begin.writeDump x none 0 []).nat (key 0x2A00 6) = n
      then State.setFreezeRecord { s.begin.writeDump x none 0 [] with
        frz := { (s.begin.writeDump x none 0 []).frz with dump := none } } (flagFreeze 2)
      else { s.begin.writeDump x none 0 [] with frz := { (s.begin.writeDump x none 0 []).frz with dump := none } })) := by
  show execFreezeDumpDone s = _
  simp only [execFreezeDumpDone, State.begin_frz, State.begin_rcv, hdump, hfind, beq_iff_eq]

/-- The read-out is noted in the freeze record, and the core's image can be read. -/
def State.readsScan (s : State) (c : PCore) (b : Bytes) : State := s.noteReadOut.setContent (coreKey c 0xC7) (Machine.slice b 0 89600)

theorem readsScan_frame (s : State) (c : PCore) (b : Bytes) :
    s.readsScan c b = { s with cont := (s.readsScan c b).cont, frz := (s.readsScan c b).frz } := rfl

theorem readOut_readsScan (s : State) (c : PCore) (b : Bytes) : (s.readsScan c b).frz.readOut = true := rfl

theorem content_readsScan (s : State) (c : PCore) (b : Bytes) :
    (s.readsScan c b).content (coreKey c 0xC7) = Machine.slice b 0 89600 := content_setContent_same _ _ _

theorem execCoreScanRead_frozen {path : Path} {c : PCore} (b : Bytes) (hpath : s.pathServed path = true)
    (hmay : (s.counted path).mayReadOut = true) (hcore : c ∈ (s.counted path).frz.cores)
    (hduty : (s.counted path).dutyRuns 0 = true) (hrom : (s.counted path).romService = false) :
    exec (.coreScanRead path c b) s = .next ((s.counted path).readsScan c b) := by
  have hpath' : s.begin.pathServed path = true := hpath
  unfold State.counted at hmay hcore hduty hrom ⊢
  exact (if_neg (by simp [hpath'])).trans (if_pos (by simp [hmay, hcore, hduty, hrom]))

end

/-- Settles O55: each guard is met, and what the freeze itself then does stands in the statement by name. -/
theorem freezeCommandsAct : Obligations.FreezeCommandsAct := by
  unfold Obligations.FreezeCommandsAct
  refine ⟨?now, ?timed, ?pin, ?release, ?timedRelease, ?noEdge, ?period, ?received, ?limit, ?dump, ?scan⟩
  case now => exact fun s path htakes => next_granted_takes htakes rfl
  case timed =>
    intro s hdue
    refine ⟨s.begin.freezeTimeReached, ?exec, get_freezeTimeReached, rfl, armed_freezeTimeReached, rfl,
      keepsBut_freezeTimeReached⟩
    cases hspread : s.frz.spread with
    | none => exact execTimedFreeze_own hdue hspread
    | some r => exact execTimedFreeze_spread hdue hspread
  case pin => exact fun s n halive hserves hlong hfree hover => execFreezePinLow_seen halive hserves hlong hfree hover
  case release => exact fun s path htakes hon hpin => next_granted_takes htakes (orderRelease_free hon hpin)
  case timedRelease => exact fun s hdue hon hpin => execTimedRelease_due hdue hon hpin
  case noEdge =>
    intro s hdue hleft
    refine ⟨_, execFreezeReleaseTimeout_due hdue hleft, ?waits, get_putN_same _ _ 0, ?timer, endsReleaseWait_expire_frame hdue,
      ?others⟩
    case waits => rw [frz_endsReleaseWait, frz_expire, State.begin_frz]
    case timer => exact (expire_frame (s := s.begin) hdue).2
    case others => exact fun k hk => (keepsBut_endsReleaseWait k hk).trans (get_expire s.begin .freezeReleaseTimeout k)
  case period =>
    exact fun s hdue hon hchip => ⟨_, execPauseIndicationPeriod_frozen hdue hon hchip, rfl, armed_arm _ _ _, rfl⟩
  case received =>
    intro s p halive
    refine ⟨_, execPauseIndicationReceived_alive p halive, ?heard, ?starts, ?frame⟩
    case heard =>
      rw [hearsPause_frame]
      exact List.mem_append_right _ (List.mem_singleton.mpr rfl)
    case starts => exact fun hfirst => armed_hearsPause (s := s.begin) hfirst
    case frame =>
      rw [hearsPause_frame]
      rfl
  case limit =>
    intro s p l hdue hpaused
    refine ⟨s.begin.forgetsPause p, execPauseLimitTimeout_paused l hdue hpaused, ?rest, rfl⟩
    intro x hx
    simpa using (List.mem_filter.mp hx).2
  case dump => exact fun s n x hdump hfind => ⟨_, rfl, execFreezeDumpDone_open hdump hfind⟩
  case scan =>
    rintro s x path c b rfl hpath hmay hcore hduty hrom
    exact ⟨_, execCoreScanRead_frozen b hpath hmay hcore hduty hrom, content_readsScan _ c b, readOut_readsScan _ c b,
      readsScan_frame _ c b⟩

end Sys2Proof.Machine
end

section
/-! Event rings, engine counters and the synchronisation trace (R296 to R302). -/

namespace Sys2Proof.Machine

/-! ### Counters (R301, R302) -/

section
variable (s : State)

theorem countersOf_setCounters_same (i : Nat) (x : Counters) : (s.setCounters i x).countersOf i = x :=
  tabGet_tabPut_same _ _ _ _

theorem countersOf_setCounters_ne {i j : Nat} (x : Counters) (h : j ≠ i) :
    (s.setCounters i x).countersOf j = s.countersOf j :=
  tabGet_tabPut_ne _ _ _ x h

theorem setCounters_frame (i : Nat) (x : Counters) : s.setCounters i x = { s with obs := (s.setCounters i x).obs } := rfl

end

/-! ### The synchronisation trace (R298, R299) -/

/-- A wait that its domain's trace covers is queued; the begin of a run of drops is raised. -/
theorem execSyncWaitEnd_traced {s : State} {d : Dom} {w : SyncWait} (hdom : (s.valFor d (key 0x2701 1)).getLsbD d.val = true)
    (hlong : s.natFor d (key 0x2701 6) ≤ w.cycles) (hon : s.nat (key 0x2701 8) = 1) (hactive : (s.dom d).active = true) :
    exec (.syncWaitEnd d w) s = .next (State.settleAll
      (if ((s.begin.disturb d 8).traceQueue (traceRecord s.now d w)).2
        then ((s.begin.disturb d 8).traceQueue (traceRecord s.now d w)).1.raise 0xA0 0 []
        else ((s.begin.disturb d 8).traceQueue (traceRecord s.now d w)).1)) := by
  have hdom' : (s.begin.valFor d (key 0x2701 1)).getLsbD d.val = true := hdom
  have hlong' : ¬ w.cycles < s.begin.natFor d (key 0x2701 6) := Nat.not_lt.mpr hlong
  have hon' : s.begin.nat (key 0x2701 8) = 1 := hon
  have hactive' : (s.begin.dom d).active = true := hactive
  exact if_neg (by simp [hdom', hlong', hon', hactive'])

/-- Settles O56: each order is taken, and its body is one update; a traced wait passes the tests of the trace. -/
theorem traceCommandsAct : Obligations.TraceCommandsAct := by
  unfold Obligations.TraceCommandsAct
  refine ⟨?restart, ?marker, ?clear, ?clearAll, ?wait⟩
  case restart =>
    rintro s x path c rfl htakes
    exact next_granted_unsettled htakes rfl
  case marker =>
    rintro s x path c v rfl htakes
    exact next_granted_unsettled htakes rfl
  case clear =>
    rintro s x path c e rfl htakes
    exact ⟨_, next_granted_unsettled htakes rfl, countersOf_setCounters_same _ _ _,
      fun i hi => countersOf_setCounters_ne _ _ hi, setCounters_frame _ _ _⟩
  case clearAll =>
    rintro s x path rfl htakes
    exact ⟨_, next_granted_unsettled htakes rfl, fun i => rfl, rfl⟩
  case wait =>
    exact fun s d w hdom hlong hon hactive => ⟨_, _, rfl, execSyncWaitEnd_traced hdom hlong hon hactive⟩

end Sys2Proof.Machine
end

section
/-! Breakpoints (R306 to R308). -/

namespace Sys2Proof.Machine

section
variable {s : State}

/-! ### A match (R307) -/

section
variable {pc : PcNo} {event : Byte} {f : BitVec 16} {n : Nat}

theorem matchBp_first (d : Option Dom) (hcarries : s.bpCarries pc event.toNat = true)
    (harmed : s.bpArmed event.toNat f.toNat = some n) (hnone : s.obs.bp = none) :
    s.matchBp pc event f d = s.beginBp pc n event f d := by
  simp [State.matchBp, hcarries, harmed, hnone]

theorem matchBp_later {b : Bp} (d : Option Dom) (hcarries : s.bpCarries pc event.toNat = true)
    (harmed : s.bpArmed event.toNat f.toNat = some n) (hsome : s.obs.bp = some b) :
    s.matchBp pc event f d = { s with obs := { s.obs with bpWaiting := s.obs.bpWaiting ++ [(pc, event, f, d)] } } := by
  simp [State.matchBp, hcarries, harmed, hsome]

end

/-! ### The halt (R307) -/

@[simp] theorem obs_expire (s : State) (c : Instr) : (s.expire c).obs = s.obs :=
  State.expire_keeps (obs_closed s.obs rfl) rfl

@[simp] theorem obs_arrives (s : State) (c : Instr) (cls : Nat) : (s.arrives c cls).obs = s.obs :=
  State.arrives_keeps (obs_closed s.obs rfl) rfl

theorem execBreakpointDrained_open {b : Bp} (hbp : s.obs.bp = some b) (hopen : b.halted = false) :
    exec .breakpointDrained s = .next (State.settleAll (State.haltPc
      (((s.begin.arrives .breakpointDrainTimeout 2).activeDoms.flatMap (s.begin.arrives .breakpointDrainTimeout 2).physCores).foldl
        (fun (u : State) (c : PCore) => u.upProbe c (fun p => { p with drained := p.drained || p.drain }))
        (s.begin.arrives .breakpointDrainTimeout 2)) b)) := by
  show execBreakpointDrained s = _
  simp only [execBreakpointDrained, State.begin_obs, hbp, hopen, Bool.false_eq_true, if_false]

theorem execBreakpointDrainTimeout_open {b : Bp} (hdue : s.expired .breakpointDrainTimeout = true) (hbp : s.obs.bp = some b)
    (hopen : b.halted = false) :
    exec .breakpointDrainTimeout s = .next (State.settleAll
      ((s.begin.expire .breakpointDrainTimeout).haltPc { b with notDrained := true })) := by
  show execBreakpointDrainTimeout s = _
  simp only [execBreakpointDrainTimeout, expired_begin, hdue, obs_expire, State.begin_obs, hbp, hopen, Bool.not_true,
    Bool.false_eq_true, if_false]

/-! ### The core goes on (R308) -/

theorem orderResume_halted {b : Bp} (hbp : s.obs.bp = some b) (hhalted : b.halted = true) :
    orderResume s = ((s.arrives .bpHaltTimeout 5).resumeBp b, .done) := by
  simp only [orderResume, hbp, hhalted, if_true]

/-- The hit record shows that the halt lasted too long, and its breakpoint is disarmed. -/
def State.disarmsBp (s : State) (b : Bp) : State :=
  (s.setContent (key 0x2750 0xA) (setBytes (s.content (key 0x2750 0xA)) 0x13
    (le 1 (fieldAt (s.content (key 0x2750 0xA)) 0x13 1 ||| 2)))).putN (key 0x2750 b.number) 0

theorem execBpHaltTimeout_due {b : Bp} (hdue : s.expired .bpHaltTimeout = true) (hbp : s.obs.bp = some b) :
    exec .bpHaltTimeout s = .next (((s.begin.expire .bpHaltTimeout).disarmsBp b).resumeBp b).settleAll := by
  show execBpHaltTimeout s = _
  simp only [execBpHaltTimeout, expired_begin, hdue, obs_expire, State.begin_obs, hbp, Bool.not_true, Bool.false_eq_true, if_false]
  rfl

theorem content_disarmsBp (s : State) (b : Bp) : (s.disarmsBp b).content (key 0x2750 0xA) =
    setBytes (s.content (key 0x2750 0xA)) 0x13 (le 1 (fieldAt (s.content (key 0x2750 0xA)) 0x13 1 ||| 2)) :=
  content_setContent_same _ _ _

theorem content_expire (s : State) (c : Instr) (k : Nat) : (s.expire c).content k = s.content k := by
  unfold State.expire
  split <;> rfl

theorem keepsBut_disarmsBp (s : State) (b : Bp) : s.KeepsBut (s.disarmsBp b) [key 0x2750 b.number] :=
  keepsBut_putN (s.setContent (key 0x2750 0xA) (setBytes (s.content (key 0x2750 0xA)) 0x13
    (le 1 (fieldAt (s.content (key 0x2750 0xA)) 0x13 1 ||| 2)))) (key 0x2750 b.number) 0

theorem disarmsBp_frame (s : State) (b : Bp) :
    s.disarmsBp b = { s with dict := (s.disarmsBp b).dict, cont := (s.disarmsBp b).cont } := rfl

/-- What the timeout's own end leaves, with the record and the breakpoint that its halt leaves. -/
theorem disarmsBp_expire_frame (b : Bp) (hdue : s.expired .bpHaltTimeout = true) :
    (s.begin.expire .bpHaltTimeout).disarmsBp b = { s with
      out := [], dict := ((s.begin.expire .bpHaltTimeout).disarmsBp b).dict
      cont := ((s.begin.expire .bpHaltTimeout).disarmsBp b).cont
      timers := ((s.begin.expire .bpHaltTimeout).disarmsBp b).timers
      err := ((s.begin.expire .bpHaltTimeout).disarmsBp b).err } := by
  rw [(expire_frame (s := s.begin) hdue).1]
  rfl

end

/-- Settles O57: a match asks whether another is under way, the halt whether its core halted before, and the end of a halt
finds the breakpoint that made it. -/
theorem breakpointCommandsAct : Obligations.BreakpointCommandsAct := by
  unfold Obligations.BreakpointCommandsAct
  refine ⟨?first, ?later, ?drained, ?timeout, ?resume, ?limit⟩
  case first =>
    intro s pc event f d n hcarries harmed hnone
    exact ⟨_, _, _, rfl, rfl, rfl,
      congrArg (fun t : State => Host.Outcome.next t.settleAll) (matchBp_first (s := s.begin) d hcarries harmed hnone)⟩
  case later =>
    exact fun s pc event f d n b hcarries harmed hsome =>
      congrArg (fun t : State => Host.Outcome.next t.settleAll) (matchBp_later (s := s.begin) d hcarries harmed hsome)
  case drained => exact fun s b hbp hopen => execBreakpointDrained_open hbp hopen
  case timeout => exact fun s b hdue hbp hopen => execBreakpointDrainTimeout_open hdue hbp hopen
  case resume =>
    rintro s x path b rfl htakes hbp hhalted
    exact next_granted_takes htakes (orderResume_halted hbp hhalted)
  case limit =>
    intro s b hdue hbp
    refine ⟨_, execBpHaltTimeout_due hdue hbp, get_putN_same _ _ 0, ?record, disarmsBp_expire_frame b hdue, ?others⟩
    case record =>
      rw [content_disarmsBp, content_expire]
      rfl
    case others => exact fun k hk => (keepsBut_disarmsBp _ b k hk).trans (get_expire s.begin .bpHaltTimeout k)

end Sys2Proof.Machine
end

section
/-! Reset orders (R315 to R322): what an order word names, and what each level begins. -/

namespace Sys2Proof.Machine

/-! ### The order word (R315) -/

section
variable {level mode domain unit : Nat}

/-- The fields of an order word do not overlap. -/
theorem toNat_orderWord (hlevel : level < 16) (hmode : mode < 16) (hdomain : domain < 8) (hunit : unit < 2 ^ 16) :
    (orderWord level mode domain unit).toNat = level * 2 ^ 28 + mode * 2 ^ 24 + domain * 2 ^ 16 + unit := by
  unfold orderWord
  rw [BitVec.toNat_ofNat]
  omega

theorem orderWord_fields (hlevel : level < 16) (hmode : mode < 16) (hdomain : domain < 8) (hunit : unit < 2 ^ 16) :
    bits (orderWord level mode domain unit).toNat 31 28 = level ∧ bits (orderWord level mode domain unit).toNat 27 24 = mode ∧
      bits (orderWord level mode domain unit).toNat 18 16 = domain ∧ bits (orderWord level mode domain unit).toNat 15 0 = unit := by
  rw [toNat_orderWord hlevel hmode hdomain hunit]
  unfold bits
  omega

end

section
variable {s : State} {path : Path}

theorem orderReset_level1 (d : Dom) {mode : Nat} (hmode : mode ≤ 2) :
    orderReset path (orderWord 1 mode d.val 0).toNat s = orderLevel1 path d mode s := by
  obtain ⟨hl, hm, hd, hu⟩ := orderWord_fields (level := 1) (mode := mode) (domain := d.val) (unit := 0) (by omega) (by omega)
    d.isLt (by omega)
  have hin : orderOutOfRange 1 mode 0 = false := by simp [orderOutOfRange, hmode]
  simp [orderReset, hl, hm, hd, hu, hin]

theorem orderReset_level2 (c : PCore) (e : EngineNo) {mode : Nat} (hmode : mode ≤ 2) :
    orderReset path (orderWord 2 mode 0 (7 * c.val + e.val)).toNat s = orderLevel2 path c e mode s := by
  have hc := c.isLt
  have he := e.isLt
  obtain ⟨hl, hm, -, hu⟩ := orderWord_fields (level := 2) (mode := mode) (domain := 0) (unit := 7 * c.val + e.val) (by omega)
    (by omega) (by omega) (by omega)
  have hin : orderOutOfRange 2 mode (7 * c.val + e.val) = false := by
    simp [orderOutOfRange, hmode]
    omega
  have hcore : (7 * c.val + e.val) / 7 = c.val := by omega
  have hengine : (7 * c.val + e.val) % 7 = e.val := by omega
  simp [orderReset, hl, hm, hu, hin, hcore, hengine]

theorem orderReset_level3 (n : StackNo) :
    orderReset path (orderWord 3 0 0 n.val).toNat s = orderLevel3 path n s := by
  have hn := n.isLt
  obtain ⟨hl, hm, -, hu⟩ := orderWord_fields (level := 3) (mode := 0) (domain := 0) (unit := n.val) (by omega) (by omega)
    (by omega) (by omega)
  have hin : orderOutOfRange 3 0 n.val = false := by
    simp [orderOutOfRange]
    omega
  simp [orderReset, hl, hm, hu, hin]

theorem orderReset_level45 {level : Nat} (h : level = 4 ∨ level = 5) :
    orderReset path (orderWord level 0 0 0).toNat s = orderLevel45 path level s := by
  obtain ⟨hl, hm, -, hu⟩ := orderWord_fields (level := level) (mode := 0) (domain := 0) (unit := 0) (by omega) (by omega)
    (by omega) (by omega)
  have hin : orderOutOfRange level 0 0 = false := by rcases h with rfl | rfl <;> rfl
  have h1 : level ≠ 1 := by omega
  have h2 : level ≠ 2 := by omega
  have h3 : level ≠ 3 := by omega
  simp [orderReset, hl, hm, hu, hin, h1, h2, h3]

/-! ### Levels 1 to 5 (R316 to R322) -/

theorem orderContext_rollback {d : Dom} (level unit : Nat) (engines : List (PCore × EngineNo)) (hruns : s.resetRuns d = false)
    (hspecial : s.special d = false) :
    orderContext path d 1 level unit engines s = (s.beginContext d 1 (originOf path) level unit engines, .done) := by
  simp [orderContext, hruns, hspecial]

theorem orderContext_end {d : Dom} (level unit : Nat) (engines : List (PCore × EngineNo)) (hruns : s.resetRuns d = false) :
    orderContext path d 2 level unit engines s =
      ((if (s.dom d).poison.isSome then s.putN (domKey 0x2301 1 d) 2 else s).beginContext d 2 (originOf path) level unit engines,
        .done) := by
  simp [orderContext, hruns]

theorem orderLevel1_active {d : Dom} {mode : Nat} (hactive : (s.dom d).active = true) (hmode : mode ≠ 0)
    (hhigher : s.higherRuns 1 = false) : orderLevel1 path d mode s = orderContext path d mode 1 0xFFFF [] s := by
  simp [orderLevel1, hactive, hmode, hhigher]

section
variable {c : PCore} {e : EngineNo}

theorem orderLevel2_idle {mode : Nat} (hcore : s.domOfCore c = none) (hhigher : s.higherRuns 2 = false)
    (hfirst : s.rcv.resets.filter (fun r => r.level == 2) = []) :
    orderLevel2 path c e mode s = (s.beginEngine c e mode (originOf path), .done) := by
  simp [orderLevel2, hcore, hhigher, hfirst]

theorem orderLevel2_active {mode : Nat} {d : Dom} (hcore : s.domOfCore c = some d) (hmode : mode ≠ 0)
    (hhigher : s.higherRuns 2 = false) (hfirst : s.rcv.resets.filter (fun r => r.level == 2) = []) :
    orderLevel2 path c e mode s = orderContext path d mode 2 (engineInstance c e) [(c, e)] s := by
  simp [orderLevel2, hcore, hmode, hhigher, hfirst]

end

theorem orderLevel3_serving {n : StackNo} (h2 : s.stackSt n ≠ 2) (h3 : s.stackSt n ≠ 3) (hhigher : s.higherRuns 3 = false) :
    orderLevel3 path n s = (s.beginPartition n (originOf path) none, .done) := by
  simp [orderLevel3, h2, h3, hhigher]

theorem orderLevel45_first {level : Nat} (hhigher : s.higherRuns level = false) (hnone : s.reset? .chip = none) :
    orderLevel45 path level s = (s.beginChip level (originOf path) none, .done) := by
  simp [orderLevel45, hhigher, hnone]

end

/-- The unit of an engine's order is the engine's number. -/
theorem toNat_engineUnit (c : PCore) (e : EngineNo) : (BitVec.ofNat 16 (7 * c.val + e.val)).toNat = 7 * c.val + e.val := by
  have hc := c.isLt
  have he := e.isLt
  rw [BitVec.toNat_ofNat]
  omega

theorem execEngineReset_order (path : Path) (mode : Fin 16) (c : PCore) (e : EngineNo) (s : State) :
    exec (.engineReset path mode (BitVec.ofNat 16 (7 * c.val + e.val))) s =
      .next (s.resetOrder path (orderWord 2 mode.val 0 (7 * c.val + e.val))) := by
  show Host.Outcome.next (s.resetOrder path (orderWord 2 mode.val 0 (BitVec.ofNat 16 (7 * c.val + e.val)).toNat)) = _
  rw [toNat_engineUnit]

theorem execPartitionReset_order (path : Path) (n : StackNo) (s : State) :
    exec (.partitionReset path (BitVec.ofNat 16 n.val)) s = .next (s.resetOrder path (orderWord 3 0 0 n.val)) := by
  have hn : (BitVec.ofNat 16 n.val).toNat = n.val := by
    rw [BitVec.toNat_ofNat]
    omega
  show Host.Outcome.next (s.resetOrder path (orderWord 3 0 0 (BitVec.ofNat 16 n.val).toNat)) = _
  rw [hn]

/-- An order that is taken ends with what its fields begin. -/
theorem resetOrder_takes {s t : State} {path : Path} {v : Word} {e : WEnd} (htakes : s.Takes path (key 0x2900 8) v false)
    (hbody : orderReset path v.toNat (s.taking path (key 0x2900 8)) = (t, e)) :
    (Host.Outcome.next (s.resetOrder path v) : Host.Outcome State Fault Refusal) = .next (t.taken path (key 0x2900 8) e) :=
  next_granted_takes htakes hbody

/-- Settles O58: the order word's fields choose the level, and each level's order finds nothing that turns it away. -/
theorem resetOrdersBegin : Obligations.ResetOrdersBegin := by
  unfold Obligations.ResetOrdersBegin
  refine ⟨?rollback, ?ends, ?engine, ?engineInDomain, ?partition, ?chip, ?cycle⟩
  case rollback =>
    rintro s x path d rfl hactive hhigher hruns hspecial htakes
    refine resetOrder_takes htakes ?_
    rw [orderReset_level1 d (by decide), orderLevel1_active hactive (by decide) hhigher,
      orderContext_rollback _ _ _ hruns hspecial]
  case ends =>
    rintro s x path d rfl hactive hhigher hruns htakes
    refine resetOrder_takes htakes ?_
    rw [orderReset_level1 d (by decide), orderLevel1_active hactive (by decide) hhigher, orderContext_end _ _ _ hruns]
  case engine =>
    rintro s x path c e mode rfl hcore hmode hhigher hfirst htakes
    rw [execEngineReset_order]
    refine resetOrder_takes htakes ?_
    rw [orderReset_level2 c e hmode, orderLevel2_idle hcore hhigher hfirst]
  case engineInDomain =>
    rintro s x path c e d rfl hcore hhigher hfirst hruns hspecial htakes
    rw [execEngineReset_order]
    refine resetOrder_takes htakes ?_
    show orderReset path (orderWord 2 1 0 (7 * c.val + e.val)).toNat _ = _
    rw [orderReset_level2 c e (by decide), orderLevel2_active hcore (by decide) hhigher hfirst,
      orderContext_rollback _ _ _ hruns hspecial]
  case partition =>
    rintro s x path n rfl h2 h3 hhigher htakes
    rw [execPartitionReset_order]
    refine resetOrder_takes htakes ?_
    rw [orderReset_level3 n, orderLevel3_serving h2 h3 hhigher]
  case chip =>
    rintro s x path rfl hhigher hnone htakes
    refine resetOrder_takes htakes ?_
    rw [orderReset_level45 (Or.inl rfl), orderLevel45_first hhigher hnone]
  case cycle =>
    rintro s x path rfl hhigher hnone htakes
    refine resetOrder_takes htakes ?_
    rw [orderReset_level45 (Or.inr rfl), orderLevel45_first hhigher hnone]

end Sys2Proof.Machine
end

section
/-! The progress of resets (R318 to R327). -/

namespace Sys2Proof.Machine

section
variable {s : State}

/-- Outside a freeze nothing stops a reset where it stands. -/
theorem resetFrozen_running (r : Reset) (h : s.frz.on = false) : s.resetFrozen r = false := by
  simp [State.resetFrozen, h]

/-! ### A context is drained (R318) -/

theorem execContextDrained_waiting {d : Dom} {r : Reset} (hreset : s.reset? (.context d) = some r) (hphase : r.phase = 0)
    (hlevel : r.atLevel = 1) (hrun : s.frz.on = false) :
    exec (.contextDrained d) s = .next (State.settleAll
      (((r.cores.foldl (fun (u : State) (c : PCore) => u.upProbe c (fun p => { p with drained := true })) s.begin).arrives
        (.resetTimeout r.id) 6).contextComplete r.id)) := by
  have hreset' : s.begin.reset? (.context d) = some r := hreset
  have hwaits : ¬ (r.phase ≠ 0 ∨ r.atLevel ≠ 1) := by simp [hphase, hlevel]
  show execContextDrained d s = _
  simp only [execContextDrained, hreset', hwaits, resetFrozen_running (s := s.begin) r hrun, Bool.false_eq_true, if_false]

/-! ### Engines, partitions and the chip (R320 to R322) -/

theorem execEngineResetDone_awaited {c : PCore} {e : EngineNo} {r : Reset}
    (hfind : s.rcv.resets.find? (fun r => decide ((c, e) ∈ r.engines)) = some r) (hrun : s.frz.on = false) :
    exec (.engineResetDone c e) s = .next (State.settleAll
      (if r.engines.filter (fun x => decide (x ≠ (c, e))) = []
       then State.enginesBack ((s.begin.engineBack c e).upReset r.id (fun _ =>
         { r with engines := r.engines.filter (fun x => decide (x ≠ (c, e))) })) { r with engines := [] }
       else (s.begin.engineBack c e).upReset r.id (fun _ =>
         { r with engines := r.engines.filter (fun x => decide (x ≠ (c, e))) }))) := by
  show execEngineResetDone c e s = _
  simp only [execEngineResetDone, State.begin_rcv, State.begin_frz, hfind, hrun, Bool.false_eq_true, false_and, if_false,
    List.isEmpty_iff]
  split
  · next hempty => rw [hempty]
  · rfl

theorem execPartitionResetDone_ready {n : StackNo} {r : Reset} (hreset : s.reset? (.partition n) = some r) (hphase : r.phase = 6)
    (hready : s.partitionReady r = true) (hrun : s.frz.on = false) :
    exec (.partitionResetDone n) s =
      .next ((s.begin.arrives (.resetTimeout r.id) 6).completePartition n r).settleAll := by
  have hreset' : s.begin.reset? (.partition n) = some r := hreset
  have hready' : s.begin.partitionReady r = true := hready
  show execPartitionResetDone n s = _
  simp only [execPartitionResetDone, hreset', hready', hphase, resetFrozen_running (s := s.begin) r hrun]
  rfl

/-- The chip's sequence is done: a warm recovery begins. -/
def State.beginsWarm (s : State) : State := (s.upReset .chip (fun x => { x with phase := 6 })).beginBringup 1

theorem execChipResetSequenceDone_asserted {r : Reset} (hreset : s.reset? .chip = some r) (hphase : r.phase = 5)
    (hlevel : r.atLevel = 4) : exec .chipResetSequenceDone s =
      .next (if s.begin.beginsWarm.pwrcyc then s.begin.beginsWarm.putN (key 0x2400 3) 2 else s.begin.beginsWarm).settleAll := by
  have hreset' : s.begin.reset? .chip = some r := hreset
  have hwaits : ¬ (r.phase ≠ 5 ∨ r.atLevel ≠ 4) := by simp [hphase, hlevel]
  show execChipResetSequenceDone s = _
  simp only [execChipResetSequenceDone, hreset', hwaits, if_false]
  rfl

/-! ### Timeouts (R323, R327) -/

@[simp] theorem rcv_expire (s : State) (c : Instr) : (s.expire c).rcv = s.rcv :=
  State.expire_keeps (rcv_closed s.rcv rfl) rfl

theorem execResetTimeout_due {i : ResetId} {r : Reset} (hdue : s.expired (.resetTimeout i) = true)
    (hreset : s.reset? i = some r) :
    exec (.resetTimeout i) s = .next ((s.begin.expire (.resetTimeout i)).resetHangs r).settleAll := by
  have hreset' : (s.begin.expire (.resetTimeout i)).reset? i = some r := by
    unfold State.reset?
    rw [rcv_expire]
    exact hreset
  show execResetTimeout i s = _
  simp only [execResetTimeout, expired_begin, hdue, hreset', Bool.not_true, Bool.false_eq_true, if_false]

/-- The context tag that a core's latch names. -/
def State.latchTag (s : State) (c : PCore) : Nat :=
  match s.domOfCore c with
  | some d => s.nat (domKey 0x2902 1 d)
  | none => 0xFFFF

/-- The core's latch is marked not captured. -/
def State.marksMissed (s : State) (c : PCore) : State :=
  (s.setContent (coreKey c 0xD1) (s.latchOf c (s.latchTag c) false)).putN (coreKey c 0xD2) 3

/-- The resets that the core takes part in count what it did not capture. -/
def State.countsMissed (s : State) (c : PCore) : State :=
  { s with rcv := { s.rcv with
    latching := s.rcv.latching.filter (fun x => decide (x ≠ c)),
    latchLate := s.rcv.latchLate.filter (fun x => decide (x ≠ c)) ++ [c],
    resets := s.rcv.resets.map (fun (r : Reset) => if c ∈ r.cores then { r with notCaptured := r.notCaptured + 1 } else r) } }

theorem execCaptureTimeout_due {c : PCore} (hdue : s.expired (.captureTimeout c) = true) :
    exec (.captureTimeout c) s = .next (((s.begin.expire (.captureTimeout c)).marksMissed c).countsMissed c) :=
  if_neg (by simp [hdue])

theorem keepsBut_marksMissed (s : State) (c : PCore) : s.KeepsBut ((s.marksMissed c).countsMissed c) [coreKey c 0xD2] :=
  keepsBut_putN (s.setContent (coreKey c 0xD1) (s.latchOf c (s.latchTag c) false)) (coreKey c 0xD2) 3

theorem get_marksMissed (s : State) (c : PCore) : ((s.marksMissed c).countsMissed c).get (coreKey c 0xD2) = 3 :=
  get_putN_same _ _ 3

theorem rcv_countsMissed (s : State) (c : PCore) : ((s.marksMissed c).countsMissed c).rcv = { s.rcv with
    latching := s.rcv.latching.filter (fun x => decide (x ≠ c)),
    latchLate := s.rcv.latchLate.filter (fun x => decide (x ≠ c)) ++ [c],
    resets := s.rcv.resets.map (fun r => if c ∈ r.cores then { r with notCaptured := r.notCaptured + 1 } else r) } := rfl

theorem missed_frame (s : State) (c : PCore) : (s.marksMissed c).countsMissed c = { s with
    dict := ((s.marksMissed c).countsMissed c).dict, cont := ((s.marksMissed c).countsMissed c).cont
    rcv := ((s.marksMissed c).countsMissed c).rcv } := by
  dsimp only [State.countsMissed, State.marksMissed, State.putN, State.put, State.setContent]

/-- A timeout that wins leaves all but its own grant and timer for what it starts to write. -/
theorem expire_with {x : Instr} (hdue : s.expired x = true) (dict : Tab Word) (cont : Tab Bytes) (rcv : RecSt) :
    { s.begin.expire x with dict := dict, cont := cont, rcv := rcv } = { s with
      out := [], dict := dict, cont := cont, timers := (s.begin.expire x).timers, rcv := rcv, err := (s.begin.expire x).err } := by
  rw [(expire_frame (s := s.begin) hdue).1]
  rfl

theorem missed_expire_frame {c : PCore} (hdue : s.expired (.captureTimeout c) = true) :
    ((s.begin.expire (.captureTimeout c)).marksMissed c).countsMissed c = { s with
      out := [], dict := (((s.begin.expire (.captureTimeout c)).marksMissed c).countsMissed c).dict
      cont := (((s.begin.expire (.captureTimeout c)).marksMissed c).countsMissed c).cont
      timers := (((s.begin.expire (.captureTimeout c)).marksMissed c).countsMissed c).timers
      rcv := (((s.begin.expire (.captureTimeout c)).marksMissed c).countsMissed c).rcv
      err := (((s.begin.expire (.captureTimeout c)).marksMissed c).countsMissed c).err } :=
  (missed_frame _ c).trans (expire_with hdue _ _ _)

end

/-- Settles O59: an answer finds the reset that waits for it, a timeout the reset or the core that did not answer. -/
theorem resetsProceed : Obligations.ResetsProceed := by
  unfold Obligations.ResetsProceed
  refine ⟨?context, ?engine, ?partition, ?chip, ?timeout, ?capture⟩
  case context => exact fun s d r hreset hphase hlevel hrun => execContextDrained_waiting hreset hphase hlevel hrun
  case engine => exact fun s c e r hfind hrun => ⟨_, rfl, execEngineResetDone_awaited hfind hrun⟩
  case partition => exact fun s n r hreset hphase hready hrun => execPartitionResetDone_ready hreset hphase hready hrun
  case chip => exact fun s r hreset hphase hlevel => ⟨s.begin.beginsWarm, rfl, execChipResetSequenceDone_asserted hreset hphase hlevel⟩
  case timeout => exact fun s i r hdue hreset => execResetTimeout_due hdue hreset
  case capture =>
    intro s c hdue
    refine ⟨_, execCaptureTimeout_due hdue, get_marksMissed _ c, ?latches, missed_expire_frame hdue, ?others⟩
    case latches => rw [rcv_countsMissed, rcv_expire, State.begin_rcv]
    case others => exact fun k hk => (keepsBut_marksMissed _ c k hk).trans (get_expire s.begin (.captureTimeout c) k)

end Sys2Proof.Machine
end

section
/-! Dumps (R322, R327, R339), late traffic (R313), and the patrol and the erasure of the Cellar (R342, R344). -/

namespace Sys2Proof.Machine

/-! ### What a write that is taken leaves -/

theorem get_taking_ne (s : State) (path : Path) (k : Nat) {j : Nat} (h : j ≠ key 0x1030 (7 + Path.num path)) :
    (s.taking path k).get j = s.get j :=
  get_bump_ne _ h

theorem lc_taking (s : State) (path : Path) (k : Nat) : (s.taking path k).lc = s.lc := by
  have hne : key 0x1100 1 ≠ key 0x1030 (7 + Path.num path) := by cases path <;> decide
  exact congrArg BitVec.toNat (get_taking_ne s path k hne)

@[simp] theorem cel_taking (s : State) (path : Path) (k : Nat) : (s.taking path k).cel = s.cel :=
  State.bump_keeps (cel_closed s.cel rfl) rfl

/-- A write that no check ends is allowed in the life-cycle state in force (R349). -/
theorem testBit_lc_of_writeCheck {s : State} {k : Nat} {v : Word} {content : Bool} {e : Entry} (he : entryOf k = some e)
    (h : s.writeCheck k v content = none) : e.lc.testBit s.lc = true := by
  by_contra hlc
  simp only [State.writeCheck, he] at h
  split_ifs at h
  next hallowed _ _ => exact hallowed (by simp [hlc])

/-! ### The erasure (R344) -/

section
variable {s : State} {path : Path}

/-- Object 0x2A00.0D is written in MANUFACTURE and RMA. -/
theorem lc_of_takes_erasure (htakes : s.Takes path (key 0x2A00 0xD) 1 false) : s.lc = 0 ∨ s.lc = 3 := by
  have hentry : (entryOf (key 0x2A00 0xD)).map (·.lc) = some 9 := rfl
  obtain ⟨e, he, hlc⟩ := Option.map_eq_some_iff.mp hentry
  have hbit := testBit_lc_of_writeCheck he htakes.2
  rw [hlc, lc_taking] at hbit
  have hbits : ∀ n < 4, Nat.testBit 9 n = true → n = 0 ∨ n = 3 := by decide
  have hlt : s.lc < 4 := by
    by_contra hge
    have : Nat.testBit 9 s.lc = false := Nat.testBit_lt_two_pow (lt_of_lt_of_le (by decide : 9 < 2 ^ 4)
      (Nat.pow_le_pow_right (by decide) (by omega)))
    simp [this] at hbit
  exact hbits _ hlt hbit

theorem execCellarErase_takes (htakes : s.Takes path (key 0x2A00 0xD) 1 false) :
    exec (.cellarErase path) s =
      .next ((eraseCellar (s.taking path (key 0x2A00 0xD))).1.endGrant path (key 0x2A00 0xD) .done) :=
  next_granted_unsettled htakes rfl

theorem cel_setCellar (s : State) (c : CellarSt) : (s.setCellar c).cel = c := rfl

theorem cel_endGrant (s : State) (path : Path) (k : Nat) (e : WEnd) : (s.endGrant path k e).cel = s.cel := by
  cases e <;> rfl

/-- A write that its path does not serve or that a check ends leaves the Cellar. -/
theorem cel_granted_refused (k : Nat) (v : Word) (content : Bool) (body : Body) (h : ¬ s.Takes path k v content) :
    (s.begin.granted path k v content body).cel = s.cel := by
  cases hserved : s.pathServed path with
  | false => rw [granted_unserved s path k v content body hserved, State.begin_cel]
  | true =>
    cases hcheck : (s.taking path k).writeCheck k v content with
    | none => exact absurd ⟨hserved, hcheck⟩ h
    | some e => rw [granted_refused s path k v content body e hserved hcheck, cel_endGrant, cel_taking]

end

/-- Settles O13: the erasure's entry is writable in the two states alone; what it writes is the Cellar's entries. -/
theorem cellarErasureKeepsConfiguration : Obligations.CellarErasureKeepsConfiguration := by
  unfold Obligations.CellarErasureKeepsConfiguration
  refine ⟨?taken, ?refused⟩
  case taken =>
    rintro s x path rfl htakes
    refine ⟨lc_of_takes_erasure htakes, _, execCellarErase_takes htakes, ?_⟩
    unfold eraseCellar
    rw [cel_setCellar, cel_taking]
    exact ⟨rfl, rfl, rfl, rfl⟩
  case refused =>
    intro s t path hmanufacture hrma hs
    rw [← Host.Outcome.next.inj hs]
    exact cel_granted_refused _ _ _ _ (fun htakes => (lc_of_takes_erasure htakes).elim hmanufacture hrma)

/-! ### Dumps (R322, R327, R339) -/

section
variable {s : State} {x : Dump}

/-- The oldest dump that no freeze holds is written; a reset that waits for it ends its budget. -/
theorem execDumpWritten_waiting (bad : List Nat) (hfind : s.rcv.dumps.find? (fun (y : Dump) => decide (y.origin ≠ 2)) = some x)
    (hduty : s.dutyRuns 0 = true) :
    exec (.dumpWritten bad) s = .next (State.settleAll
      ((State.writeDump (if (s.reset? .chip).any (fun r => r.phase == 4 && r.dump == some x.num)
        then s.begin.arrives .dumpBudgetTimeout 6 else s.begin) x none 0 bad).dumpEnds x.num)) := by
  have hreset : s.begin.reset? .chip = s.reset? .chip := rfl
  show execDumpWritten bad s = _
  simp only [execDumpWritten, State.begin_rcv, hfind, dutyRuns_begin, hduty, hreset, Bool.not_true, Bool.false_eq_true, if_false]
  cases s.reset? .chip <;> rfl

theorem execDumpBudgetTimeout_due {r : Reset} (hdue : s.expired .dumpBudgetTimeout = true) (hreset : s.reset? .chip = some r)
    (hfind : s.rcv.dumps.find? (fun (y : Dump) => some y.num == r.dump) = some x) :
    exec .dumpBudgetTimeout s = .next (State.settleAll
      ((((s.begin.expire .dumpBudgetTimeout).sectionsCut x).1.writeDump x
        (some ((s.begin.expire .dumpBudgetTimeout).sectionsCut x).2) 2 []).dumpEnds x.num)) := by
  have hreset' : (s.begin.expire .dumpBudgetTimeout).reset? .chip = some r := by
    unfold State.reset?
    rw [rcv_expire]
    exact hreset
  show execDumpBudgetTimeout s = _
  simp only [execDumpBudgetTimeout, expired_begin, hdue, hreset', rcv_expire, State.begin_rcv, hfind, Bool.not_true,
    Bool.false_eq_true, if_false]

end

/-! ### Late traffic (R313) -/

section
variable {s : State} {tag : BitVec 16} (hstale : s.tagCurrent tag = false)
include hstale

theorem stale_begin : ¬ s.begin.tagCurrent tag = true := by
  have h : s.begin.tagCurrent tag = s.tagCurrent tag := rfl
  simp [h, hstale]

theorem execLateWriteDropped_stale (c : PCore) (w : Option PCore) (r : Rank) (word : BitVec 25) :
    exec (.lateWriteDropped c w r tag word) s = .next (State.settleAll (State.raiseRecord
      (State.noteLate ((s.begin.bump (coreKey c 0xD3)).bump (key 0x2900 0x12)) tag (fun r => { r with lateWrites := r.lateWrites + 1 }))
      0xB1 c.val (lateRecord
        (State.noteLate ((s.begin.bump (coreKey c 0xD3)).bump (key 0x2900 0x12)) tag
          (fun r => { r with lateWrites := r.lateWrites + 1 })).now
        tag.toNat 1 0xFF c.val (match w with | some c => c.val | none => 0xFFFF) word.toNat (2 ^ 48 - 1) r)
      false (key 0x2900 0x14))) := by
  refine (if_neg (stale_begin hstale)).trans ?_
  cases w <;> rfl

theorem execLatePacketDiscarded_stale (p : PortNo) (r : Rank) (seq : BitVec 32) (n : Nat) :
    exec (.latePacketDiscarded p r tag seq n) s = .next (State.settleAll (State.raiseRecord
      (State.noteLate ((s.begin.bump (portKey p 0x60)).bump (key 0x2900 0x13)) tag (fun r => { r with latePackets := r.latePackets + 1 }))
      0xB2 p.val (lateRecord
        (State.noteLate ((s.begin.bump (portKey p 0x60)).bump (key 0x2900 0x13)) tag
          (fun r => { r with latePackets := r.latePackets + 1 })).now
        tag.toNat 2 p.val 0xFFFF 0xFFFF seq.toNat n r)
      false (key 0x2900 0x14))) :=
  if_neg (stale_begin hstale)

end

/-! ### The patrol (R342) -/

section
variable {s : State} (l : List Nat)

/-- The next interval of the patrol begins. -/
def State.armsPatrol (s : State) : State := s.arm (.cellarPatrol []) (hour (s.nat (key 0x2A00 0xE)))

theorem execCellarPatrol_stopped (hdue : s.expired (.cellarPatrol []) = true) (hduty : s.dutyRuns 0 = false) :
    exec (.cellarPatrol l) s = .next s.begin.armsPatrol := by
  have hduty' : s.begin.armsPatrol.dutyRuns 0 = false := hduty
  exact (if_neg (by simp [hdue])).trans (if_pos (by unfold State.armsPatrol at hduty'; simp [hduty']))

theorem execCellarPatrol_runs (hdue : s.expired (.cellarPatrol []) = true) (hduty : s.dutyRuns 0 = true) :
    exec (.cellarPatrol l) s = .next (State.settleAll (State.put
      ((s.begin.armsPatrol.cel.entries.filter (fun e => e.committed && !(damagedIn e l).isEmpty)).foldl
        (fun (v : State) (e : CellEntry) => v.patrolEntry e (damagedIn e l)) s.begin.armsPatrol) (key 0x2A00 0xB)
      ((s.begin.armsPatrol.cel.entries.filter (fun e => e.committed && !(damagedIn e l).isEmpty)).foldl
        (fun (v : State) (e : CellEntry) => v.patrolEntry e (damagedIn e l)) s.begin.armsPatrol).now)) := by
  have hduty' : s.begin.armsPatrol.dutyRuns 0 = true := hduty
  exact (if_neg (by simp [hdue])).trans (if_neg (by unfold State.armsPatrol at hduty'; simp [hduty']))

end

/-- Settles O60: each command finds the dump, the stale tag or the interval that its guard asks for. -/
theorem dumpsLateTrafficAndCellarAct : Obligations.DumpsLateTrafficAndCellarAct := by
  unfold Obligations.DumpsLateTrafficAndCellarAct
  refine ⟨⟨?written, ?budget, ?lateWrite, ?latePacket⟩, ?stopped, ?patrol, ?erase⟩
  case written => exact fun s bad x hfind hduty => ⟨_, rfl, execDumpWritten_waiting bad hfind hduty⟩
  case budget => exact fun s r x hdue hreset hfind => ⟨_, _, rfl, execDumpBudgetTimeout_due hdue hreset hfind⟩
  case lateWrite =>
    intro s c w r tag word hstale
    refine ⟨_, rfl, (execLateWriteDropped_stale hstale c w r word).trans ?_⟩
    cases w <;> rfl
  case latePacket => exact fun s p r tag seq n hstale => ⟨_, rfl, execLatePacketDiscarded_stale hstale p r seq n⟩
  case stopped => exact fun s l hdue hduty => execCellarPatrol_stopped l hdue hduty
  case patrol => exact fun s l hdue hduty => ⟨s.begin.armsPatrol, rfl, execCellarPatrol_runs l hdue hduty⟩
  case erase =>
    rintro s x path rfl htakes
    exact ⟨_, execCellarErase_takes htakes, rfl⟩

end Sys2Proof.Machine
end

section
/-! What a write leaves (R346 to R351): refusals, granted writes of class I entries, and bytes of a channel's data area. -/

namespace Sys2Proof.Machine

/-! ### The state that takes a write -/

section
variable (s : State) (path : Path) (k : Nat)

/-- The entry's arbiter takes the grant, and the access is counted on its path. -/
theorem taking_frame : s.taking path k = { s with
    out := [], dict := (s.taking path k).dict, err := { s.err with grants := (s.taking path k).err.grants } } := by
  obtain ⟨v, hv⟩ := bumpBy_put (s.begin.grant (writeArbiter k) s.now 0).2 (key 0x1030 (7 + Path.num path)) 1
  have hput : s.taking path k = (s.begin.grant (writeArbiter k) s.now 0).2.put (key 0x1030 (7 + Path.num path)) v := hv
  rw [hput]
  rfl

theorem status_taking (j : Nat) : (s.taking path k).status j = s.status j := by
  rw [taking_frame]
  rfl

theorem keepsBut_taking : s.KeepsBut (s.taking path k) [key 0x1030 (7 + Path.num path)] :=
  fun _ hj => get_taking_ne s path k (by simpa using hj)

end

/-! ### Refusals (R347 to R349, R351) -/

/-- The end of a write is its status word and nothing else. -/
theorem endGrant_frame (s : State) (path : Path) (k : Nat) (e : WEnd) :
    s.endGrant path k e = { s with stat := (s.endGrant path k e).stat } := by
  cases e <;> rfl

/-- Settles O14: without service nothing runs; a check that ends the write leaves its grant, its count and its status word. -/
theorem refusedWritesTouchTheirStatus : Obligations.RefusedWritesTouchTheirStatus := by
  unfold Obligations.RefusedWritesTouchTheirStatus
  refine ⟨fun s path k v content body => granted_unserved s path k v content body, ?refused⟩
  intro s t path k v content body e hserved hcheck hobject ht
  rw [granted_refused s path k v content body e hserved hcheck] at ht
  subst ht
  refine ⟨?status, ?others, ?frame, ?grants, ?values⟩
  case status => rw [status_endGrant_same _ path k e hobject, status_taking]
  case others =>
    intro j hj
    rw [status_endGrant_ne _ path e hj, status_taking]
  case frame => rw [endGrant_frame, taking_frame]
  case grants => rw [endGrant_frame, taking_frame]
  case values => exact fun j hj => (get_endGrant _ path k e j).trans (keepsBut_taking s path k j hj)

/-! ### Entries of class I (R363) -/

section
variable {x : State} {path : Path} {k : Nat} {v : Word} {e : Entry}

/-- The bits that a range ignores are gone once. -/
theorem keepBits_keepBits (r : Rng) (v : Word) : r.keepBits (r.keepBits v) = r.keepBits v := by
  cases r with
  | mask m => exact (BitVec.and_assoc _ _ _).trans (congrArg (v &&& ·) BitVec.and_self)
  | _ => rfl

/-- With no rule that refuses it, the value is put at once, and what follows from it happens. -/
theorem plainWrite_immediate (drain : Bool) (hcls : e.cls = .i) (h3 : k ≠ key 0x2800 3) (h4 : k ≠ key 0x2800 4)
    (hrule : x.ruleOf k (e.rng.keepBits v).toNat = none) (hlost : x.lostApplies k (e.rng.keepBits v) = false) :
    plainWrite path drain e k v false x = ((x.put k (e.rng.keepBits v)).afterWrite k (e.rng.keepBits v), .done) := by
  simp only [plainWrite, h3, h4, hrule, hlost, State.writeValue, keepBits_keepBits, hcls, Bool.false_eq_true, if_false]

theorem chanBusy_noChannel (h : (chanOf k).isSome = false) : x.chanBusy path k = false := by
  simp [State.chanBusy, Option.isSome_eq_false_iff.mp h |> Option.isNone_iff_eq_none.mp]

theorem valueBody_immediate (eid : Byte) (rank : Rank) (drain : Bool) (he : entryOf k = some e) (hcls : e.cls = .i)
    (hown : ownBody path eid rank k v = none) (h3 : k ≠ key 0x2800 3) (h4 : k ≠ key 0x2800 4)
    (hrule : x.ruleOf k (e.rng.keepBits v).toNat = none) (hlost : x.lostApplies k (e.rng.keepBits v) = false) :
    valueBody path eid rank drain k v x = ((x.put k (e.rng.keepBits v)).afterWrite k (e.rng.keepBits v), .done) := by
  simp only [valueBody, hown, he]
  exact plainWrite_immediate drain hcls h3 h4 hrule hlost

/-- A write of such an entry that is taken completes. -/
theorem writeAccess_immediate {s : State} (eid : Byte) (rank : Rank) (drain : Bool) (htakes : s.Takes path k v false)
    (he : entryOf k = some e) (hcls : e.cls = .i) (hown : ownBody path eid rank k v = none)
    (hchan : (chanOf k).isSome = false) (h3 : k ≠ key 0x2800 3) (h4 : k ≠ key 0x2800 4)
    (hrule : (s.taking path k).ruleOf k (e.rng.keepBits v).toNat = none)
    (hlost : (s.taking path k).lostApplies k (e.rng.keepBits v) = false) :
    s.begin.writeAccess path eid rank drain k v =
      (((s.taking path k).put k (e.rng.keepBits v)).afterWrite k (e.rng.keepBits v)).endGrant path k .done := by
  unfold State.writeAccess
  rw [granted_takes s path k v false _ htakes, chanBusy_noChannel hchan, if_neg Bool.false_ne_true,
    valueBody_immediate eid rank drain he hcls hown h3 h4 hrule hlost]

end

/-! ### A channel's data area on the window (R359) -/

section
variable {s : State} {c : ChanNo}

theorem area_setArea_same (s : State) (c : ChanNo) (off : Nat) (b : Bytes) :
    (s.setArea c off b).area c = (s.area c).take off ++ b ++ (s.area c).drop (off + b.length) :=
  tabGet_tabPut_same _ _ _ _

theorem setArea_frame (s : State) (c : ChanNo) (off : Nat) (b : Bytes) :
    s.setArea c off b = { s with data := (s.setArea c off b).data } := rfl

theorem windowData_fits {k off : Nat} {b : Bytes} (hchan : chanOf k = some c) (hserved : s.pathServed .window = true)
    (hduty : s.dutyRuns 0 = true) (hfree : s.chanBusy .window k = false) (harea : 0x40 ≤ k % 256) (hoff : off % 4 = 0)
    (hlen : b.length % 4 = 0) (hmin : 4 ≤ b.length) (hmax : b.length ≤ 256)
    (hend : 16 * (k % 256 - 0x40) + off + b.length ≤ 3072) :
    s.windowData k off b = (s.countAccess .window).setArea c (16 * (k % 256 - 0x40) + off) b := by
  have hfits : ¬ (k % 256 < 0x40 ∨ (16 * (k % 256 - 0x40) + off) % 4 ≠ 0 ∨ b.length % 4 ≠ 0 ∨ b.length < 4 ∨ 256 < b.length ∨
      3072 < 16 * (k % 256 - 0x40) + off + b.length) := by omega
  simp only [State.windowData, hchan, hserved, hduty, hfree, Bool.not_true, Bool.or_self, Bool.false_eq_true, if_false]
  exact if_neg hfits

end

theorem key_mod (i : Nat) (j : Byte) : key i j.toNat % 256 = j.toNat := by
  unfold key
  omega

/-- Settles O16: a granted write of class I puts its value; bytes that fit the area of a channel on the window are put there. -/
theorem writesSetTheirEntry : Obligations.WritesSetTheirEntry := by
  unfold Obligations.WritesSetTheirEntry
  refine ⟨?value, ?area⟩
  case value =>
    rintro s x path index sub v k e rfl rfl htakes he hcls hown hchan h3 h4 hrule hlost
    refine ⟨_, ?_, get_put_same _ _ _, rfl, keepsBut_put _ _ _⟩
    have hnone := Option.isNone_iff_eq_none.mp (Option.isSome_eq_false_iff.mp hchan)
    show execRegisterWrite path index sub (.value v) s = _
    rw [execRegisterWrite_value v s hnone, writeAccess_immediate 0xFF 0 _ htakes he hcls hown hchan h3 h4 hrule hlost]
    rfl
  case area =>
    rintro s x index sub off b c rfl hchan hserved hduty hfree harea hoff hlen hmin hmax hend
    rw [← key_mod index.toNat sub] at harea hend
    rw [← key_mod index.toNat sub]
    exact ⟨_, congrArg (fun t : State => Host.Outcome.next t.settleAll)
      (windowData_fits (s := s.begin) hchan hserved hduty hfree harea hoff hlen hmin hmax hend), setArea_frame _ _ _ _,
      area_setArea_same _ _ _ _⟩

end Sys2Proof.Machine
end

section
/-! Malformed accesses and messages (R353, R356, R371). -/

namespace Sys2Proof.Machine

section
variable {s : State}

@[simp] theorem pathServed_begin (s : State) (path : Path) : s.begin.pathServed path = s.pathServed path := rfl

@[simp] theorem adpServed_begin (s : State) (path : Path) : s.begin.adpServed path = s.adpServed path := rfl

theorem execWindowMalformedAccess_malformed {o : BitVec 28} {n : Nat} {w : Bool} (hserved : s.pathServed .window = true)
    (hfits : windowFits o.toNat n w = false) :
    exec (.windowMalformedAccess o n w) s = .next (State.settleAll (State.frameError
      { s with out := if w then [] else [.windowRead (List.replicate n 0xFF)] }
      .window 5 (o.toNat / 4096) (o.toNat % 4096 / 16) 0xFF 0xFFFF)) := by
  show execWindowMalformedAccess o n w s = _
  simp only [execWindowMalformedAccess, pathServed_begin, hserved, hfits, Bool.not_true, Bool.false_eq_true, if_false]
  cases w <;> rfl

section
variable {path : Path} {eid : Byte} {raw : Bytes} (hserved : s.adpServed path = true)
include hserved

/-- A message that was not put together is discarded and told. -/
theorem execAdpMalformedMessage_pieces (hpath : path ≠ .steward) :
    exec (.adpMalformedMessage path eid false raw) s =
      .next (s.begin.frameError path 4 0xFFFF 0 eid 0xFFFF).settleAll := by
  show execAdpMalformedMessage path eid false raw s = _
  simp only [execAdpMalformedMessage, adpServed_begin, hserved, hpath, Bool.not_true, Bool.not_false, Bool.false_eq_true,
    if_false, if_true]

/-- Nothing that a message with a bad length or CRC says is known. -/
theorem execAdpMalformedMessage_unread {kind : Nat} (hpath : path ≠ .steward) (hfault : messageFault raw = some kind)
    (hkind : kind ≠ 2) :
    exec (.adpMalformedMessage path eid true raw) s =
      .next (s.begin.frameError path kind 0xFFFF 0 eid 0xFFFF).settleAll := by
  show execAdpMalformedMessage path eid true raw s = _
  simp only [execAdpMalformedMessage, adpServed_begin, hserved, hpath, hfault, Bool.not_true, Bool.false_eq_true, if_false]

theorem execAdpMalformedMessage_unknown (hfault : messageFault raw = none) (hop : fieldAt raw 1 1 ∉ adpOpcodes) :
    exec (.adpMalformedMessage path eid true raw) s = .next (State.settleAll (s.begin.sendAdp path 0 eid 0
      (adpMessage (fieldAt raw 1 1) (BitVec.ofNat 16 (fieldAt raw 2 2)) (fieldAt raw 4 2) (fieldAt raw 6 1) 2 0x10 5 0 []))) := by
  show execAdpMalformedMessage path eid true raw s = _
  simp only [execAdpMalformedMessage, adpServed_begin, hserved, hfault, hop, Bool.not_true, Bool.false_eq_true, if_false]
  rfl

end

end

theorem messageFault_short {raw : Bytes} (h : raw.length < 20) : messageFault raw = some 3 := if_pos h

theorem messageFault_crc {raw : Bytes} (hlen : 20 ≤ raw.length)
    (hcrc : fieldAt raw (raw.length - 4) 4 ≠ crc32c (raw.take (raw.length - 4))) : messageFault raw = some 1 :=
  (if_neg (Nat.not_lt.mpr hlen)).trans (if_pos hcrc)

/-- Settles O17: the fault of a message is the first that its checks find. -/
theorem malformedAccessesAreTold : Obligations.MalformedAccessesAreTold := by
  unfold Obligations.MalformedAccessesAreTold
  refine ⟨?window, ?pieces, ?short, ?crc, ?unknown⟩
  case window => exact fun s o n w hserved hfits => execWindowMalformedAccess_malformed hserved hfits
  case pieces => exact fun s path eid raw hserved hpath => execAdpMalformedMessage_pieces hserved hpath
  case short =>
    exact fun s path eid raw hserved hpath hshort =>
      execAdpMalformedMessage_unread hserved hpath (messageFault_short hshort) (by decide)
  case crc =>
    exact fun s path eid raw hserved hpath hlen hcrc =>
      execAdpMalformedMessage_unread hserved hpath (messageFault_crc hlen hcrc) (by decide)
  case unknown => exact fun s path eid raw hserved hfault hop => execAdpMalformedMessage_unknown hserved hfault hop

end Sys2Proof.Machine
end

section
/-! The answers to requests (R352 to R356, R368). -/

namespace Sys2Proof.Machine

section
variable {s : State} {h : AdpHead}

theorem execAdpStatus_takes (ht : s.TakesRequest h) (hentry : (entryOf (headKey h)).isSome = true)
    (hrom : (s.counted h.path).romService = false) :
    exec (.adpStatus h) s = .next (State.settleAll ((s.counted h.path).reply h 3 0 0 0
      (le 8 ((s.counted h.path).statusWord (headKey h) .completed).toNat))) := by
  show execAdpStatus h s = _
  unfold execAdpStatus
  rw [adpIn_takes s h _ ht]
  unfold State.counted at hrom ⊢
  simp only [hrom, hentry, Bool.false_and, Bool.false_eq_true, if_false, if_true]
  rfl

/-- A group that nothing refuses is answered with the status word that its items share. -/
theorem execAdpGroupWrite_accepted {t : State} {items : List GroupItem} (ht : s.TakesRequest h)
    (hrun : (s.counted h.path).runItems
      { path := h.path, eid := headEid h, rank := headRank h, drain := h.path == .steward || headFlag h 0, quiet := false }
      items = (t, none)) :
    exec (.adpGroupWrite h items) s = .next (t.replyWrite h 5 (items.map itemKey)).settleAll := by
  show execAdpGroupWrite h items s = _
  unfold execAdpGroupWrite
  rw [adpIn_takes s h _ ht]
  unfold State.counted at hrun
  simp only [hrun]

theorem execAdpWaitTimeout_due {path : Path} {msg : Fin 8} {tag : BitVec 16} {rank : Rank} {w : AdpWait}
    (hdue : s.expired (.adpWaitTimeout path msg tag rank) = true)
    (hfind : s.adp.find? (fun w => w.timeout == .adpWaitTimeout path msg tag rank) = some w) :
    exec (.adpWaitTimeout path msg tag rank) s = .next (s.begin.answerWait w) := by
  show execAdpWaitTimeout path msg tag rank s = _
  simp only [execAdpWaitTimeout, expired_begin, hdue, State.begin_adp, hfind, Bool.not_true, Bool.false_eq_true, if_false]

end

/-- Settles O18: a request that is taken runs its body, whose answer is what the entry, the write or the group left. -/
theorem requestsAreAnswered : Obligations.RequestsAreAnswered := by
  unfold Obligations.RequestsAreAnswered
  refine ⟨?read, ?status, ?write, ?group, ?waited⟩
  case read =>
    rintro s x h ht rfl
    exact execAdpRead_takes ht
  case status =>
    rintro s x h ht rfl hentry hrom
    exact execAdpStatus_takes ht hentry hrom
  case write =>
    rintro s x h v k e ht rfl rfl htakes he hcls hown hchan h3 h4 hrule hlost
    show execAdpWrite h v s = _
    rw [execAdpWrite_takes v ht,
      writeAccess_immediate (headEid h) (headRank h) _ htakes he hcls hown hchan h3 h4 hrule hlost]
  case group =>
    rintro s x t h items ht rfl hrun
    exact execAdpGroupWrite_accepted ht hrun
  case waited => exact fun s path msg tag rank w hdue hfind => execAdpWaitTimeout_due hdue hfind

end Sys2Proof.Machine
end

section
/-! Transfers (R358 to R362), on the protocol and on the window. -/

namespace Sys2Proof.Machine

/-! ### Opening (R358, R360) -/

section
variable {x : State} {h : AdpHead} {c : ChanNo}

theorem claim_free {up : Bool} (total : Nat) (hopen : x.openRefused (headKey h) up = none) (hfree : x.freeChannel = some c) :
    x.claim h up total = (x.openChan c h.path (headEid h) (headRank h) (headKey h) up total, c, .done) := by
  simp only [State.claim, hopen, hfree]

theorem openByWrite_free {path : Path} {v : Word} (eid : Byte) (rank : Rank) (hfree : x.chan c = none)
    (hdir : bits v.toNat 1 0 = 1 ∨ bits v.toNat 1 0 = 2)
    (hopen : x.openRefused (key (bits v.toNat 31 16) (bits v.toNat 15 8)) (bits v.toNat 1 0 == 1) = none) :
    openByWrite path eid rank c v x = (x.openChan c path eid rank (key (bits v.toNat 31 16) (bits v.toNat 15 8))
      (bits v.toNat 1 0 == 1) (x.nat (chanKey c 3)), .done) := by
  have hknown : ¬ (bits v.toNat 1 0 ≠ 1 ∧ bits v.toNat 1 0 ≠ 2) := by omega
  simp only [openByWrite, hfree, Option.isSome_none, Bool.false_eq_true, if_false, hknown, hopen]

end

/-! ### Segments (R358, R359) -/

section
variable {s : State} {c : ChanNo} {y : Chan}

/-- Content that was copied when the transfer was opened. -/
theorem fetchSegment_copied {off len : Nat} (hlive : y.live = false) (hoff : off < y.total) :
    s.fetchSegment y off len = ((y.snapshot.drop off).take len, .done) := by
  simp only [State.fetchSegment, Nat.not_le.mpr hoff, hlive, Bool.not_false, if_false, if_true]

theorem received_entry (hentry : y.entry ≠ imageKey) : s.received y = y.got.length := if_neg hentry

theorem storeSegment_next {off : Nat} {b : Bytes} (hentry : y.entry ≠ imageKey) (hoff : off = y.got.length)
    (hfits : off + b.length ≤ s.totalOf c y) :
    storeSegment c y off b s = (s.setChan c (some { y with total := s.totalOf c y, got := y.got ++ b }), .done) := by
  have horder : ¬ (off ≠ s.received y ∨ s.totalOf c y < off + b.length) := by
    rw [received_entry hentry]
    omega
  simp only [storeSegment, horder, hentry, if_false]

/-! ### The end of a download (R361) -/

theorem contentGrant_done {u t : State} {path : Path} {k : Nat} {b : Bytes} {e : Entry} (hentry : k ≠ imageKey)
    (he : entryOf k = some e) (hcheck : u.writeCheck k 0 true = none) (hwrite : contentWrite e k b u = (t, .done)) :
    u.contentGrant path k b = (t.endGrant path k .done, .done) := by
  simp only [State.contentGrant, hcheck, hentry, if_false, he, hwrite]

/-- A complete download acts as one write of its entry. -/
theorem endDownload_complete {u t : State} {path : Path} {e : Entry} (hup : y.upload = false) (hentry : y.entry ≠ imageKey)
    (hwhole : s.totalOf c y = y.got.length) (hu : u = s.freeChan c 0) (he : entryOf y.entry = some e)
    (hcheck : u.writeCheck y.entry 0 true = none) (hwrite : contentWrite e y.entry y.got u = (t, .done)) :
    s.endDownload path c y = (t.endGrant path y.entry .done, .done, true) := by
  subst hu
  have hreceived : ¬ s.totalOf c y ≠ s.received y := by simp [received_entry hentry, hwhole]
  simp only [State.endDownload, hup, Bool.false_eq_true, if_false, hreceived, contentGrant_done hentry he hcheck hwrite]

end

/-! ### Commands of a channel on the window (R359) -/

/-- A command finds the transfer that its own path opened. -/
theorem onTransfer_own {s : State} {path : Path} {c : ChanNo} {y : Chan} (body : Chan → State → State × WEnd)
    (hchan : s.chan c = some y) (hpath : y.path = path) : onTransfer path c body s = body y (s.segmentOp c) := by
  simp only [onTransfer, hchan, hpath, ne_eq, not_true_eq_false, if_false]

section
variable {s : State} {path : Path} {c : ChanNo} {y : Chan} (hchan : s.chan c = some y) (hpath : y.path = path)
include hchan hpath

theorem fetchCommand_copied (hup : y.upload = true) (hlive : y.live = false)
    (hoff : (s.segmentOp c).nat (chanKey c 4) < y.total) :
    fetchCommand path c s = ((s.segmentOp c).setArea c 0 ((y.snapshot.drop ((s.segmentOp c).nat (chanKey c 4))).take
      ((s.segmentOp c).nat (chanKey c 6))), .done) := by
  unfold fetchCommand
  rw [onTransfer_own _ hchan hpath]
  simp only [hup, Bool.not_true, Bool.false_eq_true, if_false, fetchSegment_copied hlive hoff, if_true]

theorem storeCommand_next (hup : y.upload = false) (hentry : y.entry ≠ imageKey)
    (hoff : (s.segmentOp c).nat (chanKey c 4) = y.got.length)
    (hfits : (s.segmentOp c).nat (chanKey c 4) +
      (((s.segmentOp c).area c).take ((s.segmentOp c).nat (chanKey c 6))).length ≤ (s.segmentOp c).totalOf c y) :
    storeCommand path c s = ((s.segmentOp c).setChan c (some { y with
      total := (s.segmentOp c).totalOf c y
      got := y.got ++ ((s.segmentOp c).area c).take ((s.segmentOp c).nat (chanKey c 6)) }), .done) := by
  unfold storeCommand
  rw [onTransfer_own _ hchan hpath]
  simp only [hup, Bool.false_eq_true, if_false, storeSegment_next hentry hoff hfits]

theorem endCommand_complete {u t : State} {e : Entry} (hup : y.upload = false) (hentry : y.entry ≠ imageKey)
    (hwhole : (s.segmentOp c).totalOf c y = y.got.length) (hu : u = (s.segmentOp c).freeChan c 0)
    (he : entryOf y.entry = some e) (hcheck : u.writeCheck y.entry 0 true = none)
    (hwrite : contentWrite e y.entry y.got u = (t, .done)) :
    endCommand path c s = (t.endGrant path y.entry .done, .done) := by
  unfold endCommand
  rw [onTransfer_own _ hchan hpath]
  simp only [endDownload_complete hup hentry hwhole hu he hcheck hwrite]

theorem abortCommand_own : abortCommand path c s = ((s.segmentOp c).abortChan c y, .done) := by
  unfold abortCommand
  rw [onTransfer_own _ hchan hpath]

end

/-! ### Timeouts (R362, R367) -/

section
variable {s : State}

theorem execChannelIdleTimeout_open {c : ChanNo} {y : Chan} (hdue : s.expired (.channelIdleTimeout c) = true)
    (hchan : s.chan c = some y) :
    exec (.channelIdleTimeout c) s = .next (State.settleAll
      (((s.begin.expire (.channelIdleTimeout c)).abortChan c y).frameError y.path 8 (y.entry / 256) (y.entry % 256) y.eid
        0xFFFF)) := by
  have hchan' : s.begin.chan c = some y := hchan
  show execChannelIdleTimeout c s = _
  simp only [execChannelIdleTimeout, expired_begin, hdue, hchan', Bool.not_true, Bool.false_eq_true, if_false]

theorem execDrainTimeout_due {w : Drain} (hdue : s.expired .drainTimeout = true) (hdrain : s.drain = some w) :
    exec .drainTimeout s = .next ((s.begin.expire .drainTimeout).dropDrain w).settleAll := by
  show execDrainTimeout s = _
  simp only [execDrainTimeout, expired_begin, hdue, State.begin_drain, hdrain, Bool.not_true, Bool.false_eq_true, if_false]

end

/-- Settles O20: a command's write is taken, and its body finds the channel in the state that it asks for. -/
theorem channelCommandsMoveContents : Obligations.ChannelCommandsMoveContents := by
  unfold Obligations.ChannelCommandsMoveContents
  refine ⟨?opens, ?fetch, ?store, ?ends, ?abort, ?idle, ?drain⟩
  case opens =>
    rintro s x c v k rfl htakes rfl hfree hdir hopen
    exact next_granted_takes htakes (openByWrite_free 0xFF 0 hfree hdir hopen)
  case fetch =>
    rintro s x u c y rfl htakes hchan hpath hup hlive rfl hoff
    exact next_granted_takes htakes (fetchCommand_copied hchan hpath hup hlive hoff)
  case store =>
    rintro s x u c y rfl htakes hchan hpath hup rfl hentry hoff hfits
    exact next_granted_takes htakes (storeCommand_next hchan hpath hup hentry hoff hfits)
  case ends =>
    rintro s x u t c y e rfl htakes hchan hpath hup hentry hwhole hu he hcheck hwrite
    exact next_granted_takes htakes (endCommand_complete hchan hpath hup hentry hwhole hu he hcheck hwrite)
  case abort =>
    rintro s x c y rfl htakes hchan hpath
    exact next_granted_takes htakes (abortCommand_own hchan hpath)
  case idle => exact fun s c y hdue hchan => execChannelIdleTimeout_open hdue hchan
  case drain => exact fun s w hdue hdrain => execDrainTimeout_due hdue hdrain

/-! ### Transfers over the protocol (R358 to R361) -/

section
variable {s : State} {h : AdpHead} {c : ChanNo} (ht : s.TakesRequest h)
include ht

theorem execAdpUploadInit_free (hopen : (s.counted h.path).openRefused (headKey h) true = none)
    (hfree : (s.counted h.path).freeChannel = some c) :
    exec (.adpUploadInit h) s = .next (State.settleAll
      (((s.counted h.path).openChan c h.path (headEid h) (headRank h) (headKey h) true 0).reply h 0x10 0 0 0
        (le 4 (((s.counted h.path).openChan c h.path (headEid h) (headRank h) (headKey h) true 0).nat (chanKey c 3)) ++
          le 4 c.val))) := by
  have hclaim := claim_free 0 hopen hfree
  show execAdpUploadInit h s = _
  unfold execAdpUploadInit
  rw [adpIn_takes s h _ ht]
  unfold State.counted at hclaim ⊢
  simp only [hclaim, if_true]

theorem execAdpDownloadInit_free (total : BitVec 32) (hopen : (s.counted h.path).openRefused (headKey h) false = none)
    (hfree : (s.counted h.path).freeChannel = some c) :
    exec (.adpDownloadInit h total) s = .next (State.settleAll
      (((s.counted h.path).openChan c h.path (headEid h) (headRank h) (headKey h) false total.toNat).reply h 0x12 0 0 0
        (le 4 c.val))) := by
  have hclaim := claim_free total.toNat hopen hfree
  show execAdpDownloadInit h total s = _
  unfold execAdpDownloadInit
  rw [adpIn_takes s h _ ht]
  unfold State.counted at hclaim ⊢
  simp only [hclaim, if_true]

section
variable {off : BitVec 32} {y : Chan}

theorem execAdpUploadSegment_copied (n : BitVec 16) (hbusy : (s.counted h.path).segmentBusy h true = false)
    (hchan : (s.counted h.path).transferOf h true = some (c, y)) (hlive : y.live = false) (hoff : off.toNat < y.total) :
    exec (.adpUploadSegment h off n) s = .next (State.settleAll
      (((s.counted h.path).segmentOp c).reply h 0x11 0 0 off.toNat ((y.snapshot.drop off.toNat).take (min 1024 n.toNat)))) := by
  show execAdpUploadSegment h off n s = _
  unfold execAdpUploadSegment
  rw [adpIn_takes s h _ ht]
  unfold State.counted at hbusy hchan ⊢
  simp only [hbusy, hchan, fetchSegment_copied hlive hoff, Bool.false_eq_true, if_false]
  rfl

theorem execAdpDownloadSegment_next {b : Bytes} (hbusy : (s.counted h.path).segmentBusy h false = false)
    (hchan : (s.counted h.path).transferOf h false = some (c, y)) (hentry : y.entry ≠ imageKey)
    (hoff : off.toNat = y.got.length)
    (hfits : off.toNat + b.length ≤ ((s.counted h.path).segmentOp c).totalOf c y) :
    exec (.adpDownloadSegment h off b) s = .next (State.settleAll
      ((((s.counted h.path).segmentOp c).setChan c
        (some { y with total := ((s.counted h.path).segmentOp c).totalOf c y, got := y.got ++ b })).reply h 0x13 0 0 off.toNat
          [])) := by
  have hstore := storeSegment_next (c := c) hentry hoff hfits
  show execAdpDownloadSegment h off b s = _
  unfold execAdpDownloadSegment
  rw [adpIn_takes s h _ ht]
  unfold State.counted at hbusy hchan hstore ⊢
  simp only [hbusy, hchan, hstore, Bool.false_eq_true, if_false]
  rfl

theorem execAdpDownloadEnd_complete {u t : State} {e : Entry} (hbusy : (s.counted h.path).segmentBusy h false = false)
    (hchan : (s.counted h.path).transferOf h false = some (c, y)) (hup : y.upload = false) (hnamed : y.entry = headKey h)
    (hentry : y.entry ≠ imageKey) (hwhole : ((s.counted h.path).segmentOp c).totalOf c y = y.got.length)
    (hu : u = ((s.counted h.path).segmentOp c).freeChan c 0) (he : entryOf y.entry = some e)
    (hcheck : u.writeCheck y.entry 0 true = none) (hwrite : contentWrite e y.entry y.got u = (t, .done)) :
    exec (.adpDownloadEnd h) s =
      .next ((t.endGrant h.path y.entry .done).replyWrite h 0x14 [y.entry]).settleAll := by
  have hend := endDownload_complete (path := h.path) hup hentry hwhole hu he hcheck hwrite
  show execAdpDownloadEnd h s = _
  unfold execAdpDownloadEnd
  rw [adpIn_takes s h _ ht]
  unfold State.counted at hbusy hchan hend
  simp only [hbusy, hchan, hend, Bool.false_eq_true, if_false, if_true, hnamed]

theorem execAdpAbort_own {n : Byte} (hduty : (s.counted h.path).dutyRuns 0 = true) (hn : n.toNat = c.val)
    (hchan : (s.counted h.path).chan c = some y) (hpath : y.path = h.path) :
    exec (.adpAbort h n) s =
      .next ((((s.counted h.path).segmentOp c).abortChan c y).replyEnd h 0x1F .done).settleAll := by
  have habort := abortCommand_own hchan hpath
  show execAdpAbort h n s = _
  unfold execAdpAbort
  rw [adpIn_takes s h _ ht]
  unfold State.counted at hduty habort ⊢
  simp only [hduty, hn, c.isLt, dif_pos, Fin.eta, habort, Bool.not_true, Bool.false_eq_true, if_false]

end

end

/-- Settles O19: a request that is taken finds a free channel or its own, in the state that its step of the transfer asks for. -/
theorem segmentedTransfersMove : Obligations.SegmentedTransfersMove := by
  unfold Obligations.SegmentedTransfersMove
  refine ⟨?upload, ?download, ?fetch, ?store, ?ends, ?abort⟩
  case upload =>
    rintro s x u h c ht rfl hopen hfree rfl
    exact execAdpUploadInit_free ht hopen hfree
  case download =>
    rintro s x h total c ht rfl hopen hfree
    exact execAdpDownloadInit_free ht total hopen hfree
  case fetch =>
    rintro s x h off n c y ht rfl hbusy hchan hlive hoff
    exact execAdpUploadSegment_copied ht n hbusy hchan hlive hoff
  case store =>
    rintro s x u h off b c y ht rfl hbusy hchan rfl hentry hoff hfits
    exact execAdpDownloadSegment_next ht hbusy hchan hentry hoff hfits
  case ends =>
    rintro s x u t h c y e ht rfl hbusy hchan hup hnamed hentry hwhole hu he hcheck hwrite
    exact execAdpDownloadEnd_complete ht hbusy hchan hup hnamed hentry hwhole hu he hcheck hwrite
  case abort =>
    rintro s x h n c y ht rfl hduty hn hchan hpath
    exact execAdpAbort_own ht hduty hn hchan hpath

end Sys2Proof.Machine
end

section
/-! MCTP control (R354, R355): what is answered over PCIe and over I3C. -/

namespace Sys2Proof.Machine

section
variable {s : State}

/-- The notification that a response can be read (R355). -/
def pendingRead : Ibi := { cls := 0, src := 0, inst := 0, num := 0, mctp := true }

/-- A served binding answers: over PCIe with a message alone. -/
theorem control_pcie {payload : Bytes} (hserved : s.controlServed .pcie = true) :
    s.control .pcie payload = { s with out := [.mctp .pcie payload] } := by
  have hserved' : s.begin.controlServed .pcie = true := hserved
  unfold State.control
  rw [if_pos hserved']
  rfl

/-- Over I3C the answer is announced. -/
theorem sendControl_i3c (payload : Bytes) (hfits : s.i3cServes = true) :
    s.sendControl .i3c payload = (s.send (.mctp .i3c payload)).signalIbi pendingRead := if_pos hfits

theorem control_i3c {payload : Bytes} (hserved : s.controlServed .i3c = true) (hfits : s.i3cServes = true) :
    s.control .i3c payload = (s.begin.send (.mctp .i3c payload)).signalIbi pendingRead := by
  have hserved' : s.begin.controlServed .i3c = true := hserved
  have hfits' : s.begin.i3cServes = true := hfits
  unfold State.control
  rw [if_pos hserved']
  exact sendControl_i3c payload hfits'

/-! ### The endpoint ID -/

/-- 0 and 0xFF are no endpoint IDs. -/
theorem execSetEndpointId_invalid {b : Binding} {e : Byte} (hserved : s.controlServed b = true) (he : e = 0 ∨ e = 0xFF) :
    exec (.setEndpointId b e) s = .next (s.begin.sendControl b [2]) := by
  have hserved' : s.begin.controlServed b = true := hserved
  exact (if_neg (by simp [hserved'])).trans (if_pos he)

theorem execSetEndpointId_valid {b : Binding} {e : Byte} (hserved : s.controlServed b = true) (h0 : e ≠ 0) (hff : e ≠ 0xFF) :
    exec (.setEndpointId b e) s = .next ((s.begin.putN (eidKey b) e.toNat).sendControl b [0, 0, e, 0]) := by
  have hserved' : s.begin.controlServed b = true := hserved
  exact (if_neg (by simp [hserved'])).trans (if_neg (fun h => h.elim h0 hff))

/-- The endpoint ID of the PCIe binding is stored and answered. -/
def State.takesEid (s : State) (e : Byte) : State :=
  (s.begin.putN (key 0x1000 0xA) e.toNat).sendControl .pcie [0, 0, e, 0]

theorem takesEid_frame (s : State) (e : Byte) :
    s.takesEid e = { s with out := [.mctp .pcie [0, 0, e, 0]], dict := (s.takesEid e).dict } := rfl

theorem nat_takesEid (s : State) (e : Byte) : (s.takesEid e).nat (key 0x1000 0xA) = e.toNat :=
  (nat_putN_same s (key 0x1000 0xA) e.toNat).trans (Nat.mod_eq_of_lt (by omega))

theorem keepsBut_takesEid (s : State) (e : Byte) : s.KeepsBut (s.takesEid e) [key 0x1000 0xA] :=
  keepsBut_putN s (key 0x1000 0xA) e.toNat

end

/-- Settles O22: every request but SET_ENDPOINT_ID answers what it reads; that one stores a valid ID first. -/
theorem mctpControlRequestsAreAnswered : Obligations.MctpControlRequestsAreAnswered := by
  unfold Obligations.MctpControlRequestsAreAnswered
  refine ⟨fun s hserved => ⟨?valid, ?invalid, ?eid, ?uuid, ?version, ?types, ?vendor⟩,
    fun s hserved hfits => ⟨?validI3c, ?eidI3c, ?typesI3c⟩⟩
  case valid =>
    exact fun e h0 hff => ⟨s.takesEid e, execSetEndpointId_valid hserved h0 hff, takesEid_frame s e, nat_takesEid s e,
      keepsBut_takesEid s e⟩
  case invalid => exact fun e he => execSetEndpointId_invalid hserved he
  case eid => exact congrArg Host.Outcome.next (control_pcie hserved)
  case uuid => exact congrArg Host.Outcome.next (control_pcie hserved)
  case version =>
    exact fun y => ⟨(Config.freeWord s.free).toNat,
      congrArg Host.Outcome.next (control_pcie (s := { s with free := s.free + 1 }) hserved)⟩
  case types => exact congrArg Host.Outcome.next (control_pcie hserved)
  case vendor => exact fun n => congrArg Host.Outcome.next (control_pcie hserved)
  case validI3c =>
    intro e h0 hff
    have hfits' : (s.begin.putN (key 0x1000 0xB) e.toNat).i3cServes = true := hfits
    exact (execSetEndpointId_valid hserved h0 hff).trans (congrArg Host.Outcome.next (sendControl_i3c _ hfits'))
  case eidI3c => exact congrArg Host.Outcome.next (control_i3c hserved hfits)
  case typesI3c => exact congrArg Host.Outcome.next (control_i3c hserved hfits)

end Sys2Proof.Machine
end
